-- ==== Sys2Proof/Word.lean ====
section
/-!
DEFINITION. The word types of the Broddan C512 (R8, R9, R309) and nothing else: numbers the manual treats as
bits are bit vectors, counts and times are natural numbers.
-/
namespace Sys2Proof

abbrev Byte := BitVec 8
abbrev Word16 := BitVec 16
abbrev Word := BitVec 32
abbrev Word64 := BitVec 64
/-- An 80-bit accumulator of a lane (R311). -/
abbrev Acc := BitVec 80

end Sys2Proof
end

