-- ==== Sys2Proof/Syntax.lean ====
section
/-!
DEFINITION. The commands of the Broddan C512: one constructor of `Instr` for each row of the spec's table of
operations and events, with the operands the row's rule gives it. A host command's operand `h` says which
command of which ring takes effect; an event's operands say what was measured or received. Offsets `t` are
nanoseconds from T0 of the current tick (R11).
-/
namespace Sys2Proof

/-! ### Small operand types -/

/-- The eight supply rails of Table 18.1 (R491). -/
inductive Rail where
  | core | sram | safeM | safeW | serdes | pll | io18 | io33
  deriving DecidableEq, Repr

/-- Channel A or B: of a Selide trunk (R253), or of a safety input, whose channel A is Madder's (R225). -/
inductive Chan where
  | A | B
  deriving DecidableEq, Repr

/-- The two safety islands and their engines (R210). -/
inductive Island where
  | madder | woad
  deriving DecidableEq, Repr

/-- One strap sample against V_IL and V_IH (R498). -/
inductive StrapLevel where
  | low | high | mid
  deriving DecidableEq, Repr

/-- The two samples of one strap-sensed pin, at 20 µs and 45 µs (R498). -/
structure StrapSample where
  at20 : StrapLevel
  at45 : StrapLevel
  deriving DecidableEq, Repr

/-- What ended the PCI Express function's session (R425). -/
inductive HostResetCause where
  | functionLevel | hotReset | linkDown
  deriving DecidableEq, Repr

/-- Which command: its ring, its TAG and its object reference (Table 14.11, Table 1.3). -/
structure Hdr where
  ring : Fin 4
  tag  : Word64
  obj  : Word
  deriving DecidableEq, Repr

/-- What the self-test found (Table 18.7) and the path-delay margins it measured, 0.1 % of the period (R505). -/
structure BistIn where
  supPass : Fin 4
  lanePass : BitVec 17
  madder : Bool
  woad : Bool
  solver : Bool
  memory : Bool
  durationMs : Nat
  margins : List Nat
  deriving DecidableEq, Repr

/-- The argument block of MOVE, Table 4.2 (R91). -/
structure MoveArgs where
  segId : Word
  flags : Word
  vStart : Word
  vStop : Word
  targets : List Int
  deriving DecidableEq, Repr

/-- The argument block of SWEEP, Table 10.14 (R331). -/
structure SweepArgs where
  fStart : Word
  fEnd : Word
  ampl : Word16
  decim : Word16
  duration : Word
  winOffset : Word
  winLength : Word
  deriving DecidableEq, Repr

/-- The argument block of CAN_SEND, Table 13.4 (R383). -/
structure CanMsg where
  tag : Word
  id : Word
  flags : Byte
  dlc : Byte
  data : List Byte
  deriving DecidableEq, Repr

/-- A frame received on a CAN bus (R389). -/
structure CanFrame where
  id : BitVec 29
  ide : Bool
  rtr : Bool
  fdf : Bool
  brs : Bool
  esi : Bool
  dlc : Fin 16
  data : List Byte
  deriving DecidableEq, Repr

/-- How one transmit attempt ended (R385, R395, R396). -/
inductive TxResult where
  | sent | lostArbitration
  | ackError (dominantSeen : Bool)
  | bitErrorAfterArbitration
  | stuffErrorInArbitration       -- a recessive stuff bit of the identifier field read dominant
  | otherError
  deriving DecidableEq, Repr

/-- What is measured of a transmit attempt: the transmitter delay, where there was one (R377), and the units of eight that ISO
11898-1 adds to an error counter behind its error flag (R393). -/
structure TxMeasure where
  loopDelay : Option Nat
  flagErrors : Nat
  deriving DecidableEq, Repr

/-- What a controller meets in a frame that it receives (R374, R393). -/
inductive RxError where
  | error (primary : Bool)        -- `primary` if the first bit after its error flag is dominant
  | recessiveRes                  -- a recessive res bit in an FD frame
  deriving DecidableEq, Repr

/-- An error in a frame being received, and the units of eight that ISO 11898-1 adds behind its error flag (R393). -/
structure RxFault where
  error : RxError
  flagErrors : Nat
  deriving DecidableEq, Repr

/-- What woke a sleeping controller (R392). -/
inductive CanWakeCause where
  | frame (f : CanFrame)
  | edge (ns : Nat)
  deriving DecidableEq, Repr

/-- The 12-byte header of a Selide frame, Table 9.1 (R257). -/
structure FrameHdr where
  ftype : Byte
  node : Byte
  slot : Byte
  ctrl : Byte
  length : Word16
  cycLo : Word16
  genLo : Word16
  reserved : Word16
  deriving DecidableEq, Repr

/-- The 16-byte safety sub-frame, Table 9.6 (R270). -/
structure SubFrame where
  seq : Word16
  cstamp : Word16
  sdata : Word
  crcM : Word
  crcW : Word
  deriving DecidableEq, Repr

/-- A Selide frame as it arrives: header, payload, sub-frame when CTRL.SUB is 1, frame CRC (R257). -/
structure Frame where
  hdr : FrameHdr
  payload : List Byte
  sub : Option SubFrame
  crc : Word
  deriving DecidableEq, Repr

/-- A frame that another master has sent, and when it came, against this device's own T0 in nanoseconds (R288). -/
structure HeardFrame where
  frame : Frame
  arrival : Int
  deriving DecidableEq, Repr

/-- A sample of a port's lines A and B at offset `t` of the tick: for how many samples each has shown its level by then (R120). -/
structure LineSample where
  runA : Nat
  runB : Nat
  t : Nat
  deriving DecidableEq, Repr

/-- A sample of a port's Z at offset `t` of the tick: for how many samples it has shown its active level by then (R120). -/
structure IndexSample where
  run : Nat
  t : Nat
  deriving DecidableEq, Repr

/-- The identity fields of a received CYCLE_START frame (Table 9.3) that R277, R288 and R289 read. -/
structure CycleStart where
  cycle : Word
  t0Ns : Word
  t0Sec : BitVec 48
  cflags : Word16
  gen : Word
  prio : Word16
  joinStart : Word16
  serial : Word64
  acc : Word16
  corr : Word16                   -- CORR of the receiver's chain position, signed
  mute : Word16                   -- MUTE, bit p for position p
  deriving DecidableEq, Repr

/-- A CAPREL record of the cell link, Table 9.11 (R290). -/
structure CapRel where
  cap : Word16
  p1 : Int × Int × Int
  p2 : Int × Int × Int
  uStop : Word
  uKappa : Word
  ssStop : Word
  ssKappa : Word
  uMax : Word
  stopDemand : Bool
  deriving DecidableEq, Repr

/-- A GSTAT record, Table 9.11 (R290). -/
structure GStat where
  group : Word16
  state : Byte
  flags : Byte
  first : Word16
  deriving DecidableEq, Repr

/-- A device time value: seconds and nanoseconds since the TAI epoch (R366). -/
structure DevTime where
  sec : Nat
  ns : Nat
  deriving DecidableEq, Repr

/-- PTP transport of a message (Table 12.1, R357). -/
inductive Transport where
  | l2 | udp4 | udp6
  deriving DecidableEq, Repr

/-- The header fields of a PTP message that R354 to R359 read. -/
structure PtpHdr where
  port : Fin 2
  domain : Byte
  transport : Transport
  vid : Nat
  pcp : Fin 8                     -- of its VLAN tag; without one, `vid` is 0
  source : Nat
  seq : Word16
  twoStep : Bool
  correction : Int
  deriving DecidableEq, Repr

/-- The data-set fields of an Announce (R359, R360, R367, R368). -/
structure Announce where
  priority1 : Byte
  clockClass : Byte
  accuracy : Byte
  variance : Word16
  priority2 : Byte
  grandmaster : Nat
  stepsRemoved : Word16
  utcOffset : Int
  utcValid : Bool
  leap61 : Bool
  leap59 : Bool
  receiptTimeout : Nat
  logInterval : Int
  deriving DecidableEq, Repr

/-- A PTP event message's time in the bridge, in nanoseconds, and the offset in the tick at which it has left (R356, R450). -/
structure Transit where
  residence : Nat
  t : Nat
  deriving DecidableEq, Repr

/-- PTP event message kinds that cross the bridge (R356). -/
inductive PtpEventKind where
  | sync | delayReq | pdelayReq | pdelayResp
  deriving DecidableEq, Repr

/-- The frame fields the bridge reads (R353). -/
structure EthFrame where
  dst : BitVec 48
  src : BitVec 48
  tagged : Bool
  vid : Nat
  pcp : Fin 8
  deriving DecidableEq, Repr

/-- Items of the islands' cross-comparison, Table 8.8 (R237). -/
inductive CcItem where
  | inputs | zones | ss1 | lambda | crc | crystal | pin
  deriving DecidableEq, Repr

/-- What one channel's raw samples showed in a test pulse, from start + DELAY to its end (R232). -/
structure PulseObs where
  input : Fin 32
  chan : Chan
  anyHigh : Bool
  allLow : Bool
  deriving DecidableEq, Repr

/-- Causes of a lane pair's failure (R332). -/
inductive LaneCause where
  | lockstep | ecc | firmwareFault | hang | selfTest
  deriving DecidableEq, Repr

/-- The memories of Table 17.2, with what an uncorrectable error in each concerns (R479, R490). -/
inductive MemKind where
  | supervisor
  | lane (pair : Fin 17)
  | madder | woad
  | solverPool (handle : Fin 4)
  | solverWarm
  | recorder
  | windowStatus | windowOther
  | selide (node : Fin 64)
  deriving DecidableEq, Repr

/-- Causes of a supervisor loss (R470). -/
inductive SupLossCause where
  | mismatchNoStandby | unprotectedFault | heartbeatStall
  deriving DecidableEq, Repr

/-- Background tasks, Table 2.8 (R56). -/
inductive BgTask where
  | scrub | calibration | ageing | engineSelfTest | telemetry
  deriving DecidableEq, Repr

/-- Why a channel was lost (R285). -/
inductive ChanLossCause where
  | symbolLock | missingFrames
  deriving DecidableEq, Repr

/-- The sensor readings a telemetry record carries (Table 14.9), in the units of that table. -/
structure TelemetryIn where
  tjMax : Int
  tjMin : Int
  power : Nat
  iCore : Nat
  tempNow : Int
  powerNow : Nat
  deriving DecidableEq, Repr

/-- The data bits of an SSI transfer as sampled, and the line levels R128 checks. -/
structure SsiWord where
  bits : BitVec 48
  idleHighAtT0 : Bool
  highAfterTimeout : Bool
  deriving DecidableEq, Repr

/-- An Ochre response as the line shows it: where its sync starts, in ns after T0, the bit time in ps, and the level of
pair C in each half bit time from there on (R130, R132, R133). -/
structure OchreResp where
  start : Nat
  bitPs : Nat
  line : List Bool
  deriving DecidableEq, Repr

/-- Calibrated SerDes ports and PLLs (Table 2.8, R55). -/
inductive CalUnit where
  | selide (trunk : Fin 4) (chan : Chan)
  | eth (port : Fin 2)
  | pcie
  | pll
  deriving DecidableEq, Repr

/-- Instructions of the test access port (R521). -/
inductive TapInstr where
  | bypass | idcode | extest | sample | other (code : Nat)
  deriving DecidableEq, Repr

/-! ### Operands of lane instructions (Tables 11.1 to 11.5) -/

/-- Addressing modes of Table 11.2a (R341). In `postConst`, K is the field as encoded. -/
inductive DescMode where
  | plain
  | postMod (m : Fin 8)
  | postConst (k : Fin 8)
  | offset (k : Fin 8)
  deriving DecidableEq, Repr

/-- A memory descriptor: pointer and addressing mode (Table 11.2). -/
structure Desc where
  ptr : Fin 8
  mode : DescMode
  deriving DecidableEq, Repr

/-- A multiplicand of the MAC formats: a d register or a memory operand (R341). -/
inductive MOperand where
  | reg (r : Fin 16)
  | mem (d : Desc)
  deriving DecidableEq, Repr

/-- The four forms that NEG and CLR give (Table 11.3). -/
inductive MacKind where
  | mac | msu | mpy | mpyn
  deriving DecidableEq, Repr

/-- The immediate of an ALUI (16-bit) or ALUIL (32-bit, two parcels) instruction (R344). -/
inductive LImm where
  | short (v : Word16)
  | long (v : Word)
  deriving DecidableEq, Repr

/-- Control registers, Table 11.3a (R345). -/
inductive CtrlReg where
  | p (i : Fin 8)
  | m (i : Fin 8)
  | b (i : Fin 8)
  | l (i : Fin 8)
  | lc | mode | flags | bexp
  deriving DecidableEq, Repr

/-- Condition codes, Table 11.5 (R347). -/
inductive Cond where
  | always | eq | ne | lt | ge | gt | le | mi | pl | vs | vc | cs | cc
  deriving DecidableEq, Repr

/-! ### The commands -/

/-- One constructor for each row of the table of operations and events. -/
inductive Instr where
  -- power, reset, boot (R410 to R413, R464, R491 to R505)
  | railValid (r : Rail)
  | railInvalid (r : Rail) (ns : Nat)
  | porstNLow (ns : Nat)
  | internalResetRelease
  | strapSense (samples : List StrapSample)
  | romReady
  | loadFw
  | fwRunning
  | burnCustKey
  | burnVendorDisable
  | fuseWriteDone (readBackOk : Bool)
  | bistDone (r : BistIn)
  | refclkLoss
  -- host registers, window and rings (R391, R403 to R405, R415 to R425)
  | hostReset (cause : HostResetCause)
  | cmdTailWrite (ring : Fin 4) (value : Word)
  | commandAccept
  | cplHeadWrite (ring : Fin 4) (value : Word)
  | completionWrite (ring : Fin 4)
  | irqCoalHoldoff (ring : Fin 4)
  | ringEnable (ring : Fin 4) (value : Word)
  | ringReset (ring : Fin 4) (value : Word)
  | irqStatusClear (mask : Word)
  | timeNsRead
  | registerWrite (offset : Nat) (value : Word)
  | hostWindowWrite (offset : Nat) (data : List Byte)
  | canRxRdWrite (can : Fin 4) (value : Word)
  -- host commands taking effect (Table 15.5)
  | identify (h : Hdr)
  | linkStatus (h : Hdr)
  | paramWrite (h : Hdr) (number : Word16) (value : Word64)
  | paramRead (h : Hdr) (number : Word16) (staged : Bool)
  | paramInfo (h : Hdr) (number : Word16)
  | deviceRun (h : Hdr)
  | selideStart (h : Hdr)
  | firstSelideTick
  | bringupTimeout
  | bringupComplete
  | nodeUnmute (h : Hdr)
  | nodeWake (h : Hdr)
  | nodeSleep (h : Hdr)
  | nodeSend (h : Hdr) (winOffset : Word) (length : Word16)
  | timeSet (h : Hdr) (sec : Word64) (ns : Word)
  | safeArm (h : Hdr) (crc : Word)
  | safeArmGroup (h : Hdr) (crc : Word)
  | safeDisarm (h : Hdr)
  | safeReset (h : Hdr)
  | safeStop (h : Hdr) (mode : Word)
  | safeSls (h : Hdr) (on : Word)
  | move (h : Hdr) (a : MoveArgs)
  | halt (h : Hdr)
  | home (h : Hdr)
  | align (h : Hdr)
  | axisEnable (h : Hdr)
  | axisDisable (h : Hdr)
  | faultReset (h : Hdr)
  | cmpLoad (h : Hdr) (winOffset : Word) (count : Word16)
  | sweep (h : Hdr) (a : SweepArgs)
  | sweepEnd (axis : Nat)
  | imageLoad (h : Hdr) (winOffset length : Word)
  | structLoad (h : Hdr) (winOffset length : Word)
  | structLoaded
  | structDrop (h : Hdr)
  | solverSelect (h : Hdr) (generation : Word)
  | solverUpdate (h : Hdr) (generation count winOffset : Word)
  | canMode (h : Hdr) (mode : Word)
  | canModeApply (can : Fin 4)
  | canSend (h : Hdr) (m : CanMsg)
  | canCancel (h : Hdr) (tag : Word)
  | canAbd (h : Hdr) (thenMode : Word)
  | canAbdDone (can : Fin 4)
  | canAbdDwell (can : Fin 4)
  | canAbdFail (can : Fin 4)
  | canRecover (h : Hdr)
  | groupAdd (h : Hdr)
  | groupRemove (h : Hdr)
  | axisMigrate (h : Hdr) (lane : Byte)
  | groupHalfRate (h : Hdr) (on : Word)
  | recRead (h : Hdr) (fromSeq : Word64) (winOffset : Word) (count : Word16)
  | recReadDone
  | abort (h : Hdr) (targetTag : Word64) (targetRing : Byte)
  -- lane instructions (Table 11.3); `p` is the pair, `s` the S bit of R312
  | add (p : Fin 17) (s : Bool) (rd rs rt : Fin 16)
  | sub (p : Fin 17) (s : Bool) (rd rs rt : Fin 16)
  | and (p : Fin 17) (rd rs rt : Fin 16)
  | or (p : Fin 17) (rd rs rt : Fin 16)
  | xor (p : Fin 17) (rd rs rt : Fin 16)
  | min (p : Fin 17) (rd rs rt : Fin 16)
  | max (p : Fin 17) (rd rs rt : Fin 16)
  | abs (p : Fin 17) (s : Bool) (rd rs : Fin 16)
  | neg (p : Fin 17) (s : Bool) (rd rs : Fin 16)
  | ash (p : Fin 17) (s : Bool) (rd rs rt : Fin 16)
  | lsh (p : Fin 17) (rd rs rt : Fin 16)
  | cmp (p : Fin 17) (rs rt : Fin 16)
  | tst (p : Fin 17) (rs rt : Fin 16)
  | mov (p : Fin 17) (rd rs : Fin 16)
  | clip (p : Fin 17) (rd rs rt : Fin 16)
  | mpyr (p : Fin 17) (s : Bool) (rd rs rt : Fin 16)
  | add64 (p : Fin 17) (s : Bool) (rd rs rt : Fin 16)
  | sub64 (p : Fin 17) (s : Bool) (rd rs rt : Fin 16)
  | addi (p : Fin 17) (s : Bool) (rd rs : Fin 16) (imm : LImm)
  | andi (p : Fin 17) (rd rs : Fin 16) (imm : LImm)
  | ori (p : Fin 17) (rd rs : Fin 16) (imm : LImm)
  | xori (p : Fin 17) (rd rs : Fin 16) (imm : LImm)
  | cmpi (p : Fin 17) (rs : Fin 16) (imm : LImm)
  | ldi (p : Fin 17) (rd : Fin 16) (imm : LImm)
  | ashi (p : Fin 17) (s : Bool) (rd rs : Fin 16) (n : Word16)
  | lshi (p : Fin 17) (rd rs : Fin 16) (n : Word16)
  | mac (p : Fin 17) (s : Bool) (an : Fin 4) (x y : MOperand)
  | msu (p : Fin 17) (s : Bool) (an : Fin 4) (x y : MOperand)
  | mpy (p : Fin 17) (s : Bool) (an : Fin 4) (x y : MOperand)
  | mpyn (p : Fin 17) (s : Bool) (an : Fin 4) (x y : MOperand)
  | cmac (p : Fin 17) (s : Bool) (an : Fin 4) (x y : MOperand)
  | cmsu (p : Fin 17) (s : Bool) (an : Fin 4) (x y : MOperand)
  | cmpy (p : Fin 17) (s : Bool) (an : Fin 4) (x y : MOperand)
  | cmpyn (p : Fin 17) (s : Bool) (an : Fin 4) (x y : MOperand)
  | cmacc (p : Fin 17) (s : Bool) (an : Fin 4) (x y : MOperand)
  | cmsuc (p : Fin 17) (s : Bool) (an : Fin 4) (x y : MOperand)
  | cmpyc (p : Fin 17) (s : Bool) (an : Fin 4) (x y : MOperand)
  | cmpync (p : Fin 17) (s : Bool) (an : Fin 4) (x y : MOperand)
  | dualMac (p : Fin 17) (s : Bool) (k1 : MacKind) (a1 : Fin 4) (x1 y1 : MOperand)
      (k2 : MacKind) (a2 : Fin 4) (x2 y2 : MOperand)
  | mvad (p : Fin 17) (s : Bool) (d : Fin 16) (an : Fin 4)
  | mvad64 (p : Fin 17) (s : Bool) (d : Fin 16) (an : Fin 4)
  | mvda (p : Fin 17) (an : Fin 4) (d : Fin 16)
  | clra (p : Fin 17) (an : Fin 4)
  | adda (p : Fin 17) (s : Bool) (an am : Fin 4)
  | suba (p : Fin 17) (s : Bool) (an am : Fin 4)
  | mvaa (p : Fin 17) (an am : Fin 4)
  | nega (p : Fin 17) (s : Bool) (an : Fin 4)
  | absa (p : Fin 17) (s : Bool) (an : Fin 4)
  | sha (p : Fin 17) (s : Bool) (an : Fin 4) (n : BitVec 6)
  | rnda (p : Fin 17) (s : Bool) (an : Fin 4)
  | ld (p : Fin 17) (d : Fin 16) (desc : Desc)
  | st (p : Fin 17) (d : Fin 16) (desc : Desc)
  | ld64 (p : Fin 17) (d : Fin 16) (desc : Desc)
  | st64 (p : Fin 17) (d : Fin 16) (desc : Desc)
  | pld (p : Fin 17) (d1 : Fin 16) (desc1 : Desc) (d2 : Fin 16) (desc2 : Desc)
  | mvc (p : Fin 17) (cr : CtrlReg) (d : Fin 16)
  | mvd (p : Fin 17) (d : Fin 16) (cr : CtrlReg)
  | ldc (p : Fin 17) (cr : CtrlReg) (imm : Word16)
  | ldcy (p : Fin 17) (ptr : Fin 8) (imm : Word16)
  | ldcp (p : Fin 17) (ptr : Fin 8) (imm : Word16)
  | modp (p : Fin 17) (ptr m : Fin 8)
  | modi (p : Fin 17) (ptr : Fin 8) (imm : Word16)
  | br (p : Fin 17) (c : Cond) (target : Word16)
  | call (p : Fin 17) (c : Cond) (target : Word16)
  | ret (p : Fin 17) (c : Cond)
  | rpt (p : Fin 17) (n : BitVec 11)
  | wait (p : Fin 17)
  | nop (p : Fin 17)
  | undefinedInstruction (p : Fin 17)
  -- the tick (R41 to R56, R136, R284, R318, R327)
  | tickEdge
  | intake
  | encFault (axis : Nat)
  | nodeStale (node : Fin 64)
  | laneEventPass (lane : Fin 17) (pass : Fin 2) (slots : Nat) (finish : Nat)
  | plausFault (axis : Nat)
  | userBudget (axis : Nat) (cycles : Nat)
  | laneEventDeadline (lane : Fin 17)
  | laneEventSlack (lane : Fin 17)
  | deadlineLatch
  | laneDegraded (lane : Fin 17)
  | degradedExpired (lane : Fin 17)
  | downstreamWindow
  | shadowCutoff
  | backgroundLate (task : BgTask) (overdueMs : Nat)
  | telemetryWrite (r : TelemetryIn)
  -- separation engines (R44, R155, R160, R170, R171, R174)
  | enginePredictedPass (e : Island)
  | engineBoundPass (e : Island) (publish : Nat)
  | personLost (person : Fin 32)
  | relayStale (device : Fin 8)
  | engineLate (e : Island) (publish : Nat)
  | sepChannelFault
  | sepDirectedVerdict (madderOk woadOk : Bool)
  -- solver (R195 to R200)
  | solveStart
  | solveFactorDone (t : Nat)
  | solveIteration (t : Nat)
  | rhoRefactorDone (t : Nat)
  | deadlineInFactor
  | deadlineIter
  -- motion, homing, supply (R80 to R83, R94 to R115, R444)
  | segmentStart (queue : Word)
  | segEnd (queue : Word)
  | queueAtRest (queue : Word)
  | supplyRelease
  | startDeferred
  | homeStageStart
  | homeSwitchEdge (axis : Nat)
  | homeChatter (axis : Nat)
  | homeStallConfirmed (axis : Nat)
  | homeDone (axis : Nat)
  | homeLimit (axis : Nat)
  | homeTimeout (axis : Nat)
  | indexCheck (axis : Nat)
  | idxFault (axis : Nat)
  | loopClose (axis : Nat)
  | softStartRamp (axis : Nat)
  | softStartDone (axis : Nat)
  | softStartFail (axis : Nat)
  | brakeDelayDisable (axis : Nat)
  | alignStep (axis : Nat)
  -- local ports and compare (R122 to R144)
  | quadEdge (port : Fin 16) (a b : Bool) (x : LineSample)
  | pulseStep (port : Fin 16) (a b : Bool) (x : LineSample)
  | portIndexEvent (port : Fin 16) (x : IndexSample)
  | ssiTransfer (port : Fin 16) (w : SsiWord)
  | ochreResponse (port : Fin 16) (r : OchreResp)
  | ochreNoResponse (port : Fin 16)
  | cmpPortCrossing (cmp : Fin 16) (t : Nat)
  | cmpFire (cmp : Fin 16) (t : Nat)
  | cmpPulseEnd (cmp : Fin 16) (t : Nat)
  -- safety (R217 to R249, R524)
  | siQualify (input : Fin 32) (chan : Chan) (level : Bool) (t : Nat)
  | siDiscrepancy (input : Fin 32) (t : Nat)
  | tpPulseStart (tp : Fin 8) (t : Nat)
  | tpPulseEnd (tp : Fin 8) (t : Nat) (obs : List PulseObs)
  | tpOutFault (tp : Fin 8)
  | safetyCrossCompare (disagree : List CcItem)
  | safeChannelFault (item : CcItem) (attributed : Option Island)
  | pinReadbackFault (island : Island) (zone : Fin 16)
  | islandLost (island : Island) (clock : Bool)
  | safeDegExpired
  | ss1Breach (request : Nat) (island : Island)
  | ss1End (request : Nat)
  | ss1Tmax (request : Nat)
  | slsMonitorStart (group : Nat)
  | slsBreach (group : Nat)
  | axisStoRelease (axis : Nat)
  | zoneRelease (zone : Fin 16)
  | zoneTestDue (zone : Fin 16)
  -- Selide (R262 to R288)
  | subframeTimeout (node : Fin 64) (island : Island)
  | nodeStoFail (node : Fin 64) (chan : Fin 16)
  | upstreamDataFrame (trunk : Fin 4) (chan : Chan) (f : Frame) (start : Int)
  | nodeMuted (node : Fin 64)
  | extFrame (trunk : Fin 4) (f : Frame) (start : Int)
  | join (trunk : Fin 4) (f : Frame) (start : Int)
  | nodeJoined (node : Fin 64)
  | leave (trunk : Fin 4) (chan : Chan) (f : Frame) (start : Int)
  | nodeGone (node : Fin 64)
  | echo (trunk : Fin 4) (chan : Chan) (t : Nat)
  | cycleStartReceived (trunk : Fin 4) (f : HeardFrame)
  | symbolLockLoss (trunk : Fin 4) (chan : Chan)
  | channelLost (trunk : Fin 4) (chan : Chan)
  | channelRestored (trunk : Fin 4)
  | channelDegExpired (trunk : Fin 4)
  -- cell link (R174, R290 to R293)
  | linkCaprel (device : Fin 8) (r : CapRel) (f : Frame) (start : Int)
  | linkGstat (device : Fin 8) (r : GStat) (f : Frame) (start : Int)
  | linkSigma (device : Fin 8) (group : Word16) (sigma : Word) (f : Frame) (start : Int)
  | linkCmd (seq : Word16) (effect : Word) (descriptor : List Byte) (f : Frame) (start : Int)
  | linkCmdack (device : Fin 8) (seq : Word16) (status obj : Word) (f : Frame) (start : Int)
  | linkCmdgo (seq : Word16) (go : Word) (f : Frame) (start : Int)
  | linkLost
  -- lanes (R330 to R336, R466 to R468)
  | laneFailed (pair : Fin 17) (cause : LaneCause) (t : Nat)
  | laneTakeover (lane : Fin 17)
  | laneLost (lane : Fin 17)
  | laneLossExpired (lane : Fin 17)
  | laneRehomed (lane : Fin 17)
  | laneRecovered (pair : Fin 17) (passed : Bool)
  | reserveSelfTest (passed : Bool)
  | kernelActive
  -- supervisor, memory, health (R428 to R430, R470, R478 to R486, R524)
  | supervisorLockstepMismatch
  | supervisorTakeover (durationUs : Nat)
  | supervisorRebuild (firstPasses secondPasses : Bool)
  | supervisorLoss (cause : SupLossCause)
  | supervisorLossStop
  | eccUncorrectable (mem : MemKind) (address : Nat)
  | scrubPass (corrected : List (MemKind × Nat)) (durationMs : Nat)
  | ageingMeasurement (margins : List Nat)
  | clockStep (domain : Fin 5)
  | halfRateForced (domain : Fin 5)
  | eyeMonitor (margins : List Nat)
  | thermalHigh (temp : Int) (sensor : Fin 16)
  | thermalTrip (island : Island) (temp : Int)
  -- time (R355 to R370)
  | ptpSync (m : PtpHdr) (origin ingress : DevTime)
  | ptpFollowUp (m : PtpHdr) (origin : DevTime) (t : Nat)
  | ptpAnnounce (m : PtpHdr) (a : Announce)
  | announceTimeout (domain : Fin 2)
  | ptpPdelayReq (m : PtpHdr) (ingress egress : DevTime)
  | ptpTransit (m : PtpHdr) (kind : PtpEventKind) (x : Transit)
  | tcResidenceExpiry
  | timeSlewDone
  | leapSecond
  | ppsOutSecond
  | ppsInEdge (t : Nat)
  -- CAN (R384 to R396)
  | canTxAttempt (can : Fin 4) (t : Nat)
  | canTxOutcome (can : Fin 4) (r : TxResult) (x : TxMeasure)
  | canBusOn (can : Fin 4)
  | canRxFrame (can : Fin 4) (f : CanFrame) (t : Int)
  | canWake (can : Fin 4) (cause : CanWakeCause) (t : Int)
  -- recorder (R457)
  | recWrite
  -- network, links, pins (R55, R133, R287, R289, R353 to R356, R370, R393, R463, R495, R521)
  | bridgeFrame (port : Fin 2) (f : EthFrame)
  | ethLinkChange (port : Fin 2) (up : Bool)
  | pdelayReqInterval (port : Fin 2)
  | ptpDelayResp (m : PtpHdr) (request response reqIngress respIngress : DevTime)
  | pcieLinkUp
  | symbolLockGain (trunk : Fin 4) (chan : Chan)
  | linkCycleStart (f : Frame) (arrival : Int) (trip : Option Nat)
  | linkGrantReceived (f : Frame)
  | canRxError (can : Fin 4) (e : RxFault)
  | ppsOutPulseEnd
  | ochreRequest (port : Fin 16)
  | serdesCalibration (unit : CalUnit) (t : Nat)
  | boundaryScanInstruction (i : TapInstr)
  deriving DecidableEq, Repr

end Sys2Proof
end

