-- ==== Sys2Proof/Decode.lean ====
section
/-!
DEFINITION. The command that a word spells by the table's bits. The table of operations and events gives no row
any bits (every row's `fields` list is empty), so no word spells a command (log entry 2). The descriptor decoding of
a host command (R418, Table 15.5) is in Machine/Descriptor.lean, that of a lane instruction (R341 to R347) in
Machine/LaneDecode.lean.
-/
namespace Sys2Proof

def decodeTableWord (_nbits _w : Nat) : Option Instr := none

end Sys2Proof
end

