-- ==== Sys2Proof/Machine/Num.lean ====
section
/-!
DEFINITION. Numbers: rounding (R58), saturation, byte order (R9), bit fields (R8), the checks by cyclic
redundancy code that the spec names, square roots and circular functions by fixed-point series.
-/
namespace Sys2Proof.Machine

/-! ### Rounding and limits -/

/-- Nearest integer of `a / b`, halves away from zero (R47, R58); `b` is positive. -/
def rdiv (a b : Int) : Int :=
  if b ≤ 0 then 0
  else if 0 ≤ a then (2 * a + b) / (2 * b) else -((2 * (-a) + b) / (2 * b))

/-- Nearest integer of a rational, halves away from zero (R58). -/
def rnd (q : Rat) : Int := rdiv q.num (q.den : Int)

/-- Truncation towards zero. -/
def truncQ (q : Rat) : Int :=
  if 0 ≤ q.num then q.num / (q.den : Int) else -((-q.num) / (q.den : Int))

/-- The largest integer that is no larger than `q`. -/
def floorQ (q : Rat) : Int := q.num / (q.den : Int)

/-- The smallest integer that is no smaller than `q`. -/
def ceilQ (q : Rat) : Int := -((-q.num) / (q.den : Int))

/-- `v` held within `lo` and `hi`. -/
def clampI (lo hi v : Int) : Int := if v < lo then lo else if hi < v then hi else v

def clampQ (lo hi v : Rat) : Rat := if v < lo then lo else if hi < v then hi else v

def minQ (a b : Rat) : Rat := if a ≤ b then a else b
def maxQ (a b : Rat) : Rat := if a ≤ b then b else a
def absQ (a : Rat) : Rat := if a < 0 then -a else a
def sgnQ (a : Rat) : Int := if a < 0 then -1 else if 0 < a then 1 else 0
def sgnI (a : Int) : Int := if a < 0 then -1 else if 0 < a then 1 else 0

/-- Saturation to a signed word of `n` bits. -/
def satS (n : Nat) (v : Int) : Int := clampI (-(2 ^ (n - 1) : Int)) (2 ^ (n - 1) - 1) v

/-- Saturation to an unsigned word of `n` bits. -/
def satU (n : Nat) (v : Int) : Nat := (clampI 0 (2 ^ n - 1) v).toNat

/-- Wrap to a signed word of `n` bits. -/
def wrapS (n : Nat) (v : Int) : Int := (BitVec.ofInt n v).toInt

/-- Saturating increment of an `n`-bit count. -/
def incSat (n c : Nat) : Nat := if c + 1 < 2 ^ n then c + 1 else 2 ^ n - 1

/-- Saturating addition to an `n`-bit count. -/
def addSat (n c d : Nat) : Nat := if c + d < 2 ^ n then c + d else 2 ^ n - 1

/-! ### Bytes and fields -/

def b2n (b : Bool) : Nat := if b then 1 else 0

/-- Bits `[hi:lo]` of `v` (R8). -/
def field (v hi lo : Nat) : Nat := v / 2 ^ lo % 2 ^ (hi + 1 - lo)

/-- Bit `k` of `v`. -/
def bitN (v k : Nat) : Bool := v / 2 ^ k % 2 = 1

/-- The `n` bytes of `v`, least significant first (R9). -/
def bytesLE : Nat → Nat → List Byte
  | 0, _ => []
  | n + 1, v => BitVec.ofNat 8 v :: bytesLE n (v / 256)

/-- The number that little-endian bytes spell (R9). -/
def leNat : List Byte → Nat
  | [] => 0
  | b :: r => b.toNat + 256 * leNat r

/-- The number that big-endian bytes spell (R412). -/
def beNat (l : List Byte) : Nat := l.foldl (fun a b => a * 256 + b.toNat) 0

/-- Two's complement reading of an `n`-bit field. -/
def sext (n v : Nat) : Int := (BitVec.ofNat n v).toInt

/-- Two's complement field of `n` bits. -/
def uns (n : Nat) (v : Int) : Nat := (BitVec.ofInt n v).toNat

/-- The part of a byte list from `off`, `n` bytes long. -/
def slice (l : List Byte) (off n : Nat) : List Byte := (l.drop off).take n

/-- Unsigned little-endian field of `n` bytes at `off`. -/
def fieldAt (l : List Byte) (off n : Nat) : Nat := leNat (slice l off n)

/-- Signed little-endian field of `n` bytes at `off`. -/
def sfieldAt (l : List Byte) (off n : Nat) : Int := sext (8 * n) (fieldAt l off n)

/-! ### Lists of numbers -/

def insertNat (a : Nat) : List Nat → List Nat
  | [] => [a]
  | b :: r => if a ≤ b then a :: b :: r else b :: insertNat a r

/-- Ascending order. -/
def sortNat (l : List Nat) : List Nat := l.foldr insertNat []

/-- Without repeats, the first of each kept. -/
def dedup : List Nat → List Nat
  | [] => []
  | a :: r => a :: (dedup r).filter (· ≠ a)

/-- A list with an element, once. -/
def addOnce {α : Type} [DecidableEq α] (l : List α) (e : α) : List α := if e ∈ l then l else l ++ [e]

def maxL (l : List Nat) : Nat := l.foldl Nat.max 0

/-- The smallest element; `d` for an empty list. -/
def minL (d : Nat) : List Nat → Nat
  | [] => d
  | a :: r => r.foldl Nat.min a

/-- The numbers `0` to `n - 1`. -/
def upTo (n : Nat) : List Nat := List.range n

def nthD {α : Type} (d : α) (l : List α) (k : Nat) : α := (l[k]?).getD d

/-! ### Cyclic redundancy codes -/

/-- `k` shift steps of a reflected code with polynomial `poly` (bit-reversed). -/
def crcStepR (poly : Nat) : Nat → Nat → Nat
  | 0, c => c
  | k + 1, c => crcStepR poly k (if c % 2 = 1 then (c / 2) ^^^ poly else c / 2)

/-- Reflected code over bytes, from value `c`. -/
def crcRefl (poly : Nat) : Nat → List Byte → Nat
  | c, [] => c
  | c, b :: r => crcRefl poly (crcStepR poly 8 (c ^^^ b.toNat)) r

/-- `k` shift steps of an unreflected code of width `w`. -/
def crcStepN (w poly : Nat) : Nat → Nat → Nat
  | 0, c => c
  | k + 1, c =>
    crcStepN w poly k (if c / 2 ^ (w - 1) % 2 = 1 then (c * 2 % 2 ^ w) ^^^ poly else c * 2 % 2 ^ w)

/-- Unreflected code of width `w` over bytes, from value `c`. -/
def crcNorm (w poly : Nat) : Nat → List Byte → Nat
  | c, [] => c
  | c, b :: r => crcNorm w poly (crcStepN w poly 8 (c ^^^ (b.toNat * 2 ^ (w - 8)))) r

/-- CRC-32 of IEEE 802.3: polynomial 0x04C1_1DB7 reflected, initial value and final XOR all ones (R32). -/
def crc32 (l : List Byte) : Nat := (crcRefl 0xEDB88320 0xFFFFFFFF l) ^^^ 0xFFFFFFFF

/-! ### Square roots -/

/-- Square root of a non-negative rational, rounded down to a multiple of 2⁻⁶⁴. -/
def sqrtQ (q : Rat) : Rat :=
  if q ≤ 0 then 0 else mkRat (Nat.sqrt ((q * (2 ^ 128 : Nat)).floor.toNat) : Nat) (2 ^ 64)

/-! ### Circular functions, in fixed point with 96 fraction bits -/

/-- One, with 96 fraction bits. -/
def fxOne : Int := 2 ^ 96

def fxMul (a b : Int) : Int := rdiv (a * b) fxOne

/-- π with 96 fraction bits. -/
def fxPi : Int := 248902613312231085230521944622

/-- Series of the sine after the term `t` of order `k`, `n` terms. -/
def fxSinSeries (x2 : Int) : Nat → Nat → Int → Int → Int
  | 0, _, _, acc => acc
  | n + 1, k, t, acc =>
    let t' := -(rdiv (fxMul t x2) ((k + 1) * (k + 2)))
    fxSinSeries x2 n (k + 2) t' (acc + t')

/-- Sine and cosine of an angle given in turns, as rationals with 96 fraction bits. -/
def fxSinRad (x : Int) : Int := fxSinSeries (fxMul x x) 20 1 x x
def fxCosRad (x : Int) : Int := fxSinSeries (fxMul x x) 20 0 fxOne fxOne

/-- The fraction of a turn nearest zero, in [-1/2, 1/2]. -/
def wrapTurn (q : Rat) : Rat := q - (rnd q : Int)

/-- Sine of an angle in turns. -/
def sinTurn (q : Rat) : Rat :=
  mkRat (fxSinRad (rdiv (2 * fxPi * rnd (wrapTurn q * (2 ^ 96 : Nat))) fxOne)) (2 ^ 96)

/-- Cosine of an angle in turns. -/
def cosTurn (q : Rat) : Rat :=
  mkRat (fxCosRad (rdiv (2 * fxPi * rnd (wrapTurn q * (2 ^ 96 : Nat))) fxOne)) (2 ^ 96)

/-- π as a rational with 96 fraction bits. -/
def piQ : Rat := mkRat fxPi (2 ^ 96)

/-- Tangent of an angle in turns, away from a quarter turn. -/
def tanTurn (q : Rat) : Rat := sinTurn q / cosTurn q

end Sys2Proof.Machine
end

