-- ==== Sys2Proof/Machine/Crypto.lean ====
section
/-!
DEFINITION. The digests and signatures that a firmware load checks: SHA-384 as FIPS 180-4 defines it and ECDSA
over curve P-384 as FIPS 186-5 defines it (R412, R413; the constants come from those standards, PRESUMED, log entry 5).
-/
namespace Sys2Proof.Machine

/-! ### The constants of SHA-384: fractions of roots of primes, to 64 bits -/

/-- The primes below 410, of which there are 80; a composite below 441 has a divisor up to 20. -/
def shaPrimes : List Nat :=
  (upTo 410).filter fun n => decide (2 ≤ n) && (upTo 21).all fun d => decide (d < 2) || decide (n ≤ d) || n % d ≠ 0

/-- Greatest number with at most `bits` bits above `r` whose `k`-th power does not exceed `x`. -/
def rootFrom (k x : Nat) : Nat → Nat → Nat
  | 0, r => r
  | bits + 1, r => rootFrom k x bits (if (r + 2 ^ bits) ^ k ≤ x then r + 2 ^ bits else r)

/-- First 64 bits of the fraction of the `k`-th root of a number below 512. -/
def rootFraction (k p : Nat) : Nat := rootFrom k (p * 2 ^ (64 * k)) 70 0 % 2 ^ 64

/-- Round constants: the cube roots of the 80 primes. -/
def shaRoundKeys : List Nat := shaPrimes.map (rootFraction 3)

/-- Start words of SHA-384: the square roots of the ninth to the sixteenth prime. -/
def shaStart : List Nat := ((shaPrimes.drop 8).take 8).map (rootFraction 2)

def m64 : Nat := 2 ^ 64
def rotr64 (n x : Nat) : Nat := x / 2 ^ n ||| (x % 2 ^ n) * 2 ^ (64 - n)
def not64 (x : Nat) : Nat := (m64 - 1) ^^^ x

/-- The message padded to whole blocks of 128 bytes. -/
def shaPad (l : List Byte) : List Byte :=
  let z := (239 - l.length % 128) % 128
  l ++ [0x80] ++ List.replicate z 0 ++ (bytesLE 16 (8 * l.length)).reverse

/-- The schedule, newest word first. -/
def shaSchedule : Nat → List Nat → List Nat
  | 0, w => w
  | k + 1, w =>
    let a := nthD 0 w 14
    let b := nthD 0 w 1
    let s0 := rotr64 1 a ^^^ rotr64 8 a ^^^ a / 2 ^ 7
    let s1 := rotr64 19 b ^^^ rotr64 61 b ^^^ b / 2 ^ 6
    shaSchedule k (((s1 + nthD 0 w 6 + s0 + nthD 0 w 15) % m64) :: w)

/-- The eight working words after the rounds whose constants and schedule words are given. -/
def shaRounds : List (Nat × Nat) → List Nat → List Nat
  | (k, w) :: r, [a, b, c, d, e, f, g, h] =>
    let t1 := h + (rotr64 14 e ^^^ rotr64 18 e ^^^ rotr64 41 e) + ((e &&& f) ^^^ (not64 e &&& g)) + k + w
    let t2 := (rotr64 28 a ^^^ rotr64 34 a ^^^ rotr64 39 a) + ((a &&& b) ^^^ (a &&& c) ^^^ (b &&& c))
    shaRounds r [(t1 + t2) % m64, a, b, c, (d + t1) % m64, e, f, g]
  | _, s => s

/-- The first 16 schedule words of a block. -/
def shaWords : Nat → List Byte → List Nat
  | 0, _ => []
  | k + 1, l => beNat (l.take 8) :: shaWords k (l.drop 8)

def shaBlocks : Nat → List Nat → List Byte → List Nat
  | 0, h, _ => h
  | k + 1, h, l =>
    let w := (shaSchedule 64 (shaWords 16 l).reverse).reverse
    shaBlocks k ((h.zip (shaRounds (shaRoundKeys.zip w) h)).map fun p => (p.1 + p.2) % m64) (l.drop 128)

def sha384 (l : List Byte) : List Byte :=
  let p := shaPad l
  ((shaBlocks (p.length / 128) shaStart p).take 6).flatMap fun v => (bytesLE 8 v).reverse

/-! ### Curve P-384 -/

def p384 : Nat := 2 ^ 384 - 2 ^ 128 - 2 ^ 96 + 2 ^ 32 - 1
def p384B : Nat :=
  0xb3312fa7e23ee7e4988e056be3f82d19181d9c6efe814112 * 2 ^ 192 +
  0x0314088f5013875ac656398d8a2ed19d2a85c8edd3ec2aef
def p384N : Nat :=
  0xffffffffffffffffffffffffffffffffffffffffffffffff * 2 ^ 192 +
  0xc7634d81f4372ddf581a0db248b0a77aecec196accc52973
def p384Gx : Nat :=
  0xaa87ca22be8b05378eb1c71ef320ad746e1d3b628ba79b98 * 2 ^ 192 +
  0x59f741e082542a385502f25dbf55296c3a545e3872760ab7
def p384Gy : Nat :=
  0x3617de4a96262c6f5d9e98bf9292dc29f8f41dbd289a147c * 2 ^ 192 +
  0xe9da3113b5f0b8c00a60b1ce1d7e819d7a431d7c90ea0e5f

/-- `b ^ e` modulo `m`, over `n` bits of `e`. -/
def powModBits (m : Nat) : Nat → Nat → Nat → Nat → Nat
  | 0, _, _, acc => acc
  | n + 1, b, e, acc => powModBits m n (b * b % m) (e / 2) (if e % 2 = 1 then acc * b % m else acc)

/-- The inverse of `a` modulo a prime of 384 bits. -/
def invMod (m a : Nat) : Nat := powModBits m 384 (a % m) (m - 2) 1

def subMod (m a b : Nat) : Nat := (a + m - b % m) % m

/-- Sum of two points of the curve; `none` is the point at infinity. -/
def ecAdd (a b : Option (Nat × Nat)) : Option (Nat × Nat) :=
  match a, b with
  | none, q => q
  | q, none => q
  | some (x1, y1), some (x2, y2) =>
    if x1 = x2 ∧ (y1 + y2) % p384 = 0 then none
    else
      let l := if x1 = x2 then subMod p384 (3 * x1 * x1) 3 * invMod p384 (2 * y1) % p384
               else subMod p384 y2 y1 * invMod p384 (subMod p384 x2 x1) % p384
      let x := subMod p384 (subMod p384 (l * l) x1) x2
      some (x, subMod p384 (l * subMod p384 x1 x) y1)

def ecMulBits : Nat → Nat → Option (Nat × Nat) → Option (Nat × Nat) → Option (Nat × Nat)
  | 0, _, _, acc => acc
  | n + 1, k, q, acc => ecMulBits n (k / 2) (ecAdd q q) (if k % 2 = 1 then ecAdd acc q else acc)

def ecMul (k : Nat) (q : Option (Nat × Nat)) : Option (Nat × Nat) := ecMulBits 384 k q none

/-- A point of the curve. -/
def ecOnCurve (x y : Nat) : Bool :=
  x < p384 && y < p384 && y * y % p384 = (x * x * x + p384B + (p384 - 3) * x) % p384

/-- FIPS 186-5 verification: 97-byte public key, 48-byte r and s, digest of 48 bytes. -/
def ecdsaVerify (pub r s digest : List Byte) : Bool :=
  let x := beNat (slice pub 1 48)
  let y := beNat (slice pub 49 48)
  let rn := beNat r
  let sn := beNat s
  if pub.take 1 = [0x04] ∧ ecOnCurve x y ∧ 0 < rn ∧ rn < p384N ∧ 0 < sn ∧ sn < p384N then
    let w := invMod p384N sn
    let u1 := beNat digest * w % p384N
    let u2 := rn * w % p384N
    match ecAdd (ecMul u1 (some (p384Gx, p384Gy))) (ecMul u2 (some (x, y))) with
    | some (vx, _) => vx % p384N = rn
    | none => false
  else false

end Sys2Proof.Machine
end

