-- ==== Sys2Proof/Config.lean ====
section
/-!
DEFINITION. What the spec leaves to an implementation: values that are free. Each is a constant without a body, so
nothing can be proved of it; the machine applies it to a count of values drawn so far.
-/
namespace Sys2Proof.Config

/-- Whether the 1 to 10 µs pulse of R494 is taken (log entry 3). -/
opaque shortPulseTaken : Nat → Bool

/-- Numerical error of an engine's distance, in units of 2⁻²⁰ mm, before the bound Z_num (R166). -/
opaque engineError : Nat → Int

/-- A servo's estimate of a domain's frequency, in ppb, at its bandwidth in mHz, from the frequency measured between two Syncs
and its estimate before; the spec gives no filter (R359). -/
opaque servoFreq (bandwidth : Nat) (measured before : Int) : Int

/-- Nanoseconds that pass between two commands before the self-test (R363). -/
opaque bootNs : Nat → Nat

/-- The solver's own estimate of the cost of a structure, µs (R206). -/
opaque solverEstimate : Nat → Nat

/-- A register of a lane pair that R324 leaves open at the entry of a user stage. -/
opaque laneWord (pair drawn : Nat) : BitVec 32

/-- The word at an address of a lane pair, in a region that another block has written, after that block's `write`-th write;
the spec gives the regions and no layout of them (R301). Address bit 16 names the space Y. -/
opaque regionWord (write pair addr : Nat) : BitVec 32

/-- Where the lane control block holds a field of a slot; the spec gives the fields and no layout (R303). -/
opaque ctlAddr (slot field : Nat) : Nat

/-- The firmware vector of a lane event, by its priority (R318). -/
opaque laneVector (event : Nat) : Nat

/-- Repeat delay of the node at a position of a trunk beyond 80 ns, and hop delay of one that has not joined, in 0.125 ns: the
nodes' own, which no frame gives the C512 (R261, R262). -/
opaque nodeRepeat (trunk position : Nat) : Nat
opaque nodeHop (trunk position : Nat) : Nat

/-- VENDOR and PRODUCT of a device that joins a cell link; its CELL record has neither (R277, R289). -/
opaque linkVendor (device : Nat) : Nat
opaque linkProduct (device : Nat) : Nat

/-- A word whose value the spec leaves open. -/
opaque freeWord : Nat → BitVec 64

end Sys2Proof.Config
end

