-- ==== Sys2Proof/Machine/StateCore.lean ====
section
/-!
DEFINITION. State, first part: keyed tables, memory in one canonical form, the host interface (chapter 14), the
parameter dictionary (chapter 15), the recorder (chapter 16), the loaded images of chapter 1 and the tick
(chapter 2). Every field's default is its value at reset.
-/
namespace Sys2Proof.Machine

/-! ### Keyed tables -/

/-- A table keyed by a number; a key that is not listed has the table's default value. -/
abbrev Tbl (α : Type) := List (Nat × α)

def tblGet {α : Type} (d : α) : Tbl α → Nat → α
  | [], _ => d
  | (j, v) :: r, k => if j = k then v else tblGet d r k

def tblSet {α : Type} : Tbl α → Nat → α → Tbl α
  | [], k, v => [(k, v)]
  | (j, w) :: r, k, v =>
    if k < j then (k, v) :: (j, w) :: r else if k = j then (k, v) :: r else (j, w) :: tblSet r k v

def tblMod {α : Type} (d : α) (t : Tbl α) (k : Nat) (f : α → α) : Tbl α := tblSet t k (f (tblGet d t k))

/-! ### Memory: addresses strictly rising, no entry equal to the value 0 that an unlisted address reads as -/

abbrev Cells (w : Nat) := List (Nat × BitVec w)

def cellRead {w : Nat} : Cells w → Nat → BitVec w
  | [], _ => 0
  | (j, v) :: r, a => if j = a then v else cellRead r a

def cellWrite {w : Nat} : Cells w → Nat → BitVec w → Cells w
  | [], a, v => if v = 0 then [] else [(a, v)]
  | (j, u) :: r, a, v =>
    if a < j then (if v = 0 then (j, u) :: r else (a, v) :: (j, u) :: r)
    else if a = j then (if v = 0 then r else (a, v) :: r)
    else (j, u) :: cellWrite r a v

/-- The canonical form, above a least address. -/
def cellsFrom {w : Nat} (lo : Nat) : Cells w → Bool
  | [] => true
  | (j, v) :: r => decide (lo ≤ j) && decide (v ≠ 0) && cellsFrom (j + 1) r

def cellsWf {w : Nat} (m : Cells w) : Bool := cellsFrom 0 m

/-! ### Host interface -/

/-- A completion that is ready and waits to be written (R421, R422). -/
structure Cpl where
  tag : Word64 := 0
  status : Word := 0
  obj : Word := 0
  cycle : Word := 0
  opcode : Word16 := 0
  result : Word64 := 0
  notify : Bool := false
  seq : Option Nat := none      -- acceptance sequence number of its command (R427)
  deriving DecidableEq, Repr

/-- One command ring with its completion ring (Tables 14.2, 14.5, 14.6; R422 to R424). -/
structure Ring where
  tail : Word := 0
  accept : Word := 0
  cplLo : Word := 0
  cplHi : Word := 0
  written : Word := 0
  head : Word := 0
  enable : Bool := false
  notifyAll : Bool := false
  overrun : Bool := false
  ready : List Cpl := []
  lastTags : List Word64 := []
  sinceIrq : Nat := 0
  unsignalledNs : Option Nat := none
  deriving DecidableEq, Repr

/-- One MSI-X table entry (R403); every vector is masked at reset. -/
structure MsixEntry where
  addrLo : Word := 0
  addrHi : Word := 0
  data : Word := 0
  ctrl : Word := 1
  deriving DecidableEq, Repr

/-- A command in flight (R416, R417, R427): the copied descriptor as the command it spells, and its fate. -/
structure InFlight where
  seq : Nat
  hdr : Hdr
  opcode : Word16
  notify : Bool
  cmd : Instr
  earliest : Nat            -- tick number before which it does not take effect (R45, R419)
  begun : Bool := false     -- it has begun to take effect and waits for its end
  decided : Bool := false
  cplNo : Option Word := none   -- number of its completion on its ring
  orphan : Bool := false    -- accepted before a host reset: its completion is discarded (R425)
  atCycle : Bool := false   -- AT_CYCLE holds it back (R419, R507)
  deriving DecidableEq, Repr

/-- A journal entry (R427). -/
structure JEntry where
  seq : Nat
  ring : Fin 4
  tag : Word64
  desc : List Byte := []          -- the copied descriptor
  effectTick : Option Nat := none
  status : Option Word := none
  written : Bool := false
  deriving DecidableEq, Repr

/-- What the host sets in PCI configuration space (Table 14.1): COMMAND, BAR0, BAR2 with BAR3, and the power state. -/
structure PciCfg where
  command : Word16 := 0
  bar0 : Word := 0
  bar2 : Word := 0
  bar3 : Word := 0
  d3hot : Bool := false
  deriving DecidableEq, Repr

structure HostIf where
  pci : PciCfg := {}
  rings : Tbl Ring := []
  doorbells : List (Fin 4 × Word) := []   -- descriptors submitted and not yet accepted, in arrival order (R417)
  irqStatus : Word := 0
  irqEnable : Word := 0
  irqCoal : Word := 0
  resetCnt : Word := 0
  scratch : Cells 32 := []
  msix : Tbl MsixEntry := []
  pba : Word := 0
  msiSent : Tbl Nat := []                 -- messages raised, per vector (R404)
  window : Cells 8 := []                  -- the 4 MB host window (R405)
  hostMem : Cells 8 := []                 -- what the device has written into host memory (R402)
  bootCmdArg0 : Word := 0
  bootCmdArg1 : Word := 0
  timeSecLatch : BitVec 48 := 0           -- TIME_SEC_LO and TIME_SEC_HI
  timeNsReg : Word := 0                   -- the value of the last TIME_NS read
  rxWritten : Tbl Nat := []               -- reply bytes written per node service area (R407)
  linkUp : Bool := false                  -- PCI Express link trained (R425, R495)
  inflight : List InFlight := []
  seq : Nat := 0
  current : Option Nat := none            -- sequence number of the command that takes effect now
  journal : List JEntry := []
  journalDepth : Nat := 0
  checkpointCycle : Word := 0
  suspended : Bool := false
  takeoverCycle : Word := 0
  takeovers : Nat := 0
  supSingle : Bool := false
  standby : Bool := true                  -- a standby core is available (R428, R430)
  heartbeat : Word := 0
  reads : List (Hdr × Word16 × Bool) := []  -- PARAM_READ commands that took effect in this tick (R440)
  abortWaits : List (Hdr × Hdr) := []     -- ABORTs that wait for their target's completion, and the target (R424)
  hbAge : Nat := 0                        -- planning periods since HEARTBEAT advanced
  telemSeq : Word := 0
  telemDue : Option TelemetryIn := none   -- a telemetry record fell due during a takeover (R429)
  tempMax : Word16 := 0
  powerNow : Word16 := 0
  deriving DecidableEq, Repr

/-! ### Parameters -/

/-- A staged write of a planning parameter (R436). -/
structure StagedWrite where
  hdr : Hdr
  number : Word16
  value : Word64
  seq : Nat := 0                    -- acceptance order (R437)
  deriving DecidableEq, Repr

/-- One PVALUE record of a PARAMSET image (R439). -/
structure PValue where
  obj : Word
  number : Word16
  value : Word64
  deriving DecidableEq, Repr

/-- A staged PARAMSET image (R439). -/
structure StagedSet where
  hdr : Hdr
  generation : Word
  records : List PValue
  deriving DecidableEq, Repr

structure ParamSt where
  vals : Tbl Word64 := []           -- values in force that differ from the default, by number and object index
  staged : List StagedWrite := []
  sets : List StagedSet := []
  deriving DecidableEq, Repr

/-! ### Images of chapter 1 -/

structure DevRec where
  index : Nat
  serial : Word64
  priority : Nat
  link : Nat
  deriving DecidableEq, Repr

structure NodeRec where
  index : Nat
  vendor : Nat
  product : Nat
  nserial : Nat
  trunk : Nat
  chain : Nat
  late : Bool
  sensor : Bool
  deriving DecidableEq, Repr

structure AxisRec where
  index : Nat
  source : Word
  chan : Nat
  lane : Nat
  supply : Nat
  holding : Bool
  deriving DecidableEq, Repr

structure GroupRec where
  index : Nat
  parent : Word
  redundant : Bool
  members : List Word
  deriving DecidableEq, Repr

structure SupplyRec where
  domain : Nat
  budget : Nat
  rate : Nat
  deriving DecidableEq, Repr

/-- The loaded CELL image (R34). -/
structure Cell where
  loaded : Bool := false
  generation : Word := 0
  devs : List DevRec := []
  nodes : List NodeRec := []
  axes : List AxisRec := []
  groups : List GroupRec := []
  supplies : List SupplyRec := []
  farGroups : List GroupRec := []   -- of the other devices: they give the order of a command's targets (R20, R25)
  farAxes : List AxisRec := []
  farNodes : List Nat := []         -- declared nodes of the other devices (R33)
  deriving DecidableEq, Repr

/-! ### The tick -/

structure TickSt where
  no : Nat := 0                -- ticks since power-up
  t0Ns : Nat := 0              -- T0 of this tick, ns since the first tick
  cycle : Word := 0
  running : Bool := false      -- configuration ticks have begun (R506)
  selide : Bool := false       -- Selide ticks are being sent (R507)
  cutoff : Bool := false       -- the shadow cut-off of this tick has passed (R45)
  intakeDone : Bool := false
  latched : Bool := false
  downDone : Bool := false     -- the downstream window of this tick has opened
  tickOut : Nat := 0           -- width of the last TICK_OUT pulse in ns (R40)
  finishMax : Nat := 0
  slackMin : Option Nat := none
  finishPub : Nat := 0
  slackPub : Nat := 0
  deriving DecidableEq, Repr

/-! ### The recorder -/

/-- An event on its way to the recorder, with its TIME as calendar UTC; `lost` stands for a run of lost events (R456). -/
inductive QEv where
  | ev (code : Nat) (obj : Word) (args : List Word) (cycle : Word) (time : List Byte) (stamped : Bool)
  | lost (count : Nat) (first : Word) (time : List Byte)
  deriving DecidableEq, Repr

/-- Limits and bucket of one event code (R457, R458); the level is in 1/512,000 of a token. -/
structure Lim where
  burst : Nat
  rate : Nat
  level : Nat
  suppressing : Bool := false
  count : Nat := 0
  first : Word := 0
  last : Word := 0
  deriving DecidableEq, Repr

/-- An open SI_EDGE pair of an input (R455). -/
structure SiPair where
  firstIsA : Bool
  former : Bool
  aDem : Bool
  bDem : Bool
  stamp : DevTime
  deriving DecidableEq, Repr

/-- A REC_READ copy in progress (R459). -/
structure RecCopy where
  hdr : Hdr
  next : Nat                      -- first record still to be copied
  last : Nat
  off : Nat
  n : Nat := 0                    -- records copied so far, packed from `off`
  deriving DecidableEq, Repr

structure RecSt where
  queue : List QEv := []
  seq : Nat := 0                    -- sequence number of the newest record, 0 if none (R449)
  records : Tbl (List Byte) := []   -- the ring, by sequence number
  lims : Tbl Lim := []
  suppressedTotal : Nat := 0
  lostCount : Nat := 0
  siPairs : Tbl (Option SiPair) := []
  copies : List RecCopy := []       -- REC_READ copies under way, oldest first
  deriving DecidableEq, Repr

end Sys2Proof.Machine
end

