-- ==== Sys2Proof/Machine/StateMotion.lean ====
section
/-!
DEFINITION. State, second part: axes (chapters 3 and 5), segment queues, homing and supply admission (chapter 4),
local ports and position compare (chapter 5). Every field's default is its value at reset.

Units: positions 2⁻³² turn, velocities 2⁻¹⁶ turn/s, accelerations 2⁻¹² turn/s² (Table 3.2); torque accumulators
carry 63 fraction bits of the rated peak, as the lane's accumulators do (R58, R311).
-/
namespace Sys2Proof.Machine

/-! ### Feedback of one axis (R135 to R139) -/

structure FbSt where
  cnt : Int := 0
  cPrev : Nat := 0
  started : Bool := false         -- a valid sample has been taken since the source started (R135)
  sinceValid : Nat := 0           -- ns from the last valid sample to the last sample
  posOrg : Int := 0
  posNew : Int := 0               -- position taken at this tick's intake
  consec : Nat := 0               -- consecutive invalid samples (R136)
  stale : Bool := false
  faulted : Bool := false         -- the run of invalid samples has been taken as a feedback fault
  fault : Bool := false           -- a feedback fault stands; its reset starts the count afresh (R135)
  inferred : Bool := false        -- the sample rests on an inferred transition (R123)
  illegal : Nat := 0              -- illegal events since the last HOME_DONE or clearing of PORT_ILLEGAL (R124)
  word : BitVec 96 := 0           -- the last essential feedback word of the axis's channel (Table 5.5)
  psOnPrev : Bool := false        -- PS_ON of the tick before
  cntLoad : Int := 0
  cPrevLoad : Nat := 0
  loadStarted : Bool := false
  loadValid : Bool := false
  sinceLoad : Nat := 0            -- ns from the last valid load sample to the last one
  posLoad : Int := 0
  idx : Option Int := none        -- count of the index delivered in this tick (R126, R138)
  analog : Int := 0
  deriving DecidableEq, Repr

/-! ### The kernel of one axis (chapter 3) -/

/-- A notch in direct form I with Q1.31 states (R76). -/
structure Notch where
  x1 : Int := 0
  x2 : Int := 0
  y1 : Int := 0
  y2 : Int := 0
  bypassed : Bool := false
  deriving DecidableEq, Repr

/-- Tracking of notch 2 (R77); z and acc with 31 fraction bits, the frequency in 2⁻¹⁶ mHz. -/
structure Track where
  phi : Nat := 0
  zr : Int := 0
  zi : Int := 0
  hist : List (Int × Int) := []
  accR : Int := 0
  accI : Int := 0
  fc : Nat := 0
  atLimit : Bool := false
  deriving DecidableEq, Repr

/-- The integrators of the five limiter loops, by ceiling code (R67, R69). -/
structure LimInt where
  vmax : Int := 0
  kappa : Int := 0
  ss1 : Int := 0
  sls : Int := 0
  deg : Int := 0
  deriving DecidableEq, Repr

/-- The stop ramp of an axis in SS1 (R71). -/
structure Ss1Ramp where
  t0 : Nat
  fresh : Bool := true            -- the first computation has still to take v_start
  vStart : Nat
  aDem : Nat
  dirNeg : Bool
  c3 : Nat
  deriving DecidableEq, Repr

/-- An alignment move (R83). -/
structure AlignSt where
  start : Nat                     -- ns
  second : Bool := false
  p1 : Int := 0
  deriving DecidableEq, Repr

structure LoopSt where
  posFb : Int := 0
  posFbPrev : Int := 0
  vFb : Int := 0
  plausRun : Nat := 0
  usedLoad : Bool := false
  eUsed : Int := 0                -- the error the P and I terms used (R66)
  seen : Bool := false            -- a sample has been consumed
  posRef : Int := 0
  vRef : Int := 0
  aRef : Int := 0
  hadRef : Bool := false
  hold : Int := 0
  offDv : Int := 0
  pProf : Int := 0
  posRefPrev : Int := 0           -- pos_ref and v_ref as the latch left them in the tick before (R47)
  vRefPrev : Int := 0
  posRefPrev2 : Int := 0          -- pos_ref one tick earlier still
  posRefC : Int := 0              -- pos_ref of the last computation
  feOver : Bool := false          -- the following error exceeds FE_LIMIT (R65)
  pulseLast : Int := 0
  pulseRem : Int := 0
  pulseSlipAcc : Int := 0
  iPid : Int := 0
  d : Int := 0
  ePrev : Int := 0
  lims : LimInt := {}
  dirNeg : Bool := false
  rhoA : Nat := 65536
  win : Nat := 14
  uPid : Int := 0
  uSel : Int := 0
  uSat : Int := 0
  uLim : Int := 0                 -- the most restrictive limiter output of this computation (R72)
  uUser : Int := 0
  uOut : Int := 0
  tsat : Bool := false
  userClipped : Bool := false
  overrun : Bool := false
  halfRate : Bool := false
  n1 : Notch := {}
  n2 : Notch := {}
  trk : Track := {}
  ss1 : Option Ss1Ramp := none
  pass1Done : Bool := false
  addrW : Nat := 0
  amplW : Nat := 0
  addr : Nat := 0
  addrPrev : Nat := 0
  addrPrev2 : Nat := 0
  ampl : Nat := 0
  extrap : Bool := false          -- the latch substituted the word (EXTRAP of Table 9.4)
  last : Word := 0                -- LAST: cycle number of the last captured computation (R303)
  deriving DecidableEq, Repr

/-! ### Homing of one axis (R102 to R110) -/

/-- One qualified switch input (R105). -/
structure SwitchSt where
  level : Bool := false
  cand : Bool := false
  run : Nat := 0
  firstPos : Int := 0
  edge : Bool := false            -- the level changed in this tick
  deriving DecidableEq, Repr

/-- A homing run of one axis; HOME_STATE says what it does. -/
structure HomeRun where
  root : Word                     -- the addressed object
  stage : Nat
  started : Bool := false
  stageStart : Nat := 0           -- ns
  next : Option Nat := none       -- it brakes, and goes on with this HOME_STATE at rest
  seenActive : Bool := false      -- a reversed search has met the active switch
  stallRun : Nat := 0             -- consecutive computations of the stall condition
  pEv : Option Int := none        -- the defining event's position, taken and not yet assigned
  evTick : Nat := 0               -- tick of the defining event
  ending : Bool := false          -- homed; the remaining brake or back-off runs
  readyTick : Option Nat := none  -- tick in which the stage before it came to rest, homed
  dirNeg : Bool := false          -- the direction "+" of Table 4.6
  deriving DecidableEq, Repr

structure HomeSt where
  state : Nat := 0
  homed : Bool := false
  reversed : Bool := false
  failed : Bool := false
  rejected : Nat := 0
  idxMiss : Nat := 0
  idxDev : Int := 0
  cH : Option Int := none
  idxShift : Int := 0             -- correction in counts that falls at the next tick (R110)
  idxCorr : Int := 0              -- corrections made since c_h, in counts
  run : Option HomeRun := none
  swHome : SwitchSt := {}
  swPos : SwitchSt := {}
  swNeg : SwitchSt := {}
  deriving DecidableEq, Repr

structure Axis where
  fb : FbSt := {}
  lp : LoopSt := {}
  bak : Option LoopSt := none     -- the kernel before this tick's computation, until the latch captures it
  home : HomeSt := {}
  fault : Bool := false           -- a latched FAULT (R24)
  clrFault : Option Nat := none   -- tick in whose word CLR_FAULT is sent (R445)
  commValid : Bool := false
  psEn : Bool := false
  psOff : Option Nat := none      -- tick at which PS_EN clears after BRAKE_DELAY (R444)
  brakeRel : Bool := false
  closed : Bool := false
  decKept : Bool := false
  bound : Option Word := none     -- the queue the axis is bound to (R92)
  softStart : Bool := false
  softRamp : Bool := false        -- the soft start's ramp has begun
  softT0 : Nat := 0
  softTarget : Int := 0
  uHist : List Int := []          -- u_out of the last 32 computations (R81)
  uHold : Option Int := none
  refBrake : Option Int := none   -- the last pos_ref before the brake engaged
  align : Option AlignSt := none
  dvOld : Int := 0
  dvNew : Int := 0
  brakeStop : Option Nat := none  -- deceleration at which the profile of a stopped segment brakes (R101)
  userDisabled : Bool := false
  deriving DecidableEq, Repr

/-! ### Queues (R87 to R101) -/

/-- One piece of a trapezoid: constant acceleration over a duration in seconds, in turns. -/
structure Phase where
  kind : Nat                      -- 1 acceleration, 2 cruise, 3 deceleration
  dur : Rat
  v0 : Rat
  acc : Rat
  deriving DecidableEq, Repr

/-- The plan of the active segment on the profile clock (R87, R90, R97, R98). -/
structure Plan where
  tau0 : Rat := 0
  x0 : Rat := 0
  phases : List Phase := []
  dist : Rat := 0                 -- D
  vm : Rat := 0
  ve : Rat := 0
  acc : Rat := 0
  dec : Rat := 0
  lead : Nat := 0
  coLead : Bool := false
  starts : List Int := []
  kept : Bool := false
  halted : Bool := false          -- re-planned to stop short (R99)
  blend : Option Bool := none     -- decided when the deceleration phase begins (R95)
  deriving DecidableEq, Repr

structure Seg where
  segId : Word
  notify : Bool
  vStart : Nat
  vStop : Nat
  axes : List Nat
  targets : List Int
  homing : Bool := false
  vFix : Nat := 0                 -- homing speed; PROF_VMAX is ignored (R102)
  deriving DecidableEq, Repr

structure Queue where
  segs : List Seg := []           -- the active segment first
  plan : Option Plan := none
  waiting : Bool := false         -- WAITING_SUPPLY
  halting : Bool := false
  lastOutcome : Nat := 0
  lastSegId : Word := 0
  tau : Rat := 0
  endedTick : Option Nat := none  -- tick in which the last segment ended
  drove : List Nat := []          -- axes it has driven since it was last empty with all of them at rest (R93)
  deriving DecidableEq, Repr

/-- σ of a group (R60, R204). -/
structure SigmaSt where
  old : Nat := 65536
  new : Nat := 65536
  recovering : Bool := false
  deriving DecidableEq, Repr

/-! ### Supply (R111 to R115) -/

inductive ReqKind where
  | enable (h : Hdr) (axes : List Nat)
  | wake (h : Hdr) (node : Nat)
  | start (queue : Word)
  deriving DecidableEq, Repr

structure SupReq where
  kind : ReqKind
  costs : List (Nat × Nat)        -- domain and cost, ascending domains, costs above 0
  joined : Nat
  deriving DecidableEq, Repr

structure SupplySt where
  levels : Tbl Nat := []          -- 2⁻¹⁶ credit
  reqs : List SupReq := []        -- in arrival order
  deriving DecidableEq, Repr

/-! ### Ports and compare (R118 to R146) -/

structure Port where
  aF : Bool := false
  bF : Bool := false
  zF : Bool := false
  count : Int := 0
  lastNeg : Bool := false
  dirKnown : Bool := false
  lastSign : Int := 0             -- sign of the newest accepted edge, 0 if none
  edgeNs : Nat := 0               -- time of the newest edge, ns since power-up
  interval : Nat := 0             -- interval between the two newest edges, ns
  aEdgeNs : Nat := 0              -- times of the newest accepted changes of A, B and Z
  bEdgeNs : Nat := 0
  zEdgeNs : Nat := 0
  illegal : Nat := 0
  inferred : Nat := 0
  indexExtra : Nat := 0
  id : Word := 0
  illegalTick : Bool := false
  inferredTick : Bool := false
  lastInferred : Bool := false    -- inferredTick of the tick before, whose count this tick's sample holds
  latch : Option (Int × DevTime) := none
  idxNew : Bool := false
  sample : Option Nat := none     -- the word read in this tick, before R135
  held : Option Nat := none       -- the SSI word of the tick before, for this tick's intake (R129)
  begun : Bool := false           -- the source has been asked since PORT_MODE committed, by this tick
  heldBegun : Bool := false       -- the same by the tick before
  badNext : Bool := false         -- the line was not high after SSI_TIMEOUT (R128)
  lastCause : Nat := 0
  consec : Nat := 0
  stale : Bool := false
  aged : Bool := false
  warn : Bool := false
  identLeft : Nat := 0            -- IDENT requests still to send (R131)
  request : Byte := 0             -- the last Ochre request byte
  driven : List Bool := []        -- the levels it drove on pair C, by half bit times (R130)
  clearPending : Bool := false
  deriving DecidableEq, Repr

structure CmpSt where
  list : List Int := []
  ptr : Nat := 0
  k : Nat := 0                    -- repeats of the list in CYCLE mode
  ended : Bool := false
  active : Bool := false          -- a pulse drives the pin
  pulseEnd : Nat := 0             -- ns since power-up
  sched : List (Nat × Int) := []  -- scheduled fires: ns offset from T0 of the tick, entry; waiting for the latch
  ptrW : Nat := 0                 -- pointer and repeats after the scheduled fires
  kW : Nat := 0
  armedFires : List (Nat × Int) := []  -- fires captured by the latch: ns since power-up, entry
  fired : Nat := 0
  merged : Nat := 0
  lastCycle : Word := 0
  lastT : Nat := 0
  sinceLoad : Nat := 0
  deriving DecidableEq, Repr

end Sys2Proof.Machine
end

