-- ==== Sys2Proof/Machine/StateSafety.lean ====
section
/-!
DEFINITION. State, third part: separation engines (chapter 6), coordination solver (chapter 7), safety functions
(chapter 8). Every field's default is its value at reset.
-/
namespace Sys2Proof.Machine

/-! ### The KINEMATICS image (R152) -/

structure JointRec where
  prismatic : Bool
  t : Int × Int × Int             -- µm
  q : Int × Int × Int × Int       -- Q2.30: w, x, y, z
  stroke : Nat
  deriving DecidableEq, Repr

structure ChainRec where
  group : Nat
  b : Int × Int × Int
  bq : Int × Int × Int × Int
  joints : List JointRec
  body : List Byte
  deriving DecidableEq, Repr

structure CapRec where
  index : Nat
  attach : Word
  link : Nat
  kind : Nat                      -- 1 LINK, 2 TOOL, 3 OBSTACLE, 4 FOREIGN
  relay : Bool
  p1 : Int × Int × Int
  p2 : Int × Int × Int
  radius : Nat
  zr : Nat
  body : List Byte
  deriving DecidableEq, Repr

structure PersonRec where
  index : Nat
  node : Nat
  slot : Nat
  cIntr : Nat
  lat : Nat
  zdMin : Nat
  deriving DecidableEq, Repr

structure ExcludeRec where
  armA : Nat
  armB : Nat
  ca : Int × Int × Int
  ra : Nat
  cb : Int × Int × Int
  rb : Nat
  deriving DecidableEq, Repr

/-- A member of a pair: a capsule by index, or a capsule entry of a person. -/
inductive Body where
  | cap (i : Nat)
  | person (p e : Nat)
  deriving DecidableEq, Repr

/-- One pair of the pair list, the robot capsule first (R156). -/
structure Pair where
  a : Nat
  b : Body
  deriving DecidableEq, Repr

structure Kin where
  loaded : Bool := false
  generation : Word := 0
  chains : List ChainRec := []
  caps : List CapRec := []
  persons : List PersonRec := []
  excludes : List ExcludeRec := []
  pairs : List Pair := []
  body : List Byte := []
  deriving DecidableEq, Repr

/-! ### Separation engines -/

abbrev V3 := Rat × Rat × Rat

/-- One joint as an engine measures it (R151). -/
structure JointSt where
  cnt : Int := 0
  cPrev : Nat := 0
  started : Bool := false
  posOrg : Int := 0
  pos : Int := 0
  posPrev : Int := 0
  vel : Int := 0                  -- own speed v_isl, 2⁻¹⁶ turn/s
  stale : Nat := 0                -- consecutive stale ticks
  sinceValid : Nat := 0
  deriving DecidableEq, Repr

/-- What an engine knows of an arm in the tick (R167, R170, R177, R221). -/
structure ArmEng where
  kappa : Nat := 65536
  stop : Bool := false
  near : Bool := false            -- some pair has d < S_p(1) + SSM_HYST + 0.2 mm on the stop basis
  minMargin : Int := 0            -- µm
  nReduce : Nat := 0
  lambda : Nat := 65536
  stale : Bool := false
  lost : Bool := false
  reach : Bool := false
  deriving DecidableEq, Repr

structure PersonSt where
  valid : Bool := false           -- the last fresh report tracks a person
  fault : Bool := false
  fresh : Bool := false           -- in this tick
  zd : Nat := 0
  vel : Int × Int × Int := (0, 0, 0)
  caps : List ((Int × Int × Int) × (Int × Int × Int) × Nat) := []
  stale : Nat := 0
  lost : Bool := false
  seen : Bool := false
  deriving DecidableEq, Repr

/-- The relayed record of a foreign capsule (R174). -/
structure RelaySt where
  p1 : Int × Int × Int := (0, 0, 0)
  p2 : Int × Int × Int := (0, 0, 0)
  uStop : Nat := 0
  uKappa : Nat := 0
  ssStop : Nat := 0
  ssKappa : Nat := 0
  uMax : Nat := 0
  stopDemand : Bool := false
  device : Nat := 0
  stale : Nat := 0                -- consecutive ticks without a relay
  arrived : Option CapRel := none -- the relay that arrived in this tick, used in the next
  deriving DecidableEq, Repr

structure Eng where
  joints : Tbl JointSt := []
  pred : Tbl (V3 × V3) := []      -- predicted ends of capsules by index, persons from 2¹⁶
  dHat : Tbl Rat := []            -- predicted distance of every pair, m
  pairs : Tbl Nat := []           -- 0 CLEAR, 1 REDUCE, 2 STOP
  arms : Tbl ArmEng := []
  published : Bool := false       -- in this tick
  publish : Nat := 0              -- offset of the last publication
  late : Bool := false            -- late in this tick (R44)
  rows : List (List Byte) := []   -- constraint row records of the boundary (R175)
  rowsOk : Bool := false
  rowsCut : Bool := false         -- more than 2,048 pairs qualified at that boundary (R176)
  persons : Tbl PersonSt := []    -- as its own island took the reports (R14, R271)
  relays : Tbl RelaySt := []
  deriving DecidableEq, Repr

/-- An arm that has still to be armed (R173). -/
structure ArmSt where
  isNew : Bool := false
  quiet : Nat := 0                -- ns for which the islands have published stop demand 0 (R223)
  deriving DecidableEq, Repr

/-- A separation channel fault (R170, R171). -/
structure SepFault where
  attributed : Option Island
  pending : Bool                  -- the directed pass has still to give its verdict
  tick : Nat
  deriving DecidableEq, Repr

structure SepSt where
  kin : Kin := {}
  m : Eng := {}
  w : Eng := {}
  arms : Tbl ArmSt := []
  disagree : Bool := false
  disCount : Nat := 0             -- consecutive disagreeing ticks, 0 to 3
  compared : Bool := false        -- the tick's results have been compared
  pairSt : Tbl Nat := []          -- combined state of each pair that is not CLEAR, as last recorded (R166)
  taken : Bool := false           -- the present run of disagreement has been taken as a channel fault
  lateM : Nat := 0                -- consecutive late ticks
  lateW : Nat := 0
  chFault : Option SepFault := none
  bothFailed : Bool := false
  publishMax : Nat := 0
  publishPub : Nat := 0
  latchV : Tbl (Int × Int) := []  -- v_ref and a_ref captured by the latch of the previous tick (R163)
  deriving DecidableEq, Repr

/-! ### Solver; binary64 values are kept as their 64-bit words (R10) -/

structure VarRec where
  tag : Nat
  kind : Nat                      -- 1 SIGMA, 2 DV, 3 AUX
  obj : Word
  deriving DecidableEq, Repr

structure RowRec where
  tag : Nat
  cols : List Nat
  deriving DecidableEq, Repr

structure BlockRec where
  armA : Nat
  armB : Option Nat
  count : Nat
  deriving DecidableEq, Repr

/-- The values of a structure that SOLVER_UPDATE changes (R193). -/
structure StructVals where
  p : List Word64 := []
  q : List Word64 := []
  a : List Word64 := []
  l : List Word64 := []
  u : List Word64 := []
  lb : List Word64 := []
  ub : List Word64 := []
  deriving DecidableEq, Repr

structure Struct where
  generation : Word
  vars : List VarRec
  pents : List (Nat × Nat)
  rows : List RowRec
  blocks : List BlockRec
  perm : List Nat
  vals : StructVals
  footprint : Nat := 0
  nnzK : Nat := 0
  nnzL : Nat := 0
  factorEst : Nat := 0
  iterEst : Nat := 0
  damaged : Bool := false         -- R479
  deriving DecidableEq, Repr

/-- An active pair row: its place, its pair, its coefficients by variable, its lower bound (R183). -/
structure PairRow where
  row : Nat
  pair : Nat
  coefs : List (Nat × Rat)
  l : Rat
  deriving DecidableEq, Repr

/-- An iterate with its residuals (R197). -/
structure Iterate where
  x : List Rat := []
  z : List Rat := []
  y : List Rat := []
  rp : Rat := 0
  rd : Rat := 0
  r : Rat := 0
  rRatioP : Rat := 0
  rRatioD : Rat := 0
  deriving DecidableEq, Repr

/-- A solve in progress. -/
structure Solve where
  handle : Nat
  generation : Word
  deadline : Nat                  -- ns from T0 of the boundary
  warm : Nat                      -- 0 COLD, 1 WARM, 2 MAPPED
  image : Struct                  -- the structure with its values as copied (R194)
  pairRows : List PairRow
  pinned : List Nat               -- variables held to 0 (R184, R187)
  rho : Rat
  factored : Bool := false
  newRho : Option Rat := none
  switched : Bool := false
  cur : Iterate := {}
  best : Iterate := {}
  iter : Nat := 0
  boundaryNs : Nat := 0
  unplaced : Nat := 0
  deriving DecidableEq, Repr

/-- The result block (R201). -/
structure SolveResult where
  outcome : Nat := 0
  handle : Nat := 0
  generation : Word := 0
  it : Iterate := {}
  iters : Nat := 0
  rho : Rat := 0
  vtags : List Nat := []          -- tags of the structure it was solved on
  rtags : List Nat := []
  pairs : List Nat := []          -- PAIR of each active pair row
  kinLoads : Nat := 0
  finite : Bool := true
  sigma : List (Nat × Nat) := []  -- σ by group
  dv : List (Nat × Int) := []     -- δv by axis
  deriving DecidableEq, Repr

structure StructLoading where
  hdr : Hdr
  handle : Nat
  image : Struct
  deriving DecidableEq, Repr

structure SolverSt where
  structs : Tbl (Option Struct) := []
  highGen : Tbl Nat := []
  loading : List StructLoading := []
  selected : Option Nat := none
  place : List (Nat × Nat) := []  -- row to PAIR of the previous period (R186)
  placeOf : Option (Nat × Word) := none
  solve : Option Solve := none
  warmVec : Option SolveResult := none
  result : Option SolveResult := none
  due : Bool := false             -- a result waits for step 4 of the next boundary
  vplan : Tbl Rat := []           -- planned joint velocity, rad/s or m/s (R183)
  vplanOk : Bool := false
  bad : Nat := 0
  outcome : Nat := 0
  warm : Nat := 0
  usable : Bool := false
  hold : Nat := 0
  ramping : Bool := false
  rhoSwitch : Bool := false
  handle : Nat := 0
  unplacedBit : Bool := false
  iters : Nat := 0
  resid : Word64 := 0
  solveEnd : Nat := 0
  mapped : Word := 0
  unplaced : Nat := 0
  kinLoads : Nat := 0
  deriving DecidableEq, Repr

/-! ### Safety -/

structure TestRec where
  tp : Nat
  period : Nat                    -- ms
  width : Nat                     -- µs
  tail : Nat
  delay : Nat
  deriving DecidableEq, Repr

structure InputRec where
  input : Nat
  antival : Bool
  tpA : Nat
  tpB : Nat
  filter : Nat
  disc : Nat
  stoMap : Nat
  ss1Map : Nat
  deriving DecidableEq, Repr

structure ZoneRec where
  zone : Nat
  auto : Bool
  members : List Word
  deriving DecidableEq, Repr

structure SlsRec where
  group : Nat
  input : Option Nat              -- none: host-only
  limit : Nat
  deriving DecidableEq, Repr

structure SafeImg where
  loaded : Bool := false
  generation : Word := 0
  tests : List TestRec := []
  inputs : List InputRec := []
  zones : List ZoneRec := []
  sls : List SlsRec := []
  body : List Byte := []
  deriving DecidableEq, Repr

structure ZoneSt where
  runM : Bool := false            -- Madder's zone command: the run level
  runW : Bool := false            -- Woad's zone command
  offM : Nat := 0                 -- ns at which Madder's command last went to the safe level
  offW : Nat := 0
  cause : Nat := 0                -- Table 8.13
  causeInput : Option Nat := none
  hostReq : Nat := 0              -- standing SAFE_STOP request: 0 none, 1 SS1, 2 STO
  lastSto : Nat := 0              -- ns of the last tick in STO
  late : Bool := false            -- its STO missed the last downstream window (Table 8.6)
  testDue : Bool := false
  stuckA : Option Bool := none    -- ZSA's readback has differed from its command: it stands at the safe level, or at the run level
  stuckB : Option Bool := none    -- the same of ZSB
  deriving DecidableEq, Repr

/-- Both islands command the run level: the more restrictive of the two commands stands (R211, R239). -/
def ZoneSt.released (z : ZoneSt) : Bool := z.runM && z.runW

/-- Both islands command the safe level from `n` on, each island at its own time: the one that hears of the cause over the
cross-link follows it by two samples of 20 ns (R211, R226). -/
def ZoneSt.withdraw (n : Nat) (byM byW : Bool) (z : ZoneSt) : ZoneSt :=
  { z with
    runM := false, offM := if z.runM then n + (if byM then 0 else 40) else z.offM
    runW := false, offW := if z.runW then n + (if byW then 0 else 40) else z.offW }

/-- What a zone keeps when its record is discarded: its pins, and its last stop. -/
def ZoneSt.pinsOnly (z : ZoneSt) : ZoneSt :=
  { cause := z.cause, causeInput := z.causeInput, lastSto := z.lastSto, stuckA := z.stuckA, stuckB := z.stuckB }

/-- Axis STO (R215, R223). -/
structure AxisSto where
  on : Bool := false
  needReset : Bool := false
  deriving DecidableEq, Repr

/-- Table 8.2: what the request is scoped to. -/
inductive Ss1Scope where
  | zones (zs : List Nat)
  | axis
  deriving DecidableEq, Repr

structure Ss1Req where
  id : Nat
  scope : Ss1Scope
  obj : Word
  axes : List Nat
  t0 : Nat                        -- tick number at which it starts
  begun : Bool := false
  cause : Nat := 0
  fromDemand : Bool := false      -- stop demand of an arm: may release automatically (R223)
  deriving DecidableEq, Repr

/-- Monitoring data of an axis under SS1: its own t₀ and v₀ per island (R218, R219). -/
structure Ss1Mon where
  t0 : Nat
  v0M : Nat
  v0W : Nat
  deriving DecidableEq, Repr

/-- One SLSMAP record, by its place in the image (R220, R222). -/
structure SlsSt where
  hostOn : Bool := false
  active : Bool := false
  since : Nat := 0                -- ns at which it became active
  monitoring : Bool := false
  deriving DecidableEq, Repr

structure InputSt where
  aQ : Bool := false
  bQ : Bool := false
  qualA : Nat := 0                -- ns at which channel A's qualified level last changed
  qualB : Nat := 0
  runStart : Option Nat := none   -- ns at which the present discrepancy run began
  aFirst : Bool := false          -- channel A changed first in the run
  runFault : Bool := false        -- the run has been judged a fault
  discFault : Bool := false
  tpFault : Bool := false
  armed : Bool := false
  maskA : Bool := false
  maskB : Bool := false
  openA : Nat := 0                -- ns at which channel A's last masked window ends
  openB : Nat := 0
  discLast : Nat := 0
  deriving DecidableEq, Repr

structure TpSt where
  low : Bool := false             -- a test pulse is in progress
  startNs : Nat := 0
  outFault : Bool := false
  beforeA : List Nat := []        -- inputs whose channel A was qualified high just before the pulse
  beforeB : List Nat := []
  deriving DecidableEq, Repr

/-- Degraded mode of the safety channels (R239, R240). -/
structure Degraded where
  attributed : Option Island
  entry : Nat                     -- tick of entry
  expired : Bool := false
  deriving DecidableEq, Repr

structure SafetySt where
  img : SafeImg := {}
  armed : Bool := false
  armedCrc : Word := 0
  pendArms : List (Hdr × Word) := []
  directed : Bool := false        -- a directed test awaits its verdict for a fault of R237 (R238)
  directedItem : Nat := 0
  pendGroups : List (Hdr × Nat × Word) := []
  armedArms : Tbl Bool := []
  zones : Tbl ZoneSt := []
  axisSto : Tbl AxisSto := []
  reqs : List Ss1Req := []
  nextReq : Nat := 1
  mon : Tbl (Option Ss1Mon) := []
  sls : Tbl SlsSt := []
  inputs : Tbl InputSt := []
  tps : Tbl TpSt := []
  ccCounts : Tbl Nat := []
  degraded : Option Degraded := none
  degPending : Option (Option Island) := none   -- degraded mode begins or changes at the next tick (R239)
  secondFault : Bool := false
  madderAlive : Bool := true
  woadAlive : Bool := true
  deriving DecidableEq, Repr

end Sys2Proof.Machine
end

