-- ==== Sys2Proof/Machine/StateBus.lean ====
section
/-!
DEFINITION. State, fourth part: Selide and the cell link (chapter 9), lanes (chapters 10 and 11), network time
(chapter 12), CAN (chapter 13), faults, capacity and ageing (chapter 17), power and start-up (chapters 18 and 19).
Every field's default is its value at reset.
-/
namespace Sys2Proof.Machine

/-! ### The SCHEDULE image (R274) -/

structure TrunkRec where
  trunk : Nat
  role : Nat                      -- 1 drive, 2 cell link
  joinStart : Nat
  deriving DecidableEq, Repr

structure SlotRec where
  owner : Word
  trunk : Nat
  sched : Nat                     -- 0 normal, 1 A only, 2 B only
  chan : Nat                      -- 0 A, 1 B
  dir : Nat                       -- 0 upstream, 1 downstream
  slot : Nat
  spare : Bool
  start : Nat
  length : Nat
  payload : Nat
  deriving DecidableEq, Repr

structure Schedule where
  loaded : Bool := false
  generation : Word := 0
  trunks : List TrunkRec := []
  slots : List SlotRec := []
  deriving DecidableEq, Repr

/-! ### Nodes and trunks -/

/-- Sub-frame state of a node at one island (R270 to R272). -/
structure SubSt where
  valid : Bool := false           -- in this tick
  first : Bool := true            -- the next sub-frame is accepted with any SEQ
  lastSeq : Word16 := 0
  missing : Nat := 0              -- consecutive ticks without a valid sub-frame
  timedOut : Bool := false
  deriving DecidableEq, Repr

structure NodeSt where
  state : Nat := 0                -- Table 9.15
  wake : Bool := false
  mute : Bool := false
  released : Bool := false        -- released by GROUP_REMOVE (R474)
  nax : Nat := 0
  nrep : Nat := 0
  retains : Bool := false
  slots : List SlotRec := []      -- granted slots (R279)
  activeFrom : Nat := 0           -- tick from which it transmits
  validData : Bool := false       -- a valid DATA frame has arrived since the grant
  placed : Bool := false          -- its axes have stopped being ABSENT
  buf : Option (List Byte) := none   -- last complete valid DATA payload of this tick (R283)
  arrived : Bool := false         -- a DATA, NULL or LEAVE frame of the tick was accepted
  arrivedA : Bool := false
  arrivedB : Bool := false
  nullFrame : Bool := false
  subM : SubSt := {}
  subW : SubSt := {}
  stoAct : Word16 := 0
  safeFault : Bool := false
  stoSince : Tbl Nat := []        -- per channel: tick from which STO_ACT is due plus one, 0 none
  downSeq : Word16 := 0
  stale : Bool := false
  staleCnt : Nat := 0
  silent : Nat := 0
  edge : Bool := false
  violations : Nat := 0
  violated : Bool := false
  offset : Int := 0
  corrA : Int := 0
  corrB : Int := 0
  pendCorrA : Int := 0
  pendCorrB : Int := 0
  hopA : Option Nat := none       -- HOP_A and HOP_B of its JOIN, 0.125 ns (Table 9.9)
  hopB : Option Nat := none
  fwver : Nat := 0                -- FWVER of its JOIN
  crcErr : Nat := 0
  staleTicks : Nat := 0
  extBuf : Option (List Byte) := none     -- extended payload waiting for the next intake (R43)
  extNow : Option (List Byte) := none     -- extended payload taken at this intake
  leaving : Bool := false         -- LEAVE received, or silent: its slots are spare from the next tick
  goneNext : Bool := false        -- it leaves because it was silent
  left : Bool := false            -- it has left or gone: its axes are ABSENT until placed again
  missA : Nat := 0                -- consecutive ticks with frames missing on A and valid on B
  missB : Nat := 0
  lostSeen : Bool := false        -- a frame of it arrived on the lost channel in this tick
  nullSeen : Bool := false        -- a valid NULL frame arrived there in this tick
  nullM : SubSt := {}             -- sub-frames on the lost channel, by island (R287)
  nullW : SubSt := {}
  staleCause : Nat := 0           -- 1 missing, 2 NULL, 3 sub-frame
  words : Tbl Word64 := []        -- setpoint words last sent, by channel (Table 9.4)
  service : List Byte := []       -- service bytes queued by NODE_SEND (R269)
  sends : List (Hdr × Nat) := []  -- NODE_SEND commands under way and their bytes left
  downSub : Option SubFrame := none       -- the last downstream sub-frame (R270)
  deriving DecidableEq, Repr

structure TrunkSt where
  sched : Nat := 0
  schedNext : Nat := 0
  aLost : Bool := false
  bLost : Bool := false
  lockA : Bool := true
  lockB : Bool := true
  lostNs : Nat := 0
  nullRun : Nat := 0
  restore : Bool := false         -- resume the normal schedule at the next boundary
  expired : Bool := false
  conflict : Bool := false
  master : Bool := true
  followed : Bool := false
  echoA : Option Nat := none      -- offset at which an echo symbol goes back on channel A in this tick (R262)
  echoB : Option Nat := none
  grant : Option (List Byte) := none      -- GRANT payload sent in this tick (Table 9.10)
  cycleStarts : Nat := 0          -- ticks in which CYCLE_START was sent
  sent : List Frame := []         -- frames sent since T0, in order (R257)
  deriving DecidableEq, Repr

structure SelideSt where
  sched : Schedule := {}
  started : Bool := false
  startPending : Option Hdr := none
  startNs : Nat := 0
  joinOpen : Bool := false
  nodes : Tbl NodeSt := []
  trunks : Tbl TrunkSt := []
  deriving DecidableEq, Repr

/-! ### Cell link (R289 to R293) -/

/-- A command forwarded over the link (R292). -/
structure LinkCmdSt where
  seq : Nat
  hdr : Option Hdr := none        -- on the leader
  cmd : Instr
  effect : Word
  waiting : List Nat := []        -- devices that have still to answer
  answers : List (Nat × Word) := []   -- rejecting answers: status and object
  status : Word := 0
  obj : Word := 0
  goSent : Option Bool := none
  aborted : Bool := false         -- an ABORT has cancelled it (R424)
  tick : Nat := 0                 -- tick in which the leader accepted it, or the member received it
  desc : List Byte := []          -- the command descriptor
  deriving DecidableEq, Repr

structure GStatSt where
  state : Nat := 0
  flags : Byte := 0
  first : Word16 := 0
  deriving DecidableEq, Repr

/-- What a device of the link keeps of the LINK frames of another (R259, R264, R271, R289). -/
structure LinkRx where
  subM : SubSt := {}
  subW : SubSt := {}
  violations : Nat := 0           -- consecutive ticks with SLOT_VIOLATION (R264)
  violated : Bool := false
  mute : Bool := false            -- MUTE bit of the member (R282, R289)
  hop : Nat := 0                  -- HOP_A of its JOIN
  fwver : Nat := 0
  frame : Option Frame := none    -- the last frame accepted in this tick
  corr : Int := 0                 -- timing correction of the member, 0.125 ns; the leader's
  pendCorr : Int := 0
  deriving DecidableEq, Repr

structure LinkSt where
  run : Nat := 0                  -- consistent CYCLE_START frames (R277)
  lastCycle : Option Word := none
  lastGen : Word := 0
  lastArrival : Int := 0
  hop : Nat := 0                  -- the member's upstream hop delay h_p, in 0.125 ns; 0 before a measurement (R262)
  delay : Int := 0                -- its delay D_p, in 0.125 ns (R263)
  echoOut : Bool := false         -- it sends an echo at its local T0 + 22,000 ns of this tick (R262)
  hopAge : Option Nat := none     -- ticks since it measured h_p; none since it lost lock
  joinTick : Option Nat := none   -- tick in which it sent JOIN, and when after its local T0, 0.125 ns (R277)
  joinAt : Int := 0
  muted : Bool := false           -- MUTE of its position is set (R282)
  portB : List Frame := []        -- frames repeated downstream on its channel B port in this tick (R289)
  error : Int := 0                -- leader's time less its own while it waits to rejoin, ns (R365)
  locked : Bool := false
  joined : Bool := false
  lost : Bool := false
  missed : Nat := 0
  seen : Bool := false
  cmds : List LinkCmdSt := []
  nextSeq : Nat := 0
  gstat : Tbl GStatSt := []       -- by remote group's cell index
  gstatNew : Tbl GStatSt := []
  sigma : Tbl Nat := []
  relayOut : List (List Byte) := []   -- CAPREL and SIGMA records to repeat in this tick (R291)
  present : List Nat := []        -- member devices present
  away : List Nat := []           -- member devices that have fallen silent and not rejoined (R293)
  silent : Tbl Nat := []          -- ticks since a record of a member device arrived
  out : List (List Byte) := []    -- records sent in the last downstream window, or the member's own slots
  rx : Tbl LinkRx := []           -- by sending device
  seq : Word16 := 0               -- SEQ of the last LINK sub-frame sent
  deriving DecidableEq, Repr

/-! ### Lanes -/

/-- The register file and pipeline state of one pair (R309, R314 to R316, R347 to R349). -/
structure LaneRegs where
  d : Cells 32 := []
  a : Cells 80 := []
  p : Cells 32 := []
  m : Cells 32 := []
  b : Cells 16 := []
  l : Cells 16 := []
  lc : BitVec 11 := 0
  mode : Word := 0x5
  flags : Word := 0
  bexp : Word := 0
  pc : Nat := 0
  delay : Nat := 0                -- delay slots left of a flow instruction
  target : Option Nat := none     -- where the delay slots lead, if taken
  pendD : List (Nat × Word) := [] -- loads whose value reaches its register after the next instruction (R316)
  pendC : List (CtrlReg × Word) := []
  shadow : List (Nat × Nat × Word) := []  -- space, address, old word of the last store (R348)
  call : Bool := false            -- the target is a call's: the return address is pushed after the delay slots
  viaRet : Bool := false          -- the target is a return's
  held : Nat := 0                 -- instruction boundaries at which no event is taken: delay slots and the one behind (R319)
  heldCyc : Nat := 0              -- cycles for which no event is taken after the last repetition of an RPT (R319)
  stack : List Nat := []
  rpt : Option Nat := none        -- RPT decoded: repetitions of the next instruction
  cache : List Nat := []          -- tags of the repeat cache, most recent first (R308)
  waiting : Bool := false
  cycles : Nat := 0
  fault : Bool := false           -- an address fault or an undefined instruction has been met
  deriving DecidableEq, Repr

/-- What other blocks have written into the regions that lane code only reads (R301, R302): the write that a region's words
come from. -/
structure ExtWrites where
  intake : Nat := 0
  viewM : Nat := 0
  viewW : Nat := 0
  shadow : Nat := 0
  cfg : Tbl (Nat × Nat × Nat) := []   -- by slot: write, pair and slot its configuration and coefficients come from
  deriving DecidableEq, Repr

structure PairSt where
  state : Nat := 0                -- Table 10.2
  lane : Option Nat := none
  reserve : Bool := false
  fails : Nat := 0
  recovering : Bool := false
  failTick : Nat := 0
  regs : LaneRegs := {}
  pMem : Cells 32 := []
  xMem : Cells 32 := []
  yMem : Cells 32 := []
  ext : ExtWrites := {}
  events : List Nat := []         -- lane events raised and not yet taken, by priority (Table 10.10)
  userAxis : Option Nat := none
  drawn : Nat := 0                -- the model's count of open words read by this pair; no spec rule names it
  deriving DecidableEq, Repr

/-- A failed pair's lane until its first tick on the reserve (R334), or until its placement acts (R466). -/
structure Takeover where
  failed : Nat
  pair : Option Nat               -- the reserve that takes over; none for a lane loss
  failNs : Nat
  firstTick : Nat
  prevStart : Bool                -- the failed pair was in START
  extrapolated : Nat := 0         -- ticks of the lane whose latch falls in between
  damaged : List (Nat × Nat) := []  -- slot (or 64 for the control block) and region met with an uncorrectable word
  deriving DecidableEq, Repr

/-- Where an axis of a lost lane goes (R465). -/
structure PlanMove where
  axis : Nat
  lane : Nat
  slot : Nat                      -- the slot it takes there
  full : Bool
  deriving DecidableEq, Repr

structure LaneLoss where
  failed : Nat
  lostNs : Nat
  firstTick : Nat                 -- the destination lanes compute the moved axes from here
  moves : List (PlanMove × Nat)   -- with the slot the axis held
  host : Option Nat
  half : Bool := false            -- the lost lane computed at half rate (R50)
  damaged : List (Nat × Nat) := []  -- slot (or 64 for the control block) and region met with an uncorrectable word (R335)
  deriving DecidableEq, Repr

structure LogLane where
  slots : Tbl (Option Nat) := []  -- slot to axis
  wide : Bool := false            -- 64 slots
  degraded : Bool := false        -- degraded half-rate mode (R50)
  degTick : Nat := 0
  degNs : Nat := 0
  overruns : List Nat := []       -- ticks of the last overruns
  enterAt : Option Nat := none    -- degraded mode begins at this tick
  degPlan : Option (Nat × Nat) := none  -- target lane of the migration of R51 and the tick it was chosen
  expiredSs1 : Bool := false
  takeover : Option Takeover := none
  loss : Option LaneLoss := none
  pass1 : Bool := false
  pass2 : Bool := false
  finish : Nat := 0
  skipFrom : Option Nat := none   -- user stages from this slot on are skipped in this tick (R327)
  abandon : Option Nat := none    -- axis whose kernel used its budget in this tick (R327)
  plan : List PlanMove := []
  planHost : Option Nat := none
  deriving DecidableEq, Repr

structure KEntry where
  entry : Nat
  addr : Nat
  budget : Nat
  holdoff : Nat
  deriving DecidableEq, Repr

structure Kernel where
  generation : Word := 0
  prog : List Word := []
  xc : List Word := []
  yc : List Word := []
  xa : List Word := []
  ya : List Word := []
  entries : List KEntry := []
  binds : List (Nat × Nat) := []  -- axis, entry
  deriving DecidableEq, Repr

/-- An accepted KERNEL image on its way to activation (R330). -/
structure KernelLoad where
  hdr : Hdr
  image : Kernel
  accepted : Nat
  suspended : Bool := false
  deriving DecidableEq, Repr

/-- An identification sweep (R331). -/
structure SweepSt where
  hdr : Hdr
  axis : Nat
  args : SweepArgs
  startTick : Nat
  elapsedNs : Nat := 0
  phase : Rat := 0
  n : Nat := 0
  samples : Nat := 0
  stop : Option Bool := none      -- it ends: true at its natural end, false early
  deriving DecidableEq, Repr

structure LanesSt where
  pairs : Tbl PairSt := []
  log : Tbl LogLane := []
  kernel : Option Kernel := none
  loads : List KernelLoad := []   -- in order of acceptance
  disabled : List Nat := []       -- axes whose binding is disabled (R326)
  aborts : Tbl (List Bool) := []  -- last 32 computations of the bound axes, true where abandoned
  sweeps : List SweepSt := []
  deriving DecidableEq, Repr

/-! ### Capacity changes (R471 to R477) -/

inductive CapChange where
  | migrate (h : Option Hdr) (axis lane : Nat)
  | remove (h : Hdr) (group : Nat)
  | add (h : Hdr) (group : Nat)
  | half (h : Hdr) (group : Nat) (on : Bool)
  deriving DecidableEq, Repr

/-- An axis on its way between lanes, until the intake of the boundary (R471, R472). -/
structure Moving where
  host : Option Hdr
  axis : Nat
  fromLane : Nat
  fromSlot : Nat
  toLane : Nat
  toSlot : Nat
  why : Nat                       -- 0 AXIS_MIGRATE, 1 degraded mode (R51), 2 rehoming (R468)
  deriving DecidableEq, Repr

/-! ### Time -/

structure DomainSt where
  state : Nat := 0
  port : Nat := 0
  twoStep : Bool := false
  master : Option Nat := none
  cls : Nat := 0xF8
  lockRun : Nat := 0
  badRun : Nat := 0
  offset : Int := 0
  freq : Int := 0
  prevOffset : Option Int := none
  lastSync : Option (Int × Int) := none   -- the last Sync: master's time and ingress time, ns
  pathDelay : Int := 0            -- delay to its master in E2E mode, ns
  delaySeq : Nat := 0             -- its own Delay_Req under way
  delayOut : Bool := false
  usableSince : Option Nat := none
  utcHeld : Option Int := none
  leap61 : Bool := false
  leap59 : Bool := false
  best : List (Nat × Nat × Announce) := []   -- best accepted Announce per port: port, source, data set
  wasUsable : Bool := false            -- as judged at the last boundary
  sawTimeout : Bool := false           -- since that boundary
  sawUnlock : Bool := false
  timeoutNs : Nat := 0                 -- ns at which the last accepted Announce runs out
  syncHeld : Option (PtpHdr × DevTime) := none   -- two-step Sync waiting for its Follow_Up
  deriving DecidableEq, Repr

/-- A residence held for a Follow_Up (R358). -/
structure HeldRes where
  egress : Nat
  source : Nat
  domain : Byte
  seq : Word16
  value : Nat
  ns : Nat
  deriving DecidableEq, Repr

/-- A frame that leaves an Ethernet port: one bridged, a PTP message of others, or one of the C512's own (R353, R354). -/
inductive EgFrame where
  | bridged (f : EthFrame)
  | ptp (m : PtpHdr) (kind : Option PtpEventKind) (udpSum0 : Bool)   -- no kind: a Follow_Up; the UDP checksum is sent as 0
  | own (kind : PtpEventKind) (domain seq : Nat)
  deriving DecidableEq, Repr

structure EthPort where
  up : Bool := false
  linkDelay : Nat := 0
  respSent : Bool := false
  pdelaySeq : Nat := 0
  pdelayOut : Bool := false
  reqNs : Option Nat := none      -- ns at which the port last sent a request (R355)
  turn : Nat := 0                 -- ns between the last peer-delay request and its answer
  autoneg : Bool := false
  deriving DecidableEq, Repr

structure TimeSt where
  sec : Nat := 0
  ns : Nat := 0                   -- device time at T0 of this tick
  source : Nat := 0
  sel : Nat := 0
  everSel : Bool := false
  freqCorr : Int := 0             -- ppb
  remaining : Rat := 0            -- error still to be slewed out, ns
  slewing : Bool := false
  slewStart : Nat := 0
  alignSlew : Bool := false
  steppable : Bool := true
  utcOffset : Int := 37
  utcValid : Bool := false
  leap61 : Bool := false
  leap59 : Bool := false
  leapSec : Bool := false         -- a positive leap second is shown now
  domains : Tbl DomainSt := []
  eth : Tbl EthPort := []
  fdb : List (Nat × Nat) := []    -- learned addresses and their port (R353)
  egress : Tbl (List EgFrame) := []   -- bridge: frames waiting, by 8 × port + queue (R353)
  left : Tbl (List EgFrame) := []     -- by port: frames that left in the tick before, in order
  held : List HeldRes := []
  residenceMax : Nat := 0
  v6Fwd : Nat := 0
  fuUnmatched : Nat := 0
  ppsIn : Int := 0
  ppsSeenNs : Option Nat := none
  ppsHigh : Bool := false
  ppsEndNs : Nat := 0
  bridged : Nat := 0              -- frames forwarded between the ports
  deriving DecidableEq, Repr

/-! ### CAN -/

structure CanTx where
  msg : CanMsg
  attempts : Nat := 0
  errors : Nat := 0
  ackRun : Nat := 0
  noAckDone : Bool := false
  clashRun : Nat := 0
  clashDone : Bool := false
  cancelled : Bool := false
  cycle : Word := 0
  tOff : Nat := 0
  sof : Option DevTime := none    -- device time of the last attempt's SOF (R388)
  outcome : Option Nat := none    -- decided, waiting for room in the event FIFO (R384)
  deriving DecidableEq, Repr

/-- Automatic bit-rate detection in progress (R381). -/
structure CanAbd where
  hdr : Hdr
  thenMode : Nat
  cand : Nat := 0
  frames : Nat := 0
  startNs : Nat := 0
  dwellNs : Nat := 0
  deriving DecidableEq, Repr

structure CanSt where
  mode : Nat := 0
  pendMode : Option Nat := none
  queue : List CanTx := []
  attempt : Bool := false
  tec : Nat := 0
  recCnt : Nat := 0
  busOff : Bool := false
  recovering : Bool := false
  noAck : Bool := false
  clash : Bool := false
  rxOvf : Bool := false
  txevFull : Bool := false
  dropped : Nat := 0
  tdcMeas : Nat := 0
  ssp : Nat := 0                  -- secondary sample point of the last frame sent with BRS, CAN clocks (R377)
  integrating : Bool := false     -- a protocol exception: it waits for the bus to be idle (Table 13.1)
  abd : Option CanAbd := none
  deriving DecidableEq, Repr

/-! ### Health -/

structure ClkDomain where
  margin : Nat := 0
  steps : Nat := 0
  pending : Bool := false
  forced : Bool := false
  forcing : Bool := false         -- the step that is due has been forced
  exhausted : Bool := false
  dueNs : Option Nat := none
  ready : Option Nat := none      -- tick of the boundary at which the step takes effect
  lastGain : Option Int := none
  stepMargin : Option Nat := none -- margin before a step whose gain has still to be measured
  hourly : List Nat := []         -- hourly means, oldest first
  hourSum : Nat := 0
  hourN : Nat := 0
  deriving DecidableEq, Repr

structure HealthSt where
  changes : List CapChange := []
  moving : List Moving := []
  removed : List Nat := []        -- axes marked removed (R474)
  absent : List Nat := []         -- axes that could not be placed (R473)
  halfGroups : Tbl Bool := []
  halfAxes : List Nat := []       -- axes under half rate by choice
  eccCorrected : Nat := 0
  eccUncorrectable : Nat := 0
  scrubPasses : Nat := 0
  scrubLast : Nat := 0
  warmDamaged : Bool := false
  poison : List Nat := []         -- host-window words that read poisoned
  clk : Tbl ClkDomain := []
  eye : Tbl Nat := []
  retrain : List Nat := []
  serviceNs : Nat := 0
  lostNs : Nat := 0
  faultStop : List Nat := []      -- axes stopped by a fault of the device (R487)
  thermalArmed : Bool := true
  tripM : Bool := false
  tripW : Bool := false
  tempM : Int := 0
  tempW : Int := 0
  supLost : Option Nat := none    -- ns of the detection of a supervisor loss (R470)
  supStopped : Bool := false
  lateTasks : List (Nat × Nat) := []
  calibrated : Tbl Nat := []      -- ns of the last calibration of each SerDes unit
  deriving DecidableEq, Repr

/-! ### Power, straps, boot -/

/-- Fuse banks (R3). The spec gives them no content: blank at reset, DESIGN CHOICE (log entry 8). -/
structure Fuses where
  serial : Word64 := 0
  vendorHash : List Byte := List.replicate 48 0
  custHash : List Byte := List.replicate 48 0
  custPresent : Bool := false
  vendorDisabled : Bool := false
  eccErr : Bool := false
  deriving DecidableEq, Repr

/-- Result of one strap-sensed pin (Table 18.3). -/
structure Strap where
  high : Bool := false
  unstrapped : Bool := false
  s20 : Nat := 0                  -- the samples: 0 low, 1 high, 2 between
  s45 : Nat := 0
  deriving DecidableEq, Repr

/-- A running firmware image's identity (R412). -/
structure FwInfo where
  release : Word16
  build : Word16
  keySel : Byte
  deriving DecidableEq, Repr

structure PowerSt where
  fuses : Fuses := {}
  rails : Tbl Bool := []
  refclk : Bool := true
  reset : Bool := true            -- internal reset is asserted
  bootState : Nat := 0            -- Table 14.3
  bootError : Nat := 0
  phase : Nat := 0                -- Table 18.6
  failCause : Nat := 0
  strapDone : Bool := false
  straps : Tbl Strap := []
  fw : Option FwInfo := none
  fwPending : Option FwInfo := none   -- verified, waiting for FW_RUNNING
  fuseWrite : Nat := 0            -- 0 none, 1 customer key, 2 vendor disable
  fuseData : List Byte := []
  bist : Word := 0
  tap : TapInstr := .idcode      -- the instruction shifted in last (R521)
  runPend : List Hdr := []            -- DEVICE_RUN commands accepted, waiting for their planning boundary (R508)
  deriving DecidableEq, Repr

end Sys2Proof.Machine
end

