-- ==== Sys2Proof/Machine/State.lean ====
section
/-!
DEFINITION. The whole state of the Broddan C512 as plain data, the reasons a step can stop, and the state at
reset: the block before its first rail is valid, with every memory empty and no image loaded (R3, R491, R496).
-/
namespace Sys2Proof.Machine

/-- The supervisor's checkpoint of a planning boundary (R426). -/
structure Checkpoint where
  par : ParamSt := {}             -- dictionary and staged values
  cell : Cell := {}               -- object model
  queues : Tbl Queue := []
  supply : SupplySt := {}
  inflight : List InFlight := []
  changes : List CapChange := []  -- what the planning schedule holds for a later boundary
  runPend : List Hdr := []
  armPend : List (Hdr × Word) := []
  rings : Tbl Ring := []          -- ring counters
  deriving DecidableEq, Repr

structure State where
  power : PowerSt := {}
  host : HostIf := {}
  par : ParamSt := {}
  cell : Cell := {}
  tick : TickSt := {}
  axes : Tbl Axis := []
  queues : Tbl Queue := []        -- by object reference of a GROUP or AXIS
  sigma : Tbl SigmaSt := []       -- by GROUP
  supply : SupplySt := {}
  ports : Tbl Port := []
  cmps : Tbl CmpSt := []
  sep : SepSt := {}
  solver : SolverSt := {}
  safety : SafetySt := {}
  selide : SelideSt := {}
  link : LinkSt := {}
  lanes : LanesSt := {}
  time : TimeSt := {}
  can : Tbl CanSt := []
  recd : RecSt := {}
  health : HealthSt := {}
  chk : Checkpoint := {}
  /-- The model's own counter of free values drawn; no spec rule names it. -/
  free : Nat := 0
  /-- The commands that wait, first in, first out. -/
  pending : List Instr := []
  deriving DecidableEq, Repr

/-- Why a step stops with a fault. -/
inductive Fault where
  /-- Raised by HOST_WINDOW_WRITE for bytes outside the 4 MB of BAR2 (R401, R405). Safe: the spec gives no such
  address to the block. -/
  | outsideHostWindow
  deriving DecidableEq, Repr

/-- Why a command has no meaning. -/
inductive Refusal where
  /-- Raised by an arm of `exec` whose command has no meaning yet. Safe. -/
  | notModelled (mnemonic : String)
  deriving DecidableEq, Repr

/-- The block right after power is applied: no rail is valid, internal reset is asserted. -/
def State.reset : State := {}

end Sys2Proof.Machine
end

