-- ==== Sys2Proof/Machine/ParamTable.lean ====
section
/-!
DEFINITION. The parameter dictionary's description: one row for each parameter table row of chapters 2 to 18, with the
number range, type, class, range, default and commit class the row states (R432 to R434, R441).
-/
namespace Sys2Proof.Machine

/-- One row of a parameter table; `ty` and `cls` are the codes of Tables 15.3 and 1.4. -/
structure PRow where
  num : Nat
  last : Nat
  ty : Nat
  cls : Nat
  lo : Int := 0
  hi : Int := 0
  dflt : Nat
  tick : Bool := false
  ro : Bool := false
  clear0 : Bool := false
  chk : Bool := false
  also : Bool := false
  nchoice : Nat := 0
  flo : Rat := 0
  fhi : Rat := 0
  deriving DecidableEq, Repr

/-- Table 2.4. -/
def paramTick : List PRow := [
  { num := 0x0010, last := 0x0010, ty := 8, cls := 0, lo := 0, hi := 2, dflt := 0, nchoice := 3 },
  { num := 0x0011, last := 0x0011, ty := 2, cls := 0, lo := 1000, hi := 60000, dflt := 10000 },
  { num := 0x0018, last := 0x0018, ty := 2, cls := 0, lo := 0, hi := 4294967295, dflt := 0, tick := true, ro := true },
  { num := 0x0019, last := 0x0019, ty := 2, cls := 0, lo := 0, hi := 4294967295, dflt := 0, tick := true, ro := true },
  { num := 0x001A, last := 0x001A, ty := 2, cls := 0, lo := 0, hi := 4294967295, dflt := 0, tick := true, ro := true } ]

/-- Table 3.8 and 3.9. -/
def paramAxis : List PRow := [
  { num := 0x1001, last := 0x1001, ty := 8, cls := 1, lo := 0, hi := 1, dflt := 0, nchoice := 2 },
  { num := 0x1002, last := 0x1002, ty := 2, cls := 1, lo := 1, hi := 100000000, dflt := 1000000 },
  { num := 0x1003, last := 0x1003, ty := 8, cls := 1, lo := 0, hi := 2, dflt := 0, nchoice := 3 },
  { num := 0x1004, last := 0x1004, ty := 2, cls := 1, lo := 1, hi := 2147483647, dflt := 131072, tick := true },
  { num := 0x1005, last := 0x1005, ty := 5, cls := 1, lo := 0, hi := 32767, dflt := 32767, tick := true },
  { num := 0x1006, last := 0x1006, ty := 2, cls := 1, lo := 1, hi := 2147483647, dflt := 42949673 },
  { num := 0x1007, last := 0x1007, ty := 2, cls := 1, lo := 0, hi := 65536, dflt := 32768 },
  { num := 0x1008, last := 0x1008, ty := 8, cls := 1, lo := 0, hi := 1, dflt := 0, nchoice := 2 },
  { num := 0x1009, last := 0x1009, ty := 1, cls := 1, lo := 1, hi := 256, dflt := 4 },
  { num := 0x100A, last := 0x100A, ty := 1, cls := 1, lo := 0, hi := 65535, dflt := 0, tick := true },
  { num := 0x100B, last := 0x100B, ty := 5, cls := 1, lo := 0, hi := 32767, dflt := 16384, tick := true },
  { num := 0x100C, last := 0x100C, ty := 5, cls := 1, lo := 1024, hi := 32767, dflt := 8192 },
  { num := 0x100D, last := 0x100D, ty := 2, cls := 1, lo := 50, hi := 5000, dflt := 300 },
  { num := 0x1010, last := 0x1010, ty := 0, cls := 1, lo := 0, hi := 15, dflt := 0 },
  { num := 0x1011, last := 0x1011, ty := 6, cls := 1, lo := -2147483647, hi := 2147483647, dflt := 1 },
  { num := 0x1012, last := 0x1012, ty := 2, cls := 1, lo := 1, hi := 2147483647, dflt := 1 },
  { num := 0x1013, last := 0x1013, ty := 8, cls := 1, lo := 0, hi := 1, dflt := 0, nchoice := 2 },
  { num := 0x1014, last := 0x1014, ty := 7, cls := 1, lo := -9223372036854775808, hi := 9223372036854775807, dflt := 0, tick := true, ro := true, clear0 := true },
  { num := 0x1015, last := 0x1015, ty := 2, cls := 1, lo := 0, hi := 4294967295, dflt := 0 },
  { num := 0x1016, last := 0x1016, ty := 6, cls := 1, lo := -2147483648, hi := 2147483647, dflt := 0, tick := true },
  { num := 0x1017, last := 0x1017, ty := 6, cls := 1, lo := -2147483648, hi := 2147483647, dflt := 0, tick := true },
  { num := 0x1020, last := 0x1020, ty := 5, cls := 1, lo := -32768, hi := 32767, dflt := 0 },
  { num := 0x1021, last := 0x1021, ty := 2, cls := 1, lo := 0, hi := 1000, dflt := 40 },
  { num := 0x1022, last := 0x1022, ty := 2, cls := 1, lo := 10, hi := 10000, dflt := 2000 } ]

/-- Table 3.8 and 3.9. -/
def paramAxisB : List PRow := [
  { num := 0x1023, last := 0x1023, ty := 2, cls := 1, lo := 1, hi := 655360, dflt := 3277 },
  { num := 0x1024, last := 0x1024, ty := 2, cls := 1, lo := 0, hi := 65536, dflt := 64 },
  { num := 0x1030, last := 0x1030, ty := 2, cls := 1, lo := 0, hi := 4294967295, dflt := 0, tick := true, ro := true },
  { num := 0x2001, last := 0x2001, ty := 2, cls := 1, lo := 0, hi := 4294967295, dflt := 0 },
  { num := 0x2002, last := 0x2002, ty := 2, cls := 1, lo := 0, hi := 4294967295, dflt := 0 },
  { num := 0x2003, last := 0x2003, ty := 2, cls := 1, lo := 0, hi := 4294967295, dflt := 0 },
  { num := 0x2004, last := 0x2004, ty := 2, cls := 1, lo := 0, hi := 1000000, dflt := 0 },
  { num := 0x2005, last := 0x2005, ty := 2, cls := 1, lo := 0, hi := 4294967295, dflt := 0 },
  { num := 0x2006, last := 0x2006, ty := 2, cls := 1, lo := 0, hi := 4294967295, dflt := 0 },
  { num := 0x2007, last := 0x2007, ty := 2, cls := 1, lo := 0, hi := 4294967295, dflt := 0 },
  { num := 0x2008, last := 0x2008, ty := 2, cls := 1, lo := 0, hi := 4294967295, dflt := 16777216 },
  { num := 0x2009, last := 0x2009, ty := 2, cls := 1, lo := 0, hi := 4294967295, dflt := 0 },
  { num := 0x2010, last := 0x2010, ty := 2, cls := 1, lo := 0, hi := 4294967295, dflt := 0 },
  { num := 0x2011, last := 0x2011, ty := 2, cls := 1, lo := 1000, hi := 6400000, dflt := 50000 },
  { num := 0x2012, last := 0x2012, ty := 2, cls := 1, lo := 0, hi := 65535, dflt := 0 },
  { num := 0x2018, last := 0x2018, ty := 2, cls := 1, lo := 0, hi := 4294967295, dflt := 0 },
  { num := 0x2019, last := 0x2019, ty := 2, cls := 1, lo := 1000, hi := 6400000, dflt := 50000 },
  { num := 0x201A, last := 0x201A, ty := 2, cls := 1, lo := 0, hi := 65535, dflt := 0 },
  { num := 0x201B, last := 0x201B, ty := 8, cls := 1, lo := 0, hi := 1, dflt := 0, nchoice := 2 },
  { num := 0x201C, last := 0x201C, ty := 5, cls := 1, lo := 1, hi := 32767, dflt := 328 },
  { num := 0x201D, last := 0x201D, ty := 2, cls := 1, lo := 1, hi := 65536, dflt := 16384 },
  { num := 0x201E, last := 0x201E, ty := 2, cls := 1, lo := 0, hi := 4294967295, dflt := 0, tick := true, ro := true },
  { num := 0x2021, last := 0x2021, ty := 8, cls := 1, lo := 0, hi := 1, dflt := 0, nchoice := 2 },
  { num := 0x2022, last := 0x2022, ty := 2, cls := 1, lo := 1, hi := 2147483647, dflt := 4294967 } ]

/-- Table 3.8 and 3.9. -/
def paramAxisC : List PRow := [
  { num := 0x2023, last := 0x2023, ty := 2, cls := 1, lo := 0, hi := 10000000, dflt := 0 } ]

/-- Table 4.11. -/
def paramProfile : List PRow := [
  { num := 0x3001, last := 0x3001, ty := 2, cls := 1, lo := 1, hi := 2147483647, dflt := 65536, tick := true },
  { num := 0x3002, last := 0x3002, ty := 2, cls := 1, lo := 1, hi := 2147483647, dflt := 40960, tick := true },
  { num := 0x3003, last := 0x3003, ty := 2, cls := 1, lo := 1, hi := 2147483647, dflt := 40960, tick := true },
  { num := 0x3004, last := 0x3004, ty := 8, cls := 1, lo := 0, hi := 1, dflt := 1, nchoice := 2 },
  { num := 0x3010, last := 0x3010, ty := 8, cls := 1, lo := 0, hi := 4, dflt := 1, nchoice := 5 },
  { num := 0x3011, last := 0x3011, ty := 8, cls := 1, lo := 0, hi := 1, dflt := 0, nchoice := 2 },
  { num := 0x3012, last := 0x3012, ty := 8, cls := 1, lo := 0, hi := 2, dflt := 0, nchoice := 3 },
  { num := 0x3013, last := 0x3013, ty := 2, cls := 1, lo := 1, hi := 655360, dflt := 6554 },
  { num := 0x3014, last := 0x3014, ty := 2, cls := 1, lo := 1, hi := 655360, dflt := 655 },
  { num := 0x3015, last := 0x3015, ty := 2, cls := 1, lo := 1, hi := 2147483647, dflt := 4096 },
  { num := 0x3016, last := 0x3016, ty := 7, cls := 1, lo := -9223372036854775808, hi := 9223372036854775807, dflt := 0 },
  { num := 0x3017, last := 0x3017, ty := 2, cls := 1, lo := 0, hi := 2147483647, dflt := 21474836 },
  { num := 0x3018, last := 0x3018, ty := 8, cls := 1, lo := 0, hi := 1, dflt := 0, nchoice := 2 },
  { num := 0x3019, last := 0x3019, ty := 2, cls := 1, lo := 0, hi := 100000, dflt := 2000 },
  { num := 0x301A, last := 0x301A, ty := 5, cls := 1, lo := 1, hi := 32767, dflt := 9830 },
  { num := 0x301B, last := 0x301B, ty := 2, cls := 1, lo := 1, hi := 1000, dflt := 20 },
  { num := 0x301C, last := 0x301C, ty := 2, cls := 1, lo := 100, hi := 600000, dflt := 30000 },
  { num := 0x301D, last := 0x301D, ty := 0, cls := 1, lo := 0, hi := 7, dflt := 0 },
  { num := 0x3020, last := 0x3020, ty := 2, cls := 1, lo := 0, hi := 65535, dflt := 4 },
  { num := 0x3021, last := 0x3021, ty := 2, cls := 1, lo := 0, hi := 4294967295, dflt := 0 },
  { num := 0x3022, last := 0x3022, ty := 8, cls := 1, lo := 0, hi := 1, dflt := 1, nchoice := 2 },
  { num := 0x3030, last := 0x3030, ty := 2, cls := 1, lo := 0, hi := 4294967295, dflt := 0, tick := true, ro := true },
  { num := 0x3040, last := 0x3040, ty := 2, cls := 1, lo := 0, hi := 4294967295, dflt := 0 },
  { num := 0x3041, last := 0x3041, ty := 2, cls := 1, lo := 0, hi := 4294967295, dflt := 0 } ]

/-- Table 4.11. -/
def paramProfileB : List PRow := [
  { num := 0x3042, last := 0x3042, ty := 2, cls := 2, lo := 0, hi := 4294967295, dflt := 0 },
  { num := 0x3043, last := 0x3043, ty := 0, cls := 2, lo := 0, hi := 7, dflt := 255 },
  { num := 0x3044, last := 0x3044, ty := 2, cls := 0, lo := 1, hi := 10000, dflt := 50 },
  { num := 0x3048, last := 0x304F, ty := 3, cls := 0, lo := 0, hi := 18446744073709551615, dflt := 0, tick := true, ro := true },
  { num := 0xD010, last := 0xD010, ty := 2, cls := 3, lo := 0, hi := 4294967295, dflt := 0, tick := true, ro := true, also := true },
  { num := 0xD011, last := 0xD011, ty := 2, cls := 3, lo := 0, hi := 4294967295, dflt := 0, tick := true, ro := true, also := true } ]

/-- Table 5.7. -/
def paramFeedback : List PRow := [
  { num := 0x4001, last := 0x4001, ty := 8, cls := 8, lo := 0, hi := 4, dflt := 0, nchoice := 5 },
  { num := 0x4002, last := 0x4002, ty := 0, cls := 8, lo := 1, hi := 63, dflt := 4 },
  { num := 0x4003, last := 0x4003, ty := 8, cls := 8, lo := 0, hi := 1, dflt := 0, nchoice := 2 },
  { num := 0x4004, last := 0x4004, ty := 8, cls := 8, lo := 0, hi := 1, dflt := 0, nchoice := 2 },
  { num := 0x4005, last := 0x4005, ty := 8, cls := 8, lo := 0, hi := 1, dflt := 0, nchoice := 2 },
  { num := 0x4006, last := 0x4006, ty := 8, cls := 8, lo := 0, hi := 1, dflt := 0, nchoice := 2 },
  { num := 0x4007, last := 0x4007, ty := 1, cls := 8, lo := 0, hi := 65535, dflt := 8 },
  { num := 0x4008, last := 0x4008, ty := 7, cls := 8, lo := -9223372036854775808, hi := 9223372036854775807, dflt := 0, tick := true, ro := true },
  { num := 0x4009, last := 0x4009, ty := 2, cls := 8, lo := 0, hi := 4294967295, dflt := 0, tick := true, ro := true, clear0 := true },
  { num := 0x400A, last := 0x400A, ty := 2, cls := 8, lo := 0, hi := 4294967295, dflt := 0, tick := true, ro := true, clear0 := true },
  { num := 0x400B, last := 0x400B, ty := 2, cls := 8, lo := 0, hi := 4294967295, dflt := 0, tick := true, ro := true, clear0 := true },
  { num := 0x400C, last := 0x400C, ty := 2, cls := 8, lo := 0, hi := 4294967295, dflt := 0, tick := true, ro := true },
  { num := 0x400D, last := 0x400D, ty := 2, cls := 8, lo := 0, hi := 4294967295, dflt := 0, tick := true, ro := true },
  { num := 0x4010, last := 0x4010, ty := 2, cls := 8, lo := 100000, hi := 10000000, dflt := 4000000 },
  { num := 0x4011, last := 0x4011, ty := 0, cls := 8, lo := 8, hi := 40, dflt := 25 },
  { num := 0x4012, last := 0x4012, ty := 8, cls := 8, lo := 0, hi := 1, dflt := 0, nchoice := 2 },
  { num := 0x4013, last := 0x4013, ty := 8, cls := 8, lo := 0, hi := 2, dflt := 0, nchoice := 3 },
  { num := 0x4014, last := 0x4014, ty := 8, cls := 8, lo := 0, hi := 3, dflt := 0, nchoice := 4 },
  { num := 0x4015, last := 0x4015, ty := 0, cls := 8, lo := 3, hi := 8, dflt := 6 },
  { num := 0x4016, last := 0x4016, ty := 0, cls := 8, lo := 1, hi := 255, dflt := 3 },
  { num := 0x4017, last := 0x4017, ty := 0, cls := 8, lo := 0, hi := 255, dflt := 0 },
  { num := 0x4018, last := 0x4018, ty := 2, cls := 8, lo := 1000, hi := 100000, dflt := 20000 },
  { num := 0x4019, last := 0x4019, ty := 2, cls := 8, lo := 0, hi := 500, dflt := 0 },
  { num := 0x4020, last := 0x4020, ty := 2, cls := 8, lo := 0, hi := 500, dflt := 0 } ]

/-- Table 5.7. -/
def paramFeedbackB : List PRow := [
  { num := 0x4030, last := 0x4030, ty := 2, cls := 1, lo := 1, hi := 4294967295, dflt := 1048576 },
  { num := 0x4031, last := 0x4031, ty := 8, cls := 1, lo := 0, hi := 1, dflt := 0, nchoice := 2 },
  { num := 0x4032, last := 0x4032, ty := 8, cls := 1, lo := 0, hi := 1, dflt := 0, nchoice := 2 },
  { num := 0x4033, last := 0x4033, ty := 2, cls := 1, lo := 0, hi := 4294967295, dflt := 4294967295 },
  { num := 0x4034, last := 0x4034, ty := 2, cls := 1, lo := 0, hi := 4294967295, dflt := 0 },
  { num := 0x4035, last := 0x4035, ty := 1, cls := 1, lo := 0, hi := 65535, dflt := 0, tick := true, ro := true },
  { num := 0x4040, last := 0x4040, ty := 2, cls := 9, lo := 0, hi := 4294967295, dflt := 4294967295 },
  { num := 0x4041, last := 0x4041, ty := 8, cls := 9, lo := 0, hi := 2, dflt := 0, nchoice := 3 },
  { num := 0x4042, last := 0x4042, ty := 8, cls := 9, lo := 0, hi := 1, dflt := 0, nchoice := 2 },
  { num := 0x4043, last := 0x4043, ty := 2, cls := 9, lo := 100, hi := 1000000, dflt := 1000, tick := true },
  { num := 0x4044, last := 0x4044, ty := 7, cls := 9, lo := -9223372036854775808, hi := 9223372036854775807, dflt := 0 },
  { num := 0x4045, last := 0x4045, ty := 1, cls := 9, lo := 0, hi := 65535, dflt := 0, tick := true, ro := true },
  { num := 0x4046, last := 0x4046, ty := 2, cls := 9, lo := 0, hi := 4294967295, dflt := 0, tick := true, ro := true, clear0 := true },
  { num := 0x4047, last := 0x4047, ty := 2, cls := 9, lo := 0, hi := 4294967295, dflt := 0, tick := true, ro := true, clear0 := true },
  { num := 0x4048, last := 0x4048, ty := 2, cls := 9, lo := 0, hi := 4294967295, dflt := 0, tick := true, ro := true },
  { num := 0x4049, last := 0x4049, ty := 2, cls := 9, lo := 0, hi := 4294967295, dflt := 0, tick := true, ro := true } ]

/-- Table 6.17. -/
def paramSeparation : List PRow := [
  { num := 0x5001, last := 0x5001, ty := 2, cls := 0, lo := 0, hi := 5000, dflt := 1600, chk := true },
  { num := 0x5002, last := 0x5002, ty := 2, cls := 0, lo := 500, hi := 10000, dflt := 3000, chk := true },
  { num := 0x5003, last := 0x5003, ty := 2, cls := 0, lo := 0, hi := 100000, dflt := 4000, chk := true },
  { num := 0x5004, last := 0x5004, ty := 2, cls := 0, lo := 0, hi := 2000000, dflt := 100000, chk := true },
  { num := 0x5005, last := 0x5005, ty := 2, cls := 0, lo := 0, hi := 500000, dflt := 20000, chk := true },
  { num := 0x5006, last := 0x5006, ty := 2, cls := 0, lo := 0, hi := 1000000, dflt := 0, chk := true },
  { num := 0x5007, last := 0x5007, ty := 2, cls := 0, lo := 0, hi := 1000000, dflt := 0, chk := true },
  { num := 0x5008, last := 0x5008, ty := 2, cls := 0, lo := 1, hi := 65536, dflt := 66, chk := true },
  { num := 0x500A, last := 0x500A, ty := 2, cls := 0, lo := 0, hi := 5000000, dflt := 300000 },
  { num := 0x500B, last := 0x500B, ty := 2, cls := 0, lo := 1000, hi := 1000000, dflt := 50000 },
  { num := 0x5010, last := 0x5010, ty := 2, cls := 3, lo := 0, hi := 4294967295, dflt := 0, tick := true, ro := true },
  { num := 0x5011, last := 0x5011, ty := 2, cls := 3, lo := 0, hi := 4294967295, dflt := 0, tick := true, ro := true },
  { num := 0x5012, last := 0x5012, ty := 2, cls := 3, lo := 0, hi := 4294967295, dflt := 0, tick := true, ro := true },
  { num := 0x5013, last := 0x5013, ty := 2, cls := 3, lo := 0, hi := 4294967295, dflt := 0, tick := true, ro := true },
  { num := 0x5014, last := 0x5014, ty := 6, cls := 3, lo := -2147483648, hi := 2147483647, dflt := 0, tick := true, ro := true },
  { num := 0x5015, last := 0x5015, ty := 2, cls := 6, lo := 0, hi := 4294967295, dflt := 0, tick := true, ro := true },
  { num := 0x5016, last := 0x5016, ty := 2, cls := 0, lo := 0, hi := 4294967295, dflt := 0, ro := true },
  { num := 0x5017, last := 0x5017, ty := 2, cls := 0, lo := 0, hi := 4294967295, dflt := 0, tick := true, ro := true } ]

/-- Table 7.15. -/
def paramSolver : List PRow := [
  { num := 0x6001, last := 0x6001, ty := 8, cls := 0, lo := 0, hi := 1, dflt := 0, nchoice := 2 },
  { num := 0x6002, last := 0x6002, ty := 2, cls := 0, lo := 0, hi := 4294967295, dflt := 800 },
  { num := 0x6003, last := 0x6003, ty := 9, cls := 0, dflt := 4591870180066957722, flo := (1 / 1000000 : Rat), fhi := 1000000 },
  { num := 0x6004, last := 0x6004, ty := 9, cls := 0, dflt := 4609884578576439706, flo := 1, fhi := (9 / 5 : Rat) },
  { num := 0x6005, last := 0x6005, ty := 9, cls := 0, dflt := 4517329193108106637, flo := (1 / 1000000000 : Rat), fhi := (1 / 1000 : Rat) },
  { num := 0x6006, last := 0x6006, ty := 9, cls := 0, dflt := 4547007122018943789, flo := (1 / 1000000000 : Rat), fhi := 1 },
  { num := 0x6007, last := 0x6007, ty := 9, cls := 0, dflt := 4562254508917369340, flo := (1 / 1000000000 : Rat), fhi := 1 },
  { num := 0x6008, last := 0x6008, ty := 9, cls := 0, dflt := 4621819117588971520, flo := 1, fhi := 1000000 },
  { num := 0x6009, last := 0x6009, ty := 1, cls := 0, lo := 1, hi := 1000, dflt := 10 },
  { num := 0x600A, last := 0x600A, ty := 9, cls := 0, dflt := 4617315517961601024, flo := (3 / 2 : Rat), fhi := 100 },
  { num := 0x600B, last := 0x600B, ty := 1, cls := 0, lo := 0, hi := 1000, dflt := 25 },
  { num := 0x600C, last := 0x600C, ty := 2, cls := 0, lo := 1, hi := 65536, dflt := 3277 },
  { num := 0x600D, last := 0x600D, ty := 2, cls := 0, lo := 0, hi := 65536, dflt := 0 },
  { num := 0x6010, last := 0x6010, ty := 2, cls := 0, lo := 0, hi := 4294967295, dflt := 0, ro := true },
  { num := 0x6011, last := 0x6011, ty := 9, cls := 0, dflt := 0, ro := true },
  { num := 0x6012, last := 0x6012, ty := 2, cls := 0, lo := 0, hi := 4294967295, dflt := 0, ro := true },
  { num := 0x6013, last := 0x6013, ty := 2, cls := 0, lo := 0, hi := 4294967295, dflt := 0, ro := true },
  { num := 0x6014, last := 0x6014, ty := 2, cls := 0, lo := 0, hi := 4294967295, dflt := 0, ro := true },
  { num := 0x6015, last := 0x6015, ty := 2, cls := 0, lo := 0, hi := 4294967295, dflt := 0, tick := true, ro := true },
  { num := 0x6018, last := 0x6018, ty := 2, cls := 7, lo := 0, hi := 4294967295, dflt := 0, tick := true, ro := true },
  { num := 0x6019, last := 0x6019, ty := 2, cls := 7, lo := 0, hi := 4294967295, dflt := 0, tick := true, ro := true },
  { num := 0x601A, last := 0x601A, ty := 2, cls := 7, lo := 0, hi := 4294967295, dflt := 0, tick := true, ro := true },
  { num := 0x601B, last := 0x601B, ty := 2, cls := 7, lo := 0, hi := 4294967295, dflt := 0, tick := true, ro := true },
  { num := 0x601C, last := 0x601C, ty := 2, cls := 7, lo := 0, hi := 4294967295, dflt := 0, tick := true, ro := true } ]

/-- Table 7.15. -/
def paramSolverB : List PRow := [
  { num := 0x601D, last := 0x601D, ty := 2, cls := 3, lo := 0, hi := 4294967295, dflt := 0, ro := true },
  { num := 0x601E, last := 0x601E, ty := 6, cls := 1, lo := -2147483648, hi := 2147483647, dflt := 0, ro := true } ]

/-- Table 8.12. -/
def paramSafety : List PRow := [
  { num := 0x7001, last := 0x7001, ty := 2, cls := 1, lo := 1, hi := 2147483647, dflt := 40960, chk := true },
  { num := 0x7002, last := 0x7002, ty := 2, cls := 1, lo := 0, hi := 4294967295, dflt := 32768, chk := true },
  { num := 0x7003, last := 0x7003, ty := 2, cls := 1, lo := 0, hi := 655360, dflt := 3277, chk := true },
  { num := 0x7004, last := 0x7004, ty := 2, cls := 1, lo := 10, hi := 10000, dflt := 1000, chk := true },
  { num := 0x7005, last := 0x7005, ty := 2, cls := 1, lo := 1, hi := 65536, dflt := 328, chk := true },
  { num := 0x7006, last := 0x7006, ty := 2, cls := 1, lo := 1, hi := 2147483647, dflt := 16384, chk := true },
  { num := 0x7010, last := 0x7010, ty := 2, cls := 0, lo := 0, hi := 500000, dflt := 20000, chk := true },
  { num := 0x7011, last := 0x7011, ty := 2, cls := 0, lo := 0, hi := 2000, dflt := 200, chk := true },
  { num := 0x7012, last := 0x7012, ty := 2, cls := 0, lo := 10000, hi := 1000000, dflt := 250000, chk := true },
  { num := 0x7013, last := 0x7013, ty := 2, cls := 0, lo := 500, hi := 20000, dflt := 5000, chk := true },
  { num := 0x7014, last := 0x7014, ty := 8, cls := 0, lo := 0, hi := 1, dflt := 0, chk := true, nchoice := 2 },
  { num := 0x7015, last := 0x7015, ty := 2, cls := 0, lo := 0, hi := 10000, dflt := 500, chk := true },
  { num := 0x7016, last := 0x7016, ty := 2, cls := 0, lo := 1, hi := 8760, dflt := 24, chk := true },
  { num := 0x7020, last := 0x7020, ty := 8, cls := 0, lo := 0, hi := 1, dflt := 0, ro := true, nchoice := 2 },
  { num := 0x7021, last := 0x7021, ty := 2, cls := 0, lo := 0, hi := 4294967295, dflt := 0, tick := true, ro := true },
  { num := 0x7022, last := 0x7022, ty := 2, cls := 0, lo := 0, hi := 4294967295, dflt := 0, tick := true, ro := true },
  { num := 0x7023, last := 0x7023, ty := 2, cls := 3, lo := 0, hi := 4294967295, dflt := 0, tick := true, ro := true },
  { num := 0x7024, last := 0x7024, ty := 2, cls := 3, lo := 0, hi := 4294967295, dflt := 0, tick := true, ro := true },
  { num := 0x7030, last := 0x7030, ty := 2, cls := 4, lo := 0, hi := 4294967295, dflt := 0, tick := true, ro := true },
  { num := 0x7031, last := 0x7031, ty := 2, cls := 3, lo := 0, hi := 4294967295, dflt := 0, tick := true, ro := true },
  { num := 0x7040, last := 0x705F, ty := 2, cls := 0, lo := 0, hi := 4294967295, dflt := 0, tick := true, ro := true } ]

/-- Table 9.17. -/
def paramSelide : List PRow := [
  { num := 0x8001, last := 0x8001, ty := 2, cls := 0, lo := 1000, hi := 300000, dflt := 60000 },
  { num := 0x8002, last := 0x8002, ty := 8, cls := 0, lo := 0, hi := 1, dflt := 1, nchoice := 2 },
  { num := 0x8003, last := 0x8003, ty := 2, cls := 0, lo := 100, hi := 60000, dflt := 2000 },
  { num := 0x8010, last := 0x8010, ty := 2, cls := 2, lo := 0, hi := 4294967295, dflt := 0, tick := true, ro := true },
  { num := 0x8011, last := 0x8011, ty := 5, cls := 2, lo := -32768, hi := 32767, dflt := 0, tick := true, ro := true },
  { num := 0x8012, last := 0x8012, ty := 5, cls := 2, lo := -32768, hi := 32767, dflt := 0, tick := true, ro := true },
  { num := 0x8013, last := 0x8013, ty := 1, cls := 2, lo := 0, hi := 65535, dflt := 0, tick := true, ro := true },
  { num := 0x8014, last := 0x8014, ty := 2, cls := 2, lo := 0, hi := 4294967295, dflt := 0, tick := true, ro := true, clear0 := true },
  { num := 0x8015, last := 0x8015, ty := 2, cls := 2, lo := 0, hi := 4294967295, dflt := 0, tick := true, ro := true, clear0 := true },
  { num := 0x8020, last := 0x8023, ty := 2, cls := 0, lo := 0, hi := 4294967295, dflt := 0, tick := true, ro := true } ]

/-- Table 10.16. -/
def paramLanes : List PRow := [
  { num := 0x0040, last := 0x0040, ty := 0, cls := 0, lo := 1, hi := 255, dflt := 3 },
  { num := 0x0041, last := 0x0041, ty := 0, cls := 0, lo := 1, hi := 32, dflt := 3 },
  { num := 0x0042, last := 0x0042, ty := 1, cls := 0, lo := 0, hi := 65535, dflt := 0, ro := true },
  { num := 0x0050, last := 0x0060, ty := 2, cls := 0, lo := 0, hi := 4294967295, dflt := 0, tick := true, ro := true },
  { num := 0x0070, last := 0x007F, ty := 1, cls := 0, lo := 0, hi := 65535, dflt := 0, ro := true } ]

/-- Table 12.8. -/
def paramTime : List PRow := [
  { num := 0x9001, last := 0x9001, ty := 8, cls := 0, lo := 0, hi := 1, dflt := 0, nchoice := 2 },
  { num := 0x9002, last := 0x9002, ty := 8, cls := 0, lo := 0, hi := 1, dflt := 0, nchoice := 2 },
  { num := 0x9003, last := 0x9003, ty := 0, cls := 0, lo := 0, hi := 1, dflt := 0 },
  { num := 0x9004, last := 0x9004, ty := 2, cls := 0, lo := 0, hi := 86400, dflt := 60 },
  { num := 0x9005, last := 0x9005, ty := 2, cls := 0, lo := 100, hi := 50000, dflt := 5000 },
  { num := 0x9006, last := 0x9006, ty := 2, cls := 0, lo := 1000, hi := 90000, dflt := 50000 },
  { num := 0x9007, last := 0x9007, ty := 2, cls := 0, lo := 100, hi := 1000000000, dflt := 1000 },
  { num := 0x9008, last := 0x9008, ty := 5, cls := 0, lo := 0, hi := 255, dflt := 37 },
  { num := 0x9009, last := 0x9009, ty := 2, cls := 0, lo := 1, hi := 500000, dflt := 10000, tick := true },
  { num := 0x900A, last := 0x900A, ty := 8, cls := 0, lo := 0, hi := 2, dflt := 1, tick := true, nchoice := 3 },
  { num := 0x900B, last := 0x900B, ty := 1, cls := 0, lo := 0, hi := 4094, dflt := 0 },
  { num := 0x900C, last := 0x900C, ty := 4, cls := 0, lo := -4, hi := 4, dflt := 0 },
  { num := 0x9010, last := 0x9010, ty := 0, cls := 11, lo := 0, hi := 127, dflt := 0 },
  { num := 0x9011, last := 0x9011, ty := 8, cls := 11, lo := 0, hi := 1, dflt := 1, nchoice := 2 },
  { num := 0x9012, last := 0x9012, ty := 0, cls := 11, lo := 6, hi := 255, dflt := 7 },
  { num := 0x9013, last := 0x9013, ty := 2, cls := 11, lo := 10, hi := 100000, dflt := 1000 },
  { num := 0x9014, last := 0x9014, ty := 2, cls := 11, lo := 1, hi := 1000, dflt := 100 },
  { num := 0x9020, last := 0x9020, ty := 2, cls := 0, lo := 0, hi := 4294967295, dflt := 0, tick := true, ro := true },
  { num := 0x9021, last := 0x9021, ty := 2, cls := 11, lo := 0, hi := 4294967295, dflt := 0, tick := true, ro := true },
  { num := 0x9022, last := 0x9022, ty := 6, cls := 11, lo := -2147483648, hi := 2147483647, dflt := 0, tick := true, ro := true },
  { num := 0x9023, last := 0x9023, ty := 6, cls := 11, lo := -2147483648, hi := 2147483647, dflt := 0, tick := true, ro := true },
  { num := 0x9024, last := 0x9024, ty := 6, cls := 0, lo := -2147483648, hi := 2147483647, dflt := 0, tick := true, ro := true },
  { num := 0x9025, last := 0x9025, ty := 2, cls := 0, lo := 0, hi := 4294967295, dflt := 0, tick := true, ro := true, clear0 := true },
  { num := 0x9026, last := 0x9026, ty := 2, cls := 0, lo := 0, hi := 4294967295, dflt := 0, tick := true, ro := true, clear0 := true } ]

/-- Table 12.8. -/
def paramTimeB : List PRow := [
  { num := 0x9027, last := 0x9027, ty := 2, cls := 0, lo := 0, hi := 4294967295, dflt := 0, tick := true, ro := true, clear0 := true } ]

/-- Table 13.10. -/
def paramCan : List PRow := [
  { num := 0xA001, last := 0xA001, ty := 2, cls := 10, lo := 0, hi := 4294967295, dflt := 253656065 },
  { num := 0xA002, last := 0xA002, ty := 2, cls := 10, lo := 0, hi := 4294967295, dflt := 152188928 },
  { num := 0xA003, last := 0xA003, ty := 0, cls := 10, lo := 0, hi := 127, dflt := 15 },
  { num := 0xA004, last := 0xA004, ty := 8, cls := 10, lo := 0, hi := 1, dflt := 1, nchoice := 2 },
  { num := 0xA005, last := 0xA005, ty := 0, cls := 10, lo := 0, hi := 255, dflt := 0, tick := true },
  { num := 0xA006, last := 0xA006, ty := 0, cls := 10, lo := 0, hi := 15, dflt := 0, tick := true },
  { num := 0xA007, last := 0xA007, ty := 8, cls := 10, lo := 0, hi := 1, dflt := 1, tick := true, nchoice := 2 },
  { num := 0xA008, last := 0xA008, ty := 8, cls := 10, lo := 0, hi := 1, dflt := 1, tick := true, nchoice := 2 },
  { num := 0xA010, last := 0xA01F, ty := 2, cls := 10, lo := 0, hi := 4294967295, dflt := 0, tick := true },
  { num := 0xA020, last := 0xA02F, ty := 3, cls := 10, lo := 0, hi := 18446744073709551615, dflt := 0, tick := true },
  { num := 0xA030, last := 0xA030, ty := 0, cls := 10, lo := 1, hi := 8, dflt := 1 },
  { num := 0xA031, last := 0xA031, ty := 0, cls := 10, lo := 1, hi := 16, dflt := 2 },
  { num := 0xA032, last := 0xA032, ty := 2, cls := 10, lo := 10, hi := 10000, dflt := 200 },
  { num := 0xA033, last := 0xA033, ty := 2, cls := 10, lo := 100, hi := 600000, dflt := 10000 },
  { num := 0xA038, last := 0xA03F, ty := 2, cls := 10, lo := 0, hi := 4294967295, dflt := 253656065 },
  { num := 0xA040, last := 0xA047, ty := 2, cls := 10, lo := 0, hi := 4294967295, dflt := 152188928 },
  { num := 0xA050, last := 0xA050, ty := 8, cls := 10, lo := 0, hi := 1, dflt := 0, nchoice := 2 },
  { num := 0xA051, last := 0xA051, ty := 2, cls := 10, lo := 0, hi := 4294967295, dflt := 0 },
  { num := 0xA052, last := 0xA052, ty := 2, cls := 10, lo := 0, hi := 4294967295, dflt := 1073741823 },
  { num := 0xA053, last := 0xA053, ty := 0, cls := 10, lo := 0, hi := 8, dflt := 0 },
  { num := 0xA054, last := 0xA054, ty := 3, cls := 10, lo := 0, hi := 18446744073709551615, dflt := 0 },
  { num := 0xA055, last := 0xA055, ty := 3, cls := 10, lo := 0, hi := 18446744073709551615, dflt := 0 },
  { num := 0xA056, last := 0xA056, ty := 2, cls := 10, lo := 100, hi := 100000, dflt := 1000 },
  { num := 0xA057, last := 0xA057, ty := 8, cls := 10, lo := 0, hi := 1, dflt := 0, nchoice := 2 } ]

/-- Table 13.10. -/
def paramCanB : List PRow := [
  { num := 0xA060, last := 0xA060, ty := 2, cls := 10, lo := 0, hi := 4294967295, dflt := 0, tick := true, ro := true },
  { num := 0xA061, last := 0xA061, ty := 0, cls := 10, lo := 0, hi := 255, dflt := 0, tick := true, ro := true },
  { num := 0xA062, last := 0xA062, ty := 2, cls := 10, lo := 0, hi := 4294967295, dflt := 0, tick := true, ro := true, clear0 := true } ]

/-- Table 16.7. -/
def paramRecorder : List PRow := [
  { num := 0xB001, last := 0xB001, ty := 8, cls := 0, lo := 0, hi := 5, dflt := 3, tick := true, nchoice := 6 },
  { num := 0xB002, last := 0xB002, ty := 3, cls := 0, lo := 0, hi := 18446744073709551615, dflt := 0 },
  { num := 0xB003, last := 0xB003, ty := 1, cls := 0, lo := 0, hi := 65535, dflt := 257, tick := true },
  { num := 0xB004, last := 0xB004, ty := 2, cls := 0, lo := 0, hi := 4294967295, dflt := 4294967295 },
  { num := 0xB010, last := 0xB010, ty := 3, cls := 0, lo := 0, hi := 18446744073709551615, dflt := 0, tick := true, ro := true },
  { num := 0xB011, last := 0xB011, ty := 3, cls := 0, lo := 0, hi := 18446744073709551615, dflt := 0, tick := true, ro := true, clear0 := true },
  { num := 0xB012, last := 0xB012, ty := 2, cls := 0, lo := 0, hi := 4294967295, dflt := 0, tick := true, ro := true, clear0 := true } ]

/-- Table 17.9. -/
def paramHealth : List PRow := [
  { num := 0xC001, last := 0xC001, ty := 2, cls := 0, lo := 1, hi := 8760, dflt := 168 },
  { num := 0xC002, last := 0xC002, ty := 1, cls := 0, lo := 20, hi := 79, dflt := 40 },
  { num := 0xC003, last := 0xC003, ty := 2, cls := 0, lo := 1000, hi := 600000, dflt := 60000 },
  { num := 0xC004, last := 0xC004, ty := 1, cls := 0, lo := 50, hi := 400, dflt := 150 },
  { num := 0xC010, last := 0xC014, ty := 2, cls := 0, lo := 0, hi := 4294967295, dflt := 0, tick := true, ro := true },
  { num := 0xC018, last := 0xC01C, ty := 2, cls := 0, lo := 0, hi := 4294967295, dflt := 0, ro := true },
  { num := 0xC020, last := 0xC020, ty := 2, cls := 0, lo := 0, hi := 4294967295, dflt := 0, tick := true, ro := true, clear0 := true },
  { num := 0xC021, last := 0xC021, ty := 2, cls := 0, lo := 0, hi := 4294967295, dflt := 0, tick := true, ro := true, clear0 := true },
  { num := 0xC022, last := 0xC022, ty := 2, cls := 0, lo := 0, hi := 4294967295, dflt := 0, ro := true },
  { num := 0xC023, last := 0xC023, ty := 2, cls := 0, lo := 0, hi := 4294967295, dflt := 0, ro := true },
  { num := 0xC030, last := 0xC03D, ty := 1, cls := 0, lo := 0, hi := 65535, dflt := 0, ro := true },
  { num := 0xC040, last := 0xC040, ty := 3, cls := 0, lo := 0, hi := 18446744073709551615, dflt := 0, ro := true },
  { num := 0xC041, last := 0xC041, ty := 3, cls := 0, lo := 0, hi := 18446744073709551615, dflt := 0, ro := true },
  { num := 0xD020, last := 0xD020, ty := 8, cls := 3, lo := 0, hi := 1, dflt := 0, ro := true, nchoice := 2 } ]

/-- Table 18.10. -/
def paramStartup : List PRow := [
  { num := 0x0020, last := 0x0020, ty := 2, cls := 0, lo := 0, hi := 4294967295, dflt := 0, tick := true, ro := true },
  { num := 0x0021, last := 0x0021, ty := 3, cls := 0, lo := 0, hi := 18446744073709551615, dflt := 0, tick := true, ro := true },
  { num := 0x0022, last := 0x0022, ty := 3, cls := 0, lo := 0, hi := 18446744073709551615, dflt := 0, tick := true, ro := true } ]

def paramTable : List PRow :=
  paramTick ++ paramAxis ++ paramAxisB ++ paramAxisC ++ paramProfile ++ paramProfileB ++ paramFeedback ++ paramFeedbackB ++
  paramSeparation ++ paramSolver ++ paramSolverB ++ paramSafety ++ paramSelide ++ paramLanes ++ paramTime ++ paramTimeB ++ paramCan ++ paramCanB ++ paramRecorder ++ paramHealth ++ paramStartup

end Sys2Proof.Machine
end

