-- ==== Sys2Proof/Machine/EventTable.lean ====
section
/-!
DEFINITION. The event codes of the event tables and their severities (R526, Table 16.8; SUPPRESSED has none
   of its
own, R453).
-/
namespace Sys2Proof.Machine

def evOverrun : Nat := 0x0101
def evLaneDegraded : Nat := 0x0102
def evLaneRestored : Nat := 0x0103
def evDegradedExpired : Nat := 0x0104
def evBackgroundLate : Nat := 0x0105
def evFollowErr : Nat := 0x1101
def evRefReset : Nat := 0x1102
def evCommLost : Nat := 0x1103
def evCommAlignFail : Nat := 0x1104
def evSoftStartFail : Nat := 0x1105
def evNotchTrackLimit : Nat := 0x2101
def evNotchBypassed : Nat := 0x2102
def evUserClipped : Nat := 0x2103
def evPlausFault : Nat := 0x2104
def evSegEnd : Nat := 0x3101
def evDecKept : Nat := 0x3102
def evHomeDone : Nat := 0x3103
def evHomeLimit : Nat := 0x3104
def evHomeChatter : Nat := 0x3105
def evHomeTimeout : Nat := 0x3106
def evIdxMismatch : Nat := 0x3107
def evIdxFault : Nat := 0x3108
def evStartDeferred : Nat := 0x3109
def evQuadIllegal : Nat := 0x4101
def evFbStale : Nat := 0x4102
def evEncFault : Nat := 0x4103
def evSsiError : Nat := 0x4104
def evOchreError : Nat := 0x4105
def evCmpLate : Nat := 0x4106
def evCmpMerged : Nat := 0x4107
def evCmpEnd : Nat := 0x4108
def evPairStop : Nat := 0x5101
def evPairReduce : Nat := 0x5102
def evPairClear : Nat := 0x5103
def evSepDisagree : Nat := 0x5104
def evSepChannelFault : Nat := 0x5105
def evPersonLost : Nat := 0x5106
def evReachBreach : Nat := 0x5107
def evRowsTruncated : Nat := 0x5108
def evRelayStale : Nat := 0x5109
def evEngineLate : Nat := 0x510A
def evStructLoaded : Nat := 0x6101
def evFactorSlow : Nat := 0x6102
def evWarmMapped : Nat := 0x6103
def evSolveUnusable : Nat := 0x6104
def evSigmaRampdown : Nat := 0x6105
def evSolveResumed : Nat := 0x6106
def evSolveInfeasible : Nat := 0x6107
def evSolveNumeric : Nat := 0x6108
def evRowsUnplaced : Nat := 0x6109
def evSiDiscrepancy : Nat := 0x7101
def evTpFault : Nat := 0x7102
def evTpOutFault : Nat := 0x7103
def evZoneStop : Nat := 0x7104
def evZoneRelease : Nat := 0x7105
def evSs1Breach : Nat := 0x7106
def evSs1End : Nat := 0x7107
def evSlsBreach : Nat := 0x7108
def evSafeChannelFault : Nat := 0x7109
def evSafeDegraded : Nat := 0x710A
def evSafeDegExpired : Nat := 0x710B
def evSafeArmed : Nat := 0x710C
def evSafeDisarmed : Nat := 0x710D
def evZoneTestDue : Nat := 0x710E
def evIslandLost : Nat := 0x710F
def evSafeResetDone : Nat := 0x7110
def evSlotEdge : Nat := 0x8101
def evSlotViolation : Nat := 0x8102
def evNodeMuted : Nat := 0x8103
def evNodeStale : Nat := 0x8104
def evNodeJoined : Nat := 0x8105
def evJoinRefused : Nat := 0x8106
def evNodeLeft : Nat := 0x8107
def evNodeGone : Nat := 0x8108
def evChannelLost : Nat := 0x8109
def evChannelRestored : Nat := 0x810A
def evChannelDegExpired : Nat := 0x810B
def evMasterConflict : Nat := 0x810C
def evSubframeError : Nat := 0x810D
def evSubframeTimeout : Nat := 0x810E
def evNodeStoFail : Nat := 0x810F
def evFrameError : Nat := 0x8110
def evLinkLost : Nat := 0x8111
def evLaneFailed : Nat := 0x0110
def evLaneTakeover : Nat := 0x0111
def evLaneRecovered : Nat := 0x0112
def evLaneRetired : Nat := 0x0113
def evTakeoverStateLost : Nat := 0x0114
def evUserFault : Nat := 0x0115
def evUserBudget : Nat := 0x0116
def evUserDisabled : Nat := 0x0117
def evKernelActive : Nat := 0x0118
def evSweepEnd : Nat := 0x0119
def evDomainLocked : Nat := 0x9101
def evDomainLost : Nat := 0x9102
def evTimeSwitch : Nat := 0x9103
def evTimeHoldover : Nat := 0x9104
def evTimeStepped : Nat := 0x9105
def evTimeSlewDone : Nat := 0x9106
def evUtcOffsetChange : Nat := 0x9107
def evPtpV6Uncorrected : Nat := 0x9108
def evTcFuUnmatched : Nat := 0x9109
def evCanErrPassive : Nat := 0xA101
def evCanBusOff : Nat := 0xA102
def evCanBusOn : Nat := 0xA103
def evNoAck : Nat := 0xA104
def evIdClash : Nat := 0xA105
def evCanRxOverflow : Nat := 0xA106
def evCanWake : Nat := 0xA107
def evCanAbdDone : Nat := 0xA108
def evCanAbdFail : Nat := 0xA109
def evHostRingOverrun : Nat := 0x0120
def evHostReset : Nat := 0x0121
def evSupervisorTakeover : Nat := 0x0122
def evSupervisorSingle : Nat := 0x0123
def evFwStarted : Nat := 0x0124
def evHostWriteDenied : Nat := 0x0125
def evSuppressed : Nat := 0xB101
def evSiEdge : Nat := 0xB102
def evRecLost : Nat := 0xB103
def evLaneLost : Nat := 0x0130
def evLaneRehomed : Nat := 0x0131
def evLaneLossExpired : Nat := 0x0132
def evAxisMigrated : Nat := 0x0133
def evAxisUnplaced : Nat := 0x0134
def evGroupRemoved : Nat := 0x0135
def evGroupAdded : Nat := 0x0136
def evEccCorrected : Nat := 0xC101
def evEccUncorrectable : Nat := 0xC102
def evClockStep : Nat := 0xC103
def evClockStepPending : Nat := 0xC104
def evHalfRateForced : Nat := 0xC105
def evMarginExhausted : Nat := 0xC106
def evEyeRetrained : Nat := 0xC107
def evStrapFault : Nat := 0x0140
def evBistDone : Nat := 0x0141
def evPhaseChange : Nat := 0x0142
def evThermalHigh : Nat := 0xC108
def evThermalTrip : Nat := 0xC109

/-- Every event code with its severity. -/
def eventTable : List (Nat × Nat) :=
  [(evOverrun, 3), (evLaneDegraded, 3), (evLaneRestored, 2), (evDegradedExpired, 5), (evBackgroundLate, 3),
   (evFollowErr, 4), (evRefReset, 3), (evCommLost, 3), (evCommAlignFail, 4), (evSoftStartFail, 4),
   (evNotchTrackLimit, 3), (evNotchBypassed, 3), (evUserClipped, 3), (evPlausFault, 4), (evSegEnd, 2),
   (evDecKept, 3), (evHomeDone, 1), (evHomeLimit, 4), (evHomeChatter, 4), (evHomeTimeout, 4),
   (evIdxMismatch, 3), (evIdxFault, 4), (evStartDeferred, 3), (evQuadIllegal, 3), (evFbStale, 3),
   (evEncFault, 4), (evSsiError, 3), (evOchreError, 3), (evCmpLate, 3), (evCmpMerged, 3), (evCmpEnd, 1),
   (evPairStop, 3), (evPairReduce, 1), (evPairClear, 1), (evSepDisagree, 3), (evSepChannelFault, 5),
   (evPersonLost, 4), (evReachBreach, 4), (evRowsTruncated, 3), (evRelayStale, 4)] ++
  [(evEngineLate, 3), (evStructLoaded, 2), (evFactorSlow, 3), (evWarmMapped, 1), (evSolveUnusable, 3),
   (evSigmaRampdown, 3), (evSolveResumed, 2), (evSolveInfeasible, 4), (evSolveNumeric, 4), (evRowsUnplaced,
   3), (evSiDiscrepancy, 4), (evTpFault, 4), (evTpOutFault, 4), (evZoneStop, 2), (evZoneRelease, 2),
   (evSs1Breach, 5), (evSs1End, 2), (evSlsBreach, 5), (evSafeChannelFault, 5), (evSafeDegraded, 4),
   (evSafeDegExpired, 5), (evSafeArmed, 2), (evSafeDisarmed, 2), (evZoneTestDue, 3), (evIslandLost, 5),
   (evSafeResetDone, 2), (evSlotEdge, 2), (evSlotViolation, 4), (evNodeMuted, 4), (evNodeStale, 4),
   (evNodeJoined, 2), (evJoinRefused, 3), (evNodeLeft, 2), (evNodeGone, 4), (evChannelLost, 4),
   (evChannelRestored, 2), (evChannelDegExpired, 5), (evMasterConflict, 4), (evSubframeError, 3),
   (evSubframeTimeout, 4)] ++
  [(evNodeStoFail, 5), (evFrameError, 3), (evLinkLost, 5), (evLaneFailed, 4), (evLaneTakeover, 2),
   (evLaneRecovered, 2), (evLaneRetired, 5), (evTakeoverStateLost, 5), (evUserFault, 4), (evUserBudget, 3),
   (evUserDisabled, 4), (evKernelActive, 2), (evSweepEnd, 2), (evDomainLocked, 2), (evDomainLost, 3),
   (evTimeSwitch, 2), (evTimeHoldover, 3), (evTimeStepped, 2), (evTimeSlewDone, 1), (evUtcOffsetChange, 2),
   (evPtpV6Uncorrected, 3), (evTcFuUnmatched, 3), (evCanErrPassive, 3), (evCanBusOff, 4), (evCanBusOn, 2),
   (evNoAck, 3), (evIdClash, 3), (evCanRxOverflow, 3), (evCanWake, 1), (evCanAbdDone, 2), (evCanAbdFail, 3),
   (evHostRingOverrun, 4), (evHostReset, 3), (evSupervisorTakeover, 4), (evSupervisorSingle, 5),
   (evFwStarted, 2), (evHostWriteDenied, 3), (evSuppressed, 0), (evSiEdge, 1), (evRecLost, 4)] ++
  [(evLaneLost, 5), (evLaneRehomed, 2), (evLaneLossExpired, 5), (evAxisMigrated, 2), (evAxisUnplaced, 3),
   (evGroupRemoved, 2), (evGroupAdded, 2), (evEccCorrected, 2), (evEccUncorrectable, 5), (evClockStep, 2),
   (evClockStepPending, 3), (evHalfRateForced, 4), (evMarginExhausted, 5), (evEyeRetrained, 2),
   (evStrapFault, 4), (evBistDone, 2), (evPhaseChange, 2), (evThermalHigh, 3), (evThermalTrip, 5)]

end Sys2Proof.Machine
end

