-- ==== Sys2Proof/Machine/Ops.lean ====
section
/-!
DEFINITION. The operations that every family shares: status codes (Table 15.6), object references (R16, R17), the
accessors of keyed state, parameter values in force, the object tree (R18, R20), events on their way to the recorder
(R456), interrupt causes (R404), the host window, and completions (R421, R422).
-/
namespace Sys2Proof.Machine

abbrev Out := Host.Outcome State Fault Refusal

/-! ### Status codes, Table 15.6 -/

def stOk : Nat := 0x0000
def stNoEffect : Nat := 0x0001
def stMixed : Nat := 0x0002
def stBadOpcode : Nat := 0x0010
def stWrongRing : Nat := 0x0011
def stDupTag : Nat := 0x0012
def stArg : Nat := 0x0013
def stBadObject : Nat := 0x0014
def stBadParam : Nat := 0x0015
def stWrongClass : Nat := 0x0016
def stReadOnly : Nat := 0x0017
def stRange : Nat := 0x0018
def stBusy : Nat := 0x0020
def stNotReady : Nat := 0x0021
def stNotAllowed : Nat := 0x0022
def stNotHomed : Nat := 0x0023
def stQueueFull : Nat := 0x0024
def stProfile : Nat := 0x0025
def stSupply : Nat := 0x0026
def stDeferred : Nat := 0x0027
def stArmed : Nat := 0x0028
def stCrcMismatch : Nat := 0x0029
def stIncomplete : Nat := 0x002A
def stTimeout : Nat := 0x002B
def stBadImage : Nat := 0x0030
def stBadVersion : Nat := 0x0031
def stBadTree : Nat := 0x0032
def stNoLane : Nat := 0x0033
def stCapacity : Nat := 0x0034
def stStale : Nat := 0x0035
def stNoStruct : Nat := 0x0036
def stAborted : Nat := 0x0040
def stAlreadyDone : Nat := 0x0041
def stNoTarget : Nat := 0x0042
def stLinkMember : Nat := 0x0050
def stLinkLost : Nat := 0x0051

/-! ### Object references, Tables 1.3 and 1.4 -/

def clsDevice : Nat := 0
def clsAxis : Nat := 1
def clsNode : Nat := 2
def clsGroup : Nat := 3
def clsZone : Nat := 4
def clsPerson : Nat := 5
def clsCapsule : Nat := 6
def clsStruct : Nat := 7
def clsPort : Nat := 8
def clsCmp : Nat := 9
def clsCan : Nat := 10
def clsDomain : Nat := 11

/-- Per-device range of a class (Table 1.4); 0 for a code that is not used. -/
def classRange (c : Nat) : Nat :=
  match c with
  | 0 => 1
  | 1 => 512
  | 2 => 64
  | 3 => 256
  | 4 => 16
  | 5 => 32
  | 6 => 1024
  | 7 => 4
  | 8 => 16
  | 9 => 16
  | 10 => 4
  | 11 => 2
  | _ => 0

def mkRef (cls idx : Nat) : Word := BitVec.ofNat 32 (cls * 2 ^ 28 + idx)
def refClass (w : Word) : Nat := w.toNat / 2 ^ 28
def refIndex (w : Word) : Nat := w.toNat % 2 ^ 16
def refRsvd (w : Word) : Nat := w.toNat / 2 ^ 16 % 2 ^ 12

/-- The reference of no object, where a field allows one. -/
def noRef : Word := 0xFFFFFFFF

/-- The device an object lies on. -/
def refDevice (w : Word) : Nat := refIndex w / classRange (refClass w)

/-! ### Accessors -/

def State.axis (s : State) (a : Nat) : Axis := tblGet {} s.axes a
def State.modAxis (s : State) (a : Nat) (f : Axis → Axis) : State := { s with axes := tblMod {} s.axes a f }
def State.queue (s : State) (q : Word) : Queue := tblGet {} s.queues q.toNat
def State.modQueue (s : State) (q : Word) (f : Queue → Queue) : State :=
  { s with queues := tblMod {} s.queues q.toNat f }
def State.port (s : State) (p : Nat) : Port := tblGet {} s.ports p
def State.modPort (s : State) (p : Nat) (f : Port → Port) : State := { s with ports := tblMod {} s.ports p f }
def State.cmp (s : State) (k : Nat) : CmpSt := tblGet {} s.cmps k
def State.modCmp (s : State) (k : Nat) (f : CmpSt → CmpSt) : State := { s with cmps := tblMod {} s.cmps k f }
def State.canSt (s : State) (k : Nat) : CanSt := tblGet {} s.can k
def State.modCan (s : State) (k : Nat) (f : CanSt → CanSt) : State := { s with can := tblMod {} s.can k f }
def State.ring (s : State) (r : Nat) : Ring := tblGet {} s.host.rings r
def State.modRing (s : State) (r : Nat) (f : Ring → Ring) : State :=
  { s with host := { s.host with rings := tblMod {} s.host.rings r f } }
def State.modHost (s : State) (f : HostIf → HostIf) : State := { s with host := f s.host }
def State.modTick (s : State) (f : TickSt → TickSt) : State := { s with tick := f s.tick }
def State.modSafety (s : State) (f : SafetySt → SafetySt) : State := { s with safety := f s.safety }
def State.modSep (s : State) (f : SepSt → SepSt) : State := { s with sep := f s.sep }
def State.modSolver (s : State) (f : SolverSt → SolverSt) : State := { s with solver := f s.solver }
def State.modSelide (s : State) (f : SelideSt → SelideSt) : State := { s with selide := f s.selide }
def State.modLink (s : State) (f : LinkSt → LinkSt) : State := { s with link := f s.link }
def State.modLanes (s : State) (f : LanesSt → LanesSt) : State := { s with lanes := f s.lanes }
def State.modTime (s : State) (f : TimeSt → TimeSt) : State := { s with time := f s.time }
def State.modHealth (s : State) (f : HealthSt → HealthSt) : State := { s with health := f s.health }
def State.modPower (s : State) (f : PowerSt → PowerSt) : State := { s with power := f s.power }
def State.modRec (s : State) (f : RecSt → RecSt) : State := { s with recd := f s.recd }
def State.modSupply (s : State) (f : SupplySt → SupplySt) : State := { s with supply := f s.supply }
def State.node (s : State) (n : Nat) : NodeSt := tblGet {} s.selide.nodes n
def State.modNode (s : State) (n : Nat) (f : NodeSt → NodeSt) : State :=
  s.modSelide fun x => { x with nodes := tblMod {} x.nodes n f }
def State.trunk (s : State) (t : Nat) : TrunkSt := tblGet {} s.selide.trunks t
def State.modTrunk (s : State) (t : Nat) (f : TrunkSt → TrunkSt) : State :=
  s.modSelide fun x => { x with trunks := tblMod {} x.trunks t f }
def State.pair (s : State) (p : Nat) : PairSt := tblGet {} s.lanes.pairs p
def State.modPair (s : State) (p : Nat) (f : PairSt → PairSt) : State :=
  s.modLanes fun x => { x with pairs := tblMod {} x.pairs p f }
def State.logLane (s : State) (l : Nat) : LogLane := tblGet {} s.lanes.log l
def State.modLogLane (s : State) (l : Nat) (f : LogLane → LogLane) : State :=
  s.modLanes fun x => { x with log := tblMod {} x.log l f }
def State.zone (s : State) (z : Nat) : ZoneSt := tblGet {} s.safety.zones z
def State.modZone (s : State) (z : Nat) (f : ZoneSt → ZoneSt) : State :=
  s.modSafety fun x => { x with zones := tblMod {} x.zones z f }
def State.input (s : State) (i : Nat) : InputSt := tblGet {} s.safety.inputs i
def State.modInput (s : State) (i : Nat) (f : InputSt → InputSt) : State :=
  s.modSafety fun x => { x with inputs := tblMod {} x.inputs i f }
def State.tp (s : State) (i : Nat) : TpSt := tblGet {} s.safety.tps i
def State.modTp (s : State) (i : Nat) (f : TpSt → TpSt) : State :=
  s.modSafety fun x => { x with tps := tblMod {} x.tps i f }
def State.axisSto (s : State) (a : Nat) : AxisSto := tblGet {} s.safety.axisSto a
def State.modAxisSto (s : State) (a : Nat) (f : AxisSto → AxisSto) : State :=
  s.modSafety fun x => { x with axisSto := tblMod {} x.axisSto a f }
def State.slsSt (s : State) (g : Nat) : SlsSt := tblGet {} s.safety.sls g
def State.modSls (s : State) (g : Nat) (f : SlsSt → SlsSt) : State :=
  s.modSafety fun x => { x with sls := tblMod {} x.sls g f }
def State.armSt (s : State) (g : Nat) : ArmSt := tblGet {} s.sep.arms g
def State.modArm (s : State) (g : Nat) (f : ArmSt → ArmSt) : State :=
  s.modSep fun x => { x with arms := tblMod {} x.arms g f }
def State.eng (s : State) (e : Island) : Eng := match e with | .madder => s.sep.m | .woad => s.sep.w
/-- What an engine knows of an arm. -/
def Eng.arm (e : Eng) (g : Nat) : ArmEng := tblGet ({} : ArmEng) e.arms g
/-- What an engine knows of a joint. -/
def Eng.joint (e : Eng) (a : Nat) : JointSt := tblGet ({} : JointSt) e.joints a
def State.modEng (s : State) (e : Island) (f : Eng → Eng) : State :=
  match e with
  | .madder => s.modSep fun x => { x with m := f x.m }
  | .woad => s.modSep fun x => { x with w := f x.w }
/-- What an engine knows of a person. -/
def State.person (s : State) (e : Island) (p : Nat) : PersonSt := tblGet {} (s.eng e).persons p
def State.modPerson (s : State) (e : Island) (p : Nat) (f : PersonSt → PersonSt) : State :=
  s.modEng e fun x => { x with persons := tblMod {} x.persons p f }
/-- What an engine knows of a foreign capsule. -/
def State.relay (s : State) (e : Island) (i : Nat) : RelaySt := tblGet {} (s.eng e).relays i
def State.modRelay (s : State) (e : Island) (i : Nat) (f : RelaySt → RelaySt) : State :=
  s.modEng e fun x => { x with relays := tblMod {} x.relays i f }
def State.dom (s : State) (d : Nat) : DomainSt := tblGet {} s.time.domains d
def State.modDom (s : State) (d : Nat) (f : DomainSt → DomainSt) : State :=
  s.modTime fun x => { x with domains := tblMod {} x.domains d f }
def State.eth (s : State) (p : Nat) : EthPort := tblGet {} s.time.eth p
def State.modEth (s : State) (p : Nat) (f : EthPort → EthPort) : State :=
  s.modTime fun x => { x with eth := tblMod {} x.eth p f }
def State.clk (s : State) (d : Nat) : ClkDomain := tblGet {} s.health.clk d
def State.modClk (s : State) (d : Nat) (f : ClkDomain → ClkDomain) : State :=
  s.modHealth fun x => { x with clk := tblMod {} x.clk d f }
def State.struct? (s : State) (h : Nat) : Option Struct := tblGet none s.solver.structs h
def State.sigmaSt (s : State) (g : Nat) : SigmaSt := tblGet {} s.sigma g
def State.modSigma (s : State) (g : Nat) (f : SigmaSt → SigmaSt) : State :=
  { s with sigma := tblMod {} s.sigma g f }

/-! ### Parameter values in force -/

/-- The row that describes a parameter number. -/
def paramRow (num : Nat) : Option PRow := paramTable.find? fun r => r.num ≤ num && num ≤ r.last

/-- The default of a parameter on an object; three defaults depend on the object (Tables 3.8, 12.8, 10.16). -/
def paramDefault (num idx : Nat) : Nat :=
  if num = 0x1015 then (mkRef clsAxis idx).toNat
  else if num = 0x9010 then idx % 2
  else if num = 0x0042 then 1400
  else match paramRow num with
    | some r => r.dflt
    | none => 0

def paramKey (num idx : Nat) : Nat := num * 65536 + idx

/-- The 64-bit VALUE in force. -/
def State.raw (s : State) (num idx : Nat) : Nat :=
  (tblGet (BitVec.ofNat 64 (paramDefault num idx)) s.par.vals (paramKey num idx)).toNat

/-- The value in force, unsigned. -/
def State.pU (s : State) (num idx : Nat) : Nat := s.raw num idx

/-- The value in force, signed. -/
def State.pI (s : State) (num idx : Nat) : Int := sext 64 (s.raw num idx)

def State.setParam (s : State) (num idx v : Nat) : State :=
  { s with par := { s.par with vals := tblSet s.par.vals (paramKey num idx) (BitVec.ofNat 64 v) } }

/-! ### Device identity and time -/

/-- This device's record in the loaded CELL image (R32). -/
def State.devRec (s : State) : Option DevRec := s.cell.devs.find? fun d => d.serial = s.power.fuses.serial

/-- The device index; 0 on a device that belongs to no cell link. -/
def State.dev (s : State) : Nat := match s.devRec with | some d => d.index | none => 0

def State.devRef (s : State) : Word := mkRef clsDevice s.dev

/-- The device is a cell-link member other than the leader (R27). -/
def State.isMember (s : State) : Bool := 1 < s.cell.devs.length && s.dev ≠ 0

/-- The device leads a cell link. -/
def State.isLeader (s : State) : Bool := 1 < s.cell.devs.length && s.dev = 0

/-- The tick period in nanoseconds: TICK_RATE, and 31,250 before Selide ticks are sent (R36, R506). -/
def State.P (s : State) : Nat :=
  if s.tick.selide then
    match s.pU 0x0010 s.dev with
    | 1 => 62500
    | 2 => 125000
    | _ => 31250
  else 31250

/-- Nanoseconds from the first tick to T0 of this tick. -/
def State.now (s : State) : Nat := s.tick.t0Ns

/-- This tick is a planning boundary (R39). -/
def State.boundary (s : State) : Bool := s.tick.cycle.toNat % 32 = 0

/-- Device time at an offset of `t` nanoseconds from T0. -/
def State.timeAt (s : State) (t : Nat) : DevTime :=
  { sec := s.time.sec + (s.time.ns + t) / 1000000000, ns := (s.time.ns + t) % 1000000000 }

/-- Ticks that cover `ns` nanoseconds. -/
def ticksOf (P ns : Nat) : Nat := (ns + P - 1) / P

/-- A free value and the state that has drawn it. -/
def State.drawNat (s : State) (f : Nat → α) : α × State := (f s.free, { s with free := s.free + 1 })

/-! ### The object tree (R18, R20, R26) -/

def State.axisRec (s : State) (a : Nat) : Option AxisRec := s.cell.axes.find? fun r => r.index = a
def State.nodeRec (s : State) (n : Nat) : Option NodeRec := s.cell.nodes.find? fun r => r.index = n
def State.groupRec (s : State) (g : Nat) : Option GroupRec := s.cell.groups.find? fun r => r.index = g

/-- The members of a group in declaration order; a device's GROUP 0 ends with the axes that no group names. -/
def Cell.members (c : Cell) (g : Nat) : List Word :=
  let own := match c.groups.find? fun r => r.index = g with
    | some r => r.members
    | none => []
  if g % 256 = 0 then
    let placed := c.groups.flatMap fun r => r.members
    let free := c.axes.filter fun r => r.index / 512 = g / 256 && !(placed.contains (mkRef clsAxis r.index))
    own ++ (sortNat (free.map fun r => r.index)).map (mkRef clsAxis)
  else own

/-- The axes below an object, depth first in declaration order. -/
def Cell.axesBelow (c : Cell) : Nat → Word → List Nat
  | 0, _ => []
  | fuel + 1, w =>
    if refClass w = clsAxis then [refIndex w]
    else if refClass w = clsGroup then (c.members (refIndex w)).flatMap (c.axesBelow fuel)
    else []

/-- The tree of the whole cell, the other devices' records among it (R25, R26). -/
def Cell.whole (c : Cell) : Cell := { c with groups := c.groups ++ c.farGroups, axes := c.axes ++ c.farAxes }

def State.axesBelow (s : State) (w : Word) : List Nat :=
  s.cell.whole.axesBelow (s.cell.groups.length + s.cell.farGroups.length + 2) w

/-- The axes below an object that lie on this device. -/
def State.localAxes (s : State) (w : Word) : List Nat := (s.axesBelow w).filter fun a => a / 512 = s.dev

/-- The groups below an object, itself included. -/
def Cell.groupsBelow (c : Cell) : Nat → Word → List Nat
  | 0, _ => []
  | fuel + 1, w =>
    if refClass w = clsGroup then
      refIndex w :: (c.members (refIndex w)).flatMap (c.groupsBelow fuel)
    else []

def State.groupsBelow (s : State) (w : Word) : List Nat := s.cell.groupsBelow (s.cell.groups.length + 2) w

/-- The parent group of an object (R34). -/
def Cell.parent (c : Cell) (w : Word) : Option Nat :=
  match c.groups.find? fun r => r.members.contains w with
  | some r => some r.index
  | none => if refClass w = clsAxis then some (refIndex w / 512 * 256) else none

/-- The chain of groups above an object, nearest first. -/
def Cell.ancestors (c : Cell) : Nat → Word → List Nat
  | 0, _ => []
  | fuel + 1, w =>
    match c.parent w with
    | some g => g :: c.ancestors fuel (mkRef clsGroup g)
    | none => []

def State.ancestors (s : State) (w : Word) : List Nat := s.cell.ancestors (s.cell.groups.length + 2) w

/-- The arm whose joint an axis is (R19). -/
def State.armOf (s : State) (a : Nat) : Option Nat :=
  match s.cell.parent (mkRef clsAxis a) with
  | some g => if s.sep.kin.chains.any fun c => c.group = g then some g else none
  | none => none

/-- Every arm of the device (R19). -/
def State.armList (s : State) : List Nat := s.sep.kin.chains.map fun c => c.group

/-- The axes of the device, in ascending cell index. -/
def State.axisList (s : State) : List Nat :=
  sortNat ((s.cell.axes.filter fun r => r.index / 512 = s.dev).map fun r => r.index)

/-- A group flagged redundant, or one above it. -/
def State.redundantAt (s : State) (w : Word) : Bool :=
  let gs := (if refClass w = clsGroup then [refIndex w] else []) ++ s.ancestors w
  gs.any fun g => (s.groupRec g).any fun r => r.redundant

/-- The Selide node that serves an axis, by local index, with the axis's channel. -/
def State.axisNode (s : State) (a : Nat) : Option (Nat × Nat) :=
  match s.axisRec a with
  | some r => if refClass r.source = clsNode then some (refIndex r.source % 64, r.chan) else none
  | none => none

/-- The local port that serves an axis. -/
def State.axisPort (s : State) (a : Nat) : Option Nat :=
  match s.axisRec a with
  | some r => if refClass r.source = clsPort then some (refIndex r.source % 16) else none
  | none => none

/-- The record of a node of this device, by local index. -/
def State.localNode (s : State) (n : Nat) : Option NodeRec := s.nodeRec (s.dev * 64 + n)

/-- The axes of a node of this device, by local index of the node. -/
def State.nodeAxes (s : State) (n : Nat) : List Nat :=
  (s.cell.axes.filter fun r => r.source = mkRef clsNode (s.dev * 64 + n)).map fun r => r.index

/-- R17, R33: a reference is valid in the configured cell, and an axis, a node or a group is one that the CELL image declares
(log entry 4). -/
def State.objOk (s : State) (w : Word) : Bool :=
  let c := refClass w
  let i := refIndex w
  classRange c ≠ 0 && refRsvd w = 0 &&
  (if s.cell.loaded then s.cell.devs.any fun d => d.index = refDevice w else refDevice w = 0) &&
  (if c = clsAxis then (s.cell.axes ++ s.cell.farAxes).any fun r => r.index = i
   else if c = clsNode then (s.cell.nodes.any fun r => r.index = i) || s.cell.farNodes.contains i
   else if c = clsGroup then s.cell.loaded && (i % 256 = 0 || (s.cell.groups ++ s.cell.farGroups).any fun r => r.index = i)
   else true)

/-! ### Calendar (R367, R368) -/

/-- Year, month and day of a day counted from 1970-01-01. -/
def civil (days : Nat) : Nat × Nat × Nat :=
  let z := days + 719468
  let doe := z % 146097
  let yoe := (doe - doe / 1460 + doe / 36524 - doe / 146096) / 365
  let doy := doe - (365 * yoe + yoe / 4 - yoe / 100)
  let mp := (5 * doy + 2) / 153
  let m := if mp < 10 then mp + 3 else mp - 9
  (yoe + z / 146097 * 400 + (if m ≤ 2 then 1 else 0), m, doy - (153 * mp + 2) / 5 + 1)

/-- The UTC offset in use. -/
def State.utcOff (s : State) : Int := if s.time.utcValid then s.time.utcOffset else s.pI 0x9008 s.dev

/-- UTC seconds of a device time. -/
def State.utcSec (s : State) (t : DevTime) : Int := (t.sec : Int) - s.utcOff

def timeQual (x : TimeSt) : Nat := x.source % 4 + 4 * b2n x.utcValid + 8 * b2n x.slewing

/-- Table 12.3 for a whole number of UTC seconds, with the second shown. -/
def calendarBytes (u : Nat) (sec ns qual : Nat) : List Byte :=
  let c := civil (u / 86400)
  bytesLE 4 ns ++ bytesLE 1 sec ++ bytesLE 1 (u / 60 % 60) ++ bytesLE 1 (u / 3600 % 24) ++ bytesLE 1 c.2.2 ++
    bytesLE 1 c.2.1 ++ bytesLE 1 qual ++ bytesLE 2 c.1

/-- 9999-12-31 23:59:59. -/
def lastUtc : Nat := 253402300799

/-- A device time as calendar UTC. -/
def State.calendar (s : State) (t : DevTime) : List Byte :=
  let q := timeQual s.time
  let u := s.utcSec t
  if u < 0 then calendarBytes 0 0 0 q
  else if (lastUtc : Int) < u then calendarBytes lastUtc 59 999999999 q
  else if s.time.leapSec ∧ u.toNat % 86400 = 0 ∧ 0 < u then calendarBytes (u.toNat - 1) 60 t.ns q
  else calendarBytes u.toNat (u.toNat % 60) t.ns q

/-! ### Events (R451, R456) -/

/-- Entries of the event queue that hold events. -/
def queuedEvents (q : List QEv) : Nat :=
  (q.filter fun e => match e with | .ev .. => true | .lost .. => false).length

/-- Count one more lost event in the run of losses at the end of the queue. -/
def pushLost (cyc : Word) (time : List Byte) : List QEv → List QEv
  | [] => [.lost 1 cyc time]
  | [.lost n f t] => [.lost (incSat 32 n) f t]
  | e :: r => e :: pushLost cyc time r

/-- An event arrives at the recorder's queue of 1,024 entries (R456). Its TIME is UTC as it stands at the event, in a leap second
too (R368). -/
def State.emitAt (s : State) (code : Nat) (obj : Word) (args : List Nat) (stamp : Option DevTime) : State :=
  s.modRec fun r =>
    if queuedEvents r.queue < 1024 then
      { r with queue := r.queue ++ [.ev code obj (args.map (BitVec.ofNat 32)) s.tick.cycle (s.calendar (stamp.getD (s.timeAt 0))) stamp.isSome] }
    else { r with queue := pushLost s.tick.cycle (s.calendar (s.timeAt 0)) r.queue, lostCount := incSat 32 r.lostCount }

def State.emit (s : State) (code : Nat) (obj : Word) (args : List Nat) : State := s.emitAt code obj args none

/-- The event argument word of a signed quantity. -/
def argI (v : Int) : Nat := uns 32 v

/-! ### Interrupts (R404) -/

/-- MSI-X vector `k` is raised: sent, or held while the vector is masked, or while the function is in D3hot. -/
def State.raiseVector (s : State) (k : Nat) : State :=
  let e := tblGet {} s.host.msix k
  if bitN e.ctrl.toNat 0 || s.host.pci.d3hot then s.modHost fun h => { h with pba := h.pba ||| BitVec.ofNat 32 (2 ^ k) }
  else s.modHost fun h => { h with msiSent := tblMod 0 h.msiSent k (· + 1) }

/-- Cause `k` of Table 14.7 sets. -/
def State.raiseIrq (s : State) (k : Nat) : State :=
  if bitN s.host.irqStatus.toNat k then s
  else
    let t := s.modHost fun h => { h with irqStatus := h.irqStatus ||| BitVec.ofNat 32 (2 ^ k) }
    if bitN s.host.irqEnable.toNat k then t.raiseVector k else t

/-- Cause TIME: SOURCE or the selected domain has changed (Table 14.7). -/
def State.timeCause (t : State) (old : TimeSt) : State :=
  if t.time.source = old.source ∧ t.time.sel = old.sel then t else t.raiseIrq 13

/-! ### The host window (R405) -/

def winBytes : Nat := 4194304

def readCells {w : Nat} (m : Cells w) (off : Nat) : Nat → List (BitVec w)
  | 0 => []
  | n + 1 => cellRead m off :: readCells m (off + 1) n

def writeCells {w : Nat} (m : Cells w) (off : Nat) : List (BitVec w) → Cells w
  | [] => m
  | b :: r => writeCells (cellWrite m off b) (off + 1) r

def State.winRead (s : State) (off n : Nat) : List Byte := readCells s.host.window off n
def State.winWrite (s : State) (off : Nat) (l : List Byte) : State :=
  s.modHost fun h => { h with window := writeCells h.window off l }

/-! ### Completions (R421, R422) -/

/-- The host command that a status or a beginning under a ring and a tag belongs to: the one that takes effect now, else one of
that opcode that has begun, else any whose status is open; a tag may stand twice after a host reset (R425). -/
def State.openCmd (s : State) (op : Option Nat) (ring : Nat) (tag : Word64) : Option InFlight :=
  let l := s.host.inflight.filter fun e => e.hdr.ring.val = ring && e.hdr.tag = tag && !e.decided
  ((l.find? fun e => s.host.current = some e.seq).or
    (l.find? fun e => e.begun && op = some e.opcode.toNat)).or l.head?

/-- The status of a command is decided and its completion is ready; it reports this tick. The completion of a command
accepted before a host reset is discarded (R425). -/
def State.complete (s : State) (op : Nat) (h : Hdr) (status : Nat) (obj : Word) (result : Nat) : State :=
  let r := s.ring h.ring.val
  let ent := s.openCmd (some op) h.ring.val h.tag
  let n := r.written + BitVec.ofNat 32 r.ready.length
  let c : Cpl := { tag := h.tag, status := BitVec.ofNat 32 status, obj := obj, cycle := s.tick.cycle,
                   opcode := BitVec.ofNat 16 op, result := BitVec.ofNat 64 result,
                   notify := (ent.map fun e => e.notify).getD false, seq := ent.map fun e => e.seq }
  let orphan := (ent.map fun e => e.orphan).getD false
  let s1 := if orphan then s else s.modRing h.ring.val fun r =>
    { r with ready := r.ready ++ [c], lastTags := (h.tag :: r.lastTags).take 32 }
  s1.modHost fun x => { x with
    inflight :=
      if orphan then x.inflight.filter fun e => some e.seq ≠ c.seq
      else x.inflight.map fun e => if some e.seq = c.seq then { e with decided := true, cplNo := some n } else e
    journal := x.journal.map fun j =>
      if some j.seq = c.seq then { j with status := some (BitVec.ofNat 32 status), effectTick := some s.tick.no } else j }

/-- Completion with the command's own object and no result. -/
def State.done (s : State) (op : Nat) (h : Hdr) (status : Nat) : State := s.complete op h status h.obj 0

/-- The command has begun to take effect and its completion comes later. -/
def State.begin (s : State) (h : Hdr) : State :=
  let k := (s.openCmd none h.ring.val h.tag).map fun e => e.seq
  s.modHost fun x => { x with inflight := x.inflight.map fun e => if some e.seq = k then { e with begun := true } else e }

/-- `f` is the effect of the command with a sequence number. -/
def State.asCurrent (s : State) (seq : Nat) (f : State → State) : State :=
  (f (s.modHost fun x => { x with current := some seq })).modHost fun x => { x with current := none }

/-- Fold an operation over a list. -/
def State.forEach (s : State) (l : List α) (f : State → α → State) : State := l.foldl f s

/-! ### Local ports (R119) -/

/-- Port modes of R119. -/
def pmOff : Nat := 0
def pmQuad : Nat := 1
def pmPulse : Nat := 2
def pmSsi : Nat := 3
def pmOchre : Nat := 4

/-- Cell index of a local port, CMP or CAN object. -/
def State.portIx (s : State) (p : Nat) : Nat := s.dev * 16 + p
def State.portMode (s : State) (p : Nat) : Nat := s.pU 0x4001 (s.portIx p)

/-- An absolute source (R82): SSI, Ochre, or a node encoder declared absolute. -/
def State.sourceAbsolute (s : State) (a : Nat) : Bool :=
  match s.axisPort a with
  | some p => s.portMode p = pmSsi || s.portMode p = pmOchre
  | none => bitN (s.axis a).fb.word.toNat 46

/-! ### Regions that other blocks write (R301, R302) -/

/-- The lane pairs. -/
def pairNos : List Nat := upTo 17

/-- Another block writes into the pairs that `pick` names. -/
def State.extWrite (s : State) (pick : PairSt → Bool) (f : Nat → Nat → ExtWrites → ExtWrites) : State :=
  let t := s.forEach (pairNos.filter fun p => pick (s.pair p)) fun u p =>
    u.modPair p fun x => { x with ext := f (s.free + 1) p x.ext }
  { t with free := s.free + 1 }

/-- The intake writes the pairs that serve a lane. -/
def State.intakeWrite (s : State) : State :=
  s.extWrite (fun x => x.lane.isSome) fun n _ e => { e with intake := n }

/-- An engine's results reach every pair's view of them. -/
def State.viewWrite (s : State) (i : Island) : State :=
  s.extWrite (fun _ => true) fun n _ e => match i with
    | .madder => { e with viewM := n }
    | .woad => { e with viewW := n }

/-- The published shadow values reach every pair's view of them (R13, R45). -/
def State.shadowWrite (s : State) : State := s.extWrite (fun _ => true) fun n _ e => { e with shadow := n }

/-- The commit unit writes configuration and coefficients of the slots of the pairs that serve a lane. -/
def State.cfgWrite (s : State) (slots : List Nat) (pick : PairSt → Bool) : State :=
  s.extWrite pick fun n p e => { e with cfg := slots.foldl (fun c k => tblSet c k (n, p, k)) e.cfg }

end Sys2Proof.Machine
end

