-- ==== Sys2Proof/Machine/Boot.lean ====
section
/-!
DEFINITION. Power, straps and the boot mailbox (R410 to R413, R491 to R503), up to the start of the firmware.
-/
namespace Sys2Proof.Machine

/-! ### Phases and boot states -/

/-- The device phase changes and is recorded (R503). -/
def State.setPhase (s : State) (p : Nat) : State :=
  if s.power.phase = p then s
  else (s.emit evPhaseChange s.devRef [s.power.phase, p]).modPower fun x => { x with phase := p }

/-- BOOT_STATUS.STATE changes and cause BOOT sets (Table 14.7). -/
def State.setBoot (s : State) (st : Nat) : State :=
  if s.power.bootState = st then s
  else (s.modPower fun x => { x with bootState := st, bootError := 0 }).raiseIrq 4

/-- STATE FAILED with an error code of R413; PHASE becomes FAILED (Table 18.6). -/
def State.bootFail (s : State) (err : Nat) : State :=
  ((s.setBoot 7).modPower fun x => { x with bootError := err }).setPhase 5

/-- The firmware runs and serves the rings (R410); after a supervisor loss nothing does (R470). -/
def State.fwAlive (s : State) : Bool :=
  s.power.bootState = 4 && !s.power.reset && s.health.supLost.isNone && !(s.power.phase = 5)

/-! ### Rails and reset -/

def railNo : Rail → Nat
  | .core => 0 | .sram => 1 | .safeM => 2 | .safeW => 3 | .serdes => 4 | .pll => 5 | .io18 => 6 | .io33 => 7

def State.railOk (s : State) (r : Nat) : Bool := tblGet false s.power.rails r

/-- R496: all device state is lost but the fuses; rails, reference clock and host memory are not the device's. -/
def State.internalReset (s : State) : State :=
  { State.reset with
    power := { fuses := s.power.fuses, rails := s.power.rails, refclk := s.power.refclk }
    host := { hostMem := s.host.hostMem }
    free := s.free
    pending := s.pending }

def execRailValid (r : Rail) (s : State) : Out :=
  .next (s.modPower fun x => { x with rails := tblSet x.rails (railNo r) true })

/-- Whether a low level of `ns` nanoseconds on PORST_N resets the device: 1 µs to 10 µs is left open (R494). -/
def porstTaken (s : State) (ns : Nat) : Bool :=
  if ns < 1000 then false else if 10000 ≤ ns then true else Config.shortPulseTaken s.free

def execPorstNLow (ns : Nat) (s : State) : Out :=
  let t := if 1000 ≤ ns ∧ ns < 10000 then { s with free := s.free + 1 } else s
  .next (if porstTaken s ns then t.internalReset else t)

/-- R495: every rail is valid. No command says that REFCLK runs; the release itself does (log entry 69). -/
def State.releaseReady (s : State) : Bool := s.power.reset && (upTo 8).all fun r => s.railOk r

def execInternalResetRelease (s : State) : Out :=
  .next (if s.releaseReady then s.modPower fun x => { x with reset := false, refclk := true } else s)

/-! ### Straps (R497 to R501): pins 0 to 15 ZSA, 16 to 31 ZSB, 32 to 47 CMP, 48 to 55 TP, 56 to 59 CAN TXD,
60 TICK_OUT, 61 FAULT_N -/

def levelCode : StrapLevel → Nat
  | .low => 0 | .high => 1 | .mid => 2

/-- Table 18.2: the pin may only be strapped safe-low. -/
def lowOnly (pin : Nat) : Bool := (48 ≤ pin && pin ≤ 55) || pin = 61

/-- Table 18.3, with the last sentence of R498. -/
def strapResult (pin : Nat) (x : StrapSample) : Strap :=
  let high := x.at20 = .high ∧ x.at45 = .high
  let low := x.at20 = .low ∧ x.at45 = .low
  { high := high, unstrapped := !(decide high || decide low) || (decide high && lowOnly pin),
    s20 := levelCode x.at20, s45 := levelCode x.at45 }

def strapAll : Nat → List StrapSample → Tbl Strap
  | _, [] => []
  | k, x :: r => (k, strapResult k x) :: strapAll (k + 1) r

def State.strap (s : State) (pin : Nat) : Strap := tblGet {} s.power.straps pin

def execStrapSense (samples : List StrapSample) (s : State) : Out :=
  .next (if s.power.reset || s.power.strapDone then s
    else s.modPower fun x => { x with strapDone := true, straps := strapAll 0 samples })

/-- Pin group code and index of STRAP_FAULT (Table 18.11). -/
def strapGroup (pin : Nat) : Nat × Nat :=
  if pin < 16 then (1, pin) else if pin < 32 then (2, pin - 16) else if pin < 48 then (3, pin - 32)
  else if pin < 56 then (4, pin - 48) else if pin < 60 then (5, pin - 56) else if pin = 60 then (6, 0) else (7, 0)

/-! ### Registers the window repeats (R408) -/

def State.fuseStatus (s : State) : Nat :=
  b2n s.power.fuses.custPresent + 2 * b2n s.power.fuses.vendorDisabled + 4 * b2n s.power.fuses.eccErr

/-- ID_DEVICE to DEVICE_INDEX, BAR0 0x0000 to 0x001C. -/
def State.idRegs (s : State) : List Nat :=
  [0xC5121E3C, 2, (s.power.fw.map fun f => f.release.toNat).getD 0, (s.power.fw.map fun f => f.build.toNat).getD 0,
   s.power.fuses.serial.toNat % 2 ^ 32, s.power.fuses.serial.toNat / 2 ^ 32, s.fuseStatus,
   (s.devRec.map fun d => d.index).getD 0xFF]

def State.syncIdentity (s : State) : State := s.winWrite 0 (s.idRegs.flatMap (bytesLE 4))

/-! ### Boot commands -/

/-- The boot ROM is ready; the device time begins (R363, R410). -/
def execRomReady (s : State) : Out :=
  .next (if !s.power.reset ∧ s.power.bootState = 0 then
      ((s.setBoot 1).modTime fun x => { x with sec := 86400, ns := 0 }).syncIdentity
    else s)

/-- The device time runs from ROM ready on; before the first tick nothing says how much of it passes between two commands
(R363, log entry 68). -/
def State.bootClock (s : State) : State :=
  if s.power.reset || s.power.bootState = 0 || s.tick.running || !s.power.refclk then s
  else
    let n := s.time.ns + Config.bootNs s.free
    ({ s with free := s.free + 1 }).modTime fun x => { x with sec := x.sec + n / 1000000000, ns := n % 1000000000 }

/-- A boot command takes effect only in ROM_READY or FAILED (R411). -/
def State.bootCmdOk (s : State) : Bool := s.power.bootState = 1 || s.power.bootState = 7

/-- One section of a firmware image (Table 14.10). -/
structure FwSection where
  stype : Nat
  res1 : Nat
  off : Nat
  len : Nat
  res2 : Nat
  digest : List Byte
  deriving DecidableEq, Repr

def fwSection (img : List Byte) (k : Nat) : FwSection :=
  let o := 128 + 64 * k
  { stype := fieldAt img o 2, res1 := fieldAt img (o + 2) 2, off := fieldAt img (o + 4) 4,
    len := fieldAt img (o + 8) 4, res2 := fieldAt img (o + 12) 4, digest := slice img (o + 16) 48 }

def fwSections (img : List Byte) : List FwSection := (upTo 5).map (fwSection img)

/-- No two sections share a byte. -/
def disjointSections : List FwSection → Bool
  | [] => true
  | x :: r => (r.all fun y => x.off + x.len ≤ y.off || y.off + y.len ≤ x.off) && disjointSections r

def digestOk (img : List Byte) (t : Nat) : Bool :=
  (fwSections img).any fun x => x.stype = t && sha384 (slice img x.off x.len) = x.digest

/-- Checks 4 to 6 of R413, in order: the error code, 0 when all pass. -/
def fwKeyError (f : Fuses) (img : List Byte) : Nat :=
  let sel := fieldAt img 20 1
  let pub := slice img 24 97
  if !((sel = 1 && !f.vendorDisabled) || (sel = 2 && f.custPresent)) then 4
  else if sha384 pub ≠ (if sel = 1 then f.vendorHash else f.custHash) then 5
  else if ecdsaVerify pub (slice img 448 48) (slice img 496 48) (sha384 (img.take 448)) then 0
  else 6

/-- The verification of R413 in its order: the error code, 0 when the image passes. -/
def fwError (f : Fuses) (arg1 : Nat) (img : List Byte) : Nat :=
  let secs := fwSections img
  let total := fieldAt img 8 4
  if !(fieldAt img 0 4 = 0x5746425A && fieldAt img 4 2 = 1 && fieldAt img 6 2 = 5 && fieldAt img 21 3 = 0 &&
       fieldAt img 121 7 = 0 && secs.all fun x => x.res1 = 0 && x.res2 = 0) then 1
  else if !(total = arg1 && total ≤ 3670016 &&
       (secs.all fun x => x.off % 64 = 0 && x.off + x.len ≤ total) && disjointSections secs &&
       ((upTo 5).all fun t => secs.any fun x => x.stype = t + 1)) then 2
  else if !bitN (fieldAt img 16 4) 2 then 3
  else if fwKeyError f img ≠ 0 then fwKeyError f img
  else if !digestOk img 1 then 7
  else if !digestOk img 2 then 8
  else if !digestOk img 5 then 9
  else if !digestOk img 3 then 10
  else if !digestOk img 4 then 11
  else 0

/-- LOAD_FW: VERIFYING, then STARTING, or FAILED with an error code (R411, R413). -/
def State.loadFirmware (s : State) : State :=
  let img := s.winRead s.host.bootCmdArg0.toNat s.host.bootCmdArg1.toNat
  let v := s.setBoot 2
  match fwError s.power.fuses s.host.bootCmdArg1.toNat img with
  | 0 => (v.setBoot 3).modPower fun x => { x with
      fwPending := some { release := BitVec.ofNat 16 (fieldAt img 12 2), build := BitVec.ofNat 16 (fieldAt img 14 2),
                          keySel := BitVec.ofNat 8 (fieldAt img 20 1) } }
  | e => v.bootFail e

def execLoadFw (s : State) : Out := .next (if s.bootCmdOk then s.bootClock.loadFirmware else s)

/-- ASCII bytes padded with 0 from the first 0 on (R408). -/
def padString : List Byte → List Byte
  | [] => []
  | b :: r => if b = 0 then 0 :: r.map fun _ => 0 else b :: padString r

/-- The firmware starts: identity registers, FW_STARTED, STRAP_FAULT for each unstrapped pin, PHASE SELF_TEST, from FAILED too
(log entry 158). -/
def State.firmwareStarts (s : State) (f : FwInfo) : State :=
  let t := (s.setBoot 4).modPower fun x => { x with fw := some f, fwPending := none }
  let t := t.emit evFwStarted t.devRef [f.release.toNat, f.build.toNat, f.keySel.toNat]
  let t := t.forEach (upTo 62) fun t pin =>
    if (t.strap pin).unstrapped then
      t.emit evStrapFault t.devRef [(strapGroup pin).1, (strapGroup pin).2, (t.strap pin).s20, (t.strap pin).s45]
    else t
  let b := (upTo 4).flatMap fun k => bytesLE 8 (Config.freeWord (t.free + k)).toNat
  (({ t with free := t.free + 4 }).setPhase 1).syncIdentity.winWrite 0x20 (padString (b.map fun x => x &&& 0x7F))

def execFwRunning (s : State) : Out :=
  .next (match s.power.fwPending with
    | some f => if s.power.bootState = 3 then s.bootClock.firmwareStarts f else s
    | none => s)

/-- BURN_CUST_KEY (R411): the 48 bytes at BOOT_ARG0 go into the fuses. -/
def State.burnCustKey (s : State) : State :=
  if s.power.fuses.custPresent then s
  else (s.setBoot 5).modPower fun x => { x with fuseWrite := 1, fuseData := s.winRead s.host.bootCmdArg0.toNat 48 }

def execBurnCustKey (s : State) : Out := .next (if s.bootCmdOk then s.bootClock.burnCustKey else s)

/-- BURN_VENDOR_DISABLE (R411): ignored unless CUST_PRESENT is 1. -/
def State.burnVendorDisable (s : State) : State :=
  if s.power.fuses.custPresent then (s.setBoot 5).modPower fun x => { x with fuseWrite := 2 } else s

def execBurnVendorDisable (s : State) : Out := .next (if s.bootCmdOk then s.bootClock.burnVendorDisable else s)

/-- What the fuses hold after a write that reads back. -/
def Fuses.written (f : Fuses) (kind : Nat) (data : List Byte) : Fuses :=
  if kind = 1 then { f with custPresent := true, custHash := data } else { f with vendorDisabled := true }

/-- After a write that fails to read back, what the written fuses hold is open: free values. -/
def Fuses.spoiled (f : Fuses) (kind k : Nat) : Fuses :=
  if kind = 1 then
    { f with custPresent := bitN (Config.freeWord k).toNat 0, eccErr := true,
             custHash := (upTo 6).flatMap fun j => bytesLE 8 (Config.freeWord (k + 1 + j)).toNat }
  else { f with vendorDisabled := bitN (Config.freeWord k).toNat 0, eccErr := true }

/-- The fuse write ends (R411). -/
def State.fuseDone (s : State) (ok : Bool) : State :=
  let k := s.power.fuseWrite
  let t := s.modPower fun x => { x with
    fuses := if ok then x.fuses.written k x.fuseData else x.fuses.spoiled k s.free, fuseWrite := 0, fuseData := [] }
  if ok then (t.setBoot 1).syncIdentity else (({ t with free := t.free + 7 }).bootFail 12).syncIdentity

def execFuseWriteDone (readBackOk : Bool) (s : State) : Out :=
  .next (if s.power.bootState = 5 then s.bootClock.fuseDone readBackOk else s)

/-! ### Links and pins of chapter 19 -/

/-- Link training ends: the endpoint answers (R495). -/
def execPcieLinkUp (s : State) : Out :=
  .next (if s.power.reset then s else s.modHost fun h => { h with linkUp := true })

/-- The IDCODE register: version 0x2 for stepping 2, part number 0xC512, manufacturer field 0x4E5 (R521). -/
def tapIdcode : Word := 0x2C5129CB

/-- The instruction that acts: other than BYPASS and IDCODE only while BOOT_STATUS shows ROM_READY or FAILED, and as BYPASS at
any other time (R521). -/
def State.tapActs (s : State) : TapInstr :=
  match s.power.tap with
  | .bypass => .bypass
  | .idcode => .idcode
  | j => if s.bootCmdOk then j else .bypass

/-- An instruction is shifted into the test access port. -/
def execBoundaryScanInstruction (i : TapInstr) (s : State) : Out := .next (s.modPower fun x => { x with tap := i })

end Sys2Proof.Machine
end

