-- ==== Sys2Proof/Machine/AxisKernel.lean ====
section
/-!
DEFINITION. The axis kernel of chapter 3: velocity estimate, position loop, limiter loops and selection, notches and
tracking, output word, each as a function of one axis's loop state. Torques in accumulators carry 63 fraction bits of
the rated peak; a torque in Q1.15 is shifted by 48 (R58, R311). `T` is the sample interval in nanoseconds.
-/
namespace Sys2Proof.Machine

/-! ### Formats (R58, R59) -/

/-- A Q1.15 torque in an accumulator. -/
def tq (v : Int) : Int := v * 2 ^ 48

/-- An accumulator rounded to Q1.15, halves away from zero, saturated (R58). -/
def toQ15 (v : Int) : Int := satS 16 (rdiv v (2 ^ 48))

/-- Accumulators saturate at 80 bits (R311). -/
def acc80 (v : Int) : Int := satS 80 v

/-- k_T: position LSB per velocity LSB over `T` (R59); k_rate of Table 2.5 when `T` is the tick period. -/
def kT (T : Nat) : Rat := mkRat (65536 * T) 1000000000

def secs (ns : Nat) : Rat := mkRat ns 1000000000

/-- The velocity estimate of R59. -/
def velocityEstimate (T filt : Nat) (pos prev v : Int) : Int :=
  let raw := satS 32 (rnd (((pos - prev : Int) : Rat) / kT T))
  let beta := mkRat T (filt + T)
  satS 32 (v + rnd (beta * ((raw - v : Int) : Rat)))

/-! ### Parameters of one axis -/

structure LoopCfg where
  kp : Int
  ki : Int
  kd : Int
  tf : Nat
  kvf : Int
  kaf : Int
  tt : Nat
  kpv : Int
  kiv : Int
  torqueMax : Int
  vmax : Int
  dirDb : Int
  deriving DecidableEq, Repr

def State.loopCfg (s : State) (a : Nat) : LoopCfg :=
  { kp := s.pU 0x2001 a, ki := s.pU 0x2002 a, kd := s.pU 0x2003 a, tf := s.pU 0x2004 a, kvf := s.pU 0x2005 a,
    kaf := s.pU 0x2006 a, tt := s.pU 0x2007 a, kpv := s.pU 0x2008 a, kiv := s.pU 0x2009 a,
    torqueMax := s.pI 0x1005 a, vmax := s.pU 0x1004 a, dirDb := s.pU 0x1024 a }

/-! ### The position loop (R64) -/

/-- KP × e: 2⁻¹⁶ peak per turn times 2⁻³² turn. -/
def pTerm (c : LoopCfg) (e : Int) : Int := c.kp * e * 2 ^ 15

/-- The filtered derivative. -/
def dTerm (c : LoopCfg) (T : Nat) (d e ePrev : Int) : Int :=
  let alpha := mkRat c.tf (c.tf + T)
  acc80 (rnd (alpha * (d : Rat) + (1 - alpha) * ((c.kd * (e - ePrev) * 2 ^ 7 : Int) : Rat) / secs T))

/-- The feedforward of velocity and acceleration references. -/
def ffTerm (c : LoopCfg) (vRef aRef : Int) : Int := c.kvf * vRef * 2 ^ 23 + c.kaf * aRef * 2 ^ 19

/-! ### Limiters and selection (R67 to R70) -/

/-- R68: the direction of motion; `true` is negative. -/
def motionDir (c : LoopCfg) (v vRef : Int) (old : Bool) : Bool :=
  if c.dirDb < v.natAbs then decide (v < 0)
  else if c.dirDb < vRef.natAbs then decide (vRef < 0)
  else old

def sgnDir (neg : Bool) : Int := if neg then -1 else 1

/-- Integrator of the limiter with a ceiling code of Table 3.3. -/
def LimInt.get (l : LimInt) (k : Nat) : Int :=
  match k with | 1 => l.vmax | 2 => l.kappa | 3 => l.ss1 | 4 => l.sls | _ => l.deg

def LimInt.set (l : LimInt) (k : Nat) (v : Int) : LimInt :=
  match k with
  | 1 => { l with vmax := v } | 2 => { l with kappa := v } | 3 => { l with ss1 := v }
  | 4 => { l with sls := v } | _ => { l with deg := v }

/-- Output of a limiter with ceiling `ck` in velocity LSB. -/
def limOut (c : LoopCfg) (sg v ik ck : Int) : Int := acc80 (ik + c.kpv * (sg * ck - v) * 2 ^ 23)

/-- A ceiling in force: its code and its magnitude. -/
abbrev Ceil := Nat × Int

/-- Ceilings ordered by rising priority: VMAX, DEG, KAPPA, SLS, SS1 (R69). -/
def ceilOrder : List Nat := [1, 5, 2, 4, 3]

def sortCeils (l : List Ceil) : List Ceil := ceilOrder.flatMap fun k => l.filter fun p => p.1 = k

/-- The selection loop of R69: the output selected so far and its winner. -/
def selectLoop (c : LoopCfg) (sg v : Int) (lims : LimInt) : List Ceil → Int × Nat → Int × Nat
  | [], r => r
  | (k, ck) :: rest, (uSel, win) =>
    let uk := limOut c sg v (lims.get k) ck
    selectLoop c sg v lims rest
      (if sg * uk < sg * uSel ∨ (win ≠ 0 ∧ sg * uk = sg * uSel) then (uk, k) else (uSel, win))

/-- The most restrictive output of the limiters in force; VMAX always is (R67, R72). -/
def limBound (c : LoopCfg) (sg v : Int) (lims : LimInt) (ceils : List Ceil) : Int :=
  match ceils.map fun p => limOut c sg v (lims.get p.1) p.2 with
  | [] => sg * tq c.torqueMax
  | u :: r => r.foldl (fun x y => if sg * y < sg * x then y else x) u

/-- Back-calculation ratio r (R69). -/
def backRatio (c : LoopCfg) (T : Nat) : Rat := if c.tt = 0 then 1 else minQ 1 (mkRat T c.tt)

/-- Integrators of the limiters after selection. -/
def backLims (c : LoopCfg) (T : Nat) (sg v uSat : Int) (win : Nat) (ceils : List Ceil) (l : LimInt) : LimInt :=
  [1, 2, 3, 4, 5].foldl (fun acc k =>
    match ceils.find? fun p => p.1 = k with
    | some (_, ck) =>
      let ik := l.get k
      let r := backRatio c T
      if k = win then
        acc.set k (acc80 (ik + rnd (((c.kiv * (sg * ck - v) * 2 ^ 31 : Int) : Rat) * secs T +
          r * ((uSat - limOut c sg v ik ck : Int) : Rat))))
      else acc.set k (acc80 (ik + rnd (r * ((uSat - ik : Int) : Rat))))
    | none => acc.set k uSat) l

/-- R69 on one axis: selection, torque limit and back-calculation. `e` is the position error. -/
def selectAll (c : LoopCfg) (T : Nat) (e : Int) (ceils : List Ceil) (lp : LoopSt) : LoopSt :=
  let sg := sgnDir lp.dirNeg
  let cs := sortCeils ceils
  let (uSel, win) := selectLoop c sg lp.vFb lp.lims cs (lp.uPid, 0)
  let uSat := clampI (-(tq c.torqueMax)) (tq c.torqueMax) uSel
  let r := backRatio c T
  { lp with
    uSel := uSel, uSat := uSat, uLim := limBound c sg lp.vFb lp.lims cs, win := win, tsat := decide (uSat ≠ uSel)
    iPid := acc80 (lp.iPid + rnd (((c.ki * e * 2 ^ 23 : Int) : Rat) * secs T + r * ((uSat - lp.uPid : Int) : Rat)))
    lims := backLims c T sg lp.vFb uSat win cs lp.lims }

/-- R70: the yield of an axis that a limiter holds back. -/
def yieldOf (c : LoopCfg) (win : Nat) (v vRef : Int) : Nat :=
  if win ≠ 0 ∧ c.dirDb < vRef.natAbs then
    (clampQ 0 65536 ((rnd (mkRat (v.natAbs * 65536) vRef.natAbs) : Int) : Rat)).num.toNat
  else 65536

/-- R72: the user stage's output clipped to `lim`, the most restrictive limiter output, and by TORQUE_MAX. -/
def clipUser (c : LoopCfg) (sg lim u : Int) : Int :=
  clampI (-(tq c.torqueMax)) (tq c.torqueMax) (if sg * lim < sg * u then lim else u)

/-- R74: the velocity an OPENLOOP axis commands, with the ceiling that clips it. -/
def openLoopVel (sg vRef : Int) (ceils : List Ceil) : Int × Nat :=
  (sortCeils ceils).foldl (fun x p => if sg * (sg * p.2) < sg * x.1 ∨ (x.2 ≠ 0 ∧ sg * p.2 = x.1)
    then (sg * p.2, p.1) else x) (vRef, 0)

/-! ### Notch filters (R75, R76) -/

/-- Coefficients b0, b1, b2, a1, a2 in Q2.30: the prewarped bilinear transform of the prototype of R75. `f` and `w`
in mHz, `g` in 2⁻¹⁶. -/
def notchCoefs (f : Rat) (w g : Nat) (T : Nat) : List Int :=
  let k := tanTurn (f * secs T / 2000)              -- tan(π f0 T): half a turn is π
  let zeta := (w : Rat) / (2 * f)
  let gq := mkRat g 65536
  let n := 1 + 2 * zeta * k + k * k
  let q := fun (x : Rat) => satS 32 (rnd (x / n * ((2 ^ 30 : Nat) : Rat)))
  [q (1 + 2 * gq * zeta * k + k * k), q (2 * (k * k - 1)), q (1 - 2 * gq * zeta * k + k * k),
   q (2 * (k * k - 1)), q (1 - 2 * zeta * k + k * k)]

/-- One sample of a notch in direct form I; input and output in Q1.31. -/
def notchStep (co : List Int) (n : Notch) (x : Int) : Notch × Int :=
  let b := fun k => nthD 0 co k
  let acc := b 0 * x + b 1 * n.x1 + b 2 * n.x2 - b 3 * n.y1 - b 4 * n.y2
  let y := satS 32 (rdiv acc (2 ^ 30))
  ({ n with x1 := x, x2 := n.x1, y1 := y, y2 := n.y1 }, y)

/-- A notch is bypassed at frequency 0 or above 0.4/T (R75); `f` in mHz. -/
def notchOff (f : Rat) (T : Nat) : Bool := decide (f = 0) || decide (mkRat 400 1 < f * secs T)

def runNotch (f : Rat) (w g T : Nat) (n : Notch) (x : Int) : Notch × Int :=
  if notchOff f T then (n, x) else notchStep (notchCoefs f w g T) n x

/-! ### Tracking of notch 2 (R77) -/

/-- The centre of the coefficient set nearest to f_c: steps of 0.00625 from 0.8 to 1.2 of N2_FREQ. -/
def trackSet (f2 : Nat) (fc : Nat) : Rat :=
  if f2 = 0 then 0
  else
    let k := clampI 0 64 (rnd ((mkRat fc 65536 - mkRat (8 * f2) 10) / mkRat (625 * f2) 100000))
    mkRat (8 * f2) 10 + (k : Rat) * mkRat (625 * f2) 100000

/-- The low-pass factor g_lp of R77. The rule gives its corner, 0.5 × N2_FREQ, and no discretisation; the model takes
2πfT/(1 + 2πfT) (DESIGN CHOICE, log entry 136). -/
def trackGain (f2 T : Nat) : Rat :=
  let x := piQ * (f2 : Rat) / 1000 * secs T
  x / (1 + x)

/-- One computation of the demodulator; the input is u_user in Q1.31. -/
def trackStep (f2 T : Nat) (u : Int) (t : Track) : Track :=
  let phi : Nat := (t.phi + (rnd (mkRat t.fc 65536 / 1000 * secs T * ((2 ^ 32 : Nat) : Rat))).toNat) % 2 ^ 32
  let ang := mkRat phi (2 ^ 32)
  let g := trackGain f2 T
  let zr := t.zr + rnd (g * ((u : Rat) * cosTurn ang - t.zr))
  let zi := t.zi + rnd (g * (-(u : Rat) * sinTurn ang - t.zi))
  let (hr, hi) := nthD (0, 0) t.hist 3
  { t with
    phi := phi, zr := zr, zi := zi, hist := ((zr, zi) :: t.hist).take 4
    accR := acc80 (t.accR + rdiv (zr * hr + zi * hi) (2 ^ 31))
    accI := acc80 (t.accI + rdiv (zi * hr - zr * hi) (2 ^ 31)) }

/-- Arc tangent of `y / x` for `0 ≤ y ≤ x`, in turns: an alternating series after two halvings of the angle. -/
def atanSmall (q : Rat) : Rat :=
  let half := fun (z : Rat) => z / (1 + sqrtQ (1 + z * z))
  let z := half (half q)
  let z2 := z * z
  let s := (upTo 24).foldl (fun (p : Rat × Rat) k =>
    let term := p.2 / ((2 * k + 1 : Nat) : Rat)
    (if k % 2 = 0 then p.1 + term else p.1 - term, mkRat (rnd (p.2 * z2 * ((2 ^ 96 : Nat) : Rat))) (2 ^ 96)))
    ((0 : Rat), mkRat (rnd (z * ((2 ^ 96 : Nat) : Rat))) (2 ^ 96))
  4 * s.1 / (2 * piQ)

/-- The argument of `x + jy` in turns, in (−1/2, 1/2]. -/
def argTurn (x y : Int) : Rat :=
  let ax : Rat := x.natAbs
  let ay : Rat := y.natAbs
  if ax = 0 ∧ ay = 0 then 0
  else
    let a := if ay ≤ ax then atanSmall (ay / ax) else mkRat 1 4 - atanSmall (ax / ay)
    let b := if x < 0 then mkRat 1 2 - a else a
    if y < 0 then -b else b

/-- The update of f_c at a planning boundary: the new tracking state and the unclamped estimate in mHz. Only an update clears
N2_AT_LIMIT, DESIGN CHOICE (log entry 17). -/
def trackUpdate (f2 T min gain : Nat) (t : Track) : Track × Option Int :=
  let mag2 := t.zr * t.zr + t.zi * t.zi
  let t0 := { t with accR := 0, accI := 0 }
  if mag2 < (min * 2 ^ 16 : Int) * (min * 2 ^ 16) then (t0, none)
  else
    let fc := mkRat t.fc 65536
    let est := fc + argTurn t.accR t.accI * 1000 / (4 * secs T)
    let un := fc + mkRat gain 65536 * (est - fc)
    let lo := mkRat (8 * f2) 10
    let hi := mkRat (12 * f2) 10
    let out := decide (un < lo) || decide (hi < un)
    ({ t0 with fc := (rnd (clampQ lo hi un * 65536)).toNat, atLimit := out }, if out then some (rnd un) else none)

/-! ### Output (R78, R79) -/

/-- The electrical angle of a position. -/
def elecAngle (pos : Int) (pairs : Nat) : Nat := (uns 32 pos * pairs) % 2 ^ 32 / 2 ^ 16

/-- Address and amplitude in OUTPUT_MODE FIELD. -/
def fieldOutput (P : Nat) (pos v : Int) (pairs off : Nat) (uOut : Int) : Nat × Nat :=
  let pred := pos + rnd (mkRat 3 2 * (v : Rat) * kT P)
  let q : Int := if 0 ≤ uOut then 16384 else -16384
  (uns 16 ((elecAngle pred pairs : Int) - off + q), Nat.min uOut.natAbs 32767)

/-- R79: the electrical angle of the reference, without prediction. -/
def openLoopOutput (pos : Int) (pairs ampl : Nat) : Nat × Nat := (elecAngle pos pairs, ampl)

/-! ### Extrapolation by the deadline latch (R47) -/

/-- The substituted values. The kernel's other states stand where the axis's last computation left them. -/
def extrapolate (P : Nat) (lp : LoopSt) : LoopSt :=
  { lp with
    addr := uns 16 ((lp.addrPrev : Int) + sext 16 (uns 16 ((lp.addrPrev : Int) - lp.addrPrev2)))
    ampl := lp.ampl
    posRef := satS 64 (lp.posRefPrev + rnd ((lp.vRefPrev : Rat) * kT P))
    vRef := lp.vRefPrev }

/-- pos_ref one sample interval before this computation: the base that a source integrates from. At T = 2P it is the
value of two ticks before, as the latch in between has moved pos_ref on (log entry 72). -/
def LoopSt.refBase (lp : LoopSt) (half : Bool) : Int := if half then lp.posRefPrev2 else lp.posRef

/-- pos_ref is set outside a computation: every value that later ones start from follows. -/
def LoopSt.setRef (lp : LoopSt) (p : Int) : LoopSt :=
  { lp with posRef := p, posRefPrev := p, posRefPrev2 := p, posRefC := p }

/-! ### Loop status word (R84) -/

def loopStatus (lp : LoopSt) (decKept commValid softStart half : Bool) : Nat :=
  lp.win % 16 + 16 * b2n lp.dirNeg + 32 * b2n lp.tsat + 64 * b2n lp.userClipped + 128 * b2n lp.overrun +
  256 * b2n decKept + 512 * b2n commValid + 1024 * b2n softStart + 2048 * b2n lp.trk.atLimit +
  4096 * b2n half + 65536 * uns 16 lp.uOut

end Sys2Proof.Machine
end

