-- ==== Sys2Proof/Machine/Presence.lean ====
section
/-!
DEFINITION. Which axes are present and which are in STO: zones and axis STO (R212 to R215), ABSENT (Table 1.5), and the
state that AXIS_ENABLE checks at its release (R443).
-/
namespace Sys2Proof.Machine

/-! ### Zones (R214) -/

def State.zoneRec (s : State) (z : Nat) : Option ZoneRec := s.safety.img.zones.find? fun r => r.zone = z

/-- The axes of a zone, at any depth. -/
def State.zoneAxes (s : State) (z : Nat) : List Nat :=
  (s.zoneRec z).elim [] fun r => dedup (r.members.flatMap s.localAxes)

def State.zoneOf (s : State) (a : Nat) : Option Nat :=
  (s.safety.img.zones.find? fun r => (r.members.flatMap s.localAxes).contains a).map fun r => r.zone

/-- Every zone with a ZONE record. -/
def State.zoneList (s : State) : List Nat := sortNat (s.safety.img.zones.map fun r => r.zone)

/-- A zone is in STO whenever either pin is at the safe level (R212); an unused zone always is. -/
def State.zoneSto (s : State) (z : Nat) : Bool :=
  !(s.zone z).released || (s.zoneRec z).isNone || (s.zone z).stuckA = some true || (s.zone z).stuckB = some true

/-- The arm of the axis is new: the islands hold its axes in axis STO (R173, R245). -/
def State.newArm (s : State) (a : Nat) : Bool :=
  match s.armOf a with
  | some g => (s.armSt g).isNew
  | none => false

/-- Axis STO is in force (R215). -/
def State.axisStoBit (s : State) (a : Nat) : Bool := (s.axisSto a).on || s.newArm a

/-- The axis's zone is in STO; unarmed, every zone is (R214). -/
def State.zoneInSto (s : State) (a : Nat) : Bool :=
  !s.safety.armed || (match s.zoneOf a with | some z => s.zoneSto z | none => true)

/-- STO is in force for an axis at either scope (R215); unarmed, every zone is in STO (R214). -/
def State.inSto (s : State) (a : Nat) : Bool :=
  s.axisStoBit a || s.zoneInSto a

/-! ### Presence (Table 1.5, R279, R280) -/

/-- The axis is not present: its node has not joined or has left, its group is removed, or no lane has room for it. An
axis stops being ABSENT at the first planning boundary after its node's first valid DATA frame, whether or not the node is
a late-comer (R279). -/
def State.axisAbsent (s : State) (a : Nat) : Bool :=
  s.health.absent.contains a || s.health.removed.contains a || (s.axisRec a).isNone ||
  (match s.axisNode a with
   | some (n, _) => (s.localNode n).isNone || !(s.node n).placed
   | none => false)

/-! ### AXIS_ENABLE (R443) -/

def State.openLoop (s : State) (a : Nat) : Bool := s.pU 0x1008 a = 1

/-- FIELD output needs a valid COMM_OFFSET (R82). -/
def State.commOk (s : State) (a : Nat) : Bool := s.openLoop a || (s.axis a).commValid

/-- The node's WAKE parameter keeps its power stages down (R281). -/
def State.nodeAsleep (s : State) (a : Nat) : Bool :=
  match s.axisNode a with
  | some (n, _) => !(s.node n).wake
  | none => false

/-- R443 lists every refusal of AXIS_ENABLE. -/
def State.enableCheck (s : State) (a : Nat) : Nat :=
  if !s.commOk a || s.zoneInSto a || s.nodeAsleep a then stNotReady
  else if s.safety.degraded.isSome then stNotAllowed
  else stOk

end Sys2Proof.Machine
end

