-- ==== Sys2Proof/Machine/Motion.lean ====
section
/-!
DEFINITION. Profiles, segment queues and supply admission (chapter 4): planning of the trapezoid, re-planning, HALT,
SS1's action on queues, starts and ends of segments, the token buckets of the supply domains.
-/
namespace Sys2Proof.Machine

/-- A change of an axis's kernel that a computation not yet captured does not undo. -/
def Axis.modLp (x : Axis) (f : LoopSt → LoopSt) : Axis := { x with lp := f x.lp, bak := x.bak.map f }

/-! ### The trapezoid (R87) -/

def Phase.len (p : Phase) : Rat := p.v0 * p.dur + p.acc * p.dur * p.dur / 2

def phasesDur : List Phase → Rat
  | [] => 0
  | p :: r => p.dur + phasesDur r

def phasesLen : List Phase → Rat
  | [] => 0
  | p :: r => p.len + phasesLen r

/-- Distance, speed, acceleration and phase code at a time on the profile clock. -/
def evalPhases : List Phase → Rat → Rat → Rat × Rat × Rat × Nat
  | [], x, _ => (x, 0, 0, 0)
  | p :: r, x, t =>
    if t < p.dur then (x + p.v0 * t + p.acc * t * t / 2, p.v0 + p.acc * t, p.acc, p.kind)
    else evalPhases r (x + p.len) (t - p.dur)

/-- The peak speed of R87. -/
def peakSpeed (D vs vm ve a d : Rat) : Rat :=
  minQ vm (sqrtQ ((2 * a * d * D + d * vs * vs + a * ve * ve) / (a + d)))

/-- The phases of Table 4.1. -/
def planTrap (D vs vm ve a d : Rat) : List Phase :=
  let vp := maxQ (maxQ vs ve) (peakSpeed D vs vm ve a d)
  let xa := (vp * vp - vs * vs) / (2 * a)
  let xd := (vp * vp - ve * ve) / (2 * d)
  let xc := maxQ 0 (D - xa - xd)
  [{ kind := 1, dur := (vp - vs) / a, v0 := vs, acc := a },
   { kind := 2, dur := if vp = 0 then 0 else xc / vp, v0 := vp, acc := 0 },
   { kind := 3, dur := (vp - ve) / d, v0 := vp, acc := -d }]

/-- R88: whether a plan is valid. -/
def planValid (D vs vm ve a d : Rat) : Bool :=
  decide (vs ≤ vm) && decide (ve ≤ vm) && decide ((vs * vs - ve * ve) / (2 * d) ≤ D) &&
  decide ((ve * ve - vs * vs) / (2 * a) ≤ D)

/-! ### Segments of several axes (R89) -/

/-- A distance in turns. -/
def turns (lsb : Int) : Rat := mkRat lsb (2 ^ 32)

/-- Limits of one axis as a segment drives it: PROF_VMAX, PROF_ACC and PROF_DEC, or the homing speed and HOME_ACC. -/
def State.profLimits (s : State) (seg : Seg) (a : Nat) : Rat × Rat × Rat :=
  if seg.homing then (mkRat seg.vFix 65536, mkRat (s.pU 0x3015 a) 4096, mkRat (s.pU 0x3015 a) 4096)
  else (mkRat (s.pU 0x3001 a) 65536, mkRat (s.pU 0x3002 a) 4096, mkRat (s.pU 0x3003 a) 4096)

/-- The axis's own minimal time over `dist`. -/
def minimalTime (l : Rat × Rat × Rat) (dist : Rat) : Rat :=
  if dist = 0 then 0 else phasesDur (planTrap dist 0 l.1 0 l.2.1 l.2.2)

/-- Position of the first greatest element. -/
def argMax : List Rat → Nat → Nat → Rat → Nat
  | [], _, best, _ => best
  | q :: r, k, best, v => if v < q then argMax r (k + 1) k q else argMax r (k + 1) best v

/-- What R89 finds for a segment: lead, distance, limits, whether a limit was lowered. -/
structure SegLimits where
  lead : Nat
  dist : Rat
  vm : Rat
  acc : Rat
  dec : Rat
  coLead : Bool
  deriving DecidableEq, Repr

/-- The limits with a given lead (R89 step 3, R96). -/
def State.limitsWith (s : State) (seg : Seg) (deltas : List Int) (lead : Nat) : SegLimits :=
  let dl := (nthD 0 deltas lead).natAbs
  let own := s.profLimits seg (nthD 0 seg.axes lead)
  ((seg.axes.zip deltas).zip (upTo seg.axes.length)).foldl (fun x e =>
    let di := e.1.2.natAbs
    if e.2 = lead ∨ di = 0 then x
    else
      let r := mkRat di dl
      let l := s.profLimits seg e.1.1
      { x with
        vm := minQ x.vm (l.1 / r), acc := minQ x.acc (l.2.1 / r), dec := minQ x.dec (l.2.2 / r)
        coLead := x.coLead || decide (l.1 / r < x.vm) || decide (l.2.1 / r < x.acc) || decide (l.2.2 / r < x.dec) })
    { lead := lead, dist := turns dl, vm := own.1, acc := own.2.1, dec := own.2.2, coLead := false }

def deltasOf (starts targets : List Int) : List Int := (targets.zip starts).map fun p => p.1 - p.2

def State.segLimits (s : State) (seg : Seg) (starts : List Int) : SegLimits :=
  let ds := deltasOf starts seg.targets
  let ts := (seg.axes.zip ds).map fun p => minimalTime (s.profLimits seg p.1) (turns p.2.natAbs)
  s.limitsWith seg ds (argMax ts 0 0 0)

/-- R88 on a segment with its present limits; a segment without a distance is always valid. -/
def State.segValid (s : State) (seg : Seg) (starts : List Int) : Bool :=
  let l := s.segLimits seg starts
  decide (l.dist = 0) ||
    planValid l.dist (mkRat seg.vStart 65536) l.vm (mkRat seg.vStop 65536) l.acc l.dec

def State.planSeg (s : State) (seg : Seg) (starts : List Int) (tau0 : Rat) : Plan :=
  let l := s.segLimits seg starts
  let vs := mkRat seg.vStart 65536
  let ve := mkRat seg.vStop 65536
  { tau0 := tau0, phases := if l.dist = 0 then [] else planTrap l.dist vs l.vm ve l.acc l.dec, dist := l.dist,
    vm := l.vm, ve := ve, acc := l.acc, dec := l.dec, lead := l.lead, coLead := l.coLead, starts := starts }

/-! ### The plan on the profile clock (R90) -/

/-- x, ẋ, ẍ and the phase code at τ. -/
def Plan.at (p : Plan) (tau : Rat) : Rat × Rat × Rat × Nat := evalPhases p.phases p.x0 (tau - p.tau0)

def Plan.tEnd (p : Plan) : Rat := phasesDur p.phases

def Plan.over (p : Plan) (tau : Rat) : Bool := decide (p.tEnd ≤ tau - p.tau0)

/-- Reference of the axis at place `k` of the segment: p in position LSB, v in velocity LSB, a in acceleration LSB. -/
def Plan.axisRef (p : Plan) (seg : Seg) (k : Nat) (tau : Rat) : Int × Rat × Rat :=
  let start := nthD 0 p.starts k
  let target := nthD 0 seg.targets k
  let delta : Int := target - start
  if p.dist = 0 then (target, 0, 0)
  else
    let (x, v, a, _) := p.at tau
    if p.over tau then
      (if p.halted then start + rnd ((delta : Rat) * (p.x0 + phasesLen p.phases) / p.dist) else target, 0, 0)
    else (start + rnd ((delta : Rat) * x / p.dist), turns delta * v / p.dist * 65536, turns delta * a / p.dist * 4096)

/-! ### Re-planning (R97 to R99) -/

/-- Braking from speed `w` over `r` so that the target is met at `ve`. -/
def brakeExactly (w ve r : Rat) : Rat × List Phase :=
  if r ≤ 0 then (0, [])
  else
    let d := (w * w - ve * ve) / (2 * r)
    (d, [{ kind := 3, dur := if w + ve = 0 then 0 else 2 * r / (w + ve), v0 := w, acc := -d }])

/-- R97: a new deceleration within the deceleration phase: the phases, the deceleration in force, DEC_KEPT. -/
def replanDec (w ve r d : Rat) : List Phase × Rat × Bool :=
  let req := brakeExactly w ve r
  if d < req.1 then (req.2, req.1, true)
  else
    let need := (w * w - ve * ve) / (2 * d)
    ([{ kind := 3, dur := if w = 0 then 0 else (r - need) / w, v0 := w, acc := 0 },
      { kind := 3, dur := (w - ve) / d, v0 := w, acc := -d }], d, false)

/-- R98: new limits in the acceleration or cruise phase; a v_m below V_STOP, and a stop speed out of reach: DESIGN CHOICE
(log entry 20). While the segment slows at d to a lowered v_m it is in PHASE 1, which is no deceleration phase for R95 and R97
(DESIGN CHOICE, log entry 138). -/
def replanRun (w ve r vm a d : Rat) : List Phase × Rat × Bool :=
  let ve := minQ ve (maxQ vm w)
  if r < (w * w - ve * ve) / (2 * d) then
    let req := brakeExactly w ve r
    (req.2, req.1, true)
  else if vm < w then
    let v1 := maxQ vm ve
    let p : Phase := { kind := 1, dur := (w - v1) / d, v0 := w, acc := -d }
    (p :: planTrap (r - p.len) v1 v1 ve a d, d, false)
  else (planTrap r w vm ve a d, d, false)

/-- Record DEC_KEPT once for a segment, with the deceleration required in 2⁻¹² turn/s². -/
def State.recordKept (s : State) (q : Word) (seg : Seg) (old new : Plan) : State :=
  if new.kept && !old.kept then s.emit evDecKept q [seg.segId.toNat, (rnd (new.dec * 4096)).toNat] else s

/-- The plan of the active segment under the limits now in force (R96, R98). A plan that a HALT has re-planned stays as it is:
R99 does not say what new limits do to it (DESIGN CHOICE, log entry 139). -/
def State.replanned (s : State) (seg : Seg) (p : Plan) (tau : Rat) : Plan :=
  let l := s.limitsWith seg (deltasOf p.starts seg.targets) p.lead
  if p.halted || decide (p.dist = 0) || p.over tau then p
  else
    let (x, w, _, ph) := p.at tau
    let r := p.dist - x
    let base := { p with tau0 := tau, x0 := x, vm := l.vm, acc := l.acc, dec := l.dec }
    if ph = 3 then
      if l.dec = p.dec ∨ (p.kept ∧ l.dec < p.dec) then { p with vm := l.vm, acc := l.acc }
      else
        let (f, d, k) := replanDec w p.ve r l.dec
        { base with phases := f, dec := d, kept := p.kept || k }
    else if l.vm = p.vm ∧ l.acc = p.acc ∧ l.dec = p.dec then p
    else
      let (f, d, k) := replanRun w p.ve r l.vm l.acc l.dec
      { base with phases := f, dec := d, kept := p.kept || k }

/-- R99: stop at the segment's current deceleration, or exactly at the target. -/
def Plan.halt (p : Plan) (tau : Rat) : Plan :=
  if p.over tau || decide (p.dist = 0) then p
  else
    let (x, w, _, _) := p.at tau
    let r := p.dist - x
    let base := { p with tau0 := tau, x0 := x, ve := 0, halted := true, blend := some false }
    if p.dec = 0 ∨ r < w * w / (2 * p.dec) then
      let req := brakeExactly w 0 r
      { base with phases := req.2, dec := req.1, kept := true }
    else { base with phases := [{ kind := 3, dur := w / p.dec, v0 := w, acc := -p.dec }] }

/-! ### Outcomes (R96) -/

def ocComplete : Nat := 1
def ocHalted : Nat := 2
def ocFlushed : Nat := 3
def ocStopped : Nat := 4
def ocDeferred : Nat := 5
def ocRefused : Nat := 6

/-- A segment has ended with an outcome; the segments of a homing run, which no host has named, have none. -/
def State.outcome (s : State) (q : Word) (seg : Seg) (oc : Nat) : State :=
  if seg.homing then s else
  let t := s.modQueue q fun x => { x with lastOutcome := oc, lastSegId := seg.segId }
  if oc ≠ ocComplete ∨ seg.notify then t.emit evSegEnd q [seg.segId.toNat, oc] else t

def State.outcomes (s : State) (q : Word) (l : List Seg) (oc : Nat) : State :=
  s.forEach l fun t g => t.outcome q g oc

/-- δv of an axis at this tick of the planning period, in velocity LSB; 0 outside redundant groups (R60). -/
def State.dvEff (s : State) (a : Nat) : Rat :=
  let x := s.axis a
  if s.redundantAt (mkRef clsAxis a) then
    (x.dvOld : Rat) + ((x.dvNew - x.dvOld : Int) : Rat) * mkRat (s.tick.cycle.toNat % 32 + 1) 32
  else 0

/-- The nullspace offset passes into the hold position: the axis does not move (R93). -/
def LoopSt.foldOff (lp : LoopSt) : LoopSt :=
  let h := satS 64 (lp.hold + lp.offDv)
  { lp with hold := h, pProf := h, offDv := 0 }

/-- An axis that its queue no longer drives is at rest: it neither brakes, nor follows a stop ramp, nor takes δv (R93, R101). -/
def State.axisAtRest (s : State) (a : Nat) : Bool :=
  let x := s.axis a
  x.brakeStop.isNone && (x.lp.ss1.isNone || x.lp.vRef = 0) && s.dvEff a = 0

/-- R93: the queue is empty and every axis it drove is at rest: each holds where the nullspace offset has left it. -/
def State.settleQueue (s : State) (q : Word) : State :=
  let x := s.queue q
  if x.segs.isEmpty && !x.drove.isEmpty && x.drove.all s.axisAtRest then
    (s.forEach x.drove fun t a => t.modAxis a fun y => { y with lp := y.lp.foldOff }).modQueue q fun y => { y with drove := [] }
  else s

/-- The queue is empty: its axes are released. -/
def State.releaseAxes (s : State) (q : Word) (axes : List Nat) : State :=
  let t := s.forEach axes fun t a => t.modAxis a fun x => if x.bound = some q then { x with bound := none } else x
  (t.modQueue q fun y => { y with drove := dedup (y.drove ++ axes) }).settleQueue q

/-- Axes bound to a queue. -/
def State.boundAxes (s : State) (q : Word) : List Nat :=
  (s.axes.filter fun p => p.2.bound = some q).map fun p => p.1

/-- Drop the queue's segments: the active one with `oc`, the waiting ones FLUSHED. -/
def State.dropQueue (s : State) (q : Word) (oc : Nat) : State :=
  let x := s.queue q
  let t := s.modQueue q fun y => { y with segs := [], plan := none, waiting := false, halting := false }
  let t := match x.segs with
    | [] => t
    | g :: r => (t.outcome q g oc).outcomes q r ocFlushed
  (t.releaseAxes q (s.boundAxes q)).modSupply fun y =>
    { y with reqs := y.reqs.filter fun r => r.kind ≠ .start q }

/-- DEC_KEPT on every axis a segment drives. -/
def State.markKept (s : State) (axes : List Nat) (k : Bool) : State :=
  s.forEach axes fun t a => t.modAxis a fun x => { x with decKept := k }

/-! ### Starts -/

/-- Start positions of the segment at the head of a queue: the axes' hold positions (R93). -/
def State.startsOf (s : State) (seg : Seg) : List Int := seg.axes.map fun a => (s.axis a).lp.hold

/-- R95: whether the active segment blends into the next one now in the queue. -/
def blendOk (segs : List Seg) : Bool :=
  match segs with
  | g :: n :: _ => g.axes = n.axes && n.vStart = g.vStop && !g.homing
  | _ => false

/-- The segment at the head of a queue leaves it with its outcome; an empty queue releases its axes. -/
def State.retireHead (s : State) (q : Word) (g : Seg) (rest : List Seg) (oc : Nat) : State :=
  (s.modQueue q fun y => { y with segs := rest, plan := none, halting := false, endedTick := some s.tick.no }).outcome q g oc

/-- The segment at the head of a queue starts with its clock at `tau0`, and DEC_KEPT clears on the axes it drives, whichever
queue's segment had set it (R98, DESIGN CHOICE, log entry 140). A plan that fails R88 is REFUSED; one without
distance completes in this tick (R89), and a segment it blends into starts then too. The number bounds the segments. -/
def State.beginSegments : Nat → State → Word → Rat → State
  | 0, s, _, _ => s
  | n + 1, s, q, tau0 =>
    match (s.queue q).segs with
    | [] => s
    | g :: rest =>
      let starts := s.startsOf g
      let t := s.modQueue q fun x => { x with waiting := false }
      if s.segValid g starts then
        let p := t.planSeg g starts tau0
        let u := (t.modQueue q fun x => { x with plan := some p, endedTick := none }).markKept g.axes false
        if p.dist ≠ 0 then u
        else
          let v := u.retireHead q g rest ocComplete
          if blendOk (g :: rest) && s.health.supLost.isNone then State.beginSegments n v q tau0
          else if rest.isEmpty then v.releaseAxes q (v.boundAxes q)
          else v
      else t.dropQueue q ocRefused

def State.beginSegment (s : State) (q : Word) (tau0 : Rat) : State :=
  State.beginSegments ((s.queue q).segs.length + 1) s q tau0

/-! ### HALT (R99) -/

/-- A queue that holds a segment is brought to rest; `halt` where a HALT does so (Table 4.3). -/
def State.brakeQueue (s : State) (halt : Bool) (q : Word) : State :=
  let x := s.queue q
  match x.segs, x.plan with
  | g :: rest, some p =>
    let t := s.outcomes q rest ocFlushed
    let p1 := p.halt x.tau
    let t := t.recordKept q g p p1
    let t := if p1.kept && !p.kept then t.markKept g.axes true else t
    t.modQueue q fun y => { y with segs := [g], plan := some p1, halting := y.halting || halt }
  | _ :: _, none => s.dropQueue q ocFlushed
  | [], _ => s

/-- HALT of one queue. -/
def State.haltQueue (s : State) (q : Word) : State := s.brakeQueue true q

/-! ### Ends of a homing run (R102, R106, R109) -/

/-- A homing axis brakes at its HOME_ACC. -/
def State.homeBrake (s : State) (a : Nat) : State :=
  let q := mkRef clsAxis a
  if (s.axis a).bound = some q then s.brakeQueue false q else s

/-- The run of an axis ends FAILED, with HOMED clear (R109). -/
def Axis.homeEnd (x : Axis) : Axis :=
  { x with home := { x.home with run := none, state := 0, failed := true, homed := false } }

/-- The axes whose homing run was started by one command. -/
def State.homeRoot (s : State) (root : Word) : List Nat :=
  (s.axes.filter fun p => (p.2.home.run.map fun r => r.root) = some root).map fun p => p.1

/-- A run ends FAILED: no later stage starts, and the axes of the HOME that still move brake. One that is homed already only
goes on braking. -/
def State.homeFail (s : State) (a : Nat) : State :=
  match (s.axis a).home.run with
  | none => s
  | some r => s.forEach (s.homeRoot r.root) fun t b =>
      let u := t.homeBrake b
      if b ≠ a ∧ (u.axis b).home.run.any (fun y => y.ending) then u else u.modAxis b Axis.homeEnd

/-! ### Supply admission (R111 to R115) -/

def State.supplyRec (s : State) (d : Nat) : Option SupplyRec := s.cell.supplies.find? fun r => r.domain = d

def State.budget (s : State) (d : Nat) : Nat := (s.supplyRec d).elim 0 fun r => r.budget

/-- Costs by domain, ascending, those above 0. -/
def costList (l : List (Nat × Nat)) : List (Nat × Nat) :=
  ((upTo 8).map fun d => (d, (l.filter fun p => p.1 = d).foldl (fun n p => n + p.2) 0)).filter fun p => 0 < p.2

/-- What one driven axis draws at a start from rest. -/
def State.axisStartCost (s : State) (a : Nat) (delta : Int) : Option (Nat × Nat) :=
  match s.axisRec a with
  | some r => if decide (delta = 0) || decide (8 ≤ r.supply) then none else some (r.supply, s.pU 0x3041 a)
  | none => none

/-- Cost of a segment start from rest: the driven axes with a distance (Table 4.10). -/
def State.startCost (s : State) (seg : Seg) : List (Nat × Nat) :=
  costList ((seg.axes.zip (deltasOf (s.startsOf seg) seg.targets)).filterMap fun p => s.axisStartCost p.1 p.2)

def State.enableCost (s : State) (axes : List Nat) : List (Nat × Nat) :=
  costList <| axes.filterMap fun a =>
    match s.axisRec a with
    | some r => if r.supply < 8 then some (r.supply, s.pU 0x3040 a) else none
    | none => none

def State.wakeCost (s : State) (n : Nat) : List (Nat × Nat) :=
  let d := s.pU 0x3043 (s.dev * 64 + n)
  costList (if s.cell.supplies.any fun r => r.domain = d then [(d, s.pU 0x3042 (s.dev * 64 + n))] else [])

/-- A cost above the budget of its domain (R112). -/
def State.overBudget (s : State) (costs : List (Nat × Nat)) : Bool := costs.any fun p => s.budget p.1 < p.2

/-- Every domain of a request can pay, and none of them is blocked by an earlier request. -/
def canPay (levels : Tbl Nat) (blocked : List Nat) (costs : List (Nat × Nat)) : Bool :=
  costs.all fun p => !(blocked.contains p.1) && decide (p.2 * 65536 ≤ tblGet 0 levels p.1)

def payAll (levels : Tbl Nat) (costs : List (Nat × Nat)) : Tbl Nat :=
  costs.foldl (fun l p => tblMod 0 l p.1 fun v => v - p.2 * 65536) levels

/-- The power stages of axes are enabled (R443). -/
def State.enableStages (s : State) (axes : List Nat) : State :=
  s.forEach axes fun t a => t.modAxis a fun x => { x with psEn := true, psOff := none }

/-- AXIS_ENABLE takes effect: an axis that is not ready refuses it for all (R20, R443). -/
def State.releaseEnable (s : State) (h : Hdr) (axes : List Nat) : State :=
  match axes.find? fun a => s.enableCheck a ≠ stOk with
  | some a => s.complete 0x0105 h (s.enableCheck a) (mkRef clsAxis a) 0
  | none => if axes.all fun a => (s.axis a).psEn then s.done 0x0105 h stNoEffect
            else (s.enableStages axes).done 0x0105 h stOk

/-- A released request that its state refuses; it pays nothing, as a refused command changes nothing (R443, R447). -/
def State.refusesReq (s : State) (r : SupReq) : Bool :=
  match r.kind with
  | .enable _ axes => axes.any fun a => s.enableCheck a ≠ stOk
  | _ => false

/-- What a released request leaves of the levels. -/
def State.paidLevels (s : State) (r : SupReq) : Tbl Nat :=
  if s.refusesReq r then s.supply.levels else payAll s.supply.levels r.costs

/-- A released request takes effect (R114). -/
def State.releaseReq (s : State) (r : SupReq) : State :=
  match r.kind with
  | .enable h axes => s.releaseEnable h axes
  | .wake h n => (s.modNode n fun x => { x with wake := true }).done 0x010A h stOk
  | .start q => s.beginSegment q (s.queue q).tau

/-- Ticks a request has waited, as time against START_DEFER_LIMIT. -/
def State.waitedTooLong (s : State) (r : SupReq) : Bool :=
  decide (s.pU 0x3044 s.dev * 1000000 < (s.tick.no - r.joined) * s.P)

/-- Kind code and object of a request, for START_DEFERRED. -/
def reqKindCode (k : ReqKind) (dev : Nat) : Nat × Word :=
  match k with
  | .enable h _ => (1, h.obj)
  | .wake _ n => (2, mkRef clsNode (dev * 64 + n))
  | .start q => (3, q)

/-- R115: a request is dropped; `blocked` are the domains it does not head. -/
def State.dropReq (s : State) (blocked : List Nat) (r : SupReq) : State :=
  let dm := ((r.costs.find? fun p => blocked.contains p.1 || decide (tblGet 0 s.supply.levels p.1 < p.2 * 65536)).map
    fun p => p.1).getD 0
  let k := reqKindCode r.kind s.dev
  let t := s.emit evStartDeferred s.devRef [k.1, k.2.toNat, dm, (s.tick.no - r.joined) * s.P / 1000000]
  match r.kind with
  | .enable h _ => t.done 0x0105 h stDeferred
  | .wake h _ => t.done 0x010A h stDeferred
  | .start q =>
    let ax := (t.queue q).segs.flatMap fun g => if g.homing then g.axes else []
    (t.dropQueue q ocDeferred).forEach ax State.homeFail

/-- A request that may not act: after a supervisor loss no segment starts and no command takes effect (R470), and during a
takeover no command does (R429). -/
def State.heldBack (s : State) (r : SupReq) : Bool :=
  s.health.supLost.isSome || (s.host.suspended && (match r.kind with | .start _ => false | _ => true))

/-- The loop of R113 over the waiting requests in arrival order; requests that stay are kept in order, and one that an
earlier one has taken with it waits no more. -/
def State.supplyLoop (s : State) : List SupReq → List Nat → State
  | [], _ => s
  | r :: rest, blocked =>
    if !s.supply.reqs.contains r then s.supplyLoop rest blocked
    else if s.heldBack r then s.supplyLoop rest (blocked ++ r.costs.map fun p => p.1)
    else if s.waitedTooLong r then
      ((s.modSupply fun x => { x with reqs := x.reqs.erase r }).dropReq blocked r).supplyLoop rest blocked
    else if canPay s.supply.levels blocked r.costs then
      ((s.modSupply fun x => { x with reqs := x.reqs.erase r, levels := s.paidLevels r }).releaseReq
        r).supplyLoop rest blocked
    else s.supplyLoop rest (blocked ++ r.costs.map fun p => p.1)

/-- The refill of every domain by one tick (R113), rounded to nearest, DESIGN CHOICE (log entry 21). -/
def State.supplyRefill (s : State) : State :=
  s.forEach s.cell.supplies fun t r => t.modSupply fun x => { x with
    levels := tblMod 0 x.levels r.domain fun v =>
      Nat.min (r.budget * 65536) (v + (rdiv (r.rate * 65536 * s.P : Nat) 1000000000).toNat) }

/-- The refill, then the loop of R113. -/
def State.supplyTick (s : State) : State := s.supplyRefill.supplyLoop s.supply.reqs []

/-- A request joins its domains' queues and is tried once at once. -/
def State.joinSupply (s : State) (k : ReqKind) (costs : List (Nat × Nat)) : State :=
  let r : SupReq := { kind := k, costs := costs, joined := s.tick.no }
  let blocked := s.supply.reqs.flatMap fun x => x.costs.map fun p => p.1
  if canPay s.supply.levels blocked costs then
    (s.modSupply fun x => { x with levels := s.paidLevels r }).releaseReq r
  else s.modSupply fun x => { x with reqs := x.reqs ++ [r] }

/-- The segment at the head of a queue asks to start from rest (R94, R112). -/
def State.tryStart (s : State) (q : Word) : State :=
  match (s.queue q).segs with
  | [] => s
  | g :: _ =>
    let costs := s.startCost g
    if s.overBudget costs then (s.dropQueue q ocDeferred).forEach (if g.homing then g.axes else []) State.homeFail
    else (s.modQueue q fun x => { x with waiting := true }).joinSupply (.start q) costs

/-! ### Ends (R94, R95) -/

/-- The axes of a segment hold the position where it ended. -/
def State.holdEnd (s : State) (g : Seg) (p : Plan) (tau : Rat) : State :=
  s.forEach (g.axes.zip (upTo g.axes.length)) fun t e =>
    t.modAxis e.1 fun x => x.modLp fun l => { l with hold := (p.axisRef g e.2 tau).1, pProf := (p.axisRef g e.2 tau).1 }

/-- The active segment ends in this tick: outcome, blend or stop, and the queue's release when it is empty. -/
def State.endOne (s : State) (q : Word) : State :=
  let x := s.queue q
  match x.segs, x.plan with
  | g :: rest, some p =>
    let blend := p.blend.getD (blendOk x.segs) && blendOk x.segs && !x.halting && s.health.supLost.isNone
    let excess := x.tau - p.tau0 - p.tEnd
    let t := (s.holdEnd g p x.tau).retireHead q g rest (if x.halting then ocHalted else ocComplete)
    if blend then t.beginSegment q (x.tau - excess)
    else if rest.isEmpty then t.releaseAxes q (t.boundAxes q)
    else t
  | _, _ => s

/-- The active segment has reached t_end. -/
def State.segOver (s : State) (q : Word) : Bool :=
  match (s.queue q).plan with
  | some p => p.over (s.queue q).tau
  | none => false

/-- The active segment ends, and each successor that the time carried into it has already taken to its own end (R94). -/
def State.endSegments : Nat → State → Word → State
  | 0, s, _ => s
  | n + 1, s, q => if s.segOver q then State.endSegments n (s.endOne q) q else s

def State.endSegment (s : State) (q : Word) : State := State.endSegments (s.queue q).segs.length s q

/-! ### Step 5 of Table 2.3 -/

/-- σ at this tick of the planning period (R60); 1 for an axis's own queue. -/
def State.sigmaEff (s : State) (q : Word) : Rat :=
  if refClass q = clsGroup then
    let g := s.sigmaSt (refIndex q)
    (mkRat g.old 65536) + (mkRat g.new 65536 - mkRat g.old 65536) * mkRat (s.tick.cycle.toNat % 32 + 1) 32
  else 1

/-- The smallest yield among the axes a segment drives (R70). -/
def State.rhoOf (s : State) (g : Seg) : Rat := mkRat (minL 65536 (g.axes.map fun a => (s.axis a).lp.rhoA)) 65536

/-- The stall condition holds for a pressing axis: its reference does not advance (R107). -/
def Axis.stalled (x : Axis) : Bool :=
  x.home.state = 5 && (match x.home.run with | some r => decide (0 < r.stallRun) | none => false)

def State.segStalled (s : State) (g : Seg) : Bool := g.homing && g.axes.any fun a => (s.axis a).stalled

/-- The axes of a segment are at rest: none still brakes after a stop (R101). -/
def State.atRest (s : State) (g : Seg) : Bool := g.axes.all fun a => (s.axis a).brakeStop.isNone

/-- The segment at the head of a queue may ask to start: the tick after the one before it ended, from rest (R94). -/
def State.startDue (s : State) (q : Word) : Bool :=
  let x := s.queue q
  match x.segs, x.plan with
  | g :: _, none => !x.waiting && s.health.supLost.isNone && (match x.endedTick with | some n => decide (n < s.tick.no) | none => false) && s.atRest g
  | _, _ => false

/-- One queue's profile advances by a tick, limits that have changed re-plan its rest from the x and ẋ of this tick (R96,
R97), and its completion is evaluated. -/
def State.advanceQueue (s : State) (q : Word) : State :=
  let x := s.queue q
  match x.segs, x.plan with
  | g :: _, some p =>
    let tau := if s.segStalled g then x.tau else x.tau + s.sigmaEff q * s.rhoOf g * secs s.P
    let p1 := s.replanned g p tau
    let t := s.recordKept q g p p1
    let t := if p1.kept && !p.kept then t.markKept g.axes true else t
    let ph := (p1.at tau).2.2.2
    let p2 := if (ph = 3 ∨ p1.over tau) ∧ p1.blend.isNone then { p1 with blend := some (blendOk x.segs) } else p1
    let t := t.modQueue q fun y => { y with tau := tau, plan := some p2 }
    if p2.over tau then t.endSegment q else t
  | _ :: _, none => if s.startDue q then s.tryStart q else s
  | [], _ => s.settleQueue q

/-- Supply admission, then every queue in order of its object. A segment released in this tick starts in it (R114). -/
def State.supplyAndQueues (s : State) : State :=
  let t := s.supplyTick
  t.forEach (t.queues.map fun p => p.1) fun u k =>
    let q := BitVec.ofNat 32 k
    if (s.queue q).plan.isNone && (t.queue q).plan.isSome then u else u.advanceQueue q

/-! ### SS1 (R101) -/

/-- The deceleration an axis of a stopped segment brakes with, 2⁻¹² turn/s² (R101). -/
def axisDec (g : Seg) (p : Plan) (k : Nat) : Nat :=
  let d := (nthD 0 g.targets k - nthD 0 p.starts k).natAbs
  if p.dist = 0 then 1 else Nat.max 1 (rnd (turns d * p.dec / p.dist * 4096)).toNat

/-- SS1 has started for an axis of the queue: the active segment is STOPPED, the waiting ones FLUSHED; axes that SS1
does not cover brake at the segment's deceleration. -/
def State.stopQueue (s : State) (q : Word) (covered : List Nat) : State :=
  let x := s.queue q
  match x.segs, x.plan with
  | g :: _, some p =>
    let t := s.forEach (g.axes.zip (upTo g.axes.length)) fun t e =>
      if covered.contains e.1 then t
      else t.modAxis e.1 fun y => { y with brakeStop := some (axisDec g p e.2) }
    t.dropQueue q ocStopped
  | _, _ => s.dropQueue q ocFlushed

/-! ### Motion status (R96) -/

/-- MOTION_STATUS of a queue, without the homing bits. -/
def Queue.status (x : Queue) : Nat :=
  let p := x.plan.getD {}
  let ph := if x.plan.isSome then (p.at x.tau).2.2.2 else 0
  x.segs.length % 64 + 64 * b2n x.plan.isSome +
  128 * b2n (x.plan.isSome && (p.blend.getD (blendOk x.segs)) && blendOk x.segs && !x.halting) +
  256 * b2n x.waiting + 512 * b2n x.halting + 1024 * b2n (x.plan.isSome && p.coLead) +
  2048 * (x.lastOutcome % 8) + 16384 * (ph % 4) + 65536 * ((if x.plan.isSome then p.lead else 0) % 16)

end Sys2Proof.Machine
end

