-- ==== Sys2Proof/Machine/StopOps.lean ====
section
/-!
DEFINITION. Stopping: zone STO and axis STO (R214, R215), SS1 requests (R216, R219), faults that latch on an axis, the
opening of a loop, and the state codes of axes and groups that follow (R23, R24, R527).
-/
namespace Sys2Proof.Machine

/-! ### Opening a loop -/

/-- Mean of the last 32 torque outputs (R81). -/
def meanOf (l : List Int) : Int := if l.isEmpty then 0 else rdiv (l.foldl (· + ·) 0) l.length

/-- The loop opens: the brake engages, the power stage request is cleared. -/
def Axis.opened (x : Axis) : Axis :=
  { x with
    psEn := false, closed := false, softStart := false, align := none, psOff := none, brakeStop := none
    uHold := if x.brakeRel then some (meanOf x.uHist) else x.uHold
    refBrake := if x.brakeRel then some x.lp.posRef else x.refBrake
    brakeRel := false, bak := none
    lp := { x.lp with ss1 := none, win := 14 } }

/-- The queues an axis is bound to stop (R101). -/
def State.stopAxisQueues (s : State) (a : Nat) (covered : List Nat) : State :=
  let t := match (s.axis a).bound with
    | some q => s.stopQueue q covered
    | none => s
  t.homeFail a

/-- STO has come into force for an axis: its queue stops, its loop opens, its SS1 is over. -/
def State.axisIntoSto (s : State) (a : Nat) : State :=
  let t := (s.stopAxisQueues a [a]).modAxis a Axis.opened
  t.modSafety fun x => { x with mon := tblSet x.mon a none }

/-! ### Zone STO -/

/-- Argument of an event for the input that caused it; 0xFF for none (log entry 6). -/
def inputArg (i : Option Nat) : Nat := i.getD 0xFF

/-- A request goes on: it has not begun, or a zone of it is not in STO, or an axis of it is under SS1. -/
def State.goesOn (s : State) (r : Ss1Req) : Bool :=
  !r.begun || (match r.scope with
    | .zones zs => zs.any fun z => !s.zoneSto z
    | .axis => r.axes.any fun a => (tblGet none s.safety.mon a).isSome)

/-- A request for an SLS breach or a fault is over: the axes of it that stand in axis STO, under whichever request they came
there, need SAFE_RESET (R223). -/
def State.resetNeeded (s : State) (r : Ss1Req) : State :=
  if r.scope = .axis ∧ !r.fromDemand then
    s.forEach (r.axes.filter fun a => (s.axisSto a).on) fun u a => u.modAxisSto a fun x => { x with needReset := true }
  else s

/-- Requests whose axes, or whose zones, are all in STO are over. -/
def State.pruneSs1 (s : State) : State :=
  (s.modSafety fun x => { x with reqs := x.reqs.filter s.goesOn }).forEach
    (s.safety.reqs.filter fun r => !s.goesOn r) State.resetNeeded

/-- A zone has come into STO, `f` being the change of its command or of a pin that brings it there (R212, R215). -/
def State.zoneIntoSto (s : State) (z cause : Nat) (input : Option Nat) (late : Bool) (f : ZoneSt → ZoneSt) : State :=
  let t := s.modZone z fun x =>
    { f x with cause := cause, causeInput := input, lastSto := s.now, testDue := false, late := late }
  let t := (t.emit evZoneStop (mkRef clsZone (s.dev * 16 + z)) [1, cause, inputArg input]).raiseIrq 7
  (t.forEach (s.zoneAxes z) State.axisIntoSto).pruneSs1

/-- R212, R215: both pins of a zone are commanded to the safe level, `f` being the change of the commands. -/
def State.stopZoneBy (s : State) (z cause : Nat) (input : Option Nat) (late : Bool) (f : ZoneSt → ZoneSt) : State :=
  if !(s.zone z).released then s
  else if s.zoneSto z then s.modZone z f
  else s.zoneIntoSto z cause input late f

/-- A zone is stopped for a cause that both islands see at once. -/
def State.stopZone (s : State) (z cause : Nat) (input : Option Nat) (late : Bool) : State :=
  s.stopZoneBy z cause input late (ZoneSt.withdraw s.now true true)

def State.stopAllZones (s : State) (cause : Nat) : State :=
  s.forEach s.zoneList fun t z => t.stopZone z cause none false

/-- Axis STO of an axis; it releases under R223. -/
def State.setAxisSto (s : State) (needReset : Bool) (a : Nat) : State :=
  if (s.axisSto a).on then s.modAxisSto a fun x => { x with needReset := x.needReset || needReset }
  else
    let t := s.modAxisSto a fun _ => { on := true, needReset := needReset }
    t.axisIntoSto a

/-! ### SS1 (R216, R219) -/

/-- An island's own speed of an axis (R151). -/
def State.islandSpeed (s : State) (e : Island) (a : Nat) : Nat := ((s.eng e).joint a).vel.natAbs

def State.underSs1 (s : State) (a : Nat) : Bool := (tblGet none s.safety.mon a).isSome

/-- A request is made: it begins at its tick. -/
def State.requestSs1 (s : State) (axes : List Nat) (scope : Ss1Scope) (obj : Word) (cause t0 : Nat)
    (fromDemand : Bool) : State :=
  s.modSafety fun x => { x with
    reqs := x.reqs ++ [{ id := x.nextReq, scope := scope, obj := obj, axes := axes, t0 := t0, cause := cause,
                         fromDemand := fromDemand }]
    nextReq := x.nextReq + 1 }

/-- SS1 starts for an axis that is neither in STO nor already under SS1. -/
def State.startSs1Axis (s : State) (t0 : Nat) (covered : List Nat) (a : Nat) : State :=
  if s.inSto a || s.underSs1 a then s
  else
    let t := s.stopAxisQueues a covered
    let t := t.modAxis a fun x => { x with
      brakeStop := none, align := none
      lp := { x.lp with ss1 := some { t0 := t0, vStart := 0, aDem := s.pU 0x7001 a, dirNeg := x.lp.dirNeg, c3 := 0 } } }
    t.modSafety fun x => { x with
      mon := tblSet x.mon a (some { t0 := t0, v0M := s.islandSpeed .madder a, v0W := s.islandSpeed .woad a }) }

/-- A request begins: t₀ is this tick; for zone scope the zones are recorded as stopping. -/
def State.beginSs1 (s : State) (r : Ss1Req) : State :=
  let t := s.modSafety fun x => { x with reqs := x.reqs.map fun y => if y.id = r.id then { y with begun := true } else y }
  let t := match r.scope with
    | .zones zs => t.forEach zs fun u z =>
      if u.zoneSto z then u
      else
        let i := if r.cause = 2 then (u.zone z).causeInput else none
        ((u.modZone z fun x => { x with cause := r.cause, causeInput := i }).emit evZoneStop
          (mkRef clsZone (u.dev * 16 + z)) [2, r.cause, inputArg i]).raiseIrq 7
    | .axis => t
  (t.forEach r.axes fun u a => u.startSs1Axis s.tick.no r.axes a).pruneSs1

/-- Requests whose tick has come begin. -/
def State.beginDueSs1 (s : State) : State :=
  s.forEach (s.safety.reqs.filter fun r => !r.begun && decide (r.t0 ≤ s.tick.no)) fun t r => t.beginSs1 r

/-- SS1 of every axis of every zone (R240, R470, R524, R171), from tick `t0`. -/
def State.ss1AllZones (s : State) (cause t0 : Nat) : State :=
  s.requestSs1 (dedup (s.zoneList.flatMap s.zoneAxes)) (.zones s.zoneList) s.devRef cause t0 false

/-- Axes that a fault of the device stops (R487). -/
def State.noteFaultStop (s : State) (axes : List Nat) : State :=
  s.modHealth fun x => { x with faultStop := dedup (x.faultStop ++ axes) }

/-- Every axis of every zone is stopped by a fault of the device. -/
def State.noteAllStopped (s : State) : State := s.noteFaultStop (s.zoneList.flatMap s.zoneAxes)

/-- The axes of the arm that contains an axis, or the axis alone. -/
def State.armAxes (s : State) (a : Nat) : List Nat :=
  match s.armOf a with
  | some g => s.localAxes (mkRef clsGroup g)
  | none => [a]

/-- A fault laid down for an axis: SS1 of its arm, or of the axis alone, from the next tick (Table 8.2). -/
def State.faultSs1 (s : State) (a : Nat) : State :=
  s.requestSs1 (s.armAxes a) .axis (mkRef clsAxis a) 0 (s.tick.no + 1) false

/-- SS1 of an axis and of every axis of any arm that contains one of them (R53, R286, R466, R467). -/
def State.ss1WithArms (s : State) (axes : List Nat) (obj : Word) (t0 : Nat) : State :=
  s.requestSs1 (dedup (axes ++ axes.flatMap s.armAxes)) .axis obj 0 t0 false

/-- FAULT latches on an axis. -/
def State.latchFault (s : State) (a : Nat) : State := s.modAxis a fun x => { x with fault := true }

/-- COMM_VALID clears with its record (R82). -/
def State.commLost (s : State) (a cause : Nat) : State :=
  if (s.axis a).commValid then
    (s.modAxis a fun x => { x with commValid := false }).emit evCommLost (mkRef clsAxis a) [cause]
  else s

/-- A feedback fault (R136): FAULT, HOMED cleared, COMM_VALID cleared on an incremental source, SS1, a record. -/
def State.feedbackFault (s : State) (a code : Nat) (args : List Nat) : State :=
  let t := (s.latchFault a).modAxis a fun x =>
    { x with fb := { x.fb with fault := true }, home := { x.home with homed := false } }
  let t := if s.sourceAbsolute a then t else t.commLost a 2
  (t.faultSs1 a).emit code (mkRef clsAxis a) args

/-! ### State codes (R23, R24, R527) -/

def stAbsent : Nat := 0
def stReady : Nat := 1
def stMoving : Nat := 2
def stLimited : Nat := 3
def stDegraded : Nat := 4
def stStopping : Nat := 5
def stDisabled : Nat := 6
def stFault : Nat := 7

/-- The logical lane and slot that serve an axis. -/
def State.laneOf (s : State) (a : Nat) : Option (Nat × Nat) :=
  (s.lanes.log.findSome? fun p => (p.2.slots.find? fun e => e.2 = some a).map fun e => (p.1, e.1))

/-- Trunks whose channel is lost (R285) degrade the axes of their nodes. -/
def State.trunkDegraded (s : State) (t : Nat) : Bool :=
  let x := s.trunk t
  (x.aLost || x.bLost) && x.sched ≠ 0

/-- Every axis of the lane is under half rate by choice: it is in no degraded mode (R468). -/
def State.allByChoice (s : State) (l : Nat) : Bool :=
  (s.logLane l).slots.all fun e => match e.2 with
    | some a => s.health.halfAxes.contains a
    | none => true

/-- A time-limited degraded mode serves the axis (R50, R239, R285, R466). -/
def State.axisDegraded (s : State) (a : Nat) : Bool :=
  s.safety.degraded.isSome ||
  (match s.laneOf a with
   | some (l, _) => (s.logLane l).degraded || ((s.logLane l).wide && !s.allByChoice l)
   | none => false) ||
  (match s.axisNode a with
   | some (n, _) => (match s.localNode n with | some r => s.trunkDegraded r.trunk | none => false)
   | none => false)

/-- The state code an axis reports (Table 1.5). -/
def State.axisState (s : State) (a : Nat) : Nat :=
  let x := s.axis a
  if s.axisAbsent a then stAbsent
  else if x.fault then stFault
  else if s.inSto a then stDisabled
  else if s.underSs1 a then stStopping
  else if !x.closed && x.align.isNone then stDisabled
  else if s.axisDegraded a then stDegraded
  else if x.lp.win = 2 ∨ x.lp.win = 4 then stLimited
  else if (match x.bound with | some q => (s.queue q).plan.isSome | none => false) || (x.home.run.isSome && x.home.state ≠ 0) ||
      x.softStart || x.align.isSome ||
      (s.pU 0x1003 a ≠ 0 && x.lp.vRef ≠ 0) then stMoving
  else stReady

/-- The highest code of a list and the first member that holds it. -/
def worstOf : List (Nat × Word) → Nat × Word
  | [] => (0, noRef)
  | p :: r => r.foldl (fun m q => if m.1 < q.1 then q else m) p

/-- What is known of a remote group: its device's last report, or FAULT while that device is away (R26, R293). -/
def State.remoteGroup (s : State) (g : Nat) : GStatSt :=
  let x := tblGet {} s.link.gstat g
  if s.link.away.contains (g / 256) then { x with state := stFault } else x

/-- A group's aggregated state code and the first member that holds it (R23, R24, R26). -/
def State.groupStateF (s : State) : Nat → Nat → Nat × Word
  | 0, _ => (0, noRef)
  | fuel + 1, g =>
    let ms := (s.cell.members g).map fun w =>
      if refClass w = clsAxis then (s.axisState (refIndex w), w)
      else if refIndex w / 256 = s.dev then ((s.groupStateF fuel (refIndex w)).1, w)
      else ((s.remoteGroup (refIndex w)).state, w)
    if ms.isEmpty then (0, noRef) else worstOf ms

def State.groupState (s : State) (g : Nat) : Nat × Word := s.groupStateF (s.cell.groups.length + 2) g

end Sys2Proof.Machine
end

