-- ==== Sys2Proof/Machine/Feedback.lean ====
section
/-!
DEFINITION. Local ports, decoding of counts into positions, and position compare (chapter 5).
-/
namespace Sys2Proof.Machine

/-- The axes whose SOURCE is a port. -/
def State.portAxes (s : State) (p : Nat) : List Nat :=
  (s.cell.axes.filter fun r => r.source = mkRef clsPort (s.portIx p)).map fun r => r.index

/-! ### The input filter (R120) -/

/-- When an accepted level takes effect, as an offset in the tick: the sample that completes the run of `n`, a level having
stood for `run` samples of 5 ns at offset `t`; none while the run is too short. -/
def runDone (n run t : Nat) : Option Nat := if run < n then none else some (t - (run - n) * 5)

/-- The same for a line whose filtered level is `old`. -/
def lineChange (n : Nat) (old new : Bool) (run t : Nat) : Option Nat := if new = old then none else runDone n run t

/-- Lines A and B show levels that have stood for so many samples: when each changes its filtered level. -/
def State.lineChanges (s : State) (p : Nat) (a b : Bool) (runA runB t : Nat) : Option Nat × Option Nat :=
  let n := s.pU 0x4002 (s.portIx p)
  let x := s.port p
  (lineChange n x.aF a runA t, lineChange n x.bF b runB t)

/-- A changes of the two lines in the order in which they take effect: A alone, B alone, or both in one sample. -/
def State.byLines (s : State) (c : Option Nat × Option Nat) (onA onB both : State → Nat → State) : State :=
  match c with
  | (some u, some v) => if u = v then both s u else if u < v then onB (onA s u) v else onA (onB s v) u
  | (some u, none) => onA s u
  | (none, some v) => onB s v
  | (none, none) => s

def State.portA (s : State) (p : Nat) (a : Bool) (t : Nat) : State :=
  s.modPort p fun y => { y with aF := a, aEdgeNs := s.now + t }

def State.portB (s : State) (p : Nat) (b : Bool) (t : Nat) : State :=
  s.modPort p fun y => { y with bF := b, bEdgeNs := s.now + t }

/-- The filtered levels of A and B, in any mode, with the times of their accepted changes. -/
def State.portLines (s : State) (p : Nat) (a b : Bool) (runA runB t : Nat) : State :=
  s.byLines (s.lineChanges p a b runA runB t) (fun u k => u.portA p a k) (fun u k => u.portB p b k)
    fun u k => (u.portA p a k).portB p b k

/-! ### Quadrature, pulse and index inputs (R122 to R126) -/

/-- Sign of a single-line quadrature edge: +1 where A leads B. -/
def quadSign (a b aChanged : Bool) : Int :=
  if aChanged then (if a = b then -1 else 1) else (if a = b then 1 else -1)

/-- R123: direction known and the edge rate above 0.25 × f_max. -/
def inferOk (x : Port) (filter : Nat) : Bool :=
  x.dirKnown && decide (0 < x.interval) && decide (x.interval < Nat.max 80 (20 * (filter + 1)))

/-- The illegal events that count toward the limit of an axis. -/
def State.setIllegal (s : State) (a n : Nat) : State := s.modAxis a fun x => { x with fb := { x.fb with illegal := n } }

/-- R124: every axis on a port has a feedback fault while the count of one of them exceeds the limit. -/
def State.illegalLimit (s : State) (p : Nat) : State :=
  let lim := s.pU 0x4007 (s.portIx p)
  if lim ≠ 0 && (s.portAxes p).any fun a => decide (lim < (s.axis a).fb.illegal) then
    s.forEach ((s.portAxes p).filter fun a => !(s.axis a).fb.fault) fun u a => u.feedbackFault a evEncFault [2]
  else s

/-- One illegal event: counted, recorded, and held against the limit (R123, R124). -/
def State.quadIllegal (s : State) (p : Nat) : State :=
  let t := s.modPort p fun x => { x with illegal := incSat 32 x.illegal, illegalTick := true }
  let t := t.forEach (t.portAxes p) fun u a => u.setIllegal a (incSat 32 (u.axis a).fb.illegal)
  (t.emit evQuadIllegal (mkRef clsPort (s.portIx p)) [(t.port p).illegal]).illegalLimit p

/-- One line changed: the counter moves by one (R122). -/
def State.quadStep (s : State) (p : Nat) (isA : Bool) (t : Nat) : State :=
  s.modPort p fun y =>
    let sg := quadSign y.aF y.bF isA
    { y with
      count := wrapS 64 (y.count + sg), lastNeg := decide (sg < 0), dirKnown := decide (y.lastSign = sg), lastSign := sg
      interval := s.now + t - y.edgeNs, edgeNs := s.now + t }

/-- Both lines changed in one sample (R123). -/
def State.quadBoth (s : State) (p : Nat) : State :=
  if s.pU 0x4003 (s.portIx p) = 1 ∧ inferOk (s.port p) (s.pU 0x4002 (s.portIx p)) then
    s.modPort p fun y => { y with
      count := wrapS 64 (y.count + (if y.lastNeg then -2 else 2)), inferred := incSat 32 y.inferred, inferredTick := true }
  else s.quadIllegal p

def State.quadEdgeOp (s : State) (p : Nat) (a b : Bool) (runA runB t : Nat) : State :=
  s.byLines (s.lineChanges p a b runA runB t) (fun u k => (u.portA p a k).quadStep p true k)
    (fun u k => (u.portB p b k).quadStep p false k) fun u k => ((u.portA p a k).portB p b k).quadBoth p

/-- In the sample `x` the lines show `a` and `b`. Outside QUAD accepted levels show in
PORT_STATUS only. -/
def execQuadEdge (port : Fin 16) (a b : Bool) (x : LineSample) (s : State) : Out :=
  .next (if s.portMode port.val = pmQuad then s.quadEdgeOp port.val a b x.runA x.runB x.t
    else s.portLines port.val a b x.runA x.runB x.t)

/-- R125: the step edge counts by the level of B, a change of B within N + 1 samples not yet accepted. -/
def State.pulseStep (s : State) (p t : Nat) : State :=
  s.modPort p fun y =>
    let recent := y.bEdgeNs ≠ 0 ∧ s.now + t - y.bEdgeNs < (s.pU 0x4002 (s.portIx p) + 1) * 5
    let level := if recent then !y.bF else y.bF
    if y.aF = decide (s.pU 0x4006 (s.portIx p) = 0) then
      { y with count := wrapS 64 (y.count + (if level then 1 else -1)), lastNeg := !level }
    else y

def State.pulseStepOp (s : State) (p : Nat) (a b : Bool) (runA runB t : Nat) : State :=
  s.byLines (s.lineChanges p a b runA runB t) (fun u k => (u.portA p a k).pulseStep p k) (fun u k => u.portB p b k)
    fun u k => ((u.portB p b k).portA p a k).pulseStep p k

def execPulseStep (port : Fin 16) (a b : Bool) (x : LineSample) (s : State) : Out :=
  .next (if s.portMode port.val = pmPulse then s.pulseStepOp port.val a b x.runA x.runB x.t
    else s.portLines port.val a b x.runA x.runB x.t)

/-- Z reaches its active level: its filtered level shows it. -/
def State.portZ (s : State) (p t : Nat) : State :=
  s.modPort p fun y => { y with zF := decide (s.pU 0x4005 (s.portIx p) = 0), zEdgeNs := s.now + t }

/-- R126: the first index event of a tick latches the count and its time. An event after an intake and another before the
next one leave the second in the latch: R126 does not say which of the two is kept (DESIGN CHOICE, log entry 141). -/
def State.portIndexOp (s : State) (p : Nat) (t : Nat) : State :=
  let x := s.port p
  let s1 := s.portZ p t
  if s.pU 0x4004 (s.portIx p) = 1 ∧ !(x.aF && x.bF) then s1
  else if x.idxNew then s1.modPort p fun y => { y with indexExtra := incSat 32 y.indexExtra }
  else s1.modPort p fun y => { y with latch := some (y.count, s.timeAt t), idxNew := true }

/-- Between two accepted changes of Z to its active level it has shown the inactive one for a whole run as well (R120). -/
def State.zAccepted (s : State) (p t : Nat) : Bool :=
  (s.port p).zEdgeNs = 0 || decide (s.pU 0x4002 (s.portIx p) * 10 ≤ s.now + t - (s.port p).zEdgeNs)

/-- In the sample `x` Z shows its active level. Outside QUAD and PULSE an accepted level shows in PORT_STATUS
only. -/
def execPortIndexEvent (port : Fin 16) (x : IndexSample) (s : State) : Out :=
  .next (match runDone (s.pU 0x4002 (s.portIx port.val)) x.run x.t with
    | none => s
    | some k =>
      if !s.zAccepted port.val k then s
      else if s.portMode port.val = pmQuad ∨ s.portMode port.val = pmPulse then s.portIndexOp port.val k
      else s.portZ port.val k)

/-! ### SSI (R127 to R129) -/

structure SsiCfg where
  pos : Nat
  err : Nat
  check : Nat
  crcBits : Nat
  deriving DecidableEq

def State.ssiCfg (s : State) (p : Nat) : SsiCfg :=
  let ix := s.portIx p
  { pos := s.pU 0x4011 ix, err := s.pU 0x4013 ix, check := s.pU 0x4014 ix, crcBits := s.pU 0x4015 ix }

/-- Bits of the error field and of the check field. -/
def SsiCfg.e (c : SsiCfg) : Nat := if c.err = 0 then 0 else 1
def SsiCfg.k (c : SsiCfg) : Nat := if c.check = 0 then 0 else if c.check = 3 then c.crcBits else 1
def SsiCfg.w (c : SsiCfg) : Nat := c.pos + c.e + c.k

/-- Duration of the transfer in nanoseconds (R127). -/
def ssiTransferNs (c : SsiCfg) (clock : Nat) : Rat := mkRat ((c.w + 1) * 1000000000) clock

/-- Whether the transfer ends too late for the same tick's intake (R129). -/
def State.ssiAged (s : State) (p : Nat) : Bool :=
  decide (s.portMode p = pmSsi) &&
    decide (11000 < ssiTransferNs (s.ssiCfg p) (s.pU 0x4010 (s.portIx p)))

/-- A code of `w` bits over the low `n` bits of `v`, most significant first. -/
def crcBitwise (w poly : Nat) (v : Nat) : Nat → Nat → Nat
  | 0, c => c
  | n + 1, c =>
    let top := c / 2 ^ (w - 1) % 2
    let c1 := c * 2 % 2 ^ w
    crcBitwise w poly v n (if (top + v / 2 ^ n) % 2 = 1 then c1 ^^^ poly else c1)

def parityOf : Nat → Nat → Nat
  | 0, _ => 0
  | n + 1, v => (v % 2 + parityOf n (v / 2)) % 2

/-- Bit i of the result is the exclusive OR of bits i and above. -/
def grayToBin : Nat → Nat → Nat
  | 0, _ => 0
  | n + 1, v => v ^^^ grayToBin n (v / 2)

/-- R128: the cause of the first failing check, 0 for none. -/
def ssiCause (c : SsiCfg) (poly xor : Nat) (badNext : Bool) (w : SsiWord) : Nat :=
  let v := w.bits.toNat % 2 ^ c.w
  let data := v / 2 ^ c.k
  let chk := v % 2 ^ c.k
  if !w.idleHighAtT0 || badNext then 1
  else if c.err ≠ 0 ∧ (data % 2 = 1 ↔ c.err = 1) then 2
  else if (c.check = 1 ∧ chk ≠ parityOf (c.pos + c.e) data) ∨ (c.check = 2 ∧ chk = parityOf (c.pos + c.e) data) ∨
      (c.check = 3 ∧ chk ≠ crcBitwise c.crcBits poly data (c.pos + c.e) 0 ^^^ xor) then 3
  else if !w.highAfterTimeout then 4
  else 0

def State.ssiOp (s : State) (p : Nat) (w : SsiWord) : State :=
  let ix := s.portIx p
  let c := s.ssiCfg p
  let cause := ssiCause c (s.pU 0x4016 ix) (s.pU 0x4017 ix) (s.port p).badNext w
  let field := w.bits.toNat % 2 ^ c.w / 2 ^ (c.k + c.e)
  let v := if s.pU 0x4012 ix = 0 then grayToBin c.pos field else field
  let t := s.modPort p fun x => { x with
    begun := true, sample := if cause = 0 ∨ cause = 4 then some v else none
    badNext := decide (cause = 4), lastCause := if cause = 0 then x.lastCause else cause }
  if cause = 0 then t else t.emit evSsiError (mkRef clsPort ix) [cause]

def execSsiTransfer (port : Fin 16) (w : SsiWord) (s : State) : Out :=
  .next (if s.portMode port.val = pmSsi then s.ssiOp port.val w else s)

/-! ### Ochre (R131 to R134) -/

/-- Cause code of WARN in OCHRE_ERROR (log entry 7). -/
def ochreWarnCause : Nat := 8

/-- The sync of R130, in half bit times: low for 1.5 t_b, then high for 1.5 t_b. -/
def ochreSync : List Bool := [false, false, false, true, true, true]

/-- The levels of a frame of `n` data bits, by half bit times: sync, data most significant bit first (low to high for
1), end mark (R130). -/
def ochreFrame (n w : Nat) : List Bool :=
  ochreSync ++ ((upTo n).flatMap fun k => [!bitN w (n - 1 - k), bitN w (n - 1 - k)]) ++ [true, true]

/-- The value of `n` data bits on a line; none where a bit lacks its mid-bit transition. -/
def ochreData : Nat → List Bool → Nat → Option Nat
  | 0, _, v => some v
  | n + 1, a :: b :: r, v => if a = b then none else ochreData n r (2 * v + b2n b)
  | _ + 1, _, _ => none

/-- A receiver accepts bit rates within ±5 % of 12.5 Mbit/s (R130). -/
def ochreRateOk (bitPs : Nat) : Bool := decide (8000000 ≤ bitPs * 105) && decide (bitPs * 95 ≤ 8000000)

/-- The 64 bits of a response (R132); none where the code fails. `slack` says whether a line outside the tolerance is
read all the same, which the spec leaves open. -/
def ochreWord (r : OchreResp) (slack : Bool) : Option Nat :=
  if ochreRateOk r.bitPs || slack then ochreData 64 (r.line.drop 6) 0 else none

/-- The bytes a response's CRC covers: the 40-bit field and the status, most significant first (R132). -/
def ochreBytes (w : Nat) : List Byte := (bytesLE 6 (w / 2 ^ 16)).reverse

/-- R134: the cause of an invalid response, 0 for none, and the 64 bits it carries. The causes have the codes of Table 5.6, as
OCHRE_ERROR's argument too, for which the spec gives none: NO_RESPONSE and LATE_END are both 5 (DESIGN CHOICE, log entry
143). -/
def ochreRead (r : OchreResp) (slack : Bool) : Nat × Nat :=
  if 2000 < r.start ∨ r.line.take 6 ≠ ochreSync then (5, 0)
  else if 12000000 < r.line.length * r.bitPs then (5, 0)
  else match ochreWord r slack with
    | none => (6, 0)
    | some w =>
      (if crcNorm 16 0x1021 0xFFFF (ochreBytes w) ≠ w % 2 ^ 16 then 3 else if bitN w 23 then 2 else 0, w)

/-- A response is received: a sample, or an identification in answer to IDENT. -/
def State.ochreOp (s : State) (p : Nat) (r : OchreResp) : State :=
  let ix := s.portIx p
  let obj := mkRef clsPort ix
  let (cause, w) := ochreRead r (bitN (Config.freeWord s.free).toNat 0)
  let status := field w 23 16
  let ident := (s.port p).request = 0x3C
  let t := { s with free := s.free + 1 }.modPort p fun x => { x with
    begun := x.begun || !ident
    sample := if cause = 0 ∧ !ident then some (w / 2 ^ 24) else none
    id := if cause = 0 ∧ ident then BitVec.ofNat 32 (w / 2 ^ 32) else x.id
    lastCause := if cause = 0 then x.lastCause else cause
    warn := if cause = 0 ∨ cause = 2 then bitN status 6 else x.warn }
  let t := if cause = 0 then t else t.emit evOchreError obj [cause, status]
  if (t.port p).warn && !(s.port p).warn then t.emit evOchreError obj [ochreWarnCause, status] else t

def execOchreResponse (port : Fin 16) (r : OchreResp) (s : State) : Out :=
  .next (if s.portMode port.val = pmOchre then s.ochreOp port.val r else s)

def execOchreNoResponse (port : Fin 16) (s : State) : Out :=
  .next (if s.portMode port.val = pmOchre then
      (s.modPort port.val fun x => { x with begun := x.begun || x.request ≠ 0x3C, sample := none, lastCause := 5 }).emit
        evOchreError (mkRef clsPort (s.portIx port.val)) [5, 0]
    else s)

/-- R131, R133: the request byte of the coming tick. -/
def ochreByte (x : Port) : Byte := if 0 < x.identLeft then 0x3C else if x.clearPending then 0x2D else 0x1E

def execOchreRequest (port : Fin 16) (s : State) : Out :=
  .next (if s.portMode port.val = pmOchre then
      s.modPort port.val fun x => { x with
        request := ochreByte x, driven := ochreFrame 8 (ochreByte x).toNat, identLeft := x.identLeft - 1
        clearPending := if 0 < x.identLeft then x.clearPending else false }
    else s)

/-- The source of an axis starts again at the lane and at both engines: the next valid sample is its first (R135). -/
def State.restartCount (s : State) (a : Nat) : State :=
  let f := fun (x : Eng) => { x with joints := tblMod {} x.joints a fun j => { j with started := false } }
  ((s.modAxis a fun x => { x with fb := { x.fb with started := false, loadStarted := false } }).modEng .madder f).modEng .woad f

/-- PORT_MODE commits (R119): counts cleared, the axes on the port start afresh, four IDENT requests on OCHRE. A counting
port gives its first sample in this tick; a port that asks an encoder gives none before it has asked. -/
def State.portModeCommitted (s : State) (p mode : Nat) : State :=
  let counts := mode = pmQuad ∨ mode = pmPulse
  let t := s.modPort p fun x => { x with
    count := 0, illegal := 0, inferred := 0, lastSign := 0, dirKnown := false, interval := 0
    sample := if counts then some 0 else none, held := none, begun := decide counts, heldBegun := false
    badNext := false, latch := none, idxNew := false, lastInferred := false, illegalTick := false, inferredTick := false
    stale := false, aged := false, warn := false, consec := 0
    identLeft := if mode = pmOchre then 4 else 0 }
  t.forEach (t.portAxes p) fun u a => (u.restartCount a).setIllegal a 0

/-! ### From count to position (R135, R136) -/

/-- The count that a first sample starts from, as a signed 64-bit total: `c` of `w` bits, sign-extended if FB_ABS_FORMAT
is SIGNED, else zero-extended (R135). -/
def State.firstCount (s : State) (a w c : Nat) : Int := if s.pU 0x4032 a = 1 then sext w c else sext 64 c

/-- Width of an axis's count. -/
def State.countWidth (s : State) (a : Nat) : Nat :=
  match s.axisPort a with
  | some p => if s.portMode p = pmSsi then (s.ssiCfg p).pos else if s.portMode p = pmOchre then 40 else 64
  | none => 40

/-- Position of a count total: exact product, rounded down. -/
def posOfCount (org : Int) (neg : Bool) (cpt : Nat) (cnt : Int) : Int :=
  satS 64 (org + (if neg then -cnt else cnt) * 2 ^ 32 / (Nat.max 1 cpt))

/-- The jump check: |d| × 2³² / CPT above 2 × VMAX × 65,536 × dt. -/
def jumps (d : Int) (cpt vmax dtNs : Nat) : Bool :=
  decide (2 * vmax * 65536 * dtNs * cpt < d.natAbs * 2 ^ 32 * 1000000000)

/-- An invalid sample of an axis: predicted position over the kernel's interval `T`, STALE and the record (R136). -/
def State.invalidSample (s : State) (a cause T : Nat) : State :=
  let x := s.axis a
  let n := x.fb.consec + 1
  let t := s.modAxis a fun y => { y with fb := { y.fb with
    posNew := satS 64 (x.lp.posFb + rnd ((x.lp.vFb : Rat) * kT T)), consec := incSat 16 x.fb.consec, stale := true
    sinceValid := x.fb.sinceValid + s.P, idx := none } }
  t.emit evFbStale (mkRef clsAxis a) [cause, n]

/-- A sample of an axis: count `c` of its source, or a cause that makes it invalid. -/
def State.takeSample (s : State) (a : Nat) (c : Option Nat) (cause T : Nat) : State :=
  match c with
  | none => s.invalidSample a cause T
  | some c =>
    let fb := (s.axis a).fb
    let w := s.countWidth a
    let cpt := s.pU 0x4030 a
    let neg := s.pU 0x4031 a = 1
    if !fb.started then
      let cnt := s.firstCount a w c
      s.modAxis a fun y => { y with fb := { y.fb with
        cnt := cnt, cPrev := c, started := true, sinceValid := 0, consec := 0, stale := false, faulted := false
        posNew := posOfCount fb.posOrg neg cpt cnt } }
    else
      let d := sext w (uns w ((c : Int) - fb.cPrev))
      if jumps d cpt (s.pU 0x1004 a) (fb.sinceValid + s.P) then s.invalidSample a 7 T
      else
        let cnt := satS 64 (fb.cnt + d)
        s.modAxis a fun y => { y with fb := { y.fb with
          cnt := cnt, cPrev := c, sinceValid := 0, consec := 0, stale := false, faulted := false
          posNew := posOfCount fb.posOrg neg cpt cnt } }

/-- A load-side count, with FB_LOAD_CPT (R66, R135). A lost count, one that fails the jump check, and one of an encoder
declared absent (FB_LOAD_CPT 0) leave no load-side position. -/
def State.takeLoad (s : State) (a : Nat) (c : Option Nat) : State :=
  let cpt := s.pU 0x4034 a
  let fb := (s.axis a).fb
  let lost := s.modAxis a fun y => { y with fb := { y.fb with loadValid := false, sinceLoad := y.fb.sinceLoad + s.P } }
  match c with
  | none => lost
  | some c =>
    let d := sext 40 (uns 40 ((c : Int) - fb.cPrevLoad))
    if cpt = 0 || (fb.loadStarted && jumps d cpt (s.pU 0x1004 a) (fb.sinceLoad + s.P)) then lost
    else
      let cnt := if fb.loadStarted then satS 64 (fb.cntLoad + d) else s.firstCount a 40 c
      s.modAxis a fun y => { y with fb := { y.fb with
        cntLoad := cnt, cPrevLoad := c, loadStarted := true, loadValid := true, sinceLoad := 0
        posLoad := posOfCount fb.posOrg (s.pU 0x4031 a = 1) cpt cnt } }

/-! ### Indices (R126, R138) -/

/-- The latched count of a node word relative to POS: the value congruent to IDX_LO that lies nearest. -/
def idxOffset (idxLo pos : Nat) : Int := sext 24 (uns 24 ((idxLo : Int) - pos))

/-- The index that a node word reports, in counts of the axis. -/
def State.nodeIndex (s : State) (a : Nat) (word : BitVec 96) : State :=
  let off := idxOffset (field word.toNat 79 56) (field word.toNat 39 0)
  if !bitN word.toNat 43 then s
  else if 2 ^ 22 < off.natAbs then s.emit evFbStale (mkRef clsAxis a) [10, (s.axis a).fb.consec]
  else s.modAxis a fun y => { y with fb := { y.fb with
    idx := some (y.fb.cnt + sext 40 (uns 40 ((field word.toNat 39 0 : Int) - y.fb.cPrev)) + off) } }

/-- The index a local port has latched in this tick. -/
def State.portIndex (s : State) (a p : Nat) : State :=
  match (s.port p).latch with
  | some (c, _) => s.modAxis a fun y => { y with fb := { y.fb with
      idx := some (y.fb.cnt + sext 64 (uns 64 (c - y.fb.cPrev))) } }
  | none => s

/-- The position of an index, in the axis's frame. -/
def State.indexPos (s : State) (a : Nat) (c : Int) : Int :=
  posOfCount (s.axis a).fb.posOrg (s.pU 0x4031 a = 1) (s.pU 0x4030 a) c

/-- R139: the word whose switch bits an axis uses. -/
def State.switchWord (s : State) (a : Nat) : Nat :=
  match s.axisPort a with
  | some _ =>
    let r := s.pU 0x4033 a
    if r = 0xFFFFFFFF then 0 else (s.axis (r % 65536)).fb.word.toNat
  | none => (s.axis a).fb.word.toNat

/-- FB_WORD_STATUS: bits [55:40] of the node word. -/
def State.fbWordStatus (s : State) (a : Nat) : Nat := field (s.axis a).fb.word.toNat 55 40

/-- The third consecutive invalid sample of an axis is a feedback fault (R136). -/
def State.thirdInvalid (s : State) (a : Nat) : State :=
  if 3 ≤ (s.axis a).fb.consec && !(s.axis a).fb.faulted then
    (s.modAxis a fun x => { x with fb := { x.fb with faulted := true } }).feedbackFault a evEncFault [1]
  else s

def execEncFault (axis : Nat) (s : State) : Out := .next (s.thirdInvalid axis)

/-! ### Port status (R146) -/

def State.portStatus (s : State) (p : Nat) : Nat :=
  let x := s.port p
  b2n x.aF + 2 * b2n x.bF + 4 * b2n x.zF + 8 * b2n x.lastNeg + 16 * b2n x.illegalTick + 32 * b2n x.inferredTick +
  64 * b2n x.idxNew + 128 * b2n x.stale + 256 * b2n x.aged + 512 * b2n x.warn + 1024 * (x.lastCause % 8) +
  65536 * (x.consec % 65536)

/-! ### Position compare (R140 to R144) -/

def State.cmpIx (s : State) (k : Nat) : Nat := s.dev * 16 + k
def State.cmpMode (s : State) (k : Nat) : Nat := s.pU 0x4041 (s.cmpIx k)
def State.cmpNeg (s : State) (k : Nat) : Bool := s.pU 0x4042 (s.cmpIx k) = 1
def State.cmpSrc (s : State) (k : Nat) : Word := BitVec.ofNat 32 (s.pU 0x4040 (s.cmpIx k))

/-- The source's position: a port's count or an axis's position. -/
def State.cmpPos (s : State) (k : Nat) : Int :=
  let w := s.cmpSrc k
  if refClass w = clsPort then (s.port (refIndex w % 16)).count else (s.axis (refIndex w)).lp.posFb

/-- The entry at a pointer, cycle repeats included. -/
def State.cmpEntry (s : State) (k ptr rep : Nat) : Option Int :=
  ((s.cmp k).list[ptr]?).map fun e => e + (rep : Int) * s.pI 0x4044 (s.cmpIx k)

/-- The pointer after an entry. -/
def State.cmpAdvance (s : State) (k ptr rep : Nat) : Nat × Nat :=
  if ptr + 1 < (s.cmp k).list.length then (ptr + 1, rep)
  else if s.cmpMode k = 2 then (0, rep + 1)
  else ((s.cmp k).list.length, rep)

/-- `p` has reached or passed `e` in the direction. -/
def reached (neg : Bool) (p e : Int) : Bool := if neg then decide (p ≤ e) else decide (e ≤ p)

/-- `e` lies strictly beyond `p` in the direction. -/
def beyond (neg : Bool) (p e : Int) : Bool := if neg then decide (e < p) else decide (p < e)

/-- A 64-bit event argument: low word first (R451). -/
def arg64 (v : Int) : List Nat := [uns 64 v % 2 ^ 32, uns 64 v / 2 ^ 32]

/-- A fire at an offset: the pin pulses, or an active pulse is lengthened (R142); `last` ends a ONCE list. -/
def State.fireCmp (s : State) (k t : Nat) (e : Int) (last : Bool) : State :=
  let obj := mkRef clsCmp (s.cmpIx k)
  let x := s.cmp k
  let ns := s.now + t
  let width := s.pU 0x4043 (s.cmpIx k) / 5 * 5
  let t1 := s.modCmp k fun y => { y with
    active := true, pulseEnd := ns + width, fired := incSat 32 y.fired, sinceLoad := incSat 32 y.sinceLoad
    merged := if x.active then incSat 32 y.merged else y.merged
    lastCycle := s.tick.cycle, lastT := t }
  let at_ := some (s.timeAt t)
  let t1 := if x.active then t1.emitAt evCmpMerged obj (arg64 e) at_ else t1
  if last then (t1.modCmp k fun y => { y with ended := true }).emitAt evCmpEnd obj [(t1.cmp k).sinceLoad] at_ else t1

/-- Whether an entry is the last of a ONCE list. -/
def State.cmpLast (s : State) (k : Nat) (e : Int) : Bool :=
  s.cmpMode k = 1 && (s.cmp k).list.getLast? = some e

/-- R143: a port-sourced entry is reached. -/
def State.cmpPortOp (s : State) (k t : Nat) : State :=
  let x := s.cmp k
  match s.cmpEntry k x.ptr x.k with
  | some e =>
    if reached (s.cmpNeg k) (s.cmpPos k) e then
      let n := s.cmpAdvance k x.ptr x.k
      (s.fireCmp k t e (s.cmpLast k e)).modCmp k fun y => { y with ptr := n.1, k := n.2 }
    else s
  | none => s

def execCmpPortCrossing (cmp : Fin 16) (t : Nat) (s : State) : Out :=
  .next (if s.cmpMode cmp.val ≠ 0 ∧ refClass (s.cmpSrc cmp.val) = clsPort then s.cmpPortOp cmp.val t else s)

/-- R144: a captured fire time arrives. -/
def State.cmpFireOp (s : State) (k t : Nat) : State :=
  match (s.cmp k).armedFires with
  | (at_, e) :: rest =>
    if at_ ≤ s.now + t then
      (s.modCmp k fun y => { y with armedFires := rest }).fireCmp k t e (s.cmpLast k e)
    else s
  | [] => s

def execCmpFire (cmp : Fin 16) (t : Nat) (s : State) : Out :=
  .next (if s.cmpMode cmp.val ≠ 0 then s.cmpFireOp cmp.val t else s)

def execCmpPulseEnd (cmp : Fin 16) (t : Nat) (s : State) : Out :=
  .next (if (s.cmp cmp.val).active && decide ((s.cmp cmp.val).pulseEnd ≤ s.now + t) then
      s.modCmp cmp.val fun y => { y with active := false }
    else s)

/-- The smallest `t` in `[lo, hi)` seconds with p + v t + a t²/2 = e, moving in the direction; positions in LSB,
`v` and `a` in position LSB per second and per second². -/
def crossing (neg : Bool) (p v a e lo hi : Rat) : Option Rat :=
  let cands :=
    if a = 0 then (if v = 0 then [] else [(e - p) / v])
    else
      let disc := v * v - 2 * a * (p - e)
      if disc < 0 then [] else [(-v - sqrtQ disc) / a, (-v + sqrtQ disc) / a]
  let ok := cands.filter fun t => decide (lo ≤ t) && decide (t < hi) &&
    (if neg then decide (v + a * t < 0) else decide (0 < v + a * t))
  match ok with
  | [] => none
  | t :: r => some (r.foldl minQ t)

/-- The loop of R144, at most `fuel` fires: offsets on the 5 ns grid with their entries, and the pointer after them. -/
def State.cmpSchedule (s : State) (k : Nat) (pos : Int) (p v a : Rat) (lo hi : Rat) :
    Nat → Nat × Nat → List (Nat × Int) → List (Nat × Int) × (Nat × Nat) × List Int
  | 0, ptr, acc => (acc, ptr, [])
  | fuel + 1, ptr, acc =>
    match s.cmpEntry k ptr.1 ptr.2 with
    | none => (acc, ptr, [])
    | some e =>
      if beyond (s.cmpNeg k) e pos then
        let r := s.cmpSchedule k pos p v a lo hi fuel (s.cmpAdvance k ptr.1 ptr.2) (acc ++ [(22500, e)])
        (r.1, r.2.1, e :: r.2.2)
      else
        match crossing (s.cmpNeg k) p v a e lo hi with
        | none => (acc, ptr, [])
        | some t => s.cmpSchedule k pos p v a lo hi fuel (s.cmpAdvance k ptr.1 ptr.2)
            (acc ++ [((rnd (t * 200000000)).toNat * 5, e)])

/-- Compare prediction of one axis-sourced CMP in pass 2 (R144). -/
def State.cmpPredict (s : State) (k : Nat) : State :=
  let w := s.cmpSrc k
  if s.cmpMode k = 0 ∨ refClass w ≠ clsAxis ∨ w = noRef then s
  else
    let lp := (s.axis (refIndex w)).lp
    let T := if lp.halfRate then 2 * s.P else s.P
    let v0 := (lp.vFb : Rat) * 65536 + (lp.aRef : Rat) * 1048576 * secs T / 2
    let x := s.cmp k
    let r := s.cmpSchedule k lp.posFb lp.posFb v0 ((lp.aRef : Rat) * 1048576) (secs 22500) (secs (22500 + s.P)) 8
      (x.ptr, x.k) []
    let t := s.modCmp k fun y => { y with sched := r.1, ptrW := r.2.1.1, kW := r.2.1.2 }
    t.forEach r.2.2 fun u e => u.emit evCmpLate (mkRef clsCmp (s.cmpIx k)) (arg64 e ++ arg64 (lp.posFb - e))

/-- The deadline latch captures a CMP's predicted fires; on an overrun it schedules none (R47). -/
def State.cmpLatch (s : State) (k : Nat) (written : Bool) : State :=
  s.modCmp k fun y =>
    if written && !y.sched.isEmpty then { y with
      armedFires := y.armedFires ++ y.sched.map fun p => (s.now + p.1, p.2), ptr := y.ptrW, k := y.kW, sched := [] }
    else { y with sched := [] }

/-- R141: the first place at or after `i` whose entry lies strictly beyond the source. -/
def firstBeyond (neg : Bool) (pos off : Int) : List Int → Nat → Option Nat
  | [], _ => none
  | e :: r, i => if beyond neg pos (e + off) then some i else firstBeyond neg pos off r (i + 1)

/-- Pointer and repeats after a load. -/
def loadPointer (neg : Bool) (pos per : Int) (cyclic : Bool) (l : List Int) : Nat × Nat :=
  match firstBeyond neg pos 0 l 0 with
  | some i => (i, 0)
  | none =>
    if cyclic ∧ per ≠ 0 then
      let k0 := (if neg then (l.headD 0 - pos) / -per else (pos - l.headD 0) / per).toNat
      match firstBeyond neg pos (k0 * per) l 0 with
      | some i => (i, k0)
      | none => ((firstBeyond neg pos ((k0 + 1 : Nat) * per) l 0).getD 0, k0 + 1)
    else (l.length, 0)

/-- Strictly ordered in the direction. -/
def strictlyOrdered (neg : Bool) : List Int → Bool
  | a :: b :: r => beyond neg a b && strictlyOrdered neg (b :: r)
  | _ => true

/-- CMP_LOAD at its tick of effect (R141). The spec does not treat a list in CYCLE whose span is CMP_PERIOD or more, which the
model accepts (DESIGN CHOICE, log entry 144), nor one that reaches past the host window, whose bytes there read 0 (DESIGN
CHOICE, log entry 145). -/
def State.cmpLoadOp (s : State) (h : Hdr) (off count : Nat) : State :=
  let k := refIndex h.obj % 16
  let l := (upTo count).map fun i => sfieldAt (s.winRead (off + 8 * i) 8) 0 8
  let neg := s.cmpNeg k
  if !strictlyOrdered neg l then s.done 0x0108 h stArg
  else
    let p := loadPointer neg (s.cmpPos k) (s.pI 0x4044 (s.cmpIx k)) (s.cmpMode k = 2) l
    (s.modCmp k fun y => { y with
      list := l, ptr := p.1, k := p.2, ended := false, sched := [], armedFires := [], sinceLoad := 0 }).done 0x0108 h stOk

def execCmpLoad (h : Hdr) (winOffset : Word) (count : Word16) (s : State) : Out :=
  .next (s.cmpLoadOp h winOffset.toNat count.toNat)

end Sys2Proof.Machine
end

