-- ==== Sys2Proof/Machine/Flags.lean ====
section
/-!
DEFINITION. Flags and result ranges of the lane instructions (R309 to R313, R346): every flag effect of Table 11.4, the
saturating or wrapping store of a result, and rounding under RND.
-/
namespace Sys2Proof.Machine

/-! ### MODE, FLAGS, BEXP (Tables 10.5 to 10.7) -/

def LaneRegs.asc (r : LaneRegs) : Bool := r.mode.getLsbD 0
def LaneRegs.trunc (r : LaneRegs) : Bool := r.mode.getLsbD 1
def LaneRegs.frac (r : LaneRegs) : Bool := r.mode.getLsbD 2
def LaneRegs.user (r : LaneRegs) : Bool := r.mode.getLsbD 3

/-- Set or clear one bit of a word. -/
def setBit (w : Word) (k : Nat) (v : Bool) : Word :=
  if v then w ||| BitVec.ofNat 32 (2 ^ k) else w &&& ~~~(BitVec.ofNat 32 (2 ^ k))

def LaneRegs.flag (r : LaneRegs) (k : Nat) : Bool := r.flags.getLsbD k
def LaneRegs.setFlag (r : LaneRegs) (k : Nat) (v : Bool) : LaneRegs := { r with flags := setBit r.flags k v }
/-- A sticky flag is set where the condition holds. -/
def LaneRegs.stick (r : LaneRegs) (k : Nat) (v : Bool) : LaneRegs := if v then r.setFlag k true else r

def flZ : Nat := 0
def flN : Nat := 1
def flV : Nat := 2
def flC : Nat := 3
def flSV : Nat := 4
def flSS : Nat := 5
def flGU : Nat := 6
def flSC : Nat := 7
def flRPT : Nat := 8

/-! ### Ranges (R312, R313) -/

/-- A value fits a signed destination of `w` bits. -/
def fits (w : Nat) (v : Int) : Bool := decide (-(2 ^ (w - 1) : Int) ≤ v) && decide (v < 2 ^ (w - 1))

/-- S acts, or MODE.ASC saturates every result. -/
def LaneRegs.sat (r : LaneRegs) (s : Bool) : Bool := r.asc || s

/-- The stored result: the nearest limit, or the low bits. -/
def store (sat : Bool) (w : Nat) (v : Int) : Int := if sat then satS w v else wrapS w v

/-- Rounding of `v / 2ⁿ` under RND (Table 10.5). -/
def roundAt (trunc : Bool) (v : Int) (n : Nat) : Int := if trunc then v / 2 ^ n else rdiv v (2 ^ n)

/-! ### Flag codes (Table 11.4) -/

/-- V, SS and SV of a result against its range. -/
def LaneRegs.range (r : LaneRegs) (sat : Bool) (w : Nat) (v : Int) : LaneRegs :=
  let o := !fits w v
  ((r.setFlag flV o).stick flSS (o && sat)).stick flSV (o && !sat)

def LaneRegs.zn (r : LaneRegs) (v : Int) : LaneRegs := (r.setFlag flZ (v = 0)).setFlag flN (decide (v < 0))

/-- Code A for a destination of `w` bits. -/
def LaneRegs.codeA (r : LaneRegs) (sat : Bool) (w : Nat) (v : Int) : LaneRegs := (r.range sat w v).zn (store sat w v)

/-- Code C. -/
def LaneRegs.codeC (r : LaneRegs) (c : Bool) : LaneRegs := r.setFlag flC c

/-- Code F: the flags of a 32-bit difference. -/
def LaneRegs.codeF (r : LaneRegs) (v : Int) (borrow : Bool) : LaneRegs :=
  ((r.setFlag flV (!fits 32 v)).zn (wrapS 32 v)).setFlag flC borrow

/-- Code L. -/
def LaneRegs.codeL (r : LaneRegs) (v : Int) : LaneRegs := ((r.zn v).setFlag flV false).setFlag flC false

/-- Code K. -/
def LaneRegs.codeK (r : LaneRegs) (v : Int) (changed : Bool) : LaneRegs := (r.zn v).setFlag flV changed

/-- The guard bits of an 80-bit result are in use: bits [79:63] differ. -/
def guardUsed (v : Int) : Bool := !fits 64 v

/-- Code M for one result. -/
def LaneRegs.codeM (r : LaneRegs) (sat : Bool) (v : Int) : LaneRegs :=
  ((r.range sat 80 v).zn (store sat 80 v)).stick flGU (guardUsed (store sat 80 v))

/-- Code M for two results, of the complex and dual forms. -/
def LaneRegs.codeM2 (r : LaneRegs) (sat : Bool) (v w : Int) : LaneRegs :=
  let a := store sat 80 v
  let b := store sat 80 w
  let o := !fits 80 v || !fits 80 w
  let t := ((r.setFlag flV o).stick flSS (o && sat)).stick flSV (o && !sat)
  ((t.setFlag flZ (a = 0 && b = 0)).setFlag flN (decide (a < 0))).stick flGU (guardUsed a || guardUsed b)

/-! ### Conditions (Table 11.5) -/

def LaneRegs.holds (r : LaneRegs) (c : Cond) : Bool :=
  let z := r.flag flZ
  let n := r.flag flN
  let v := r.flag flV
  match c with
  | .always => true
  | .eq => z
  | .ne => !z
  | .lt => n != v
  | .ge => n == v
  | .gt => !z && n == v
  | .le => z || n != v
  | .mi => n
  | .pl => !n
  | .vs => v
  | .vc => !v
  | .cs => r.flag flC
  | .cc => !(r.flag flC)

end Sys2Proof.Machine
end

