-- ==== Sys2Proof/Machine/Operands.lean ====
section
/-!
DEFINITION. Registers, memory and operands of the lane instructions (R301, R306, R307, R309, R316, R320, R325,
R341 to R343, R345, R348).
-/
namespace Sys2Proof.Machine

/-- Why an instruction does not complete: an address fault, or an undefined instruction (R301, R350). -/
inductive LaneFault where
  | addr | undef
  deriving DecidableEq, Repr

/-- The outcome of one instruction on a pair. -/
abbrev LRes := Except LaneFault PairSt

/-! ### d registers and accumulators -/

def LaneRegs.dr (r : LaneRegs) (k : Nat) : Word := cellRead r.d k
def LaneRegs.ds (r : LaneRegs) (k : Nat) : Int := (r.dr k).toInt
def LaneRegs.setD (r : LaneRegs) (k : Nat) (v : Int) : LaneRegs := { r with d := cellWrite r.d k (BitVec.ofInt 32 v) }
/-- The S64 value of a pair whose low half is register `k`. -/
def LaneRegs.d64 (r : LaneRegs) (k : Nat) : Int := r.ds (k + 1) * 2 ^ 32 + (r.dr k).toNat
def LaneRegs.setD64 (r : LaneRegs) (k : Nat) (v : Int) : LaneRegs := (r.setD k v).setD (k + 1) (v / 2 ^ 32)
def LaneRegs.ac (r : LaneRegs) (k : Nat) : Int := (cellRead r.a k).toInt
def LaneRegs.setA (r : LaneRegs) (k : Nat) (v : Int) : LaneRegs := { r with a := cellWrite r.a k (BitVec.ofInt 80 v) }

/-! ### Pointers (Table 10.4, R320) -/

def LaneRegs.ptr (r : LaneRegs) (i : Nat) : Word := cellRead r.p i
def LaneRegs.addr (r : LaneRegs) (i : Nat) : Nat := (r.ptr i).toNat % 65536
def LaneRegs.space (r : LaneRegs) (i : Nat) : Nat := (r.ptr i).toNat / 65536 % 4
def LaneRegs.setAddr (r : LaneRegs) (i a space : Nat) : LaneRegs :=
  { r with p := cellWrite r.p i (BitVec.ofNat 32 (a % 65536 + 65536 * (space % 4))) }

/-- `q` after the single correction of R320, or none where it leaves the buffer. -/
def circular (b l : Nat) (q : Int) : Option Nat :=
  if l = 0 then some (q % 65536).toNat
  else
    let c := if (b + l : Int) ≤ q then q - l else if q < b then q + l else q
    if c < b ∨ (b + l : Int) ≤ c then none else some c.toNat

/-- The address a pointer reaches by `m`. -/
def LaneRegs.reach (r : LaneRegs) (i : Nat) (m : Int) : Option Nat :=
  circular (cellRead r.b i).toNat (cellRead r.l i).toNat (r.addr i + m)

/-! ### Memory (Table 10.1) -/

def spX : Nat := 0
def spY : Nat := 1
def spP : Nat := 2

/-- What lane code may do at an address: nothing, read words that other blocks wrote, or read and write. -/
inductive Region where
  | unmapped | foreign | own
  deriving DecidableEq

/-- Table 10.1 for data; `user` while the user stage runs (R325), `rep` under an RPT (R307). -/
def region (user rep : Bool) (space a : Nat) : Region :=
  if space = spX then
    if 0xB000 ≤ a ∧ a ≤ 0xBFFF then .own
    else if user then .unmapped
    else if a ≤ 0x03FF then .own
    else if a ≤ 0x0BFF then .foreign
    else if a ≤ 0x3BFF then .own
    else if a ≤ 0x5BFF then .foreign
    else if a ≤ 0xAFFF then .own
    else if a ≤ 0xCFFF then .foreign
    else .unmapped
  else if space = spY then
    if 0xB000 ≤ a ∧ a ≤ 0xBFFF then .own
    else if user then .unmapped
    else if a ≤ 0xA7FF then .foreign
    else if a ≤ 0xAFFF then .own
    else if a ≤ 0xDFFF then .foreign
    else .unmapped
  else if space = spP then (if rep ∧ 0x6000 ≤ a ∧ a ≤ 0x7FFF then .own else .unmapped)
  else .unmapped

def PairSt.mem (x : PairSt) (space : Nat) : Cells 32 :=
  if space = spX then x.xMem else if space = spY then x.yMem else x.pMem

/-- The word that another block has left at an address of pair `p` (R301, R302). -/
def PairSt.extWord (x : PairSt) (p space a : Nat) : Word :=
  let cfg := fun (slot off : Nat) => let o := tblGet (0, p, slot) x.ext.cfg slot
    Config.regionWord o.1 o.2.1 (if space = spX then 0x3C00 + 128 * o.2.2 + off else 65536 + 672 * o.2.2 + off)
  if space = spX then
    if a ≤ 0x0BFF then Config.regionWord x.ext.intake p a
    else if a ≤ 0x5BFF then cfg ((a - 0x3C00) / 128) ((a - 0x3C00) % 128)
    else if a ≤ 0xC7FF then Config.regionWord x.ext.viewM p a
    else Config.regionWord x.ext.viewW p a
  else if a ≤ 0xA7FF then cfg (a / 672) (a % 672)
  else Config.regionWord x.ext.shadow p (65536 + a)

/-- The context of an instruction: pair number, registers before it, and whether it is being repeated. -/
structure LCtx where
  pair : Nat
  rd : LaneRegs
  rep : Bool
  deriving DecidableEq, Repr

/-- One word read: the old content where the instruction before stored to it (R348). -/
def loadWord (c : LCtx) (space a : Nat) (x : PairSt) : Except LaneFault (Word × PairSt) :=
  match region c.rd.user c.rep space a with
  | .unmapped => .error .addr
  | .foreign => .ok (x.extWord c.pair space a, x)
  | .own =>
    match c.rd.shadow.find? fun e => e.1 = space && e.2.1 = a with
    | some e => .ok (e.2.2, x)
    | none => .ok (cellRead (x.mem space) a, x)

/-- One word written. -/
def storeWord (c : LCtx) (space a : Nat) (v : Word) (x : PairSt) : LRes :=
  if space = spP ∨ region c.rd.user false space a ≠ .own then .error .addr
  else
    let y := { x with regs := { x.regs with shadow := (space, a, cellRead (x.mem space) a) :: x.regs.shadow } }
    .ok (if space = spX then { y with xMem := cellWrite y.xMem a v } else { y with yMem := cellWrite y.yMem a v })

/-! ### Descriptors (Tables 11.2, 11.2a) -/

/-- Constant k of a post-modify field. -/
def postK (k : Nat) : Int := if k < 4 then (k : Int) - 4 else (k : Int) - 3

/-- Space and address of an access, and the pair with its pointer moved. -/
def descAccess (c : LCtx) (d : Desc) (x : PairSt) : Except LaneFault (Nat × Nat × PairSt) :=
  let i := d.ptr.val
  let sp := c.rd.space i
  let move := fun (m : Int) => match c.rd.reach i m with
    | some q => .ok (sp, c.rd.addr i, { x with regs := x.regs.setAddr i q sp })
    | none => .error .addr
  match d.mode with
  | .plain => .ok (sp, c.rd.addr i, x)
  | .postMod m => move (cellRead c.rd.m m.val).toInt
  | .postConst k => move (postK k.val)
  | .offset k => match c.rd.reach i k.val with
    | some q => .ok (sp, q, x)
    | none => .error .addr

/-- A 32-bit operand: its value and the bus it uses. -/
def operand32 (c : LCtx) (o : MOperand) (x : PairSt) : Except LaneFault (Int × Option Nat × PairSt) :=
  match o with
  | .reg r => .ok (c.rd.ds r.val, none, x)
  | .mem d =>
    match descAccess c d x with
    | .error e => .error e
    | .ok (sp, a, y) =>
      match loadWord c sp a y with
      | .error e => .error e
      | .ok (v, z) => .ok (v.toInt, some sp, z)

/-- Two words at an even address, outside P (R306, R342). -/
def load64 (c : LCtx) (sp a : Nat) (x : PairSt) : Except LaneFault (Word × Word × PairSt) :=
  if sp = spP ∨ a % 2 = 1 then .error .addr
  else
    match loadWord c sp a x with
    | .error e => .error e
    | .ok (v, y) =>
      match loadWord c sp (a + 1) y with
      | .error e => .error e
      | .ok (w, z) => .ok (v, w, z)

/-- A complex operand: real and imaginary part, the bus, the pair (R343). -/
def operandC (c : LCtx) (o : MOperand) (x : PairSt) : Except LaneFault (Int × Int × Option Nat × PairSt) :=
  match o with
  | .reg r => if r.val % 2 = 1 then .error .undef else .ok (c.rd.ds r.val, c.rd.ds (r.val + 1), none, x)
  | .mem d =>
    match descAccess c d x with
    | .error e => .error e
    | .ok (sp, a, y) =>
      match load64 c sp a y with
      | .error e => .error e
      | .ok (v, w, z) => .ok (v.toInt, w.toInt, some sp, z)

/-- No bus carries two accesses (R342). -/
def busesOk (l : List (Option Nat)) : Bool :=
  let u := l.filterMap id
  u.length = (dedup (sortNat u)).length

def isMem : MOperand → Bool
  | .reg _ => false
  | .mem _ => true

/-! ### Control registers (R345) -/

/-- The value MVD reads. -/
def LaneRegs.readCr (r : LaneRegs) (c : CtrlReg) : Word :=
  match c with
  | .p i => cellRead r.p i.val
  | .m i => cellRead r.m i.val
  | .b i => (cellRead r.b i.val).setWidth 32
  | .l i => (cellRead r.l i.val).setWidth 32
  | .lc => r.lc.setWidth 32
  | .mode => r.mode
  | .flags => r.flags
  | .bexp => r.bexp

/-- The write of a control register by MVC; LDC gives it the extended immediate. -/
def LaneRegs.writeCr (r : LaneRegs) (c : CtrlReg) (v : Word) : LaneRegs :=
  match c with
  | .p i => { r with p := cellWrite r.p i.val (v &&& 0x3FFFF) }
  | .m i => { r with m := cellWrite r.m i.val v }
  | .b i => { r with b := cellWrite r.b i.val (v.setWidth 16) }
  | .l i => { r with l := cellWrite r.l i.val (v.setWidth 16) }
  | .lc => r
  | .mode => { r with mode := (r.mode &&& ~~~(0x6 : Word)) ||| (v &&& 0x6) }
  | .flags => { r with flags := (r.flags &&& 0x1F0 &&& ~~~(v &&& 0xF0)) ||| (v &&& 0xF) }
  | .bexp => { r with bexp := if 16 < v.toNat then 16 else v }

/-- Values that reach their registers after one more instruction (R316). -/
def LaneRegs.commitPend (r : LaneRegs) : LaneRegs :=
  let t := { r with pendD := [], pendC := [], shadow := [] }
  let t := r.pendD.foldl (fun t e => { t with d := cellWrite t.d e.1 e.2 }) t
  r.pendC.foldl (fun t e => t.writeCr e.1 e.2) t

def PairSt.modRegs (x : PairSt) (f : LaneRegs → LaneRegs) : PairSt := { x with regs := f x.regs }

end Sys2Proof.Machine
end

