-- ==== Sys2Proof/Machine/LaneFns.lean ====
section
/-!
DEFINITION. What each lane instruction does to the registers and memory of its pair (R310 to R316, R341 to R347, R350):
one function per operation, shared by the instruction's own row and by the user stage that reads the instruction from P.
-/
namespace Sys2Proof.Machine

/-- An instruction as the pipeline runs it: its parcels, its cycles, whether it is a flow instruction, its effect. -/
structure LaneFn where
  size : Nat := 1
  cycles : Nat := 1
  flow : Bool := false
  eff : LCtx → PairSt → LRes

/-- An effect on the registers alone; `rd` are the registers that the instruction reads. -/
def regFn (f : LaneRegs → LaneRegs → LaneRegs) : LaneFn := { eff := fun c x => .ok (x.modRegs (f c.rd)) }

def undefFn : LaneFn := { eff := fun _ _ => .error .undef }

/-- `ok` must hold, else the instruction is undefined (R350). -/
def guardFn (ok : Bool) (f : LaneFn) : LaneFn := if ok then f else { f with eff := undefFn.eff }

/-- The even register that names a pair (R340). -/
def evenReg (r : Fin 16) : Bool := r.val % 2 = 0

/-! ### The ALU formats -/

/-- A signed 32-bit result with flag code A. -/
def LaneRegs.putA (r : LaneRegs) (s : Bool) (rd : Nat) (v : Int) : LaneRegs :=
  (r.setD rd (store (r.sat s) 32 v)).codeA (r.sat s) 32 v

/-- A bitwise or selected result with flag code L. -/
def LaneRegs.putL (r : LaneRegs) (rd : Nat) (v : Int) : LaneRegs := (r.setD rd v).codeL v

/-- `a + b` with its carry, `a`, `b` as words. -/
def addFn (s : Bool) (rd : Nat) (a b : LaneRegs → Word) : LaneFn :=
  regFn fun r w => (w.putA s rd ((a r).toInt + (b r).toInt)).codeC (decide (2 ^ 32 ≤ (a r).toNat + (b r).toNat))

def subFn (s : Bool) (rd : Nat) (a b : LaneRegs → Word) : LaneFn :=
  regFn fun r w => (w.putA s rd ((a r).toInt - (b r).toInt)).codeC (decide ((a r).toNat < (b r).toNat))

/-- 64-bit add and subtract on pairs. -/
def add64Fn (sub s : Bool) (rd rs rt : Fin 16) : LaneFn :=
  guardFn (evenReg rd && evenReg rs && evenReg rt) <| regFn fun r w =>
    let a := r.d64 rs.val
    let b := r.d64 rt.val
    let v := if sub then a - b else a + b
    let ua := uns 64 a
    let ub := uns 64 b
    let c := if sub then decide (ua < ub) else decide (2 ^ 64 ≤ ua + ub)
    let sat := w.sat s
    ((w.setD64 rd.val (store sat 64 v)).codeA sat 64 v).codeC c

/-- A result of two words with flag code L. -/
def logicFn (rd : Nat) (f : LaneRegs → Word) : LaneFn := regFn fun r w => w.putL rd (f r).toInt

/-- Flags of a difference; nothing written. -/
def cmpFn (a b : LaneRegs → Word) : LaneFn :=
  regFn fun r w => w.codeF ((a r).toInt - (b r).toInt) (decide ((a r).toNat < (b r).toNat))

/-- Arithmetic shift by a signed count, left positive (R344); a left shift by 32 or more gives 0. -/
def ashVal (v n : Int) : Int :=
  if 32 ≤ n then 0 else if 0 ≤ n then v * 2 ^ n.toNat else v / 2 ^ (Nat.min n.natAbs 32)

/-- Logical shift by a signed count. -/
def lshVal (v : Word) (n : Int) : Word :=
  if 32 ≤ n ∨ n ≤ -32 then 0 else if 0 ≤ n then v <<< n.toNat else v >>> n.natAbs

def ashFn (s : Bool) (rd rs : Nat) (n : LaneRegs → Int) : LaneFn :=
  regFn fun r w => w.putA s rd (ashVal (r.ds rs) (n r))

def lshFn (rd rs : Nat) (n : LaneRegs → Int) : LaneFn := regFn fun r w => w.putL rd (lshVal (r.dr rs) (n r)).toInt

def clipFn (rd rs rt : Nat) : LaneFn :=
  regFn fun r w =>
    let b : Int := (r.ds rt).natAbs
    let v := clampI (-b) b (r.ds rs)
    (w.setD rd v).codeK v (decide (v ≠ r.ds rs))

/-- MPYR: the high word of the product. -/
def mpyrFn (s : Bool) (rd rs rt : Nat) : LaneFn :=
  regFn fun r w =>
    let p := r.ds rs * r.ds rt
    w.putA s rd (roundAt r.trunc (if r.frac then 2 * p else p) 32)

/-! ### Immediates (R344) -/

/-- Parcels of an immediate form. -/
def immSize : LImm → Nat
  | .short _ => 1
  | .long _ => 2

def immS : LImm → Word
  | .short v => v.signExtend 32
  | .long v => v

def immZ : LImm → Word
  | .short v => v.setWidth 32
  | .long v => v

def LaneFn.sized (f : LaneFn) (i : LImm) : LaneFn := { f with size := immSize i }

/-! ### The MAC formats (R310, R343) -/

/-- A product, shifted left by 1 under FRAC. -/
def LaneRegs.prod (r : LaneRegs) (p : Int) : Int := if r.frac then 2 * p else p

/-- The accumulation of a product under NEG and CLR. -/
def macSum (k : MacKind) (acc p : Int) : Int :=
  match k with
  | .mac => acc + p
  | .msu => acc - p
  | .mpy => p
  | .mpyn => -p

/-- A single MAC. -/
def macFn (k : MacKind) (s : Bool) (an : Fin 4) (ox oy : MOperand) : LaneFn :=
  { eff := fun c x =>
      match operand32 c ox x with
      | .error e => .error e
      | .ok (vx, bx, y) =>
        match operand32 c oy y with
        | .error e => .error e
        | .ok (vy, bY, z) =>
          if busesOk [bx, bY] then
            let v := macSum k (c.rd.ac an.val) (c.rd.prod (vx * vy))
            .ok (z.modRegs fun w => (w.setA an.val (store (w.sat s) 80 v)).codeM (w.sat s) v)
          else .error .addr }

/-- A complex or conjugate product. -/
def cmacFn (conj : Bool) (k : MacKind) (s : Bool) (an : Fin 4) (ox oy : MOperand) : LaneFn :=
  guardFn (an.val % 2 = 0)
    { cycles := if isMem ox || isMem oy then 2 else 1
      eff := fun c x =>
        match operandC c ox x with
        | .error e => .error e
        | .ok (xr, xi, bx, y) =>
          match operandC c oy y with
          | .error e => .error e
          | .ok (yr, yi, bY, z) =>
            if busesOk [bx, bY] then
              let g := if conj then -1 else 1
              let v := macSum k (c.rd.ac an.val) (c.rd.prod (xr * yr - g * xi * yi))
              let u := macSum k (c.rd.ac (an.val + 1)) (c.rd.prod (g * xr * yi + xi * yr))
              .ok (z.modRegs fun w =>
                ((w.setA an.val (store (w.sat s) 80 v)).setA (an.val + 1) (store (w.sat s) 80 u)).codeM2 (w.sat s) v u)
            else .error .addr }

/-- A dual MAC. -/
def dmacFn (s : Bool) (k1 : MacKind) (a1 : Fin 4) (x1 y1 : MOperand) (k2 : MacKind) (a2 : Fin 4) (x2 y2 : MOperand) :
    LaneFn :=
  guardFn (a1 ≠ a2)
    { size := 2
      eff := fun c x =>
        match operand32 c x1 x with
        | .error e => .error e
        | .ok (v1, b1, p1) =>
          match operand32 c y1 p1 with
          | .error e => .error e
          | .ok (w1, c1, p2) =>
            match operand32 c x2 p2 with
            | .error e => .error e
            | .ok (v2, b2, p3) =>
              match operand32 c y2 p3 with
              | .error e => .error e
              | .ok (w2, c2, p4) =>
                if busesOk [b1, c1, b2, c2] then
                  let v := macSum k1 (c.rd.ac a1.val) (c.rd.prod (v1 * w1))
                  let u := macSum k2 (c.rd.ac a2.val) (c.rd.prod (v2 * w2))
                  .ok (p4.modRegs fun w =>
                    ((w.setA a1.val (store (w.sat s) 80 v)).setA a2.val (store (w.sat s) 80 u)).codeM2 (w.sat s) v u)
                else .error .addr }

/-! ### The ACC format (R311, R313) -/

/-- Result of an accumulator operation with flag code M. -/
def LaneRegs.putM (r : LaneRegs) (s : Bool) (an : Nat) (v : Int) : LaneRegs :=
  (r.setA an (store (r.sat s) 80 v)).codeM (r.sat s) v

def accFn (s : Bool) (an : Nat) (f : LaneRegs → Int) : LaneFn := regFn fun r w => w.putM s an (f r)

/-- The value that a move reads: `n` is 32 where it rounds at bit 32, 0 for a 64-bit move. -/
def moveVal (r : LaneRegs) (v : Int) (n sh : Nat) : Int := roundAt r.trunc v (n + sh)

/-- The least shift from 0 to 16 at which the value fits, 16 where none does. -/
def scaleFor (r : LaneRegs) (v : Int) (n w : Nat) : Nat :=
  ((upTo 17).find? fun k => fits w (moveVal r v n k)).getD 16

/-- A write that takes effect after the next instruction; FLAGS takes its value at once (R316). -/
def LaneRegs.control (r : LaneRegs) (cr : CtrlReg) (v : Word) : LaneRegs :=
  match cr with
  | .flags => r.writeCr .flags v
  | _ => { r with pendC := r.pendC ++ [(cr, v)] }

/-- An accumulator-to-register move: `w` bits, rounded at bit `n`; BEXP takes its value behind the next instruction (R316). -/
def moveFn (s : Bool) (n w : Nat) (put : LaneRegs → Int → LaneRegs) (an : Nat) : LaneFn :=
  regFn fun r t =>
    if t.asc then
      let sh := Nat.max (scaleFor r (r.ac an) n w) (r.bexp.toNat % 32)
      let v := satS w (moveVal r (r.ac an) n sh)
      let u := put t v
      (u.stick flSC (decide (0 < sh))).control .bexp (BitVec.ofNat 32 sh)
    else
      let v := moveVal r (r.ac an) n 0
      (put t (store s w v)).codeA s w v

def mvadFn (s : Bool) (d an : Nat) : LaneFn := moveFn s 32 32 (fun r v => r.setD d v) an

def mvad64Fn (s : Bool) (d : Fin 16) (an : Nat) : LaneFn :=
  guardFn (evenReg d) (moveFn s 0 64 (fun r v => r.setD64 d.val v) an)

/-- SHA: left for a positive count; right shifts round under RND. -/
def shaVal (r : LaneRegs) (v n : Int) : Int := if 0 ≤ n then v * 2 ^ n.toNat else roundAt r.trunc v n.natAbs

def rndaVal (r : LaneRegs) (v : Int) : Int := roundAt r.trunc v 32 * 2 ^ 32

/-! ### Loads and stores -/

/-- A loaded value reaches its register after the next instruction (R316). -/
def LaneRegs.pend (r : LaneRegs) (l : List (Nat × Word)) : LaneRegs := { r with pendD := r.pendD ++ l }

def ldFn (d : Nat) (e : Desc) : LaneFn :=
  { eff := fun c x =>
      match descAccess c e x with
      | .error f => .error f
      | .ok (sp, a, y) =>
        match loadWord c sp a y with
        | .error f => .error f
        | .ok (v, z) => .ok (z.modRegs fun w => w.pend [(d, v)]) }

def stFn (d : Nat) (e : Desc) : LaneFn :=
  { eff := fun c x =>
      match descAccess c e x with
      | .error f => .error f
      | .ok (sp, a, y) => storeWord c sp a (c.rd.dr d) y }

def ld64Fn (d : Fin 16) (e : Desc) : LaneFn :=
  guardFn (evenReg d)
    { cycles := 2
      eff := fun c x =>
        match descAccess c e x with
        | .error f => .error f
        | .ok (sp, a, y) =>
          match load64 c sp a y with
          | .error f => .error f
          | .ok (v, u, z) => .ok (z.modRegs fun w => w.pend [(d.val, v), (d.val + 1, u)]) }

def st64Fn (d : Fin 16) (e : Desc) : LaneFn :=
  guardFn (evenReg d)
    { cycles := 2
      eff := fun c x =>
        match descAccess c e x with
        | .error f => .error f
        | .ok (sp, a, y) =>
          if sp = spP ∨ a % 2 = 1 then .error .addr
          else
            match storeWord c sp a (c.rd.dr d.val) y with
            | .error f => .error f
            | .ok z => storeWord c sp (a + 1) (c.rd.dr (d.val + 1)) z }

/-- Two loads on two buses. -/
def pldFn (d1 : Fin 16) (e1 : Desc) (d2 : Fin 16) (e2 : Desc) : LaneFn :=
  guardFn (d1 ≠ d2)
    { eff := fun c x =>
        match descAccess c e1 x with
        | .error f => .error f
        | .ok (s1, a1, y) =>
          match loadWord c s1 a1 y with
          | .error f => .error f
          | .ok (v1, z) =>
            match descAccess c e2 z with
            | .error f => .error f
            | .ok (s2, a2, u) =>
              match loadWord c s2 a2 u with
              | .error f => .error f
              | .ok (v2, t) =>
                if s1 = s2 then .error .addr else .ok (t.modRegs fun w => w.pend [(d1.val, v1), (d2.val, v2)]) }

/-! ### Control registers (R345) -/

def mvcFn (cr : CtrlReg) (d : Nat) : LaneFn := regFn fun r w => w.control cr (r.dr d)

def mvdFn (d : Nat) (cr : CtrlReg) : LaneFn := regFn fun r w => { w with d := cellWrite w.d d (r.readCr cr) }

/-- LDC: a pointer takes ADDR with SPACE X, a modifier the sign-extended immediate. -/
def ldcVal (cr : CtrlReg) (imm : Word16) : Word :=
  match cr with
  | .m _ => imm.signExtend 32
  | _ => imm.setWidth 32

def ldcFn (cr : CtrlReg) (imm : Word16) : LaneFn := regFn fun _ w => w.control cr (ldcVal cr imm)

/-- LDCY and LDCP. -/
def ldcpFn (i : Fin 8) (space : Nat) (imm : Word16) : LaneFn :=
  regFn fun _ w => w.control (.p i) (BitVec.ofNat 32 (imm.toNat + 65536 * space))

/-- A post-modify with no access; the pointer is forwarded at once (R314). -/
def modFn (i : Fin 8) (m : LaneRegs → Int) : LaneFn :=
  { eff := fun c x => match c.rd.reach i.val (m c.rd) with
      | some q => .ok (x.modRegs fun w => w.setAddr i.val q (c.rd.space i.val))
      | none => .error .addr }

/-! ### Flow (R315, R347, R349) -/

/-- Entries of the return stack. -/
def stackDepth : Nat := 8

def brFn (c : Cond) (target : Word16) : LaneFn :=
  { flow := true
    eff := fun k x => .ok (x.modRegs fun w =>
      { w with target := if k.rd.holds c then some target.toNat else none, call := false, viaRet := false }) }

def callFn (c : Cond) (target : Word16) : LaneFn :=
  { flow := true
    eff := fun k x =>
      if k.rd.holds c then
        (if stackDepth ≤ k.rd.stack.length then .error .undef
         else .ok (x.modRegs fun w => { w with target := some target.toNat, call := true, viaRet := false }))
      else .ok (x.modRegs fun w => { w with target := none, call := false, viaRet := false }) }

def retFn (c : Cond) : LaneFn :=
  { flow := true
    eff := fun k x =>
      if k.rd.holds c then
        match k.rd.stack with
        | [] => .error .undef
        | a :: r => .ok (x.modRegs fun w => { w with target := some a, stack := r, call := false, viaRet := true })
      else .ok (x.modRegs fun w => { w with target := none, call := false, viaRet := false }) }

def rptFn (n : BitVec 11) : LaneFn :=
  guardFn (1 ≤ n.toNat && decide (n.toNat ≤ 1024))
    { eff := fun _ x => .ok (x.modRegs fun w => { w with rpt := some n.toNat }) }

/-- WAIT halts issue; in the user stage it is a user fault (R347). -/
def waitFn : LaneFn :=
  { eff := fun c x => if c.rd.user then .error .undef else .ok (x.modRegs fun w => { w with waiting := true }) }

def nopFn : LaneFn := regFn fun _ w => w

/-! ### Issue: repeats, delay slots, hold-off (R308, R315, R319, R349) -/

/-- Size of the repeat cache. -/
def cacheSize : Nat := 16

/-- One instruction of pair `n`, which reads LC as `lc`: the values in flight reach their registers behind it. -/
def laneOnce (n : Nat) (rep : Bool) (f : LaneFn) (lc : BitVec 11) (x : PairSt) : LRes :=
  f.eff { pair := n, rd := { x.regs with lc := lc }, rep := rep } (x.modRegs LaneRegs.commitPend)

/-- The repetitions that `k` leaves, and the fault that ends them early; LC counts down. The first repetition still reads
the LC of before RPT (R316); what the repetitions before a fault have written stands (R326). -/
def laneRepeat (n : Nat) (f : LaneFn) : Nat → BitVec 11 → PairSt → PairSt × Option LaneFault
  | 0, _, x => (x, none)
  | k + 1, lc, x =>
    match laneOnce n true f lc x with
    | .error e => (x, some e)
    | .ok y => laneRepeat n f k (BitVec.ofNat 11 k) (y.modRegs fun w => { w with lc := BitVec.ofNat 11 k })

/-- The program counter, the delay slots and the held boundaries after an instruction that took `cyc` cycles. -/
def LaneRegs.advance (r : LaneRegs) (f : LaneFn) (repeated : Bool) (cyc : Nat) : LaneRegs :=
  let next := r.pc + f.size
  let r := { r with
    cycles := r.cycles + cyc, held := if f.flow then 3 else r.held - 1
    heldCyc := if repeated then 2 else r.heldCyc - cyc }
  if f.flow then { r with pc := next, delay := 2 }
  else if r.delay = 1 then
    match r.target with
    | some a => { r with pc := a, delay := 0, target := none, call := false,
                         stack := if r.call then next :: r.stack else r.stack }
    | none => { r with pc := next, delay := 0, viaRet := false }
  else { r with pc := next, delay := r.delay - 1, viaRet := r.viaRet && r.delay ≠ 0 }

/-- Fetch rules: P ends at 0x7FFF (R301); a 64-bit instruction begins at an even parcel (R339); the user stage fetches from
its region (R325). -/
def fetchFault (r : LaneRegs) (f : LaneFn) : Option LaneFault :=
  if 0x8000 < r.pc + f.size then some .addr
  else if r.user ∧ ¬(0x6000 ≤ r.pc) then some .addr
  else if f.size = 2 ∧ r.pc % 2 = 1 then some .undef
  else none

/-- The pair as the repetitions of an RPT of `k` begin: the instruction is entered in the repeat cache (R308, R349). -/
def PairSt.repeats (x : PairSt) (k : Nat) : PairSt :=
  x.modRegs fun w =>
    LaneRegs.setFlag { w with rpt := none, lc := BitVec.ofNat 11 k,
                              cache := (w.pc :: w.cache.filter (· ≠ w.pc)).take cacheSize } flRPT true

/-- An instruction issues on a pair: the pair behind it, and the fault it meets. Of a faulting instruction only the
repetitions before the fault have written (R326). -/
def laneRun (n : Nat) (f : LaneFn) (x : PairSt) : PairSt × Option LaneFault :=
  match fetchFault x.regs f with
  | some e => (x, some e)
  | none =>
    match x.regs.rpt with
    | none =>
      match laneOnce n false f x.regs.lc x with
      | .error e => (x, some e)
      | .ok y => (y.modRegs fun w => w.advance f false f.cycles, none)
    | some k =>
      match laneRepeat n f k x.regs.lc (x.repeats k) with
      | (y, some e) => (y.modRegs fun w => w.setFlag flRPT false, some e)
      | (y, none) => (y.modRegs fun w =>
          (w.setFlag flRPT false).advance f true ((if x.regs.cache.contains x.regs.pc then 1 else 3) + k * f.cycles), none)

/-- The pair after an instruction that issues without a fault. -/
def laneIssue (n : Nat) (f : LaneFn) (x : PairSt) : LRes :=
  match laneRun n f x with
  | (y, none) => .ok y
  | (_, some e) => .error e

end Sys2Proof.Machine
end

