-- ==== Sys2Proof/Machine/LaneDecode.lean ====
section
/-!
DEFINITION. The instruction words of lane code (R339 to R345, R350): the fields of Table 11.1, the instruction that one
or two parcels spell, and the function that each instruction performs.
-/
namespace Sys2Proof.Machine

/-- A field of a parcel as a bounded number. -/
def f4 (w lo : Nat) : Fin 16 := ⟨w / 2 ^ lo % 16, Nat.mod_lt _ (by decide)⟩
def f3 (w lo : Nat) : Fin 8 := ⟨w / 2 ^ lo % 8, Nat.mod_lt _ (by decide)⟩
def f2 (w lo : Nat) : Fin 4 := ⟨w / 2 ^ lo % 4, Nat.mod_lt _ (by decide)⟩

/-- A memory descriptor (Tables 11.2, 11.2a). -/
def decodeDesc (v : Nat) : Option Desc :=
  let i := f3 v 3
  let k := f3 v 0
  match v / 64 % 4 with
  | 0 => if k = 0 then some { ptr := i, mode := .plain } else none
  | 1 => some { ptr := i, mode := .postMod k }
  | 2 => some { ptr := i, mode := .postConst k }
  | _ => some { ptr := i, mode := .offset k }

/-- A multiplicand: the M bit and its field (R341). -/
def decodeOperand (m : Bool) (v : Nat) : Option MOperand :=
  if m then (decodeDesc v).map .mem
  else if v % 256 / 16 = 0 then some (.reg (f4 v 0)) else none

/-- CR codes (Table 11.3a). -/
def decodeCr (v : Nat) : Option CtrlReg :=
  if v < 8 then some (.p (f3 v 0))
  else if v < 16 then some (.m (f3 v 0))
  else if v < 24 then some (.b (f3 v 0))
  else if v < 32 then some (.l (f3 v 0))
  else if v = 0x20 then some .lc
  else if v = 0x21 then some .mode
  else if v = 0x22 then some .flags
  else if v = 0x23 then some .bexp
  else none

/-- Condition codes (Table 11.5). -/
def decodeCond (v : Nat) : Option Cond :=
  match v with
  | 0 => some .always | 1 => some .eq | 2 => some .ne | 3 => some .lt | 4 => some .ge | 5 => some .gt | 6 => some .le
  | 7 => some .mi | 8 => some .pl | 9 => some .vs | 10 => some .vc | 11 => some .cs | 12 => some .cc
  | _ => none

/-- Class 0x0. -/
def decodeAlu (p : Fin 17) (w : Nat) : Option Instr :=
  let s := bitN w 27
  let rd := f4 w 18
  let rs := f4 w 14
  let rt := f4 w 10
  let one := fun (i : Instr) => if rt = 0 then some i else none
  let none2 := fun (i : Instr) => if rd = 0 then some i else none
  if w % 1024 ≠ 0 then none
  else match field w 26 22 with
    | 0 => some (.add p s rd rs rt)
    | 1 => some (.sub p s rd rs rt)
    | 2 => some (.and p rd rs rt)
    | 3 => some (.or p rd rs rt)
    | 4 => some (.xor p rd rs rt)
    | 5 => some (.min p rd rs rt)
    | 6 => some (.max p rd rs rt)
    | 7 => one (.abs p s rd rs)
    | 8 => one (.neg p s rd rs)
    | 9 => some (.ash p s rd rs rt)
    | 10 => some (.lsh p rd rs rt)
    | 11 => none2 (.cmp p rs rt)
    | 12 => none2 (.tst p rs rt)
    | 13 => one (.mov p rd rs)
    | 14 => some (.clip p rd rs rt)
    | 15 => some (.mpyr p s rd rs rt)
    | 16 => some (.add64 p s rd rs rt)
    | 17 => some (.sub64 p s rd rs rt)
    | _ => none

/-- Classes 0x1 and 0x8; the immediate is given. -/
def decodeAlui (p : Fin 17) (w : Nat) (imm : LImm) : Option Instr :=
  let s := bitN w 27
  let rd := f4 w 20
  let rs := f4 w 16
  match field w 26 24, imm with
  | 0, _ => some (.addi p s rd rs imm)
  | 1, _ => some (.andi p rd rs imm)
  | 2, _ => some (.ori p rd rs imm)
  | 3, _ => some (.xori p rd rs imm)
  | 4, _ => if rd = 0 then some (.cmpi p rs imm) else none
  | 5, _ => if rs = 0 then some (.ldi p rd imm) else none
  | 6, .short n => some (.ashi p s rd rs n)
  | 7, .short n => some (.lshi p rd rs n)
  | _, _ => none

def macKindOf (neg clr : Bool) : MacKind :=
  match neg, clr with
  | false, false => .mac
  | true, false => .msu
  | false, true => .mpy
  | true, true => .mpyn

/-- Class 0x2. -/
def decodeMac (p : Fin 17) (w : Nat) : Option Instr :=
  let s := bitN w 27
  let an := f2 w 21
  if w % 8 ≠ 0 then none
  else match decodeOperand (bitN w 20) (field w 19 12), decodeOperand (bitN w 11) (field w 10 3) with
    | some x, some y =>
      match field w 26 25, macKindOf (bitN w 24) (bitN w 23) with
      | 0, .mac => some (.mac p s an x y)
      | 0, .msu => some (.msu p s an x y)
      | 0, .mpy => some (.mpy p s an x y)
      | 0, .mpyn => some (.mpyn p s an x y)
      | 1, .mac => some (.cmac p s an x y)
      | 1, .msu => some (.cmsu p s an x y)
      | 1, .mpy => some (.cmpy p s an x y)
      | 1, .mpyn => some (.cmpyn p s an x y)
      | 2, .mac => some (.cmacc p s an x y)
      | 2, .msu => some (.cmsuc p s an x y)
      | 2, .mpy => some (.cmpyc p s an x y)
      | 2, .mpyn => some (.cmpync p s an x y)
      | _, _ => none
    | _, _ => none

/-- Class 0x3: the fields an operation does not use hold 0. -/
def decodeAcc (p : Fin 17) (w : Nat) : Option Instr :=
  let s := bitN w 27
  let an := f2 w 21
  let am := f2 w 19
  let d := f4 w 15
  let sh := field w 14 9
  let use := fun (useM useD useS : Bool) (i : Instr) =>
    if (useM || am = 0) && (useD || d = 0) && (useS || sh = 0) then some i else none
  if w % 512 ≠ 0 then none
  else match field w 26 23 with
    | 0 => use false true false (.mvad p s d an)
    | 1 => use false true false (.mvad64 p s d an)
    | 2 => use false true false (.mvda p an d)
    | 3 => use false false false (.clra p an)
    | 4 => use true false false (.adda p s an am)
    | 5 => use true false false (.suba p s an am)
    | 6 => use true false false (.mvaa p an am)
    | 7 => use false false false (.nega p s an)
    | 8 => use false false false (.absa p s an)
    | 9 => use false false true (.sha p s an (BitVec.ofNat 6 sh))
    | 10 => use false false false (.rnda p s an)
    | _ => none

/-- Class 0x4. -/
def decodeLdst (p : Fin 17) (w : Nat) : Option Instr :=
  let d := f4 w 22
  if w % 2 ^ 14 ≠ 0 then none
  else (decodeDesc (field w 21 14)).map fun e =>
    match bitN w 27, bitN w 26 with
    | false, false => .ld p d e
    | true, false => .st p d e
    | false, true => .ld64 p d e
    | true, true => .st64 p d e

/-- Class 0x5. -/
def decodeCtrl (p : Fin 17) (w : Nat) : Option Instr :=
  let imm := BitVec.ofNat 16 w
  let low16 := w / 2 ^ 16 % 2 = 0
  match field w 27 24, decodeCr (field w 23 17) with
  | 0, some cr => if w % 2 ^ 13 = 0 then some (.mvc p cr (f4 w 13)) else none
  | 1, some cr => if w % 2 ^ 13 = 0 then some (.mvd p (f4 w 13) cr) else none
  | 2, some cr => if low16 then some (.ldc p cr imm) else none
  | 3, some (.p i) => if low16 then some (.ldcy p i imm) else none
  | 4, some (.p i) => if low16 then some (.ldcp p i imm) else none
  | 5, some (.p i) => if w % 2 ^ 14 = 0 then some (.modp p i (f3 w 14)) else none
  | 6, some (.p i) => if low16 then some (.modi p i imm) else none
  | _, _ => none

/-- Class 0x6. -/
def decodeFlow (p : Fin 17) (w : Nat) : Option Instr :=
  let t := BitVec.ofNat 16 w
  let c0 := field w 23 20 = 0
  if field w 19 16 ≠ 0 then none
  else match field w 27 24 with
    | 0 => (decodeCond (field w 23 20)).map fun c => .br p c t
    | 1 => (decodeCond (field w 23 20)).map fun c => .call p c t
    | 2 => if w % 2 ^ 16 = 0 then (decodeCond (field w 23 20)).map fun c => .ret p c else none
    | 3 => if c0 ∧ field w 15 11 = 0 then some (.rpt p (BitVec.ofNat 11 w)) else none
    | 4 => if c0 ∧ w % 2 ^ 16 = 0 then some (.wait p) else none
    | 5 => if c0 ∧ w % 2 ^ 16 = 0 then some (.nop p) else none
    | _ => none

/-- Class 0x7. -/
def decodePld (p : Fin 17) (w : Nat) : Option Instr :=
  if w % 16 ≠ 0 then none
  else match decodeDesc (field w 23 16), decodeDesc (field w 11 4) with
    | some a, some b => some (.pld p (f4 w 24) a (f4 w 12) b)
    | _, _ => none

/-- Class 0x9, two parcels. -/
def decodeDmac (p : Fin 17) (w v : Nat) : Option Instr :=
  if w % 32 ≠ 0 ∨ v % 256 ≠ 0 ∨ field v 31 30 ≠ 0 then none
  else match decodeOperand (bitN w 22) (field w 21 14), decodeOperand (bitN w 13) (field w 12 5),
      decodeOperand (bitN v 25) (field v 24 17), decodeOperand (bitN v 16) (field v 15 8) with
    | some x1, some y1, some x2, some y2 =>
      some (.dualMac p (bitN w 27) (macKindOf (bitN w 26) (bitN w 25)) (f2 w 23) x1 y1
        (macKindOf (bitN v 29) (bitN v 28)) (f2 v 26) x2 y2)
    | _, _, _, _ => none

/-- The instruction that a parcel and the one behind it spell; a reserved word spells an undefined instruction (R350). -/
def decodeLane (p : Fin 17) (w v : Nat) : Instr :=
  (match field w 31 28 with
   | 0 => decodeAlu p w
   | 1 => decodeAlui p w (.short (BitVec.ofNat 16 w))
   | 2 => decodeMac p w
   | 3 => decodeAcc p w
   | 4 => decodeLdst p w
   | 5 => decodeCtrl p w
   | 6 => decodeFlow p w
   | 7 => decodePld p w
   | 8 => if w % 2 ^ 16 = 0 then decodeAlui p w (.long (BitVec.ofNat 32 v)) else none
   | 9 => decodeDmac p w v
   | _ => none).getD (.undefinedInstruction p)

/-! ### What each instruction performs -/

/-- The function of a lane instruction; none for a command that is no lane instruction. -/
def laneFn (i : Instr) : Option LaneFn :=
  match i with
  | .add _ s rd rs rt => some (addFn s rd.val (fun r => r.dr rs.val) (fun r => r.dr rt.val))
  | .sub _ s rd rs rt => some (subFn s rd.val (fun r => r.dr rs.val) (fun r => r.dr rt.val))
  | .and _ rd rs rt => some (logicFn rd.val fun r => r.dr rs.val &&& r.dr rt.val)
  | .or _ rd rs rt => some (logicFn rd.val fun r => r.dr rs.val ||| r.dr rt.val)
  | .xor _ rd rs rt => some (logicFn rd.val fun r => r.dr rs.val ^^^ r.dr rt.val)
  | .min _ rd rs rt => some (regFn fun r w => w.putL rd.val (Min.min (r.ds rs.val) (r.ds rt.val)))
  | .max _ rd rs rt => some (regFn fun r w => w.putL rd.val (Max.max (r.ds rs.val) (r.ds rt.val)))
  | .abs _ s rd rs => some (regFn fun r w => w.putA s rd.val (r.ds rs.val).natAbs)
  | .neg _ s rd rs => some (regFn fun r w => w.putA s rd.val (-(r.ds rs.val)))
  | .ash _ s rd rs rt => some (ashFn s rd.val rs.val fun r => r.ds rt.val)
  | .lsh _ rd rs rt => some (lshFn rd.val rs.val fun r => r.ds rt.val)
  | .cmp _ rs rt => some (cmpFn (fun r => r.dr rs.val) fun r => r.dr rt.val)
  | .tst _ rs rt => some (regFn fun r w => w.codeL (r.dr rs.val &&& r.dr rt.val).toInt)
  | .mov _ rd rs => some (logicFn rd.val fun r => r.dr rs.val)
  | .clip _ rd rs rt => some (clipFn rd.val rs.val rt.val)
  | .mpyr _ s rd rs rt => some (mpyrFn s rd.val rs.val rt.val)
  | .add64 _ s rd rs rt => some (add64Fn false s rd rs rt)
  | .sub64 _ s rd rs rt => some (add64Fn true s rd rs rt)
  | .addi _ s rd rs imm => some ((addFn s rd.val (fun r => r.dr rs.val) fun _ => immS imm).sized imm)
  | .andi _ rd rs imm => some ((logicFn rd.val fun r => r.dr rs.val &&& immZ imm).sized imm)
  | .ori _ rd rs imm => some ((logicFn rd.val fun r => r.dr rs.val ||| immZ imm).sized imm)
  | .xori _ rd rs imm => some ((logicFn rd.val fun r => r.dr rs.val ^^^ immZ imm).sized imm)
  | .cmpi _ rs imm => some ((cmpFn (fun r => r.dr rs.val) fun _ => immS imm).sized imm)
  | .ldi _ rd imm => some ((regFn fun _ w => w.setD rd.val (immS imm).toInt).sized imm)
  | .ashi _ s rd rs n => some (ashFn s rd.val rs.val fun _ => n.toInt)
  | .lshi _ rd rs n => some (lshFn rd.val rs.val fun _ => n.toInt)
  | .mac _ s an x y => some (macFn .mac s an x y)
  | .msu _ s an x y => some (macFn .msu s an x y)
  | .mpy _ s an x y => some (macFn .mpy s an x y)
  | .mpyn _ s an x y => some (macFn .mpyn s an x y)
  | .cmac _ s an x y => some (cmacFn false .mac s an x y)
  | .cmsu _ s an x y => some (cmacFn false .msu s an x y)
  | .cmpy _ s an x y => some (cmacFn false .mpy s an x y)
  | .cmpyn _ s an x y => some (cmacFn false .mpyn s an x y)
  | .cmacc _ s an x y => some (cmacFn true .mac s an x y)
  | .cmsuc _ s an x y => some (cmacFn true .msu s an x y)
  | .cmpyc _ s an x y => some (cmacFn true .mpy s an x y)
  | .cmpync _ s an x y => some (cmacFn true .mpyn s an x y)
  | .dualMac _ s k1 a1 x1 y1 k2 a2 x2 y2 => some (dmacFn s k1 a1 x1 y1 k2 a2 x2 y2)
  | .mvad _ s d an => some (mvadFn s d.val an.val)
  | .mvad64 _ s d an => some (mvad64Fn s d an.val)
  | .mvda _ an d => some (regFn fun r w => (w.setA an.val (r.ds d.val * 2 ^ 32)).codeL (r.ds d.val))
  | .clra _ an => some (regFn fun _ w => w.setA an.val 0)
  | .adda _ s an am => some (accFn s an.val fun r => r.ac an.val + r.ac am.val)
  | .suba _ s an am => some (accFn s an.val fun r => r.ac an.val - r.ac am.val)
  | .mvaa _ an am => some (regFn fun r w => w.setA an.val (r.ac am.val))
  | .nega _ s an => some (accFn s an.val fun r => -(r.ac an.val))
  | .absa _ s an => some (accFn s an.val fun r => (r.ac an.val).natAbs)
  | .sha _ s an n => some (accFn s an.val fun r => shaVal r (r.ac an.val) n.toInt)
  | .rnda _ s an => some (accFn s an.val fun r => rndaVal r (r.ac an.val))
  | .ld _ d e => some (ldFn d.val e)
  | .st _ d e => some (stFn d.val e)
  | .ld64 _ d e => some (ld64Fn d e)
  | .st64 _ d e => some (st64Fn d e)
  | .pld _ d1 e1 d2 e2 => some (pldFn d1 e1 d2 e2)
  | .mvc _ cr d => some (mvcFn cr d.val)
  | .mvd _ d cr => some (mvdFn d.val cr)
  | .ldc _ cr imm => some (ldcFn cr imm)
  | .ldcy _ i imm => some (ldcpFn i spY imm)
  | .ldcp _ i imm => some (ldcpFn i spP imm)
  | .modp _ i m => some (modFn i fun r => (cellRead r.m m.val).toInt)
  | .modi _ i imm => some (modFn i fun _ => imm.toInt)
  | .br _ c t => some (brFn c t)
  | .call _ c t => some (callFn c t)
  | .ret _ c => some (retFn c)
  | .rpt _ n => some (rptFn n)
  | .wait _ => some waitFn
  | .nop _ => some nopFn
  | .undefinedInstruction _ => some undefFn
  | _ => none

/-! ### A stage of lane code read from P -/

/-- How a run of the user stage ends: it returned, it used its budget, or it met a fault at a parcel. -/
inductive StageEnd where
  | returned | budget | fault (cause : LaneFault) (pc : Nat)
  deriving DecidableEq, Repr

/-- No boundary of R319 holds an event back. -/
def LaneRegs.unheld (r : LaneRegs) : Bool := r.held = 0 && r.heldCyc = 0 && r.rpt.isNone

/-- The user stage of pair `p` from its program counter, `fuel` instructions at most, `budget` cycles (R325, R327). BUDGET is
taken at the first boundary that is not held (R319). -/
def runStage (p : Fin 17) (budget : Nat) : Nat → PairSt → PairSt × StageEnd
  | 0, x => (x, .budget)
  | k + 1, x =>
    if budget ≤ x.regs.cycles ∧ x.regs.unheld then (x, .budget)
    else
      let w := (cellRead x.pMem x.regs.pc).toNat
      let v := (cellRead x.pMem (x.regs.pc + 1)).toNat
      match laneRun p.val ((laneFn (decodeLane p w v)).getD undefFn) x with
      | (y, some e) => (y, .fault e x.regs.pc)
      | (y, none) =>
        if y.regs.viaRet ∧ y.regs.delay = 0 ∧ ¬(0x6000 ≤ y.regs.pc ∧ y.regs.pc < 0x8000) then (y, .returned)
        else runStage p budget k y

end Sys2Proof.Machine
end

