-- ==== Sys2Proof/Machine/LanePairs.lean ====
section
/-!
DEFINITION. Lane pairs and logical lanes: states (R304), slots and room (R300, R322, R473), failure (R332), takeover by
the reserve (R334, R335, R469), recovery (R336), the loss of a lane (R465 to R468), migration (R471, R472) and the
half-rate mode of an overrunning lane (R49 to R53).
-/
namespace Sys2Proof.Machine

/-! ### Pairs -/

def lpLoad : Nat := 0
def lpStart : Nat := 1
def lpRun : Nat := 2
def lpTest : Nat := 3
def lpRecover : Nat := 4
def lpRetired : Nat := 5

/-- The working states. -/
def PairSt.working (x : PairSt) : Bool := x.state = lpStart || x.state = lpRun || x.state = lpTest

/-- MODE with ASC and STATE of a state code (Table 10.5, R304). -/
def modeFor (mode : Word) (st : Nat) : Word :=
  setBit ((mode &&& ~~~(0x70 : Word)) ||| BitVec.ofNat 32 (st * 16)) 0 (st ≠ lpRun)

/-- A pair enters a state; leaving LOAD or RECOVER clears its registers and its repeat cache (R308, R309). -/
def PairSt.enter (x : PairSt) (st : Nat) : PairSt :=
  let fresh := x.state = lpLoad || x.state = lpRecover
  { x with
    state := st, events := if fresh then [] else x.events
    regs := if fresh then { mode := modeFor 0x5 st } else { x.regs with mode := modeFor x.regs.mode st } }

/-- The pair that serves a logical lane. -/
def State.pairOf (s : State) (l : Nat) : Option Nat :=
  pairNos.find? fun p => (s.pair p).lane = some l && (s.pair p).working

def State.served (s : State) (l : Nat) : Bool := (s.pairOf l).isSome

/-- A lane's pair has failed and the reserve, or the prepared placement, does not yet act. -/
def State.inTakeover (s : State) (l : Nat) : Bool := (s.logLane l).takeover.isSome

/-- The reserve in TEST that no takeover has claimed (R334). -/
def State.reserve (s : State) : Option Nat :=
  let claimed := s.lanes.log.filterMap fun e => e.2.takeover.bind fun t => t.pair
  pairNos.find? fun p => (s.pair p).reserve && (s.pair p).state = lpTest && !claimed.contains p

/-- The state that a pair takes with a lane: START while the device is in START (Table 10.2). -/
def State.laneState (s : State) : Nat := if s.power.phase = 3 then lpStart else lpRun

/-- A pair in TEST that serves no lane becomes the reserve; where there is one already it waits in TEST (R299, R336, log
entry 134). -/
def State.toReserve (s : State) (p : Nat) : State :=
  s.modPair p fun x => { (x.enter lpTest) with
    lane := none, reserve := !(pairNos.any fun q => q ≠ p && (s.pair q).reserve) }

/-- The lowest pair that waits in TEST becomes the reserve once there is none. -/
def State.nextReserve (s : State) : State :=
  if pairNos.any fun q => (s.pair q).reserve then s
  else match pairNos.find? fun q => (s.pair q).state = lpTest && (s.pair q).lane.isNone with
    | some q => s.modPair q fun x => { x with reserve := true }
    | none => s

/-- LANE_STATUS of a pair (Table 10.17). The Hamper used under R51, which the model calls lane 16, serves none of the logical
lanes 0 to 15 (log entry 135); ASC has no value in LOAD and RETIRED (Table 10.2), where it reads its reset value 0. -/
def State.laneStatus (s : State) (p : Nat) : Nat :=
  let x := s.pair p
  let named := x.lane.filter fun l => decide (l < 16)
  let axes := match x.lane with
    | some l => ((s.logLane l).slots.filter fun e => e.2.isSome).length
    | none => 0
  x.state % 8 + 8 * b2n x.reserve + 16 * b2n named.isSome + 32 * named.getD 0 +
  512 * b2n (x.regs.mode.getLsbD 0 && x.state ≠ lpLoad && x.state ≠ lpRetired) + 65536 * x.fails + 2 ^ 24 * axes

/-! ### Slots -/

/-- The occupied slots of a lane, ascending, with their axes. -/
def LogLane.held (x : LogLane) : List (Nat × Nat) := x.slots.filterMap fun e => e.2.map fun a => (e.1, a)

def LogLane.size (x : LogLane) : Nat := if x.wide then 64 else 32

def LogLane.freeSlots (x : LogLane) : List Nat :=
  (upTo x.size).filter fun k => (tblGet none x.slots k).isNone

def State.laneAxes (s : State) (l : Nat) : List Nat := (s.logLane l).held.map fun e => e.2

/-- The lanes that hold axes or can be named: 0 to 15, and 16 while the Hamper serves one (R51). -/
def laneNos : List Nat := upTo 17

/-- The axis computes on every second tick (R50, R467, R477). -/
def State.axisHalf (s : State) (a : Nat) : Bool :=
  s.health.halfAxes.contains a ||
  (match s.laneOf a with
   | some (l, _) => (s.logLane l).degraded || (s.logLane l).wide
   | none => false)

/-! ### Load and room (R322, R473, Table 17.4) -/

/-- Steps of the lane clock. -/
def State.laneSteps (s : State) : Nat := (s.clk 1).steps

def axisLimit (steps : Nat) : Nat := match steps with | 0 => 32 | 1 => 32 | 2 => 31 | 3 => 30 | _ => 29
def userPool (steps : Nat) : Nat := match steps with | 0 => 1400 | 1 => 1310 | 2 => 1284 | 3 => 1258 | _ => 1232

/-- Axes computed in the heaviest tick: those at full rate and the larger half of the others. -/
def slotLoad (slots : List (Nat × Nat)) (half : Nat → Bool) : Nat :=
  let n := fun (f : Nat × Nat → Bool) => (slots.filter f).length
  n (fun e => !half e.2) + Nat.max (n fun e => half e.2 && e.1 % 2 = 0) (n fun e => half e.2 && e.1 % 2 = 1)

/-- The entry of the active module that an axis is bound to. -/
def Kernel.entryOf (k : Kernel) (a : Nat) : Option KEntry :=
  (k.binds.find? fun b => b.1 = a).bind fun b => k.entries.find? fun e => e.entry = b.2

def useOf (k : Kernel) (axes : List Nat) : Nat :=
  let es := axes.filterMap k.entryOf
  es.foldl (fun n e => n + e.budget) 0 + maxL (es.map fun e => e.holdoff)

/-- The user use of a set of slots in its heaviest tick. -/
def slotUse (k : Kernel) (slots : List (Nat × Nat)) (half : Nat → Bool) : Nat :=
  let at' := fun (r : Nat) => (slots.filter fun e => !half e.2 || e.1 % 2 = r).map fun e => e.2
  Nat.max (useOf k (at' 0)) (useOf k (at' 1))

/-- The active module without the bindings that faults have disabled (R326). -/
def State.activeKernel (s : State) : Kernel :=
  match s.lanes.kernel with
  | some k => { k with binds := k.binds.filter fun b => !s.lanes.disabled.contains b.1 }
  | none => {}

/-- USER_USE of a logical lane. -/
def State.userUse (s : State) (l : Nat) : Nat := slotUse s.activeKernel (s.logLane l).held s.axisHalf

/-- A set of slots keeps to the axis limit and the user pool after `steps` lane clock steps. -/
def State.slotsFit (s : State) (steps : Nat) (half : Nat → Bool) (slots : List (Nat × Nat)) : Bool :=
  decide (slotLoad slots half ≤ axisLimit steps) && decide (slotUse s.activeKernel slots half ≤ userPool steps)

/-- Half rate as it would be for an axis on a lane. -/
def State.halfOn (s : State) (l : Nat) (a : Nat) : Bool :=
  s.health.halfAxes.contains a || (s.logLane l).degraded || (s.logLane l).wide

/-- Slots for axes on a lane, each the lowest free slot, an axis at half rate in its former parity if it can (R471);
none without room (R473). -/
def State.fit (s : State) (l : Nat) (axes : List Nat) : Option (List (Nat × Nat)) :=
  let x := s.logLane l
  let r := axes.foldl (fun (acc : Option (List Nat × List (Nat × Nat))) a => acc.bind fun p =>
    let keep := match s.laneOf a with
      | some (_, k) => if s.health.halfAxes.contains a then p.1.find? fun f => f % 2 = k % 2 else none
      | none => none
    (keep.or p.1.head?).map fun k => (p.1.filter (· ≠ k), p.2 ++ [(k, a)])) (some (x.freeSlots, []))
  match r with
  | some (_, got) => if s.slotsFit s.laneSteps (s.halfOn l) (x.held ++ got) then some got else none
  | none => none

/-- Lanes by rising number of axes, lowest number first. -/
def State.lanesByLoad (s : State) (ls : List Nat) : List Nat :=
  let n := fun l => (s.laneAxes l).length
  (upTo 65).flatMap fun k => ls.filter fun l => n l = k

def State.setSlot (s : State) (l k : Nat) (a : Option Nat) : State :=
  s.modLogLane l fun x => { x with slots := tblSet x.slots k a }

def State.freeAxisSlot (s : State) (a : Nat) : State :=
  match s.laneOf a with
  | some (l, k) => s.setSlot l k none
  | none => s

/-! ### Placement (R300, R473) -/

/-- The working lanes of 32 slots. -/
def State.workingLanes (s : State) : List Nat :=
  laneNos.filter fun l => s.served l && !s.inTakeover l && !(s.logLane l).wide && (s.logLane l).loss.isNone

/-- The lane of an axis's CELL record can take it: served, and neither taken over nor lost. -/
def State.homeServes (s : State) (l : Nat) : Bool := s.served l && !s.inTakeover l && (s.logLane l).loss.isNone

/-- One axis is placed: its own lane, else the emptiest of 32 slots with room; without room it stays ABSENT. -/
def State.placeAxis (s : State) (a : Nat) : State :=
  if (s.laneOf a).isSome || s.health.removed.contains a then s
  else
    let home := (s.axisRec a).elim 0 fun r => r.lane
    let order := home :: s.lanesByLoad (s.workingLanes.filter (· ≠ home))
    match order.findSome? fun l => if s.homeServes l then (s.fit l [a]).map fun g => (l, g) else none with
    | some (l, g) =>
      let t := (g.foldl (fun u e => u.setSlot l e.1 (some e.2)) s).cfgWrite (g.map fun e => e.1) fun x => x.lane = some l
      t.modHealth fun x => { x with absent := x.absent.filter (· ≠ a) }
    | none =>
      if s.health.absent.contains a then s
      else (s.modHealth fun x => { x with absent := x.absent ++ [a] }).emit evAxisUnplaced (mkRef clsAxis a) []

/-- Step 3 of a boundary: axes that have become present, and those that found no lane before. -/
def State.placeAll (s : State) (fresh : List Nat) : State :=
  (sortNat (dedup (fresh ++ s.health.absent))).foldl State.placeAxis s

/-! ### Copies between pairs (Table 10.1) -/

/-- The words of one memory from `a` on, `n` of them, laid over another's from `b` on. -/
def moveSpan (src dst : Cells 32) (a b n : Nat) : Cells 32 :=
  (src.filter fun e => decide (a ≤ e.1) && decide (e.1 < a + n)).foldl (fun m e => cellWrite m (e.1 - a + b) e.2)
    (dst.filter fun e => !(decide (b ≤ e.1) && decide (e.1 < b + n)))

/-- One span that the copy engine moves: its space, its addresses in source and target, its words. -/
structure Span where
  space : Nat
  src : Nat
  dst : Nat
  words : Nat
  deriving DecidableEq, Repr

def PairSt.takeSpan (src dst : PairSt) (e : Span) : PairSt :=
  if e.space = spX then { dst with xMem := moveSpan src.xMem dst.xMem e.src e.dst e.words }
  else { dst with yMem := moveSpan src.yMem dst.yMem e.src e.dst e.words }

/-- Words of a per-slot user area, and where it lies (R323). -/
def Kernel.xArea (k : Kernel) (slot : Nat) : Nat := 0xB000 + k.xc.length + slot * k.xa.length
def Kernel.yArea (k : Kernel) (slot : Nat) : Nat := 0xB000 + k.yc.length + slot * k.ya.length

/-- A slot's word in a state bank; bank 1 follows bank 0 (the order within the region is DEDUCED, log 13). -/
def bankAt (bank slot : Nat) : Nat := 0x0C00 + 6144 * bank + 96 * slot

/-- The spans of one slot that Table 10.1 marks as copied, beside its configuration and coefficients: its valid bank and its
user areas. -/
def Kernel.slotSpans (m : Kernel) (bank k k' : Nat) : List Span :=
  [{ space := spX, src := bankAt bank k, dst := bankAt bank k', words := 96 },
   { space := spX, src := m.xArea k, dst := m.xArea k', words := m.xa.length },
   { space := spY, src := m.yArea k, dst := m.yArea k', words := m.ya.length }]

/-- The spans that no slot owns: the lane control block and the module's constants. -/
def Kernel.laneSpans (m : Kernel) : List Span :=
  [{ space := spX, src := 0, dst := 0, words := 1024 },
   { space := spX, src := 0xB000, dst := 0xB000, words := m.xc.length },
   { space := spY, src := 0xB000, dst := 0xB000, words := m.yc.length }]

/-- The valid bank of an axis, LAST mod 2 (R303). -/
def State.lastBank (s : State) (a : Nat) : Nat := (s.axis a).lp.last.toNat % 2

/-- The active module; with none its areas are empty. -/
def State.userModule (s : State) : Kernel := s.lanes.kernel.getD {}

/-- Slot `k'` takes the configuration and coefficients of slot `k` of pair `p`. -/
def PairSt.takeCfg (dst src : PairSt) (p k k' : Nat) : PairSt :=
  { dst with ext := { dst.ext with cfg := tblSet dst.ext.cfg k' (tblGet (0, p, k) src.ext.cfg k) } }

/-- What the latch leaves in the lane control block for a slot (R303): whether the axis's values were captured, the values
it substituted otherwise, and LAST. -/
def LoopSt.control (lp : LoopSt) : List (Nat × Word) :=
  [(0, if lp.extrap then 1 else 0), (6, lp.last)] ++
  (if lp.extrap then
    [(1, BitVec.ofNat 32 lp.addr), (2, BitVec.ofNat 32 lp.ampl), (3, BitVec.ofInt 32 lp.posRefPrev),
     (4, BitVec.ofInt 32 (lp.posRefPrev / 2 ^ 32)), (5, BitVec.ofInt 32 lp.vRefPrev)]
   else [])

def PairSt.writeCtl (x : PairSt) (slot : Nat) (lp : LoopSt) : PairSt :=
  { x with xMem := lp.control.foldl (fun m e => cellWrite m (Config.ctlAddr slot e.1 % 1024) e.2) x.xMem }

/-- One slot: its spans, its configuration, and its entry of the control block with the latch's substitutes (R334). -/
def State.copyOne (s : State) (a p k k' : Nat) (dst : PairSt) : PairSt :=
  let src := s.pair p
  (((s.userModule.slotSpans (s.lastBank a) k k').foldl src.takeSpan dst).takeCfg src p k k').writeCtl k' (s.axis a).lp

/-- What a takeover copies from pair `p` into another, `held` being the occupied slots with their axes (R334). -/
def State.copyPair (s : State) (held : List (Nat × Nat)) (p : Nat) (dst : PairSt) : PairSt :=
  held.foldl (fun y e => s.copyOne e.2 p e.1 e.1 y) (s.userModule.laneSpans.foldl (s.pair p).takeSpan dst)

/-- An axis's slot `k` of pair `p` is copied into slot `k'` of the pair that serves lane `l'` (R471). -/
def State.copySlot (s : State) (a p k l' k' : Nat) : State :=
  match s.pairOf l' with
  | some q => s.modPair q (s.copyOne a p k k')
  | none => s

/-! ### Migration (R471, R472) -/

/-- An axis changes lane at a boundary; the move stands once the intake of the tick is reached. -/
def State.startMove (s : State) (h : Option Hdr) (why a l' k' : Nat) : State :=
  match s.laneOf a with
  | some (l, k) =>
    let t := match s.pairOf l with
      | some p => s.copySlot a p k l' k'
      | none => s
    let t := (t.setSlot l k none).setSlot l' k' (some a)
    t.modHealth fun x => { x with moving := x.moving ++
      [{ host := h, axis := a, fromLane := l, fromSlot := k, toLane := l', toSlot := k', why := why }] }
  | none => s

def opMigrate : Nat := 0x0222

/-- A move that a failing pair cancels: the axis is back on its source lane. -/
def State.cancelMove (s : State) (m : Moving) : State :=
  let t := (s.setSlot m.toLane m.toSlot none).setSlot m.fromLane m.fromSlot (some m.axis)
  match m.host with
  | some h => t.done opMigrate h stAborted
  | none => t

/-- R472: a pair of lane `l` fails before the intake of the boundary. -/
def State.cancelMoves (s : State) (l : Nat) : State :=
  let hit := fun (m : Moving) => m.fromLane = l || m.toLane = l
  let whys := dedup ((s.health.moving.filter hit).map fun m => m.why)
  let out := s.health.moving.filter fun m => hit m || (m.why ≠ 0 && whys.contains m.why)
  let t := s.modHealth fun x => { x with moving := x.moving.filter fun m => !out.contains m }
  let back := dedup (out.filterMap fun m => if m.why = 2 then some m.toLane else none)
  let t := t.forEach back fun u k => match u.pairOf k with
    | some p => u.toReserve p
    | none => u
  out.reverse.foldl State.cancelMove t

/-- A lane leaves degraded half-rate mode (R52). -/
def State.leaveDegraded (s : State) (l target : Nat) : State :=
  (s.modLogLane l fun x => { x with
    degraded := false, overruns := [], degPlan := none, expiredSs1 := false }).emit evLaneRestored s.devRef
      [l, s.tick.cycle.toNat, target]

/-- The host lane of a lost lane, once its axes have gone back, returns to 32 slots at full rate (R468). -/
def State.endLoss (s : State) (l : Nat) : State :=
  let p := (s.pairOf l).getD 0
  let host := (s.logLane l).loss.bind fun x => x.host
  let t := s.modLogLane l fun x => { x with loss := none }
  let t := match host with
    | some h => t.modLogLane h fun x => { x with wide := decide ((x.held.any fun e => 32 ≤ e.1) = true), expiredSs1 := false }
    | none => t
  t.emit evLaneRehomed t.devRef [l, p]

/-- The moves of this boundary stand (at the intake): records and completions. -/
def State.finishMoves (s : State) : State :=
  let ms := s.health.moving
  let t := s.modHealth fun x => { x with moving := [] }
  let t := ms.foldl (fun u m =>
    let v := u.emit evAxisMigrated (mkRef clsAxis m.axis) [m.fromLane, m.toLane]
    match m.host with
    | some h => v.done opMigrate h stOk
    | none => v) t
  let lanes := dedup (ms.filterMap fun m => if m.why = 1 then some m.fromLane else none)
  let t := t.forEach lanes fun u l =>
    u.leaveDegraded l (((ms.find? fun m => m.why = 1 && m.fromLane = l).map fun m => m.toLane).getD 0)
  t.forEach (dedup (ms.filterMap fun m => if m.why = 2 then some m.toLane else none)) State.endLoss

/-- The lane is in a sweep, a takeover or a lane loss, or no pair serves it (R471). -/
def State.laneBusy (s : State) (l : Nat) : Bool :=
  !s.served l || s.inTakeover l || (s.logLane l).loss.isSome ||
  s.lanes.log.any (fun e => e.2.loss.any fun x => x.moves.any fun m => m.1.lane = l) ||
  s.lanes.sweeps.any fun x => ((s.laneOf x.axis).map fun p => p.1) = some l

/-- A pair of the lane has failed since the latch of the tick before (R472). -/
def State.failedSince (s : State) (l : Nat) : Bool :=
  (s.logLane l).takeover.any fun x => decide (s.now + 22000 ≤ x.failNs + s.P)

/-- AXIS_MIGRATE at step 3 of a boundary. -/
def State.migrateNow (s : State) (h : Option Hdr) (a l' : Nat) : State :=
  let fin := fun (st : Nat) => match h with | some x => s.done opMigrate x st | none => s
  match s.laneOf a with
  | none => fin stBusy
  | some (l, _) =>
    if l = l' then fin stNoEffect
    else if s.failedSince l || s.failedSince l' then fin stAborted
    else match s.fit l' [a] with
      | none => fin stNoLane
      | some g => if s.laneBusy l || s.laneBusy l' then fin stBusy
        else s.startMove h 0 a l' ((g.head?.map fun e => e.1).getD 0)

/-! ### Degraded half-rate mode (R49 to R53) -/

/-- Axes that a degraded lane gives away: slots 16 to 31. -/
def State.upperAxes (s : State) (l : Nat) : List Nat :=
  ((s.logLane l).held.filter fun e => decide (16 ≤ e.1)).map fun e => e.2

/-- R51: the target of the migration; the Hamper, as lane 16, only if no working lane has room. The spec does not say whether
a lane that is itself in degraded half-rate mode is a working lane with room; the model takes none as a target (DESIGN CHOICE,
log entry 116). -/
def State.degTarget (s : State) (l : Nat) : Option Nat :=
  let axes := s.upperAxes l
  let ls := s.workingLanes.filter fun k => k ≠ l && !(s.logLane k).degraded && !s.laneBusy k
  match (s.lanesByLoad ls).find? fun k => (s.fit k axes).isSome with
  | some k => some k
  | none => if s.reserve.isSome then some 16 else none

/-- The migration chosen at an earlier boundary takes effect; a lane without a plan chooses one. -/
def State.degBoundary (s : State) (l : Nat) : State :=
  let x := s.logLane l
  let choose := fun (u : State) => u.modLogLane l fun y => { y with degPlan := (u.degTarget l).map fun k => (k, u.tick.no) }
  if !x.degraded then s
  else match x.degPlan with
    | some (k, n) =>
      if n < s.tick.no ∧ !s.laneBusy l then
        let t := if k = 16 then match s.reserve with
            | some p => s.modPair p fun y => { (y.enter s.laneState) with lane := some 16, reserve := false }
            | none => s
          else s
        match (if t.laneBusy k then none else t.fit k (t.upperAxes l)) with
        | some g =>
          let moved := g.foldl (fun u e => u.startMove none 1 e.2 k e.1) t
          if g.isEmpty then moved.leaveDegraded l k else moved
        | none => choose s
      else s
    | none => choose s

/-- Overruns within ticks t − 31 to t. -/
def recentOverruns (l : List Nat) (t : Nat) : List Nat := l.filter fun n => decide (t < n + 32)

/-- R49: the third overrun within 32 ticks. -/
def execLaneDegraded (lane : Fin 17) (s : State) : Out :=
  let x := s.logLane lane.val
  .next (if !x.degraded && x.enterAt.isNone && x.overruns.contains s.tick.no &&
      decide (3 ≤ (recentOverruns x.overruns s.tick.no).length) then
      (s.modLogLane lane.val fun y => { y with enterAt := some (s.tick.no + 1) }).emit evLaneDegraded s.devRef
        [lane.val, (s.tick.cycle + 1).toNat]
    else s)

/-- Degraded mode begins at T0. -/
def State.enterDegradedLanes (s : State) : State :=
  s.forEach laneNos fun u l =>
    if (u.logLane l).enterAt = some u.tick.no then
      u.modLogLane l fun y => { y with
        degraded := true, enterAt := none, overruns := [], degTick := u.tick.no, degNs := u.now, expiredSs1 := false }
    else u

/-- SS1 of every axis of a lane and of the arms of those axes; the axes stopped. -/
def State.stopLane (s : State) (l : Nat) : State × Nat :=
  let axes := s.laneAxes l
  let all := dedup (axes ++ axes.flatMap s.armAxes)
  ((s.ss1WithArms axes s.devRef (s.tick.no + 1)).noteFaultStop all, all.length)

/-- R53. -/
def execDegradedExpired (lane : Fin 17) (s : State) : Out :=
  let x := s.logLane lane.val
  let due := decide (s.pU 0x0011 s.dev * 1000000 ≤ s.now - x.degNs) ||
    decide (3 ≤ (recentOverruns x.overruns s.tick.no).length)
  .next (if x.degraded && !x.expiredSs1 && due then
      let (t, n) := s.stopLane lane.val
      (t.modLogLane lane.val fun y => { y with expiredSs1 := true }).emit evDegradedExpired t.devRef [lane.val, n]
    else s)

/-! ### The placement prepared for a lane loss (R465) -/

/-- Stage 1 of R465: each axis in a free slot of another lane that computes at full rate; what finds none remains. -/
def State.planFull (s : State) (l : Nat) : List Nat → State × List PlanMove × List Nat → State × List PlanMove × List Nat
  | [], r => r
  | a :: rest, (u, ms, left) =>
    let ls := u.lanesByLoad (u.workingLanes.filter fun k => k ≠ l && !(u.logLane k).degraded)
    match ls.findSome? fun k => (u.fit k [a]).bind fun g => g.head?.map fun e => (k, e.1) with
    | some (k, slot) =>
      s.planFull l rest
        ((u.freeAxisSlot a).setSlot k slot (some a), ms ++ [{ axis := a, lane := k, slot := slot, full := true }], left)
    | none => s.planFull l rest (u, ms, left ++ [a])

/-- Stage 2: the host lane for `n` axes, which take free slots from 32 up. -/
def State.planHostLane (s : State) (l n : Nat) : Option Nat :=
  let ok := laneNos.filter fun k => k ≠ l && s.served k && !s.inTakeover k && (s.logLane k).loss.isNone
  match ok.find? fun k => (s.logLane k).wide && decide (n ≤ ((s.logLane k).freeSlots.filter fun e => decide (32 ≤ e)).length) with
  | some k => some k
  | none => (s.lanesByLoad (ok.filter fun k => !(s.logLane k).wide)).head?

/-- The placement prepared for a lane (R465); empty where none exists. -/
def State.planLane (s : State) (l : Nat) : List PlanMove × Option Nat :=
  let (u, ms, left) := s.planFull l (s.laneAxes l) (s, [], [])
  if left.isEmpty then (ms, none)
  else match u.planHostLane l left.length with
    | some h => if decide (left.length ≤ 32) || (u.logLane h).wide then
        let free := (upTo 64).filter fun k => decide (32 ≤ k) && (tblGet none (u.logLane h).slots k).isNone
        (ms ++ (left.zip free).map fun e => { axis := e.1, lane := h, slot := e.2, full := false }, some h) else ([], none)
    | none => ([], none)

def State.planLanes (s : State) : State :=
  s.forEach laneNos fun u l =>
    if (s.laneAxes l).isEmpty then u.modLogLane l fun y => { y with plan := [], planHost := none }
    else
      let p := s.planLane l
      u.modLogLane l fun y => { y with plan := p.1, planHost := p.2 }

/-! ### Failure (R332) -/

def laneCauseCode : LaneCause → Nat
  | .lockstep => 1 | .ecc => 2 | .firmwareFault => 3 | .hang => 4 | .selfTest => 5

/-- The first tick, from `no` on, whose 12,000 ns offset lies at least `delay` after offset `t` of tick `no`. -/
def firstTickAfter (P no t delay : Nat) : Nat := no + (t + delay - 12000 + P - 1) / P

/-- Latches after offset `t` and before tick `first`. -/
def latchesBetween (P no t first : Nat) : Nat :=
  ((upTo (first - no)).filter fun k => decide (t < k * P + 22000)).length

/-- A sweep of the lane ends early (R331). -/
def State.stopLaneSweeps (s : State) (l : Nat) : State :=
  s.modLanes fun x => { x with sweeps := x.sweeps.map fun w =>
    if ((s.laneOf w.axis).map fun p => p.1) = some l ∧ w.stop.isNone then { w with stop := some false } else w }

/-- A tick in which the lane is declared failed is no overrun of it (R49), and begins no half-rate mode. -/
def LogLane.uncount (x : LogLane) (no : Nat) : LogLane :=
  let l := x.overruns.filter (· ≠ no)
  { x with overruns := l, enterAt := if x.enterAt = some (no + 1) && (recentOverruns l no).length < 3 then none else x.enterAt }


/-- The moves that the failure of lane `l`'s pair cancels are undone, and the axes count with their source lanes again, in the
prepared placements too (R465, R472). -/
def State.cancelled (s : State) (l : Nat) : State :=
  let t := s.cancelMoves l
  if t.health.moving = s.health.moving then t else t.planLanes

/-- A pair fails at offset `t`: it enters RECOVER, and its lane waits for the reserve or for its placement. A lane that the
pair was to take back stays lost (R468, R472). -/
def State.pairFails (s : State) (p : Nat) (cause : LaneCause) (t : Nat) : State :=
  let x := s.pair p
  if !x.working then s
  else
    let res := s.reserve
    let lane := if x.reserve then none else x.lane
    let s1 := match lane with | some l => s.cancelled l | none => s
    let s2 := (s1.modPair p fun y => { (y.enter lpRecover) with
      lane := none, reserve := false, fails := incSat 8 y.fails, recovering := true, failTick := s.tick.no, events := [] })
    let s3 := (s2.emit evLaneFailed s.devRef [p, lane.getD 0xFF, laneCauseCode cause]).raiseIrq 14
    match lane with
    | none => s3
    | some l => if (s1.logLane l).loss.isSome then s3 else
      let delay := if (s.logLane l).wide && res.isSome then 16000 else 8000
      let first := firstTickAfter s.P s.tick.no t delay
      let e : Takeover :=
        { failed := p, pair := res, failNs := s.now + t, firstTick := first, prevStart := decide (x.state = lpStart)
          extrapolated := latchesBetween s.P s.tick.no t first }
      (s3.stopLaneSweeps l).modLogLane l fun y => { y.uncount s.tick.no with takeover := some e }

def execLaneFailed (pair : Fin 17) (cause : LaneCause) (t : Nat) (s : State) : Out :=
  .next (s.pairFails pair.val cause t)

/-- R333. -/
def execReserveSelfTest (passed : Bool) (s : State) : Out :=
  .next (match s.reserve with
    | some p => if passed then s else s.pairFails p .selfTest 0
    | none => s)

/-! ### Recovery (R336) -/

/-- The module's program and constants in a pair; its repeat cache is cleared (R308, R330). -/
def Kernel.load (k : Kernel) (x : PairSt) : PairSt :=
  { x with
    regs := { x.regs with cache := [] }, pMem := writeCells x.pMem 0x6000 k.prog
    xMem := writeCells x.xMem 0xB000 k.xc, yMem := writeCells x.yMem 0xB000 k.yc }

/-- The supervisor has rewritten a pair's P space, module and regions. -/
def State.rebuilt (s : State) (x : PairSt) : PairSt := s.userModule.load { x with pMem := [], xMem := [], yMem := [] }

def execLaneRecovered (pair : Fin 17) (passed : Bool) (s : State) : Out :=
  let x := s.pair pair.val
  .next (if x.state = lpRecover then
      (if passed && decide (x.fails < s.pU 0x0040 s.dev) then
        (((s.modPair pair.val fun y => { s.rebuilt y with recovering := false }).toReserve pair.val).emit
          evLaneRecovered s.devRef [pair.val]).raiseIrq 14
       else
        ((s.modPair pair.val fun y => { (y.enter lpRetired) with recovering := false }).emit
          evLaneRetired s.devRef [pair.val, x.fails]).raiseIrq 14)
    else s)

/-! ### Losing a lane (R465 to R468) -/

/-- The slot of a moved axis: the prepared one, or the lowest free one if that has been taken since. -/
def State.slotFor (s : State) (m : PlanMove) : Option Nat :=
  let free := (s.logLane m.lane).freeSlots
  if free.contains m.slot then some m.slot else free.find? fun k => m.full || decide (32 ≤ k)

/-- R466: the moved axes take their places. -/
def State.loseLane (s : State) (l : Nat) (t : Takeover) : State :=
  let x := s.logLane l
  let s1 := s.modLogLane l fun y => { y with takeover := none, degraded := false, degPlan := none, enterAt := none }
  let host := if x.plan.isEmpty then none else x.planHost
  let s2 := match host with
    | some h => s1.modLogLane h fun y => { y with wide := true, degNs := if y.wide then y.degNs else t.failNs, expiredSs1 := false }
    | none => s1
  let r := x.plan.foldl (fun (p : State × List (PlanMove × Nat)) m =>
    match p.1.laneOf m.axis, p.1.slotFor m with
    | some (_, k), some k' =>
      (((p.1.copySlot m.axis t.failed k m.lane k').setSlot l k none).setSlot m.lane k' (some m.axis), p.2 ++ [(m, k)])
    | _, _ => p) (s2, [])
  let e : LaneLoss :=
    { failed := t.failed, lostNs := t.failNs, firstTick := t.firstTick, moves := r.2, host := host
      half := x.degraded || x.wide, damaged := t.damaged }
  let s3 := r.1.modLogLane l fun y => { y with loss := some e }
  let s4 := s3.emit evLaneLost s.devRef [l, t.failed, host.getD 0xFF, (r.2.filter fun m => m.1.full).length]
  if x.plan.isEmpty then (s4.stopLane l).1 else s4

def execLaneLost (lane : Fin 17) (s : State) : Out :=
  .next (match (s.logLane lane.val).takeover with
    | some t => if t.pair.isNone then s.loseLane lane.val t else s
    | none => s)

/-- R467: the time of a 64-slot lane is over; it does not run while its axes are at half rate by choice. -/
def execLaneLossExpired (lane : Fin 17) (s : State) : Out :=
  let x := s.logLane lane.val
  .next (if x.wide && !x.expiredSs1 && !s.allByChoice lane.val &&
      decide (s.pU 0xC003 s.dev * 1000000 ≤ s.now - x.degNs) then
      let (t, n) := s.stopLane lane.val
      (t.modLogLane lane.val fun y => { y with expiredSs1 := true }).emit evLaneLossExpired t.devRef [lane.val, n]
    else s)

/-- R468: a pair that has become the reserve is given the lost lane, and the moved axes go back. -/
def State.rehome (s : State) (l p : Nat) (x : LaneLoss) : State :=
  let s1 := s.modPair p fun y => { (y.enter s.laneState) with lane := some l, reserve := false }
  let s2 := x.moves.foldl (fun u m => if (u.laneOf m.1.axis).isSome then u.startMove none 2 m.1.axis l m.2 else u) s1
  if (s2.health.moving.filter fun m => m.why = 2 && m.toLane = l).isEmpty then s2.endLoss l else s2

def execLaneRehomed (lane : Fin 17) (s : State) : Out :=
  .next (match (s.logLane lane.val).loss, s.reserve with
    | some x, some p => if s.boundary && !s.tick.intakeDone then s.rehome lane.val p x else s
    | _, _ => s)

/-! ### Which axes a lane computes in a tick (R50, R334, R466) -/

/-- An even slot is due in even cycles, an odd one in odd cycles (R50). -/
def State.parityDue (s : State) (slot : Nat) : Bool := slot % 2 = s.tick.cycle.toNat % 2

/-- The axes of a lost lane, with the slots they held, until their new lanes compute them (R466). -/
def State.lostMoves (s : State) (l : Nat) : List (Nat × Nat) :=
  match (s.logLane l).loss with
  | some x => if s.tick.no < x.firstTick then x.moves.map fun m => (m.2, m.1.axis) else []
  | none => []

/-- An axis has been moved off a lost lane and is not yet computed. -/
def State.lostPending (s : State) (a : Nat) : Bool := laneNos.any fun l => (s.lostMoves l).any fun e => e.2 = a

/-- The slots of a lost lane that were due in this tick. -/
def State.lostDue (s : State) (l : Nat) : List (Nat × Nat) :=
  let half := (s.logLane l).loss.any fun x => x.half
  (s.lostMoves l).filter fun e =>
    !s.axisAbsent e.2 && (!(half || s.health.halfAxes.contains e.2) || s.parityDue e.1)

/-- The lane's slots whose axes are due in this tick. -/
def State.slotsDue (s : State) (l : Nat) : List (Nat × Nat) :=
  (s.logLane l).held.filter fun e =>
    !s.axisAbsent e.2 && (!s.axisHalf e.2 || s.parityDue e.1) && !s.lostPending e.2

/-- The lane's slots whose axes are computed in this tick. -/
def State.slotsNow (s : State) (l : Nat) : List (Nat × Nat) :=
  if !s.served l || s.inTakeover l then [] else s.slotsDue l

/-- The sample interval of an axis's kernel (R57). -/
def State.axisT (s : State) (a : Nat) : Nat := if s.axisHalf a then 2 * s.P else s.P

end Sys2Proof.Machine
end

