-- ==== Sys2Proof/Machine/LaneIsa.lean ====
section
/-!
DEFINITION. The lane instructions as commands (R339 to R350): each issues on its pair; outside the user stage an address
fault or an undefined instruction fails the pair (R332), within it it is a user fault (R325, R326).
-/
namespace Sys2Proof.Machine

/-- The offset of the present moment in the tick, as far as the model knows it: T0, the start of pass 1, or the latch. -/
def State.offNow (s : State) : Nat := if s.tick.latched then 22000 else if s.tick.intakeDone then 12000 else 0

/-- Cause codes of USER_FAULT. -/
def faultCode : LaneFault → Nat
  | .addr => 1
  | .undef => 2

/-- A user fault of an axis (R326). -/
def State.userFault (s : State) (a : Nat) (cause : LaneFault) (pc : Nat) : State :=
  let t := s.modAxis a fun x => { x with userDisabled := true, lp := { x.lp with uUser := x.lp.uSat } }
  let t := t.modLanes fun x => { x with disabled := dedup (x.disabled ++ [a]) }
  let t := t.emit evUserFault (mkRef clsAxis a) [(s.laneOf a).elim 0 fun p => p.1, faultCode cause, pc]
  t.emit evUserDisabled (mkRef clsAxis a) [1]

/-- Firmware goes on at the vector of an event, which no user code handles (R318). The vector lies in the firmware's region
(log entry 133). -/
def LaneRegs.vector (r : LaneRegs) (e : Nat) : LaneRegs :=
  { r with waiting := false, pc := Config.laneVector e % 0x6000, mode := setBit r.mode 3 false, held := 0, heldCyc := 0 }

/-- The first of the events raised is taken at the first boundary that is not held; a pair in WAIT holds none back (R318,
R319, R347). -/
def PairSt.takeEvent (x : PairSt) : PairSt :=
  match x.events with
  | e :: r => if x.regs.waiting ∨ x.regs.unheld then { x with events := r, regs := x.regs.vector e } else x
  | [] => x

/-- A lane event of a priority of Table 10.10 is raised on a pair. -/
def State.raiseEvent (s : State) (p prio : Nat) : State :=
  s.modPair p fun x => PairSt.takeEvent { x with events := sortNat (dedup (prio :: x.events)) }

/-- An instruction faults on a pair. -/
def State.laneFault (s : State) (p : Nat) (e : LaneFault) : State :=
  let x := s.pair p
  match x.regs.user, x.userAxis with
  | true, some a => (s.modPair p fun y => { y with
      userAxis := none, regs := { y.regs with mode := setBit y.regs.mode 3 false } }).userFault a e x.regs.pc
  | _, _ => (s.modPair p fun y => { y with regs := { y.regs with fault := true } }).pairFails p .firmwareFault s.offNow

/-- A pair that is held in reset, has failed, waits, or has faulted issues nothing. -/
def PairSt.issues (x : PairSt) : Bool :=
  x.state ≠ lpLoad && x.state ≠ lpRecover && x.state ≠ lpRetired && !x.regs.waiting && !x.regs.fault

/-- An instruction on a pair. -/
def State.laneRow (s : State) (p : Nat) (i : Instr) : State :=
  let x := s.pair p
  if x.issues then
    match laneRun p ((laneFn i).getD undefFn) x with
    | (y, none) => s.modPair p fun _ => y.takeEvent
    | (y, some e) => (s.modPair p fun _ => y).laneFault p e
  else s

/-- rd := rs + rt. -/
def execAdd (p : Fin 17) (sb : Bool) (rd rs rt : Fin 16) (s : State) :
    Out := .next (s.laneRow p.val (.add p sb rd rs rt))

/-- rd := rs − rt. -/
def execSub (p : Fin 17) (sb : Bool) (rd rs rt : Fin 16) (s : State) :
    Out := .next (s.laneRow p.val (.sub p sb rd rs rt))

/-- Bitwise AND. -/
def execAnd (p : Fin 17) (rd rs rt : Fin 16) (s : State) : Out := .next (s.laneRow p.val (.and p rd rs rt))

/-- Bitwise OR. -/
def execOr (p : Fin 17) (rd rs rt : Fin 16) (s : State) : Out := .next (s.laneRow p.val (.or p rd rs rt))

/-- Bitwise exclusive OR. -/
def execXor (p : Fin 17) (rd rs rt : Fin 16) (s : State) : Out := .next (s.laneRow p.val (.xor p rd rs rt))

/-- Signed minimum. -/
def execMin (p : Fin 17) (rd rs rt : Fin 16) (s : State) : Out := .next (s.laneRow p.val (.min p rd rs rt))

/-- Signed maximum. -/
def execMax (p : Fin 17) (rd rs rt : Fin 16) (s : State) : Out := .next (s.laneRow p.val (.max p rd rs rt))

/-- rd := |rs|. -/
def execAbs (p : Fin 17) (sb : Bool) (rd rs : Fin 16) (s : State) : Out := .next (s.laneRow p.val (.abs p sb rd rs))

/-- rd := −rs. -/
def execNeg (p : Fin 17) (sb : Bool) (rd rs : Fin 16) (s : State) : Out := .next (s.laneRow p.val (.neg p sb rd rs))

/-- Arithmetic shift by a signed count. -/
def execAsh (p : Fin 17) (sb : Bool) (rd rs rt : Fin 16) (s : State) :
    Out := .next (s.laneRow p.val (.ash p sb rd rs rt))

/-- Logical shift by a signed count. -/
def execLsh (p : Fin 17) (rd rs rt : Fin 16) (s : State) : Out := .next (s.laneRow p.val (.lsh p rd rs rt))

/-- Flags of rs − rt. -/
def execCmp (p : Fin 17) (rs rt : Fin 16) (s : State) : Out := .next (s.laneRow p.val (.cmp p rs rt))

/-- Flags of rs AND rt. -/
def execTst (p : Fin 17) (rs rt : Fin 16) (s : State) : Out := .next (s.laneRow p.val (.tst p rs rt))

/-- rd := rs. -/
def execMov (p : Fin 17) (rd rs : Fin 16) (s : State) : Out := .next (s.laneRow p.val (.mov p rd rs))

/-- rd := rs held within ±|rt|. -/
def execClip (p : Fin 17) (rd rs rt : Fin 16) (s : State) : Out := .next (s.laneRow p.val (.clip p rd rs rt))

/-- High word of the product. -/
def execMpyr (p : Fin 17) (sb : Bool) (rd rs rt : Fin 16) (s : State) :
    Out := .next (s.laneRow p.val (.mpyr p sb rd rs rt))

/-- 64-bit add of pairs. -/
def execAdd64 (p : Fin 17) (sb : Bool) (rd rs rt : Fin 16) (s : State) :
    Out := .next (s.laneRow p.val (.add64 p sb rd rs rt))

/-- 64-bit subtract of pairs. -/
def execSub64 (p : Fin 17) (sb : Bool) (rd rs rt : Fin 16) (s : State) :
    Out := .next (s.laneRow p.val (.sub64 p sb rd rs rt))

/-- rd := rs + imm. -/
def execAddi (p : Fin 17) (sb : Bool) (rd rs : Fin 16) (imm : LImm) (s : State) :
    Out := .next (s.laneRow p.val (.addi p sb rd rs imm))

/-- rd := rs AND imm. -/
def execAndi (p : Fin 17) (rd rs : Fin 16) (imm : LImm) (s : State) :
    Out := .next (s.laneRow p.val (.andi p rd rs imm))

/-- rd := rs OR imm. -/
def execOri (p : Fin 17) (rd rs : Fin 16) (imm : LImm) (s : State) : Out := .next (s.laneRow p.val (.ori p rd rs imm))

/-- rd := rs XOR imm. -/
def execXori (p : Fin 17) (rd rs : Fin 16) (imm : LImm) (s : State) :
    Out := .next (s.laneRow p.val (.xori p rd rs imm))

/-- Flags of rs − imm. -/
def execCmpi (p : Fin 17) (rs : Fin 16) (imm : LImm) (s : State) : Out := .next (s.laneRow p.val (.cmpi p rs imm))

/-- rd := imm. -/
def execLdi (p : Fin 17) (rd : Fin 16) (imm : LImm) (s : State) : Out := .next (s.laneRow p.val (.ldi p rd imm))

/-- Arithmetic shift by n. -/
def execAshi (p : Fin 17) (sb : Bool) (rd rs : Fin 16) (n : Word16) (s : State) :
    Out := .next (s.laneRow p.val (.ashi p sb rd rs n))

/-- Logical shift by n. -/
def execLshi (p : Fin 17) (rd rs : Fin 16) (n : Word16) (s : State) : Out := .next (s.laneRow p.val (.lshi p rd rs n))

/-- aN + x·y. -/
def execMac (p : Fin 17) (sb : Bool) (an : Fin 4) (x y : MOperand) (s : State) :
    Out := .next (s.laneRow p.val (.mac p sb an x y))

/-- aN − x·y. -/
def execMsu (p : Fin 17) (sb : Bool) (an : Fin 4) (x y : MOperand) (s : State) :
    Out := .next (s.laneRow p.val (.msu p sb an x y))

/-- x·y. -/
def execMpy (p : Fin 17) (sb : Bool) (an : Fin 4) (x y : MOperand) (s : State) :
    Out := .next (s.laneRow p.val (.mpy p sb an x y))

/-- −x·y. -/
def execMpyn (p : Fin 17) (sb : Bool) (an : Fin 4) (x y : MOperand) (s : State) :
    Out := .next (s.laneRow p.val (.mpyn p sb an x y))

/-- Complex product added. -/
def execCmac (p : Fin 17) (sb : Bool) (an : Fin 4) (x y : MOperand) (s : State) :
    Out := .next (s.laneRow p.val (.cmac p sb an x y))

/-- Complex product subtracted. -/
def execCmsu (p : Fin 17) (sb : Bool) (an : Fin 4) (x y : MOperand) (s : State) :
    Out := .next (s.laneRow p.val (.cmsu p sb an x y))

/-- Complex product. -/
def execCmpy (p : Fin 17) (sb : Bool) (an : Fin 4) (x y : MOperand) (s : State) :
    Out := .next (s.laneRow p.val (.cmpy p sb an x y))

/-- Negated complex product. -/
def execCmpyn (p : Fin 17) (sb : Bool) (an : Fin 4) (x y : MOperand) (s : State) :
    Out := .next (s.laneRow p.val (.cmpyn p sb an x y))

/-- Conjugate product added. -/
def execCmacc (p : Fin 17) (sb : Bool) (an : Fin 4) (x y : MOperand) (s : State) :
    Out := .next (s.laneRow p.val (.cmacc p sb an x y))

/-- Conjugate product subtracted. -/
def execCmsuc (p : Fin 17) (sb : Bool) (an : Fin 4) (x y : MOperand) (s : State) :
    Out := .next (s.laneRow p.val (.cmsuc p sb an x y))

/-- Conjugate product. -/
def execCmpyc (p : Fin 17) (sb : Bool) (an : Fin 4) (x y : MOperand) (s : State) :
    Out := .next (s.laneRow p.val (.cmpyc p sb an x y))

/-- Negated conjugate product. -/
def execCmpync (p : Fin 17) (sb : Bool) (an : Fin 4) (x y : MOperand) (s : State) :
    Out := .next (s.laneRow p.val (.cmpync p sb an x y))

/-- Two multiply-accumulates on two accumulators. -/
def execDualMac (p : Fin 17) (sb : Bool) (k1 : MacKind) (a1 : Fin 4) (x1 y1 : MOperand) (k2 : MacKind) (a2 : Fin 4) (x2 y2 : MOperand) (s : State) :
    Out := .next (s.laneRow p.val (.dualMac p sb k1 a1 x1 y1 k2 a2 x2 y2))

/-- 32-bit move of an accumulator. -/
def execMvad (p : Fin 17) (sb : Bool) (d : Fin 16) (an : Fin 4) (s : State) :
    Out := .next (s.laneRow p.val (.mvad p sb d an))

/-- 64-bit move of an accumulator. -/
def execMvad64 (p : Fin 17) (sb : Bool) (d : Fin 16) (an : Fin 4) (s : State) :
    Out := .next (s.laneRow p.val (.mvad64 p sb d an))

/-- aN.h := d. -/
def execMvda (p : Fin 17) (an : Fin 4) (d : Fin 16) (s : State) : Out := .next (s.laneRow p.val (.mvda p an d))

/-- aN := 0. -/
def execClra (p : Fin 17) (an : Fin 4) (s : State) : Out := .next (s.laneRow p.val (.clra p an))

/-- aN := aN + aM. -/
def execAdda (p : Fin 17) (sb : Bool) (an am : Fin 4) (s : State) : Out := .next (s.laneRow p.val (.adda p sb an am))

/-- aN := aN − aM. -/
def execSuba (p : Fin 17) (sb : Bool) (an am : Fin 4) (s : State) : Out := .next (s.laneRow p.val (.suba p sb an am))

/-- aN := aM. -/
def execMvaa (p : Fin 17) (an am : Fin 4) (s : State) : Out := .next (s.laneRow p.val (.mvaa p an am))

/-- aN := −aN. -/
def execNega (p : Fin 17) (sb : Bool) (an : Fin 4) (s : State) : Out := .next (s.laneRow p.val (.nega p sb an))

/-- aN := |aN|. -/
def execAbsa (p : Fin 17) (sb : Bool) (an : Fin 4) (s : State) : Out := .next (s.laneRow p.val (.absa p sb an))

/-- Shift of an accumulator. -/
def execSha (p : Fin 17) (sb : Bool) (an : Fin 4) (n : BitVec 6) (s : State) :
    Out := .next (s.laneRow p.val (.sha p sb an n))

/-- Rounding at bit 32. -/
def execRnda (p : Fin 17) (sb : Bool) (an : Fin 4) (s : State) : Out := .next (s.laneRow p.val (.rnda p sb an))

/-- 32-bit load. -/
def execLd (p : Fin 17) (d : Fin 16) (desc : Desc) (s : State) : Out := .next (s.laneRow p.val (.ld p d desc))

/-- 32-bit store. -/
def execSt (p : Fin 17) (d : Fin 16) (desc : Desc) (s : State) : Out := .next (s.laneRow p.val (.st p d desc))

/-- 64-bit load. -/
def execLd64 (p : Fin 17) (d : Fin 16) (desc : Desc) (s : State) : Out := .next (s.laneRow p.val (.ld64 p d desc))

/-- 64-bit store. -/
def execSt64 (p : Fin 17) (d : Fin 16) (desc : Desc) (s : State) : Out := .next (s.laneRow p.val (.st64 p d desc))

/-- Two loads on two buses. -/
def execPld (p : Fin 17) (d1 : Fin 16) (desc1 : Desc) (d2 : Fin 16) (desc2 : Desc) (s : State) :
    Out := .next (s.laneRow p.val (.pld p d1 desc1 d2 desc2))

/-- cr := d. -/
def execMvc (p : Fin 17) (cr : CtrlReg) (d : Fin 16) (s : State) : Out := .next (s.laneRow p.val (.mvc p cr d))

/-- d := cr. -/
def execMvd (p : Fin 17) (d : Fin 16) (cr : CtrlReg) (s : State) : Out := .next (s.laneRow p.val (.mvd p d cr))

/-- cr := imm. -/
def execLdc (p : Fin 17) (cr : CtrlReg) (imm : Word16) (s : State) : Out := .next (s.laneRow p.val (.ldc p cr imm))

/-- p := imm in Y. -/
def execLdcy (p : Fin 17) (ptr : Fin 8) (imm : Word16) (s : State) : Out := .next (s.laneRow p.val (.ldcy p ptr imm))

/-- p := imm in P. -/
def execLdcp (p : Fin 17) (ptr : Fin 8) (imm : Word16) (s : State) : Out := .next (s.laneRow p.val (.ldcp p ptr imm))

/-- Post-modify by a modifier. -/
def execModp (p : Fin 17) (ptr m : Fin 8) (s : State) : Out := .next (s.laneRow p.val (.modp p ptr m))

/-- Post-modify by a constant. -/
def execModi (p : Fin 17) (ptr : Fin 8) (imm : Word16) (s : State) : Out := .next (s.laneRow p.val (.modi p ptr imm))

/-- Branch. -/
def execBr (p : Fin 17) (c : Cond) (target : Word16) (s : State) : Out := .next (s.laneRow p.val (.br p c target))

/-- Call. -/
def execCall (p : Fin 17) (c : Cond) (target : Word16) (s : State) : Out := .next (s.laneRow p.val (.call p c target))

/-- Return. -/
def execRet (p : Fin 17) (c : Cond) (s : State) : Out := .next (s.laneRow p.val (.ret p c))

/-- Repeat of the next instruction. -/
def execRpt (p : Fin 17) (n : BitVec 11) (s : State) : Out := .next (s.laneRow p.val (.rpt p n))

/-- Issue halts until an event is taken. -/
def execWait (p : Fin 17) (s : State) : Out := .next (s.laneRow p.val (.wait p))

/-- No effect but the program counter. -/
def execNop (p : Fin 17) (s : State) : Out := .next (s.laneRow p.val (.nop p))

/-- R350: a user fault, or the failure of the pair. -/
def execUndefinedInstruction (p : Fin 17) (s : State) : Out := .next (s.laneRow p.val (.undefinedInstruction p))

end Sys2Proof.Machine
end

