-- ==== Sys2Proof/Machine/F64.lean ====
section
/-!
DEFINITION. binary64 words (R10): rounding to nearest, ties to even, and the rational value of a finite word.
-/
namespace Sys2Proof.Machine

/-- Nearest integer of a non-negative rational, ties to even. -/
def rndEven (q : Rat) : Nat :=
  let f := q.floor.toNat
  let r := q - (f : Rat)
  if mkRat 1 2 < r ∨ (r = mkRat 1 2 ∧ f % 2 = 1) then f + 1 else f

/-- Floor of the binary logarithm of a positive rational. -/
def log2Q (q : Rat) : Int :=
  let e : Int := (Nat.log2 q.num.natAbs : Int) - (Nat.log2 q.den : Int)
  let p : Rat := if 0 ≤ e then ((2 ^ e.toNat : Nat) : Rat) else mkRat 1 (2 ^ (-e).toNat)
  if q < p then e - 1 else e

/-- 2 to an integer power. -/
def pow2Q (e : Int) : Rat := if 0 ≤ e then ((2 ^ e.toNat : Nat) : Rat) else mkRat 1 (2 ^ (-e).toNat)

/-- Magnitude bits of a positive rational: exponent and fraction; infinity above the range. -/
def toF64Mag (q : Rat) : Nat :=
  let e := if log2Q q < -1022 then -1022 else log2Q q
  let m := rndEven (q / pow2Q (e - 52))
  let w := (e + 1022).toNat * 2 ^ 52 + m
  if 0x7FF0000000000000 ≤ w then 0x7FF0000000000000 else w

/-- The binary32 value nearest a rational (R169). -/
def f32Q (q : Rat) : Rat :=
  if q = 0 then 0
  else
    let x := absQ q
    let e := if log2Q x < -126 then -126 else log2Q x
    let m := (rndEven (x / pow2Q (e - 23)) : Rat) * pow2Q (e - 23)
    if q < 0 then -m else m

/-- The binary64 word nearest a rational. -/
def toF64 (q : Rat) : Word64 :=
  if q = 0 then 0
  else if q < 0 then BitVec.ofNat 64 (2 ^ 63 + toF64Mag (-q))
  else BitVec.ofNat 64 (toF64Mag q)

def f64Exp (w : Word64) : Nat := field w.toNat 62 52
def f64Frac (w : Word64) : Nat := field w.toNat 51 0

/-- Neither infinite nor NaN. -/
def f64Finite (w : Word64) : Bool := f64Exp w ≠ 2047

def f64IsNan (w : Word64) : Bool := f64Exp w = 2047 && f64Frac w ≠ 0
def f64IsPosInf (w : Word64) : Bool := w = 0x7FF0000000000000
def f64IsNegInf (w : Word64) : Bool := w = 0xFFF0000000000000

/-- The value of a finite word; 0 for the others. -/
def ofF64 (w : Word64) : Rat :=
  let e := f64Exp w
  let m := if e = 0 then pow2Q (-1074) * (f64Frac w : Nat) else pow2Q ((e : Int) - 1075) * ((2 ^ 52 + f64Frac w : Nat) : Rat)
  if e = 2047 then 0 else if bitN w.toNat 63 then -m else m

end Sys2Proof.Machine
end

