-- ==== Sys2Proof/Machine/SafetyFn.lean ====
section
/-!
DEFINITION. The safety functions of chapter 8: inputs, test pulses, the stop matrix, cross-comparison and degraded
mode, SS1 monitoring, safely limited speed, arming, SAFE_RESET, zone and axis releases; and the losses of rails,
clocks and temperature that act on the islands (R464, R493, R524).
-/
namespace Sys2Proof.Machine

/-! ### Inputs (R225 to R229) -/

def State.inputRec (s : State) (i : Nat) : Option InputRec := s.safety.img.inputs.find? fun r => r.input = i

/-- Codes of Madder and Woad in events (R451). -/
def islandCode : Island → Nat
  | .madder => 1
  | .woad => 2

def otherIsland : Island → Island
  | .madder => .woad
  | .woad => .madder

def chanCode : Chan → Nat
  | .A => 1
  | .B => 2

/-- The island whose indications are ignored: the faulted one of attributed degraded mode (R239). -/
def State.ignoredIsland (s : State) : Option Island := s.safety.degraded.bind fun d => d.attributed

def State.islandAlive (s : State) (e : Island) : Bool :=
  match e with | .madder => s.safety.madderAlive | .woad => s.safety.woadAlive

/-- The island's verdicts count: it is not lost, nor the faulted one of attributed degraded mode (R239). -/
def State.islandDecides (s : State) (e : Island) : Bool := s.islandAlive e && s.ignoredIsland ≠ some e

/-- A channel's indications count. -/
def State.chanAlive (s : State) (c : Chan) : Bool :=
  match c with
  | .A => s.islandDecides .madder
  | .B => s.islandDecides .woad

/-- The command that an island's output stage follows is the run level: its own, or the survivor's over the cross-link where
attributed degraded mode names the island (R211, R239). -/
def State.zoneRuns (s : State) (e : Island) (z : Nat) : Bool :=
  (match (if s.ignoredIsland = some e then otherIsland e else e) with
    | .madder => (s.zone z).runM
    | .woad => (s.zone z).runW) && (s.zoneRec z).isSome

/-- The level at which a zone pin reads back, true for the safe level (R212, R237, R238). -/
def State.zonePinSafe (s : State) (e : Island) (z : Nat) : Bool :=
  let x := s.zone z
  !s.islandAlive e || (match e with | .madder => x.stuckA | .woad => x.stuckB).getD (!s.zoneRuns e z)

/-- `need` ns have passed on an island's clock, which samples every 20 ns and may be off by 100 ppm (R226, R228). -/
def ranFor (need elapsed : Nat) : Bool := decide (need ≤ elapsed + 20 + need / 10000)

/-- Demand indication of channel A (Table 8.4). -/
def InputSt.aDem (x : InputSt) : Bool := !x.aQ

/-- Demand indication of channel B (Table 8.4). -/
def InputSt.bDem (x : InputSt) (antival : Bool) : Bool := if antival then x.bQ else !x.bQ

/-- The two indications of an input that counts; an input without a record never demands. -/
def State.indications (s : State) (i : Nat) : Bool × Bool :=
  match s.inputRec i with
  | some r =>
    let x := s.input i
    let a := x.aDem
    let b := x.bDem r.antival
    (if s.chanAlive .A then a else b, if s.chanAlive .B then b else a)
  | none => (false, false)

def InputSt.faulted (x : InputSt) : Bool := x.discFault || x.tpFault

/-- R227: whether an input demands. -/
def State.demandNow (s : State) (i : Nat) : Bool :=
  match s.inputRec i with
  | some _ =>
    let p := s.indications i
    p.1 || p.2 || (s.input i).faulted
  | none => false

/-- T_disc of an input in nanoseconds (R228). -/
def discNs (r : InputRec) : Nat := r.disc * 500000

/-! ### SLS records (R220) -/

/-- An SLSMAP record is active. -/
def State.slsRecActive (s : State) (k : Nat) (r : SlsRec) : Bool :=
  s.safety.degraded.isSome || (match r.input with
    | some i => s.demandNow i
    | none => (s.slsSt k).hostOn)

def State.slsRecs (s : State) : List (Nat × SlsRec) := (upTo s.safety.img.sls.length).zip s.safety.img.sls

/-- Records that have become active start their SLS_REACH_T at offset `t`; the others stop being monitored. -/
def State.refreshSls (s : State) (t : Nat) : State :=
  s.forEach s.slsRecs fun u p =>
    let on := u.slsRecActive p.1 p.2
    if on = (u.slsSt p.1).active then u
    else u.modSls p.1 fun x => { x with active := on, since := s.now + t, monitoring := false }

/-! ### The stop matrix (R234) -/

/-- Zones of a map, bit z for zone z. -/
def mapZones (m : Nat) : List Nat := (upTo 16).filter fun z => bitN m z

/-- The change at offset `t` comes too late for this tick's downstream window (Table 8.6). -/
def State.lateForWindow (s : State) (t : Nat) : Bool := decide (s.P - 8750 < t + 1000)

/-- The STO plane of an input acts on its zones. An island whose own channel demands commands the safe level at offset `t`;
the other hears of it over the cross-link (R211). -/
def State.matrixSto (s : State) (i t : Nat) : State :=
  let p := s.indications i
  let own := !p.1 && !p.2
  match s.inputRec i with
  | some r => s.forEach (mapZones r.stoMap) fun u z =>
    u.stopZoneBy z 1 (some i) (u.lateForWindow t) (ZoneSt.withdraw (u.now + t) (own || p.1) (own || p.2))
  | none => s

/-- What follows from an input's indications after a change: RESET_ARMED, the matrix and the SLS records. A run of
discrepancy, and a pair of R455 still open, are over once the indications that count agree, as when a channel is ignored from
now on (R228, R239). -/
def State.inputActs (s : State) (i t : Nat) : State :=
  let p := s.indications i
  let s1 := s.modInput i fun x => { x with
    armed := x.armed || (x.faulted && p.1 && p.2)
    runStart := if p.1 = p.2 then none else x.runStart
    runFault := x.runFault && !decide (p.1 = p.2) }
  let s1 := if p.1 = p.2 then s1.modRec fun x => { x with siPairs := tblSet x.siPairs i none } else s1
  let s1 := if s1.demandNow i then s1.matrixSto i t else s1
  s1.refreshSls t

/-- Every input acts anew. -/
def State.inputsAct (s : State) : State := s.forEach s.safety.img.inputs fun u r => u.inputActs r.input 0

/-- The inputs of a SAFETY image just loaded: their filters start with both levels low, and an input whose indications
differ at those levels starts a run of discrepancy. -/
def State.inputsBegin (s : State) : State :=
  (s.forEach s.safety.img.inputs fun u r =>
    let p := u.indications r.input
    (u.modRec fun x => { x with siPairs := tblSet x.siPairs r.input none }).modInput r.input fun x => { x with
      qualA := u.now, qualB := u.now, runStart := if p.1 = p.2 then none else some u.now, aFirst := p.1 }).inputsAct

/-- An input fault latches: discrepancy, or a test-pulse fault (R228, R232, R233). -/
def State.latchInput (s : State) (i t : Nat) (disc : Bool) : State :=
  (s.modInput i fun x => if disc then { x with discFault := true } else { x with tpFault := true }).inputActs i t

/-! ### SI_EDGE pairs (R455) -/

/-- The two words of a stamp: nanoseconds, then seconds. -/
def stampArgs (t : DevTime) : List Nat := [t.ns, t.sec % 2 ^ 32]

/-- The record of a closed pair. -/
def State.siEdge (s : State) (i : Nat) (p : SiPair) (aDem bDem : Bool) (second : Option DevTime) (fault reverted : Bool) :
    State :=
  let chgA := p.firstIsA || second.isSome
  let chgB := !p.firstIsA || second.isSome
  let w := i % 32 + 32 * b2n aDem + 64 * b2n bDem + 128 * b2n chgA + 256 * b2n chgB + 512 * b2n fault + 1024 * b2n reverted
  let s2 := (second.map stampArgs).getD [0, 0]
  let args := if p.firstIsA then w :: stampArgs p.stamp ++ s2 else w :: s2 ++ stampArgs p.stamp
  let t := s.modRec fun x => { x with siPairs := tblSet x.siPairs i none }
  if bitN (s.pU 0xB004 s.dev) i then t.emitAt evSiEdge s.devRef args (some p.stamp) else t

def State.siPair (s : State) (i : Nat) : Option SiPair := tblGet none s.recd.siPairs i

/-- An indication of channel `c` has changed to `v`; the two indications are now `p`. A change that makes them equal opens no pair:
it ends what a fault has closed. -/
def State.siChange (s : State) (i : Nat) (c : Chan) (v : Bool) (p : Bool × Bool) (t : Nat) (fault : Bool) : State :=
  match s.siPair i with
  | none =>
    if p.1 = p.2 ∧ !fault then s else
    let q : SiPair := { firstIsA := decide (c = .A), former := !v, aDem := p.1, bDem := p.2, stamp := s.timeAt t }
    let s1 := s.modRec fun x => { x with siPairs := tblSet x.siPairs i (some q) }
    if fault then s1.siEdge i q p.1 p.2 none true false else s1
  | some q =>
    if q.firstIsA = decide (c = .A) then
      (if v = q.former ∧ !fault then s.siEdge i q q.aDem q.bDem none false true
       else if fault then s.siEdge i q p.1 p.2 none true false else s)
    else if v ≠ q.former ∨ fault then s.siEdge i q p.1 p.2 (some (s.timeAt t)) fault false
    else s

/-- A discrepancy fault closes the open pair. -/
def State.siFault (s : State) (i : Nat) : State :=
  match s.siPair i with
  | some q => s.siEdge i q (s.indications i).1 (s.indications i).2 none true false
  | none => s

/-! ### SI_QUALIFY and SI_DISCREPANCY -/

/-- A discrepancy fault of an input, after a run of `len` nanoseconds. -/
def State.discrepancy (s : State) (i t len : Nat) : State :=
  let x := s.input i
  let s1 := s.emit evSiDiscrepancy s.devRef [i, len / 1000, if x.aFirst then 1 else 2]
  (s1.modInput i fun y => { y with runFault := y.runStart.isSome }).latchInput i t true

/-- A channel's qualified level changes at offset `t` (R226). -/
def State.siQualifyOp (s : State) (i : Nat) (c : Chan) (level : Bool) (t : Nat) (r : InputRec) : State :=
  let old := s.indications i
  let x := s.input i
  let s1 := s.modInput i fun y => match c with
    | .A => { y with aQ := level, qualA := s.now + t }
    | .B => { y with bQ := level, qualB := s.now + t }
  let new := s1.indications i
  let now := s.now + t
  let changed : Bool := match c with | .A => old.1 != new.1 | .B => old.2 != new.2
  let v := match c with | .A => new.1 | .B => new.2
  let ends := x.runStart.isSome && new.1 = new.2
  let len := now - x.runStart.getD now
  let fault := ends && !x.discFault && decide (discNs r ≤ len)
  let s2 := if changed then s1.siChange i c v new t fault else s1
  let s3 := s2.modInput i fun y => { y with
    runStart := if new.1 = new.2 then none else if x.runStart.isSome then x.runStart else some now
    aFirst := if x.runStart.isSome then x.aFirst else decide (c = .A)
    runFault := y.runFault && !decide (new.1 = new.2)
    discLast := if ends && !x.runFault && decide (len < discNs r) then Nat.min 65535 (len / 100000) else y.discLast }
  if fault then s3.discrepancy i t len else s3.inputActs i t

/-- The island of a channel. -/
def chanIsland : Chan → Island
  | .A => .madder
  | .B => .woad

/-- A run of FILTER samples at offset `t` lies wholly after the channel's last qualification and outside its last masked
window, so a new level may be qualified (R226, R231). -/
def State.filterRan (s : State) (i : Nat) (c : Chan) (t : Nat) (r : InputRec) : Bool :=
  let x := s.input i
  match c with
  | .A => !x.maskA && ranFor (r.filter * 20) (s.now + t - x.qualA) && ranFor (r.filter * 20) (s.now + t - x.openA)
  | .B => !x.maskB && ranFor (r.filter * 20) (s.now + t - x.qualB) && ranFor (r.filter * 20) (s.now + t - x.openB)

/-- SI_QUALIFY. An ignored channel goes on qualifying its level; only its indications do not count (R239). -/
def execSiQualify (input : Fin 32) (chan : Chan) (level : Bool) (t : Nat) (s : State) : Out :=
  let x := s.input input.val
  let old := match chan with | .A => x.aQ | .B => x.bQ
  .next (match s.inputRec input.val with
    | some r =>
      if !s.filterRan input.val chan t r || old = level || !s.islandAlive (chanIsland chan) then s else s.siQualifyOp input.val chan level t r
    | none => s)

/-- R228: the indications that count differ, and their run has reached K samples by either island's clock, 100 ppm and 40 ns
apart. -/
def State.discrepancyDue (s : State) (i t : Nat) (r : InputRec) : Bool :=
  match (s.input i).runStart with
  | some n => !(s.input i).discFault && (s.indications i).1 != (s.indications i).2 && decide (discNs r ≤ s.now + t - n + 40 + discNs r / 10000)
  | none => false

def execSiDiscrepancy (input : Fin 32) (t : Nat) (s : State) : Out :=
  .next (match s.inputRec input.val with
    | some r =>
      if s.discrepancyDue input.val t r then
        (s.siFault input.val).discrepancy input.val t (s.now + t - ((s.input input.val).runStart.getD 0))
      else s
    | none => s)

/-! ### Test pulses (R230 to R233) -/

def State.testRec (s : State) (tp : Nat) : Option TestRec := s.safety.img.tests.find? fun r => r.tp = tp

/-- The test pulse output that feeds a channel. -/
def feeds (r : InputRec) (tp : Nat) (c : Chan) : Bool := match c with | .A => r.tpA = tp | .B => r.tpB = tp

/-- The mask of every channel that an output feeds, with the end of the window in nanoseconds. -/
def State.setMasks (s : State) (tp : Nat) (on : Bool) (till : Nat) : State :=
  s.forEach s.safety.img.inputs fun u r => u.modInput r.input fun x =>
    { x with maskA := if feeds r tp .A then on else x.maskA, openA := if feeds r tp .A then till else x.openA
             maskB := if feeds r tp .B then on else x.maskB, openB := if feeds r tp .B then till else x.openB }

/-- The island that drives a test-pulse output. -/
def tpIsland (tp : Nat) : Island := if tp < 4 then .madder else .woad

/-- Pulse and tail of an output, ns. -/
def maskNs (r : TestRec) : Nat := (r.width + r.tail) * 1000

/-- The device time at offset `t` is the slot of an output's pulse in its period (R230). -/
def State.pulseSlot (s : State) (r : TestRec) (t : Nat) : Bool :=
  let x := s.timeAt t
  decide ((x.sec * 1000000000 + x.ns) % (r.period * 1000000) = r.tp * (r.period * 125000))

/-- TPk is low: its pulse has started less than WIDTH before T0 of this tick (R230). -/
def State.tpLow (s : State) (tp : Nat) : Bool :=
  (s.tp tp).low && (s.testRec tp).any fun r => decide (s.now < (s.tp tp).startNs + r.width * 1000)

def State.tpStart (s : State) (tp t : Nat) (r : TestRec) : State :=
  let high := fun (f : InputSt → Bool) => (s.safety.img.inputs.filter fun r => f (s.input r.input)).map fun r => r.input
  (s.modTp tp fun x => { x with low := true, startNs := s.now + t, beforeA := high fun x => x.aQ, beforeB := high fun x => x.bQ }
    ).setMasks tp true (s.now + t + maskNs r)

/-- R230; a lost island's output is high-impedance and pulses no more (R238). -/
def execTpPulseStart (tp : Fin 8) (t : Nat) (s : State) : Out :=
  .next (match s.testRec tp.val with
    | some r => if s.islandAlive (tpIsland tp.val) && s.pulseSlot r t then s.tpStart tp.val t r else s
    | none => s)

/-- Table 8.5: the check that a channel fails, if any: 1 FOLLOW, 2 CROSS. -/
def State.pulseFails (s : State) (tp : Nat) (o : PulseObs) : Option Nat :=
  match s.inputRec o.input.val with
  | none => none
  | some r =>
    let before := match o.chan with | .A => (s.tp tp).beforeA | .B => (s.tp tp).beforeB
    let level := match o.chan with | .A => (s.input o.input.val).aQ | .B => (s.input o.input.val).bQ
    if !before.contains o.input.val || !s.chanAlive o.chan then none
    else if feeds r tp o.chan then (if o.anyHigh then some 1 else none)
    else if level && o.allLow then some 2 else none

def State.tpEnd (s : State) (tp t : Nat) (obs : List PulseObs) : State :=
  let s1 := s.forEach obs fun u o =>
    match s.pulseFails tp o with
    | some k => (u.emit evTpFault u.devRef [o.input.val, chanCode o.chan, k]).latchInput o.input.val t false
    | none => u
  let till := (s.tp tp).startNs + ((s.testRec tp).elim 0 maskNs)
  (s1.setMasks tp false till).modTp tp fun x => { x with low := false, beforeA := [], beforeB := [] }

/-- The pulse and its tail have passed (R231, R232). -/
def State.pulsePassed (s : State) (tp t : Nat) : Bool :=
  (s.tp tp).low && (s.testRec tp).all fun r => ranFor (maskNs r) (s.now + t - (s.tp tp).startNs)

def execTpPulseEnd (tp : Fin 8) (t : Nat) (obs : List PulseObs) (s : State) : Out :=
  .next (if s.pulsePassed tp.val t then s.tpEnd tp.val t obs else s)

def State.tpOutFaultOp (s : State) (tp : Nat) : State :=
  let s1 := (s.modTp tp fun x => { x with outFault := true }).emit evTpOutFault s.devRef [tp]
  s1.forEach (s.safety.img.inputs.filter fun r => feeds r tp .A || feeds r tp .B) fun u r => u.latchInput r.input 0 false

/-- R233: every TP pin is read back, one without a TEST record against its strap-learned level. -/
def execTpOutFault (tp : Fin 8) (s : State) : Out := .next (s.tpOutFaultOp tp.val)

/-! ### Channel faults and degraded mode (R237 to R240) -/

/-- A channel fault: degraded mode from the next tick, or STO of every zone at once for a further one (R240). -/
def State.channelFault (s : State) (attributed : Option Island) : State :=
  if s.safety.degraded.isSome || s.safety.degPending.isSome then
    (s.noteAllStopped.modSafety fun x => { x with secondFault := true }).stopAllZones 5
  else s.modSafety fun x => { x with degPending := some attributed }

/-- A verdict attributes the fault: the attributed form from the next tick (R239). -/
def State.attributeFault (s : State) (e : Island) : State := s.modSafety fun x => { x with degPending := some (some e) }

/-- Channel codes of SAFE_CHANNEL_FAULT and SEP_CHANNEL_FAULT: Madder 1, Woad 2, unattributed 3. -/
def attrCode : Option Island → Nat
  | some e => islandCode e
  | none => 3

/-- Item codes, in the order of Table 8.8. -/
def ccCode : CcItem → Nat
  | .inputs => 1 | .zones => 2 | .ss1 => 3 | .lambda => 4 | .crc => 5 | .crystal => 6 | .pin => 7

def State.ccCount (s : State) (k : Nat) : Nat := tblGet 0 s.safety.ccCounts k

/-- λ of an arm differs between the islands by more than 0.02. -/
def State.lambdaDiffers (s : State) : Bool :=
  s.armList.any fun g => decide (1311 ≤ (((s.sep.m.arm g).lambda : Int) - (s.sep.w.arm g).lambda).natAbs)

/-- R238: only a crystal and a configuration CRC failure are attributed at detection. -/
def ccAttributed (item : CcItem) (attributed : Option Island) : Option Island :=
  match item with
  | .crc => attributed
  | .crystal => attributed
  | _ => none

def State.safeChannelFaultOp (s : State) (item : CcItem) (attributed : Option Island) : State :=
  let a := ccAttributed item attributed
  let t := s.modSafety fun x => { x with
    ccCounts := tblSet x.ccCounts (ccCode item) 4
    directed := x.directed || a.isNone, directedItem := if a.isNone then ccCode item else x.directedItem }
  (t.emit evSafeChannelFault t.devRef [attrCode a, ccCode item]).channelFault a

def execSafeChannelFault (item : CcItem) (attributed : Option Island) (s : State) : Out :=
  .next (if item ≠ .pin ∧ s.ccCount (ccCode item) = 3 then s.safeChannelFaultOp item attributed else s)

/-- A zone pin that differs from its command, attributed to the island that owns it (R237, R238). A pin that reads the
safe level under a command to run puts the zone in STO (R212). -/
def execPinReadbackFault (island : Island) (zone : Fin 16) (s : State) : Out :=
  let z := s.zone zone.val
  let known := match island with | .madder => z.stuckA.isSome | .woad => z.stuckB.isSome
  let runs := s.zoneRuns island zone.val
  let f := fun (x : ZoneSt) => match island with
    | .madder => { x with stuckA := some runs }
    | .woad => { x with stuckB := some runs }
  .next (if known || !s.islandAlive island then s
    else
      let t := if s.zoneSto zone.val then s.modZone zone.val f else s.zoneIntoSto zone.val 5 none false f
      (t.emit evSafeChannelFault t.devRef [islandCode island, 7]).channelFault (some island))

/-- Degraded mode begins, or takes its attributed form, at T0 of a tick (R239). -/
def State.enterDegraded (s : State) : State :=
  match s.safety.degPending with
  | none => s
  | some a =>
    match s.safety.degraded with
    | some d => (s.modSafety fun x => { x with degPending := none, degraded := some { d with attributed := a } }).inputsAct
    | none =>
      let t := s.modSafety fun x => { x with
        degPending := none, degraded := some { attributed := a, entry := s.tick.no } }
      let t := (t.emit evSafeDegraded t.devRef [match a with | some e => islandCode (otherIsland e) | none => 3]).inputsAct.refreshSls 0
      let t := t.forEach (t.queues.map fun p => BitVec.ofNat 32 p.1) fun u q =>
        match (u.queue q).segs with
        | g :: r => if (u.queue q).plan.isSome then
            (u.outcomes q r ocFlushed).modQueue q fun x => { x with segs := [g] }
          else u.dropQueue q ocFlushed
        | [] => u
      t.forEach (t.axes.map fun p => p.1) State.homeFail

/-- R240: SAFE_T_DEG has elapsed. -/
def execSafeDegExpired (s : State) : Out :=
  .next (match s.safety.degraded with
    | some d =>
      if !d.expired && decide (s.pU 0x7013 s.dev * 1000000 ≤ (s.tick.no - d.entry) * s.P) then
        ((s.modSafety fun x => { x with degraded := some { d with expired := true } }).emit evSafeDegExpired s.devRef
          [s.tick.cycle.toNat]).noteAllStopped.ss1AllZones 4 (s.tick.no + 1)
      else s
    | none => s)

/-- R238: the survivor drives its pins to the safe level; every zone is in STO. `cause` 1 rail, 2 clock. -/
def State.islandLostOp (s : State) (e : Island) (cause : Nat) : State :=
  let alive := match e with | .madder => s.safety.madderAlive | .woad => s.safety.woadAlive
  if alive then
    let t := s.modSafety fun x =>
      match e with | .madder => { x with madderAlive := false } | .woad => { x with woadAlive := false }
    ((t.emit evIslandLost t.devRef [islandCode e, cause]).stopAllZones 5).inputsAct
  else s

def execIslandLost (island : Island) (clock : Bool) (s : State) : Out :=
  .next (s.islandLostOp island (if clock then 2 else 1))

/-- R493: a rail invalid for more than 1 µs. -/
def execRailInvalid (r : Rail) (ns : Nat) (s : State) : Out :=
  let t := s.modPower fun x => { x with rails := tblSet x.rails (railNo r) false }
  .next (if ns ≤ 1000 then s
    else if s.power.reset then t
    else match r with
      | .safeM => t.islandLostOp .madder 1
      | .safeW => t.islandLostOp .woad 1
      | _ => t.internalReset)

/-- R464: with no T0 for 2P each island drives every zone output to the safe level. -/
def execRefclkLoss (s : State) : Out :=
  .next ((s.modPower fun x => { x with refclk := false }).stopAllZones 0)

/-- R524: an island's sensor reads 120 °C or more. -/
def execThermalTrip (island : Island) (temp : Int) (s : State) : Out :=
  let known := match island with | .madder => s.health.tripM | .woad => s.health.tripW
  let t := s.modHealth fun x => match island with
    | .madder => { x with tripM := x.tripM || decide (1200 ≤ temp), tempM := temp }
    | .woad => { x with tripW := x.tripW || decide (1200 ≤ temp), tempW := temp }
  .next (if 1200 ≤ temp ∧ !known then
      (t.emit evThermalTrip t.devRef [islandCode island, argI temp]).ss1AllZones 0 (s.tick.no + 1)
    else t)

/-! ### SS1 monitoring (R218, Table 8.3) -/

/-- The axes that a request covers: those of its axes that are under SS1. -/
def State.coveredAxes (s : State) (r : Ss1Req) : List Nat := r.axes.filter fun a => s.underSs1 a

/-- The envelope of an axis at an island, 2⁻¹⁶ turn/s, as an exact rational. -/
def State.ss1Envelope (s : State) (e : Island) (a : Nat) (m : Ss1Mon) : Rat :=
  let v0 := match e with | .madder => m.v0M | .woad => m.v0W
  maxQ 0 ((v0 : Rat) - (s.pU 0x7002 a * 16 : Nat) * secs ((s.tick.no - m.t0) * s.P)) + (s.pU 0x7003 a : Nat)

/-- The first covered axis above its envelope at an island. -/
def State.ss1Above (s : State) (e : Island) (r : Ss1Req) : Option (Nat × Nat × Nat) :=
  (s.coveredAxes r).findSome? fun a =>
    match tblGet none s.safety.mon a with
    | some m =>
      let env := s.ss1Envelope e a m
      if m.t0 < s.tick.no ∧ env < (s.islandSpeed e a : Rat) then some (a, s.islandSpeed e a, (floorQ env).toNat) else none
    | none => none

def State.ss1Req (s : State) (id : Nat) : Option Ss1Req := s.safety.reqs.find? fun r => r.id = id && r.begun

def State.dropReq1 (s : State) (id : Nat) : State :=
  s.modSafety fun x => { x with reqs := x.reqs.filter fun r => r.id ≠ id }

/-- Requests other than `r` that the same stop has ended, `t` being the state after it, and whose own condition held. -/
def State.alsoEnded (s t : State) (r : Ss1Req) (holds : Ss1Req → Bool) : List Ss1Req :=
  s.safety.reqs.filter fun q => q.begun && q.id ≠ r.id && holds q && !(t.safety.reqs.any fun y => y.id = q.id)

/-- Axis STO of the axes that requests of axis scope covered before the stop (R218, R223). -/
def State.overlapSto (t s : State) (qs : List Ss1Req) : State :=
  t.forEach qs fun u q => match q.scope with
    | .zones _ => u
    | .axis => (u.forEach (s.coveredAxes q) fun v a => v.setAxisSto (!q.fromDemand) a).resetNeeded q

/-- STO of the request's scope. -/
def State.ss1Sto (s : State) (r : Ss1Req) (cause : Nat) : State :=
  match r.scope with
  | .zones zs => (s.forEach zs fun u z => u.stopZone z cause (u.zone z).causeInput false).dropReq1 r.id
  | .axis =>
    let t := s.forEach (s.coveredAxes r) fun u a => u.setAxisSto (!r.fromDemand) a
    ((t.resetNeeded r).dropReq1 r.id).pruneSs1

/-- The record of a breach that an island finds. -/
def State.breachRecord (s : State) (e : Island) (r : Ss1Req) : State :=
  match s.ss1Above e r with
  | some (a, v, env) => s.emit evSs1Breach (mkRef clsAxis a) [v, env, islandCode e]
  | none => s

/-- Both islands are judged at once, so a breach found by both gives two records and one stop. -/
def execSs1Breach (request : Nat) (island : Island) (s : State) : Out :=
  .next (match s.ss1Req request with
    | some r =>
      if (s.ss1Above island r).isSome && s.islandDecides island then
        let u := s.breachRecord island r
        let u := if s.islandDecides (otherIsland island) then u.breachRecord (otherIsland island) r else u
        let t := u.ss1Sto r 7
        t.overlapSto s (s.alsoEnded t r fun q => (s.ss1Above island q).isSome)
      else s
    | none => s)

/-- Arguments of SS1_END (Table 8.15). -/
def State.ss1EndArgs (s : State) (r : Ss1Req) (reason : Nat) : List Nat :=
  match r.scope with
  | .zones zs => [1, zs.foldl (fun n z => n ||| 2 ^ z) 0, reason]
  | .axis => [2, (s.coveredAxes r).length, reason]

/-- The end of a request, and of the overlapping ones that meet the same condition and end in the same STO: SS1_END is
recorded once for each (R218). -/
def State.ss1Finish (s : State) (r : Ss1Req) (reason : Nat) (holds : Ss1Req → Bool) : State :=
  let t := (s.emit evSs1End r.obj (s.ss1EndArgs r reason)).ss1Sto r r.cause
  let qs := s.alsoEnded t r holds
  (t.overlapSto s qs).forEach qs fun u q => u.emit evSs1End q.obj (s.ss1EndArgs q reason)

/-- Every covered axis is at standstill at some island. -/
def State.ss1Still (s : State) (r : Ss1Req) : Bool :=
  [Island.madder, .woad].any fun e => s.islandDecides e &&
    (s.coveredAxes r).all fun a => decide (s.islandSpeed e a ≤ s.pU 0x7005 a)

def execSs1End (request : Nat) (s : State) : Out :=
  .next (match s.ss1Req request with
    | some r => if decide (r.t0 < s.tick.no) && s.ss1Still r then s.ss1Finish r 1 s.ss1Still else s
    | none => s)

/-- SS1_TMAX of every covered axis has passed since its own t₀. -/
def State.ss1Over (s : State) (r : Ss1Req) : Bool :=
  (s.coveredAxes r).all fun a => match tblGet none s.safety.mon a with
    | some m => decide (s.pU 0x7004 a * 1000000 ≤ (s.tick.no - m.t0) * s.P)
    | none => true

def execSs1Tmax (request : Nat) (s : State) : Out :=
  .next (match s.ss1Req request with
    | some r => if decide (r.t0 < s.tick.no) && s.ss1Over r then s.ss1Finish r 2 s.ss1Over else s
    | none => s)

/-! ### SS1 plane (R235) -/

/-- The demands on the SS1 plane, read at the intake: SS1 of the mapped zones that are not already stopping. -/
def State.ss1PlaneRead (s : State) : State :=
  s.forEach s.safety.img.inputs fun u r =>
    if !u.demandNow r.input then u
    else
      let busy := (u.safety.reqs.filter fun q => q.begun).flatMap fun q => match q.scope with | .zones zs => zs | .axis => []
      let zs := (mapZones r.ss1Map).filter fun z => !u.zoneSto z && !busy.contains z
      match zs with
      | [] => u
      | z :: rest =>
        let v := u.forEach zs fun w z => w.modZone z fun x => { x with causeInput := some r.input }
        let obj := if rest.isEmpty then mkRef clsZone (v.dev * 16 + z) else v.devRef
        (v.requestSs1 (dedup (zs.flatMap v.zoneAxes)) (.zones zs) obj 2 v.tick.no false).beginDueSs1

/-! ### SLS (R220 to R222) -/

/-- Records of a group whose SLS_REACH_T has passed by 19,000 ns of the tick, when the islands publish, come under
monitoring. -/
def execSlsMonitorStart (group : Nat) (s : State) : Out :=
  .next (s.forEach s.slsRecs fun u p =>
    let x := u.slsSt p.1
    if p.2.group = group ∧ x.active ∧ x.since + u.pU 0x7011 u.dev * 1000000 ≤ u.now + 19000 then
      u.modSls p.1 fun y => { y with monitoring := true }
    else u)

/-- The active records that cover an axis or an arm, each with its limit, its group and its place. -/
def State.slsCover (s : State) (w : Word) : List (Nat × SlsRec) :=
  s.slsRecs.filter fun p => (s.slsSt p.1).active &&
    (w = mkRef clsGroup p.2.group || (s.ancestors w).contains p.2.group)

def lowest : List Nat → Option Nat
  | [] => none
  | a :: r => some (r.foldl Nat.min a)

/-- The lowest limit in force for an arm, SAFE_DEG_SLS in degraded mode included; none without SLS. -/
def State.armSlsLimit (s : State) (g : Nat) : Option Nat :=
  let l := (s.slsCover (mkRef clsGroup g)).map fun p => p.2.limit
  lowest (if s.safety.degraded.isSome then s.pU 0x7012 s.dev :: l else l)

/-- SLS covers an axis outside every arm. -/
def State.axisSlsOn (s : State) (a : Nat) : Bool :=
  s.safety.degraded.isSome || !(s.slsCover (mkRef clsAxis a)).isEmpty

/-- Degraded mode's own limit is monitored. -/
def State.degSlsMonitored (s : State) : Bool :=
  match s.safety.degraded with
  | some d => decide (s.pU 0x7011 s.dev * 1000000 ≤ (s.tick.no - d.entry) * s.P)
  | none => false

/-- The limits of an arm or an axis that are monitored: each record from SLS_REACH_T after it became active. -/
def State.slsMonitored (s : State) (w : Word) : List Nat :=
  let l := ((s.slsCover w).filter fun p => (s.slsSt p.1).monitoring).map fun p => p.2.limit
  if s.degSlsMonitored then s.pU 0x7012 s.dev :: l else l

/-! ### Releases (R223, R236) -/

/-- The inputs mapped to a zone in either plane. -/
def State.zoneInputs (s : State) (z : Nat) : List InputRec :=
  s.safety.img.inputs.filter fun r => bitN r.stoMap z || bitN r.ss1Map z

def tripHolds (trip : Bool) (temp : Int) : Bool := trip && decide (1100 ≤ temp)

/-- R236, without RESTART. -/
def State.zoneReleasable (s : State) (z : Nat) : Bool :=
  (s.zoneRec z).isSome && !(s.zone z).released && s.safety.armed && (s.zone z).hostReq = 0 &&
  (s.zone z).stuckA ≠ some true && (s.zone z).stuckB ≠ some true &&
  ((s.zoneInputs z).all fun r => !s.demandNow r.input) &&
  !((s.zoneAxes z).any fun a => s.underSs1 a) &&
  !(s.safety.reqs.any fun r => match r.scope with | .zones zs => zs.contains z | .axis => false) &&
  !(match s.safety.degraded with | some d => d.expired | none => false) && !s.safety.secondFault &&
  s.health.supLost.isNone && !s.sep.bothFailed && s.safety.madderAlive && s.safety.woadAlive && s.power.refclk &&
  !tripHolds s.health.tripM s.health.tempM && !tripHolds s.health.tripW s.health.tempW

/-- A zone returns to the run level. -/
def State.releaseZone (s : State) (z : Nat) : State :=
  ((s.modZone z fun x => { x with runM := true, runW := true }).emit evZoneRelease (mkRef clsZone (s.dev * 16 + z)) []).raiseIrq 7

def execZoneRelease (zone : Fin 16) (s : State) : Out :=
  .next (match s.zoneRec zone.val with
    | some r => if r.auto && s.zoneReleasable zone.val then s.releaseZone zone.val else s
    | none => s)

/-- The latched fault of an axis, or of an axis of its arm. -/
def State.armFault (s : State) (a : Nat) : Bool := (s.armAxes a).any fun b => (s.axis b).fault

/-- R223, without the manual reset. The SS1 has ended: none runs on the axis, nor a request that covers it. -/
def State.axisReleasable (s : State) (a : Nat) : Bool :=
  (s.axisSto a).on && !s.underSs1 a && !(s.safety.reqs.any fun r => r.begun && r.scope = .axis && r.axes.contains a) &&
  (match s.armOf a with | some g => decide (s.pU 0x7015 s.dev * 1000000 ≤ (s.armSt g).quiet) | none => true) &&
  (match s.zoneOf a with | some z => s.safety.armed && !s.zoneSto z | none => false) && !s.armFault a

def State.releaseAxis (s : State) (a : Nat) : State := s.modAxisSto a fun _ => {}

def execAxisStoRelease (axis : Nat) (s : State) : Out :=
  .next (if s.axisReleasable axis && !(s.axisSto axis).needReset && s.pU 0x7014 s.dev = 1 then s.releaseAxis axis else s)

/-- R249: a zone has gone ZONE_TEST_INTERVAL without STO. -/
def execZoneTestDue (zone : Fin 16) (s : State) : Out :=
  let z := s.zone zone.val
  let hours := (s.now - z.lastSto) / 3600000000000
  .next (if (s.zoneRec zone.val).isSome && !s.zoneSto zone.val && !z.testDue && decide (s.pU 0x7016 s.dev ≤ hours) then
      (s.modZone zone.val fun x => { x with testDue := true }).emit evZoneTestDue
        (mkRef clsZone (s.dev * 16 + zone.val)) [hours]
    else s)

/-! ### Safety at T0 of a tick -/

/-- Times in STO, degraded mode, and the SS1 requests due. -/
def State.safetyTick (s : State) : State :=
  let s1 := s.forEach s.zoneList fun t z => t.modZone z fun x =>
    { x with late := false, lastSto := if t.zoneSto z then t.now else x.lastSto }
  s1.enterDegraded.beginDueSs1

/-! ### The configuration CRC (R243) -/

/-- The objects of a class on this device, by cell index. -/
def State.objectsOf (s : State) (cls : Nat) : List Nat :=
  match cls with
  | 0 => [s.dev]
  | 1 => s.axisList
  | 2 => sortNat ((s.cell.nodes.filter fun r => r.index / 64 = s.dev).map fun r => r.index)
  | 3 => sortNat (dedup (s.dev * 256 :: (s.cell.groups.filter fun r => r.index / 256 = s.dev).map fun r => r.index))
  | c => (upTo (classRange c)).map fun i => s.dev * classRange c + i

/-- The parameter numbers that enter the CRC, ascending. -/
def chkParams : List (Nat × Nat) :=
  (paramTable.filter fun r => r.chk || (0x5001 ≤ r.num && r.num ≤ 0x5008)).map fun r => (r.num, r.cls)

def State.configBytes (s : State) : List Byte :=
  s.safety.img.body ++ s.sep.kin.body ++ chkParams.flatMap fun p => (s.objectsOf p.2).flatMap fun i => bytesLE 8 (s.raw p.1 i)

def State.configCrc (s : State) : Nat := crc32 s.configBytes

/-- An item of Table 8.8 disagrees: as the islands report it, or by the λ and the CRC that State holds. -/
def State.ccDiffers (s : State) (reported : List CcItem) (i : CcItem) : Bool :=
  reported.contains i || (match i with
    | .lambda => s.lambdaDiffers
    | .crc => s.safety.armed && decide (s.configCrc ≠ s.safety.armedCrc.toNat)
    | _ => false)

/-- The comparison of a tick: an item that disagrees counts, one that agrees starts again. -/
def execSafetyCrossCompare (disagree : List CcItem) (s : State) : Out :=
  .next (s.forEach [CcItem.inputs, .zones, .ss1, .lambda, .crc, .crystal] fun u i => u.modSafety fun x =>
    { x with ccCounts := tblMod 0 x.ccCounts (ccCode i) fun n => if s.ccDiffers disagree i then n + 1 else 0 })

/-- The group CRC of an arm. -/
def State.groupCrc (s : State) (g : Nat) : Nat :=
  let chain := (s.sep.kin.chains.find? fun c => c.group = g).elim [] fun c => c.body
  let caps := (s.sep.kin.caps.filter fun c => c.attach = mkRef clsGroup g).flatMap fun c => c.body
  let axes := s.localAxes (mkRef clsGroup g)
  let zone := (axes.head?.bind s.zoneOf).getD 0
  crc32 (chain ++ caps ++ bytesLE 1 zone ++
    axes.flatMap fun a => (upTo 6).flatMap fun k => bytesLE 8 (s.raw (0x7001 + k) a))

/-! ### Arming (R244, R245) -/

/-- An arm is ABSENT when every axis of it is (R24). -/
def State.armAbsent (s : State) (g : Nat) : Bool := (s.localAxes (mkRef clsGroup g)).all fun a => s.axisAbsent a

/-- An arm's arming takes effect: its pairs are robot pairs, with κ(n−1) = 1. -/
def State.armGroupNow (s : State) (g : Nat) : State :=
  let t := s.modSafety fun x => { x with armedArms := tblSet x.armedArms g true }
  let t := t.modArm g fun _ => {}
  (t.modEng .madder fun e => { e with arms := tblSet e.arms g ({} : ArmEng) }).modEng .woad fun e =>
    { e with arms := tblSet e.arms g ({} : ArmEng) }

/-- The configuration is armed; an absent arm is new until SAFE_ARM_GROUP. -/
def State.armNow (s : State) (crc : Word) : State :=
  let t := s.modSafety fun x => { x with armed := true, armedCrc := crc }
  let t : State := { t with sigma := t.sigma.map fun p => (p.1, { p.2 with recovering := false }) }
  let t := t.forEach t.armList fun u g =>
    if u.armAbsent g then u.modArm g fun x => { x with isNew := true } else u.armGroupNow g
  let t := t.modSafety fun x => { x with
    zones := x.zones.map fun p => (p.1, { p.2 with cause := if p.2.released then p.2.cause else 6 }) }
  (t.emit evSafeArmed t.devRef [crc.toNat]).raiseIrq 7

def execSafeArm (h : Hdr) (crc : Word) (s : State) : Out :=
  .next (if s.safety.armed then s.done 0x0010 h stArmed
    else if !(s.safety.img.loaded && s.sep.kin.loaded) then s.done 0x0010 h stIncomplete
    else if crc.toNat ≠ s.configCrc then s.done 0x0010 h stCrcMismatch
    else (s.begin h).modSafety fun x => { x with pendArms := x.pendArms ++ [(h, crc)] })

/-- The pending SAFE_ARMs at a planning boundary, after its commits. -/
def State.armBoundary (s : State) : State :=
  let t := s.forEach s.safety.pendArms fun u p =>
    if u.safety.armed then u.done 0x0010 p.1 stArmed
    else if p.2.toNat = u.configCrc then (u.armNow p.2).done 0x0010 p.1 stOk
    else u.done 0x0010 p.1 stCrcMismatch
  let t := t.forEach s.safety.pendGroups fun u p =>
    if p.2.2.toNat = u.groupCrc p.2.1 then
      ((u.armGroupNow p.2.1).emit evSafeArmed (mkRef clsGroup p.2.1) [p.2.2.toNat]).done 0x0011 p.1 stOk
    else u.done 0x0011 p.1 stCrcMismatch
  t.modSafety fun x => { x with pendArms := [], pendGroups := [] }

/-- The arm that SAFE_ARM_GROUP names must be new (R245). -/
def execSafeArmGroup (h : Hdr) (crc : Word) (s : State) : Out :=
  let g := refIndex h.obj
  .next (if !s.safety.img.loaded then s.done 0x0011 h stIncomplete
    else if !s.armList.contains g then s.done 0x0011 h stBadObject
    else if !s.safety.armed then s.done 0x0011 h stNotReady
    else if !(s.armSt g).isNew then s.done 0x0011 h stNoEffect
    else if crc.toNat ≠ s.groupCrc g then s.done 0x0011 h stCrcMismatch
    else (s.begin h).modSafety fun x => { x with pendGroups := x.pendGroups ++ [(h, g, crc)] })

def execSafeDisarm (h : Hdr) (s : State) : Out :=
  .next (if !s.safety.armed then s.done 0x0012 h stNoEffect
    else if s.zoneList.any fun z => !s.zoneSto z then s.done 0x0012 h stBusy
    else
      (((s.modSafety fun x => { x with armed := false, armedCrc := 0, armedArms := [] }).emit evSafeDisarmed s.devRef
        [s.tick.cycle.toNat]).raiseIrq 7).done 0x0012 h stOk)

/-! ### SAFE_RESET, SAFE_STOP, SAFE_SLS -/

/-- The zones a SAFE_RESET is addressed to. -/
def resetZones (h : Hdr) : List Nat :=
  if refClass h.obj = clsZone then [refIndex h.obj % 16] else upTo 16

/-- Clear the latched faults of inputs. -/
def State.clearInputs (s : State) (l : List Nat) : State :=
  s.forEach l fun u i => (u.modInput i fun x => { x with discFault := false, tpFault := false, armed := false }).inputActs i 0

def State.safeResetOp (s : State) (h : Hdr) : State :=
  let zs := resetZones h
  let ins := (s.safety.img.inputs.filter fun r => zs.any fun z => bitN r.stoMap z || bitN r.ss1Map z).map fun r => r.input
  let faulted := ins.filter fun i => (s.input i).faulted
  if faulted.any fun i => !(s.input i).armed then s.done 0x0013 h stNotReady
  else
    let nf := faulted.foldl (fun n i => n + b2n (s.input i).discFault + b2n (s.input i).tpFault) 0
    let s1 := s.clearInputs faulted
    let rel := zs.filter s1.zoneReleasable
    let s2 := s1.forEach rel fun u z => u.releaseZone z
    let axes := (zs.flatMap s2.zoneAxes).filter s2.axisReleasable
    let s3 := s2.forEach axes fun u a => u.releaseAxis a
    let any := 0 < nf ∨ !rel.isEmpty ∨ !axes.isEmpty
    (s3.emit evSafeResetDone h.obj [nf, rel.length]).done 0x0013 h (if any then stOk else stNoEffect)

/-- R246, R528. -/
def execSafeReset (h : Hdr) (s : State) : Out :=
  .next (if s.safety.img.loaded then s.safeResetOp h else s.done 0x0013 h stIncomplete)

def State.safeStopOp (s : State) (h : Hdr) (mode : Nat) : State :=
  let z := refIndex h.obj % 16
  let zs := s.zone z
  if (s.zoneRec z).isNone then s.done 0x0014 h stNoEffect
  else if mode = 0 then
    (if zs.hostReq = 0 then s.done 0x0014 h stNoEffect
     else (s.modZone z fun x => { x with hostReq := 0 }).done 0x0014 h stOk)
  else
    let t := s.modZone z fun x => { x with hostReq := Nat.max x.hostReq mode }
    let t := if mode = 2 then t.stopZone z 3 none false
      else if t.zoneSto z then t
      else (t.requestSs1 (t.zoneAxes z) (.zones [z]) (mkRef clsZone (t.dev * 16 + z)) 3 t.tick.no false).beginDueSs1
    t.done 0x0014 h stOk

/-- R224, R528; a MODE above 2 is a form error (R418). -/
def execSafeStop (h : Hdr) (mode : Word) (s : State) : Out :=
  .next (if 2 < mode.toNat then s.done 0x0014 h stArg
    else if s.safety.img.loaded then s.safeStopOp h mode.toNat
    else s.done 0x0014 h stIncomplete)

def State.safeSlsOp (s : State) (h : Hdr) (on : Bool) : State :=
  let ks := s.slsRecs.filter fun p => p.2.group = refIndex h.obj && p.2.input.isNone
  if ks.isEmpty then s.done 0x0015 h stNoEffect
  else ((s.forEach ks fun u p => u.modSls p.1 fun x => { x with hostOn := on }).refreshSls 0).done 0x0015 h stOk

/-- R224, R528; an ON above 1 is a form error (R418). -/
def execSafeSls (h : Hdr) (on : Word) (s : State) : Out :=
  .next (if 1 < on.toNat then s.done 0x0015 h stArg
    else if s.safety.img.loaded then s.safeSlsOp h (on = 1)
    else s.done 0x0015 h stIncomplete)

/-! ### Status words (R250) -/

/-- STATE of a zone (Table 8.13). -/
def State.zoneStateCode (s : State) (z : Nat) : Nat :=
  if !s.safety.armed then 0
  else if s.zoneSto z then
    (if s.zoneReleasable z && !((s.zoneRec z).map fun r => r.auto).getD true then 4 else 3)
  else if s.safety.reqs.any (fun r => r.begun && (match r.scope with | .zones zs => zs.contains z | .axis => false)) then 2
  else 1

/-- ZONE_STATUS (Table 8.13). -/
def State.zoneStatus (s : State) (z : Nat) : Nat :=
  let x := s.zone z
  let dem := (s.zoneInputs z).filter fun r => s.demandNow r.input
  let i := minL 0 (dem.map fun r => r.input)
  s.zoneStateCode z + 8 * b2n (s.zonePinSafe .madder z) + 16 * b2n (s.zonePinSafe .woad z) + 32 * b2n s.safety.degraded.isSome +
  64 * b2n (s.ignoredIsland.isSome) + 128 * b2n x.testDue +
  256 * ((if !s.safety.armed && (s.zoneRec z).isSome then 6 else x.cause) % 8) +
  65536 * (i % 32) + 2097152 * b2n (!dem.isEmpty)

/-- SI_STATUS (Table 8.14). -/
def State.siStatus (s : State) (i : Nat) : Nat :=
  let x := s.input i
  match s.inputRec i with
  | none => b2n x.aQ + 2 * b2n x.bQ
  | some r =>
    b2n x.aQ + 2 * b2n x.bQ + 4 * b2n x.aDem + 8 * b2n (x.bDem r.antival) + 16 * b2n (s.demandNow i) + 32 * b2n x.discFault +
    64 * b2n x.tpFault + 128 * b2n x.armed + 256 * b2n x.maskA + 512 * b2n x.maskB +
    1024 * (if r.antival then 2 else 1) + 65536 * (x.discLast % 65536)

/-- SLS_LAMBDA of an arm: the smaller λ. -/
def State.slsLambda (s : State) (g : Nat) : Nat :=
  Nat.min (s.sep.m.arm g).lambda (s.sep.w.arm g).lambda

end Sys2Proof.Machine
end

