-- ==== Sys2Proof/Machine/Separation.lean ====
section
/-!
DEFINITION. The separation engines of chapter 6: kinematics, the predicted pass and the bound pass, pair states, κ
and stop demands, constraint rows, comparison of the two engines; and the SLS quantities that rest on them (R221,
R222). Every stored result is in the engine's own number format; what its algorithms add to an exact distance is a free
value within Z_num (R169).
-/
namespace Sys2Proof.Machine

/-! ### Vectors and frames (R150) -/

def v3 (x y z : Rat) : V3 := (x, y, z)
def vAdd (a b : V3) : V3 := (a.1 + b.1, a.2.1 + b.2.1, a.2.2 + b.2.2)
def vSub (a b : V3) : V3 := (a.1 - b.1, a.2.1 - b.2.1, a.2.2 - b.2.2)
def vScale (k : Rat) (a : V3) : V3 := (k * a.1, k * a.2.1, k * a.2.2)
def vDot (a b : V3) : Rat := a.1 * b.1 + a.2.1 * b.2.1 + a.2.2 * b.2.2
def vCross (a b : V3) : V3 :=
  (a.2.1 * b.2.2 - a.2.2 * b.2.1, a.2.2 * b.1 - a.1 * b.2.2, a.1 * b.2.1 - a.2.1 * b.1)
def vLen (a : V3) : Rat := sqrtQ (vDot a a)

/-- Micrometres to metres. -/
def umV (p : Int × Int × Int) : V3 := (mkRat p.1 1000000, mkRat p.2.1 1000000, mkRat p.2.2 1000000)

def um (n : Nat) : Rat := mkRat n 1000000

/-- A frame: the three axes and the origin. -/
structure Frame3 where
  x : V3
  y : V3
  z : V3
  p : V3
  deriving DecidableEq, Repr

def Frame3.app (f : Frame3) (v : V3) : V3 :=
  vAdd f.p (vAdd (vScale v.1 f.x) (vAdd (vScale v.2.1 f.y) (vScale v.2.2 f.z)))

def Frame3.dir (f : Frame3) (v : V3) : V3 :=
  vAdd (vScale v.1 f.x) (vAdd (vScale v.2.1 f.y) (vScale v.2.2 f.z))

/-- Rotation by a Q2.30 quaternion: the images of the three axes. -/
def quatCols (q : Int × Int × Int × Int) : V3 × V3 × V3 :=
  let w := mkRat q.1 (2 ^ 30)
  let x := mkRat q.2.1 (2 ^ 30)
  let y := mkRat q.2.2.1 (2 ^ 30)
  let z := mkRat q.2.2.2 (2 ^ 30)
  ((1 - 2 * (y * y + z * z), 2 * (x * y + w * z), 2 * (x * z - w * y)),
   (2 * (x * y - w * z), 1 - 2 * (x * x + z * z), 2 * (y * z + w * x)),
   (2 * (x * z + w * y), 2 * (y * z - w * x), 1 - 2 * (x * x + y * y)))



/-- A direction cosine in an engine's number format (Table 6.13). -/
def cosOf (e : Island) (q : Rat) : Rat :=
  match e with
  | .madder => mkRat (rnd (q * ((2 ^ 30 : Nat) : Rat))) (2 ^ 30)
  | .woad => f32Q q

/-- A coordinate in an engine's number format (Table 6.13). -/
def coordOf (e : Island) (q : Rat) : Rat :=
  match e with
  | .madder => mkRat (rnd (q * ((2 ^ 20 : Nat) : Rat))) (2 ^ 20)
  | .woad => f32Q q

def vCos (e : Island) (a : V3) : V3 := (cosOf e a.1, cosOf e a.2.1, cosOf e a.2.2)
def vCoord (e : Island) (a : V3) : V3 := (coordOf e a.1, coordOf e a.2.1, coordOf e a.2.2)

def Frame3.trans (e : Island) (f : Frame3) (v : V3) : Frame3 := { f with p := vCoord e (f.app v) }

def Frame3.rot (e : Island) (f : Frame3) (q : Int × Int × Int × Int) : Frame3 :=
  let c := quatCols q
  { f with x := vCos e (f.dir c.1), y := vCos e (f.dir c.2.1), z := vCos e (f.dir c.2.2) }

/-- Rotation about the local z axis by an angle in turns. -/
def Frame3.rotZ (e : Island) (f : Frame3) (turn : Rat) : Frame3 :=
  let c := cosTurn turn
  let s := sinTurn turn
  { f with x := vCos e (vAdd (vScale c f.x) (vScale s f.y)), y := vCos e (vAdd (vScale (-s) f.x) (vScale c f.y)) }

def originFrame : Frame3 := { x := (1, 0, 0), y := (0, 1, 0), z := (0, 0, 1), p := (0, 0, 0) }

def baseFrame (e : Island) (c : ChainRec) : Frame3 := (originFrame.trans e (umV c.b)).rot e c.bq

/-- F_j from F_{j−1}, with the joint variable given by a position in turns and the scale length in metres. -/
def jointFrame (e : Island) (f : Frame3) (j : JointRec) (pos scale : Rat) : Frame3 :=
  let g := (f.trans e (umV j.t)).rot e j.q
  if j.prismatic then g.trans e (0, 0, pos * scale) else g.rotZ e pos

/-- F_0 to F_NJ. -/
def framesFrom (e : Island) : Frame3 → List (JointRec × Rat × Rat) → List Frame3
  | f, [] => [f]
  | f, (j, pos, sc) :: r => f :: framesFrom e (jointFrame e f j pos sc) r

/-! ### Chains, capsules and joints of this device -/

def State.chainOf (s : State) (g : Nat) : Option ChainRec := s.sep.kin.chains.find? fun c => c.group = g

def State.armJoints (s : State) (g : Nat) : List Nat := s.localAxes (mkRef clsGroup g)

def State.scaleLen (s : State) (a : Nat) : Rat := um (s.pU 0x1002 a)

/-- The frames of an arm, from positions in turns. -/
def State.armFrames (s : State) (e : Island) (g : Nat) (pos : Nat → Rat) : List Frame3 :=
  match s.chainOf g with
  | some c => framesFrom e (baseFrame e c) ((c.joints.zip (s.armJoints g)).map fun p => (p.1, pos p.2, s.scaleLen p.2))
  | none => []

def State.capRec (s : State) (i : Nat) : Option CapRec := s.sep.kin.caps.find? fun c => c.index = i

/-- A LINK or TOOL capsule (R156). -/
def isRobot (c : CapRec) : Bool := c.kind = 1 || c.kind = 2

def capArm (c : CapRec) : Nat := refIndex c.attach

/-- The robot capsules of an arm. -/
def State.armCaps (s : State) (g : Nat) : List CapRec :=
  s.sep.kin.caps.filter fun c => isRobot c && c.attach = mkRef clsGroup g

/-- The joints that move a robot capsule. -/
def State.capJoints (s : State) (c : CapRec) : List (JointRec × Nat) :=
  match s.chainOf (capArm c) with
  | some ch => (ch.joints.zip (s.armJoints (capArm c))).take c.link
  | none => []

/-! ### Results in an engine's arithmetic (R169) -/

/-- Z_num, 0.05 mm. -/
def zNum : Rat := mkRat 5 100000

/-- What an engine's own arithmetic takes from an exact distance or adds to a term of S_p, toward the restrictive side
(R169): Madder never errs the other way, Woad stays within Z_num either way. -/
def engineErr (e : Island) (k : Nat) : Rat :=
  let x := clampQ (-1) 1 (mkRat (Config.engineError k) (2 ^ 20))
  match e with
  | .madder => absQ x * zNum
  | .woad => x * zNum

/-- A length in an engine's number format, rounded down by Madder (Table 6.13). -/
def lengthDown (e : Island) (q : Rat) : Rat :=
  match e with
  | .madder => mkRat (floorQ (q * ((2 ^ 20 : Nat) : Rat))) (2 ^ 20)
  | .woad => f32Q q

/-- A length in an engine's number format, rounded up by Madder (Table 6.13). -/
def lengthUp (e : Island) (q : Rat) : Rat :=
  match e with
  | .madder => mkRat (ceilQ (q * ((2 ^ 20 : Nat) : Rat))) (2 ^ 20)
  | .woad => f32Q q

/-! ### Capsule quantities (R163) -/

/-- Lever of the joint at the head of the list on a capsule with reach `ends`. -/
def leverOf (rest : List (JointRec × Nat)) (ends : Rat) (prismatic : Bool) : Rat :=
  if prismatic then 1
  else rest.foldl (fun x p => x + vLen (umV p.1.t) + (if p.1.prismatic then um p.1.stroke else 0)) ends

/-- Levers of all joints of a capsule, joint 1 first. -/
def leversOf (ends : Rat) : List (JointRec × Nat) → List Rat
  | [] => []
  | p :: r => leverOf r ends p.1.prismatic :: leversOf ends r

/-- Metres or radians per turn of a joint. -/
def State.perTurn (s : State) (p : JointRec × Nat) : Rat := if p.1.prismatic then s.scaleLen p.2 else 2 * piQ

/-- The two speed bases. -/
inductive Basis where
  | stop | kappa
  deriving DecidableEq

/-- w_j in 2⁻¹⁶ turn/s. -/
def State.speedBasis (s : State) (e : Island) (b : Basis) (a : Nat) : Rat :=
  let w : Rat := ((s.eng e).joint a).vel.natAbs
  match b with
  | .stop => w
  | .kappa =>
    let l := tblGet (0, 0) s.sep.latchV a
    maxQ w ((l.1.natAbs : Rat) + (l.2.natAbs : Rat) * 16 * secs s.P)

structure CapQ where
  u : Rat := 0
  a : Rat := 0
  b : Rat := 0
  c : Rat := 0
  tw : Rat := 0
  tt : Rat := 0
  deriving DecidableEq, Repr

/-- The sums of R163, with `w` in 2⁻¹⁶ turn/s by axis. -/
def State.capQ (s : State) (cap : CapRec) (w : Nat → Rat) : CapQ :=
  let js := s.capJoints cap
  let ends := maxQ (vLen (umV cap.p1)) (vLen (umV cap.p2))
  (js.zip (leversOf ends js)).foldl (fun q e =>
    let per := s.perTurn e.1
    let wj := w e.1.2 / 65536 * per
    let aj := mkRat (s.pU 0x7002 e.1.2) 4096 * per
    let tol := mkRat (s.pU 0x7003 e.1.2) 65536 * per
    let g := e.2
    { u := q.u + g * wj, a := q.a + g * wj * wj / (2 * aj), b := q.b + g * wj * tol / aj,
      c := q.c + g * tol * tol / (2 * aj), tw := maxQ q.tw (wj / aj), tt := maxQ q.tt (tol / aj) }) {}

/-- The sums of a capsule at an engine, each rounded toward the restrictive side in its number format (R169). -/
def State.capQof (s : State) (e : Island) (b : Basis) (cap : CapRec) : CapQ :=
  let q := s.capQ cap (s.speedBasis e b)
  { u := lengthUp e q.u, a := lengthUp e q.a, b := lengthUp e q.b, c := lengthUp e q.c, tw := lengthUp e q.tw
    tt := lengthUp e q.tt }

/-- U_c at VMAX of the stale joints (R161); every joint for a relay (R174). -/
def State.capVmax (s : State) (cap : CapRec) (pick : Nat → Bool) : Rat :=
  (s.capQ cap fun a => if pick a then (s.pU 0x1004 a : Nat) else 0).u

/-! ### Segment distance -/

/-- Parameter of the point of a segment from `q` along `v` nearest to `x`, held in [0, 1]. -/
def nearParam (x q v : V3) : Rat :=
  let n := vDot v v
  if n = 0 then 0 else clampQ 0 1 (vDot (vSub x q) v / n)

/-- The squared distance at two parameters. -/
def segAt (p u q v : V3) (st : Rat × Rat) : Rat :=
  let d := vSub (vAdd p (vScale st.1 u)) (vAdd q (vScale st.2 v))
  vDot d d

/-- The parameters of the closest points of the segments p + s u and q + t v. -/
def segClosest (p u q v : V3) : Rat × Rat :=
  let a := vDot u u
  let b := vDot u v
  let c := vDot v v
  let w := vSub p q
  let det := a * c - b * b
  let s := (b * vDot v w - c * vDot u w) / det
  let t := (a * vDot v w - b * vDot u w) / det
  let inner := if det ≠ 0 ∧ 0 ≤ s ∧ s ≤ 1 ∧ 0 ≤ t ∧ t ≤ 1 then [(s, t)] else []
  let edges := [((0 : Rat), nearParam p q v), (1, nearParam (vAdd p u) q v),
    (nearParam q p u, 0), (nearParam (vAdd q v) p u, 1)]
  (inner ++ edges).foldl (fun m e => if segAt p u q v e < segAt p u q v m then e else m) (0, nearParam p q v)

/-- Distance of two segments given by their ends. -/
def segDist (a b : V3 × V3) : Rat :=
  let u := vSub a.2 a.1
  let v := vSub b.2 b.1
  sqrtQ (segAt a.1 u b.1 v (segClosest a.1 u b.1 v))

/-! ### Bodies -/

/-- Key of a body in an engine's tables. -/
def bodyKey : Body → Nat
  | .cap i => i
  | .person p k => 65536 + 4 * p + k

def State.personRec (s : State) (p : Nat) : Option PersonRec := s.sep.kin.persons.find? fun r => r.index = p

/-- An arm that yields no pairs: it is absent (R172). -/
def State.armOut (s : State) (g : Nat) : Bool := s.armAbsent g

/-- A member is present in this tick (R157). -/
def State.bodyPresent (s : State) (e : Island) (b : Body) : Bool :=
  match b with
  | .cap i => match s.capRec i with
    | some c => if isRobot c then !s.armOut (capArm c) else true
    | none => false
  | .person p k => (s.person e p).valid && decide (k < (s.person e p).caps.length)

def State.bodyRadius (s : State) (e : Island) (b : Body) : Rat :=
  match b with
  | .cap i => (s.capRec i).elim 0 fun c => um c.radius
  | .person p k => um ((nthD ((0, 0, 0), (0, 0, 0), 0) (s.person e p).caps k).2.2)

/-- Position of a joint in turns, from an engine's own position. -/
def turnOf (pos : Int) : Rat := mkRat pos (2 ^ 32)

/-- The ends of a body, with joint positions `pos` in turns, persons moved by `dt` nanoseconds. -/
def State.bodyEnds (s : State) (e : Island) (b : Body) (pos : Nat → Rat) (dt : Nat) (nextRelay : Bool) : V3 × V3 :=
  match b with
  | .cap i => match s.capRec i with
    | some c =>
      if isRobot c then
        let f := nthD originFrame (s.armFrames e (capArm c) pos) c.link
        (f.app (umV c.p1), f.app (umV c.p2))
      else if c.kind = 4 then
        let r := s.relay e i
        match r.arrived with
        | some n => if nextRelay then (umV n.p1, umV n.p2) else (umV r.p1, umV r.p2)
        | none => (umV r.p1, umV r.p2)
      else (umV c.p1, umV c.p2)
    | none => ((0, 0, 0), (0, 0, 0))
  | .person p k =>
    let x := s.person e p
    let c := nthD ((0, 0, 0), (0, 0, 0), 0) x.caps k
    let m := vScale (secs dt) (umV x.vel)
    (vAdd (umV c.1) m, vAdd (umV c.2.1) m)

/-- Every body that some pair holds. -/
def State.bodies (s : State) : List Body :=
  (s.sep.kin.caps.map fun c => Body.cap c.index) ++
    s.sep.kin.persons.flatMap fun p => (upTo 4).map fun k => Body.person p.index k

/-! ### The predicted pass (R160) -/

/-- q̂ of a joint, in turns. -/
def State.predTurn (s : State) (e : Island) (a : Nat) : Rat :=
  let j := (s.eng e).joint a
  turnOf (j.pos + rnd ((j.vel : Rat) * kT s.P))

def State.pairList (s : State) : List (Nat × Pair) := (upTo s.sep.kin.pairs.length).zip s.sep.kin.pairs

def State.predictedPass (s : State) (e : Island) : State :=
  let pos := s.predTurn e
  let ends : Tbl (V3 × V3) := (s.bodies.filter (s.bodyPresent e)).foldl
    (fun t b => tblSet t (bodyKey b) (s.bodyEnds e b pos s.P true)) []
  let dHat : Tbl Rat := s.pairList.foldl (fun t p =>
    if s.bodyPresent e (.cap p.2.a) && s.bodyPresent e p.2.b then
      tblSet t p.1 (segDist (tblGet ((0, 0, 0), (0, 0, 0)) ends p.2.a) (tblGet ((0, 0, 0), (0, 0, 0)) ends (bodyKey p.2.b)))
    else t) []
  s.modEng e fun x => { x with pred := ends, dHat := dHat }

def execEnginePredictedPass (e : Island) (s : State) : Out :=
  .next (if s.tick.selide && s.sep.kin.loaded && s.islandAlive e then s.predictedPass e else s)

/-! ### The bound pass (R160 to R167) -/

/-- Displacement ε of a body between prediction and measurement, with what R161 and R174 add; the second component
says whether the body was predicted. -/
def State.epsOf (s : State) (e : Island) (b : Body) (ends : V3 × V3) : Rat × Bool :=
  match (s.eng e).pred.find? fun p => p.1 = bodyKey b with
  | none => (0, false)
  | some (_, pr) =>
    let mv := maxQ (vLen (vSub ends.1 pr.1)) (vLen (vSub ends.2 pr.2))
    let stale := match b with
      | .person p _ => secs s.P * ((s.person e p).stale : Nat) * (mkRat (s.pU 0x5002 s.dev) 1000)
      | .cap i => match s.capRec i with
        | some c =>
          if isRobot c then
            let st := (s.capJoints c).map fun j => ((s.eng e).joint j.2).stale
            secs s.P * (maxL st : Nat) * s.capVmax c fun a => 0 < ((s.eng e).joint a).stale
          else if c.kind = 4 then
            let r := s.relay e i
            secs s.P * ((1 + r.stale : Nat) : Rat) * um r.uMax
          else 0
        | none => 0
    (mv + stale, true)

/-- The coefficients of S_p in an engine's arithmetic (R169). -/
def engineCoefs (e : Island) (k : Nat) (c : Rat × Rat × Rat) : Rat × Rat × Rat :=
  (lengthUp e c.1, lengthUp e c.2.1, lengthUp e (c.2.2 + engineErr e k))

/-- How a pair is evaluated in a tick: the robot capsule, the other body, and whether the other is an obstacle. -/
structure Role where
  a : CapRec
  b : Body
  obstacle : Bool
  deriving DecidableEq, Repr

/-- The roles of a pair: one for each of its arms that takes part (R164, R172, R173); none when it yields CLEAR. -/
def State.rolesOf (s : State) (e : Island) (p : Pair) : List Role :=
  match s.capRec p.a with
  | none => []
  | some ca =>
    if !(s.bodyPresent e (.cap p.a) && s.bodyPresent e p.b) then []
    else
      let newA := (s.armSt (capArm ca)).isNew
      match p.b with
      | .person _ _ => if newA then [] else [{ a := ca, b := p.b, obstacle := false }]
      | .cap i => match s.capRec i with
        | none => []
        | some cb =>
          if isRobot cb then
            let newB := (s.armSt (capArm cb)).isNew
            (if newA then [] else [{ a := ca, b := p.b, obstacle := newB }]) ++
            (if newB then [] else [{ a := cb, b := .cap p.a, obstacle := newA }])
          else if newA then [] else [{ a := ca, b := p.b, obstacle := decide (cb.kind = 3) }]

/-- T_r of R162. -/
def State.reactionTime (s : State) (b : Body) : Rat :=
  let base := secs (s.P + s.pU 0x5003 s.dev * 1000)
  match b with
  | .person p _ => base + (s.personRec p).elim 0 fun r => mkRat r.lat 1000000
  | .cap i => match s.capRec i with
    | some c => if c.kind = 4 then base + secs s.P else base
    | none => base

/-- α, β, γ of Table 6.11 for a role on a basis. -/
def State.spCoefs (s : State) (e : Island) (bs : Basis) (r : Role) : Rat × Rat × Rat :=
  let q := s.capQof e bs r.a
  let tr := s.reactionTime r.b
  let zr := um r.a.zr + zNum
  match r.b with
  | .person p _ =>
    let x := s.person e p
    let vh := maxQ (mkRat (s.pU 0x5001 s.dev) 1000) (vLen (umV x.vel))
    let pr := s.personRec p
    let zd := um (Nat.max (pr.elim 0 fun y => y.zdMin) x.zd)
    (q.a, vh * q.tw + q.u * tr + q.b, vh * (tr + q.tt) + q.c + um (pr.elim 0 fun y => y.cIntr) + zd + zr)
  | .cap i =>
    match s.capRec i with
    | none => (0, 0, 0)
    | some c =>
      if r.obstacle then (q.a, q.u * tr + q.b, q.c + um (s.pU 0x5007 s.dev) + zr)
      else
        let ob := if c.kind = 4 then
            let x := s.relay e i
            match bs with
            | .stop => um x.uStop * tr + um x.ssStop
            | .kappa => um x.uKappa * tr + um x.ssKappa
          else
            let qb := s.capQof e bs c
            qb.u * tr + qb.a + qb.b + qb.c
        (q.a, q.u * tr + q.b, ob + q.c + um (s.pU 0x5006 s.dev) + um c.zr + zNum + zr)

def sp1 (c : Rat × Rat × Rat) : Rat := c.1 + c.2.1 + c.2.2

/-- kappa_pair of R165, on the 2⁻¹⁶ grid. -/
def kappaPair (c : Rat × Rat × Rat) (D : Rat) : Nat :=
  let k : Rat :=
    if D < c.2.2 then 0
    else if c.1 = 0 then (if c.2.1 = 0 then 1 else (D - c.2.2) / c.2.1)
    else (-c.2.1 + sqrtQ (c.2.1 * c.2.1 + 4 * c.1 * (D - c.2.2))) / (2 * c.1)
  (floorQ (clampQ 0 1 k * 65536)).toNat

/-- A person that is lost, or a foreign capsule whose relay is stale on the third tick (R155, R174). -/
def State.bodyLost (s : State) (e : Island) (b : Body) : Bool :=
  match b with
  | .person p _ => (s.person e p).lost
  | .cap i => match s.capRec i with
    | some c => c.kind = 4 && decide (3 ≤ (s.relay e i).stale)
    | none => false

/-- What the bound pass finds for one pair. -/
structure PairRes where
  idx : Nat
  pair : Pair
  d : Rat := 0
  roles : List (Role × Rat × (Rat × Rat × Rat)) := []   -- with S_p(1) on the stop basis and the κ-basis coefficients
  state : Nat := 0
  old : Nat := 0
  deriving DecidableEq, Repr

def PairRes.spStop (p : PairRes) : Rat := p.roles.foldl (fun m r => maxQ m r.2.1) 0
def PairRes.spKappa (p : PairRes) : Rat := p.roles.foldl (fun m r => maxQ m (sp1 r.2.2)) 0

/-- Table 6.12. -/
def pairState (old : Nat) (d spS spK margin h : Rat) (lost : Bool) : Nat :=
  if d < spS ∨ lost then 2
  else if old = 2 ∧ d < spS + h then 2
  else if old ≠ 0 ∧ d - margin - h < spK then 1
  else if old = 0 ∧ d - margin < spK then 1
  else 0

/-- The corrected distance of a pair, m. -/
def State.pairDist (s : State) (e : Island) (ends : Tbl (V3 × V3)) (k : Nat) (p : Pair) : Rat :=
  let ea := tblGet ((0, 0, 0), (0, 0, 0)) ends p.a
  let eb := tblGet ((0, 0, 0), (0, 0, 0)) ends (bodyKey p.b)
  let xa := s.epsOf e (.cap p.a) ea
  let xb := s.epsOf e p.b eb
  let seg := match (s.eng e).dHat.find? fun q => q.1 = k with
    | some (_, dh) => if xa.2 && xb.2 then dh - xa.1 - xb.1 else segDist ea eb
    | none => segDist ea eb
  lengthDown e (seg - s.bodyRadius e (.cap p.a) - s.bodyRadius e p.b - engineErr e (s.free + 5 * k))

def State.pairRes (s : State) (e : Island) (ends : Tbl (V3 × V3)) (k : Nat) (p : Pair) : PairRes :=
  let old := tblGet 0 (s.eng e).pairs k
  let roles := ((s.rolesOf e p).zip (upTo 2)).map fun r =>
    (r.1, sp1 (engineCoefs e (s.free + 5 * k + 1 + 2 * r.2) (s.spCoefs e .stop r.1)),
      engineCoefs e (s.free + 5 * k + 2 + 2 * r.2) (s.spCoefs e .kappa r.1))
  let lost := s.bodyLost e p.b && !(s.armSt (match s.capRec p.a with | some c => capArm c | none => 0)).isNew &&
    s.bodyPresent e (.cap p.a)
  if roles.isEmpty && !lost then { idx := k, pair := p, old := old }
  else
    let d := s.pairDist e ends k p
    let r : PairRes := { idx := k, pair := p, d := d, roles := roles, old := old }
    { r with state := pairState old d r.spStop r.spKappa (um (s.pU 0x5004 s.dev)) (um (s.pU 0x5005 s.dev)) lost }

/-- The arms whose robot capsules a pair contains and that take part in it. -/
def PairRes.arms (s : State) (p : PairRes) : List Nat :=
  if p.roles.isEmpty then (match s.capRec p.pair.a with | some c => [capArm c] | none => [])
  else p.roles.map fun r => capArm r.1.a

/-- κ of a pair for an arm (Table 6.12). -/
def State.pairKappa (s : State) (p : PairRes) (g : Nat) : Nat :=
  if p.state = 2 then 0
  else if p.state = 1 then
    minL 65536 ((p.roles.filter fun r => capArm r.1.a = g).map fun r => kappaPair r.2.2 (p.d - um (s.pU 0x5004 s.dev)))
  else 65536

/-- The reach check of R159 in an engine's arithmetic: capsules outside their sphere, with the arms concerned and the distance
outside. -/
def State.reachBreaches (s : State) (e : Island) (ends : Tbl (V3 × V3)) : List (Nat × Nat × CapRec × Rat) :=
  s.sep.kin.excludes.flatMap fun x =>
    let chk := fun (g other : Nat) (c : Int × Int × Int) (r : Nat) =>
      (if s.armOut g then [] else s.armCaps g).filterMap fun cap =>
        let x := tblGet ((0, 0, 0), (0, 0, 0)) ends cap.index
        let far := maxQ (vLen (vSub x.1 (umV c))) (vLen (vSub x.2 (umV c)))
        let o := lengthUp e (far + um cap.radius - um r + engineErr e (s.free + 5 * s.sep.kin.pairs.length + 3 + cap.index))
        if 0 < o then some (g, other, cap, o) else none
    chk x.armA x.armB x.ca x.ra ++ chk x.armB x.armA x.cb x.rb

/-- λ of an arm under SLS (R221). -/
def State.lambdaOf (s : State) (e : Island) (g : Nat) : Nat :=
  match s.armSlsLimit g with
  | none => 65536
  | some v =>
    let u := (s.armCaps g).foldl (fun m c => maxQ m (s.capQof e .kappa c).u) 0
    if u = 0 then 65536 else (floorQ (minQ 1 (um v / u) * 65536)).toNat

/-- What an engine publishes for an arm. -/
def State.armResult (s : State) (e : Island) (res : List PairRes) (br : List (Nat × Nat × CapRec × Rat)) (g : Nat) : ArmEng :=
  let old := (s.eng e).arm g
  let reach := br.any fun b => b.1 = g || b.2.1 = g
  if s.armOut g || (s.armSt g).isNew then { lambda := s.lambdaOf e g, reach := reach }
  else
    let mine := res.filter fun p => (p.arms s).contains g
    let staleArm := fun (k : Nat) => (s.armJoints k).any fun a => decide (0 < ((s.eng e).joint a).stale)
    let raw := minL 65536 (mine.map fun p => s.pairKappa p g)
    let h := um (s.pU 0x5005 s.dev) + mkRat 2 10000
    let own := mine.flatMap fun p => (p.roles.filter fun r => capArm r.1.a = g).map fun r => (p.d, r.2.1)
    { kappa := if reach then 0 else Nat.min raw (Nat.min 65536 (old.kappa + s.pU 0x5008 s.dev))
      stop := reach || mine.any fun p => decide (p.state = 2)
      near := mine.any fun p => !p.roles.isEmpty && decide (p.d < p.spStop + h)
      minMargin := satS 32 (own.foldl (fun m x => if floorQ ((x.1 - x.2) * 1000000) < m then floorQ ((x.1 - x.2) * 1000000) else m)
        (2 ^ 31 - 1))
      nReduce := Nat.min 65535 (mine.filter fun p => p.state = 1).length
      lambda := s.lambdaOf e g
      stale := staleArm g || mine.any fun p => match p.pair.b with
        | .person q _ => decide (0 < (s.person e q).stale)
        | .cap i => decide (0 < (s.relay e i).stale) ||
          [p.pair.a, i].any fun c => match s.capRec c with
            | some r => isRobot r && staleArm (capArm r)
            | none => false
      lost := mine.any fun p => match p.pair.b with
        | .person q _ => (s.person e q).lost
        | .cap _ => false
      reach := reach }

/-! ### Constraint rows (R175, R176) -/

/-- Contribution of each joint to the velocity of a point, along `n`, in an engine's number format. -/
def State.rowJacobian (s : State) (e : Island) (c : CapRec) (frames : List Frame3) (x n : V3) : List Rat :=
  ((s.capJoints c).zip (upTo 16)).map fun j =>
    let f := nthD originFrame frames (j.2 + 1)
    coordOf e (if j.1.1.prismatic then vDot n f.z else vDot n (vCross f.z (vSub x f.p)))

def padF64 (n : Nat) (l : List Rat) : List Byte :=
  (upTo n).flatMap fun k => bytesLE 8 (toF64 (nthD 0 l k)).toNat

/-- n̂ where the two closest points coincide is open: a free value. -/
def freeUnit (k : Nat) : V3 :=
  (mkRat (Config.freeWord k).toInt (2 ^ 63), mkRat (Config.freeWord (k + 1)).toInt (2 ^ 63),
   mkRat (Config.freeWord (k + 2)).toInt (2 ^ 63))

/-- The record of Table 6.14 of a pair. The capsule of a new arm is an obstacle (R173), so the armed arm's capsule is then
the robot capsule. -/
def State.rowRecord (s : State) (e : Island) (ends : Tbl (V3 × V3)) (p : PairRes) : List Byte :=
  let margin := um (s.pU 0x5004 s.dev)
  match p.roles.head? with
  | none => []
  | some (role, _) =>
    let ca := role.a
    let pos := fun a => turnOf ((s.eng e).joint a).pos
    let ea := tblGet ((0, 0, 0), (0, 0, 0)) ends ca.index
    let eb := tblGet ((0, 0, 0), (0, 0, 0)) ends (bodyKey role.b)
    let u := vSub ea.2 ea.1
    let v := vSub eb.2 eb.1
    let st := segClosest ea.1 u eb.1 v
    let xa := vAdd ea.1 (vScale st.1 u)
    let xb := vAdd eb.1 (vScale st.2 v)
    let df := vSub xa xb
    let n := if vLen df = 0 then freeUnit s.free else vCos e (vScale (1 / vLen df) df)
    let ga := s.rowJacobian e ca (s.armFrames e (capArm ca) pos) xa n
    let other := match role.b with
      | .person q _ => (0x8000 + 4 * q, 0xFFFF, maxQ (mkRat (s.pU 0x5001 s.dev) 1000) (vLen (umV (s.person e q).vel)), [])
      | .cap i => match s.capRec i with
        | some cb =>
          if role.obstacle then (i, 0xFFFF, 0, [])
          else if isRobot cb then
            (i, capArm cb, 0,
              (s.rowJacobian e cb (s.armFrames e (capArm cb) pos) xb n).map fun y => -y)
          else if cb.kind = 4 then (i, 0xFFFF, um (s.relay e i).uKappa, [])
          else (i, 0xFFFF, 0, [])
        | none => (i, 0xFFFF, 0, [])
    let entry := match role.b with | .person _ k => k | .cap _ => 0
    bytesLE 4 p.idx ++ bytesLE 2 (ca.index % 1024) ++ bytesLE 2 (other.1 + entry) ++ bytesLE 2 (capArm ca) ++
      bytesLE 2 other.2.1 ++ bytesLE 4 0 ++ bytesLE 8 (toF64 p.d).toNat ++ bytesLE 8 (toF64 (lengthUp e (p.spKappa + margin))).toNat ++
      bytesLE 8 (toF64 (lengthUp e other.2.2.1)).toNat ++ bytesLE 8 0 ++ padF64 16 ga ++ padF64 14 other.2.2.2

/-- Insert a pair in ascending order of D − DMIN, then PAIR. -/
def insertRow (x : Rat × PairRes) : List (Rat × PairRes) → List (Rat × PairRes)
  | [] => [x]
  | y :: r => if x.1 < y.1 ∨ (x.1 = y.1 ∧ x.2.idx < y.2.idx) then x :: y :: r else y :: insertRow x r

/-- The pairs selected for rows, in order, all of them. -/
def State.rowPairs (s : State) (res : List PairRes) : List PairRes :=
  let margin := um (s.pU 0x5004 s.dev)
  let sel := (res.filter fun p => p.state ≠ 2 && !p.roles.isEmpty).filterMap fun p =>
    let m := p.d - (p.spKappa + margin)
    if m < um (s.pU 0x500A s.dev) then some (m, p) else none
  (sel.foldr insertRow []).map fun x => x.2

/-! ### Publication -/

/-- The engines whose results are in use: the survivor's alone after an attributed fault (R239). -/
def State.enginesUsed (s : State) : List Island :=
  [Island.madder, .woad].filter s.islandDecides

/-- Events of a pair whose combined state, the worse of the states of the engines in use, changes. -/
def State.pairEvent (s0 : State) (e : Island) (p : PairRes) : State :=
  let used := s0.enginesUsed
  let o := if used.contains (otherIsland e) then tblGet 0 (s0.eng (otherIsland e)).pairs p.idx else 0
  let now := Nat.max p.state o
  if !used.contains e || tblGet 0 s0.sep.pairSt p.idx = now then s0
  else
    let s := s0.modSep fun x => { x with
      pairSt := if now = 0 then x.pairSt.filter fun q => q.1 ≠ p.idx else tblSet x.pairSt p.idx now }
    let arms := p.arms s
    let a := (mkRef clsGroup (arms.headD 0)).toNat
    let b := match arms with | _ :: g :: _ => (mkRef clsGroup g).toNat | _ => noRef.toNat
    let umI := fun (q : Rat) => argI (satS 32 (floorQ (q * 1000000)))
    if now = 2 then s.emit evPairStop s.devRef [p.idx, a, b, umI p.d, umI p.spStop]
    else if now = 1 then s.emit evPairReduce s.devRef [p.idx, a, minL 65536 (arms.map fun g => s.pairKappa p g)]
    else s.emit evPairClear s.devRef [p.idx, a]

/-- The combined κ of an arm (R14, R170). -/
def State.kappaOf (s : State) (g : Nat) : Nat := minL 65536 (s.enginesUsed.map fun e => ((s.eng e).arm g).kappa)

def State.stopOf (s : State) (g : Nat) : Bool := s.enginesUsed.any fun e => ((s.eng e).arm g).stop

/-- The combined λ of an arm (R221). -/
def State.lambdaUsed (s : State) (g : Nat) : Nat := minL 65536 (s.enginesUsed.map fun e => ((s.eng e).arm g).lambda)

/-- A stop demand requests SS1 of the arm from the next tick (Table 8.2). -/
def State.demandSs1 (s : State) (g : Nat) : State :=
  let axes := s.armJoints g
  let obj := mkRef clsGroup g
  let needed := axes.any fun a => !s.inSto a && !s.underSs1 a
  let waiting := s.safety.reqs.any fun r => r.obj = obj && r.fromDemand && !r.begun
  if s.safety.armed && needed && !waiting then s.requestSs1 axes .axis obj 0 (s.tick.no + 1) true else s

/-- R170: the stop demands of an arm differ beyond the tolerance, or its κ differ by 0.02. -/
def armDisagree (m w : ArmEng) : Bool :=
  decide (1311 ≤ ((m.kappa : Int) - w.kappa).natAbs) || (m.stop && !w.stop && !w.near) || (w.stop && !m.stop && !m.near)

/-- The comparison of a tick, once both engines have published or one is late. ENGINE_LATE comes after the deadline of
publication, so an engine that has not published by then is late too (R44). -/
def State.sepCompare (s : State) : State :=
  if s.sep.compared then s
  else
    let late := s.sep.m.late || s.sep.w.late
    let bad := s.armList.find? fun g => armDisagree (s.sep.m.arm g) (s.sep.w.arm g)
    let dis := late || bad.isSome
    let t := s.modSep fun x => { x with
      compared := true, disagree := dis, disCount := if dis then Nat.min 3 (x.disCount + 1) else 0, taken := x.taken && dis
      lateM := if x.m.published then 0 else x.lateM + 1, lateW := if x.w.published then 0 else x.lateW + 1 }
    if dis && s.sep.disCount = 0 then
      let g := bad.getD (s.armList.headD (s.dev * 256))
      let m := s.sep.m.arm g
      let w := s.sep.w.arm g
      t.emit evSepDisagree (mkRef clsGroup g) [m.kappa, w.kappa, b2n m.stop + 2 * b2n w.stop]
    else t

/-- R159: the record of a reach breach, once per tick for both engines. -/
def State.reachRecords (s : State) (e : Island) (br : List (Nat × Nat × CapRec × Rat)) : State :=
  let o := s.eng (otherIsland e)
  s.forEach br fun t b =>
    if o.published && (o.arm b.1).reach then t
    else t.emit evReachBreach (mkRef clsGroup b.1) [(mkRef clsCapsule b.2.2.1.index).toNat, argI (satS 32 (ceilQ (b.2.2.2 * 1000000)))]

/-- The bound pass of an engine and its publication at `publish` nanoseconds. -/
def State.boundPass (s : State) (e : Island) (publish : Nat) : State :=
  let pos := fun a => turnOf ((s.eng e).joint a).pos
  let ends : Tbl (V3 × V3) := (s.bodies.filter (s.bodyPresent e)).foldl
    (fun t b => tblSet t (bodyKey b) (s.bodyEnds e b pos 0 false)) []
  let res := s.pairList.map fun p => s.pairRes e ends p.1 p.2
  let br := s.reachBreaches e ends
  let sel := if s.boundary then s.rowPairs res else []
  let extra := sel.length - 2048
  let told := (s.eng (otherIsland e)).rowsOk && (s.eng (otherIsland e)).rowsCut
  let rows := if s.boundary then (sel.take 2048).map (s.rowRecord e ends) else []
  let arms := s.armList.map fun g => (g, s.armResult e res br g)
  let t := s.forEach res fun u p => u.pairEvent e p
  let t := t.reachRecords e br
  let t := if 0 < extra ∧ !told then t.emit evRowsTruncated t.devRef [extra] else t
  let t := t.modEng e fun x => { x with
    pairs := (res.filter fun p => p.state ≠ 0).map fun p => (p.idx, p.state)
    arms := arms, published := decide (publish ≤ 19000), publish := publish, rows := rows, rowsOk := s.boundary
    rowsCut := decide (0 < extra) }
  let t := { t with free := t.free + 5 * s.sep.kin.pairs.length + 1027 }
  let t := t.modSep fun x => { x with publishMax := Nat.max x.publishMax publish }
  let t := t.forEach t.armList fun u g => if (u.enginesUsed.contains e) && ((u.eng e).arm g).stop then u.demandSs1 g else u
  let t := t.viewWrite e
  if t.sep.m.published && t.sep.w.published then t.sepCompare else t

def execEngineBoundPass (e : Island) (publish : Nat) (s : State) : Out :=
  .next (if s.tick.selide && s.tick.intakeDone && s.islandAlive e && !(s.eng e).published then s.boundPass e publish else s)

/-- R44: an engine has not published by 19,000 ns. -/
def execEngineLate (e : Island) (publish : Nat) (s : State) : Out :=
  .next (if s.tick.selide && s.islandAlive e && !(s.eng e).published && !(s.eng e).late then
      ((s.modEng e fun x => { x with late := true }).emit evEngineLate s.devRef [islandCode e, publish]).sepCompare
    else s)

/-! ### Persons and relays (R154, R155, R174) -/

/-- An engine finds a person lost that it did not hold lost before (R155). -/
def PersonSt.newlyLost (p : PersonSt) : Bool := !p.lost && (p.fault || decide (3 ≤ p.stale))

/-- R155: a person is lost to the engines that find it so; the record names the worse cause. -/
def execPersonLost (person : Fin 32) (s : State) : Out :=
  let i := s.dev * 32 + person.val
  let new := [Island.madder, .woad].filter fun e => (s.person e i).newlyLost
  .next (match s.personRec i with
    | some r =>
      if new.isEmpty then s
      else
        let t := s.forEach new fun t e => t.modPerson e i fun x => { x with lost := true }
        if (s.person .madder i).lost || (s.person .woad i).lost then t
        else t.emit evPersonLost (mkRef clsPerson i)
          [(mkRef clsNode r.node).toNat, if new.any fun e => (s.person e i).fault then 1 else 2]
    | none => s)

/-- A report of Table 6.7 that is not malformed. -/
def reportOk (b : List Byte) : Bool :=
  let f := fieldAt b 0 1
  let n := fieldAt b 1 1
  b.length = 132 && decide (f < 4) && fieldAt b 2 2 = 0 && (!bitN f 0 || (decide (1 ≤ n) && decide (n ≤ 4)))

def reportVec (b : List Byte) (o : Nat) : Int × Int × Int := (sfieldAt b o 4, sfieldAt b (o + 4) 4, sfieldAt b (o + 8) 4)

/-- The report is stale at an engine: its prediction takes its place (R161). -/
def State.staleReport (s : State) (e : Island) (i : Nat) : State :=
  s.modPerson e i fun x =>
    let mv := fun (v p : Int) => p + rnd ((v : Rat) * secs s.P)
    let m := fun (p : Int × Int × Int) => (mv x.vel.1 p.1, mv x.vel.2.1 p.2.1, mv x.vel.2.2 p.2.2)
    { x with fresh := false, stale := incSat 16 x.stale, caps := x.caps.map fun c => (m c.1, m c.2.1, c.2.2) }

/-- A person's report of this tick at an engine; none when it is missing or its sub-frame fails there (R271). -/
def State.takeReport (s : State) (e : Island) (i : Nat) (rep : Option (List Byte)) : State :=
  match rep with
  | some b =>
    if reportOk b then
      let f := fieldAt b 0 1
      s.modPerson e i fun x => { x with
        valid := bitN f 0, fault := bitN f 1, fresh := true, stale := 0, seen := true, lost := x.lost && bitN f 1
        zd := fieldAt b 4 4, vel := reportVec b 8
        caps := (upTo (if bitN f 0 then fieldAt b 1 1 else 0)).map fun k =>
          (reportVec b (20 + 28 * k), reportVec b (32 + 28 * k), fieldAt b (44 + 28 * k) 4) }
    else s.staleReport e i
  | none => s.staleReport e i

/-- Foreign capsules of a device. -/
def State.foreignCaps (s : State) (d : Nat) : List CapRec :=
  s.sep.kin.caps.filter fun c => c.kind = 4 && c.index / 1024 = d

/-- R174: a relay stale on a third tick, at either engine. -/
def execRelayStale (device : Fin 8) (s : State) : Out :=
  let n := ((s.foreignCaps device.val).filter fun c =>
    [Island.madder, .woad].any fun e => decide ((s.relay e c.index).stale = 3)).length
  .next (if 0 < n then s.emit evRelayStale (mkRef clsDevice device.val) [n] else s)

/-- What a foreign capsule's relay is after T0: the one that arrived in the last tick, or stale. -/
def RelaySt.next (r : RelaySt) : RelaySt :=
  match r.arrived with
  | some n => { p1 := n.p1, p2 := n.p2, uStop := n.uStop.toNat, uKappa := n.uKappa.toNat, ssStop := n.ssStop.toNat,
                ssKappa := n.ssKappa.toNat, uMax := n.uMax.toNat, stopDemand := n.stopDemand }
  | none => { r with stale := incSat 16 r.stale }

/-- At T0 the relays that arrived in the last tick come into use; the others are stale. -/
def State.relayTick (s : State) : State :=
  s.forEach (s.sep.kin.caps.filter fun c => c.kind = 4) fun t c =>
    (t.modRelay .madder c.index RelaySt.next).modRelay .woad c.index RelaySt.next

/-! ### An engine's own measurement (R151) -/

/-- One joint sample at an engine: the raw count, or none for an invalid one. -/
def State.engineSample (s : State) (e : Island) (a : Nat) (c : Option Nat) : State :=
  let j := (s.eng e).joint a
  let T := s.P
  let cpt := s.pU 0x4030 a
  let neg := s.pU 0x4031 a = 1
  let w := s.countWidth a
  let bad : JointSt := { j with
    posPrev := j.pos, pos := satS 64 (j.pos + rnd ((j.vel : Rat) * kT T)), stale := incSat 16 j.stale
    sinceValid := j.sinceValid + T }
  let j' := match c with
    | none => bad
    | some c =>
      if !j.started then
        let cnt := s.firstCount a w c
        let p := posOfCount j.posOrg neg cpt cnt
        { j with cnt := cnt, cPrev := c, started := true, pos := p, posPrev := p, vel := 0, stale := 0, sinceValid := 0 }
      else
        let d := sext w (uns w ((c : Int) - j.cPrev))
        if jumps d cpt (s.pU 0x1004 a) (j.sinceValid + T) then bad
        else
          let cnt := satS 64 (j.cnt + d)
          let p := posOfCount j.posOrg neg cpt cnt
          { j with cnt := cnt, cPrev := c, posPrev := j.pos, pos := p, vel := satS 32 (rnd (((p - j.pos : Int) : Rat) / kT T)),
                   stale := 0, sinceValid := 0 }
  s.modEng e fun x => { x with joints := tblSet x.joints a j' }

/-- A bumpless shift of an axis's frame at both engines (R151). -/
def State.engineShift (s : State) (a : Nat) (shift : JointSt → Int) : State :=
  let f := fun (j : JointSt) => { j with
    posOrg := j.posOrg + shift j, pos := satS 64 (j.pos + shift j), posPrev := satS 64 (j.posPrev + shift j) }
  (s.modEng .madder fun x => { x with joints := tblMod {} x.joints a f }).modEng .woad fun x =>
    { x with joints := tblMod {} x.joints a f }

/-- The stretch of stop demand 0 that the islands in use have published for each arm, counted at the end of a tick
(R223). -/
def State.quietTick (s : State) : State :=
  s.forEach s.armList fun t g =>
    let quiet := t.enginesUsed.all fun e => (t.eng e).published && !((t.eng e).arm g).stop
    t.modArm g fun x => { x with quiet := if quiet then x.quiet + t.P else 0 }

/-- v₀ of the axes whose SS1 begins in this tick (R218). -/
def State.captureV0 (s : State) : State :=
  s.modSafety fun x => { x with mon := x.mon.map fun p => (p.1, p.2.map fun m =>
    if m.t0 = s.tick.no then { m with v0M := s.islandSpeed .madder p.1, v0W := s.islandSpeed .woad p.1 } else m) }

/-! ### Channel faults of the engines (R170, R171) -/

def State.sepChannelFaultOp (s : State) : State :=
  let lm := decide (3 ≤ s.sep.lateM)
  let lw := decide (3 ≤ s.sep.lateW)
  let a : Option Island := if lm && !lw then some .madder else if lw && !lm then some .woad else none
  let t := s.modSep fun x => { x with
    taken := true, chFault := some { attributed := a, pending := a.isNone, tick := s.tick.no } }
  (t.emit evSepChannelFault t.devRef [attrCode a, if a.isSome then 2 else 1]).channelFault a

def execSepChannelFault (s : State) : Out :=
  .next (if s.sep.disCount = 3 ∧ !s.sep.taken then s.sepChannelFaultOp else s)

/-- The verdict attributes the fault to an engine: both pending faults are recorded again. -/
def State.verdictAttributes (s : State) (e : Island) : State :=
  let sepPending := (s.sep.chFault.map fun f => f.pending).getD false
  let t := if sepPending then s.emit evSepChannelFault s.devRef [islandCode e, 1] else s
  let t := if s.safety.directed then t.emit evSafeChannelFault s.devRef [islandCode e, s.safety.directedItem] else t
  let t := t.attributeFault e
  t.modSep fun x => { x with chFault := x.chFault.map fun f => { f with attributed := some e } }

/-- R171: the verdict of the directed pass, taken when both engines' passes have ended. -/
def execSepDirectedVerdict (madderOk woadOk : Bool) (s : State) : Out :=
  let pending := s.safety.directed || (s.sep.chFault.map fun f => f.pending).getD false
  let t := match madderOk, woadOk with
    | true, true => s
    | false, true => s.verdictAttributes .madder
    | true, false => s.verdictAttributes .woad
    | false, false => (s.noteAllStopped.modSep fun x => { x with bothFailed := true }).ss1AllZones 5 (s.tick.no + 1)
  .next (if pending then
      (t.modSafety fun x => { x with directed := false }).modSep fun x =>
        { x with chFault := x.chFault.map fun f => { f with pending := false } }
    else s)

/-! ### SLS monitoring (R222) -/

/-- The active record that covers an object with the lowest limit; among equal limits the group of lowest index. -/
def State.slsWorst (s : State) (w : Word) : Option SlsRec :=
  ((s.slsCover w).map fun p => p.2).foldl (fun m r => match m with
    | none => some r
    | some x => if r.limit < x.limit ∨ (r.limit = x.limit ∧ r.group < x.group) then some r else m) none

/-- The capsule of an arm whose speed on the stop basis exceeds its monitored limit, with that speed in µm/s. -/
def State.armSlsBreach (s : State) (g : Nat) : Option (Nat × Nat) :=
  match lowest (s.slsMonitored (mkRef clsGroup g)) with
  | none => none
  | some v =>
    (s.armCaps g).findSome? fun c => s.enginesUsed.findSome? fun e =>
      let u := (s.capQof e .stop c).u
      if um (v + s.pU 0x7010 s.dev) < u then some (c.index, (floorQ (u * 1000000)).toNat) else none

/-- An axis outside every arm above SLS_AXIS_LIMIT and its tolerance. -/
def State.axisSlsBreach (s : State) (a : Nat) : Option Nat :=
  if (s.slsMonitored (mkRef clsAxis a)).isEmpty || (s.armOf a).isSome then none
  else s.enginesUsed.findSome? fun e =>
    if s.pU 0x7006 a + s.pU 0x7003 a < s.islandSpeed e a then some (s.islandSpeed e a) else none

/-- A stop of the axis stands: STO, SS1, or a request that begins at the next tick. -/
def State.stopStands (s : State) (a : Nat) : Bool :=
  s.inSto a || s.underSs1 a || s.safety.reqs.any fun r => !r.begun && r.axes.contains a

/-- SS1 of the group of the worst record, or of the arm or axis alone; an excess while its stop stands is the same
breach (DEDUCED). -/
def State.slsStop (s : State) (w : Word) (what speed : Nat) : State :=
  let r := s.slsWorst w
  let grp := match r with
    | some x => mkRef clsGroup x.group
    | none => if refClass w = clsGroup then w else mkRef clsGroup ((s.cell.parent w).getD (s.dev * 256))
  let cover := match r with
    | some x => s.localAxes (mkRef clsGroup x.group)
    | none => s.localAxes w
  if cover.all s.stopStands then s
  else (s.requestSs1 cover .axis (if r.isSome ∨ refClass w = clsGroup then grp else w) 0 (s.tick.no + 1) false).emit evSlsBreach grp
    [what, speed]

/-- The breaches below a group: what breaches, the capsule or axis, and its speed; arms first, then the axes outside every
arm. -/
def State.slsBreaches (s : State) (group : Nat) : List (Word × Nat × Nat) :=
  let gs := s.groupsBelow (mkRef clsGroup group)
  ((s.armList.filter fun g => gs.contains g).filterMap fun g =>
      (s.armSlsBreach g).map fun p => (mkRef clsGroup g, (mkRef clsCapsule p.1).toNat, p.2)) ++
    (s.localAxes (mkRef clsGroup group)).filterMap fun a =>
      (s.axisSlsBreach a).map fun v => (mkRef clsAxis a, (mkRef clsAxis a).toNat, v)

/-- Every breach below a group acts, once while its stop stands. -/
def State.slsBreachOp (s : State) (group : Nat) : State :=
  s.forEach (s.slsBreaches group) fun u b => u.slsStop b.1 b.2.1 b.2.2

def execSlsBreach (group : Nat) (s : State) : Out := .next (s.slsBreachOp group)

/-! ### Ceilings and status (R168, R177, R178) -/

/-- κ ceiling of a joint of an arm: floor(κ × w), w the larger basis of the engines in use. -/
def State.kappaCeil (s : State) (a k : Nat) : Int :=
  let w := s.enginesUsed.foldl (fun m e => maxQ m (s.speedBasis e .kappa a)) 0
  floorQ (mkRat k 65536 * w)

def State.sepStatus (s : State) (g : Nat) : Nat :=
  let m := s.sep.m.arm g
  let w := s.sep.w.arm g
  b2n m.stop + 2 * b2n w.stop + 4 * b2n (decide (0 < m.nReduce) || decide (0 < w.nReduce)) + 8 * b2n (s.armSt g).isNew +
  16 * b2n (m.reach || w.reach) + 32 * b2n s.sep.disagree + 64 * s.sep.disCount + 256 * b2n (m.lost || w.lost) +
  512 * b2n (m.stale || w.stale) + 65536 * (Nat.max m.nReduce w.nReduce % 65536)

def State.minMargin (s : State) (g : Nat) : Int :=
  let m := (s.sep.m.arm g).minMargin
  let w := (s.sep.w.arm g).minMargin
  if m ≤ w then m else w

/-- LINK_VALLOW of a robot capsule, µm/s. -/
def State.linkVallow (s : State) (i : Nat) : Nat :=
  match s.capRec i with
  | some c =>
    if isRobot c then
      let u := s.enginesUsed.foldl (fun m e => maxQ m (s.capQof e .kappa c).u) 0
      (floorQ (mkRat (s.kappaOf (capArm c)) 65536 * u * 1000000)).toNat % 2 ^ 32
    else 0
  | none => 0

/-- The relay of a robot capsule at this tick (R174), as a CAPREL record. -/
def State.capRelay (s : State) (c : CapRec) : CapRel :=
  let e := Island.madder
  let pos := fun a => turnOf ((s.eng e).joint a).pos
  let f := nthD originFrame (s.armFrames e (capArm c) pos) c.link
  let micro := fun (v : V3) => (rnd (v.1 * 1000000), rnd (v.2.1 * 1000000), rnd (v.2.2 * 1000000))
  let up := fun (q : Rat) => BitVec.ofNat 32 (ceilQ (q * 1000000)).toNat
  let mx := fun (b : Basis) (g : CapQ → Rat) => s.enginesUsed.foldl (fun m e => maxQ m (g (s.capQof e b c))) 0
  { cap := BitVec.ofNat 16 c.index, p1 := micro (f.app (umV c.p1)), p2 := micro (f.app (umV c.p2)),
    uStop := up (mx .stop fun q => q.u), uKappa := up (mx .kappa fun q => q.u),
    ssStop := up (mx .stop fun q => q.a + q.b + q.c), ssKappa := up (mx .kappa fun q => q.a + q.b + q.c),
    uMax := up (s.capVmax c fun _ => true), stopDemand := s.stopOf (capArm c) }

end Sys2Proof.Machine
end

