-- ==== Sys2Proof/Machine/LanePass.lean ====
section
/-!
DEFINITION. The axis kernel in a tick (Table 3.1): pass 1 and pass 2 of a lane, the user stage, identification sweeps,
and the deadline latch (R41, R47 to R50, R57 to R79, R324 to R331).
-/
namespace Sys2Proof.Machine

/-! ### Pass 1: feedback -/

/-- Velocity estimate and the position of this computation; the first sample starts at rest (R59). -/
def LoopSt.sample (lp : LoopSt) (pos : Int) (T filt : Nat) : LoopSt :=
  let prev := if lp.seen then lp.posFb else pos
  { lp with posFbPrev := prev, posFb := pos, vFb := velocityEstimate T filt pos prev lp.vFb, seen := true }

/-- A notch whose centre lies above 0.4/T: bypassed, and recorded when the bypass begins (R75). -/
def State.bypassNotch (s : State) (a k : Nat) (f : Rat) (T : Nat) (was : Bool) : State :=
  let now := decide (0 < f) && notchOff f T
  if now && !was then s.emit evNotchBypassed (mkRef clsAxis a) [k, T] else s

/-- The centre of notch 2: N2_FREQ, or the set that tracking has chosen (R77). -/
def State.notch2 (s : State) (a : Nat) : Rat :=
  if s.pU 0x201B a = 1 then trackSet (s.pU 0x2018 a) (s.axis a).lp.trk.fc else s.pU 0x2018 a

def State.notchRate (s : State) (a T : Nat) : State :=
  let lp := (s.axis a).lp
  let f1 : Rat := s.pU 0x2010 a
  let f2 := s.notch2 a
  let t := (s.bypassNotch a 1 f1 T lp.n1.bypassed).bypassNotch a 2 f2 T lp.n2.bypassed
  t.modAxis a fun x => { x with lp := { x.lp with
    n1 := { x.lp.n1 with bypassed := decide (0 < f1) && notchOff f1 T }
    n2 := { x.lp.n2 with bypassed := decide (0 < f2) && notchOff f2 T } } }

/-! ### Pass 1: references (R60 to R63, R71) -/

/-- A reference: position, velocity and acceleration. -/
abbrev Ref := Int × Int × Int

def accS (q : Rat) : Int := satS 32 (rnd q)

/-- The PROFILE source of an axis that a segment drives. -/
def State.profileRef (s : State) (a : Nat) (q : Word) (g : Seg) (p : Plan) (T : Nat) (lp : LoopSt) : LoopSt :=
  let k := (((g.axes.zip (upTo g.axes.length)).find? fun e => e.1 = a).map fun e => e.2).getD 0
  let r := p.axisRef g k (s.queue q).tau
  let sg := s.sigmaEff q
  let dv := s.dvEff a
  let off := satS 64 (lp.offDv + rnd (dv * kT T))
  let sd : Rat := if refClass q = clsGroup then
      let y := s.sigmaSt (refIndex q)
      mkRat ((y.new : Int) - y.old) 65536
    else 0
  { lp with
    offDv := off, pProf := r.1, posRef := satS 64 (r.1 + off), vRef := accS (sg * r.2.1 + dv)
    aRef := accS (sg * sg * r.2.2 + sd / (32 * secs s.P) * r.2.1 / 16) }

/-- The PROFILE source of an axis that no segment drives: the hold position with the nullspace offset on it (R60, R94). -/
def State.holdRef (s : State) (a T : Nat) (lp : LoopSt) : LoopSt :=
  let dv := s.dvEff a
  let off := satS 64 (lp.offDv + rnd (dv * kT T))
  let p := satS 64 (lp.hold + off)
  { lp with offDv := off, pProf := lp.hold, posRef := p, vRef := accS dv, aRef := 0 }

/-- The PULSE source (R61): the gearing goes on from the last computation's reference, so that no count is followed twice. -/
def State.pulseRef (s : State) (a T : Nat) (lp : LoopSt) : LoopSt :=
  let c := (s.port (s.pU 0x1010 a % 16)).count
  let den : Int := Nat.max 1 (s.pU 0x1012 a)
  let tot := (c - lp.pulseLast) * s.pI 0x1011 a + lp.pulseRem
  let adv := Int.tdiv tot den
  let used := if s.pU 0x1013 a = 1 then rnd ((adv : Rat) * mkRat lp.rhoA 65536) else adv
  { lp with
    pulseLast := c, pulseRem := Int.tmod tot den, pulseSlipAcc := satS 64 (lp.pulseSlipAcc + (adv - used))
    posRef := satS 64 (lp.posRefC + used), vRef := accS ((adv : Rat) / kT T), aRef := 0 }

/-- The ANALOG source (R62). -/
def State.analogRef (s : State) (a T : Nat) (lp : LoopSt) : LoopSt :=
  let value := (s.axis (s.pU 0x1015 a % 65536)).fb.analog
  let vmax : Int := s.pU 0x1004 a
  let v := clampI (-vmax) vmax (rnd (mkRat (s.pI 0x1017 a * (value - s.pI 0x1016 a)) 65536))
  { lp with vRef := v, aRef := 0, posRef := satS 64 (lp.posRef + rnd ((v : Rat) * mkRat lp.rhoA 65536 * kT T)) }

/-- The stop ramp of R71; the first computation takes v_start and the direction `neg` of t₀. That is the direction of R68 with
|v_ref| = v_start = |v_fb|: below DIR_DB it keeps its value. -/
def ss1Step (no P T : Nat) (neg : Bool) (lp : LoopSt) (r : Ss1Ramp) : LoopSt :=
  let r1 := if r.fresh then { r with fresh := false, vStart := lp.vFb.natAbs, dirNeg := neg } else r
  let c3 := clampI 0 (2 ^ 31 - 1) (rnd ((r1.vStart : Rat) - (r1.aDem * 16 : Nat) * secs ((no - r1.t0) * P)))
  let sg := sgnDir r1.dirNeg
  let v := sg * c3
  { lp with
    ss1 := some { r1 with c3 := c3.toNat }, vRef := v, aRef := if 0 < c3 then -(sg * r1.aDem) else 0
    posRef := satS 64 (lp.posRef + rnd ((v : Rat) * kT T)) }

/-- An axis of a stopped segment that brakes at its segment's deceleration (R101). -/
def brakeStep (dec T : Nat) (lp : LoopSt) : LoopSt :=
  let drop := (rnd ((dec * 16 : Nat) * secs T : Rat)).toNat
  let v : Int := if lp.vRef.natAbs ≤ drop then 0 else if lp.vRef < 0 then lp.vRef + drop else lp.vRef - drop
  let dist : Rat := if v = 0 then mkRat (sgnI lp.vRef * lp.vRef ^ 2 * 65536) (32 * dec) else mkRat (lp.vRef + v) 2 * kT T
  { lp with vRef := v, aRef := if v = 0 then 0 else -(sgnI v * dec), posRef := satS 64 (lp.posRef + rnd dist) }

/-- The soft start's ramp toward its target (R81). -/
def softStep (target : Int) (v T : Nat) (lp : LoopSt) : LoopSt :=
  let step := rnd ((v : Rat) * kT T)
  let d := target - lp.posRef
  if d.natAbs ≤ step.natAbs then { lp with posRef := target, vRef := rnd ((d : Rat) / kT T), aRef := 0 }
  else { lp with posRef := lp.posRef + sgnI d * step, vRef := sgnI d * v, aRef := 0 }

/-- The reference of a closed axis. In the tick in which it closes its source acts already, after v_ref := 0 and u_pid = 0; R80
does not say so (DESIGN CHOICE, log entry 137). -/
def State.refStep (s : State) (a T : Nat) : State :=
  let x := s.axis a
  let src := s.pU 0x1003 a
  let count := (s.port (s.pU 0x1010 a % 16)).count
  let lp := { x.lp with posRef := x.lp.refBase (T ≠ s.P) }
  let put := fun (l : LoopSt) => s.modAxis a fun y =>
    { y with lp := { l with posRefC := l.posRef, pulseLast := if src = 1 then count else l.pulseLast } }
  match lp.ss1 with
  | some r =>
    let l := ss1Step s.tick.no s.P T (motionDir (s.loopCfg a) lp.vFb 0 lp.dirNeg) lp r
    put { l with hold := l.posRef, pProf := l.posRef, offDv := 0 }
  | none =>
    if x.softStart then
      (if x.softRamp then
        let l := softStep x.softTarget (s.pU 0x1023 a) T lp
        put { l with hold := l.posRef, pProf := l.posRef }
       else put { lp with vRef := 0, aRef := 0 })
    else match x.brakeStop with
    | some dec =>
      let l := brakeStep dec T lp
      put { l with hold := l.posRef, pProf := l.posRef, offDv := 0 }
    | none =>
      match src with
      | 1 => put (s.pulseRef a T lp)
      | 2 => put (s.analogRef a T lp)
      | _ =>
        match x.bound with
        | some q => match (s.queue q).segs, (s.queue q).plan with
          | g :: _, some p =>
            let l := s.profileRef a q g p T lp
            put (if x.stalled then { l with vRef := 0, aRef := 0 } else l)
          | _, _ => put (s.holdRef a T lp)
        | none => put (s.holdRef a T lp)

/-! ### Pass 1: the position loop (R64 to R66) -/

/-- The load-side position advanced to the sample time of pos_fb. -/
def State.loadPos (s : State) (a : Nat) : Int :=
  satS 64 ((s.axis a).fb.posLoad + rnd (((s.axis a).lp.vFb : Rat) * kT s.P))

/-- The load-side check and the error that the P and I terms use. -/
def State.loadStep (s : State) (a : Nat) (c : LoopCfg) (e : Int) (lp : LoopSt) : LoopSt :=
  if s.pU 0x2021 a = 1 && (s.axis a).fb.loadValid then
    let pl := s.loadPos a
    let far := decide (s.pU 0x2022 a < (pl - lp.posFb).natAbs)
    { lp with
      plausRun := if far then lp.plausRun + 1 else 0, usedLoad := true, eUsed := satS 32 (lp.posRef - pl) }
  else
    { lp with
      plausRun := 0, usedLoad := false, eUsed := e
      iPid := if lp.usedLoad then acc80 (lp.iPid + pTerm c (lp.eUsed - e)) else lp.iPid }

def State.pidStep (s : State) (a T : Nat) (c : LoopCfg) : State :=
  s.modAxis a fun x =>
    let e := satS 32 (x.lp.posRef - x.lp.posFb)
    let lp := s.loadStep a c e x.lp
    let d := dTerm c T lp.d e lp.ePrev
    { x with lp := { lp with
      d := d, ePrev := e
      uPid := acc80 (pTerm c lp.eUsed + lp.iPid + d + ffTerm c lp.vRef lp.aRef) } }

/-- R65: following error, acted on and recorded as it comes to exceed FE_LIMIT. -/
def State.followCheck (s : State) (a : Nat) : State :=
  let x := s.axis a
  let e := x.lp.posRef - x.lp.posFb
  let far := decide (s.pU 0x1006 a < e.natAbs)
  let t := s.modAxis a fun y => { y with lp := { y.lp with feOver := far } }
  if far && !x.lp.feOver then
    ((t.latchFault a).faultSs1 a).emit evFollowErr (mkRef clsAxis a) [argI (satS 32 e), s.pU 0x1006 a]
  else t

/-! ### Sweeps (R331) -/

/-- The sweeps that run on an axis. -/
def State.sweepsOf (s : State) (a : Nat) : List SweepSt := s.lanes.sweeps.filter fun x => x.axis = a && x.stop.isNone

/-- `r` to a power in [0, 1], by repeated square roots, 40 fraction bits. -/
def powUnit : Nat → Rat → Rat → Rat → Rat
  | 0, _, _, acc => acc
  | n + 1, r, x, acc =>
    let q := sqrtQ r
    let x2 := 2 * x
    if 1 ≤ x2 then powUnit n q (x2 - 1) (mkRat (rnd (acc * q * ((2 ^ 64 : Nat) : Rat))) (2 ^ 64)) else powUnit n q x2 acc

/-- The instantaneous frequency of a sweep, Hz. -/
def sweepFreq (a : SweepArgs) (elapsedNs : Nat) : Rat :=
  let x := mkRat elapsedNs (a.duration.toNat * 1000000)
  let r : Rat := mkRat a.fEnd.toNat a.fStart.toNat
  mkRat a.fStart.toNat 1000 * (if 1 ≤ x then r else powUnit 40 r x 1)

/-- One computation of a sweep: the excitation in Q1.15 and the sweep after it. -/
def SweepSt.next (x : SweepSt) (T : Nat) : Int × SweepSt :=
  let ph := x.phase + sweepFreq x.args x.elapsedNs * secs T
  let phq := mkRat (rnd (wrapTurn ph * ((2 ^ 64 : Nat) : Rat))) (2 ^ 64)
  (rnd ((x.args.ampl.toNat : Rat) * sinTurn x.phase), { x with phase := phq, elapsedNs := x.elapsedNs + T, n := x.n + 1 })

def State.putSweep (s : State) (x : SweepSt) : State :=
  s.modLanes fun y => { y with sweeps := y.sweeps.map fun w => if w.hdr = x.hdr ∧ w.axis = x.axis then x else w }

/-- The excitation of each sweep of the axis is added to u_pid before selection; every DECIM-th computation leaves a sample. -/
def State.sweepExcite (s : State) (a T : Nat) : State × List (SweepSt × Int) :=
  (s.sweepsOf a).foldl (fun p x =>
    let r := x.next T
    ((p.1.putSweep r.2).modAxis a fun y => { y with lp := { y.lp with uPid := acc80 (y.lp.uPid + tq r.1) } },
      p.2 ++ [(r.2, r.1)])) (s, [])

def State.sweepSample (s : State) (a : Nat) (e : SweepSt × Int) : State :=
  let x := e.1
  if x.n % Nat.max 1 x.args.decim.toNat = 0 then
    let lp := (s.axis a).lp
    let b := bytesLE 2 (uns 16 e.2) ++ bytesLE 2 (uns 16 lp.uOut) ++ bytesLE 4 (uns 32 lp.vFb)
    (s.winWrite (x.args.winOffset.toNat + 8 * x.samples) b).putSweep { x with samples := x.samples + 1 }
  else s

/-! ### Pass 1 of one axis -/

def State.passOne (s : State) (a : Nat) : State :=
  let T := s.axisT a
  let c := s.loopCfg a
  let s1 := (s.notchRate a T).modAxis a fun x =>
    let lp := { x.lp with halfRate := s.axisHalf a }
    { x with bak := some lp, lp := { lp.sample x.fb.posNew T (s.pU 0x2023 a) with pass1Done := true } }
  let dir := fun (x : Axis) => { x with lp := { x.lp with dirNeg := motionDir c x.lp.vFb x.lp.vRef x.lp.dirNeg } }
  if (s.axis a).closed then
    let s2 := s1.refStep a T
    let s3 := (s2.modAxis a dir).modAxis a fun x => { x with lp := { x.lp with hadRef := true } }
    if s.openLoop a then s3.modAxis a fun x => { x with lp := { x.lp with posRef := (s.axis a).lp.refBase (T ≠ s.P) } }
    else (s3.pidStep a T c).followCheck a
  else (s1.modAxis a fun x => { x with lp := { x.lp with vRef := 0, aRef := 0 } }).modAxis a dir

/-! ### Pass 2: ceilings (Table 3.3) -/

def State.ceilings (s : State) (a : Nat) : List Ceil :=
  let vmax : Int := s.pU 0x1004 a
  let arm := s.armOf a
  [(1, vmax)] ++
  (if s.axisDegraded a then [(5, rnd (mkRat (s.pU 0x1007 a * vmax) 65536))] else []) ++
  (match arm with
   | some g => if s.kappaOf g < 65536 then [(2, s.kappaCeil a (s.kappaOf g))] else []
   | none => []) ++
  (match arm with
   | some g => if (s.armSlsLimit g).isSome then [(4, s.kappaCeil a (s.lambdaUsed g))] else []
   | none => if s.axisSlsOn a then [(4, (s.pU 0x7006 a : Int))] else []) ++
  (match (s.axis a).lp.ss1 with
   | some r => [(3, (r.c3 : Int))]
   | none => [])

/-! ### Pass 2: the user stage (R72, R322 to R327) -/

/-- Moved axes whose user stage is suspended while a 64-slot lane carries them (R466). -/
def State.suspendedUsers (s : State) (l : Nat) : List Nat :=
  let x := s.logLane l
  if !x.wide then []
  else
    let own := x.held.filter fun e => decide (e.1 < 32)
    ((x.held.filter fun e => decide (32 ≤ e.1)).foldl (fun (r : List (Nat × Nat) × List Nat) e =>
      if slotUse s.activeKernel (r.1 ++ [e]) s.axisHalf ≤ userPool s.laneSteps then (r.1 ++ [e], r.2) else (r.1, r.2 ++ [e.2])) (own, [])).2

/-- The entry that the user stage of an axis in slot `slot` runs in this tick, if it runs. -/
def State.userEntry (s : State) (l slot a p : Nat) : Option KEntry :=
  let x := s.logLane l
  if (s.pair p).state ≠ lpRun || s.openLoop a || (x.skipFrom.any fun k => decide (k ≤ slot)) ||
      (s.lanes.loads.any fun k => k.suspended) || (s.suspendedUsers l).contains a then none
  else s.activeKernel.entryOf a

/-- A pair's registers on entry to the user stage (Table 10.12); what the table does not name is open. -/
def State.entryRegs (s : State) (a slot : Nat) (k : Kernel) (p addr : Nat) (r : LaneRegs) : LaneRegs :=
  let lp := (s.axis a).lp
  let open32 := fun (n : Nat) => Config.laneWord p ((s.pair p).drawn + n)
  let d : List Word :=
    [BitVec.ofInt 32 (toQ15 lp.uSat * 65536), BitVec.ofInt 32 (sgnDir lp.dirNeg), BitVec.ofInt 32 lp.vFb,
     BitVec.ofInt 32 lp.vRef, BitVec.ofInt 32 lp.aRef, BitVec.ofInt 32 (satS 32 (lp.posRef - lp.posFb)),
     BitVec.ofInt 32 lp.posFb, BitVec.ofInt 32 (lp.posFb / 2 ^ 32), BitVec.ofNat 32 (lp.win + 16 * b2n lp.halfRate),
     BitVec.ofNat 32 (s.axisT a), s.tick.cycle, BitVec.ofNat 32 a, open32 0, open32 1, open32 2, open32 3]
  let six := k.yArea slot
  let seven := k.xArea slot
  { r with
    d := writeCells [] 0 d
    a := writeCells [] 0 ((upTo 4).map fun n => (open32 (4 + 3 * n) ++ open32 (5 + 3 * n) ++ (open32 (6 + 3 * n)).setWidth 16 : BitVec 80))
    p := writeCells [] 0 ((upTo 6).map (fun n => open32 (16 + n) &&& 0x3FFFF) ++ [BitVec.ofNat 32 (six + 65536), BitVec.ofNat 32 seven])
    m := writeCells [] 0 ((upTo 8).map fun n => open32 (22 + n))
    b := writeCells [] 0 ((upTo 6).map (fun n => (open32 (30 + n)).setWidth 16) ++ [BitVec.ofNat 16 six, BitVec.ofNat 16 seven])
    l := writeCells [] 0 ((upTo 6).map (fun n => (open32 (36 + n)).setWidth 16) ++ [0, 0])
    lc := (open32 42).setWidth 11, flags := open32 43 &&& 0xFF, bexp := 0, mode := modeFor 0xC lpRun
    pc := 0x6000 + addr, delay := 0, target := none, pendD := [], pendC := [], shadow := [], call := false, viaRet := false
    held := 0, heldCyc := 0, stack := [0, 0], rpt := none, waiting := false, cycles := 0 }

/-- The registers of the pair once the firmware has the lane back. -/
def LaneRegs.backFrom (r old : LaneRegs) : LaneRegs :=
  { r with
    mode := old.mode, pc := old.pc, delay := old.delay, target := old.target, call := old.call, viaRet := old.viaRet
    held := old.held, heldCyc := old.heldCyc, stack := old.stack, rpt := none, waiting := false, cycles := old.cycles + r.cycles }

/-- The last 32 computations of a bound axis (R327). -/
def State.noteAbort (s : State) (a : Nat) (aborted : Bool) : State :=
  s.modLanes fun x => { x with aborts := tblMod [] x.aborts a fun l => (aborted :: l).take 32 }

/-- R327: the kernel of the axis in slot `slot` has used its budget and is abandoned; the lane's remaining user stages of the
tick, those of the slots behind it, are skipped. -/
def State.abandonUser (s : State) (l slot a cycles : Nat) : State :=
  let t := (s.noteAbort a true).modLogLane l fun x =>
    { x with skipFrom := some (x.skipFrom.elim slot (Nat.min slot)), abandon := some a }
  let t := t.modAxis a fun x => { x with lp := { x.lp with uUser := x.lp.uSat } }
  let t := t.emit evUserBudget (mkRef clsAxis a) [l, cycles]
  let n := ((tblGet [] t.lanes.aborts a).filter id).length
  if s.pU 0x0041 s.dev ≤ n && !s.lanes.disabled.contains a then
    ((t.modLanes fun x => { x with disabled := dedup (x.disabled ++ [a]) }).modAxis a fun x =>
      { x with userDisabled := true }).emit evUserDisabled (mkRef clsAxis a) [2]
  else t

/-- The longest hold-off, cycles (R319). -/
def maxHold : Nat := 1032

/-- The user stage of an axis: u_user, with every write that the kernel has made. -/
def State.userStage (s : State) (l slot a : Nat) (p : Fin 17) (e : KEntry) : State :=
  let k := s.activeKernel
  let x := s.pair p.val
  let regs := s.entryRegs a slot k p.val e.addr x.regs
  let r := runStage p e.budget (e.budget + maxHold) { x with regs := regs, drawn := x.drawn + 44, userAxis := some a }
  let t := s.modPair p.val fun _ => { r.1 with regs := r.1.regs.backFrom x.regs, userAxis := none }
  match r.2 with
  | .returned =>
    (t.noteAbort a false).modAxis a fun y =>
      { y with lp := { y.lp with uUser := tq (satS 16 (rdiv (r.1.regs.ds 0) 65536)) } }
  | .budget => (t.raiseEvent p.val 2).abandonUser l slot a r.1.regs.cycles
  | .fault c pc => (t.noteAbort a false).userFault a c pc

/-- R72: u_user clipped to the limiter outputs. -/
def State.clipStep (s : State) (l a : Nat) (c : LoopCfg) (ran : Bool) : State :=
  let lp := (s.axis a).lp
  let u := if ran then clipUser c (sgnDir lp.dirNeg) lp.uLim lp.uUser else lp.uUser
  let t := s.modAxis a fun x => { x with lp := { x.lp with uUser := u, userClipped := decide (u ≠ lp.uUser) } }
  if u ≠ lp.uUser then t.emit evUserClipped (mkRef clsAxis a) [l, argI (toQ15 (lp.uUser - u))] else t

/-! ### Pass 2: notches and output (R75 to R79) -/

/-- Notches, tracking, torque demand, address and amplitude of a closed axis in OUTPUT_MODE FIELD. -/
def State.outputStep (s : State) (a T : Nat) : State :=
  s.modAxis a fun x =>
    let lp := x.lp
    let u := toQ15 lp.uUser * 65536
    let r1 := runNotch (s.pU 0x2010 a : Rat) (s.pU 0x2011 a) (s.pU 0x2012 a) T lp.n1 u
    let f2 := s.pU 0x2018 a
    let on := s.pU 0x201B a = 1
    let r2 := runNotch (s.notch2 a) (s.pU 0x2019 a) (s.pU 0x201A a) T lp.n2 r1.2
    let uOut := satS 16 (rdiv r2.2 65536)
    let o := fieldOutput s.P lp.posFb lp.vFb (s.pU 0x1009 a) (s.pU 0x100A a) uOut
    { x with
      uHist := (uOut :: x.uHist).take 32
      lp := { lp with
        n1 := r1.1, n2 := r2.1, trk := if on then trackStep f2 T u lp.trk else lp.trk, uOut := uOut, addrW := o.1
        amplW := o.2 } }

/-- OUTPUT_MODE OPENLOOP (R74, R79); a soft start's last step ends on its target (R81). -/
def State.openLoopStep (s : State) (a T : Nat) (c : LoopCfg) (ceils : List Ceil) : State :=
  s.modAxis a fun x =>
    let lp := x.lp
    let r := openLoopVel (sgnDir lp.dirNeg) lp.vRef ceils
    let step := rnd ((r.1 : Rat) * kT T)
    let lands := x.softStart && x.softRamp && decide ((x.softTarget - lp.posRef).natAbs ≤ step.natAbs + 1)
    let pos := if lands then x.softTarget else satS 64 (lp.posRef + step)
    let o := openLoopOutput pos (s.pU 0x1009 a) (s.pU 0x100B a)
    { x with lp := { lp with
      posRef := pos, posRefC := pos, win := r.2, rhoA := yieldOf c r.2 lp.vFb lp.vRef, uOut := 0, tsat := false, userClipped := false
      addrW := o.1, amplW := (s.pI 0x100B a).toNat } }

/-- Address and amplitude of an alignment move (R83); both halves last ALIGN_TIME / 2. -/
def State.alignOutput (s : State) (a : Nat) (x : AlignSt) : Nat × Nat :=
  let half := s.pU 0x100D a * 500000
  let el := s.now - x.start
  let full := s.pU 0x100C a
  if x.second then (16384, full) else (0, if half ≤ el then full else (rdiv (full * el : Nat) half).toNat)

/-- An axis whose loop is not closed: no torque, winner 14, or the alignment's word. -/
def State.openStep (s : State) (a : Nat) : State :=
  s.modAxis a fun x =>
    let o := match x.align with
      | some g => s.alignOutput a g
      | none => (x.lp.addr, 0)
    { x with lp := { x.lp with
      win := 14, rhoA := 65536, uOut := 0, tsat := false, userClipped := false, addrW := o.1, amplW := o.2 } }

/-! ### HARD_STOP while it presses (Table 4.6, R107) -/

/-- The torque is limited to HOME_TORQUE. -/
def State.pressCfg (s : State) (a : Nat) (c : LoopCfg) : LoopCfg :=
  if (s.axis a).home.state = 5 then { c with torqueMax := (if c.torqueMax < s.pU 0x301A a then c.torqueMax else s.pU 0x301A a) } else c

/-- Consecutive computations at which the stall condition holds. -/
def State.stallStep (s : State) (a : Nat) : State :=
  s.modAxis a fun x => match x.home.run with
    | some r =>
      let hit := decide (x.home.state = 5) && decide (tq (s.pU 0x301A a) ≤ x.lp.uSel.natAbs) &&
        decide (x.lp.vFb.natAbs ≤ s.pU 0x1024 a)
      { x with home := { x.home with run := some { r with stallRun := if hit then r.stallRun + 1 else 0 } } }
    | none => x

/-! ### Pass 2 of one axis -/

/-- The last word of a slot's output entry is its DONE word, the low 16 bits of the cycle number (R303). -/
def doneAddr (slot : Nat) : Nat := 0x9C00 + 8 * slot + 7

def State.doneWord (s : State) : Word := s.tick.cycle &&& 0xFFFF

def State.writeDone (s : State) (p slot : Nat) : State :=
  s.modPair p fun x => { x with xMem := cellWrite x.xMem (doneAddr slot) s.doneWord }

/-- A computation of a bound axis whose user stage is not run counts among its last 32 as well (R327). -/
def State.noteSkipped (s : State) (l a : Nat) : State :=
  if (s.activeKernel.entryOf a).isSome && (s.logLane l).abandon ≠ some a then s.noteAbort a false else s

def State.passTwoOp (s : State) (l slot a : Nat) (p : Fin 17) : State :=
  let T := s.axisT a
  if !(s.axis a).closed then (s.openStep a).noteSkipped l a
  else
    let c := s.pressCfg a (s.loopCfg a)
    let ceils := s.ceilings a
    if s.openLoop a then (s.openLoopStep a T c ceils).noteSkipped l a
    else
      let ex := s.sweepExcite a T
      let s1 := ex.1.modAxis a fun x =>
        let lp := selectAll c T x.lp.eUsed ceils x.lp
        { x with lp := { lp with uUser := lp.uSat, rhoA := yieldOf c lp.win lp.vFb lp.vRef } }
      let ent := s1.userEntry l slot a p.val
      let s2 := match ent with
        | some e => s1.userStage l slot a p e
        | none => s1.noteSkipped l a
      (ex.2.foldl (fun u e => u.sweepSample a e) ((s2.clipStep l a c ent.isSome).outputStep a T)).stallStep a

/-- Pass 2 of an axis; the DONE word is the last that is written. -/
def State.passTwo (s : State) (l slot a : Nat) (p : Fin 17) : State := (s.passTwoOp l slot a p).writeDone p.val slot

/-! ### The PASS, DEADLINE and SLACK events (R41, R318) -/

/-- The slots that a pass finishes: all of them, or the first `n` where it runs beyond the latch. -/
def doneSlots (slots : List (Nat × Nat)) (n finish : Nat) : List (Nat × Nat) :=
  if finish ≤ 22000 then slots else slots.take n

/-- An engine's results of this tick stand, or it is late with them (R41, R44); a lost engine gives none. -/
def State.engineSettled (s : State) (e : Island) : Bool :=
  (s.eng e).published || (s.eng e).late || !s.islandAlive e

/-- Slack of a lane in a tick that finishes pass 2 at `finish`: the time without an item of Table 2.1, before pass 1 and after
pass 2 (R54, R55). -/
def State.laneSlackNs (s : State) (finish : Nat) : Nat := 12000 + (s.P - finish)

def State.laneEventPassOp (s : State) (l : Fin 17) (second : Bool) (n finish : Nat) : State :=
  let x := s.logLane l.val
  match s.pairOf l.val with
  | none => s
  | some p =>
    if s.inTakeover l.val || s.tick.latched then s
    else if !second then
      (if s.tick.intakeDone && !x.pass1 then
        let t := (s.raiseEvent p 3).modLogLane l.val fun y => { y with pass1 := true }
        t.forEach (doneSlots (s.slotsNow l.val) n finish) fun u e => u.passOne e.2
       else s)
    else if x.pass1 && !x.pass2 && s.engineSettled .madder && s.engineSettled .woad then
      let t := (s.raiseEvent p 3).modLogLane l.val fun y => { y with pass2 := true, finish := finish }
      let t := t.modTick fun y => { y with
        finishMax := Nat.max y.finishMax finish
        slackMin := some (y.slackMin.elim (s.laneSlackNs finish) fun v => Nat.min v (s.laneSlackNs finish)) }
      let ready := (doneSlots (s.slotsNow l.val) n finish).filter fun e => (s.axis e.2).lp.pass1Done
      let u := t.forEach ready fun u e => u.passTwo l.val e.1 e.2 (Fin.ofNat 17 p)
      u.forEach ((upTo 16).filter fun k =>
        ready.any fun e => s.cmpSrc k = mkRef clsAxis e.2) fun v k => v.cmpPredict k
    else s

def execLaneEventPass (lane : Fin 17) (pass : Fin 2) (slots finish : Nat) (s : State) : Out :=
  .next (s.laneEventPassOp lane (pass.val = 1) slots finish)

/-- DEADLINE is the first in priority; the firmware abandons pass 2. -/
def execLaneEventDeadline (lane : Fin 17) (s : State) : Out :=
  .next (match s.pairOf lane.val with
    | some p => (s.raiseEvent p 1).modLogLane lane.val fun x => { x with pass2 := true }
    | none => s)

/-- The lane has no foreground item of Table 2.1: the intake has not come, or its pass 2 or the latch is over (R55). -/
def State.laneSlack (s : State) (l : Nat) : Bool :=
  !s.tick.intakeDone || (s.logLane l).pass2 || s.tick.latched

def execLaneEventSlack (lane : Fin 17) (s : State) : Out :=
  .next (match s.pairOf lane.val with
    | some p => if s.laneSlack lane.val then s.raiseEvent p 4 else s
    | none => s)

/-- The BUDGET event as measured: the axis's kernel has used its cycles before its lane's pass 2 (R327). -/
def execUserBudget (axis cycles : Nat) (s : State) : Out :=
  .next (match s.laneOf axis with
    | some (l, slot) => match s.pairOf l with
      | some p =>
        if (s.userEntry l slot axis p).isSome then (s.raiseEvent p 2).abandonUser l slot axis cycles else s
      | none => s
    | none => s)

/-- R66: the third computation in a row with the positions apart. -/
def execPlausFault (axis : Nat) (s : State) : Out :=
  let x := s.axis axis
  .next (if x.lp.plausRun = 3 then
      let t := s.modAxis axis fun y => { y with lp := { y.lp with plausRun := 4 } }
      t.feedbackFault axis evPlausFault [argI (satS 32 (s.loadPos axis - x.lp.posFb))]
    else s)

/-! ### The deadline latch (R47 to R50) -/

/-- A computation that its lane has not finished has consumed no sample (R59): the kernel is as it was before, but for an
SS1 that has begun since and for a following error already recorded. -/
def LoopSt.undo (lp b : LoopSt) : LoopSt :=
  { b with
    ss1 := if lp.ss1.map (fun r => r.t0) = b.ss1.map (fun r => r.t0) then b.ss1 else lp.ss1
    feOver := lp.feOver }

/-- Capture or substitution of one axis; the values become the previous ones. What the next computation integrates from:
`LoopSt.refBase` (log entry 72). -/
def LoopSt.latch (lp : LoopSt) (P : Nat) (overrun captured : Bool) : LoopSt :=
  let l := if captured then { lp with addr := lp.addrW, ampl := lp.amplW, extrap := false, overrun := false }
    else { extrapolate P lp with extrap := true, overrun := overrun, win := 15 }
  { l with
    addrPrev2 := lp.addrPrev, addrPrev := l.addr, posRefPrev2 := lp.posRefPrev, posRefPrev := l.posRef
    vRefPrev := l.vRef, pass1Done := false }

/-- The latch on one axis in cycle `c`; a captured computation is LAST, and a braking axis whose computed reference has
stopped is at rest (R101, R303). -/
def Axis.latch (x : Axis) (P : Nat) (overrun captured : Bool) (c : Word) : Axis :=
  let lp := if captured then { x.lp with last := c } else (x.bak.map x.lp.undo).getD x.lp
  { x with
    bak := none, lp := lp.latch P overrun captured
    brakeStop := if captured && x.lp.vRef = 0 then none else x.brakeStop }

/-- The latch captures a slot's entry only if its DONE word names this cycle (R303); a lane without a pair has none. -/
def State.captures (s : State) (l slot : Nat) : Bool :=
  (s.pairOf l).any fun p => cellRead (s.pair p).xMem (doneAddr slot) = s.doneWord

/-- The latch on one slot: the axis's values, and what R303 has written into the control block of the lane's pair. -/
def State.latchSlot (s : State) (l : Nat) (e : Nat × Nat) (overrun : Bool) : State :=
  let t := s.modAxis e.2 fun y => y.latch s.P overrun (s.captures l e.1) s.tick.cycle
  match s.pairOf l with
  | some p => t.modPair p fun x => x.writeCtl e.1 (t.axis e.2).lp
  | none => t

/-- The latch of one lane; a lost lane's axes count with it until their new lanes compute them (R48, R466). The finish offset in OVERRUN is 0 for a lane whose pass 2 has not run, DESIGN CHOICE (log entry 14). -/
def State.latchLane (s : State) (l : Nat) : State :=
  let x := s.logLane l
  let held := x.held.filter fun e => !s.axisAbsent e.2
  let due := (s.slotsDue l).map fun e => e.2
  let lost := (laneNos.flatMap s.lostDue).map fun e => e.2
  let miss := held.filter fun e => due.contains e.2 && !s.captures l e.1
  let n := miss.length + (s.lostDue l).length
  let t := s.forEach held fun u e => u.latchSlot l e (due.contains e.2 || lost.contains e.2)
  let t := if n = 0 then t else t.emit evOverrun t.devRef [l, n, x.finish]
  if miss.isEmpty ∨ s.inTakeover l ∨ !s.served l then t
  else t.modLogLane l fun y => { y with overruns := recentOverruns (y.overruns ++ [s.tick.no]) s.tick.no }

def State.deadlineLatch (s : State) : State :=
  let t := s.forEach laneNos State.latchLane
  let t := t.forEach (upTo 16) fun u k =>
    u.cmpLatch k (refClass (u.cmpSrc k) = clsAxis && !(u.axis (refIndex (u.cmpSrc k))).lp.extrap)
  let v : Tbl (Int × Int) := t.axisList.map fun a => (a, (t.axis a).lp.vRef, (t.axis a).lp.aRef)
  (t.modSep fun x => { x with latchV := v }).modTick fun x => { x with latched := true }

def execDeadlineLatch (s : State) : Out :=
  .next (if s.tick.running && !s.tick.latched then s.deadlineLatch else s)

/-! ### Notch 2 at a planning boundary (R77) -/

def State.trackBoundary (s : State) : State :=
  s.forEach (s.axisList.filter fun a => s.pU 0x201B a = 1) fun u a =>
    let r := trackUpdate (u.pU 0x2018 a) (u.axisT a) (u.pU 0x201C a) (u.pU 0x201D a) (u.axis a).lp.trk
    let t := u.modAxis a fun x => { x with lp := { x.lp with trk := r.1 } }
    match r.2 with
    | some e => t.emit evNotchTrackLimit (mkRef clsAxis a) [argI e]
    | none => t

end Sys2Proof.Machine
end

