-- ==== Sys2Proof/Machine/Homing.lean ====
section
/-!
DEFINITION. Homing and index checking (R102 to R110): the searches of Table 4.6, their switches, stages and ends.
-/
namespace Sys2Proof.Machine

/-! ### Parameters of a homing axis -/

def State.homeMethod (s : State) (a : Nat) : Nat := s.pU 0x3010 a

/-- Ticks of an unbroken level that make an edge (R105). -/
def State.debounceTicks (s : State) (a : Nat) : Nat := Nat.max 1 (ticksOf s.P (s.pU 0x3019 a * 1000))

/-- The input that HOME_SWITCH selects. -/
def State.homeInput (s : State) (a : Nat) : SwitchSt :=
  let h := (s.axis a).home
  match s.pU 0x3012 a with | 1 => h.swPos | 2 => h.swNeg | _ => h.swHome

def State.modHome (s : State) (a : Nat) (f : HomeSt → HomeSt) : State :=
  s.modAxis a fun x => { x with home := f x.home }

def State.modRun (s : State) (a : Nat) (f : HomeRun → HomeRun) : State :=
  s.modHome a fun h => { h with run := h.run.map f }

/-! ### Switch inputs, once per tick (R105) -/

/-- One evaluation of an input; `pos` is pos_fb. A reversion before the debounce count is a rejected transition. -/
def SwitchSt.sample (x : SwitchSt) (n : Nat) (raw : Bool) (pos : Int) : SwitchSt × Nat :=
  if raw = x.level then ({ x with run := 0 }, if 0 < x.run ∧ x.run < n then 1 else 0)
  else if x.run = 0 then ({ x with cand := raw, run := 1, firstPos := pos }, 0)
  else ({ x with run := x.run + 1 }, 0)

/-- The new level has stayed for the debounce count. -/
def SwitchSt.stable (x : SwitchSt) (n : Nat) : Bool := x.cand != x.level && decide (n ≤ x.run)

def SwitchSt.accept (x : SwitchSt) : SwitchSt := { x with level := x.cand, run := 0 }

/-! ### Segments of a run (R102, R103) -/

/-- A search has no end of its own: its target lies 2³⁰ turns away. -/
def searchDist : Int := 2 ^ 62

/-- The axis drives its own queue over a distance, at a homing speed. -/
def State.homeSegment (s : State) (a : Nat) (neg : Bool) (v : Nat) (dist : Int) : State :=
  let q := mkRef clsAxis a
  let g : Seg := { segId := 0, notify := false, vStart := 0, vStop := 0, axes := [a],
                   targets := [satS 64 ((s.axis a).lp.hold + sgnDir neg * dist)], homing := true, vFix := v }
  ((s.modAxis a fun x => { x with bound := some q }).modQueue q fun x =>
    { x with segs := [g], plan := none, waiting := false, halting := false, endedTick := none }).tryStart q

/-- The axis enters a HOME_STATE at rest: the step of Table 4.6 that the state stands for. -/
def State.enterHome (s : State) (a st : Nat) : State :=
  match (s.axis a).home.run with
  | none => s
  | some r =>
    let lv := (s.homeInput a).level
    let rev := (s.axis a).home.reversed
    let fast := s.pU 0x3013 a
    let slow := s.pU 0x3014 a
    let st := if st = 2 ∧ !lv then 3 else st
    let t := (s.modHome a fun h => { h with state := st }).modRun a fun x => { x with next := none, seenActive := lv }
    match st with
    | 1 => t.homeSegment a (r.dirNeg != rev) fast searchDist
    | 2 => t.homeSegment a (!r.dirNeg) fast searchDist
    | 6 => t.homeSegment a (!r.dirNeg) slow (s.pU 0x3017 a)
    | _ => t.homeSegment a r.dirNeg slow searchDist

/-- An axis begins its own method; ABSOLUTE takes its event at this tick's intake. -/
def State.beginMethod (s : State) (a : Nat) : State :=
  let t := s.modRun a fun r => { r with started := true, stageStart := s.now, dirNeg := decide (s.pU 0x3011 a = 1) }
  match s.homeMethod a with
  | 2 => t.enterHome a 4
  | 3 => t.enterHome a 5
  | 4 => t.modHome a fun h => { h with state := 0 }
  | _ => t.enterHome a (if (s.homeInput a).level then 2 else 1)

/-- The axes of a run that wait for their stage. -/
def State.homeWaiting (s : State) (root : Word) : List (Nat × Nat) :=
  (s.homeRoot root).filterMap fun a => match (s.axis a).home.run with
    | some r => if r.started then none else some (r.stage, a)
    | none => none

/-- The lowest stage of a run starts, its axes together. -/
def State.startStage (s : State) (root : Word) : State :=
  let w := s.homeWaiting root
  let k := minL (2 ^ 16) (w.map fun p => p.1)
  s.forEach ((w.filter fun p => p.1 = k).map fun p => p.2) State.beginMethod

/-- R102: every axis of the current stage is homed and at rest. -/
def State.stageReady (s : State) (root : Word) : Bool :=
  !(s.homeWaiting root).isEmpty && (s.homeWaiting root).length = (s.homeRoot root).length

def State.homeRoots (s : State) : List Word :=
  (s.axes.filterMap fun p => p.2.home.run.map fun r => r.root).eraseDups

/-- The tick after every axis of the current stage is homed and at rest. -/
def State.stageDue (s : State) (root : Word) : Bool :=
  s.stageReady root && (s.homeRoot root).all fun a =>
    ((s.axis a).home.run.bind fun r => r.readyTick).any fun n => decide (n < s.tick.no)

def execHomeStageStart (s : State) : Out :=
  .next (if s.health.supLost.isSome then s else s.forEach (s.homeRoots.filter s.stageDue) State.startStage)

/-! ### HOME (R102) -/

/-- The lane of the axis is in an identification sweep (R331). -/
def State.laneSweeping (s : State) (a : Nat) : Bool :=
  match s.laneOf a with
  | some (l, _) => s.lanes.sweeps.any fun x => (s.laneOf x.axis).map (fun p => p.1) = some l
  | none => false

def State.homeCheck (s : State) (a : Nat) : Nat :=
  if s.safety.degraded.isSome then stNotAllowed
  else if (s.axis a).bound.isSome || (s.axis a).home.run.isSome || s.laneSweeping a then stBusy
  else if s.pU 0x1003 a ≠ 0 then stNotAllowed
  else if s.axisState a ≠ stReady then stNotReady
  else stOk

/-- R20: a command on every axis below its object, or the status of the first axis that rejects it. -/
def State.onAxes (s : State) (op : Nat) (h : Hdr) (check : Nat → Nat) (act : List Nat → State) : State :=
  let ax := s.localAxes h.obj
  if ax.isEmpty then s.done op h stNoEffect
  else match ax.find? fun a => check a ≠ stOk with
    | some a => s.complete op h (check a) (mkRef clsAxis a) 0
    | none => act ax

/-- A fresh run of an axis waits for its stage. -/
def Axis.homeFresh (x : Axis) (root : Word) (stage : Nat) : Axis :=
  { x with home := { x.home with
    state := 7, homed := false, reversed := false, failed := false, rejected := 0, cH := none, idxMiss := 0
    run := some { root := root, stage := stage } } }

def State.homeOp (s : State) (h : Hdr) : State :=
  s.onAxes 0x0103 h s.homeCheck fun ax =>
    let t := s.forEach ax fun u a => u.modAxis a fun x => x.homeFresh h.obj (s.pU 0x301D a)
    (t.startStage h.obj).done 0x0103 h stOk

def execHome (h : Hdr) (s : State) : Out := .next (s.homeOp h)

/-! ### The defining event (R104) -/

/-- The event's position is taken, and the axis brakes. -/
def State.definingEvent (s : State) (a : Nat) (p : Int) : State :=
  (s.modRun a fun r => { r with pEv := some p, evTick := s.tick.no }).homeBrake a

/-- Every position of a kernel moves with the frame. -/
def LoopSt.shift (lp : LoopSt) (d : Int) : LoopSt :=
  let mv := fun (p : Int) => satS 64 (p + d)
  { lp with
    posFb := mv lp.posFb, posFbPrev := mv lp.posFbPrev, posRef := mv lp.posRef, pProf := mv lp.pProf, hold := mv lp.hold
    posRefPrev := mv lp.posRefPrev, posRefPrev2 := mv lp.posRefPrev2, posRefC := mv lp.posRefC }

/-- A position in the axis's frame moves with it. -/
def Axis.shift (x : Axis) (d : Int) : Axis :=
  let mv := fun (p : Int) => satS 64 (p + d)
  { x with
    fb := { x.fb with posNew := mv x.fb.posNew, posLoad := mv x.fb.posLoad }
    lp := x.lp.shift d
    bak := x.bak.map fun l => l.shift d
    refBrake := x.refBrake.map mv
    softTarget := mv x.softTarget
    home := { x.home with
      swHome := { x.home.swHome with firstPos := mv x.home.swHome.firstPos }
      swPos := { x.home.swPos with firstPos := mv x.home.swPos.firstPos }
      swNeg := { x.home.swNeg with firstPos := mv x.home.swNeg.firstPos } } }

/-- The places that an axis holds in a segment. -/
def shiftAt (a : Nat) (d : Int) (axes : List Nat) (ps : List Int) : List Int :=
  (axes.zip ps).map fun e => if e.1 = a then satS 64 (e.2 + d) else e.2

/-- A bumpless shift: positions, and the segments of the queue that the axis is bound to. -/
def State.shiftAxis (s : State) (a : Nat) (d : Int) : State :=
  let t := s.modAxis a fun x => x.shift d
  match (s.axis a).bound with
  | some q => t.modQueue q fun y => { y with
      plan := y.plan.map fun p => match y.segs with
        | g :: _ => { p with starts := shiftAt a d g.axes p.starts }
        | [] => p
      segs := y.segs.map fun g => { g with targets := shiftAt a d g.axes g.targets } }
  | none => t

/-- The frame of an axis moves by `d` at the lane, by adding to pos_org (R135). -/
def State.shiftLane (s : State) (a : Nat) (d : Int) : State :=
  (s.shiftAxis a d).modAxis a fun x => { x with fb := { x.fb with posOrg := x.fb.posOrg + d } }

/-- The shift of a homing at an engine, from its own HOME_POS and its own count total: the event's position lies in the
engine's frame by its own pos_org, and its total may differ from the lane's by turns of the raw count (R104, R151). -/
def State.homeShift (s : State) (a : Nat) (p : Int) (j : JointSt) : Int :=
  let fb := (s.axis a).fb
  let w := 2 ^ s.countWidth a
  let turnsOff := posOfCount 0 (s.pU 0x4031 a = 1) (s.pU 0x4030 a) (rdiv (j.cnt - fb.cnt) w * w)
  s.pI 0x3016 a - (if s.homeMethod a = 4 then j.posOrg else p - fb.posOrg + j.posOrg + turnsOff)

/-- The run is over once nothing drives the axis; a stage that waited for it knows the tick. -/
def State.homeRest (s : State) (a : Nat) : State :=
  if (s.queue (mkRef clsAxis a)).segs.isEmpty then
    match (s.axis a).home.run with
    | some r =>
      let t := s.modHome a fun h => { h with run := none, state := 0 }
      if t.stageReady r.root then
        t.forEach (t.homeRoot r.root) fun u b => u.modRun b fun x => { x with readyTick := some u.tick.no }
      else t
    | none => s
  else s

def State.homeDoneOp (s : State) (a : Nat) : State :=
  match (s.axis a).home.run with
  | none => s
  | some r =>
    match r.pEv with
    | none => s
    | some p =>
      let d := s.pI 0x3016 a - (if s.homeMethod a = 4 then (s.axis a).fb.posOrg else p)
      let t := ((s.shiftLane a d).engineShift a (s.homeShift a p)).modHome a fun h => { h with
        homed := true, run := some { r with pEv := none, ending := true } }
      ((t.setIllegal a 0).emit evHomeDone (mkRef clsAxis a) (s.homeMethod a :: arg64 p)).homeRest a

/-- The tick after the defining event. -/
def State.homeDue (s : State) (a : Nat) : Bool :=
  match (s.axis a).home.run with
  | some r => r.pEv.isSome && decide (r.evTick < s.tick.no)
  | none => false

def execHomeDone (axis : Nat) (s : State) : Out := .next (if s.homeDue axis then s.homeDoneOp axis else s)

/-! ### The intake of a homing axis (R104, R105) -/

def State.sampleSwitches (s : State) (a : Nat) : State :=
  let w := s.switchWord a
  let n := s.debounceTicks a
  s.modAxis a fun x =>
    let p := x.fb.posNew
    let h := x.home.swHome.sample n (bitN w 42) p
    let u := x.home.swPos.sample n (bitN w 40) p
    let v := x.home.swNeg.sample n (bitN w 41) p
    let k := if x.home.run.isSome then h.2 + u.2 + v.2 else 0
    { x with home := { x.home with
      swHome := h.1, swPos := u.1, swNeg := v.1, rejected := Nat.min 9 (x.home.rejected + k) } }

/-- The first index after homing is the one that later ones are checked against, whether or not IDX_CHECK is ON then; an
index search has taken its own (R110). -/
def State.firstIndex (s : State) (a : Nat) : State :=
  let x := s.axis a
  match x.fb.idx, x.home.cH with
  | some c, none =>
    if x.home.homed then
      s.modAxis a fun y => { y with
        fb := { y.fb with idx := none }, home := { y.home with cH := some c, idxCorr := 0, idxDev := 0, idxMiss := 0 } }
    else s
  | _, _ => s

/-- The first index of an index search, or the absolute position, is the defining event. -/
def State.homeIntake (s : State) (a : Nat) : State :=
  let t := s.sampleSwitches a
  let x := t.axis a
  match x.home.run with
  | none => t.firstIndex a
  | some r =>
    if !r.started || r.pEv.isSome || r.ending || r.next.isSome then t.firstIndex a
    else if t.homeMethod a = 4 then
      t.modRun a fun y => { y with pEv := some (x.fb.posNew - x.fb.posOrg), evTick := s.tick.no }
    else if x.home.state = 4 then
      match x.fb.idx with
      | some c => (t.modHome a fun h => { h with cH := some c, idxCorr := 0 }).definingEvent a (t.indexPos a c)
      | none => t
    else t

/-! ### Switch edges, chatter, stall, limits, timeout (R105 to R109) -/

/-- The axis brakes and goes on with a HOME_STATE at rest. -/
def State.homeTurn (s : State) (a st : Nat) : State := (s.modRun a fun r => { r with next := some st }).homeBrake a

/-- What an accepted edge of the home switch does in each step of Table 4.6. -/
def State.homeEdge (s : State) (a : Nat) (active : Bool) (pos : Int) : State :=
  let h := (s.axis a).home
  match h.run with
  | none => s
  | some r =>
    if r.next.isSome || r.pEv.isSome || r.ending then s
    else if h.state = 1 ∧ !h.reversed then (if active then s.homeTurn a 2 else s)
    else if h.state = 1 then
      (if active then s.modRun a fun x => { x with seenActive := true }
       else if r.seenActive then s.homeTurn a 3 else s)
    else if h.state = 2 then (if active then s else s.homeTurn a 3)
    else if h.state = 3 ∧ active then
      (if s.homeMethod a = 1 then s.modHome a fun x => { x with state := 4 } else s.definingEvent a pos)
    else s

/-- Which inputs of an axis are accepted: the home switch, and limits that are released. -/
def State.acceptEdges (s : State) (a : Nat) : State :=
  let n := s.debounceTicks a
  let sel := s.pU 0x3012 a
  let x := s.homeInput a
  let t := s.modHome a fun h => { h with
    swHome := if h.swHome.stable n then h.swHome.accept else h.swHome
    swPos := if h.swPos.stable n ∧ (sel = 1 ∨ !h.swPos.cand) then h.swPos.accept else h.swPos
    swNeg := if h.swNeg.stable n ∧ (sel = 2 ∨ !h.swNeg.cand) then h.swNeg.accept else h.swNeg }
  if x.stable n then t.homeEdge a x.cand x.firstPos else t

def execHomeSwitchEdge (axis : Nat) (s : State) : Out := .next (s.acceptEdges axis)

def execHomeChatter (axis : Nat) (s : State) : Out :=
  let h := (s.axis axis).home
  .next (if h.run.isSome && 9 ≤ h.rejected then
      (s.emit evHomeChatter (mkRef clsAxis axis) [h.rejected]).homeFail axis
    else s)

/-- R107: the stall has held for HOME_TORQUE_T; the axis backs off. -/
def State.stallConfirmed (s : State) (a : Nat) : State :=
  let q := mkRef clsAxis a
  let t := s.modRun a fun r => { r with pEv := some (s.axis a).lp.posFb, evTick := s.tick.no }
  let t := match (s.queue q).segs, (s.queue q).plan with
    | g :: _, some p => t.holdEnd g p (s.queue q).tau
    | _, _ => t
  t.enterHome a 6

def State.stallHeld (s : State) (a : Nat) : Bool :=
  let x := s.axis a
  match x.home.run with
  | some r => x.stalled && r.pEv.isNone && decide (s.pU 0x301B a * 1000000 ≤ (r.stallRun - 1) * s.axisT a)
  | none => false

def execHomeStallConfirmed (axis : Nat) (s : State) : Out :=
  .next (if s.stallHeld axis then s.stallConfirmed axis else s)

/-- The limit bit of Table 5.5 that has become active and is not the home switch; the lower first. -/
def State.limitTrip (s : State) (a : Nat) : Option Nat :=
  let h := (s.axis a).home
  let n := s.debounceTicks a
  if h.swPos.stable n && h.swPos.cand && s.pU 0x3012 a ≠ 1 then some 40
  else if h.swNeg.stable n && h.swNeg.cand && s.pU 0x3012 a ≠ 2 then some 41
  else none

/-- R108: reverse once, or fail. After the defining event nothing is left to search: a trip then fails the run, and a
FAILED axis keeps HOMED clear (R109). -/
def State.homeLimitOp (s : State) (a bit : Nat) : State :=
  let h := (s.axis a).home
  let t := s.modHome a fun x =>
    if bit = 40 then { x with swPos := x.swPos.accept } else { x with swNeg := x.swNeg.accept }
  match h.run with
  | none => t
  | some r =>
    if !r.started then t
    else if s.pU 0x3018 a = 1 ∧ !h.reversed ∧ r.pEv.isNone ∧ !r.ending then
      let t := t.modHome a fun x => { x with reversed := true }
      if s.homeMethod a ≤ 1 then t.homeTurn a 1
      else (t.modRun a fun x => { x with dirNeg := !r.dirNeg }).homeTurn a h.state
    else (t.emit evHomeLimit (mkRef clsAxis a) [bit, b2n h.reversed]).homeFail a

def execHomeLimit (axis : Nat) (s : State) : Out :=
  .next (match s.limitTrip axis with
    | some bit => s.homeLimitOp axis bit
    | none => s)

def State.homeLate (s : State) (a : Nat) : Bool :=
  match (s.axis a).home.run with
  | some r => r.started && !(s.axis a).home.homed && decide (s.pU 0x301C a * 1000000 < s.now - r.stageStart)
  | none => false

def execHomeTimeout (axis : Nat) (s : State) : Out :=
  .next (if s.homeLate axis then
      (s.emit evHomeTimeout (mkRef clsAxis axis) [(s.axis axis).home.state]).homeFail axis
    else s)

/-! ### Step 5: from one step of a method to the next -/

/-- A run at rest ends, or goes on in the tick after its last segment ended; after a supervisor loss no segment starts (R470). -/
def State.homeTick (s : State) : State :=
  s.forEach ((s.axes.filter fun p => p.2.home.run.isSome).map fun p => p.1) fun t a =>
    let q := t.queue (mkRef clsAxis a)
    match (t.axis a).home.run with
    | none => t
    | some r =>
      if !r.started || !q.segs.isEmpty || r.pEv.isSome then t
      else if r.ending then t.homeRest a
      else match r.next with
        | some st => if q.endedTick = some t.tick.no || t.health.supLost.isSome then t else t.enterHome a st
        | none => t

/-! ### Index checking (R110) -/

/-- A deviation modulo the period, in (−period/2, period/2]. -/
def devOf (c cH period : Int) : Int :=
  let m := (c - cH) % period
  if period < 2 * m then m - period else m

/-- An index at `c` against the defining one at `cH`, with the corrections made in between. -/
def State.indexCheckOp (s : State) (a : Nat) (c : Int) : State :=
  let h := (s.axis a).home
  let per : Int := Nat.max 1 (if s.pU 0x3021 a = 0 then s.pU 0x4030 a else s.pU 0x3021 a)
  let t := s.modAxis a fun x => { x with fb := { x.fb with idx := none } }
  match h.cH with
  | none => t
  | some cH =>
    let dev := devOf (c + h.idxCorr) cH per
    let t := t.modHome a fun x => { x with idxDev := dev }
    if dev.natAbs ≤ s.pU 0x3020 a then t.modHome a fun x => { x with idxMiss := 0, idxShift := -dev }
    else
      let n := Nat.min 3 (h.idxMiss + 1)
      (t.modHome a fun x => { x with idxMiss := n }).emit evIdxMismatch (mkRef clsAxis a) [argI dev, n]

def execIndexCheck (axis : Nat) (s : State) : Out :=
  let x := s.axis axis
  .next (match x.fb.idx with
    | some c => if s.pU 0x3022 axis = 1 ∧ x.home.homed then s.indexCheckOp axis c else s
    | none => s)

def execIdxFault (axis : Nat) (s : State) : Out :=
  let h := (s.axis axis).home
  .next (if h.homed && h.idxMiss = 3 then s.feedbackFault axis evIdxFault [argI h.idxDev] else s)

/-- The corrections found in the tick before: the frame moves by as many counts, at the lane and at both engines. -/
def State.indexShifts (s : State) : State :=
  s.forEach ((s.axes.filter fun p => p.2.home.idxShift ≠ 0).map fun p => p.1) fun t a =>
    let k := (t.axis a).home.idxShift
    let d := posOfCount 0 (t.pU 0x4031 a = 1) (t.pU 0x4030 a) k
    let u := (t.shiftLane a d).modHome a fun x => { x with idxShift := 0, idxCorr := x.idxCorr + k }
    u.engineShift a fun _ => d

/-! ### Homing status (Table 4.7) -/

def HomeSt.status (h : HomeSt) : Nat :=
  h.state % 8 + 8 * b2n h.homed + 16 * b2n h.reversed + 32 * b2n h.failed + 64 * (h.rejected % 16) +
  1024 * (h.idxMiss % 4) + 65536 * uns 16 (clampI (-32767) 32767 h.idxDev)

end Sys2Proof.Machine
end

