-- ==== Sys2Proof/Machine/MotionCmd.lean ====
section
/-!
DEFINITION. The motion commands MOVE and HALT (R91 to R101), and what step 5 of a tick does with a queue or a supply
domain, as commands of their own (R94, R99, R113, R115).
-/
namespace Sys2Proof.Machine

/-! ### MOVE -/

/-- What one axis answers to a MOVE into queue `q` (R92, R239, R331). -/
def State.moveCheck (s : State) (q : Word) (a : Nat) : Nat :=
  let x := s.axis a
  let st := s.axisState a
  if s.safety.degraded.isSome then stNotAllowed
  else if (x.bound.isSome && x.bound ≠ some q) || x.home.run.isSome || s.laneSweeping a then stBusy
  else if s.pU 0x1003 a ≠ 0 then stNotAllowed
  else if s.pU 0x3004 a = 1 ∧ !x.home.homed then stNotHomed
  else if !([stReady, stMoving, stLimited, stDegraded].contains st) || x.softStart then stNotReady
  else stOk

/-- The start positions of the next segment of a queue: the targets before it, or the hold positions (R93). -/
def State.nextStarts (s : State) (q : Word) (axes : List Nat) : List Int :=
  let last := (s.queue q).segs.getLast?
  axes.map fun a => match last.bind fun g => (g.axes.zip g.targets).find? fun e => e.1 = a with
    | some e => e.2
    | none => (s.axis a).lp.hold

/-- The segment that a MOVE spells, on this device's axes below the object. -/
def State.moveSeg (s : State) (q : Word) (m : MoveArgs) : Seg :=
  let mine := ((s.axesBelow q).zip m.targets).filter fun e => decide (e.1 / 512 = s.dev)
  let axes := mine.map fun e => e.1
  let rel := bitN m.flags.toNat 0
  let targets := (mine.zip (s.nextStarts q axes)).map fun e => if rel then satS 64 (e.2 + e.1.2) else e.1.2
  { segId := m.segId, notify := bitN m.flags.toNat 1, vStart := m.vStart.toNat, vStop := m.vStop.toNat,
    axes := axes, targets := targets }

/-- The segment enters its queue and binds its axes; in an empty queue, from rest, it asks to start (R92, R94). -/
def State.enqueue (s : State) (q : Word) (g : Seg) : State :=
  let first := (s.queue q).segs.isEmpty
  let t := s.modQueue q fun x => { x with
    segs := x.segs ++ [g], endedTick := if first then some s.tick.no else x.endedTick }
  let t := t.forEach g.axes fun u a => u.modAxis a fun x => { x with bound := some q }
  if first && s.atRest g then t.tryStart q else t

/-- The form checks of Table 4.2. -/
def moveFormOk (m : MoveArgs) : Bool :=
  m.flags.toNat < 4 && 1 ≤ m.targets.length && m.targets.length ≤ 16

def State.moveOp (s : State) (h : Hdr) (m : MoveArgs) : State :=
  let n := (s.axesBelow h.obj).length
  if !moveFormOk m then s.done 0x0101 h stArg
  else if n ≠ 0 ∧ n ≠ m.targets.length then s.done 0x0101 h stArg
  else if n ≠ 0 ∧ 32 ≤ (s.queue h.obj).segs.length then s.done 0x0101 h stQueueFull
  else s.onAxes 0x0101 h (s.moveCheck h.obj) fun _ =>
    let g := s.moveSeg h.obj m
    if s.segValid g (s.nextStarts h.obj g.axes) then (s.enqueue h.obj g).done 0x0101 h stOk
    else s.done 0x0101 h stProfile

def execMove (h : Hdr) (a : MoveArgs) (s : State) : Out := .next (s.moveOp h a)

/-! ### HALT (R99, R100) -/

/-- Queues with a segment that drive one of the axes. -/
def State.queuesOf (s : State) (ax : List Nat) : List Word :=
  (ax.filterMap fun a => (s.axis a).bound).eraseDups.filter fun q => !(s.queue q).segs.isEmpty

/-- A HALT ends the sweeps of the axes it reaches (R331). -/
def State.haltSweeps (s : State) (ax : List Nat) : State :=
  s.modLanes fun x => { x with
    sweeps := x.sweeps.map fun w => if ax.contains w.axis ∧ w.stop.isNone then { w with stop := some false } else w }

def State.haltOp (s : State) (h : Hdr) : State :=
  let ax := s.localAxes h.obj
  let homing := ax.filter fun a => (s.axis a).home.run.isSome
  let qs := (s.queuesOf ax).filter fun q => !(homing.any fun a => q = mkRef clsAxis a)
  let own := (homing.map (mkRef clsAxis)).filter fun q => (s.queue q).plan.isSome
  let t := (s.forEach homing State.homeFail).forEach own fun u q => u.modQueue q fun y => { y with halting := y.plan.isSome }
  let t := (t.forEach qs State.haltQueue).haltSweeps ax
  t.done 0x0102 h (if homing.isEmpty && qs.isEmpty then stNoEffect else stOk)

def execHalt (h : Hdr) (s : State) : Out := .next (s.haltOp h)

/-! ### Queues and supply: what step 5 finds due -/

def execSegmentStart (queue : Word) (s : State) : Out :=
  .next (if s.startDue queue then s.tryStart queue else s)


def execSegEnd (queue : Word) (s : State) : Out :=
  .next (if s.segOver queue && !(s.queue queue).halting then s.endSegment queue else s)

def execQueueAtRest (queue : Word) (s : State) : Out :=
  .next (if s.segOver queue && (s.queue queue).halting then s.endSegment queue else s)

def execSupplyRelease (s : State) : Out := .next (s.supplyLoop s.supply.reqs [])

/-- The requests past START_DEFER_LIMIT are dropped, each with the domains that requests before it hold. -/
def State.dropDeferred (s : State) : List SupReq → List Nat → State
  | [], _ => s
  | r :: rest, blocked =>
    if !s.supply.reqs.contains r then s.dropDeferred rest blocked
    else if s.waitedTooLong r && !s.heldBack r then
      ((s.modSupply fun x => { x with reqs := x.reqs.erase r }).dropReq blocked r).dropDeferred rest blocked
    else s.dropDeferred rest (blocked ++ r.costs.map fun p => p.1)

def execStartDeferred (s : State) : Out := .next (s.dropDeferred s.supply.reqs [])

/-! ### MOTION_STATUS (Table 4.3) -/

def State.motionStatus (s : State) (q : Word) : Nat :=
  let ax := s.localAxes q
  (s.queue q).status + 1048576 * b2n (ax.any fun a => (s.axis a).home.run.isSome) +
  2097152 * b2n (!ax.isEmpty && ax.all fun a => (s.axis a).home.homed)

end Sys2Proof.Machine
end

