-- ==== Sys2Proof/Machine/AxisCmd.lean ====
section
/-!
DEFINITION. Power stages, brakes and loop closure: AXIS_ENABLE, AXIS_DISABLE, FAULT_RESET (R443 to R445), closing
bumplessly or through a soft start (R80, R81), commutation after standstill and ALIGN (R82, R83).
-/
namespace Sys2Proof.Machine

def State.holding (s : State) (a : Nat) : Bool := (s.axisRec a).elim false fun r => r.holding

/-- The axis's node has reported PS_ON before this tick; a local port has no such report. -/
def State.psReported (s : State) (a : Nat) : Bool :=
  match s.axisNode a with
  | some _ => (s.axis a).fb.psOnPrev
  | none => true

/-! ### Closing (R80, R81) -/

/-- The sample of the closing tick is at hand: the loop closes on it. -/
def State.closeDue (s : State) (a : Nat) : Bool :=
  let x := s.axis a
  s.tick.intakeDone && x.psEn && !x.closed && !x.fault && x.align.isNone && !s.inSto a && !s.axisAbsent a && s.power.phase = 4 &&
    s.commOk a && s.psReported a

/-- v_fb as the first computation on the closing sample has it. -/
def State.closeVel (s : State) (a : Nat) : Int :=
  let lp := (s.axis a).lp
  if lp.pass1Done then lp.vFb
  else (lp.sample (s.axis a).fb.posNew (s.axisT a) (s.pU 0x2023 a)).vFb

/-- The position that the P and I terms of the first computation use: load-side where LOAD_FB is ON (R66). -/
def State.closePos (s : State) (a : Nat) : Int :=
  let fb := (s.axis a).fb
  if s.pU 0x2021 a = 1 && fb.loadValid then satS 64 (fb.posLoad + rnd ((s.closeVel a : Rat) * kT s.P)) else fb.posNew

/-- The loop closes on `ref`, reset around it, with i_pid preset so that u_pid is `u`; `pos` is the position that the P
and I terms use (R80, R81). -/
def Axis.closeOn (x : Axis) (c : LoopCfg) (pos ref u : Int) (load : Bool) : Axis :=
  let e := satS 32 (ref - pos)
  { x with
    closed := true, bak := none
    lp := { x.lp.setRef ref with
      vRef := 0, aRef := 0, hadRef := true, hold := ref, pProf := ref, offDv := 0, d := 0, lims := {}
      ePrev := satS 32 (ref - x.fb.posNew), eUsed := e, usedLoad := load, iPid := acc80 (u - pTerm c e), uPid := u
      ss1 := none, win := 0, feOver := false } }

def State.closeOnRef (s : State) (a : Nat) (ref u : Int) : State :=
  let load := s.pU 0x2021 a = 1 && (s.axis a).fb.loadValid
  s.modAxis a fun x => x.closeOn (s.loopCfg a) (s.closePos a) ref u load

/-- The node keeps its table address through power-down (R82). -/
def State.nodeRetains (s : State) (a : Nat) : Bool :=
  match s.axisNode a with
  | some (n, _) => (s.node n).retains
  | none => true

/-- R80: bumplessly on the current reference; an OPENLOOP axis on a node that retains its address resumes from the address
last sent, the address of its reference (R82). -/
def State.closeFree (s : State) (a : Nat) : State :=
  let x := s.axis a
  let pos := x.fb.posNew
  let resumes := s.openLoop a && s.nodeRetains a
  let far := x.lp.hadRef && !resumes && decide (s.pU 0x1006 a < (x.lp.posRef - pos).natAbs)
  let t := s.closeOnRef a (if x.lp.hadRef && !far then x.lp.posRef else pos) 0
  if far then t.emit evRefReset (mkRef clsAxis a) (arg64 (x.lp.posRef - pos)) else t

/-- R81: a load-holding axis closes through a soft start. -/
def State.closeHolding (s : State) (a : Nat) : State :=
  let x := s.axis a
  let pos := x.fb.posNew
  (s.closeOnRef a pos (tq (x.uHold.getD (s.pI 0x1020 a)))).modAxis a fun y => { y with
    brakeRel := true, softStart := true, softRamp := false, softT0 := s.tick.no, softTarget := x.refBrake.getD pos }

/-- A PULSE source begins at the port's present count. -/
def State.pulseOrigin (s : State) (a : Nat) : State :=
  if s.pU 0x1003 a = 1 then
    s.modAxis a fun x => { x with lp := { x.lp with pulseLast := (s.port (s.pU 0x1010 a % 16)).count, pulseRem := 0 } }
  else s

def State.closeLoop (s : State) (a : Nat) : State :=
  (if s.holding a then s.closeHolding a else s.closeFree a).pulseOrigin a

def execLoopClose (axis : Nat) (s : State) : Out := .next (if s.closeDue axis then s.closeLoop axis else s)

/-- Time since the closing tick. -/
def State.softNs (s : State) (a : Nat) : Nat := (s.tick.no - (s.axis a).softT0) * s.P

def execSoftStartRamp (axis : Nat) (s : State) : Out :=
  .next (if (s.axis axis).softStart && decide (s.pU 0x1021 axis * 1000000 ≤ s.softNs axis) then
      s.modAxis axis fun x => { x with softRamp := true }
    else s)

/-- The reference has reached its target. -/
def Axis.softAtTarget (x : Axis) : Bool := x.softStart && x.softRamp && decide (x.lp.posRef = x.softTarget)

def execSoftStartDone (axis : Nat) (s : State) : Out :=
  .next (if (s.axis axis).softAtTarget then
      s.modAxis axis fun x => { x with
        softStart := false, softRamp := false, lp := { x.lp with hold := x.lp.posRef, pProf := x.lp.posRef, vRef := 0, aRef := 0 } }
    else s)

/-- STO with the brake, FAULT, and the remaining distance. -/
def State.softFail (s : State) (a : Nat) : State :=
  let x := s.axis a
  ((s.setAxisSto true a).latchFault a).emit evSoftStartFail (mkRef clsAxis a) (arg64 (x.softTarget - x.lp.posRef))

def execSoftStartFail (axis : Nat) (s : State) : Out :=
  .next (if (s.axis axis).softStart && !(s.axis axis).softAtTarget &&
      decide (s.pU 0x1022 axis * 1000000 ≤ s.softNs axis) then s.softFail axis
    else s)

/-! ### Power-stage power-down at the intake (R82) -/

/-- The node reports that its power stage has gone down: the loop opens; without retention COMM_VALID clears. -/
def State.powerDown (s : State) (a : Nat) : State :=
  let t := if (s.axis a).closed then
      s.modAxis a fun x => { x.opened with psEn := x.psEn }
    else s
  if s.nodeRetains a then t
  else
    let t := t.commLost a 1
    if s.openLoop a then t.modAxis a fun x => { x with home := { x.home with homed := false } } else t

/-! ### AXIS_ENABLE (R443) -/

/-- The request joins the queues of the domains it draws on and takes effect at its release (R443); its state is checked
then (R418). -/
def State.axisEnableOp (s : State) (h : Hdr) : State :=
  let ax := s.localAxes h.obj
  if ax.isEmpty then s.done 0x0105 h stNoEffect
  else
    let off := ax.filter fun a => !(s.axis a).psEn
    let costs := s.enableCost off
    if s.overBudget costs then s.done 0x0105 h stSupply else (s.begin h).joinSupply (.enable h ax) costs

def execAxisEnable (h : Hdr) (s : State) : Out := .next (s.axisEnableOp h)

/-! ### AXIS_DISABLE (R444) -/

def State.disableCheck (s : State) (a : Nat) : Nat :=
  if (s.axis a).bound.isSome || (s.axis a).home.run.isSome then stBusy else stOk

/-- The brake engages; what the next soft start needs is kept. -/
def Axis.brake (x : Axis) : Axis :=
  { x with
    uHold := if x.brakeRel then some (meanOf x.uHist) else x.uHold
    refBrake := if x.brakeRel then some x.lp.posRef else x.refBrake
    brakeRel := false }

/-- A load-holding axis keeps its power stage for BRAKE_DELAY. -/
def State.disableAxis (s : State) (a : Nat) : State :=
  if s.holding a && (s.axis a).psEn then
    s.modAxis a fun x => { x.brake with psOff := some (s.tick.no + ticksOf s.P (s.pU 0x1021 a * 1000000)) }
  else s.modAxis a Axis.opened

def State.axisDisableOp (s : State) (h : Hdr) : State :=
  s.onAxes 0x0106 h s.disableCheck fun ax => (s.forEach ax State.disableAxis).done 0x0106 h stOk

def execAxisDisable (h : Hdr) (s : State) : Out := .next (s.axisDisableOp h)

def State.psOffDue (s : State) (a : Nat) : Bool :=
  match (s.axis a).psOff with
  | some t => decide (t ≤ s.tick.no)
  | none => false

def execBrakeDelayDisable (axis : Nat) (s : State) : Out :=
  .next (if s.psOffDue axis then s.modAxis axis Axis.opened else s)

/-! ### FAULT_RESET (R445) -/

def State.resetCheck (s : State) (a : Nat) : Nat :=
  let fb := (s.axis a).fb
  if !fb.started || fb.stale || ((s.axisNode a).isSome && bitN fb.word.toNat 44) then stNotReady else stOk

/-- CLR_FAULT in the next tick's word, or POSITION_CLEAR on an Ochre port; after a feedback fault the count starts afresh
(R135, R445). -/
def State.clearFault (s : State) (a : Nat) : State :=
  let t := s.modAxis a fun x => { x.opened with fault := false, clrFault := some (s.tick.no + 1) }
  let t := if (s.axis a).fb.fault then
      (t.restartCount a).modAxis a fun x => { x with fb := { x.fb with fault := false, loadStarted := false } }
    else t
  match s.axisPort a with
  | some p => if s.portMode p = pmOchre then t.modPort p fun x => { x with clearPending := true } else t
  | none => t

def State.faultResetOp (s : State) (h : Hdr) : State :=
  s.onAxes 0x0107 h s.resetCheck fun ax =>
    let f := ax.filter fun a => (s.axis a).fault
    if f.isEmpty then s.done 0x0107 h stNoEffect else (s.forEach f State.clearFault).done 0x0107 h stOk

def execFaultReset (h : Hdr) (s : State) : Out := .next (s.faultResetOp h)

/-! ### ALIGN (R83) -/

def State.alignCheck (s : State) (a : Nat) : Nat :=
  let x := s.axis a
  if s.safety.degraded.isSome || s.holding a then stNotAllowed
  else if s.inSto a || s.axisAbsent a then stNotReady
  else if x.bound.isSome || x.home.run.isSome || x.align.isSome || s.laneSweeping a then stBusy
  else stOk

def State.alignOp (s : State) (h : Hdr) : State :=
  s.onAxes 0x0104 h s.alignCheck fun ax =>
    (s.forEach ax fun t a => t.modAxis a fun x =>
      { x.opened with psEn := true, align := some { start := s.now } }).done 0x0104 h stOk

def execAlign (h : Hdr) (s : State) : Out := .next (s.alignOp h)

/-- The measured step lies within ±25 % of 2³² / (4 × POLE_PAIRS). -/
def alignGood (pairs : Nat) (step : Int) : Bool := decide (4 * (4 * pairs * step - 2 ^ 32).natAbs ≤ 2 ^ 32)

/-- The second position judges the move. A failed one leaves COMM_VALID as it was, DESIGN CHOICE (log entry 19). -/
def State.alignJudge (s : State) (a : Nat) (p1 : Int) : State :=
  let n := s.pU 0x1009 a
  let step := (s.axis a).lp.posFb - p1
  let t := s.modAxis a Axis.opened
  if alignGood n step then (t.setParam 0x100A a (elecAngle p1 n)).modAxis a fun x => { x with commValid := true }
  else t.emit evCommAlignFail (mkRef clsAxis a) (arg64 step ++ arg64 (rnd (mkRat (2 ^ 32) (4 * n))))

def State.alignStepOp (s : State) (a : Nat) (g : AlignSt) : State :=
  let half := s.pU 0x100D a * 500000
  if !g.second then
    (if half ≤ s.now - g.start then
      s.modAxis a fun x => { x with align := some { g with second := true, p1 := x.lp.posFb } } else s)
  else if 2 * half ≤ s.now - g.start then s.alignJudge a g.p1
  else s

def execAlignStep (axis : Nat) (s : State) : Out :=
  .next (match (s.axis axis).align with
    | some g => s.alignStepOp axis g
    | none => s)

end Sys2Proof.Machine
end

