-- ==== Sys2Proof/Machine/Can.lean ====
section
/-!
DEFINITION. The CAN FD controllers of chapter 13: modes, the transmit queue in arrival order, transmit events, filters and
the receive FIFO, bit-rate detection, wake and error confinement (R374 to R400). Log entries 40 to 45.
-/
namespace Sys2Proof.Machine

/-- Cell index of this device's controller `k`. -/
def State.canIdx (s : State) (k : Nat) : Nat := s.dev * 4 + k
def State.canRef (s : State) (k : Nat) : Word := mkRef clsCan (s.canIdx k)
/-- A parameter of controller `k`. -/
def State.canP (s : State) (num k : Nat) : Nat := s.pU num (s.canIdx k)

/-- Table 14.8: where the area of controller `k` lies in the window. -/
def canArea (k : Nat) : Nat := 0x18000 + 8192 * k
def State.canCount (s : State) (k off : Nat) : Nat := leNat (s.winRead (canArea k + off) 4)
def State.setCanCount (s : State) (k off n : Nat) : State := s.winWrite (canArea k + off) (bytesLE 4 (n % 2 ^ 32))
def cntSub (a b : Nat) : Nat := (a + 2 ^ 32 - b) % 2 ^ 32

def State.rxFull (s : State) (k : Nat) : Bool := decide (64 ≤ cntSub (s.canCount k 0) (s.canCount k 4))
def State.evFull (s : State) (k : Nat) : Bool := decide (32 ≤ cntSub (s.canCount k 8) (s.canCount k 12))

/-- Length of a frame's data in bytes (Table 13.4; a classical frame carries at most 8). -/
def dlcLen (fdf : Bool) (dlc : Nat) : Nat :=
  if dlc ≤ 8 then dlc
  else if !fdf then 8
  else nthD 64 [12, 16, 20, 24, 32, 48, 64] (dlc - 9)

/-! ### Error confinement (R393) -/

def CanSt.passive (c : CanSt) : Bool := decide (128 ≤ c.tec) || decide (128 ≤ c.recCnt)

/-- The state after the counters have changed, with the events of entering error-passive and bus-off. -/
def State.canErrors (s : State) (k tec recCnt : Nat) : State :=
  let c := s.canSt k
  let n : CanSt := { c with tec := tec, recCnt := recCnt }
  let s1 := s.modCan k fun _ => n
  let s2 := if n.passive && !c.passive then s1.emit evCanErrPassive (s.canRef k) [tec, recCnt] else s1
  if 255 < tec && !c.busOff then
    (s2.modCan k fun x => { x with busOff := true, recovering := s.canP 0xA007 k = 0, attempt := false }).emit
      evCanBusOff (s.canRef k) []
  else s2

/-! ### The transmit queue and its events -/

/-- Table 13.5. -/
def CanTx.event (m : CanTx) (outcome : Nat) : List Byte :=
  bytesLE 4 m.msg.tag.toNat ++ bytesLE 1 outcome ++ bytesLE 1 m.attempts ++ [0, 0] ++
    bytesLE 4 (if m.attempts = 0 then 0 else m.cycle.toNat) ++ bytesLE 4 (if m.attempts = 0 then 0 else m.tOff)

/-- R384, R387: messages whose outcome is decided leave in queue order while the event FIFO has room. -/
def State.canDrain (s : State) (k : Nat) : List CanTx → List CanTx → State
  | [], kept => s.modCan k fun c => { c with queue := kept }
  | m :: r, kept =>
    match m.outcome with
    | some o =>
      if s.evFull k then s.canDrain k r (kept ++ [m])
      else
        let n := s.canCount k 8
        let s1 := (s.winWrite (canArea k + 5184 + 16 * (n % 32)) (m.event o)).setCanCount k 8 (n + 1)
        (s1.raiseIrq (9 + k)).canDrain k r kept
    | none => s.canDrain k r (kept ++ [m])

/-- The decided messages leave; TXEV_FULL stands while the event FIFO is full and it holds a message back, or has barred an
attempt (R384). -/
def State.canSettle (s : State) (k : Nat) : State :=
  let t := s.canDrain k (s.canSt k).queue []
  t.modCan k fun c => { c with txevFull := t.evFull k && (c.txevFull || c.queue.any fun m => m.outcome.isSome) }

/-- The head message, unless its outcome is already decided. -/
def CanSt.head (c : CanSt) : Option CanTx :=
  match c.queue with
  | m :: _ => if m.outcome.isNone then some m else none
  | [] => none

def CanSt.setHead (c : CanSt) (m : CanTx) : CanSt := { c with queue := m :: c.queue.drop 1 }

/-- A bit-rate detection that a mode change cuts short (log entry 40). -/
def State.canEndAbd (s : State) (k st : Nat) : State :=
  match (s.canSt k).abd with
  | some a => (s.modCan k fun c => { c with abd := none }).done 0x0213 a.hdr st
  | none => s

/-- The controller takes a mode; entry to OFF flushes the queue and holds the counters at 0 (Table 13.3). -/
def State.canEnter (s : State) (k mode : Nat) : State :=
  let s1 := s.modCan k fun c => { c with mode := mode }
  if mode = 0 then
    (s1.modCan k fun c => { c with
      tec := 0, recCnt := 0, busOff := false, recovering := false, attempt := false,
      queue := c.queue.map fun m => if m.outcome.isNone then { m with outcome := some 6 } else m }).canSettle k
  else s1

/-- R380: the transmit pin is strapped to the recessive level. -/
def State.canTxdOk (s : State) (k : Nat) : Bool := (s.strap (56 + k)).high && !(s.strap (56 + k)).unstrapped

/-- The local controller an object names. -/
def canOf (h : Hdr) : Nat := refIndex h.obj % 4

def State.canModeOp (s : State) (h : Hdr) (mode : Nat) : State :=
  let k := canOf h
  if 3 < mode then s.done 0x0210 h stArg
  else if (s.canSt k).mode = mode then s.done 0x0210 h stNoEffect
  else if mode ≠ 0 ∧ !s.canTxdOk k then s.done 0x0210 h stNotAllowed
  else (s.modCan k fun c => { c with pendMode := some mode }).done 0x0210 h stOk

/-- R379, R380: the mode changes at the next bus idle point, which is CAN_MODE_APPLY. -/
def execCanMode (h : Hdr) (mode : Word) (s : State) : Out := .next (s.canModeOp h mode.toNat)

/-- R379: a bus idle point, outside an attempt of the controller's own. -/
def execCanModeApply (can : Fin 4) (s : State) : Out :=
  .next (match (s.canSt can).attempt, (s.canSt can).pendMode with
    | false, some m =>
      ((s.canEndAbd can stAborted).modCan can fun c => { c with pendMode := none, integrating := false }).canEnter can m
    | _, _ => s)

/-- The checks of R383 on the argument block alone. -/
def canMsgOk (m : CanMsg) : Bool :=
  let id := m.id.toNat
  let f := m.flags.toNat
  !bitN id 31 && decide (f < 8) && decide (m.dlc.toNat ≤ 15) &&
    (bitN id 29 || decide (field id 28 0 ≤ 0x7FF)) &&
    !(bitN id 30 && bitN f 0) && !(bitN f 1 && !bitN f 0) && !(decide (8 < m.dlc.toNat) && !bitN f 0)

def State.canSendOp (s : State) (h : Hdr) (m : CanMsg) : State :=
  let k := canOf h
  let c := s.canSt k
  let st :=
    if c.mode = 0 ∨ c.mode = 4 then stNotReady
    else if 32 ≤ c.queue.length then stQueueFull
    else if !canMsgOk m || c.queue.any (fun q => q.msg.tag = m.tag) then stArg
    else stOk
  if st = stOk then (s.modCan k fun c => { c with queue := c.queue ++ [{ msg := m }] }).done 0x0211 h stOk
  else s.done 0x0211 h st

/-- R383. -/
def execCanSend (h : Hdr) (m : CanMsg) (s : State) : Out := .next (s.canSendOp h m)

/-- R386: cancel the message at the head while its attempt runs, or take it out of the queue. -/
def cancelIn (attempt : Bool) (tag : Word) : List CanTx → List CanTx
  | [] => []
  | m :: r =>
    if m.msg.tag = tag ∧ m.outcome.isNone then
      (if attempt then { m with cancelled := true } else { m with outcome := some 2 }) :: r
    else m :: cancelIn false tag r

def State.canCancelOp (s : State) (h : Hdr) (tag : Word) : State :=
  let k := canOf h
  if (s.canSt k).queue.any fun m => m.msg.tag = tag && m.outcome.isNone then
    ((s.modCan k fun c => { c with queue := cancelIn c.attempt tag c.queue }).canSettle k).done 0x0212 h stOk
  else s.done 0x0212 h stNoEffect

def execCanCancel (h : Hdr) (tag : Word) (s : State) : Out := .next (s.canCancelOp h tag)

/-- R384: the head may begin an attempt. -/
def State.canMayStart (s : State) (k : Nat) : Bool :=
  let c := s.canSt k
  c.mode = 1 && !c.busOff && !c.attempt && c.pendMode.isNone && c.head.isSome

def State.canStart (s : State) (k t : Nat) : State :=
  s.modCan k fun c => match c.head with
    | some m => { c.setHead { m with attempts := incSat 8 m.attempts, cycle := s.tick.cycle, tOff := t,
                                     sof := some (s.timeAt t) } with attempt := true, integrating := false }
    | none => c

/-- R384: bus idle with a message at the head; a full event FIFO bars the attempt. -/
def execCanTxAttempt (can : Fin 4) (t : Nat) (s : State) : Out :=
  .next (if !s.canMayStart can then s
    else if s.evFull can then s.modCan can fun c => { c with txevFull := true }
    else s.canStart can t)

def canMsgBrs (m : CanMsg) : Bool := bitN m.flags.toNat 0 && bitN m.flags.toNat 1
def canMsgOneShot (m : CanMsg) : Bool := bitN m.flags.toNat 2

/-- What an attempt that did not send the message leaves of it: its outcome, if it now has one (R385, R386, R396). -/
def CanTx.failed (m : CanTx) (retryMax abandon : Nat) (isErr : Bool) : CanTx :=
  let o :=
    if m.cancelled then some 2
    else if canMsgOneShot m.msg then some 5
    else if isErr && retryMax ≠ 0 && decide (retryMax ≤ m.errors) then some 3
    else if abandon ≠ 0 && decide (abandon ≤ m.clashRun) then some 4
    else none
  { m with outcome := o }

/-- R395: the 16th consecutive ACK error of one message. -/
def State.canNoAck (s : State) (k : Nat) (m : CanTx) : State × CanTx :=
  if m.ackRun = 16 ∧ !m.noAckDone then
    ((s.modCan k fun c => { c with noAck := true }).emitAt evNoAck (s.canRef k)
      [m.msg.tag.toNat, field m.msg.id.toNat 28 0] m.sof, { m with noAckDone := true })
  else (s, m)

/-- R396: the 4th consecutive bit error after arbitration. -/
def State.canClash (s : State) (k : Nat) (m : CanTx) : State × CanTx :=
  if m.clashRun = 4 then
    let s1 := s.modCan k fun c => { c with clash := true }
    if m.clashDone then (s1, m)
    else (s1.emitAt evIdClash (s.canRef k) [m.msg.tag.toNat, field m.msg.id.toNat 28 0] m.sof,
      { m with clashDone := true })
  else (s, m)

/-- How the attempt ended, with R377's bit error for a loop delay above 255 clocks. -/
def tdcResult (m : CanMsg) (r : TxResult) (loopDelay : Option Nat) : TxResult :=
  match loopDelay with
  | some d => if canMsgBrs m && decide (255 < d) then .bitErrorAfterArbitration else r
  | none => r

/-- TEC after an attempt that ended in an error, by ISO 11898-1: eight more, and eight for each bit error in its own error flag and
each run of eight dominant bits behind it; a stuff error in arbitration adds nothing of its own (R393). -/
def CanSt.tecUp (c : CanSt) (own : Bool) (flagErrors : Nat) : Nat := c.tec + (if own then 8 else 0) + 8 * flagErrors

/-- The end of an attempt of message `m`, `attempt` being already clear. -/
def State.canFinish (s : State) (k : Nat) (m : CanTx) (r : TxResult) (fe : Nat) : State :=
  let c := s.canSt k
  let put (t : State) (m : CanTx) : State := t.modCan k fun c => c.setHead m
  let retry := s.canP 0xA005 k
  let abandon := s.canP 0xA006 k
  match r with
  | .sent =>
    (put ((s.modCan k fun c => { c with noAck := false, clash := false }).canErrors k (c.tec - 1) c.recCnt)
      { m with outcome := some 1 }).canSettle k
  | .lostArbitration =>
    (put s ({ m with ackRun := 0, clashRun := 0 }.failed retry abandon false)).canSettle k
  | .ackError dominant =>
    let e := s.canNoAck k { m with errors := m.errors + 1, ackRun := m.ackRun + 1, clashRun := 0 }
    let tec := c.tecUp (!(c.passive && !dominant)) fe
    (put (e.1.canErrors k tec c.recCnt) (e.2.failed retry abandon true)).canSettle k
  | .bitErrorAfterArbitration =>
    let e := s.canClash k { m with errors := m.errors + 1, ackRun := 0, clashRun := m.clashRun + 1 }
    (put (e.1.canErrors k (c.tecUp true fe) c.recCnt) (e.2.failed retry abandon true)).canSettle k
  | e =>
    let m1 := { m with errors := m.errors + 1, ackRun := 0, clashRun := 0 }
    (put (s.canErrors k (c.tecUp (decide (e = .otherError)) fe) c.recCnt) (m1.failed retry abandon true)).canSettle k

/-- R377, R385 to R387, R395, R396: an attempt ends. -/
def execCanTxOutcome (can : Fin 4) (r : TxResult) (x : TxMeasure) (s : State) : Out :=
  .next (match (s.canSt can).attempt, (s.canSt can).head with
    | true, some m =>
      let d := x.loopDelay.bind fun d => if canMsgBrs m.msg && decide (d ≤ 255) then some d else none
      let s1 := s.modCan can fun c => { c with
        attempt := false, tdcMeas := d.getD c.tdcMeas
        ssp := d.elim c.ssp fun n => n + s.canP 0xA003 can }
      s1.canFinish can m (tdcResult m.msg r x.loopDelay) x.flagErrors
    | _, _ => s)

/-- R394. -/
def execCanBusOn (can : Fin 4) (s : State) : Out :=
  .next (if (s.canSt can).busOff && (s.canSt can).recovering then
    (s.modCan can fun c => { c with busOff := false, recovering := false, tec := 0, recCnt := 0 }).emit evCanBusOn
      (s.canRef can) []
  else s)

def State.canRecoverOp (s : State) (h : Hdr) : State :=
  let k := canOf h
  if (s.canSt k).busOff then (s.modCan k fun c => { c with recovering := true }).done 0x0214 h stOk
  else s.done 0x0214 h stNoEffect

def execCanRecover (h : Hdr) (s : State) : Out := .next (s.canRecoverOp h)

/-! ### Receiving (R389 to R391) -/

/-- One acceptance filter matches a frame: `id` and `cfg` are CAN_FILT_IDk and CAN_FILT_CFGk. -/
def filterMatches (id cfg : Nat) (f : CanFrame) : Bool :=
  let kind := field cfg 33 32
  bitN cfg 35 && (kind = 0 || (kind = 1 && !f.fdf) || (kind = 2 && f.fdf)) &&
    field id 28 0 &&& field cfg 28 0 = f.id.toNat &&& field cfg 28 0 &&
    (!bitN cfg 29 || bitN id 29 = f.ide) && (!bitN cfg 30 || bitN id 30 = f.rtr)

/-- The frame's fate, and the number of the deciding filter. -/
def State.canFilter (s : State) (k : Nat) (f : CanFrame) : Bool × Nat :=
  match (upTo 16).find? fun i => filterMatches (s.canP (0xA010 + i) k) (s.canP (0xA020 + i) k) f with
  | some i => (!bitN (s.canP (0xA020 + i) k) 34, i)
  | none => (s.canP 0xA008 k = 0, 0xFF)

/-- The data bytes a frame carries, filled up to 64 with 0. -/
def canFrameBytes (f : CanFrame) : List Byte :=
  let n := if f.rtr then 0 else dlcLen f.fdf f.dlc
  (f.data.take n ++ List.replicate 64 0).take 64

def canRxEntry (f : CanFrame) (filter : Nat) (cycle : Word) (t : Nat) : List Byte :=
  bytesLE 4 (f.id.toNat + b2n f.ide * 2 ^ 29 + b2n f.rtr * 2 ^ 30) ++
    bytesLE 1 (b2n f.fdf + b2n f.brs * 2 + b2n f.esi * 4) ++ bytesLE 1 f.dlc ++ bytesLE 1 filter ++ [0] ++
    bytesLE 4 cycle.toNat ++ bytesLE 4 t ++ canFrameBytes f

/-- The stamp of an SOF at `t` ns from T0, be it in an earlier tick: the tick that holds it, its offset there and its device time
(R388). -/
def State.sofAt (s : State) (t : Int) : Word × Nat × DevTime :=
  let back := (s.P - 1 - t).toNat / s.P
  let ns := (s.time.sec : Int) * 1000000000 + s.time.ns + t
  (s.tick.cycle - BitVec.ofNat 32 (if 0 ≤ t then 0 else back), (if 0 ≤ t then t else t + back * s.P).toNat,
    { sec := (ns / 1000000000).toNat, ns := (ns % 1000000000).toNat })

/-- A frame that passes the filters enters the FIFO, or is dropped from a full one; its SOF lies `t` ns from T0. -/
def State.canOffer (s : State) (k : Nat) (f : CanFrame) (t : Int) : State :=
  let d := s.canFilter k f
  if !d.1 then s
  else if s.rxFull k then
    let s1 := s.modCan k fun c => { c with dropped := incSat 32 c.dropped, rxOvf := true }
    if (s.canSt k).rxOvf then s1
    else s1.emitAt evCanRxOverflow (s.canRef k) [(s1.canSt k).dropped] (some (s.sofAt t).2.2)
  else
    let n := s.canCount k 0
    let x := s.sofAt t
    ((s.winWrite (canArea k + 64 + 80 * (n % 64)) (canRxEntry f d.2 x.1 x.2.1)).setCanCount k 0 (n + 1)).raiseIrq (9 + k)

/-- R392: a frame that wakes a controller in native mode. -/
def State.wakeFrame (s : State) (k : Nat) (f : CanFrame) : Bool :=
  let mask := s.canP 0xA052 k
  let len := s.canP 0xA053 k
  let n := if f.rtr then 0 else dlcLen f.fdf f.dlc
  let id := f.id.toNat + b2n f.ide * 2 ^ 29
  let low := 2 ^ (8 * len)
  s.canP 0xA051 k &&& mask = id &&& mask && decide (len ≤ n) &&
    (leNat ((canFrameBytes f).take 8) % low) &&& s.canP 0xA055 k = (s.canP 0xA054 k % low) &&& (s.canP 0xA055 k)

/-- R392: the controller wakes into CAN_WAKE_TO. -/
def State.canWakeUp (s : State) (k how : Nat) (stamp : Option DevTime) : State :=
  (s.canEnter k (s.canP 0xA057 k + 1)).emitAt evCanWake (s.canRef k) [how] stamp

def State.canWakeOn (s : State) (k : Nat) (f : CanFrame) (t : Int) : State :=
  if s.canP 0xA050 k = 0 && s.wakeFrame k f then (s.canWakeUp k 1 (some (s.sofAt t).2.2)).canOffer k f t else s

def State.canEdge (s : State) (k ns : Nat) : State :=
  if s.canP 0xA050 k = 1 && decide (s.canP 0xA056 k ≤ ns) then s.canWakeUp k 2 none else s

/-- R392. -/
def execCanWake (can : Fin 4) (cause : CanWakeCause) (t : Int) (s : State) : Out :=
  .next (if (s.canSt can).mode = 3 then
    match cause with
    | .frame f => s.canWakeOn can f t
    | .edge ns => s.canEdge can ns
  else s)

/-- REC after a frame received without error, by ISO 11898-1: above 127 it falls to an open value of 119 to 127. -/
def State.canRecDown (s : State) (k : Nat) : State :=
  let c := s.canSt k
  if c.recCnt ≤ 127 then s.modCan k fun c => { c with recCnt := c.recCnt - 1 }
  else
    let (v, t) := s.drawNat Config.freeWord
    t.modCan k fun c => { c with recCnt := 119 + v.toNat % 9 }

/-- R381: the present candidate has met the selection rule. -/
def State.abdMet (s : State) (k : Nat) : Bool :=
  match (s.canSt k).abd with
  | some a => decide (s.canP 0xA031 k ≤ a.frames)
  | none => false

def State.abdFrame (s : State) (k : Nat) : State :=
  s.modCan k fun c => { c with abd := c.abd.map fun a => { a with frames := a.frames + 1, dwellNs := s.now } }

/-- R381: detection goes on with the next candidate. -/
def State.abdNext (s : State) (k : Nat) : State :=
  s.modCan k fun c => { c with
    abd := c.abd.map fun a => { a with cand := (a.cand + 1) % s.canP 0xA030 k, frames := 0, dwellNs := s.now } }

/-- R389: an error-free frame on the bus; R381 in ABD; R392 in SLEEP. -/
def execCanRxFrame (can : Fin 4) (f : CanFrame) (t : Int) (s : State) : Out :=
  let u := s.modCan can fun c => { c with integrating := false }
  .next (match (s.canSt can).mode with
    | 1 => if (s.canSt can).busOff then s else (u.canRecDown can).canOffer can f t
    | 2 => u.canOffer can f t
    | 3 => s.canWakeOn can f t
    | 4 => u.abdFrame can
    | _ => s)

/-- A recessive res bit is no error but an exception: the controller waits for the bus to be idle (Table 13.1). -/
def State.protException (s : State) (k : Nat) (e : RxError) : Bool := decide (e = .recessiveRes) && s.canP 0xA004 k = 1

/-- REC after an error in a frame received, by ISO 11898-1: one more, eight for a dominant bit behind its own error flag, and
eight for each bit error in that flag and each run of eight dominant bits behind it (R393). -/
def CanSt.recUp (c : CanSt) (e : RxError) (flagErrors : Nat) : Nat :=
  c.recCnt + (match e with | .error true => 9 | _ => 1) + 8 * flagErrors

/-- R374, R393: an error in a frame being received, a form error on a recessive res bit among them. -/
def execCanRxError (can : Fin 4) (e : RxFault) (s : State) : Out :=
  let c := s.canSt can
  .next (if s.protException can e.error then
      (if c.mode = 1 || c.mode = 2 || c.mode = 4 then s.modCan can fun x => { x with integrating := true } else s)
    else match c.mode with
    | 1 => if c.busOff then s else s.canErrors can c.tec (c.recUp e.error e.flagErrors)
    | 4 => if s.abdMet can then s else s.abdNext can
    | _ => s)

/-! ### Bit-rate detection (R381, R382) -/

def State.canAbdOp (s : State) (h : Hdr) (thenMode : Nat) : State :=
  let k := canOf h
  if thenMode ≠ 1 ∧ thenMode ≠ 2 then s.done 0x0213 h stArg
  else if (s.canSt k).mode ≠ 0 ∧ (s.canSt k).mode ≠ 2 then s.done 0x0213 h stBusy
  else
    let a : CanAbd := { hdr := h, thenMode := thenMode, startNs := s.now, dwellNs := s.now }
    (s.modCan k fun c => { c with mode := 4, abd := some a }).begin h

def execCanAbd (h : Hdr) (thenMode : Word) (s : State) : Out := .next (s.canAbdOp h thenMode.toNat)

/-- R382: the candidate's words become the controller's timing. -/
def State.abdSelect (s : State) (k : Nat) (a : CanAbd) : State :=
  let i := s.canIdx k
  let s1 := (s.setParam 0xA001 i (s.canP (0xA038 + a.cand) k)).setParam 0xA002 i (s.canP (0xA040 + a.cand) k)
  ((s1.emit evCanAbdDone (s.canRef k) [a.cand]).canEnter k a.thenMode).canEndAbd k stOk

def execCanAbdDone (can : Fin 4) (s : State) : Out :=
  .next (match (s.canSt can).abd with
    | some a => if s.abdMet can then s.abdSelect can a else s
    | none => s)

def State.abdTimedOut (s : State) (k : Nat) (a : CanAbd) : Bool := decide (s.canP 0xA033 k * 1000000 ≤ s.now - a.startNs)

def execCanAbdDwell (can : Fin 4) (s : State) : Out :=
  .next (match (s.canSt can).abd with
    | some a =>
      if !s.abdMet can && decide (s.canP 0xA032 can * 1000000 ≤ s.now - a.dwellNs) then s.abdNext can else s
    | none => s)

def execCanAbdFail (can : Fin 4) (s : State) : Out :=
  .next (match (s.canSt can).abd with
    | some a =>
      if !s.abdMet can && s.abdTimedOut can a then
        ((s.emit evCanAbdFail (s.canRef can) []).canEnter can 0).canEndAbd can stTimeout
      else s
    | none => s)

/-! ### What the host writes into a CAN area (R390, R391) -/

/-- A read count moves forward, at most to the write count; anything else is ignored. -/
def countOk (old new wr : Nat) : Bool := decide (cntSub new old ≤ cntSub wr old)

def State.canRxRd (s : State) (k v : Nat) : State :=
  if countOk (s.canCount k 4) v (s.canCount k 0) && v ≠ s.canCount k 4 then
    (s.setCanCount k 4 v).modCan k fun c => { c with rxOvf := false }
  else s

def State.canEvRd (s : State) (k v : Nat) : State :=
  if countOk (s.canCount k 12) v (s.canCount k 8) && v ≠ s.canCount k 12 then
    (s.setCanCount k 12 v).canSettle k
  else s

def execCanRxRdWrite (can : Fin 4) (value : Word) (s : State) : Out := .next (s.canRxRd can value.toNat)

/-- Table 13.9. -/
def CanSt.status (c : CanSt) : Nat :=
  c.mode + (if c.busOff then (if c.recovering then 3 else 2) else b2n c.passive) * 2 ^ 3 + b2n c.noAck * 2 ^ 5 +
    b2n c.clash * 2 ^ 6 + b2n c.rxOvf * 2 ^ 7 + b2n c.txevFull * 2 ^ 8 + b2n c.attempt * 2 ^ 9 +
    c.queue.length * 2 ^ 10 + Nat.min c.tec 255 * 2 ^ 16 + Nat.min c.recCnt 255 * 2 ^ 24

end Sys2Proof.Machine
end

