-- ==== Sys2Proof/Machine/Frames.lean ====
section
/-!
DEFINITION. Selide frames: their bytes, their CRC and the checks of R259, the frames that the C512 sends, the CRCs of the
safety sub-frame (R270), and the records of the cell link (Table 9.11).
-/
namespace Sys2Proof.Machine

/-! ### Frames (R257 to R259, R270) -/

def ftCycleStart : Nat := 1
def ftData : Nat := 2
def ftExt : Nat := 3
def ftNull : Nat := 4
def ftJoin : Nat := 5
def ftGrant : Nat := 6
def ftLeave : Nat := 7
def ftLink : Nat := 8

def frameHdrBytes (h : FrameHdr) : List Byte :=
  [h.ftype, h.node, h.slot, h.ctrl] ++ bytesLE 2 h.length.toNat ++ bytesLE 2 h.cycLo.toNat ++ bytesLE 2 h.genLo.toNat ++
    bytesLE 2 h.reserved.toNat

def subFrameBytes (x : SubFrame) : List Byte :=
  bytesLE 2 x.seq.toNat ++ bytesLE 2 x.cstamp.toNat ++ bytesLE 4 x.sdata.toNat ++ bytesLE 4 x.crcM.toNat ++
    bytesLE 4 x.crcW.toNat

def frameSubBytes (f : Frame) : List Byte := match f.sub with | some x => subFrameBytes x | none => []

/-- Duration of a frame in nanoseconds (R257). -/
def frameNs (len : Nat) (sub : Bool) : Nat := 4 * (18 + len + 16 * b2n sub)

/-- The CRC of a frame (R258). -/
def frameCrc (h : FrameHdr) (payload : List Byte) (sub : Option SubFrame) : Nat :=
  crc32 (frameHdrBytes h ++ payload ++ (match sub with | some x => subFrameBytes x | none => []))

/-- The bytes of a frame after its preamble; the CRC goes least significant byte first (R257, R258). -/
def frameBytes (f : Frame) : List Byte := frameHdrBytes f.hdr ++ f.payload ++ frameSubBytes f ++ bytesLE 4 f.crc.toNat

/-- What R259 asks of every frame, whoever receives it: CRC, version and LENGTH. -/
def frameSound (f : Frame) : Bool :=
  f.crc.toNat = frameCrc f.hdr f.payload f.sub && field f.hdr.ctrl.toNat 7 5 = 1 &&
  decide (f.hdr.length.toNat ≤ 1024) && f.hdr.length.toNat = f.payload.length && bitN f.hdr.ctrl.toNat 4 = f.sub.isSome

/-- R259: the checks of a frame that arrives from a node on a trunk and channel. -/
def State.frameOk (s : State) (trunk chan : Nat) (f : Frame) : Bool :=
  let c := f.hdr.ctrl.toNat
  frameSound f && field c 1 0 = trunk && field c 2 2 = chan && field c 3 3 = 0 &&
  f.hdr.cycLo.toNat = s.tick.cycle.toNat % 65536 && f.hdr.genLo.toNat = s.selide.sched.generation.toNat % 65536

/-- The trunk of the cell link. -/
def State.linkTrunk (s : State) : Nat := ((s.selide.sched.trunks.find? fun r => r.role = 2).map fun r => r.trunk).getD 0

/-- The schedule generation in force on the cell link: the leader's. -/
def State.linkGen (s : State) : Nat := if s.isMember then s.link.lastGen.toNat else s.selide.sched.generation.toNat

/-- R259 on the cell link, which has one channel, A (R289). -/
def State.linkOk (s : State) (down : Bool) (f : Frame) : Bool :=
  let c := f.hdr.ctrl.toNat
  frameSound f && field c 1 0 = s.linkTrunk && field c 2 2 = 0 && bitN c 3 = down && f.hdr.cycLo.toNat = s.tick.cycle.toNat % 65536 &&
  f.hdr.genLo.toNat = s.linkGen % 65536

/-- A frame that the C512 sends in this tick (R257, R258). -/
def State.frameOf (s : State) (trunk chan ftype node slot : Nat) (down : Bool) (gen : Nat) (payload : List Byte)
    (sub : Option SubFrame) : Frame :=
  let h : FrameHdr := {
    ftype := BitVec.ofNat 8 ftype, node := BitVec.ofNat 8 node, slot := BitVec.ofNat 8 slot
    ctrl := BitVec.ofNat 8 (trunk % 4 + 4 * (chan % 2) + 8 * b2n down + 16 * b2n sub.isSome + 32)
    length := BitVec.ofNat 16 payload.length, cycLo := BitVec.ofNat 16 s.tick.cycle.toNat, genLo := BitVec.ofNat 16 gen
    reserved := 0 }
  { hdr := h, payload := payload, sub := sub, crc := BitVec.ofNat 32 (frameCrc h payload sub) }

/-- A CYCLE_START frame as the device at a chain position of a trunk reads it (Table 9.3); none when R259 discards it. -/
def cycleStartOf (trunk chain : Nat) (f : Frame) : Option CycleStart :=
  let p := f.payload
  if frameSound f && f.hdr.ftype.toNat = ftCycleStart && p.length = 72 && bitN f.hdr.ctrl.toNat 3 &&
      field f.hdr.ctrl.toNat 1 0 = trunk && field f.hdr.ctrl.toNat 2 2 = 0 && f.hdr.cycLo.toNat = fieldAt p 0 2 && f.hdr.genLo.toNat = fieldAt p 16 2 then
    some {
      cycle := BitVec.ofNat 32 (fieldAt p 0 4), t0Ns := BitVec.ofNat 32 (fieldAt p 4 4), t0Sec := BitVec.ofNat 48 (fieldAt p 8 6)
      cflags := BitVec.ofNat 16 (fieldAt p 14 2), gen := BitVec.ofNat 32 (fieldAt p 16 4), prio := BitVec.ofNat 16 (fieldAt p 20 2)
      joinStart := BitVec.ofNat 16 (fieldAt p 22 2), serial := BitVec.ofNat 64 (fieldAt p 24 8)
      acc := BitVec.ofNat 16 (fieldAt p 32 2), corr := BitVec.ofNat 16 (fieldAt p (40 + 2 * chain) 2)
      mute := BitVec.ofNat 16 (fieldAt p 34 2) }
  else none

/-- CRC-32C and CRC-32K, reflected (R270). -/
def crc32c (l : List Byte) : Nat := (crcRefl 0x82F63B78 0xFFFFFFFF l) ^^^ 0xFFFFFFFF
def crc32k (l : List Byte) : Nat := (crcRefl 0xEB31D82E 0xFFFFFFFF l) ^^^ 0xFFFFFFFF

/-- The bytes that a sub-frame's CRCs cover. -/
def subCovered (nserial dir seq cstamp sdata : Nat) (payload : List Byte) : List Byte :=
  bytesLE 4 nserial ++ bytesLE 1 dir ++ bytesLE 2 seq ++ bytesLE 2 cstamp ++ bytesLE 4 sdata ++ payload

/-! ### Records of the cell link (Table 9.11) -/

def capRelBytes (r : CapRel) : List Byte :=
  let v := fun (p : Int × Int × Int) => bytesLE 4 (uns 32 p.1) ++ bytesLE 4 (uns 32 p.2.1) ++ bytesLE 4 (uns 32 p.2.2)
  [1, 13] ++ bytesLE 2 r.cap.toNat ++ v r.p1 ++ v r.p2 ++ bytesLE 4 r.uStop.toNat ++ bytesLE 4 r.uKappa.toNat ++
    bytesLE 4 r.ssStop.toNat ++ bytesLE 4 r.ssKappa.toNat ++ bytesLE 4 r.uMax.toNat ++ bytesLE 1 (b2n r.stopDemand) ++ [0, 0, 0]

def gstatBytes (g : Nat) (state flags first : Nat) : List Byte :=
  [2, 2] ++ bytesLE 2 g ++ bytesLE 1 state ++ bytesLE 1 flags ++ bytesLE 2 first

def sigmaBytes (g sigma : Nat) : List Byte := [3, 2] ++ bytesLE 2 g ++ bytesLE 4 sigma

def cmdgoBytes (seq go : Nat) : List Byte := [6, 2] ++ bytesLE 2 seq ++ bytesLE 4 go

def cmdBytes (seq effect : Nat) (desc : List Byte) : List Byte := [4, 66] ++ bytesLE 2 seq ++ bytesLE 4 effect ++ desc.take 256

def cmdackBytes (seq status obj : Nat) : List Byte := [5, 3] ++ bytesLE 2 seq ++ bytesLE 4 status ++ bytesLE 4 obj

/-- The records of a LINK payload: each gives its length in 4-byte words in its second byte (R290). -/
def recordsIn : Nat → List Byte → List (List Byte)
  | 0, _ => []
  | n + 1, l =>
    let k := 4 * fieldAt l 1 1
    if k = 0 ∨ l.length < k then [] else l.take k :: recordsIn n (l.drop k)

def linkRecs (l : List Byte) : List (List Byte) := recordsIn l.length l

/-- Records in the slots of a device, in order, none split between two: for each slot what it carries. -/
def packRecs : List SlotRec → List (List Byte) → List (SlotRec × List Byte)
  | [], _ => []
  | k :: ks, rs =>
    let f := rs.foldl (fun (p : List Byte × List (List Byte)) r =>
      if p.2.isEmpty && decide (p.1.length + r.length ≤ k.payload) then (p.1 ++ r, []) else (p.1, p.2 ++ [r])) ([], [])
    (k, f.1) :: packRecs ks f.2

end Sys2Proof.Machine
end

