-- ==== Sys2Proof/Machine/Selide.lean ====
section
/-!
DEFINITION. Selide (chapter 9): frames and their checks, safety sub-frames, slot timing, joining and leaving,
channel loss, the downstream window, masters in conflict, and the records of the cell link that need no command
decoder.
-/
namespace Sys2Proof.Machine

/-! ### Nodes, slots and windows -/

def chanNo : Chan → Nat
  | .A => 0
  | .B => 1

/-- The node of this device at a chain position of a trunk, by local index. -/
def State.nodeAt (s : State) (trunk chain : Nat) : Option Nat :=
  (s.cell.nodes.find? fun r => r.index / 64 = s.dev && r.trunk = trunk && r.chain = chain).map fun r => r.index % 64

def State.nodeRef (s : State) (n : Nat) : Word := mkRef clsNode (s.dev * 64 + n)

/-- Granted, active or muted (R278, R280). -/
def NodeSt.present (x : NodeSt) : Bool := x.state = 1 || x.state = 2 || x.state = 3

/-- The channel that carries essential data under a schedule (R255, R285). -/
def essentialChan (sched : Nat) : Nat := if sched = 2 then 1 else 0

/-- Upstream window of a channel (Table 9.7). -/
def upWindowEnd (sched chan : Nat) : Nat := if sched = 0 ∧ chan = 1 then 22000 else 11500

def State.strunk (s : State) (t : Nat) : Option TrunkRec := s.selide.sched.trunks.find? fun r => r.trunk = t

def State.joinStart (s : State) (t : Nat) : Nat := (s.strunk t).elim 0 fun r => r.joinStart

/-- A slot of a node for a schedule, channel, direction and number. -/
def NodeSt.slot (x : NodeSt) (sched chan dir num : Nat) : Option SlotRec :=
  x.slots.find? fun r => r.sched = sched && r.chan = chan && r.dir = dir && r.slot = num

/-- The upstream slots of a channel with the join slot, as start and end. -/
def State.upSpans (s : State) (t sched chan : Nat) : List (Nat × Nat) :=
  ((s.selide.sched.slots.filter fun r => r.trunk = t && r.sched = sched && r.chan = chan && r.dir = 0).map
    fun r => (r.start, r.start + r.length)) ++
  (if sched = 0 ∧ chan = 1 ∧ s.joinStart t ≠ 0 then [(s.joinStart t, s.joinStart t + 400)] else [])

/-- The slot and the guards on either side of it (R264). -/
def State.slotBounds (s : State) (t : Nat) (r : SlotRec) : Nat × Nat :=
  let spans := s.upSpans t r.sched r.chan
  (maxL (500 :: (spans.filter fun p => p.2 ≤ r.start).map fun p => p.2),
   minL (upWindowEnd r.sched r.chan) ((spans.filter fun p => r.start + r.length ≤ p.1).map fun p => p.1))

/-- The number of the slot nearest to an instant on a channel, and the node that holds it (R259). -/
def State.slotAt (s : State) (t sched chan : Nat) (start : Int) : Nat × Option Nat :=
  let held := s.selide.nodes.flatMap fun p => (p.2.slots.filter fun r =>
    r.trunk = t && r.sched = sched && r.chan = chan && r.dir = 0).map fun r => (r, p.1)
  match held with
  | [] => (0xFF, none)
  | h :: rest =>
    let b := rest.foldl (fun m e =>
      if ((e.1.start : Int) - start).natAbs < ((m.1.start : Int) - start).natAbs then e else m) h
    (b.1.slot, some b.2)

/-- A frame is discarded: the count of its slot's node and the record (R259). -/
def State.frameError (s : State) (t chan slot : Nat) (n : Option Nat) : State :=
  let s1 := match n with
    | some k => s.modNode k fun x => { x with crcErr := incSat 32 x.crcErr }
    | none => s
  s1.emit evFrameError s1.devRef [t, chan, slot]

/-! ### Timing of a frame (R264) -/

/-- The correction that an offset asks for, in 0.125 ns; within 50 ns limited to 8 ns. -/
def corrStep (o : Int) : Int :=
  if o.natAbs < 8 then 0 else if o.natAbs ≤ 50 then clampI (-64) 64 (o * 4) else o * 4

/-- The outcome of R264 for a frame of `dur` nanoseconds: whether it is accepted, and the state after. A frame that lies partly
outside its slot and the guards is discarded whatever its offset. -/
def State.slotTiming (s : State) (n chan : Nat) (r : SlotRec) (start : Int) (dur : Nat) : Bool × State :=
  let o := start - r.start
  let b := s.slotBounds r.trunk r
  let within := decide ((b.1 : Int) ≤ start) && decide (start + dur ≤ b.2)
  let s1 := s.modNode n fun x => { x with offset := o }
  if !within then
    (false, (s1.modNode n fun x => { x with
      violations := if x.violated then x.violations else x.violations + 1, violated := true }).emit evSlotViolation
        (s.nodeRef n) [chan, argI o])
  else
    let s2 := s1.modNode n fun x =>
      if chan = 0 then { x with pendCorrA := x.pendCorrA + corrStep o } else { x with pendCorrB := x.pendCorrB + corrStep o }
    (true, if 50 < o.natAbs then (s2.modNode n fun x => { x with edge := true }).emit evSlotEdge (s.nodeRef n) [chan, argI o]
      else s2)

/-! ### Sub-frames (R271, R272) -/

/-- The cause that makes a sub-frame invalid to an island: 1 CRC, 2 SEQ, 3 CSTAMP; 0 for none. -/
def State.subCause (s : State) (e : Island) (dir nserial : Nat) (st : SubSt) (x : SubFrame) (payload : List Byte) : Nat :=
  let l := subCovered nserial dir x.seq.toNat x.cstamp.toNat x.sdata.toNat payload
  let ok : Bool := match e with | .madder => x.crcM.toNat = crc32c l | .woad => x.crcW.toNat = crc32k l
  let step := (x.seq - st.lastSeq).toNat
  if !ok then 1
  else if !st.first && !(decide (1 ≤ step) && decide (step ≤ 4)) then 2
  else if x.cstamp.toNat ≠ s.tick.cycle.toNat % 65536 then 3
  else 0

def NodeSt.subAt (x : NodeSt) (e : Island) : SubSt := match e with | .madder => x.subM | .woad => x.subW
def NodeSt.setSub (x : NodeSt) (e : Island) (v : SubSt) : NodeSt :=
  match e with | .madder => { x with subM := v } | .woad => { x with subW := v }

/-- One island judges a node's sub-frame. -/
def State.judgeSub (s : State) (e : Island) (n nserial : Nat) (x : SubFrame) (payload : List Byte) : State :=
  let st := (s.node n).subAt e
  match s.subCause e 0 nserial st x payload with
  | 0 => s.modNode n fun y => (y.setSub e { st with valid := true, first := false, lastSeq := x.seq, timedOut := false })
  | c => (s.modNode n fun y => y.setSub e { st with valid := false }).emit evSubframeError (s.nodeRef n) [islandCode e, c]

/-- Both islands judge it; SDATA counts when some island finds it valid. -/
def State.takeSub (s : State) (n nserial : Nat) (x : SubFrame) (payload : List Byte) : State :=
  let t := (s.judgeSub .madder n nserial x payload).judgeSub .woad n nserial x payload
  let y := t.node n
  if y.subM.valid || y.subW.valid then
    let t := t.modNode n fun z => { z with
      stoAct := BitVec.ofNat 16 (x.sdata.toNat % 65536), safeFault := bitN x.sdata.toNat 16 }
    if bitN x.sdata.toNat 16 then t.forEach (t.nodeAxes n) fun u a => u.setAxisSto true a else t
  else t

/-- R272: an island without a valid sub-frame on 4 consecutive ticks. -/
def execSubframeTimeout (node : Fin 64) (island : Island) (s : State) : Out :=
  let st := (s.node node.val).subAt island
  .next (if 4 ≤ st.missing && !st.timedOut then
      let t := s.modNode node.val fun y => y.setSub island { st with timedOut := true }
      (t.forEach (t.nodeAxes node.val) fun u a => u.setAxisSto true a).emit evSubframeTimeout (s.nodeRef node.val)
        [islandCode island]
    else s)

/-- R272: STO_ACT of a channel is still 0 in the tick in which it is due. -/
def execNodeStoFail (node : Fin 64) (chan : Fin 16) (s : State) : Out :=
  let x := s.node node.val
  let due := tblGet 0 x.stoSince chan.val
  let axes := (s.nodeAxes node.val).filter fun a => (s.axisRec a).any fun r => r.chan = chan.val
  .next (if due = s.tick.no + 1 && !axes.isEmpty && (x.subM.valid || x.subW.valid) && !bitN x.stoAct.toNat chan.val then
      let t := s.forEach axes fun u a => u.latchFault a
      t.emit evNodeStoFail (s.nodeRef node.val) [chan.val]
    else s)

/-! ### UPSTREAM_DATA_FRAME -/

/-- A DATA or NULL frame accepted in the node's slot of the schedule in force. -/
def State.acceptData (s : State) (n : Nat) (chan : Nat) (f : Frame) : State :=
  let isData := f.hdr.ftype.toNat = ftData
  let t := s.modNode n fun x => { x with
    arrived := true, arrivedA := x.arrivedA || chan = 0, arrivedB := x.arrivedB || chan = 1
    nullFrame := x.nullFrame || !isData, buf := if isData then some f.payload else x.buf }
  let ns := (s.localNode n).elim 0 fun r => r.nserial
  let t := match f.sub with
    | some x => t.takeSub n ns x f.payload
    | none => t
  let y := t.node n
  t.modNode n fun x => { x with validData := x.validData || (isData && y.subM.valid && y.subW.valid) }

/-- One island judges a sub-frame on the lost channel; its SEQ counts there on its own (log entry 147). -/
def State.judgeNull (s : State) (e : Island) (n nserial : Nat) (x : SubFrame) (payload : List Byte) : State :=
  let put := fun (y : NodeSt) (v : SubSt) => match e with | .madder => { y with nullM := v } | .woad => { y with nullW := v }
  let st := match e with | .madder => (s.node n).nullM | .woad => (s.node n).nullW
  match s.subCause e 0 nserial st x payload with
  | 0 => s.modNode n fun y => put y { st with valid := true, first := false, lastSeq := x.seq }
  | c => (s.modNode n fun y => put y { st with valid := false }).emit evSubframeError (s.nodeRef n) [islandCode e, c]

/-- A frame on the lost channel, in the node's normal-schedule slot there: a NULL frame whose sub-frame is valid counts toward
the channel's return (R287). -/
def State.nullOnLost (s : State) (n : Nat) (f : Frame) : State :=
  let t := s.modNode n fun x => { x with lostSeen := true }
  if f.hdr.ftype.toNat ≠ ftNull then t
  else match f.sub with
    | none => t
    | some x =>
      let ns := (s.localNode n).elim 0 fun r => r.nserial
      let u := (t.judgeNull .madder n ns x f.payload).judgeNull .woad n ns x f.payload
      u.modNode n fun y => { y with nullSeen := y.nullM.valid && y.nullW.valid }

/-- The channel that the trunk's single-channel schedule leaves out. -/
def TrunkSt.lostChan (x : TrunkSt) : Option Nat :=
  match x.schedNext with
  | 1 => some 1
  | 2 => some 0
  | _ => none

def State.dataFrameOp (s : State) (t chan : Nat) (f : Frame) (start : Int) : State :=
  let tr := s.trunk t
  let onLost := tr.sched ≠ 0 && tr.lostChan = some chan
  let sched := if onLost then 0 else tr.sched
  let near := s.slotAt t sched chan start
  if !s.frameOk t chan f then s.frameError t chan near.1 near.2
  else
    match s.nodeAt t f.hdr.node.toNat with
    | none => s
    | some n =>
      let x := s.node n
      match x.slot sched chan 0 f.hdr.slot.toNat with
      | none => s
      | some r =>
        if !x.present || x.mute || s.tick.no < x.activeFrom then s
        else
          let p := s.slotTiming n chan r start (frameNs f.payload.length f.sub.isSome)
          if !p.1 then p.2
          else if onLost then p.2.nullOnLost n f
          else if chan = essentialChan tr.sched then
            (if f.hdr.ftype.toNat = ftData ∨ f.hdr.ftype.toNat = ftNull then p.2.acceptData n chan f else p.2)
          else p.2.modNode n fun y => { y with arrivedB := true }

def execUpstreamDataFrame (trunk : Fin 4) (chan : Chan) (f : Frame) (start : Int) (s : State) : Out :=
  .next (if s.tick.selide then s.dataFrameOp trunk.val (chanNo chan) f start else s)

/-- R264, R282: SLOT_VIOLATION on 3 consecutive ticks. -/
def execNodeMuted (node : Fin 64) (s : State) : Out :=
  let x := s.node node.val
  .next (if 3 ≤ x.violations && x.present && !x.mute then
      (s.modNode node.val fun y => { y with mute := true, state := 3 }).emit evNodeMuted (s.nodeRef node.val) []
    else s)

/-! ### EXT frames and service replies (R43, R269, R407) -/

/-- Reply bytes go to the node's service area; those beyond 2,032 unread bytes are dropped. -/
def State.serviceReply (s : State) (n : Nat) (l : List Byte) : State :=
  let base := 0x20000 + 2048 * n
  s.forEach l fun u b =>
    let wr := leNat (u.winRead base 4)
    let rd := leNat (u.winRead (base + 4) 4)
    if (wr + 2 ^ 32 - rd) % 2 ^ 32 < 2032 then
      (u.winWrite (base + 16 + tblGet 0 u.host.rxWritten n % 2032) [b]).winWrite base (bytesLE 4 ((wr + 1) % 2 ^ 32))
        |>.modHost fun h => { h with rxWritten := tblMod 0 h.rxWritten n (· + 1) }
    else
      let dr := leNat (u.winRead (base + 8) 4)
      u.winWrite (base + 8) (bytesLE 4 (incSat 32 dr))

/-- An EXT frame that begins at `start`; one that R259 discards counts for the slot that it occupied. -/
def State.extFrameOp (s : State) (t : Nat) (f : Frame) (start : Int) : State :=
  let near := s.slotAt t 0 1 start
  if !s.frameOk t 1 f then s.frameError t 1 near.1 near.2
  else match s.nodeAt t f.hdr.node.toNat with
  | none => s
  | some n =>
    let x := s.node n
    if !x.present || x.mute || (s.trunk t).sched ≠ 0 || (x.slot 0 1 0 f.hdr.slot.toNat).isNone ||
        f.hdr.ftype.toNat ≠ ftExt then s
    else
      let u := s.modNode n fun y => { y with arrivedB := true, extBuf := some f.payload }
      u.serviceReply n (f.payload.drop (16 * x.nax))

def execExtFrame (trunk : Fin 4) (f : Frame) (start : Int) (s : State) : Out :=
  .next (if s.tick.selide then s.extFrameOp trunk.val f start else s)

/-! ### Joining (R277 to R279, R289) -/

/-- Number of person reports that a node's own upstream DATA slots declare (R275). -/
def State.declaredNrep (s : State) (n nax : Nat) : Option Nat :=
  (s.selide.sched.slots.find? fun r => r.owner = s.nodeRef n && !r.spare && r.dir = 0 && r.chan = essentialChan r.sched).map
    fun r => (r.payload - 12 * nax) / 132

/-- NREP covers every PERSON SLOT that names the node. -/
def State.coversPersons (s : State) (n nrep : Nat) : Bool :=
  s.sep.kin.persons.all fun p => p.node ≠ s.dev * 64 + n || decide (p.slot < nrep)

/-- The six DATA slots and the EXT slots a node needs: schedule, channel, direction, payload, exact payload or not. -/
def State.neededSlots (s : State) (n nax nrep : Nat) : List (Nat × Nat × Nat × Nat × Bool) :=
  let data := (upTo 3).flatMap fun sc =>
    [(sc, essentialChan sc, 0, 132 * nrep + 12 * nax, true), (sc, essentialChan sc, 1, 8 * nax, true)]
  let ownExt := s.selide.sched.slots.filter fun r => r.owner = s.nodeRef n && !r.spare && r.sched = 0 && r.chan = 1
  let ext := if ownExt.isEmpty then [(0, 1, 0, 16 * nax, false), (0, 1, 1, 16 * nax, false)] else []
  data ++ ext

/-- Slots that some present node holds. -/
def State.slotsHeld (s : State) : List SlotRec := s.selide.nodes.flatMap fun p => p.2.slots

/-- A spare slot: one flagged spare, or one whose node has left, that no node holds (R280). -/
def State.isSpare (s : State) (r : SlotRec) : Bool :=
  (r.spare || (s.selide.nodes.any fun p => p.2.left && !p.2.released && r.owner = s.nodeRef p.1)) && !s.slotsHeld.contains r

/-- The lowest-numbered spare slot that fits a need. -/
def State.spareFor (s : State) (t : Nat) (q : Nat × Nat × Nat × Nat × Bool) (taken : List SlotRec) : Option SlotRec :=
  let ok := s.selide.sched.slots.filter fun r =>
    r.trunk = t && r.sched = q.1 && r.chan = q.2.1 && r.dir = q.2.2.1 && s.isSpare r && !taken.contains r &&
    (if q.2.2.2.2 then r.payload = q.2.2.2.1 else decide (q.2.2.2.1 ≤ r.payload)) &&
    decide (frameNs q.2.2.2.1 q.2.2.2.2 ≤ r.length)
  match ok with
  | [] => none
  | r :: rest => some (rest.foldl (fun m x => if x.slot < m.slot then x else m) r)

/-- The slots that a joining node is granted, or none. -/
def State.grantSlots (s : State) (n t nax nrep : Nat) (late : Bool) : Option (List SlotRec) :=
  let own := s.selide.sched.slots.filter fun r => r.owner = s.nodeRef n && !r.spare
  if own.any fun r => s.slotsHeld.contains r then none
  else if !late then some own
  else
    (s.neededSlots n nax nrep).foldl (fun acc q => match acc with
      | none => none
      | some l =>
        match own.find? fun r => r.sched = q.1 && r.chan = q.2.1 && r.dir = q.2.2.1 with
        | some _ => some l
        | none => (s.spareFor t q l).map fun r => l ++ [r]) (some own)

/-- START of a slot as sent, at the tick rate in force (R273). -/
def State.slotStart (s : State) (r : SlotRec) : Nat := if r.dir = 1 then r.start + (s.P - 31250) else r.start

/-- The GRANT payload of Table 9.10. -/
def State.grantBytes (s : State) (nserial result : Nat) (slots : List SlotRec) : List Byte :=
  let es := (slots.take 8).flatMap fun r =>
    bytesLE 1 r.sched ++ bytesLE 1 r.chan ++ bytesLE 1 r.dir ++ bytesLE 1 r.slot ++ bytesLE 2 (s.slotStart r) ++ bytesLE 2 r.length
  bytesLE 4 nserial ++ bytesLE 1 result ++ [0, 0, 0] ++ es ++ List.replicate (64 - es.length) 0

/-- Repeat delay of the node at a position, 80 to 120 ns, in 0.125 ns (Table 9.12). -/
def repeatNs8 (t p : Nat) : Nat := 640 + Config.nodeRepeat t p % 321

/-- Hop delay of the node at a position of a trunk, in 0.125 ns: as its JOIN gave it, else open (R262, R277). -/
def State.hopAt (s : State) (t p : Nat) : Nat :=
  ((s.nodeAt t p).bind fun n => (s.node n).hopA).getD (Config.nodeHop t p)

/-- D_p of a present node on channel A, in 0.125 ns: ACC as it arrives, its hop delay and its correction (R261, R263). -/
def State.nodeDelay (s : State) (n : Nat) : Int :=
  match s.localNode n with
  | some r =>
    if (s.node n).present then
      ((upTo r.chain).foldl (fun v q => v + s.hopAt r.trunk q + repeatNs8 r.trunk q) 0 + s.hopAt r.trunk r.chain : Nat) +
        (s.node n).corrA
    else 0
  | none => 0

/-- A frame goes out on a trunk. -/
def State.sendFrame (s : State) (t : Nat) (f : Frame) : State := s.modTrunk t fun x => { x with sent := x.sent ++ [f] }

def State.isLinkTrunk (s : State) (t : Nat) : Bool := (s.strunk t).any fun r => r.role = 2

/-- A linked member repeats a frame from above on its channel B port (R289). -/
def State.repeatDown (s : State) (f : Frame) : State :=
  if s.isMember then s.modLink fun x => { x with portB := if x.portB.contains f then x.portB else x.portB ++ [f] } else s

/-- Joining uses channel B; a cell link has channel A alone (R277, R289). -/
def State.joinChan (s : State) (t : Nat) : Nat := if s.isLinkTrunk t then 0 else 1

/-- The GRANT frame goes out in the tick in which the JOIN arrived (R279). -/
def State.sendGrant (s : State) (t chain : Nat) (payload : List Byte) : State :=
  (s.modTrunk t fun x => { x with grant := some payload }).sendFrame t
    (s.frameOf t (s.joinChan t) ftGrant chain 0xFF true s.selide.sched.generation.toNat payload none)

def joinUndeclared : Nat := 1
def joinIdentity : Nat := 2
def joinPresent : Nat := 3
def joinTiming : Nat := 4
def joinNoSlot : Nat := 5

/-- The refusal reason of a node's JOIN, 0 for none (R278). -/
def State.joinReason (s : State) (t : Nat) (n : Option Nat) (p : List Byte) (start : Int) : Nat :=
  match n.bind fun k => (s.localNode k).map fun r => (k, r) with
  | none => joinUndeclared
  | some (k, r) =>
    let nax := fieldAt p 8 1
    let nrep := fieldAt p 9 1
    let fl := fieldAt p 10 1
    let naxes := (s.nodeAxes k).length
    let repBad : Bool := match s.declaredNrep k naxes with
      | some d => decide (nrep ≠ d)
      | none => !s.coversPersons k nrep
    if (s.node k).released then joinUndeclared
    else if fieldAt p 0 2 ≠ r.vendor ∨ fieldAt p 2 2 ≠ r.product ∨ fieldAt p 4 4 ≠ r.nserial then joinIdentity
    else if (s.node k).present then joinPresent
    else if nax ≠ naxes ∨ bitN fl 1 ≠ r.sensor ∨ repBad then joinIdentity
    else if 50 < (start - s.joinStart t).natAbs then joinTiming
    else if (s.grantSlots k t nax nrep r.late).isNone then joinNoSlot
    else 0

/-- The node is granted its slots; it transmits from the next tick, and the counts of its axes start afresh (R135). -/
def State.grantNode (s : State) (n t : Nat) (p : List Byte) (late : Bool) : State :=
  let nax := fieldAt p 8 1
  let nrep := fieldAt p 9 1
  let slots := (s.grantSlots n t nax nrep late).getD []
  let u := (s.forEach (s.nodeAxes n) State.restartCount).modNode n fun x => { x with
    state := 1, slots := slots, activeFrom := s.tick.no + 1, validData := false, placed := false, nax := nax, nrep := nrep
    retains := bitN (fieldAt p 10 1) 0, mute := false, subM := {}, subW := {}, stale := false, staleCnt := 0, silent := 0
    violations := 0, violated := false, corrA := 0, corrB := 0, pendCorrA := 0, pendCorrB := 0, stoSince := []
    nullM := {}, nullW := {}, hopA := some (fieldAt p 12 2), hopB := some (fieldAt p 14 2), fwver := fieldAt p 16 2 }
  u.sendGrant t ((s.localNode n).elim 0 fun r => r.chain) (s.grantBytes (fieldAt p 4 4) 0 slots)

/-- A cell-link member joins as a node does (R289); its first sub-frame is then accepted with any SEQ (R271). -/
def State.joinMember (s : State) (t chain : Nat) (p : List Byte) (start : Int) : State :=
  let d := s.cell.devs.find? fun r => r.index = chain + 1
  let ns := fieldAt p 4 4
  let reason := match d with
    | none => joinUndeclared
    | some r =>
      if r.serial.toNat % 2 ^ 32 ≠ ns then joinUndeclared
      else if s.link.present.contains r.index then joinPresent
      else if 50 < (start - s.joinStart t).natAbs then joinTiming
      else if !(s.selide.sched.slots.any fun x => x.owner = mkRef clsDevice r.index) then joinNoSlot
      else 0
  let slots := s.selide.sched.slots.filter fun x => x.owner = mkRef clsDevice (chain + 1)
  let u := s.sendGrant t chain (s.grantBytes ns reason (if reason = 0 then slots else []))
  if reason = 0 then u.modLink fun x => { x with
      present := x.present ++ [chain + 1], silent := tblSet x.silent (chain + 1) 0
      away := x.away.filter fun k => k ≠ chain + 1
      rx := tblMod {} x.rx (chain + 1) fun y => { y with
        subM := {}, subW := {}, hop := fieldAt p 12 2, fwver := fieldAt p 16 2, mute := false, violations := 0, violated := false } }
  else u.emit evJoinRefused u.devRef [t, chain, reason]

def State.joinOp (s : State) (t : Nat) (f : Frame) (start : Int) : State :=
  let chain := f.hdr.node.toNat
  if s.joinStart t = 0 ∨ !s.selide.joinOpen ∨ (s.trunk t).sched ≠ 0 then s
  else if !(if s.isLinkTrunk t then s.linkOk false f else s.frameOk t 1 f) then s.frameError t (s.joinChan t) 0xFF none
  else if f.hdr.ftype.toNat ≠ ftJoin ∨ f.payload.length ≠ 24 then s
  else if s.isLinkTrunk t then s.joinMember t chain f.payload start
  else
    let n := s.nodeAt t chain
    match s.joinReason t n f.payload start, n with
    | 0, some k => s.grantNode k t f.payload ((s.localNode k).any fun r => r.late)
    | r, _ => (s.sendGrant t chain (s.grantBytes (fieldAt f.payload 4 4) r [])).emit evJoinRefused s.devRef [t, chain, r]

def execJoin (trunk : Fin 4) (f : Frame) (start : Int) (s : State) : Out :=
  .next (if s.tick.selide then s.joinOp trunk.val f start else s)

/-- The arms of a node's axes are new until their safety configuration is armed (R173); a group becomes an arm when KINEMATICS
gives it a chain, be it after the join. -/
def State.armsNew (s : State) (n : Nat) : State :=
  s.forEach (dedup ((s.nodeAxes n).filterMap fun a => s.cell.parent (mkRef clsAxis a))) fun u g => u.modArm g fun x => { x with isNew := true }

/-- R279: the first valid DATA frame of a granted node. -/
def execNodeJoined (node : Fin 64) (s : State) : Out :=
  let x := s.node node.val
  .next (if x.state = 1 && x.validData then
      ((s.modNode node.val fun y => { y with state := 2 }).armsNew node.val).emit evNodeJoined (s.nodeRef node.val)
        [x.slots.length]
    else s)

/-- Waiting NODE_SEND commands of a node that is no longer present. -/
def State.dropSends (s : State) (n : Nat) : State :=
  let t := s.forEach (s.node n).sends fun u p => u.done 0x0206 p.1 stNotReady
  t.modNode n fun x => { x with sends := [], service := [] }

/-- A LEAVE frame in the node's essential slot (R280); a muted node may send it. -/
def State.leaveOp (s : State) (t chan : Nat) (f : Frame) (start : Int) : State :=
  let tr := s.trunk t
  let near := s.slotAt t tr.sched chan start
  if !s.frameOk t chan f then s.frameError t chan near.1 near.2
  else
    match (s.nodeAt t f.hdr.node.toNat).bind fun n => ((s.node n).slot tr.sched chan 0 f.hdr.slot.toNat).map fun r => (n, r) with
    | none => s
    | some (n, r) =>
      let p := s.slotTiming n chan r start (frameNs f.payload.length f.sub.isSome)
      if !p.1 || f.hdr.ftype.toNat ≠ ftLeave || chan ≠ essentialChan tr.sched || !(s.node n).present ||
          fieldAt f.payload 0 4 ≠ (s.localNode n).elim 0 fun y => y.nserial then p.2
      else (p.2.modNode n fun x => { x with leaving := true, goneNext := false, arrived := true }).emit evNodeLeft (s.nodeRef n) []

def execLeave (trunk : Fin 4) (chan : Chan) (f : Frame) (start : Int) (s : State) : Out :=
  .next (if s.tick.selide then s.leaveOp trunk.val (chanNo chan) f start else s)

/-- A frame of the node has arrived in a slot of it in this tick, be it on the lost channel (R280, R287). -/
def NodeSt.spoke (x : NodeSt) : Bool := x.arrived || x.arrivedA || x.arrivedB || x.lostSeen

/-- Consecutive silent ticks, the one in progress included once its upstream window has closed. -/
def State.silentTicks (s : State) (n : Nat) : Nat :=
  let x := s.node n
  x.silent + b2n (s.tick.selide && s.tick.intakeDone && x.present && !x.mute && !x.spoke)

/-- R280: silent for 64 consecutive ticks. -/
def execNodeGone (node : Fin 64) (s : State) : Out :=
  let x := s.node node.val
  .next (if 64 ≤ s.silentTicks node.val && x.present && !x.mute && !x.leaving then
      (s.modNode node.val fun y => { y with leaving := true, goneNext := true }).emit evNodeGone (s.nodeRef node.val) []
    else s)

/-- R262: the echo returns on its channel 200 ns after its reception. -/
def execEcho (trunk : Fin 4) (chan : Chan) (t : Nat) (s : State) : Out :=
  .next (if s.tick.selide then s.modTrunk trunk.val fun x => match chan with
    | .A => { x with echoA := some (t + 200) }
    | .B => { x with echoB := some (t + 200) } else s)

/-! ### Channel loss (R285 to R287) -/

def execSymbolLockLoss (trunk : Fin 4) (chan : Chan) (s : State) : Out :=
  .next (s.modTrunk trunk.val fun x => match chan with | .A => { x with lockA := false } | .B => { x with lockB := false })

def execSymbolLockGain (trunk : Fin 4) (chan : Chan) (s : State) : Out :=
  .next (s.modTrunk trunk.val fun x => match chan with | .A => { x with lockA := true } | .B => { x with lockB := true })

/-- The nodes of a trunk that are present. -/
def State.presentNodes (s : State) (t : Nat) : List Nat :=
  (s.cell.nodes.filter fun r => r.index / 64 = s.dev && r.trunk = t && (s.node (r.index % 64)).present).map fun r => r.index % 64

/-- Those of them that are not muted. -/
def State.trunkNodes (s : State) (t : Nat) : List Nat := (s.presentNodes t).filter fun n => !(s.node n).mute

/-- A node's frames are missing on a channel in this tick and valid on the other: under a single-channel schedule, its DATA on
the survivor and its NULL on the lost channel (R285). -/
def NodeSt.missingOn (x : NodeSt) (sched chan : Nat) : Bool :=
  let need := x.slots.any fun r => r.sched = sched && r.dir = 0 && r.chan = chan
  let here := if chan = 0 then x.arrivedA else x.arrivedB
  let there := if sched = 0 then (if chan = 0 then x.arrivedB else x.arrivedA) else x.nullSeen
  need && !here && there

/-- The cause of a channel loss: 1 symbol lock, 2 missing frames; 0 for none. -/
def State.lossCause (s : State) (t chan : Nat) : Nat :=
  let x := s.trunk t
  if !(if chan = 0 then x.lockA else x.lockB) then 1
  else if (s.trunkNodes t).any fun n =>
      (s.node n).missingOn x.sched chan && decide (1 ≤ (if chan = 0 then (s.node n).missA else (s.node n).missB)) then 2
  else 0

def State.channelLostOp (s : State) (t chan cause : Nat) : State :=
  (s.modTrunk t fun x => { x with
    aLost := x.aLost || chan = 0, bLost := x.bLost || chan = 1
    schedNext := if x.schedNext = 0 then (if chan = 0 then 2 else 1) else x.schedNext
    lostNs := if x.schedNext = 0 then s.now else x.lostNs, nullRun := 0, restore := false }).emit evChannelLost s.devRef
      [t, chan, cause]

/-- R285; a cell link has one channel and no single-channel schedule (R289). -/
def execChannelLost (trunk : Fin 4) (chan : Chan) (s : State) : Out :=
  let c := chanNo chan
  let x := s.trunk trunk.val
  let known := if c = 0 then x.aLost else x.bLost
  .next (if s.tick.selide && !s.isLinkTrunk trunk.val && !known && decide (0 < s.lossCause trunk.val c) then
      s.channelLostOp trunk.val c (s.lossCause trunk.val c)
    else s)

/-- Valid NULL frames from every present node in this tick, a muted one too. -/
def State.allNull (s : State) (t : Nat) : Bool := !(s.presentNodes t).isEmpty && (s.presentNodes t).all fun n => (s.node n).nullSeen

/-- R287: the 32nd consecutive tick; the normal schedule resumes, with the record, at the next planning boundary. -/
def execChannelRestored (trunk : Fin 4) (s : State) : Out :=
  let x := s.trunk trunk.val
  .next (if x.lostChan.isSome && (decide (32 ≤ x.nullRun) || (decide (31 ≤ x.nullRun) && s.allNull trunk.val)) then
      s.modTrunk trunk.val fun y => { y with restore := true }
    else s)

/-- The axes of a trunk. -/
def State.trunkAxes (s : State) (t : Nat) : List Nat :=
  s.axisList.filter fun a => match s.axisNode a with
    | some (n, _) => (s.localNode n).any fun r => r.trunk = t
    | none => false

/-- R286: SL_DEG_LIMIT has elapsed. -/
def execChannelDegExpired (trunk : Fin 4) (s : State) : Out :=
  let x := s.trunk trunk.val
  .next (if x.lostChan.isSome && !x.expired && decide (x.lostNs + s.pU 0x8001 s.dev * 1000000 ≤ s.now + s.P) then
      ((s.modTrunk trunk.val fun y => { y with expired := true }).ss1WithArms (s.trunkAxes trunk.val) s.devRef
        (s.tick.no + 1)).emit evChannelDegExpired s.devRef [trunk.val]
    else s)

/-! ### Stale nodes (R284) -/

/-- The third consecutive stale tick of a node. -/
def execNodeStale (node : Fin 64) (s : State) : Out :=
  let x := s.node node.val
  .next (if x.staleCnt = 3 && x.stale then
      let t := s.emit evNodeStale (s.nodeRef node.val) [x.staleCause]
      (t.forEach (t.nodeAxes node.val) fun u a => u.thirdInvalid a).modNode node.val fun y => { y with staleCnt := 4 }
    else s)

/-- What the intake finds of each node: stale data and missing sub-frames. -/
def State.nodeIntake (s : State) : State :=
  s.forEach (s.selide.nodes.map fun p => p.1) fun u n =>
    let x := u.node n
    if !x.present || u.tick.no < x.activeFrom then u
    else
      let cause := if x.buf.isNone then (if x.nullFrame then 2 else 1)
        else if x.subM.valid && x.subW.valid then 0 else 3
      let stale := decide (cause ≠ 0)
      u.modNode n fun y => { y with
        stale := stale, staleCause := cause, staleCnt := if stale then (if y.staleCnt = 4 then 4 else y.staleCnt + 1) else 0
        staleTicks := if stale then incSat 32 y.staleTicks else y.staleTicks
        subM := { y.subM with missing := if y.subM.valid then 0 else y.subM.missing + 1 }
        subW := { y.subW with missing := if y.subW.valid then 0 else y.subW.missing + 1 } }

/-! ### T0 of a tick -/

/-- A node leaves the bus. -/
def NodeSt.departed (x : NodeSt) : NodeSt :=
  { x with
    state := if x.goneNext then 4 else 0, slots := [], leaving := false, goneNext := false, left := true, placed := false
    validData := false, mute := false, stale := false, staleCnt := 0, silent := 0, violations := 0, buf := none
    subM := {}, subW := {}, stoSince := [] }

/-- The buffers and flags of a node at a new tick; the corrections collected come into force (R260). -/
def NodeSt.newTick (x : NodeSt) (selide : Bool) : NodeSt :=
  { x with
    silent := if selide && x.present && !x.mute && !x.spoke then x.silent + 1 else 0
    violations := if x.violated then x.violations else 0, violated := false, edge := false
    corrA := satS 16 (x.corrA + x.pendCorrA), corrB := satS 16 (x.corrB + x.pendCorrB), pendCorrA := 0, pendCorrB := 0
    buf := none, arrived := false, arrivedA := false, arrivedB := false, nullFrame := false, nullSeen := false, lostSeen := false
    subM := { x.subM with valid := false }, subW := { x.subW with valid := false }
    extNow := x.extBuf, extBuf := none, stale := false }

def State.nodeTick (s : State) : State :=
  s.forEach (s.selide.nodes.map fun p => p.1) fun u n =>
    let x := (u.node n).newTick u.tick.selide
    if (u.node n).leaving then (u.dropSends n).modNode n fun _ => { x with sends := [], service := [] }.departed
    else u.modNode n fun _ => x

/-- The schedule of a trunk by its lost channels, once `c` has returned. -/
def TrunkSt.after (x : TrunkSt) (c : Nat) : Nat :=
  if c = 0 then (if x.bLost then 1 else 0) else if x.aLost then 2 else 0

/-- A channel has returned: its trunk resumes the normal schedule, or that of this channel while the other is lost (R287). -/
def State.channelReturns (s : State) (t : Nat) (x : TrunkSt) : State :=
  let c := x.lostChan.getD 0
  (s.modTrunk t fun y => { y with
    aLost := y.aLost && c ≠ 0, bLost := y.bLost && c = 0, sched := x.after c, schedNext := x.after c, restore := false
    expired := y.expired && x.after c ≠ 0, nullRun := 0 }).emit evChannelRestored s.devRef [t, c]

/-- The consecutive ticks in which a node's frames are missing on one channel and valid on the other. -/
def NodeSt.countMissing (x : NodeSt) (sched : Nat) : NodeSt :=
  { x with missA := if x.missingOn sched 0 then x.missA + 1 else 0, missB := if x.missingOn sched 1 then x.missB + 1 else 0 }

/-- The schedule of each trunk, the count of NULL frames, and the return of a channel at a boundary (R285, R287). -/
def State.trunkTick (s : State) : State :=
  s.forEach (s.selide.trunks.map fun p => p.1) fun u t =>
    let all := s.allNull t
    let x := u.trunk t
    let u := u.forEach (s.presentNodes t) fun v n => v.modNode n fun y => y.countMissing x.sched
    let u := u.modTrunk t fun y => { y with
      sched := x.schedNext, echoA := none, echoB := none, grant := none, sent := []
      nullRun := if x.lostChan.isSome && all then x.nullRun + 1 else 0 }
    if x.restore && u.boundary then u.channelReturns t x else u

/-- Nodes whose first valid DATA frame lies behind a boundary: their axes stop being ABSENT (R279). -/
def State.placeNodes (s : State) : State × List Nat :=
  (s.selide.nodes.map fun p => p.1).foldl (fun r n =>
    let x := r.1.node n
    if x.state = 2 && x.validData && !x.placed then
      (r.1.modNode n fun y => { y with placed := true, left := false }, r.2 ++ r.1.nodeAxes n)
    else r) (s, [])

/-! ### CYCLE_START (R260) -/

/-- The CYCLE_START payload of a trunk and channel in this tick (Table 9.3). -/
def State.cycleStartPayload (s : State) (t chan : Nat) : List Byte :=
  let tr := s.trunk t
  let rate := s.pU 0x0010 s.dev
  let tai := s.time.source = 1
  let link := s.isLinkTrunk t
  let fl := rate % 4 + 4 * (tr.sched % 4) + 16 * b2n tai + 32 * b2n link
  let bit := fun (f : NodeSt → Bool) => (upTo 16).foldl (fun v p => match s.nodeAt t p with
    | some n => if f (s.node n) then v + 2 ^ p else v
    | none => v) 0
  let muted := if link then (upTo 16).foldl (fun v p =>
      if (tblGet ({} : LinkRx) s.link.rx (p + 1)).mute then v + 2 ^ p else v) 0
    else bit fun x => x.mute
  let corr := (upTo 16).flatMap fun p =>
    if link then bytesLE 2 (uns 16 (tblGet ({} : LinkRx) s.link.rx (p + 1)).corr)
    else match s.nodeAt t p with
      | some n => bytesLE 2 (uns 16 (if chan = 0 then (s.node n).corrA else (s.node n).corrB))
      | none => bytesLE 2 0
  bytesLE 4 s.tick.cycle.toNat ++ bytesLE 4 s.time.ns ++ bytesLE 6 s.time.sec ++ bytesLE 2 fl ++
    bytesLE 4 s.selide.sched.generation.toNat ++ bytesLE 2 (s.devRec.elim 0 fun d => d.priority) ++
    bytesLE 2 (if s.selide.joinOpen ∧ tr.sched = 0 then s.joinStart t else 0) ++ bytesLE 8 s.power.fuses.serial.toNat ++
    bytesLE 2 0 ++ bytesLE 2 muted ++ bytesLE 2 (bit fun x => x.wake) ++ bytesLE 2 0 ++ corr

/-- R260: a CYCLE_START frame on every channel of the trunks that this device leads; a cell link has channel A alone. -/
def State.sendCycleStarts (s : State) : State :=
  if s.tick.selide then
    s.forEach ((s.selide.trunks.filter fun p => p.2.master).map fun p => p.1) fun u t =>
      let fs := (if u.isLinkTrunk t then [0] else [0, 1]).map fun c =>
        u.frameOf t c ftCycleStart 0xFF 0xFF true u.selide.sched.generation.toNat (u.cycleStartPayload t c) none
      u.modTrunk t fun x => { x with cycleStarts := x.cycleStarts + 1, sent := x.sent ++ fs }
  else s

/-! ### The downstream window (R213, R267, R269, R270) -/

/-- The setpoint word of an axis (Table 9.4). -/
def State.setpointWord (s : State) (a : Nat) : Nat :=
  let x := s.axis a
  let sto := s.inSto a
  x.lp.addr % 65536 + 65536 * (if sto then 0 else x.lp.ampl % 32768) + 2 ^ 32 * b2n x.psEn +
  2 ^ 33 * b2n (x.brakeRel && !sto) + 2 ^ 34 * b2n (x.clrFault = some s.tick.no) + 2 ^ 35 * b2n x.lp.extrap

/-- AXIS_STO and ZONE_STO of a node (Table 9.6); a zone stopped too late for this window is not yet carried. -/
def State.downSdata (s : State) (n : Nat) : Nat :=
  let axes := s.nodeAxes n
  let bits := axes.foldl (fun v a => if s.axisStoBit a then
    v ||| 2 ^ ((s.axisRec a).elim 0 fun r => r.chan) else v) 0
  let zone := match axes.head?.bind s.zoneOf with
    | some z => !s.safety.armed || (s.zoneSto z && !(s.zone z).late)
    | none => !axes.isEmpty
  bits % 65536 + 65536 * b2n zone

/-- The sub-frame sent to a node; a lost island's CRC is open, and the survivor computes both in attributed
degraded mode (R239). -/
def State.downSubFrame (s : State) (n : Nat) (payload : List Byte) : SubFrame :=
  let seq := ((s.node n).downSeq + 1).toNat
  let ns := (s.localNode n).elim 0 fun r => r.nserial
  let c := s.tick.cycle.toNat % 65536
  let l := subCovered ns 1 seq c (s.downSdata n) payload
  { seq := BitVec.ofNat 16 seq, cstamp := BitVec.ofNat 16 c, sdata := BitVec.ofNat 32 (s.downSdata n)
    crcM := if s.safety.madderAlive then BitVec.ofNat 32 (crc32c l) else BitVec.ofNat 32 (Config.freeWord s.free).toNat
    crcW := if s.safety.woadAlive then BitVec.ofNat 32 (crc32k l) else BitVec.ofNat 32 (Config.freeWord s.free).toNat }

/-- R272: the tick in which STO_ACT of a demanded channel is due. -/
def State.stoDue (s : State) : Nat := s.tick.no + (if s.P = 31250 then 3 else 2)

/-- The channels for which a demand now stands, with the tick due plus one. -/
def stoTimes (old : Tbl Nat) (sdata due : Nat) : Tbl Nat :=
  (upTo 16).foldl (fun t c =>
    if bitN sdata c || bitN sdata 16 then (if tblGet 0 old c = 0 then tblSet t c (due + 1) else tblSet t c (tblGet 0 old c)) else t) []

/-- The downstream EXT frame of the window on channel B, with the service bytes that fit it, and the NODE_SENDs that end with
them (R269). -/
def State.sendService (s : State) (n t chain : Nat) : State :=
  let x := s.node n
  let slot := x.slots.find? fun r => r.sched = 0 && r.chan = 1 && r.dir = 1
  let k := Nat.min (slot.elim 0 fun r => r.payload) x.service.length
  let r := x.sends.foldl (fun (p : Nat × List (Hdr × Nat) × List Hdr) q =>
    if q.2 ≤ p.1 then (p.1 - q.2, p.2.1, p.2.2 ++ [q.1]) else (0, p.2.1 ++ [(q.1, q.2 - p.1)], p.2.2)) (k, [], [])
  let u := s.modNode n fun y => { y with service := y.service.drop k, sends := r.2.1 }
  let u := match slot with
    | some q => u.sendFrame t
        (s.frameOf t 1 ftExt chain q.slot true s.selide.sched.generation.toNat (x.service.take k) none)
    | none => u
  u.forEach r.2.2 fun v h => v.done 0x0206 h stOk

def State.sendToNode (s : State) (n : Nat) : State :=
  let axes := s.nodeAxes n
  let words : Tbl Word64 := axes.foldl (fun t a =>
    tblSet t ((s.axisRec a).elim 0 fun r => r.chan) (BitVec.ofNat 64 (s.setpointWord a))) []
  let payload := (upTo (s.node n).nax).flatMap fun c => bytesLE 8 (tblGet 0 words c).toNat
  let sub := s.downSubFrame n payload
  let t := s.modNode n fun x => { x with
    words := words, downSub := some sub, downSeq := x.downSeq + 1, stoSince := stoTimes x.stoSince sub.sdata.toNat s.stoDue }
  let tr := (s.localNode n).elim 0 fun r => r.trunk
  let chain := (s.localNode n).elim 0 fun r => r.chain
  let sched := (s.trunk tr).sched
  let t := match (s.node n).slots.find? fun r => r.sched = sched && r.chan = essentialChan sched && r.dir = 1 with
    | some q => t.sendFrame tr (s.frameOf tr (essentialChan sched) ftData chain q.slot true s.selide.sched.generation.toNat
        payload (some sub))
    | none => t
  if sched = 0 then t.sendService n tr chain else t

/-- OVERRUN and DEC_KEPT of a group: the OR of its members', a remote group with the flags that its device reported one tick
before (R23, R26). -/
def State.groupFlags (s : State) (g : Nat) : Nat :=
  let ax := s.localAxes (mkRef clsGroup g)
  let far := ((s.groupsBelow (mkRef clsGroup g)).filter fun k => k / 256 ≠ s.dev).map fun k => (tblGet {} s.link.gstat k).flags.toNat
  b2n ((ax.any fun a => (s.axis a).lp.overrun) || far.any fun f => bitN f 0) +
    2 * b2n ((ax.any fun a => (s.axis a).decKept) || far.any fun f => bitN f 1)

/-- Groups of this device that carry a relayed capsule and have a SIGMA variable. -/
def State.sigmaGroups (s : State) : List Nat :=
  let hasVar := fun (g : Nat) => s.solver.structs.any fun p => p.2.any fun x => x.vars.any fun v => v.kind = 1 && v.obj = mkRef clsGroup g
  dedup ((s.sep.kin.caps.filter fun c => c.relay && isRobot c && hasVar (capArm c)).map capArm)

/-- The records a device of a cell link sends in its LINK slots of this tick. -/
def State.linkRecords (s : State) : List (List Byte) :=
  let own := (s.sep.kin.caps.filter fun c => c.relay && isRobot c).map fun c => capRelBytes (s.capRelay c)
  let sig := s.sigmaGroups.map fun g => sigmaBytes g (s.sigmaSt g).new
  let gs := if s.isMember then (s.objectsOf clsGroup).map fun g =>
      let st := s.groupState g
      gstatBytes g st.1 (s.groupFlags g + 128 * b2n (refClass st.2 = clsGroup && st.2 ≠ noRef)) (refIndex st.2)
    else []
  own ++ sig ++ gs ++ (if s.isLeader then s.link.relayOut else [])

/-- The leader's decision on a command forwarded in the tick before: GO 1 only if every answer is ST_OK (R292). -/
def LinkCmdSt.decide (c : LinkCmdSt) (tick : Nat) : LinkCmdSt :=
  if c.hdr.isSome && c.goSent.isNone && c.tick < tick then
    { c with goSent := some (c.waiting.isEmpty && c.status = 0) } else c

/-- The records of forwarded commands in this tick's window: CMD in the tick of acceptance and CMDGO in the next from the
leader, CMDACK from a member in the tick after it received CMD (R292). -/
def linkCmdRecord (tick : Nat) (c : LinkCmdSt) : Option (List Byte) :=
  if c.hdr.isSome then
    if c.tick = tick then some (cmdBytes c.seq c.effect.toNat c.desc)
    else if c.tick + 1 = tick then c.goSent.map fun g => cmdgoBytes c.seq (b2n g)
    else none
  else if c.tick + 1 = tick then some (cmdackBytes c.seq c.status.toNat c.obj.toNat)
  else none

/-- The LINK slots in which this device sends: the leader's downstream ones, a member's upstream ones (R290). -/
def State.linkSlots (s : State) : List SlotRec :=
  s.selide.sched.slots.filter fun r =>
    r.trunk = s.linkTrunk && r.owner = s.devRef && !r.spare && r.dir = b2n s.isLeader

/-- The sub-frame of a LINK frame sent (R270). -/
def State.linkSub (s : State) (seq : Nat) (payload : List Byte) : SubFrame :=
  let c := s.tick.cycle.toNat % 65536
  let l := subCovered (s.power.fuses.serial.toNat % 2 ^ 32) (b2n s.isLeader) (seq % 65536) c 0 payload
  { seq := BitVec.ofNat 16 seq, cstamp := BitVec.ofNat 16 c, sdata := 0, crcM := BitVec.ofNat 32 (crc32c l)
    crcW := BitVec.ofNat 32 (crc32k l) }

/-- The device sends in its LINK slots: the leader while it is master of its link trunk, a member once granted and while it is
not muted (R282, R288, R293). -/
def State.linkSends (s : State) : Bool :=
  if s.isLeader then (s.trunk s.linkTrunk).master else s.link.joined && !s.link.muted

/-- The LINK frames of this tick's records (R290). -/
def State.sendLink (s : State) : State :=
  if s.linkSends then
    s.forEach (packRecs s.linkSlots s.link.out) fun u p =>
      let seq := u.link.seq.toNat + 1
      let node := if u.isLeader then 0xFF else u.dev - 1
      (u.modLink fun x => { x with seq := x.seq + 1 }).sendFrame u.linkTrunk
        (u.frameOf u.linkTrunk 0 ftLink node p.1.slot u.isLeader u.linkGen p.2 (some (u.linkSub seq p.2)))
  else s

/-- The records of the tick go out in the device's LINK slots. -/
def State.sendRecords (s : State) : State :=
  let cmds := s.link.cmds.map fun c => c.decide s.tick.no
  (s.modLink fun x => { x with
    cmds := cmds, out := s.linkRecords ++ cmds.filterMap (linkCmdRecord s.tick.no), relayOut := [] }).sendLink

/-- A member's LINK slots lie in the upstream window, which opens behind T0: its answers reach the leader before the intake of
the tick (R273, R290, R292). -/
def State.memberSends (s : State) : State := if s.isMember && s.tick.selide then s.sendRecords else s

/-- The downstream window: setpoints and sub-frames to every node with slots, service data, the leader's records. -/
def State.downstream (s : State) : State :=
  let t := s.forEach ((s.selide.nodes.filter fun p => p.2.present).map fun p => p.1) fun u n => u.sendToNode n
  let t := if s.isLeader then t.sendRecords else t
  { t with free := t.free + 1 }

/-- The window opens once in a tick, after the latch (R41, R42). -/
def execDownstreamWindow (s : State) : Out :=
  .next (if s.tick.selide && s.tick.latched && !s.tick.downDone then
      s.downstream.modTick fun x => { x with downDone := true }
    else s)

/-! ### Masters in conflict (R288) -/

/-- The pair (PRIO, SERIAL) of a master, as one number. -/
def masterKey (prio : Nat) (serial : Word64) : Nat := prio * 2 ^ 64 + serial.toNat

/-- Time of a master less the device's own, ns: its T0 was `arrival` after the device's own T0, less a delay in 0.125 ns
(R263). -/
def State.cycleError (s : State) (c : CycleStart) (arrival delay : Int) : Int :=
  ((c.t0Sec.toNat : Int) - s.time.sec) * 1000000000 + ((c.t0Ns.toNat : Int) - s.time.ns) - (arrival - rdiv delay 8)

/-- The loser of a conflict slews its tick grid to the winner's; it has no hop of its own to measure (R37, R288). -/
def State.followWinner (s : State) (c : CycleStart) (arrival : Int) : State :=
  s.modTime fun x => { x with
    remaining := s.cycleError c arrival c.acc.toNat, slewing := true, alignSlew := false
    slewStart := if x.slewing then x.slewStart else s.now }

def State.masterConflict (s : State) (t : Nat) (c : CycleStart) : State :=
  let own := masterKey (s.devRec.elim 0 fun d => d.priority) s.power.fuses.serial
  if masterKey c.prio.toNat c.serial < own then
    let follow := s.pU 0x8002 s.dev = 0
    (s.modTrunk t fun x => { x with conflict := true, master := false, followed := follow }).emit evMasterConflict s.devRef
      [t, c.serial.toNat % 2 ^ 32, c.serial.toNat / 2 ^ 32, c.prio.toNat, if follow then 1 else 2]
  else s.modTrunk t fun x => { x with conflict := true }

/-- A CYCLE_START frame reaches a master, or one that follows the winner of a conflict; one that R259 discards is recorded. -/
def execCycleStartReceived (trunk : Fin 4) (f : HeardFrame) (s : State) : Out :=
  let x := s.trunk trunk.val
  .next (if s.tick.selide && (x.master || x.followed) then
      match cycleStartOf trunk.val s.dev f.frame with
      | some c =>
        if c.serial = s.power.fuses.serial then s
        else
          let t := if x.master then s.masterConflict trunk.val c else s
          if (t.trunk trunk.val).followed then t.followWinner c f.arrival else t
      | none => s.frameError trunk.val 0 0xFF none
    else s)

/-! ### The cell link at T0 (R26, R290, R293) -/

/-- What is kept of a device's LINK frames at a new tick; three ticks in a row with SLOT_VIOLATION mute a member (R264, R289). -/
def LinkRx.newTick (x : LinkRx) : LinkRx :=
  { x with
    frame := none, corr := satS 16 (x.corr + x.pendCorr), pendCorr := 0
    mute := x.mute || decide (3 ≤ x.violations), violations := if x.violated then x.violations else 0, violated := false }

/-- Members that three violations mute now. -/
def State.newlyMuted (s : State) : List Nat :=
  (s.link.rx.filter fun p => !p.2.mute && decide (3 ≤ p.2.violations)).map fun p => p.1

/-- At T0: last tick's GSTAT records come into use; a member not heard for 4 ticks is away until it rejoins (R293); commands
that an ABORT has cancelled, and their CMDGO, are over. -/
def State.linkTick (s : State) : State :=
  let t := s.modLink fun x =>
    let silent := x.silent.map fun p => (p.1, p.2 + 1)
    let lost := (silent.filter fun p => 4 < p.2).map fun p => p.1
    { x with
      gstat := x.gstatNew.foldl (fun t p => tblSet t p.1 p.2) x.gstat
      gstatNew := [], silent := silent, present := x.present.filter fun d => !lost.contains d
      away := if s.isLeader then dedup (x.away ++ x.present.filter lost.contains) else x.away
      cmds := x.cmds.filter fun c => !(c.aborted && decide (c.tick + 1 < s.tick.no))
      missed := if s.isMember && (x.locked || x.joined) && !x.seen then x.missed + 1 else if x.seen then 0 else x.missed
      seen := false, portB := [], rx := x.rx.map fun p => (p.1, p.2.newTick) }
  t.forEach s.newlyMuted fun u d => u.emit evNodeMuted (mkRef clsDevice d) []

/-- R293: 4 consecutive link CYCLE_START frames are missing. -/
def execLinkLost (s : State) : Out :=
  .next (if s.isMember && !s.link.lost && decide (4 ≤ s.link.missed) then
      (((s.modLink fun x => { x with lost := true, joined := false, locked := false, run := 0, cmds := [], hopAge := none, echoOut := false }).modTime fun x =>
        { x with source := 2, slewing := false, alignSlew := false, remaining := 0 }).timeCause s.time).emit evLinkLost s.devRef []
    else s)

/-! ### Status words (R296) -/

/-- The node status word (Table 9.15). ASLEEP reads its reset value until bring-up gives the node a WAKE bit (R281). -/
def State.nodeStatus (s : State) (n : Nat) : Nat :=
  let x := s.node n
  x.state % 8 + 8 * b2n (s.selide.started && !x.wake) + 16 * b2n x.stale + 32 * Nat.min 3 x.staleCnt + 128 * b2n x.subM.valid +
  256 * b2n x.subW.valid + 512 * b2n x.edge + 1024 * b2n x.retains + 65536 * uns 16 (satS 16 x.offset)

def State.trunkStatus (s : State) (t : Nat) : Nat :=
  let x := s.trunk t
  let limit := s.pU 0x8001 s.dev * 1000000
  let left := if x.lostChan.isSome then (x.lostNs + limit - s.now) / 100000000 else 0
  x.sched % 4 + 4 * b2n x.aLost + 8 * b2n x.bLost + 16 * b2n (s.isLinkTrunk t) + 32 * b2n x.conflict +
  65536 * Nat.min 65535 left

/-! ### Commands of Table 9.14 -/

/-- A write of TICK_RATE is staged (R36). -/
def State.tickRateStaged (s : State) : Bool :=
  (s.par.staged.any fun w => w.number = 0x0010) || s.par.sets.any fun x => x.records.any fun r => r.number = 0x0010

def execSelideStart (h : Hdr) (s : State) : Out :=
  .next (if !(s.cell.loaded && s.selide.sched.loaded) then s.done 0x0005 h stIncomplete
    else if s.selide.started then s.done 0x0005 h stBusy
    else if s.tickRateStaged then s.done 0x0005 h stBusy
    else (s.begin h).modSelide fun x => { x with
      started := true, startPending := some h, startNs := s.now, joinOpen := true
      trunks := x.sched.trunks.map fun r => (r.trunk, { master := !(s.isMember && r.role = 2) }) })

/-- The first declared node without the late-comer flag that is not present. -/
def State.firstMissing (s : State) : Option Nat :=
  (s.cell.nodes.find? fun r => r.index / 64 = s.dev && !r.late &&
    !((s.node (r.index % 64)).state = 2 || (s.node (r.index % 64)).state = 3)).map fun r => r.index

def execBringupTimeout (s : State) : Out :=
  .next (match s.selide.startPending, s.firstMissing with
    | some h, some n =>
      if s.tick.selide && decide (s.selide.startNs + s.pU 0x8003 s.dev * 1000000 ≤ s.now + s.P) then
        (s.modSelide fun x => { x with startPending := none }).complete 0x0005 h stIncomplete (mkRef clsNode n) 0
      else s
    | _, _ => s)

def execBringupComplete (s : State) : Out :=
  .next (match s.selide.startPending, s.firstMissing with
    | some h, none =>
      if s.tick.selide then (s.modSelide fun x => { x with startPending := none }).done 0x0005 h stOk else s
    | _, _ => s)

def execNodeUnmute (h : Hdr) (s : State) : Out :=
  let n := refIndex h.obj % 64
  .next (if !s.selide.sched.loaded then s.done 0x0006 h stIncomplete
    else if (s.node n).mute then
      (s.modNode n fun x => { x with mute := false, state := if x.state = 3 then 2 else x.state, violations := 0 }).done 0x0006 h stOk
    else s.done 0x0006 h stNoEffect)

def execNodeWake (h : Hdr) (s : State) : Out :=
  let n := refIndex h.obj % 64
  .next (if !s.selide.sched.loaded then s.done 0x010A h stIncomplete
    else if (s.node n).wake then s.done 0x010A h stNoEffect
    else if s.overBudget (s.wakeCost n) then s.done 0x010A h stSupply
    else (s.begin h).joinSupply (.wake h n) (s.wakeCost n))

def execNodeSleep (h : Hdr) (s : State) : Out :=
  let n := refIndex h.obj % 64
  .next (if !s.selide.sched.loaded then s.done 0x010B h stIncomplete
    else if (s.nodeAxes n).any fun a => s.axisState a ≠ stDisabled then s.done 0x010B h stBusy
    else if !(s.node n).wake then s.done 0x010B h stNoEffect
    else (s.modNode n fun x => { x with wake := false }).done 0x010B h stOk)

def execNodeSend (h : Hdr) (winOffset : Word) (length : Word16) (s : State) : Out :=
  let n := refIndex h.obj % 64
  .next (if !(s.node n).present then s.done 0x0206 h stNotReady
    else (s.begin h).modNode n fun x => { x with
      service := x.service ++ s.winRead winOffset.toNat length.toNat, sends := x.sends ++ [(h, length.toNat)] })

end Sys2Proof.Machine
end

