-- ==== Sys2Proof/Machine/ImageOps.lean ====
section
/-!
DEFINITION. What every configuration image has in common: the header of Table 1.7 with its checks in order (R32) and the
records of a body (R33, R34).
-/
namespace Sys2Proof.Machine

/-- One record of an image body: type, object, and what follows its 8-byte header. -/
structure ImgRec where
  rtype : Nat
  obj : Word
  body : List Byte
  deriving DecidableEq, Repr

/-- The records of a body, or none if they do not fill it. -/
def parseRecs : Nat → List Byte → Option (List ImgRec)
  | 0, _ => none
  | fuel + 1, l =>
    let n := fieldAt l 2 2
    if l.isEmpty then some []
    else if n < 8 ∨ n % 4 ≠ 0 ∨ l.length < n then none
    else (parseRecs fuel (l.drop n)).map fun r =>
      { rtype := fieldAt l 0 2, obj := BitVec.ofNat 32 (fieldAt l 4 4), body := slice l 8 (n - 8) } :: r

def imageRecs (img : List Byte) : Option (List ImgRec) := parseRecs (img.length / 8 + 1) (img.drop 32)

def imageKind (img : List Byte) : Nat := fieldAt img 4 2
def imageGen (img : List Byte) : Word := BitVec.ofNat 32 (fieldAt img 16 4)

/-- R32: the status of a header that fails, 0 for one that passes, for device index `dev`. -/
def imageHeaderError (dev : Nat) (img : List Byte) (len : Nat) : Nat :=
  let crcBytes := img.take 20 ++ [0, 0, 0, 0] ++ img.drop 24
  if len < 32 ∨ img.length ≠ len ∨ fieldAt img 0 4 ≠ 0x4643425A ∨ fieldAt img 8 4 ≠ len ∨ len % 4 ≠ 0 ∨
      fieldAt img 20 4 ≠ crc32 crcBytes then stBadImage
  else if imageKind img = 0 ∨ 7 < imageKind img ∨ fieldAt img 13 3 ≠ 0 ∨ fieldAt img 24 8 ≠ 0 ∨
      !(fieldAt img 12 1 = 0xFF || fieldAt img 12 1 = dev) then stBadImage
  else if fieldAt img 6 2 ≠ 3 then stBadVersion
  else 0

/-- Every byte of a reserved field is 0. -/
def zeroAt (l : List Byte) (off n : Nat) : Bool := (slice l off n).all fun b => b = 0

def recsOf (rs : List ImgRec) (t : Nat) : List ImgRec := rs.filter fun r => r.rtype = t

/-- No element stands twice. -/
def noDup {α : Type} [BEq α] : List α → Bool
  | [] => true
  | x :: r => !(r.contains x) && noDup r

/-- The first status of a list of checks that fails, 0 if all pass. -/
def firstFail : List (Bool × Nat) → Nat
  | [] => 0
  | (ok, e) :: r => if ok then firstFail r else e

/-- The stated range of the window lies inside it and no word of it is poisoned (R405, R479). -/
def State.winOk (s : State) (off len : Nat) : Bool :=
  decide (off + len ≤ winBytes) && s.health.poison.all fun w => !(decide (off ≤ 8 * w + 7) && decide (8 * w < off + len))

end Sys2Proof.Machine
end

