-- ==== Sys2Proof/Machine/Sweep.lean ====
section
/-!
DEFINITION. Identification sweeps (R331) and the module of user kernels: the KERNEL image, its checks and its activation
(R323, R328 to R330).
-/
namespace Sys2Proof.Machine

/-! ### SWEEP -/

/-- The highest frequency of a sweep, 0.4/P in mHz. -/
def sweepFmax (P : Nat) : Nat := 400000000000 / P

/-- Computations of a sweep over its duration. -/
def sweepCount (P durationMs : Nat) : Nat := ticksOf P (durationMs * 1000000)

/-- Every field in its range, and room for the samples. -/
def sweepArgsOk (P : Nat) (x : SweepArgs) : Bool :=
  let f := fun (v : Nat) => decide (1000 ≤ v) && decide (v ≤ sweepFmax P)
  f x.fStart.toNat && f x.fEnd.toNat && decide (1 ≤ x.ampl.toNat) && decide (x.ampl.toNat ≤ 16384) &&
  decide (1 ≤ x.decim.toNat) && decide (x.decim.toNat ≤ 64) && decide (100 ≤ x.duration.toNat) &&
  decide (x.duration.toNat ≤ 60000) && x.winOffset.toNat % 8 = 0 &&
  decide (x.winOffset.toNat + x.winLength.toNat ≤ winBytes) &&
  decide (8 * (sweepCount P x.duration.toNat / x.decim.toNat) ≤ x.winLength.toNat)

/-- Any other axis of the lane is bound, homing or in a soft start, or the lane is at half rate. -/
def State.sweepBusy (s : State) (a : Nat) : Bool :=
  match s.laneOf a with
  | none => true
  | some (l, _) =>
    (s.laneAxes l).any (fun b => b ≠ a && ((s.axis b).bound.isSome || (s.axis b).home.run.isSome || (s.axis b).softStart)) ||
      (s.laneAxes l).any s.axisHalf

def State.sweepCheck (s : State) (x : SweepArgs) (a : Nat) : Nat :=
  let y := s.axis a
  if !sweepArgsOk s.P x then stRange
  else if s.axisState a ≠ stReady || !y.closed || y.softStart then stNotReady
  else if s.sweepBusy a then stBusy
  else stOk

def State.sweepOp (s : State) (h : Hdr) (x : SweepArgs) : State :=
  s.onAxes 0x0109 h (s.sweepCheck x) fun ax =>
    (s.begin h).forEach ax fun t a =>
      let w : SweepSt := { hdr := h, axis := a, args := x, startTick := t.tick.no }
      let u := t.modLanes fun y => { y with sweeps := y.sweeps ++ [w] }
      match (u.laneOf a).bind fun p => u.pairOf p.1 with
      | some p => u.modPair p fun y => y.enter lpTest
      | none => u

def execSweep (h : Hdr) (a : SweepArgs) (s : State) : Out := .next (s.sweepOp h a)

/-- Whether a sweep is over: at its duration, or early by a HALT, SS1, STO or a takeover of its lane. -/
def State.sweepOver (s : State) (x : SweepSt) : Option Bool :=
  if x.stop.isSome then x.stop
  else if s.inSto x.axis || s.underSs1 x.axis || !(s.axis x.axis).closed ||
      ((s.laneOf x.axis).elim true fun p => s.inTakeover p.1 || !s.served p.1) then some false
  else if x.args.duration.toNat * 1000000 ≤ x.elapsedNs then some true
  else none

def State.sweepEndOp (s : State) (x : SweepSt) (natural : Bool) : State :=
  let st := if natural then stOk else stAborted
  let t := s.modLanes fun y => { y with sweeps := y.sweeps.filter fun w => !(w.axis = x.axis && w.hdr = x.hdr) }
  (t.emit evSweepEnd (mkRef clsAxis x.axis) [st, x.samples]).done 0x0109 x.hdr st

def execSweepEnd (axis : Nat) (s : State) : Out :=
  .next (match s.lanes.sweeps.find? fun x => x.axis = axis && (s.sweepOver x).isSome with
    | some x => match s.sweepOver x with
      | some b => s.sweepEndOp x b
      | none => s
    | none => s)

/-! ### The KERNEL image (R328, R329) -/

def kernelOf (gen : Word) (rs : List ImgRec) : Kernel :=
  let b := ((recsOf rs 0x0701).headD { rtype := 0, obj := 0, body := [] }).body
  let n := fun k => fieldAt b (2 * k) 2
  let words := fun (from_ cnt : Nat) => (upTo cnt).map fun k => (BitVec.ofNat 32 (fieldAt b (16 + 4 * (from_ + k)) 4) : Word)
  { generation := gen
    prog := words 0 (n 0)
    xc := words (n 0) (n 1)
    yc := words (n 0 + n 1) (n 2)
    xa := words (n 0 + n 1 + n 2) (n 3)
    ya := words (n 0 + n 1 + n 2 + n 3) (n 4)
    entries := (recsOf rs 0x0702).map fun r =>
      { entry := fieldAt r.body 0 1, addr := fieldAt r.body 2 2, budget := fieldAt r.body 4 2, holdoff := fieldAt r.body 6 2 }
    binds := (recsOf rs 0x0703).map fun r => (refIndex r.obj, fieldAt r.body 0 1) }

/-- One KMOD, then KENTRY, then KBIND, each of its length, reserved fields 0; or no record at all. -/
def kernelForm (rs : List ImgRec) : Bool :=
  let types := rs.map fun r => r.rtype
  rs.isEmpty ||
  ((types.zip (types.drop 1)).all (fun p => decide (p.1 ≤ p.2)) && (recsOf rs 0x0701).length = 1 &&
   rs.all fun r => match r.rtype with
    | 0x0701 =>
      let n := fun k => fieldAt r.body (2 * k) 2
      r.body.length = 16 + 4 * (n 0 + n 1 + n 2 + n 3 + n 4) && zeroAt r.body 11 5 &&
        fieldAt r.body 10 1 = (recsOf rs 0x0702).length
    | 0x0702 => r.body.length = 16 && zeroAt r.body 1 1 && zeroAt r.body 8 8
    | 0x0703 => r.body.length = 8 && zeroAt r.body 1 7
    | _ => false)

/-- The instruction that starts at a parcel is a 64-bit one (R339). -/
def longAt (prog : List Word) (addr : Nat) : Bool := (nthD 0 prog addr).getLsbD 31

def kernelEntriesOk (k : Kernel) : Bool :=
  noDup (k.entries.map fun e => e.entry) && decide (1 ≤ k.entries.length) &&
  k.entries.all (fun e => decide (e.entry < 16) && decide (e.addr < k.prog.length) &&
    (!longAt k.prog e.addr || e.addr % 2 = 0) && decide (8 ≤ e.budget) && decide (e.budget ≤ 1400) && decide (e.holdoff ≤ 1032)) &&
  k.binds.all (fun b => k.entries.any fun e => e.entry = b.2) && noDup (k.binds.map fun b => b.1)

/-- R323, and R322 on every logical lane with its present axes at full rate. -/
def State.kernelFits (s : State) (k : Kernel) : Bool :=
  decide (k.prog.length ≤ 8192) && decide (k.xc.length + 64 * k.xa.length ≤ 4096) &&
  decide (k.yc.length + 64 * k.ya.length ≤ 4096) &&
  laneNos.all fun l => decide (slotUse k (s.logLane l).held (fun _ => false) ≤ userPool s.laneSteps)

def State.kernelObjects (s : State) (rs : List ImgRec) : Bool :=
  rs.all fun r => s.objOk r.obj && refClass r.obj = (if r.rtype = 0x0703 then clsAxis else clsDevice)

/-- The status of a KERNEL image, 0 when it is accepted. -/
def State.kernelStatus (s : State) (rs : List ImgRec) : Nat :=
  let k := kernelOf 0 rs
  firstFail [(kernelForm rs, stBadImage), (s.kernelObjects rs, stBadObject),
    (rs.isEmpty || kernelEntriesOk k, stBadImage), (s.kernelFits k, stCapacity)]

/-- An accepted module waits for activation (R330). -/
def State.acceptKernel (s : State) (h : Hdr) (gen : Word) (rs : List ImgRec) : State :=
  let k : KernelLoad := { hdr := h, image := kernelOf gen rs, accepted := s.tick.no }
  (s.begin h).modLanes fun x => { x with loads := x.loads ++ [k] }

/-! ### Activation (R330) -/


/-- The initial values of a slot's areas. -/
def Kernel.fillSlot (k : Kernel) (slot : Nat) (x : PairSt) : PairSt :=
  { x with xMem := writeCells x.xMem (k.xArea slot) k.xa, yMem := writeCells x.yMem (k.yArea slot) k.ya }

/-- The module becomes active; a lane that waits for its reserve has its areas filled in the memory that is copied (R330,
R334). -/
def State.activateKernel (s : State) (k : KernelLoad) : State :=
  let m := k.image
  let t := s.forEach (pairNos.filter fun p => (s.pair p).state ≠ lpRetired) fun u p => u.modPair p m.load
  let t := t.forEach laneNos fun u l => match (u.pairOf l).or ((u.logLane l).takeover.map fun x => x.failed) with
    | some p => u.forEach ((u.logLane l).held.filter fun e => (m.entryOf e.2).isSome) fun v e => v.modPair p (m.fillSlot e.1)
    | none => u
  let t := t.modLanes fun x => { x with
    kernel := if m.entries.isEmpty then none else some m, loads := x.loads.filter (· ≠ k), disabled := [], aborts := [] }
  let t := t.forEach t.axisList fun u a => u.modAxis a fun x => { x with userDisabled := false }
  (t.emit evKernelActive t.devRef [t.tick.cycle.toNat, m.entries.length, m.binds.length]).done 0x0201 k.hdr stOk

/-- Planning boundaries since the module was accepted, this one included; the first suspended the user stages. -/
def State.kernelBoundaries (s : State) (k : KernelLoad) : Nat := (s.tick.no - k.accepted + 31) / 32

def execKernelActive (s : State) : Out :=
  .next (match s.lanes.loads with
    | k :: _ =>
      if k.suspended && s.boundary && decide (2 ≤ s.kernelBoundaries k) then s.activateKernel k else s
    | [] => s)

/-- A planning boundary: at the first after acceptance user stages are suspended, at the eighth the module is active. -/
def State.kernelBoundary (s : State) : State :=
  let t := s.forEach (s.lanes.loads.filter fun k => k.suspended && decide (8 ≤ s.kernelBoundaries k)) State.activateKernel
  t.modLanes fun x => { x with loads := x.loads.map fun k => { k with suspended := true } }

end Sys2Proof.Machine
end

