-- ==== Sys2Proof/Machine/Capacity.lean ====
section
/-!
DEFINITION. Capacity changes at step 3 of a planning boundary (R471 to R477): migration, removing and returning groups,
half rate by choice.
-/
namespace Sys2Proof.Machine

/-! ### GROUP_REMOVE (R474) -/

def State.axisRemoved (s : State) (a : Nat) : Bool := s.health.removed.contains a

/-- The conditions that every axis below a group that is removed meets. -/
def State.removable (s : State) (a : Nat) : Bool :=
  let x := s.axis a
  s.axisRemoved a ||
  (s.axisState a = stDisabled && s.inSto a && decide (x.lp.vFb.natAbs ≤ s.pU 0x1024 a) && x.bound.isNone &&
    x.home.run.isNone && !(s.lanes.sweeps.any fun w => w.axis = a))

/-- Local nodes whose axes all lie in a list. -/
def State.nodesWithin (s : State) (ax : List Nat) : List Nat :=
  (upTo 64).filter fun n => !(s.nodeAxes n).isEmpty && (s.nodeAxes n).all fun a => ax.contains a

/-- A node is released: muted, its spare slots returned, its own slots kept for it. -/
def State.releaseNode (s : State) (n : Nat) : State :=
  (s.dropSends n).modNode n fun x =>
    { ({ x with goneNext := false, sends := [], service := [] } : NodeSt).departed with mute := true, released := true, left := false }

/-- Waiting requests for removed axes end with ST_ABORTED. -/
def State.abortRequests (s : State) (ax : List Nat) : State :=
  let hit := fun (r : SupReq) => match r.kind with
    | .enable _ l => l.any fun a => ax.contains a
    | _ => false
  let t := s.modSupply fun x => { x with reqs := x.reqs.filter fun r => !hit r }
  t.forEach (s.supply.reqs.filter hit) fun u r => match r.kind with
    | .enable h _ => u.done 0x0105 h stAborted
    | _ => u

def State.removeGroup (s : State) (h : Hdr) (g : Nat) : State :=
  let ax := s.localAxes (mkRef clsGroup g)
  let nodes := s.nodesWithin ax
  if g % 256 = 0 ∨ g / 256 ≠ s.dev then s.done 0x0221 h stNotAllowed
  else if ax.all s.axisRemoved then s.done 0x0221 h stNoEffect
  else match ax.find? fun a => !s.removable a with
    | some a => s.complete 0x0221 h stBusy (mkRef clsAxis a) 0
    | none =>
      let t := (s.forEach ax State.freeAxisSlot).modHealth fun x => { x with
        removed := dedup (x.removed ++ ax), absent := x.absent.filter fun a => !ax.contains a }
      let t := (t.abortRequests ax).forEach nodes State.releaseNode
      (t.emit evGroupRemoved (mkRef clsGroup g) [nodes.length]).done 0x0221 h stOk

/-! ### GROUP_ADD (R475) -/

/-- The axis can be placed at once: it is on a local port, or on a node that has stayed in service for others. -/
def State.placeable (s : State) (a : Nat) : Bool :=
  (s.axisPort a).isSome || (s.axisNode a).any fun p => (s.node p.1).placed

/-- The axes of a returned group; those whose port or node is in service are placed at once (R473, R475). -/
def State.addGroup (s : State) (h : Hdr) (g : Nat) : State :=
  let ax := (s.localAxes (mkRef clsGroup g)).filter s.axisRemoved
  if ax.isEmpty then s.done 0x0220 h stNoEffect
  else
    let nodes := (upTo 64).filter fun n => (s.node n).released && (s.nodeAxes n).any fun a => ax.contains a
    let t := s.modHealth fun x => { x with removed := x.removed.filter fun a => !ax.contains a }
    let t := t.forEach nodes fun u n => u.modNode n fun x => { x with mute := false, released := false }
    let arms := (s.groupsBelow (mkRef clsGroup g)).filter fun k => s.armList.contains k
    let t := t.forEach arms fun u k => u.modArm k fun x => { x with isNew := true }
    let t := (sortNat (ax.filter t.placeable)).foldl State.placeAxis t
    (t.emit evGroupAdded (mkRef clsGroup g) []).done 0x0220 h stOk

/-! ### GROUP_HALF_RATE (R477) -/

/-- Lanes keep to their limits with these axes back at full rate. -/
def State.fullRateFits (s : State) (ax : List Nat) : Bool :=
  laneNos.all fun l =>
    let held := (s.logLane l).held
    !(held.any fun e => ax.contains e.2) ||
      (!(s.logLane l).wide && s.slotsFit s.laneSteps (fun a => !ax.contains a && s.axisHalf a) held)

def State.halfRateOn (s : State) (g : Nat) (ax : List Nat) : State :=
  s.modHealth fun x => { x with halfAxes := dedup (x.halfAxes ++ ax), halfGroups := tblSet x.halfGroups g true }

def State.halfRate (s : State) (h : Hdr) (g : Nat) (on : Bool) : State :=
  let ax := s.localAxes (mkRef clsGroup g)
  if ax.isEmpty then s.done 0x0223 h stNoEffect
  else if on then (s.halfRateOn g ax).done 0x0223 h stOk
  else if s.fullRateFits ax then
    (s.modHealth fun x => { x with
      halfAxes := x.halfAxes.filter fun a => !ax.contains a, halfGroups := tblSet x.halfGroups g false }).done 0x0223 h stOk
  else s.done 0x0223 h stNoLane

/-! ### Step 3 -/

def State.applyChange (s : State) (c : CapChange) : State :=
  match c with
  | .migrate h a l => s.migrateNow h a l
  | .remove h g => s.removeGroup h g
  | .add h g => s.addGroup h g
  | .half h g on => s.halfRate h g on

/-- The changes that wait are made, in acceptance order. -/
def State.applyChanges (s : State) : State :=
  (s.modHealth fun x => { x with changes := [] }).forEach s.health.changes State.applyChange

/-- A capacity command waits for the next planning boundary, and acts at once in one. -/
def State.capacity (s : State) (h : Hdr) (c : CapChange) : State :=
  if s.boundary then s.applyChange c
  else (s.begin h).modHealth fun x => { x with changes := x.changes ++ [c] }

def execGroupAdd (h : Hdr) (s : State) : Out := .next (s.capacity h (.add h (refIndex h.obj)))

def execGroupRemove (h : Hdr) (s : State) : Out := .next (s.capacity h (.remove h (refIndex h.obj)))

def execAxisMigrate (h : Hdr) (lane : Byte) (s : State) : Out :=
  .next (if 15 < lane.toNat then s.done 0x0222 h stArg
    else s.capacity h (.migrate (some h) (refIndex h.obj) lane.toNat))

def execGroupHalfRate (h : Hdr) (on : Word) (s : State) : Out :=
  .next (if 1 < on.toNat then s.done 0x0223 h stArg else s.capacity h (.half h (refIndex h.obj) (on = 1)))

end Sys2Proof.Machine
end

