-- ==== Sys2Proof/Machine/Descriptor.lean ====
section
/-!
DEFINITION. Command descriptors (R414, R418, R446): the catalogue of Table 15.5, the argument block of every command, and the
form checks made at acceptance.
-/
namespace Sys2Proof.Machine

/-- A row of Table 15.5: opcode, ring (4 for any), classes of object, argument size. No class: any object (R418). -/
structure CmdRow where
  op : Nat
  ring : Nat
  classes : List Nat
  size : Nat
  onMember : Bool := false        -- marked B
  deriving DecidableEq, Repr

def cmdRows : List CmdRow :=
  [{ op := 0x0001, ring := 0, classes := [0], size := 0, onMember := true },
   { op := 0x0002, ring := 0, classes := [0], size := 0, onMember := true },
   { op := 0x0003, ring := 0, classes := [], size := 16 },
   { op := 0x0004, ring := 0, classes := [0], size := 0, onMember := true },
   { op := 0x0005, ring := 0, classes := [0], size := 0, onMember := true },
   { op := 0x0006, ring := 0, classes := [2], size := 0 },
   { op := 0x0007, ring := 0, classes := [0], size := 16, onMember := true },
   { op := 0x0010, ring := 0, classes := [0], size := 8 },
   { op := 0x0011, ring := 0, classes := [3], size := 8 },
   { op := 0x0012, ring := 0, classes := [0], size := 0 },
   { op := 0x0013, ring := 0, classes := [4, 0], size := 0 },
   { op := 0x0014, ring := 0, classes := [4], size := 8 },
   { op := 0x0015, ring := 0, classes := [3], size := 8 }] ++
  [{ op := 0x0101, ring := 1, classes := [1, 3], size := 24 },
   { op := 0x0102, ring := 1, classes := [1, 3], size := 0 },
   { op := 0x0103, ring := 1, classes := [1, 3], size := 0 },
   { op := 0x0104, ring := 1, classes := [1], size := 0 },
   { op := 0x0105, ring := 1, classes := [1, 3], size := 0 },
   { op := 0x0106, ring := 1, classes := [1, 3], size := 0 },
   { op := 0x0107, ring := 1, classes := [1, 3], size := 0 },
   { op := 0x0108, ring := 1, classes := [9], size := 8 },
   { op := 0x0109, ring := 1, classes := [1], size := 24 },
   { op := 0x010A, ring := 1, classes := [2], size := 0 },
   { op := 0x010B, ring := 1, classes := [2], size := 0 }] ++
  [{ op := 0x0201, ring := 2, classes := [0], size := 8 },
   { op := 0x0202, ring := 2, classes := [7], size := 8 },
   { op := 0x0203, ring := 2, classes := [7], size := 0 },
   { op := 0x0204, ring := 2, classes := [7], size := 8 },
   { op := 0x0205, ring := 2, classes := [7], size := 16 },
   { op := 0x0206, ring := 2, classes := [2], size := 8 },
   { op := 0x0210, ring := 2, classes := [10], size := 8 },
   { op := 0x0211, ring := 2, classes := [10], size := 80 },
   { op := 0x0212, ring := 2, classes := [10], size := 8 },
   { op := 0x0213, ring := 2, classes := [10], size := 8 },
   { op := 0x0214, ring := 2, classes := [10], size := 0 },
   { op := 0x0220, ring := 2, classes := [3], size := 0 },
   { op := 0x0221, ring := 2, classes := [3], size := 0 },
   { op := 0x0222, ring := 2, classes := [1], size := 8 },
   { op := 0x0223, ring := 2, classes := [3], size := 8 }] ++
  [{ op := 0x0301, ring := 3, classes := [], size := 8 },
   { op := 0x0302, ring := 3, classes := [0], size := 8 },
   { op := 0x0303, ring := 3, classes := [0], size := 16 },
   { op := 0x0F01, ring := 4, classes := [], size := 16 }]

def cmdRow (op : Nat) : Option CmdRow := cmdRows.find? fun r => r.op = op

/-! ### Argument blocks -/

def w16At (l : List Byte) (o : Nat) : Word16 := BitVec.ofNat 16 (fieldAt l o 2)
def w32At (l : List Byte) (o : Nat) : Word := BitVec.ofNat 32 (fieldAt l o 4)
def w64At (l : List Byte) (o : Nat) : Word64 := BitVec.ofNat 64 (fieldAt l o 8)

/-- The command, if its reserved bytes are 0 and its fields keep to the range their block states. -/
def onlyIf (ok : Bool) (c : Instr) : Option Instr := if ok then some c else none

/-- Ring 0. -/
def argsService (op : Nat) (h : Hdr) (a : List Byte) : Option Instr :=
  match op with
  | 0x0001 => some (.identify h)
  | 0x0002 => some (.linkStatus h)
  | 0x0003 => onlyIf (zeroAt a 2 6) (.paramWrite h (w16At a 0) (w64At a 8))
  | 0x0004 => some (.deviceRun h)
  | 0x0005 => some (.selideStart h)
  | 0x0006 => some (.nodeUnmute h)
  | 0x0007 => onlyIf (zeroAt a 12 4) (.timeSet h (w64At a 0) (w32At a 8))
  | 0x0010 => onlyIf (zeroAt a 4 4) (.safeArm h (w32At a 0))
  | 0x0011 => onlyIf (zeroAt a 4 4) (.safeArmGroup h (w32At a 0))
  | 0x0012 => some (.safeDisarm h)
  | 0x0013 => some (.safeReset h)
  | 0x0014 => onlyIf (zeroAt a 4 4 && decide (fieldAt a 0 4 ≤ 2)) (.safeStop h (w32At a 0))
  | 0x0015 => onlyIf (zeroAt a 4 4 && decide (fieldAt a 0 4 ≤ 1)) (.safeSls h (w32At a 0))
  | _ => none

/-- The targets of MOVE (Table 4.2). -/
def moveArgs (a : List Byte) : MoveArgs :=
  { segId := w32At a 0, flags := w32At a 4, vStart := w32At a 8, vStop := w32At a 12
    targets := (upTo (fieldAt a 16 2)).map fun k => sfieldAt a (24 + 8 * k) 8 }

/-- Ring 1. Ranges of SWEEP are checked at its effect, where its chapter gives ST_RANGE. -/
def argsMotion (op : Nat) (h : Hdr) (a : List Byte) : Option Instr :=
  match op with
  | 0x0101 => onlyIf (zeroAt a 18 6 && decide (fieldAt a 4 4 < 4) && decide (1 ≤ fieldAt a 16 2) && decide (fieldAt a 16 2 ≤ 16))
      (.move h (moveArgs a))
  | 0x0102 => some (.halt h)
  | 0x0103 => some (.home h)
  | 0x0104 => some (.align h)
  | 0x0105 => some (.axisEnable h)
  | 0x0106 => some (.axisDisable h)
  | 0x0107 => some (.faultReset h)
  | 0x0108 => onlyIf (zeroAt a 6 2 && fieldAt a 0 4 % 8 = 0 && decide (1 ≤ fieldAt a 4 2) && decide (fieldAt a 4 2 ≤ 1024))
      (.cmpLoad h (w32At a 0) (w16At a 4))
  | 0x0109 => some (.sweep h { fStart := w32At a 0, fEnd := w32At a 4, ampl := w16At a 8, decim := w16At a 10,
                               duration := w32At a 12, winOffset := w32At a 16, winLength := w32At a 20 })
  | 0x010A => some (.nodeWake h)
  | 0x010B => some (.nodeSleep h)
  | _ => none

/-- CAN_SEND (Table 13.4). -/
def canMsgArgs (a : List Byte) : CanMsg :=
  { tag := w32At a 0, id := w32At a 4, flags := BitVec.ofNat 8 (fieldAt a 8 1), dlc := BitVec.ofNat 8 (fieldAt a 9 1)
    data := slice a 16 64 }

/-- Ring 2. -/
def argsBulk (op : Nat) (h : Hdr) (a : List Byte) : Option Instr :=
  match op with
  | 0x0201 => some (.imageLoad h (w32At a 0) (w32At a 4))
  | 0x0202 => some (.structLoad h (w32At a 0) (w32At a 4))
  | 0x0203 => some (.structDrop h)
  | 0x0204 => onlyIf (zeroAt a 4 4) (.solverSelect h (w32At a 0))
  | 0x0205 => onlyIf (zeroAt a 12 4 && decide (1 ≤ fieldAt a 4 4) && decide (fieldAt a 4 4 ≤ 65536))
      (.solverUpdate h (w32At a 0) (w32At a 4) (w32At a 8))
  | 0x0206 => onlyIf (zeroAt a 6 2 && decide (1 ≤ fieldAt a 4 2)) (.nodeSend h (w32At a 0) (w16At a 4))
  | 0x0210 => onlyIf (zeroAt a 4 4 && decide (fieldAt a 0 4 ≤ 3)) (.canMode h (w32At a 0))
  | 0x0211 => onlyIf (zeroAt a 10 6 && decide (fieldAt a 8 1 < 8) && decide (fieldAt a 9 1 ≤ 15) && !bitN (fieldAt a 4 4) 31)
      (.canSend h (canMsgArgs a))
  | 0x0212 => onlyIf (zeroAt a 4 4) (.canCancel h (w32At a 0))
  | 0x0213 => onlyIf (zeroAt a 4 4 && (fieldAt a 0 4 = 1 || fieldAt a 0 4 = 2)) (.canAbd h (w32At a 0))
  | 0x0214 => some (.canRecover h)
  | 0x0220 => some (.groupAdd h)
  | 0x0221 => some (.groupRemove h)
  | 0x0222 => onlyIf (zeroAt a 1 7 && decide (fieldAt a 0 1 ≤ 15)) (.axisMigrate h (BitVec.ofNat 8 (fieldAt a 0 1)))
  | 0x0223 => onlyIf (zeroAt a 4 4 && decide (fieldAt a 0 4 ≤ 1)) (.groupHalfRate h (w32At a 0))
  | _ => none

/-- Start and size of the staging area (Table 14.8). -/
def stagingBase : Nat := 0x80000

/-- Ring 3, and ABORT. -/
def argsDiag (op : Nat) (h : Hdr) (a : List Byte) : Option Instr :=
  match op with
  | 0x0301 => onlyIf (zeroAt a 4 4 && decide (fieldAt a 2 2 ≤ 1)) (.paramRead h (w16At a 0) (fieldAt a 2 2 = 1))
  | 0x0302 => onlyIf (zeroAt a 2 6) (.paramInfo h (w16At a 0))
  | 0x0303 => onlyIf (zeroAt a 14 2 && fieldAt a 8 4 % 64 = 0 && decide (1 ≤ fieldAt a 12 2) && decide (fieldAt a 12 2 ≤ 16384) &&
        decide (stagingBase ≤ fieldAt a 8 4) && decide (fieldAt a 8 4 + 64 * fieldAt a 12 2 ≤ winBytes))
      (.recRead h (w64At a 0) (w32At a 8) (w16At a 12))
  | 0x0F01 => onlyIf (zeroAt a 9 7 && decide (fieldAt a 8 1 ≤ 3)) (.abort h (w64At a 0) (BitVec.ofNat 8 (fieldAt a 8 1)))
  | _ => none

/-- The command that an argument block spells, none where it is malformed. -/
def argsOf (op : Nat) (h : Hdr) (a : List Byte) : Option Instr :=
  match op / 256 with
  | 0 => argsService op h a
  | 1 => argsMotion op h a
  | 2 => argsBulk op h a
  | _ => argsDiag op h a

/-! ### The descriptor (Table 14.11) -/

structure Descriptor where
  tag : Word64
  op : Nat
  flags : Nat
  obj : Word
  effectAt : Word
  argLen : Nat
  reservedOk : Bool
  arg : List Byte
  deriving DecidableEq, Repr

def descriptorOf (d : List Byte) : Descriptor :=
  { tag := w64At d 0, op := fieldAt d 8 2, flags := fieldAt d 10 2, obj := w32At d 12, effectAt := w32At d 16
    argLen := fieldAt d 20 2, reservedOk := zeroAt d 22 10, arg := slice d 32 224 }

/-- Argument size of a command (R418). -/
def argSize (r : CmdRow) (a : List Byte) : Nat := if r.op = 0x0101 then 24 + 8 * fieldAt a 16 2 else r.size

/-- Ticks from now to EFFECT_AT, as a signed 32-bit value (R419). -/
def State.ticksTo (s : State) (effectAt : Word) : Int := (effectAt - s.tick.cycle).toInt

/-- A linked cell-link member (R27). -/
def State.linkedMember (s : State) : Bool := s.isMember && s.link.joined

/-- R27, R418, R446: what a linked member answers before the other checks. -/
def State.memberRefuses (s : State) (ring : Nat) (r : Option CmdRow) : Bool :=
  s.linkedMember && (ring = 1 || ring = 2 || (ring = 0 && (match r with
    | some x => !x.onMember && (x.ring = 0 || x.ring = 4)
    | none => false)))

/-- R418: the status of a descriptor whose form fails, in its order, or the command it spells. -/
def State.formCheck (s : State) (ring : Fin 4) (d : Descriptor) (poisoned : Bool) : Nat × Option Instr :=
  let row := cmdRow d.op
  let h : Hdr := { ring := ring, tag := d.tag, obj := d.obj }
  if s.memberRefuses ring.val row then (stLinkMember, none)
  else match row with
    | none => (stBadOpcode, none)
    | some r =>
      if r.ring ≠ 4 ∧ r.ring ≠ ring.val then (stWrongRing, none)
      else if s.host.inflight.any fun e => e.hdr.ring = ring && e.hdr.tag = d.tag && !e.orphan then (stDupTag, none)
      else if !d.reservedOk ∨ 3 < d.flags ∨ 224 < d.argLen ∨ d.argLen < argSize r d.arg ∨ poisoned then (stArg, none)
      else match argsOf d.op h d.arg with
        | none => (stArg, none)
        | some c =>
          if d.op ≠ 0x0F01 ∧ (!s.objOk d.obj ∨ (!r.classes.isEmpty ∧ !r.classes.contains (refClass d.obj))) then
            (stBadObject, none)
          else if bitN d.flags 1 ∧ 3840000 < s.ticksTo d.effectAt then (stRange, none)
          else (stOk, some c)

end Sys2Proof.Machine
end

