-- ==== Sys2Proof/Machine/SolverImage.lean ====
section
/-!
DEFINITION. Resident structures of the coordination solver (R188 to R194, R206): the STRUCTURE image, its checks, the
symbolic factorisation, the pool, and the commands of Table 7.8.
-/
namespace Sys2Proof.Machine

/-! ### Parsing (R188) -/

/-- A STRUCTURE image as its records spell it. -/
structure StructImg where
  handle : Word
  head : List Byte
  st : Struct
  reserved : Bool
  orderObj : Word
  entryObjs : List Word           -- OBJ of the PENTRY and ROW records
  armObjs : List Word             -- OBJ and GROUP_B of the PAIRBLOCK records, NONE apart
  orderK : Nat
  deriving DecidableEq, Repr

def f64At (l : List Byte) (off : Nat) : Word64 := BitVec.ofNat 64 (fieldAt l off 8)

/-- The entries of a ROW record: column, reserved field, value. -/
def rowEntries (b : List Byte) : List (Nat × Nat × Word64) :=
  (upTo (fieldAt b 4 2)).map fun k => (fieldAt b (24 + 12 * k) 2, fieldAt b (26 + 12 * k) 2, f64At b (28 + 12 * k))

/-- Types never fall and each body has its record's length. -/
def structForm (rs : List ImgRec) : Bool :=
  let types := rs.map fun r => r.rtype
  (types.zip (types.drop 1)).all (fun p => decide (p.1 ≤ p.2)) &&
  (recsOf rs 0x0201).length = 1 && (recsOf rs 0x0206).length = 1 &&
  rs.all fun r =>
    match r.rtype with
    | 0x0201 => r.body.length = 24
    | 0x0202 => r.body.length = 32
    | 0x0203 => r.body.length = 16
    | 0x0204 => r.body.length = 24 + 12 * fieldAt r.body 4 2
    | 0x0205 => r.body.length = 16
    | 0x0206 => r.body.length = 12 + 4 * fieldAt r.body 0 4
    | _ => false

def structReserved (rs : List ImgRec) : Bool :=
  rs.all fun r =>
    match r.rtype with
    | 0x0201 => zeroAt r.body 14 10
    | 0x0202 => zeroAt r.body 5 3
    | 0x0203 => zeroAt r.body 4 4
    | 0x0204 => zeroAt r.body 6 2 && (rowEntries r.body).all fun e => e.2.1 = 0
    | 0x0205 => zeroAt r.body 6 10
    | _ => zeroAt r.body 4 4 && zeroAt r.body (8 + 4 * fieldAt r.body 0 4) 4

def parseStruct (gen : Word) (rs : List ImgRec) : StructImg :=
  let vars := recsOf rs 0x0202
  let rows := recsOf rs 0x0204
  let head := (recsOf rs 0x0201).headD { rtype := 0, obj := 0, body := [] }
  let ord := (recsOf rs 0x0206).headD { rtype := 0, obj := 0, body := [] }
  let k := fieldAt ord.body 0 4
  { handle := head.obj, head := head.body, reserved := structReserved rs, orderObj := ord.obj, orderK := k,
    entryObjs := ((recsOf rs 0x0203) ++ rows).map fun r => r.obj
    armObjs := (recsOf rs 0x0205).flatMap fun r =>
      let b := BitVec.ofNat 32 (fieldAt r.body 0 4)
      if b = noRef then [r.obj] else [r.obj, b]
    st := {
      generation := gen
      vars := vars.map fun r => { tag := fieldAt r.body 0 4, kind := fieldAt r.body 4 1, obj := r.obj }
      pents := (recsOf rs 0x0203).map fun r => (fieldAt r.body 0 2, fieldAt r.body 2 2)
      rows := rows.map fun r => { tag := fieldAt r.body 0 4, cols := (rowEntries r.body).map fun e => e.1 }
      blocks := (recsOf rs 0x0205).map fun r =>
        { armA := refIndex r.obj, count := fieldAt r.body 4 2,
          armB := if fieldAt r.body 0 4 = 0xFFFFFFFF then none else some (fieldAt r.body 0 4 % 65536) }
      perm := (upTo k).map fun j => fieldAt ord.body (8 + 4 * j) 4
      vals := {
        p := (recsOf rs 0x0203).map fun r => f64At r.body 8
        q := vars.map fun r => f64At r.body 24
        a := rows.flatMap fun r => (rowEntries r.body).map fun e => e.2.2
        l := rows.map fun r => f64At r.body 8
        u := rows.map fun r => f64At r.body 16
        lb := vars.map fun r => f64At r.body 8
        ub := vars.map fun r => f64At r.body 16 } } }

/-! ### Checks (R189) -/

/-- Value of a binary64 word, infinities as ±2¹⁰²⁴. -/
def f64Val (w : Word64) : Rat :=
  if f64IsPosInf w then ((2 ^ 1024 : Nat) : Rat) else if f64IsNegInf w then -((2 ^ 1024 : Nat) : Rat) else ofF64 w

/-- Bounds that are in order, and inside 0 to 1 for a SIGMA variable. -/
def boundsOk (vars : List VarRec) (v : StructVals) : Bool :=
  ((v.l.zip v.u).all fun p => decide (f64Val p.1 ≤ f64Val p.2)) &&
  ((vars.zip (v.lb.zip v.ub)).all fun p => decide (f64Val p.2.1 ≤ f64Val p.2.2) &&
    (p.1.kind ≠ 1 || (decide (0 ≤ f64Val p.2.1) && decide (f64Val p.2.2 ≤ 1))))

def valuesOk (v : StructVals) : Bool :=
  ((v.p ++ v.q ++ v.a).all fun w => f64Finite w) && ((v.l ++ v.u ++ v.lb ++ v.ub).all fun w => !f64IsNan w)

/-- The variable of a kind attached to an object. -/
def Struct.varOf (x : Struct) (kind : Nat) (w : Word) : Option Nat :=
  ((x.vars.zip (upTo x.vars.length)).find? fun p => p.1.kind = kind && p.1.obj = w).map fun p => p.2

/-- The objects that the image names. -/
def structObjects (x : StructImg) : List Word :=
  [x.handle, x.orderObj] ++ (x.st.vars.map fun v => v.obj) ++ x.entryObjs ++ x.armObjs

def blockArms (b : BlockRec) : List Nat := [b.armA] ++ (match b.armB with | some g => [g] | none => [])

/-- The two arms of a block, in one order; NONE counts as 65,536. -/
def blockKey (b : BlockRec) : Nat × Nat :=
  let g := b.armB.getD 65536
  if b.armA ≤ g then (b.armA, g) else (g, b.armA)

def State.armColumnsOk (s : State) (x : Struct) (g : Nat) : Bool :=
  s.armList.contains g && (x.varOf 1 (mkRef clsGroup g)).isSome &&
  (!s.redundantAt (mkRef clsGroup g) || (s.localAxes (mkRef clsGroup g)).all fun a => (x.varOf 2 (mkRef clsAxis a)).isSome)

def nonzeroTags (l : List Nat) : List Nat := l.filter fun t => t ≠ 0

/-- R189 after the form and the objects. -/
def State.structOk (s : State) (x : StructImg) : Bool :=
  let y := x.st
  let nv := y.vars.length
  x.reserved && fieldAt x.head 0 2 = nv && fieldAt x.head 2 2 = y.rows.length && fieldAt x.head 4 4 = y.pents.length &&
  fieldAt x.head 8 4 = y.vals.a.length && fieldAt x.head 12 2 = y.blocks.length &&
  decide (1 ≤ nv) && decide (nv ≤ 4096) && decide (y.rows.length ≤ 6144) && decide (y.blocks.length ≤ 2048) &&
  refClass x.handle = clsStruct && x.orderObj = x.handle &&
  (y.vars.all fun v => match v.kind with
    | 1 => refClass v.obj = clsGroup
    | 2 => refClass v.obj = clsAxis && s.redundantAt v.obj
    | 3 => v.obj = s.devRef
    | _ => false) &&
  (x.entryObjs.all fun w => w = s.devRef) && (x.armObjs.all fun w => refClass w = clsGroup) &&
  noDup ((y.vars.filter fun v => v.kind ≠ 3).map fun v => v.obj) &&
  boundsOk y.vars y.vals && valuesOk y.vals &&
  (y.pents.all fun p => decide (p.1 ≤ p.2) && decide (p.2 < nv)) && noDup y.pents &&
  (y.rows.all fun r => decide (1 ≤ r.cols.length) && decide (r.cols.length ≤ 4096) && (r.cols.all fun c => decide (c < nv)) &&
    ((r.cols.zip (r.cols.drop 1)).all fun p => decide (p.1 < p.2))) &&
  noDup (nonzeroTags (y.vars.map fun v => v.tag)) && noDup (nonzeroTags (y.rows.map fun r => r.tag)) &&
  (y.blocks.foldl (fun n b => n + b.count) 0 = 2048) && (y.blocks.all fun b => decide (1 ≤ b.count)) &&
  noDup (y.blocks.map blockKey) && (y.blocks.all fun b => (blockArms b).all (s.armColumnsOk y)) &&
  x.orderK = 2 * nv + y.rows.length + 2048 && (y.perm.all fun k => decide (k < x.orderK)) && noDup y.perm

/-! ### Symbolic factorisation (R190) -/

/-- Variables that a row of a block has columns for (R186): SIGMA of each arm, then DV of redundant arms in joint order. -/
def State.blockCols (s : State) (x : Struct) (b : BlockRec) : List Nat :=
  let arms := blockArms b
  arms.filterMap (fun g => x.varOf 1 (mkRef clsGroup g)) ++
    arms.flatMap fun g => if s.redundantAt (mkRef clsGroup g) then
      (s.localAxes (mkRef clsGroup g)).filterMap fun a => x.varOf 2 (mkRef clsAxis a) else []

/-- The columns of every pair row. -/
def State.pairCols (s : State) (x : Struct) : List (List Nat) :=
  x.blocks.flatMap fun b => List.replicate b.count (s.blockCols x b)

def State.nnzK (s : State) (x : Struct) : Nat :=
  x.pents.length + x.vals.a.length + x.vars.length + (s.pairCols x).foldl (fun n c => n + c.length) 0

/-- The off-diagonal pattern of the KKT matrix, as pairs of its indices. -/
def State.kktEdges (s : State) (x : Struct) : List (Nat × Nat) :=
  let nv := x.vars.length
  let rows := (x.rows.map fun r => r.cols) ++ s.pairCols x ++ (upTo nv).map fun v => [v]
  (x.pents.filter fun p => p.1 ≠ p.2) ++
    (rows.zip (upTo rows.length)).flatMap fun r => r.1.map fun c => (c, nv + r.2)

/-- Nonzeros below the unit diagonal of L, eliminating in order: each place passes its later neighbours to the first. -/
def fillCount (n : Nat) (sets : Array (List Nat)) : Nat :=
  ((upTo n).foldl (fun (st : Array (List Nat) × Nat) k =>
    let later := dedup (sortNat (st.1.getD k []))
    match later with
    | [] => st
    | j :: r => (st.1.modify j (fun l => r ++ l), st.2 + r.length + 1)) (sets, 0)).2

def State.nnzL (s : State) (x : Struct) : Nat :=
  let n := x.perm.length
  let place := (x.perm.zip (upTo n)).foldl (fun (a : Array Nat) p => a.setIfInBounds p.1 p.2) (Array.replicate n 0)
  let sets := (s.kktEdges x).foldl (fun (a : Array (List Nat)) e =>
    let i := place.getD e.1 0
    let j := place.getD e.2 0
    a.modify (Nat.min i j) fun l => Nat.max i j :: l) (Array.replicate n [])
  fillCount n sets

def poolSize : Nat := 16515072

def structFootprint (nnzL nnzK nv nr : Nat) : Nat := 12 * (nnzL + nnzK) + 64 * (nv + (nr + 2048 + nv))

/-- Bytes of the pool held by the structures in handles other than `h`, those in analysis included. -/
def State.poolUsed (s : State) (h : Option Nat) : Nat :=
  let held := (s.solver.structs.filter fun p => some p.1 ≠ h && !(s.solver.loading.any fun l => l.handle = p.1)).foldl
    (fun n p => n + (p.2.map fun x => x.footprint).getD 0) 0
  held + (s.solver.loading.filter fun l => some l.handle ≠ h).foldl (fun n l => n + l.image.footprint) 0

def State.poolFree (s : State) : Nat :=
  poolSize - s.solver.structs.foldl (fun n p => n + (p.2.map fun x => x.footprint).getD 0) 0

/-! ### Commands (R191 to R194) -/

/-- The handle is selected while SOLVER_ENABLE is ON. -/
def State.handleBusy (s : State) (h : Nat) : Bool := s.solver.selected = some h && s.pU 0x6001 s.dev = 1

def State.structFits (s : State) (h : Nat) (x : Struct) : Bool :=
  let nv := x.vars.length
  let nr := x.rows.length
  decide (nr + 2048 + nv ≤ 8192) && decide (s.nnzK x ≤ 262144) && decide (s.nnzL x ≤ 1048576) &&
    decide (structFootprint (s.nnzL x) (s.nnzK x) nv nr ≤ poolSize - s.poolUsed (some h))

/-- The analysed structure, with its estimates (log entry 10). -/
def State.analysed (s : State) (x : Struct) : Struct :=
  { x with
    nnzK := s.nnzK x, nnzL := s.nnzL x
    footprint := structFootprint (s.nnzL x) (s.nnzK x) x.vars.length x.rows.length
    factorEst := Config.solverEstimate s.free, iterEst := Config.solverEstimate (s.free + 1) }

def State.structLoadOp (s : State) (h : Hdr) (off len : Nat) : State :=
  let op := 0x0202
  let k := refIndex h.obj % 4
  let img := s.winRead off len
  let e := imageHeaderError s.dev img len
  let gen := imageGen img
  if s.handleBusy k then s.done op h stBusy
  else if winBytes < off + len then s.done op h stArg
  else if !s.winOk off len then s.done op h stBadImage
  else if e ≠ 0 then s.done op h e
  else if imageKind img ≠ 5 then s.done op h stBadImage
  else if !s.cell.loaded then s.done op h stIncomplete
  else match imageRecs img with
    | none => s.done op h stBadImage
    | some rs =>
      let x := parseStruct gen rs
      if !structForm rs then s.done op h stBadImage
      else if !((structObjects x).all s.objOk) then s.done op h stBadObject
      else if !(s.structOk x && x.handle = h.obj) then s.done op h stBadImage
      else if gen.toNat + 1 ≤ tblGet 0 s.solver.highGen k then s.done op h stStale
      else if !s.structFits k x.st then s.done op h stCapacity
      else { ((s.begin h).modSolver fun y => { y with
          loading := y.loading ++ [{ hdr := h, handle := k, image := s.analysed x.st }] }) with free := s.free + 2 }

def execStructLoad (h : Hdr) (winOffset length : Word) (s : State) : Out :=
  .next (s.structLoadOp h winOffset.toNat length.toNat)

def State.structRef (s : State) (k : Nat) : Word := mkRef clsStruct (s.dev * 4 + k)

/-- FACTOR_EST exceeds SOLVE_DEADLINE − 60 µs (R206). -/
def State.factorSlow (s : State) (k : Nat) : State :=
  match s.struct? k with
  | some x =>
    if s.pU 0x6002 s.dev < x.factorEst + 60 then
      s.emit evFactorSlow (s.structRef k) [x.factorEst, s.pU 0x6002 s.dev]
    else s
  | none => s

/-- An analysis ends: the image becomes resident, unless the handle has meanwhile held its generation or a later one
through an earlier load (R192). -/
def State.structResident (s : State) (l : StructLoading) (rest : List StructLoading) : State :=
  if l.image.generation.toNat + 1 ≤ tblGet 0 s.solver.highGen l.handle then
    (s.modSolver fun y => { y with loading := rest }).done 0x0202 l.hdr stStale
  else
    let t := s.modSolver fun y => { y with
      loading := rest, structs := tblSet y.structs l.handle (some l.image)
      highGen := tblSet y.highGen l.handle (l.image.generation.toNat + 1) }
    ((t.emit evStructLoaded (s.structRef l.handle) [l.image.generation.toNat, l.image.footprint]).factorSlow l.handle).done
      0x0202 l.hdr stOk

/-- The oldest analysis completes. -/
def execStructLoaded (s : State) : Out :=
  .next (match s.solver.loading with
    | l :: rest => s.structResident l rest
    | [] => s)

/-- R191: the handle is freed; it stays the selected one if the last SOLVER_SELECT names it. -/
def execStructDrop (h : Hdr) (s : State) : Out :=
  let k := refIndex h.obj % 4
  .next (if s.handleBusy k then s.done 0x0203 h stBusy
    else if (s.struct? k).isNone then s.done 0x0203 h stNoStruct
    else (s.modSolver fun y => { y with structs := tblSet y.structs k none }).done 0x0203 h stOk)

def execSolverSelect (h : Hdr) (generation : Word) (s : State) : Out :=
  let k := refIndex h.obj % 4
  .next (match s.struct? k with
    | none => s.done 0x0204 h stNoStruct
    | some x =>
      if x.generation = generation then (s.modSolver fun y => { y with selected := some k }).done 0x0204 h stOk
      else s.done 0x0204 h stStale)

/-- One entry of SOLVER_UPDATE. -/
structure UpdEntry where
  kind : Nat
  res : Nat
  index : Nat
  value : Word64
  deriving DecidableEq, Repr

def updEntries (l : List Byte) (n : Nat) : List UpdEntry :=
  (upTo n).map fun k => { kind := fieldAt l (16 * k) 1, res := fieldAt l (16 * k + 1) 3, index := fieldAt l (16 * k + 4) 4,
                          value := f64At l (16 * k + 8) }

def updLimit (x : Struct) (kind : Nat) : Nat :=
  match kind with
  | 1 => x.pents.length
  | 2 => x.vars.length
  | 3 => x.vals.a.length
  | 4 => x.rows.length
  | 5 => x.rows.length
  | 6 => x.vars.length
  | 7 => x.vars.length
  | _ => 0

def applyUpd (v : StructVals) (e : UpdEntry) : StructVals :=
  match e.kind with
  | 1 => { v with p := v.p.set e.index e.value }
  | 2 => { v with q := v.q.set e.index e.value }
  | 3 => { v with a := v.a.set e.index e.value }
  | 4 => { v with l := v.l.set e.index e.value }
  | 5 => { v with u := v.u.set e.index e.value }
  | 6 => { v with lb := v.lb.set e.index e.value }
  | _ => { v with ub := v.ub.set e.index e.value }

/-- R193. -/
def State.solverUpdateOp (s : State) (h : Hdr) (generation : Word) (count off : Nat) : State :=
  let op := 0x0205
  let k := refIndex h.obj % 4
  match s.struct? k with
  | none => s.done op h stNoStruct
  | some x =>
    let es := updEntries (s.winRead off (16 * count)) count
    let v := es.foldl applyUpd x.vals
    if x.generation ≠ generation then s.done op h stStale
    else if !s.winOk off (16 * count) then s.done op h stArg
    else if es.any fun e => e.res ≠ 0 || decide (updLimit x e.kind ≤ e.index) then s.done op h stArg
    else if es.any fun e => f64IsNan e.value || (decide (e.kind ≤ 3) && !f64Finite e.value) then s.done op h stRange
    else if !boundsOk x.vars v then s.done op h stRange
    else (s.modSolver fun y => { y with structs := tblSet y.structs k (some { x with vals := v }) }).done op h stOk

def execSolverUpdate (h : Hdr) (generation count winOffset : Word) (s : State) : Out :=
  .next (s.solverUpdateOp h generation count.toNat winOffset.toNat)

end Sys2Proof.Machine
end

