-- ==== Sys2Proof/Machine/Solver.lean ====
section
/-!
DEFINITION. The coordination solver at work (R183 to R187, R195 to R204): the snapshot and the placement of its records,
the warm start, the iterations of R196 in exact arithmetic with every iterate rounded to binary64 (log entry 11), the
ends of a solve, and the use of its result at a planning boundary.
-/
namespace Sys2Proof.Machine

/-! ### v_plan (R183) -/

/-- Metres or radians per turn of an axis. -/
def State.jointUnit (s : State) (a : Nat) : Rat :=
  let lin : Bool := match s.armOf a with
    | some g => match s.chainOf g with
      | some c => ((c.joints.zip (s.armJoints g)).find? fun p => p.2 = a).any fun p => p.1.prismatic
      | none => false
    | none => s.pU 0x1001 a = 1
  if lin then s.scaleLen a else 2 * piQ

/-- Segments that end up to the queue's profile clock end. -/
def State.runEnds (s : State) (q : Word) : Nat → State
  | 0 => s
  | n + 1 =>
    match (s.queue q).plan with
    | some p => if p.over (s.queue q).tau then (s.endSegment q).runEnds q n else s
    | none => s

/-- σ of a queue now active, without the spread over the period that R60 gives it. -/
def State.sigmaActive (s : State) (q : Word) : Rat :=
  if refClass q = clsGroup then mkRat (s.sigmaSt (refIndex q)).new 65536 else 1

/-- The planned velocity of an axis at the middle tick of the next period, rad/s or m/s. -/
def State.planVel (s : State) (a : Nat) : Rat :=
  if s.underSs1 a ∨ s.pU 0x1003 a ≠ 0 then 0
  else match (s.axis a).bound with
    | none => 0
    | some q =>
      let u := (s.modQueue q fun x => { x with tau := x.tau + 48 * s.sigmaActive q * secs s.P }).runEnds q 32
      match (u.queue q).segs, (u.queue q).plan with
      | g :: _, some p =>
        match (g.axes.zip (upTo g.axes.length)).find? fun e => e.1 = a with
        | some e => (p.axisRef g e.2 (u.queue q).tau).2.1 / 65536 * s.jointUnit a
        | none => 0
      | _, _ => 0

/-! ### The snapshot (R175, R176) -/

/-- A constraint row record as the solver reads it. -/
structure RowIn where
  pair : Nat
  armA : Nat
  armB : Option Nat
  d : Rat
  dmin : Rat
  offset : Rat
  ga : List Rat
  gb : List Rat
  deriving DecidableEq, Repr

def RowIn.key (r : RowIn) : Rat := r.d - r.dmin

def readRow (b : List Byte) : RowIn :=
  let g := fieldAt b 10 2
  { pair := fieldAt b 0 4, armA := fieldAt b 8 2, armB := if g = 0xFFFF then none else some g, d := ofF64 (f64At b 16),
    dmin := ofF64 (f64At b 24), offset := ofF64 (f64At b 32), ga := (upTo 16).map fun k => ofF64 (f64At b (48 + 8 * k)),
    gb := (upTo 14).map fun k => ofF64 (f64At b (176 + 8 * k)) }

def insertRowIn (x : RowIn) : List RowIn → List RowIn
  | [] => [x]
  | y :: r => if x.key < y.key ∨ (x.key = y.key ∧ x.pair < y.pair) then x :: y :: r else y :: insertRowIn x r

/-- The records with the smaller D − DMIN of each pair, Madder's on a tie, in the order of selection. -/
def mergeRows (m w : List RowIn) : List RowIn :=
  let pick := m.map fun a => match w.find? fun b => b.pair = a.pair with
    | some b => if b.key < a.key then b else a
    | none => a
  let rest := w.filter fun b => !(m.any fun a => a.pair = b.pair)
  ((pick ++ rest).foldr insertRowIn []).take 2048

/-- The engines whose records are complete and count. -/
def State.rowEngines (s : State) : List Island :=
  s.enginesUsed.filter fun e => (s.eng e).rowsOk && (s.eng e).published

def State.engRows (s : State) (e : Island) : List RowIn :=
  if (s.rowEngines).contains e then ((s.eng e).rows.take 2048).map readRow else []

/-- A group that the solver leaves out (R187): ABSENT, as a removed group is, or a new arm. -/
def State.groupOut (s : State) (g : Nat) : Bool :=
  (s.groupState g).1 = stAbsent || (s.armList.contains g && (s.armAbsent g || (s.armSt g).isNew))

def State.snapshot (s : State) : List RowIn :=
  (mergeRows (s.engRows .madder) (s.engRows .woad)).filter fun r =>
    !(s.groupOut r.armA) && !(r.armB.any fun g => decide (g / 256 = s.dev) && s.groupOut g)

/-! ### Pair rows (R183 to R186) -/

/-- First rows of the blocks, with the blocks. -/
def blockStarts : Nat → List BlockRec → List (Nat × BlockRec)
  | _, [] => []
  | n, b :: r => (n, b) :: blockStarts (n + b.count) r

/-- The arm of a record that has columns as the second one: a foreign arm counts as NONE. -/
def State.secondArm (s : State) (r : RowIn) : Option Nat := r.armB.filter fun g => s.armList.contains g

/-- The block that serves a record. -/
def State.blockFor (s : State) (bs : List (Nat × BlockRec)) (r : RowIn) : Option (Nat × BlockRec) :=
  bs.find? fun p => blockKey p.2 = blockKey { armA := r.armA, armB := s.secondArm r, count := 0 }

/-- The second pass of R186: rows taken, and the records left out. -/
def State.placeRest (s : State) (bs : List (Nat × BlockRec)) :
    List RowIn → List (Nat × RowIn) → List (Nat × RowIn) × List RowIn
  | [], acc => (acc, [])
  | r :: rest, acc =>
    let free := match s.blockFor bs r with
      | some (n, b) => ((upTo b.count).map (n + ·)).find? fun k => !(acc.any fun p => p.1 = k)
      | none => none
    match free with
    | some k => s.placeRest bs rest (acc ++ [(k, r)])
    | none =>
      let q := s.placeRest bs rest acc
      (q.1, r :: q.2)

/-- Both passes; `old` maps rows to the PAIRs they held. -/
def State.placeRows (s : State) (x : Struct) (old : List (Nat × Nat)) (rs : List RowIn) :
    List (Nat × RowIn) × List RowIn :=
  let kept := rs.filterMap fun r => (old.find? fun p => p.2 = r.pair).map fun p => (p.1, r)
  let rest := rs.filter fun r => !(old.any fun p => p.2 = r.pair)
  s.placeRest (blockStarts 0 x.blocks) rest kept

/-- Columns of one arm of a record. -/
def State.armCols (s : State) (x : Struct) (g : Nat) (gs : List Rat) : List (Nat × Rat) :=
  let js := s.armJoints g
  let sum := (js.zip gs).foldl (fun v p => v + p.2 * tblGet 0 s.solver.vplan p.1) 0
  let sig := match x.varOf 1 (mkRef clsGroup g) with | some v => [(v, sum)] | none => []
  let dv := if s.redundantAt (mkRef clsGroup g) then
      (js.zip (upTo js.length)).filterMap fun p => (x.varOf 2 (mkRef clsAxis p.1)).map fun v => (v, nthD 0 gs p.2)
    else []
  sig ++ dv

/-- One pair row (R183). -/
def State.pairRow (s : State) (x : Struct) (k : Nat) (r : RowIn) : PairRow :=
  let tau := um (s.pU 0x500B s.dev)
  let l := -(r.d - r.dmin) / tau + r.offset
  { row := k, pair := r.pair, l := if 0 < l then 0 else l,
    coefs := s.armCols x r.armA r.ga ++ (match s.secondArm r with | some g => s.armCols x g r.gb | none => []) }

/-- Variables held to 0: of groups left out (R187), and of joints 15 and 16 of a second arm (R184). -/
def State.pinnedVars (s : State) (x : Struct) (rows : List (Nat × RowIn)) : List Nat :=
  let gs := s.objectsOf clsGroup |>.filter s.groupOut
  let out := gs.flatMap fun g => (x.varOf 1 (mkRef clsGroup g)).toList ++
    (s.localAxes (mkRef clsGroup g)).filterMap fun a => x.varOf 2 (mkRef clsAxis a)
  let far := rows.flatMap fun p => match s.secondArm p.2 with
    | some g => ((s.armJoints g).drop 14).filterMap fun a => x.varOf 2 (mkRef clsAxis a)
    | none => []
  dedup (sortNat (out ++ far))

/-! ### The problem in rationals (R181, R196) -/

/-- One row of A: coefficients, bounds (none: infinite), and the factor of ρ that its bounds and its scaling give. -/
structure SRow where
  coefs : List (Nat × Rat)
  l : Option Rat
  u : Option Rat
  mult : Rat
  deriving DecidableEq, Repr

def lowerOf (w : Word64) : Option Rat := if f64IsNegInf w then none else some (f64Val w)
def upperOf (w : Word64) : Option Rat := if f64IsPosInf w then none else some (f64Val w)

def boundMult (l u : Option Rat) : Rat :=
  match l, u with
  | none, none => mkRat 1 1000000
  | some a, some b => if a = b then 1000 else 1
  | _, _ => 1

/-- A host or pair row, scaled by the reciprocal of its largest coefficient. -/
def scaledRow (coefs : List (Nat × Rat)) (l u : Option Rat) : SRow :=
  let m := coefs.foldl (fun v p => maxQ v (absQ p.2)) 0
  { coefs := coefs, l := l, u := u, mult := boundMult l u * (if m = 0 then 1 else 1 / (m * m)) }

/-- The host rows with their values. -/
def hostRows : List RowRec → List Word64 → List Word64 → List Word64 → List SRow
  | [], _, _, _ => []
  | r :: rest, a, l, u =>
    let n := r.cols.length
    scaledRow (r.cols.zip ((a.take n).map ofF64)) (l.head?.bind lowerOf) (u.head?.bind upperOf) ::
      hostRows rest (a.drop n) (l.drop 1) (u.drop 1)

/-- Every row that is not inactive: host rows, active pair rows, variable-bound rows. -/
def Solve.rows (x : Solve) : List SRow :=
  let v := x.image.vals
  hostRows x.image.rows v.a v.l v.u ++
  (x.pairRows.map fun p => scaledRow p.coefs (some p.l) none) ++
  ((v.lb.zip v.ub).zip (upTo v.lb.length)).map fun p =>
    let pin := x.pinned.contains p.2
    let l := if pin then some 0 else lowerOf p.1.1
    let u := if pin then some 0 else upperOf p.1.2
    { coefs := [(p.2, 1)], l := l, u := u, mult := boundMult l u }

def Solve.nv (x : Solve) : Nat := x.image.vars.length

def rowDot (r : SRow) (x : List Rat) : Rat := r.coefs.foldl (fun v p => v + p.2 * nthD 0 x p.1) 0

def addAt (l : List Rat) (k : Nat) (v : Rat) : List Rat := l.modify k (· + v)

def zeros (n : Nat) : List Rat := List.replicate n 0

/-- Aᵀy. -/
def mulT (n : Nat) (rows : List SRow) (y : List Rat) : List Rat :=
  (rows.zip y).foldl (fun acc p => p.1.coefs.foldl (fun a c => addAt a c.1 (c.2 * p.2)) acc) (zeros n)

/-- The entries of P, both triangles. -/
def Solve.pEntries (x : Solve) : List (Nat × Nat × Rat) :=
  (x.image.pents.zip (x.image.vals.p.map ofF64)).flatMap fun e =>
    if e.1.1 = e.1.2 then [(e.1.1, e.1.2, e.2)] else [(e.1.1, e.1.2, e.2), (e.1.2, e.1.1, e.2)]

def Solve.mulP (x : Solve) (v : List Rat) : List Rat :=
  x.pEntries.foldl (fun acc e => addAt acc e.1 (e.2.2 * nthD 0 v e.2.1)) (zeros x.nv)

def Solve.q (x : Solve) : List Rat := x.image.vals.q.map ofF64

def vecAdd (a b : List Rat) : List Rat := a.zipWith (· + ·) b
def vecScale (k : Rat) (a : List Rat) : List Rat := a.map (k * ·)
def normInf (l : List Rat) : Rat := l.foldl (fun m v => maxQ m (absQ v)) 0

def clampO (l u : Option Rat) (v : Rat) : Rat :=
  let a := match l with | some x => maxQ x v | none => v
  match u with | some x => minQ x a | none => a

/-- A binary64 parameter of the device. -/
def State.pF (s : State) (num : Nat) : Rat := ofF64 (BitVec.ofNat 64 (s.raw num s.dev))

/-- Elimination without exchanges: the solution, or none when a pivot is not positive. -/
def posSolve : Nat → List (List Rat) → Option (List Rat)
  | 0, _ => some []
  | n + 1, rows =>
    match rows with
    | (p :: t) :: rest =>
      if p ≤ 0 then none
      else
        let sub := rest.map fun q => match q with
          | h :: u => u.zipWith (fun a b => a - h / p * b) t
          | [] => []
        (posSolve n sub).map fun xs => ((t.getLast?.getD 0) - ((t.zip xs).foldl (fun v c => v + c.1 * c.2) 0)) / p :: xs
    | _ => some []

/-- P + ETA_REG·I + Aᵀ diag(ρ_i) A with a right-hand side: K(ρ) after its constraint part is eliminated. -/
def Solve.normal (x : Solve) (eta rho : Rat) (rhs : List Rat) : List (List Rat) :=
  let n := x.nv
  let base : List (List Rat) := (upTo n).map fun i => (zeros n).set i eta
  let withP := x.pEntries.foldl (fun m e => m.modify e.1 fun r => addAt r e.2.1 e.2.2) base
  let full := x.rows.foldl (fun m r =>
    r.coefs.foldl (fun m c => m.modify c.1 fun q => r.coefs.foldl (fun q d => addAt q d.1 (rho * r.mult * c.2 * d.2)) q) m) withP
  full.zipWith (fun r b => r ++ [b]) rhs

/-- The factor of K(ρ) shows NVAR positive and m negative pivots. -/
def Solve.inertiaOk (x : Solve) (eta rho : Rat) : Bool := (posSolve x.nv (x.normal eta rho (zeros x.nv))).isSome

/-! ### Residuals (R197) -/

/-- An iterate with its residuals. -/
def State.evalIter (s : State) (x : Solve) (v z y : List Rat) : Iterate :=
  let rows := x.rows
  let ax := rows.map fun r => rowDot r v
  let px := x.mulP v
  let aty := mulT x.nv rows y
  let ea := s.pF 0x6006
  let er := s.pF 0x6007
  let rp := normInf (ax.zipWith (· - ·) z)
  let rd := normInf (vecAdd (vecAdd px x.q) aty)
  let tp := ea + er * maxQ (normInf ax) (normInf z)
  let td := ea + er * maxQ (maxQ (normInf px) (normInf aty)) (normInf x.q)
  { x := v, z := z, y := y, rp := rp, rd := rd, r := maxQ (rp / tp) (rd / td), rRatioP := rp / tp, rRatioD := rd / td }

/-! ### Warm start (R200, R202, R203) -/

def warmCold : Nat := 0
def warmWarm : Nat := 1
def warmMapped : Nat := 2

/-- Position of a nonzero tag in a list. -/
def tagAt (tags : List Nat) (t : Nat) : Option Nat :=
  if t = 0 then none else ((tags.zip (upTo tags.length)).find? fun p => p.1 = t).map fun p => p.2

/-- Place of a pair's row in an earlier result. -/
def pairPlace (w : SolveResult) (pair : Nat) : Option Nat :=
  ((w.pairs.zip (upTo w.pairs.length)).find? fun p => p.1 = pair).map fun p => w.rtags.length + p.2

/-- y of a pair's row in an earlier result. -/
def pairY (w : SolveResult) (pair : Nat) : Rat := (pairPlace w pair).elim 0 fun k => nthD 0 w.it.y k

/-- z of a WARM start: the earlier result's, carried by PAIR for pair rows. For a pair that held no row the spec states
none: a free value from `free` on. -/
def warmZ (w : SolveResult) (pairs : List Nat) (nv free : Nat) : List Rat :=
  w.it.z.take w.rtags.length ++
    (pairs.zip (upTo pairs.length)).map (fun p => (pairPlace w p.1).elim (ofF64 (Config.freeWord (free + p.2))) fun k => nthD 0 w.it.z k) ++
    (w.it.z.drop (w.rtags.length + w.pairs.length)).take nv

/-- y of a variable's bound row in an earlier result. -/
def boundY (w : SolveResult) (k : Nat) : Rat := nthD 0 w.it.y (w.rtags.length + w.pairs.length + k)

/-- Kind of the start, x, y, and the variables and rows mapped. -/
def warmStart (x : Struct) (handle : Nat) (pairs : List Nat) (kinLoads : Nat) (w : Option SolveResult) :
    Nat × List Rat × List Rat × Nat × Nat :=
  let nv := x.vars.length
  let cold := (warmCold, zeros nv, zeros (x.rows.length + pairs.length + nv), 0, 0)
  match w with
  | none => cold
  | some w =>
    if w.handle = handle ∧ w.generation = x.generation then
      (warmWarm, w.it.x,
        (upTo x.rows.length).map (nthD 0 w.it.y) ++ pairs.map (pairY w) ++ (upTo nv).map (boundY w), 0, 0)
    else
      let vm := x.vars.map fun v => tagAt w.vtags v.tag
      let rm := x.rows.map fun r => tagAt w.rtags r.tag
      let nvm := (vm.filter Option.isSome).length
      let nrm := (rm.filter Option.isSome).length
      if nvm + nrm = 0 then cold
      else
        let same := w.kinLoads = kinLoads
        (warmMapped, vm.map (fun o => o.elim 0 fun k => nthD 0 w.it.x k),
          rm.map (fun o => o.elim 0 fun k => nthD 0 w.it.y k) ++ pairs.map (fun p => if same then pairY w p else 0) ++
            vm.map (fun o => o.elim 0 fun k => boundY w k),
          nvm, nrm + nvm + (if same then 2048 else 0))

/-! ### Ends of a solve (R199 to R201, R207) -/

def outConverged : Nat := 1
def outDeadlineIter : Nat := 2
def outDeadlineFactor : Nat := 3
def outInfeasible : Nat := 4
def outNumeric : Nat := 5
def outSkipped : Nat := 6

def round64 (q : Rat) : Rat := ofF64 (toF64 q)
def finite64 (l : List Rat) : Bool := l.all fun q => f64Finite (toF64 q)

/-- The solve ends with an iterate at an offset from the boundary. -/
def State.endSolve (s : State) (x : Solve) (outcome : Nat) (it : Iterate) (off : Nat) : State :=
  let rows := x.rows.drop (x.image.rows.length + x.pairRows.length)
  let xc := (it.x.zip rows).map fun p => clampO p.2.l p.2.u p.1
  let fin := finite64 (xc ++ it.z ++ it.y) && f64Finite (toF64 it.r)
  let out := if s.health.warmDamaged || (s.struct? x.handle).any (fun y => y.damaged) then outNumeric else outcome
  let val := fun (kind : Nat) => ((x.image.vars.zip xc).filter fun p => p.1.kind = kind).map fun p => (refIndex p.1.obj, p.2)
  let res : SolveResult := {
    outcome := out, handle := x.handle, generation := x.generation, it := { it with x := xc }, iters := x.iter, rho := x.rho
    vtags := x.image.vars.map fun v => v.tag, rtags := x.image.rows.map fun r => r.tag
    pairs := x.pairRows.map fun p => p.pair, kinLoads := s.solver.kinLoads, finite := fin
    sigma := (val 1).map fun p => (p.1, (clampI 0 65536 (floorQ (65536 * p.2))).toNat)
    dv := (val 2).map fun p => (p.1, satS 32 (rnd (p.2 * 65536 / s.jointUnit p.1))) }
  (s.modSolver fun y => { y with
    solve := none, result := some res, due := true, warmVec := if fin && !s.health.warmDamaged then some res else
      (if s.health.warmDamaged then none else y.warmVec)
    outcome := out, warm := x.warm, rhoSwitch := x.switched, handle := x.handle, unplacedBit := decide (0 < x.unplaced)
    iters := Nat.min 65535 x.iter, resid := toF64 it.r, solveEnd := off
    usable := fin && decide (out ≤ 3) && decide (it.r ≤ s.pF 0x6008) }).modHealth fun h => { h with warmDamaged := false }

/-- SOLVE_NUMERIC causes: pivot sign 1, non-finite value 2. -/
def State.numericEnd (s : State) (x : Solve) (cause : Nat) (it : Iterate) (off : Nat) : State :=
  (s.emit evSolveNumeric s.devRef [cause]).endSolve x outNumeric it off

/-- A period that is not solved. -/
def State.skipSolve (s : State) : State :=
  s.modSolver fun y => { y with
    solve := none, result := some { outcome := outSkipped, finite := false }, due := true, outcome := outSkipped,
    usable := false, iters := 0, rhoSwitch := false, unplacedBit := false, unplaced := 0, place := [] }

/-! ### The start (R195) -/

def State.warmRho (s : State) (kind : Nat) : Rat :=
  if kind = warmWarm then (s.solver.warmVec.map fun w => w.rho).getD (s.pF 0x6003) else s.pF 0x6003

/-- The start of a solve on a structure. -/
def State.beginSolve (s : State) (handle : Nat) (x : Struct) : State :=
  let s1 := s.modSolver fun y => { y with vplan := s.axisList.map fun a => (a, s.planVel a) }
  let same := s1.solver.placeOf = some (handle, x.generation)
  let placed := s1.placeRows x (if same then s1.solver.place else []) s1.snapshot
  let prows := placed.1.map fun p => s1.pairRow x p.1 p.2
  let warm := warmStart x handle (prows.map fun p => p.pair) s1.solver.kinLoads
    (if s.health.warmDamaged then none else s1.solver.warmVec)
  let rho := s1.warmRho warm.1
  let base : Solve := {
    handle := handle, generation := x.generation, deadline := s.pU 0x6002 s.dev * 1000, warm := warm.1, image := x,
    pairRows := prows, pinned := s1.pinnedVars x placed.1, rho := rho, boundaryNs := s.now, unplaced := placed.2.length }
  let brows := base.rows.drop (x.rows.length + prows.length)
  let v := if warm.1 = warmMapped then (warm.2.1.zip brows).map fun p => clampO p.2.l p.2.u p.1 else warm.2.1
  let z := match s1.solver.warmVec with
    | some w =>
      if warm.1 = warmWarm then warmZ w (prows.map fun p => p.pair) x.vars.length s.free
      else base.rows.map fun r => clampO r.l r.u (if warm.1 = warmCold then 0 else rowDot r v)
    | none => base.rows.map fun r => clampO r.l r.u 0
  let it := s1.evalIter base v z warm.2.2.1
  let t := s1.modSolver fun y => { y with
    solve := some { base with cur := it, best := it }, unplaced := placed.2.length
    place := prows.map fun p => (p.row, p.pair), placeOf := some (handle, x.generation)
    mapped := if warm.1 = warmMapped then BitVec.ofNat 32 (warm.2.2.2.1 * 65536 + warm.2.2.2.2 % 65536) else y.mapped }
  let t := { t with free := t.free + prows.length }
  let t := match placed.2 with
    | r :: _ => t.emit evRowsUnplaced t.devRef [placed.2.length, (mkRef clsGroup r.armA).toNat,
        (r.armB.map fun g => (mkRef clsGroup g).toNat).getD 0xFFFFFFFF]
    | [] => t
  let t := if warm.1 = warmMapped then
      t.emit evWarmMapped (t.structRef handle) [x.generation.toNat, warm.2.2.2.1, warm.2.2.2.2]
    else t
  if x.damaged then t.numericEnd { base with cur := it, best := it } 2 it 24000 else t

def execSolveStart (s : State) : Out :=
  .next (match s.solver.selected.bind fun k => (s.struct? k).map fun x => (k, x) with
    | some (k, x) =>
      if !s.boundary || s.pU 0x6001 s.dev ≠ 1 || s.solver.due || s.solver.solve.isSome then s
      else if s.rowEngines.isEmpty || !s.solver.vplanOk then s.skipSolve
      else s.beginSolve k x
    | none => s)

/-! ### Factorisation and iterations (R196 to R200) -/

/-- Nanoseconds since T0 of the period's boundary. -/
def State.solveOff (s : State) (x : Solve) (t : Nat) : Nat := s.now + t - x.boundaryNs

/-- The initial factorisation completes, no later than t_dl − 20 µs. -/
def State.factorDone (s : State) (x : Solve) (off : Nat) : State :=
  let eta := s.pF 0x6005
  if !x.inertiaOk eta x.rho then s.numericEnd x 1 x.cur off
  else if !finite64 [x.cur.r] then s.numericEnd x 2 x.cur off
  else if x.cur.r ≤ 1 then s.endSolve x outConverged x.cur off
  else s.modSolver fun y => { y with solve := some { x with factored := true } }

def execSolveFactorDone (t : Nat) (s : State) : Out :=
  .next (match s.solver.solve with
    | some x => if !x.factored && decide (s.solveOff x t + 20000 ≤ x.deadline) then s.factorDone x (s.solveOff x t) else s
    | none => s)

/-- The next iterate of R196, before it is rounded; the scaling of the rows stands in their ρ factors. -/
def State.nextIter (s : State) (x : Solve) : Option (List Rat × List Rat × List Rat) :=
  let eta := s.pF 0x6005
  let al := s.pF 0x6004
  let rows := x.rows
  let it := x.cur
  let w := (rows.zip (it.z.zip it.y)).map fun p => x.rho * p.1.mult * p.2.1 - p.2.2
  let rhs := vecAdd (vecAdd (vecScale eta it.x) (vecScale (-1) x.q)) (mulT x.nv rows w)
  (posSolve x.nv (x.normal eta x.rho rhs)).map fun xt =>
    let zt := rows.map fun r => rowDot r xt
    let xn := vecAdd (vecScale al xt) (vecScale (1 - al) it.x)
    let zr := vecAdd (vecScale al zt) (vecScale (1 - al) it.z)
    let zn := (rows.zip (zr.zip it.y)).map fun p => clampO p.1.l p.1.u (p.2.1 + p.2.2 / (x.rho * p.1.mult))
    let yn := (rows.zip (it.y.zip (zr.zip zn))).map fun p => p.2.1 + x.rho * p.1.mult * (p.2.2.1 - p.2.2.2)
    (xn, zn, yn)

/-- A certificate of primal infeasibility in the change of y, to a tolerance that is free (log entry 12): the row of
its largest component. -/
def Solve.certificate (x : Solve) (old new : List Rat) (tol : Rat) : Option Nat :=
  let rows := x.rows
  let dy := new.zipWith (· - ·) old
  let n := normInf dy
  let bad := (rows.zip dy).any fun p => (decide (0 < p.2) && p.1.u.isNone) || (decide (p.2 < 0) && p.1.l.isNone)
  let sup := (rows.zip dy).foldl (fun v p => v + (if 0 < p.2 then p.2 * p.1.u.getD 0 else p.2 * p.1.l.getD 0)) 0
  if n = 0 ∨ bad ∨ tol * n < normInf (mulT x.nv rows dy) ∨ -(tol * n) ≤ sup then none
  else ((dy.zip (upTo dy.length)).find? fun p => absQ p.1 = n).map fun p => p.2

/-- TAG of a row: of a host row, or of the variable of a bound row; a pair row has none. -/
def Solve.rowTag (x : Solve) (k : Nat) : Nat :=
  let h := x.image.rows.length
  if k < h then ((x.image.rows[k]?).map fun r => r.tag).getD 0
  else if k < h + x.pairRows.length then 0
  else ((x.image.vars[k - h - x.pairRows.length]?).map fun v => v.tag).getD 0

def infeasTol (k : Nat) : Rat := mkRat ((Config.freeWord k).toNat % 2 ^ 32) (2 ^ 52)

/-- ρ* of R198. -/
def rhoStar (rho : Rat) (it : Iterate) : Rat :=
  if it.rRatioD = 0 then 1000000 else clampQ (mkRat 1 1000000) 1000000 (rho * sqrtQ (it.rRatioP / it.rRatioD))

/-- The check of ρ after an iteration. -/
def State.rhoCheck (s : State) (x : Solve) (off : Nat) : Solve :=
  let k := s.pU 0x6009 s.dev
  let star := rhoStar x.rho x.cur
  let ratio := s.pF 0x600A
  if x.iter % k = 0 ∧ x.newRho.isNone ∧ (star / x.rho < 1 / ratio ∨ ratio < star / x.rho) ∧
      off + 2000 * x.image.factorEst ≤ x.deadline then { x with newRho := some star } else x

/-- One iteration that completes at `off`. -/
def State.iterate (s : State) (x : Solve) (off : Nat) : State :=
  match s.nextIter x with
  | none => s.numericEnd x 1 x.cur off
  | some (v, z, y) =>
    if !finite64 (v ++ z ++ y) then s.numericEnd x 2 x.cur off
    else
      let it := s.evalIter x (v.map round64) (z.map round64) (y.map round64)
      let x1 := { x with cur := it, iter := x.iter + 1, best := if it.r ≤ x.best.r then it else x.best }
      let chk := s.pU 0x600B s.dev
      if it.r ≤ 1 then s.endSolve x1 outConverged it off
      else
        let t : State := if chk ≠ 0 ∧ x1.iter % chk = 0 then { s with free := s.free + 1 } else s
        match (if chk ≠ 0 ∧ x1.iter % chk = 0 then x.certificate x.cur.y it.y (infeasTol s.free) else none) with
        | some k => (t.emit evSolveInfeasible t.devRef [x.rowTag k]).endSolve x1 outInfeasible it off
        | none => t.modSolver fun w => { w with solve := some (s.rhoCheck x1 off) }

def execSolveIteration (t : Nat) (s : State) : Out :=
  .next (match s.solver.solve with
    | some x => if x.factored && decide (s.solveOff x t ≤ x.deadline) then s.iterate x (s.solveOff x t) else s
    | none => s)

/-- The new factor is complete: the next iteration uses it (R198). -/
def execRhoRefactorDone (t : Nat) (s : State) : Out :=
  .next (match s.solver.solve with
    | some x => match x.newRho with
      | some r =>
        if s.solveOff x t ≤ x.deadline then
          if x.inertiaOk (s.pF 0x6005) r then
            s.modSolver fun y => { y with solve := some { x with rho := r, newRho := none, switched := true } }
          else s.numericEnd x 1 x.cur (s.solveOff x t)
        else s
      | none => s
    | none => s)

/-- R200: t_dl − 20 µs with the factorisation unfinished; when iterate 0 is evaluated is open within 20 µs. -/
def execDeadlineInFactor (s : State) : Out :=
  .next (match s.solver.solve with
    | some x =>
      if !x.factored && decide (x.boundaryNs + x.deadline ≤ s.now + s.P + 20000) then
        { s.endSolve x outDeadlineFactor x.cur (x.deadline - (Config.freeWord s.free).toNat % 20000) with free := s.free + 1 }
      else s
    | none => s)

/-- R199: t_dl with no converged iterate. -/
def execDeadlineIter (s : State) : Out :=
  .next (match s.solver.solve with
    | some x =>
      if x.factored && decide (x.boundaryNs + x.deadline ≤ s.now + s.P) then s.endSolve x outDeadlineIter x.best x.deadline
      else s
    | none => s)

/-! ### Use of the result (R204) -/

/-- A group has a SIGMA variable in the selected structure. -/
def State.sigmaVar (s : State) (g : Nat) : Bool :=
  (s.solver.selected.bind s.struct?).any fun x => (x.varOf 1 (mkRef clsGroup g)).isSome

/-- σ of every group changes at a boundary. -/
def State.newSigmas (s : State) (f : Nat → SigmaSt → SigmaSt) : State :=
  s.forEach (s.objectsOf clsGroup) fun t g => t.modSigma g fun x => f g { x with old := x.new }

def State.newDvs (s : State) (f : Nat → Int → Int) : State :=
  s.forEach s.axisList fun t a => t.modAxis a fun x => { x with dvOld := x.dvNew, dvNew := f a x.dvNew }

def rampUp (ramp old : Nat) : Nat := Nat.min 65536 (old + ramp)

/-- A usable result. -/
def State.useResult (s : State) (r : SolveResult) : State :=
  let ramp := s.pU 0x600C s.dev
  let t := if 0 < s.solver.bad then s.emit evSolveResumed s.devRef [s.solver.bad] else s
  let t := t.newSigmas fun g x =>
    let v := ((r.sigma.find? fun p => p.1 = g).map fun p => p.2).getD 65536
    if x.recovering then
      let n := Nat.min v (x.old + ramp)
      { x with new := n, recovering := decide (n < v) }
    else { x with new := v }
  (t.newDvs fun a _ => ((r.dv.find? fun p => p.1 = a).map fun p => p.2).getD 0).modSolver fun y =>
    { y with bad := 0, hold := 0 }

/-- An unusable one: hold three times, then ramp down. -/
def State.unusableResult (s : State) (outcome : Nat) : State :=
  let ramp := s.pU 0x600C s.dev
  let floor := s.pU 0x600D s.dev
  let bad := s.solver.bad + 1
  let t := s.emit evSolveUnusable s.devRef [outcome, s.solver.resid.toNat % 2 ^ 32, s.solver.resid.toNat / 2 ^ 32, bad]
  if bad ≤ 3 then
    ((t.newSigmas fun _ x => x).newDvs fun _ v => v).modSolver fun y => { y with bad := bad, hold := bad }
  else
    let t := if bad = 4 then t.emit evSigmaRampdown t.devRef [t.tick.cycle.toNat] else t
    let t := t.newSigmas fun g x =>
      if s.sigmaVar g then { x with new := Nat.min x.old (Nat.max floor (x.old - ramp)), recovering := true }
      else { x with new := rampUp ramp x.old }
    (t.newDvs fun _ _ => 0).modSolver fun y => { y with bad := bad, hold := 0 }

/-- SOLVE_STATUS shows RAMPING while σ is ramped down or recovers. -/
def State.setRamping (s : State) : State :=
  s.modSolver fun y => { y with ramping := decide (3 < y.bad) || s.sigma.any fun p => p.2.recovering }

/-- σ returns to 1 with no solver at work. -/
def State.solverOff (s : State) : State :=
  ((s.newSigmas fun _ x => { x with new := rampUp (s.pU 0x600C s.dev) x.old }).newDvs fun _ _ => 0).modSolver
    fun y => { y with bad := 0, hold := 0 }

/-- Step 4 of Table 2.3 at a planning boundary. With the solver ON and a handle selected, a period that gave no result is
not usable; its outcome is 0, none. Rows keep their pairs only from a period that was solved (R186). -/
def State.solveApply (s : State) : State :=
  let t :=
    if s.pU 0x6001 s.dev ≠ 1 || s.solver.selected.isNone then s.solverOff
    else match s.solver.due, s.solver.result with
      | true, some r => if s.solver.usable then s.useResult r else s.unusableResult r.outcome
      | _, _ => s.unusableResult 0
  (t.modSolver fun y => { y with due := false, solve := none, place := if y.due then y.place else [] }).setRamping

/-- SOLVE_STATUS (R207). -/
def State.solveStatus (s : State) : Nat :=
  let x := s.solver
  x.outcome % 8 + 8 * (x.warm % 4) + 32 * b2n x.usable + 64 * (x.hold % 4) + 256 * b2n x.ramping + 512 * b2n x.rhoSwitch +
  1024 * (x.handle % 4) + 4096 * b2n x.unplacedBit + 65536 * x.iters

end Sys2Proof.Machine
end

