-- ==== Sys2Proof/Machine/Health.lean ====
section
/-!
DEFINITION. The supervisor's own failures (R428 to R430, R470), memory errors (R478, R479), ageing and clock steps (R480
to R486), temperature (R524), background tasks (R55, R56) and the availability figure (R487).
-/
namespace Sys2Proof.Machine

/-! ### Takeover (R334, R335, R469) -/

/-- An axis whose state an uncorrectable word has destroyed, in a region by its code in TAKEOVER_STATE_LOST, in the order of
R335: state bank, user area, control block. The axis closes afresh under R80, with its arm, or itself, under SS1. -/
def State.lostAxis (s : State) (a region : Nat) : State :=
  let t := s.modAxis a fun x => { x with softStart := false, lp := { x.lp with seen := false } }
  let t := if (s.axis a).closed then
      (t.closeFree a).modAxis a fun x => { x with lp := { x.lp with ss1 := (s.axis a).lp.ss1 } }
    else t
  let t := t.requestSs1 (t.armAxes a) .axis (mkRef clsAxis a) 0 s.tick.no false
  (t.beginDueSs1.noteFaultStop (t.armAxes a)).emit evTakeoverStateLost (mkRef clsAxis a) [region]

/-- The axes that a copy with damaged words has lost, each with a region; the control block stands for every slot. `held` are
the slots copied, with their axes. -/
def lostAxes (held damaged : List (Nat × Nat)) : List (Nat × Nat) :=
  if damaged.any fun e => e.2 = 3 then held.map fun e => (e.2, 3)
  else damaged.filterMap fun d => (held.find? fun e => e.1 = d.1).map fun e => (e.2, d.2)

def State.takeLane (s : State) (l : Nat) (t : Takeover) (p : Nat) : State :=
  let st := if t.prevStart then s.laneState else lpRun
  let s1 := s.modPair p fun y =>
    { (s.copyPair (s.logLane l).held t.failed y).enter st with lane := some l, reserve := false }
  let lost := lostAxes (s.logLane l).held t.damaged
  let s2 := s1.modLogLane l fun y => { y with takeover := none }
  let s3 := (s2.emit evLaneTakeover s.devRef [l, t.failed, p, s.tick.cycle.toNat, t.extrapolated]).raiseIrq 14
  lost.foldl (fun u e => u.lostAxis e.1 e.2) s3

/-- The first tick in which the moved axes of a lost lane are computed: those whose copy met damaged words close afresh
(R335, R466). -/
def State.lossTick (s : State) : State :=
  s.forEach laneNos fun u l => match (u.logLane l).loss with
    | some x =>
      if x.firstTick ≤ u.tick.no && !x.damaged.isEmpty then
        (lostAxes (x.moves.map fun m => (m.2, m.1.axis)) x.damaged).foldl (fun v e => v.lostAxis e.1 e.2)
          (u.modLogLane l fun y => { y with loss := some { x with damaged := [] } })
      else u
    | none => u

def execLaneTakeover (lane : Fin 17) (s : State) : Out :=
  .next (match (s.logLane lane.val).takeover with
    | some t => match t.pair with
      | some p => if t.firstTick ≤ s.tick.no ∧ (s.pair p).state = lpTest then s.takeLane lane.val t p else s
      | none => s
    | none => s)

/-! ### Supervisor -/

/-- R470: the rings stay suspended, PHASE is FAILED, every solve is SKIPPED; no event is recorded. -/
def State.supervisorLost (s : State) : State :=
  ((s.modSolver fun x => { x with vplanOk := false }).modHost fun x => { x with suspended := true }).modHealth (fun x =>
    { x with supLost := some s.now }) |>.modPower fun x => { x with phase := 5 }

/-- R428: the standby takes over; without one the supervisor is lost. At a boundary whose latch has not come, v_plan is not yet
written and will not be (R195, R429). -/
def State.supervisorMismatch (s : State) : State :=
  if !s.fwAlive then s
  else if s.host.standby && !s.host.supSingle && !s.host.suspended then
    (s.modSolver fun x => { x with vplanOk := x.vplanOk && (!s.boundary || s.tick.latched) }).modHost fun x => { x with suspended := true, takeoverCycle := s.tick.cycle }
  else s.supervisorLost

def execSupervisorLockstepMismatch (s : State) : Out := .next s.supervisorMismatch

/-- R430: the two failed cores after their self-test. -/
def execSupervisorRebuild (firstPasses secondPasses : Bool) (s : State) : Out :=
  .next (if s.host.supSingle && !s.host.suspended then
      (if firstPasses || secondPasses then
        s.modHost fun x => { x with supSingle := false, standby := firstPasses && secondPasses }
       else s.emit evSupervisorSingle s.devRef [2])
    else s)

/-- Whether the cause of a supervisor loss can arise now. -/
def State.lossPossible (s : State) (c : SupLossCause) : Bool :=
  match c with
  | .mismatchNoStandby => !s.host.standby || s.host.supSingle || s.host.suspended
  | .unprotectedFault => s.host.supSingle
  | .heartbeatStall => decide (2 ≤ s.host.hbAge)

def execSupervisorLoss (cause : SupLossCause) (s : State) : Out :=
  .next (if s.fwAlive && s.lossPossible cause then s.supervisorLost else s)

/-- SS1 of every zone in the first tick that begins 100 ms after the detection (Table 8.2). -/
def execSupervisorLossStop (s : State) : Out :=
  .next (match s.health.supLost with
    | some t0 =>
      if !s.health.supStopped && decide (t0 + 100000000 ≤ s.now) then
        (s.noteAllStopped.modHealth fun x => { x with supStopped := true }).ss1AllZones 5 s.tick.no
      else s
    | none => s)

/-! ### Memory (R478, R479) -/

/-- Memory codes of R490. -/
def memCode : MemKind → Nat
  | .supervisor => 1
  | .lane _ => 2
  | .madder => 3
  | .woad => 4
  | .solverPool _ => 5
  | .solverWarm => 5
  | .recorder => 6
  | .windowStatus => 7
  | .windowOther => 7
  | .selide _ => 8

/-- What a copied word of a failed pair's memory holds (Table 10.1, R335): a slot and region, or slot 64 for the control
block; `bank` gives a slot's valid bank. Address bits [17:16] name the space. -/
def Kernel.copyRegion (k : Kernel) (bank : Nat → Nat) (address : Nat) : Option (Nat × Nat) :=
  let a := address % 65536
  let user := fun (cst per : Nat) =>
    if 0xB000 + cst ≤ a ∧ a < 0xB000 + cst + 64 * per ∧ a ≤ 0xBFFF then some ((a - 0xB000 - cst) / per, 2) else none
  if address / 65536 % 4 = spX then
    (if a ≤ 0x03FF then some (64, 3)
     else if 0x0C00 ≤ a ∧ a ≤ 0x3BFF then
      let slot := (a - 0x0C00) % 6144 / 96
      if (a - 0x0C00) / 6144 = bank slot then some (slot, 1) else none
     else user k.xc.length k.xa.length)
  else if address / 65536 % 4 = spY then user k.yc.length k.ya.length
  else none


/-- The copy from a failed pair meets the word, or a working pair fails. -/
def State.laneWordLost (s : State) (p address : Nat) : State :=
  let region := fun (held : List (Nat × Nat)) =>
    s.userModule.copyRegion (fun k => (held.find? fun e => e.1 = k).elim 0 fun e => s.lastBank e.2) address
  match laneNos.find? fun l => ((s.logLane l).takeover.map fun t => t.failed) = some p with
  | some l => match region (s.logLane l).held with
    | some e => s.modLogLane l fun x => { x with takeover := x.takeover.map fun t => { t with damaged := addOnce t.damaged e } }
    | none => s
  | none =>
    match laneNos.find? fun l => (s.logLane l).loss.any fun x => x.failed = p && decide (s.tick.no < x.firstTick) with
    | some l => match region (s.lostMoves l) with
      | some e => s.modLogLane l fun x => { x with loss := x.loss.map fun t => { t with damaged := addOnce t.damaged e } }
      | none => s
    | none => s.pairFails p .ecc s.offNow

/-- An engine fails its known-vector test: the channel fault is its own (R171). -/
def State.engineMemoryLost (s : State) (e : Island) : State :=
  let t := s.modSep fun x => { x with chFault := some { attributed := some e, pending := false, tick := s.tick.no } }
  (t.emit evSepChannelFault t.devRef [attrCode (some e), 1]).channelFault (some e)

/-- The record whose 64 bytes hold a word of recorder memory. -/
def State.dropRecord (s : State) (address : Nat) : State :=
  s.modRec fun x => { x with records := x.records.filter fun r => r.1 % 65536 ≠ address / 8 % 65536 }

/-- The period's result is NUMERIC, and the next start COLD: the solve that runs ends so, or the result that waits. -/
def State.warmLost (s : State) : State :=
  if s.solver.solve.isSome then s.modHealth fun x => { x with warmDamaged := true }
  else s.modSolver fun x => { x with
    warmVec := none
    result := if x.due then x.result.map fun r => { r with outcome := outNumeric } else x.result
    outcome := if x.due then outNumeric else x.outcome, usable := x.usable && !x.due }

def State.memoryLost (s : State) (m : MemKind) (address : Nat) : State :=
  match m with
  | .supervisor => s.supervisorMismatch
  | .lane p => s.laneWordLost p.val address
  | .madder => s.engineMemoryLost .madder
  | .woad => s.engineMemoryLost .woad
  | .solverPool k => s.modSolver fun x => { x with
      structs := tblMod none x.structs k.val fun y => y.map fun z => { z with damaged := true } }
  | .solverWarm => s.warmLost
  | .recorder => s.dropRecord address
  | .windowStatus => s
  | .windowOther => s.modHealth fun x => { x with poison := dedup (x.poison ++ [address]) }
  | .selide n => s.modNode n.val fun x => { x with buf := none, arrived := false, nullFrame := false }

def execEccUncorrectable (mem : MemKind) (address : Nat) (s : State) : Out :=
  let t := s.modHealth fun x => { x with eccUncorrectable := incSat 32 x.eccUncorrectable }
  .next ((t.emit evEccUncorrectable t.devRef [memCode mem, address]).memoryLost mem address)

def execScrubPass (corrected : List (MemKind × Nat)) (durationMs : Nat) (s : State) : Out :=
  let t := s.forEach corrected fun u e =>
    (u.modHealth fun x => { x with eccCorrected := incSat 32 x.eccCorrected }).emit evEccCorrected u.devRef [memCode e.1, e.2]
  .next (t.modHealth fun x => { x with scrubPasses := incSat 32 x.scrubPasses, scrubLast := durationMs })

/-! ### Margins (R480, R481, R484, R485) -/

/-- Sensors of each clock domain (Table 17.3). -/
def sensorSplit : List (Nat × Nat × Nat) := [(0, 0, 6), (1, 6, 34), (2, 40, 8), (3, 48, 8), (4, 56, 8)]

/-- The smallest margin of a domain's sensors, 0.1 % of the period. -/
def domainMargin (margins : List Nat) (first n : Nat) : Option Nat :=
  match (margins.drop first).take n with
  | [] => none
  | m :: r => some (minL 1000 (m :: r))

/-- A mean is closed every hour of measurements at 10 s. -/
def ClkDomain.hour (x : ClkDomain) (m : Nat) : ClkDomain :=
  if x.hourN + 1 < 360 then { x with hourSum := x.hourSum + m, hourN := x.hourN + 1 }
  else { x with hourly := x.hourly ++ [(x.hourSum + m) / 360], hourSum := 0, hourN := 0 }

/-- One measurement of a domain. -/
def ClkDomain.measure (x : ClkDomain) (m now : Nat) : ClkDomain :=
  let y := x.hour m
  { y with
    margin := m
    lastGain := match x.stepMargin with
      | some b => some ((m : Int) - b)
      | none => x.lastGain
    stepMargin := none
    dueNs := if m < 80 ∧ x.steps < 4 ∧ x.dueNs.isNone then some now else x.dueNs
    exhausted := x.exhausted || (decide (m < 80) && x.steps = 4) }

def execAgeingMeasurement (margins : List Nat) (s : State) : Out :=
  .next (s.forEach sensorSplit fun t e => match domainMargin margins e.2.1 e.2.2 with
    | some m =>
      let u := t.modClk e.1 fun x => x.measure m t.now
      if (u.clk e.1).exhausted && !(t.clk e.1).exhausted then u.emit evMarginExhausted u.devRef [e.1, m] else u
    | none => t)

/-- Least-squares slope of the hourly means, in 0.1 % per hour, as numerator and denominator. -/
def slopeOf (l : List Nat) : Int × Int :=
  let n : Int := l.length
  let xs : List Int := (upTo l.length).map fun (k : Nat) => (k : Int)
  let ys : List Int := l.map fun (k : Nat) => (k : Int)
  let sum := fun (v : List Int) => v.foldl (· + ·) 0
  (n * sum ((xs.zip ys).map fun p => p.1 * p.2) - sum xs * sum ys, n * sum (xs.map fun x => x * x) - sum xs * sum xs)

/-- LIFE_FORECAST of a domain (R485). -/
def ClkDomain.forecast (x : ClkDomain) : Nat :=
  let (p, q) := slopeOf x.hourly
  if x.hourly.length < 24 ∨ 0 ≤ p ∨ q ≤ 0 then 0xFFFFFFFF
  else
    let points : Int := (x.margin : Int) - 80 + ((4 - x.steps : Nat) : Int) * x.lastGain.getD 25
    (clampI 0 0xFFFFFFFF (rnd (mkRat (points * q) (-p).toNat))).toNat

/-- CLK_STATE (Table 17.8). -/
def ClkDomain.status (x : ClkDomain) : Nat :=
  Nat.min x.margin 1000 + 1024 * (x.steps % 8) + 8192 * b2n x.pending + 16384 * b2n x.forced + 32768 * b2n x.exhausted

/-! ### Clock steps (R481 to R483) -/

/-- Largest pair list of a step (Table 17.4). -/
def pairLimit (steps : Nat) : Nat :=
  match steps with | 0 => 138320 | 1 => 134862 | 2 => 131404 | 3 => 127946 | _ => 124488

/-- The first lane that would not keep to a step. -/
def State.laneMisfit (s : State) (steps : Nat) : Option Nat :=
  laneNos.find? fun l => !s.slotsFit steps s.axisHalf (s.logLane l).held

/-- R482. -/
def State.stepFits (s : State) (d steps : Nat) : Bool :=
  match d with
  | 1 => (s.laneMisfit steps).isNone
  | 2 => decide (s.sep.kin.pairs.length ≤ pairLimit steps)
  | 3 => decide (s.sep.kin.pairs.length ≤ pairLimit steps)
  | _ => true

/-- No step during a takeover, a supervisor takeover or a lane loss. -/
def State.stepBlocked (s : State) : Bool :=
  s.host.suspended || s.lanes.log.any fun e => e.2.takeover.isSome || e.2.loss.isSome

/-- A planning boundary evaluates the due steps. -/
def State.clockBoundary (s : State) : State :=
  s.forEach (upTo 5) fun t d =>
    let x := t.clk d
    if x.dueNs.isNone || x.ready.isSome || t.stepBlocked then t
    else if t.stepFits d (x.steps + 1) || (x.forcing && d ≠ 1) then
      t.modClk d fun y => { y with ready := some (t.tick.no + 32) }
    else if x.pending then t
    else
      let a := if d = 1 then (t.laneMisfit (x.steps + 1)).getD 0 else t.sep.kin.pairs.length
      (t.modClk d fun y => { y with pending := true }).emit evClockStepPending t.devRef [d, a]

/-- The solver's estimates of every resident structure are made again (R206, R482). -/
def State.reEstimate (s : State) : State :=
  s.forEach (upTo 4) fun t k => match t.struct? k with
    | some x =>
      let y : Struct := { x with factorEst := Config.solverEstimate t.free, iterEst := Config.solverEstimate (t.free + 1) }
      let u : State := { (t.modSolver fun z => { z with structs := tblSet z.structs k (some y) }) with free := t.free + 2 }
      if u.solver.selected = some k then u.factorSlow k else u
    | none => t

def State.takeStep (s : State) (d : Nat) : State :=
  let x := s.clk d
  let t := s.modClk d fun y => { y with
    steps := y.steps + 1, stepMargin := some y.margin, pending := false, forcing := false, dueNs := none, ready := none }
  let t := t.emit evClockStep t.devRef [d, x.steps + 1, x.margin]
  if d = 4 then t.reEstimate else t

def State.stepReady (s : State) (d : Nat) : Bool :=
  match (s.clk d).ready with
  | some n => decide (n ≤ s.tick.no) && s.boundary && !s.stepBlocked
  | none => false

def execClockStep (domain : Fin 5) (s : State) : Out :=
  .next (if s.stepReady domain.val then s.takeStep domain.val else s)

/-- The arm of an axis, or its parent group. -/
def State.halfGroupOf (s : State) (a : Nat) : Option Nat := (s.armOf a).or (s.cell.parent (mkRef clsAxis a))

/-- The group that holds the most full-rate axes of a lane, lowest first. -/
def State.heaviestGroup (s : State) (l : Nat) : Option Nat :=
  let gs := ((s.laneAxes l).filter fun a => !s.axisHalf a).filterMap s.halfGroupOf
  let n := fun g => (gs.filter fun k => k = g).length
  (sortNat (dedup gs)).foldl (fun (b : Option Nat) g => match b with
    | some k => if n k < n g then some g else b
    | none => some g) none

/-- R483: half rate by choice, group by group, until every lane fits. -/
def State.forceLanes (s : State) (steps : Nat) : Nat → State
  | 0 => s
  | fuel + 1 => match s.laneMisfit steps with
    | none => s
    | some l => match s.heaviestGroup l with
      | none => s
      | some g =>
        let t := s.halfRateOn g (s.localAxes (mkRef clsGroup g))
        (t.emit evHalfRateForced (mkRef clsGroup g) [l]).forceLanes steps fuel

/-- AGE_GRACE has passed, or the margin is below AGE_FLOOR. -/
def State.stepOverdue (s : State) (d : Nat) : Bool :=
  let x := s.clk d
  match x.dueNs with
  | some t0 => x.pending && !x.forcing &&
      (decide (s.pU 0xC001 s.dev * 3600000000000 ≤ s.now - t0) || decide (x.margin < s.pU 0xC002 s.dev))
  | none => false

def execHalfRateForced (domain : Fin 5) (s : State) : Out :=
  let d := domain.val
  .next (if s.stepOverdue d then
      (if d = 1 then s.forceLanes ((s.clk 1).steps + 1) 512 else s).modClk d fun x => { x with forced := true, forcing := true }
    else s)

/-! ### Eyes, temperature, background tasks (R55, R56, R486, R524) -/

/-- One receiver's new margin: a retraining under way is recorded, and a margin that falls below EYE_MIN starts one. -/
def State.eyeOf (s : State) (k m : Nat) : State :=
  let lim := s.pU 0xC004 s.dev
  let old := tblGet 1000 s.health.eye k
  let was := s.health.retrain.contains k
  let t := if was then s.emit evEyeRetrained s.devRef [k, old, m] else s
  t.modHealth fun x => { x with
    eye := tblSet x.eye k m
    retrain := if was then x.retrain.filter (· ≠ k) else if m < lim ∧ lim ≤ old then x.retrain ++ [k] else x.retrain }

def execEyeMonitor (margins : List Nat) (s : State) : Out :=
  .next (s.forEach ((upTo 14).zip margins) fun t e => t.eyeOf e.1 e.2)

def execThermalHigh (temp : Int) (sensor : Fin 16) (s : State) : Out :=
  .next (if s.health.thermalArmed && decide (1100 < temp) then
      (s.modHealth fun x => { x with thermalArmed := false }).emit evThermalHigh s.devRef [argI temp, sensor.val]
    else s)

/-- Tasks in the order of Table 2.8; the numbers are DESIGN CHOICE (log entry 16). -/
def taskCode : BgTask → Nat
  | .scrub => 1 | .calibration => 2 | .ageing => 3 | .engineSelfTest => 4 | .telemetry => 5

def execBackgroundLate (task : BgTask) (overdueMs : Nat) (s : State) : Out :=
  let t := s.modHealth fun x => { x with
    lateTasks := (taskCode task, overdueMs) :: x.lateTasks.filter fun p => p.1 ≠ taskCode task }
  .next (t.emit evBackgroundLate t.devRef [taskCode task, overdueMs])

/-- Places of the calibrated units: Selide SL0A to SL3B 0 to 7, ETH0 and ETH1 8 and 9, PCI Express 10, the PLLs 11. -/
def calNo : CalUnit → Nat
  | .selide t c => 2 * t.val + (match c with | .A => 0 | .B => 1)
  | .eth p => 8 + p.val
  | .pcie => 10
  | .pll => 11

/-- The instant `t` of this tick lies in a slot of a Selide channel, in its join slot, or in the CYCLE_START frame, which ends
by 360 ns (R260, R274). -/
def State.channelInUse (s : State) (trunk chan t : Nat) : Bool :=
  let sched := (s.trunk trunk).sched
  let within := fun (a b : Nat) => decide (a ≤ t) && decide (t < b)
  s.tick.selide && (s.strunk trunk).isSome &&
  (within 0 360 ||
   (s.selide.sched.slots.any fun r => r.trunk = trunk && r.sched = sched && r.chan = chan &&
     within (s.slotStart r) (s.slotStart r + r.length)) ||
   (s.joinStart trunk ≠ 0 && sched = 0 && chan = s.joinChan trunk &&
     within (s.joinStart trunk) (s.joinStart trunk + 400)))

/-- R55: a Selide channel is calibrated only while it carries no frame under its slot table. -/
def execSerdesCalibration (unit : CalUnit) (t : Nat) (s : State) : Out :=
  let busy := match unit with
    | .selide k c => s.channelInUse k.val (chanNo c) t
    | _ => false
  .next (if busy then s else s.modHealth fun x => { x with calibrated := tblSet x.calibrated (calNo unit) (s.now + t) })

/-! ### The availability figure (R487) -/

/-- An axis that is present and takes part in the figure. -/
def State.axisLost (s : State) (a : Nat) : Bool :=
  (s.axis a).lp.extrap || s.axisHalf a || s.health.faultStop.contains a

/-- A stop of an axis is over once its loop is closed and no SS1 covers it. -/
def State.stopOver (s : State) (a : Nat) : Bool :=
  (s.axis a).closed && !s.underSs1 a && !(s.safety.reqs.any fun r => r.axes.contains a)

def State.availTick (s : State) : State :=
  let t := s.modHealth fun x => { x with faultStop := x.faultStop.filter fun a => !s.stopOver a }
  if s.power.phase = 4 && s.safety.armed then
    t.modHealth fun x => { x with
      serviceNs := x.serviceNs + s.P
      lostNs := if t.axisList.any fun a => !t.axisAbsent a && t.axisLost a then x.lostNs + s.P else x.lostNs }
  else t

end Sys2Proof.Machine
end

