-- ==== Sys2Proof/Machine/Time.lean ====
section
/-!
DEFINITION. Network time (chapter 12): the bridge and the transparent clock, the PTP domains and their selection, the
device time and its slewing, UTC and leap seconds, PPS; and the member's side of the cell link's time (R289, R293, R365).
-/
namespace Sys2Proof.Machine

def State.domRef (s : State) (d : Nat) : Word := mkRef clsDomain (s.dev * 2 + d)
/-- A DOMAIN parameter of local domain `d`. -/
def State.domP (s : State) (num d : Nat) : Nat := s.pU num (s.dev * 2 + d)
def State.p2p (s : State) : Bool := s.pU 0x9001 s.dev = 0

/-! ### UTC offset (R367, R368) -/

def leapCause : Nat := 1
def announceCause : Nat := 2

/-- The UTC offset in use changes. -/
def State.setUtc (s : State) (o : Int) (cause : Nat) : State :=
  let old := s.utcOff
  let t := s.modTime fun x => { x with utcOffset := o, utcValid := true }
  if old = o then t else t.emit evUtcOffsetChange s.devRef [argI old, argI o, cause]

/-- A leap second takes effect on the offset in use, on the offset held of the selected domain, and on the data sets kept of
its Announces, which are older than it. -/
def State.leapOffset (s : State) (d : Int) : State :=
  let t := s.setUtc (s.utcOff + d) leapCause
  let t := t.modDom t.time.sel fun x => { x with
    utcHeld := x.utcHeld.map (· + d)
    best := x.best.map fun e => if e.2.2.utcValid then (e.1, e.2.1, { e.2.2 with utcOffset := e.2.2.utcOffset + d }) else e }
  t.modTime fun x => { x with leapSec := false, leap61 := false, leap59 := false }

/-- The UTC second at T0, if it begins there. -/
def State.utcStart (s : State) : Option Nat :=
  let u := s.utcSec { sec := s.time.sec, ns := 0 }
  if s.time.ns = 0 ∧ 0 ≤ u then some u.toNat else none

/-- A UTC day is the first of a month. -/
def firstOfMonth (u : Nat) : Bool := (civil (u / 86400)).2.2 = 1

/-- Leap seconds at T0: the flags are held from 23:59:00 of a month's last day; a positive one ends after its second. -/
def State.leapTick (s : State) : State :=
  match s.utcStart with
  | none => s
  | some u =>
    let s1 := if s.time.leapSec && u % 86400 = 1 then s.leapOffset 1 else s
    if u % 86400 = 86340 && firstOfMonth (u + 60) then
      let x := s.dom s.time.sel
      let on := s.time.source = 1
      s1.modTime fun y => { y with leap61 := on && x.leap61, leap59 := on && x.leap59 }
    else s1

/-- R368: a held leap61 shows 23:59:60; a held leap59 drops 23:59:59. -/
def execLeapSecond (s : State) : Out :=
  .next (match s.utcStart with
    | none => s
    | some u =>
      if s.time.leap61 && !s.time.leapSec && u % 86400 = 0 && firstOfMonth u then s.modTime fun x => { x with leapSec := true }
      else if s.time.leap59 && u % 86400 = 86399 && firstOfMonth (u + 1) then s.leapOffset (-1)
      else s)

/-! ### Device time (R37, R361 to R365) -/

/-- The slew that is left to a frequency correction inside ±100 ppm, in ns/s. -/
def slewRate (freq : Int) (rate : Nat) (sg : Int) : Int :=
  let f := clampI (-100000) 100000 freq
  let e := clampI (-100000) 100000 (f + sg * rate) - f
  if 0 ≤ sg * e then e else 0

/-- What is left of an error after `dt` nanoseconds of slewing at `e` ns/s. -/
def slewed (r : Rat) (e : Int) (dt : Nat) : Rat :=
  let d := (e : Rat) * secs dt
  if absQ r ≤ absQ d then 0 else r - d

/-- The device time advances to the next tick edge; the remaining error is slewed out. -/
def State.advanceTime (s : State) : State :=
  let dt := s.P - s.time.ns % s.P
  let n := s.time.ns + dt
  let rate := if s.time.alignSlew then s.pU 0x9006 s.dev else s.pU 0x9005 s.dev
  (s.modTime fun x => { x with
    sec := x.sec + n / 1000000000, ns := n % 1000000000
    remaining := slewed x.remaining (slewRate x.freqCorr rate (sgnQ x.remaining)) dt }).modTick fun x =>
      { x with t0Ns := x.t0Ns + dt }

/-- The device time jumps (R363). -/
def stepTime (x : TimeSt) (d : Int) : TimeSt :=
  let v := (x.sec : Int) * 1000000000 + x.ns + d
  { x with sec := (v / 1000000000).toNat, ns := (v % 1000000000).toNat }

def execTimeSlewDone (s : State) : Out :=
  let d := s.time.sel
  .next (if s.time.slewing && decide (absQ s.time.remaining ≤ (s.domP 0x9013 d : Rat)) then
      (s.modTime fun x => { x with slewing := false, alignSlew := false }).emit evTimeSlewDone (s.domRef d)
        [(s.now - s.time.slewStart) / 1000000]
    else s)

/-- TIME_SET at its tick of effect. -/
def execTimeSet (h : Hdr) (sec : Word64) (ns : Word) (s : State) : Out :=
  .next (if 2 ^ 48 ≤ sec.toNat ∨ 1000000000 ≤ ns.toNat then s.done 0x0007 h stRange
    else if !s.time.steppable then s.done 0x0007 h stBusy
    else (s.modTime fun x => { x with sec := sec.toNat, ns := ns.toNat }).done 0x0007 h stOk)

/-! ### Domains (R359, R360) -/

/-- A message passes the filter of the internal port (R354). -/
def State.ptpTaken (s : State) (m : PtpHdr) : Bool :=
  (s.eth m.port.val).up && m.vid = s.pU 0x900B s.dev &&
  (match m.transport with
   | .l2 => s.pU 0x9002 s.dev = 0
   | .udp4 => s.pU 0x9002 s.dev = 1
   | .udp6 => false)

/-- The enabled domain that a message belongs to. -/
def State.domOf (s : State) (m : PtpHdr) : Option Nat :=
  if s.ptpTaken m then (upTo 2).find? fun d => s.domP 0x9011 d = 1 && s.domP 0x9010 d = m.domain.toNat else none

/-- R360. -/
def State.usable (s : State) (d : Nat) : Bool :=
  let x := s.dom d
  s.domP 0x9011 d = 1 && x.state = 2 && decide (x.cls ≤ s.domP 0x9012 d) && x.utcHeld.isSome

/-- The time from which a domain has been usable without a break. -/
def State.refreshUsable (s : State) (d : Nat) : State :=
  s.modDom d fun x => { x with
    usableSince := if s.usable d then some (x.usableSince.getD s.now) else none }

def devNs (t : DevTime) : Int := (t.sec : Int) * 1000000000 + t.ns

/-- The device time's own frequency relative to REFCLK, in ppb: its correction and the slew in progress (R362). -/
def State.devFreq (s : State) : Int :=
  s.time.freqCorr + (if s.time.remaining = 0 then 0 else
    slewRate s.time.freqCorr (if s.time.alignSlew then s.pU 0x9006 s.dev else s.pU 0x9005 s.dev) (sgnQ s.time.remaining))

/-- The delay from a domain's master to the port it is heard on (R355). -/
def State.domDelay (s : State) (d : Nat) : Int :=
  if s.p2p then ((s.eth (s.dom d).port).linkDelay : Int) else (s.dom d).pathDelay

/-- The domain's time less the device time at a Sync that left its master at `master` (R359). -/
def State.syncOffset (s : State) (d : Nat) (master ingress : Int) : Int := satS 32 (master + s.domDelay d - ingress)

/-- The domain's frequency relative to REFCLK between two Syncs, in ppb. -/
def State.syncFreq (s : State) (p : Int × Int) (master ingress : Int) : Int :=
  if ingress ≤ p.2 then 0
  else s.devFreq + (master - p.1 - (ingress - p.2)) * 1000000000 / (ingress - p.2)

/-- How the offset moves by the estimate before while the device time keeps its frequency: the prediction of Table 12.2. -/
def State.syncPredict (s : State) (d : Nat) (p : Int × Int) (ingress : Int) : Int :=
  ((s.dom d).freq - s.devFreq) * (ingress - p.2) / 1000000000

/-- The estimates of a servo after a Sync (R359, log entry 9); `master` is the Sync's origin with its corrections. -/
def State.servoSync (s : State) (d : Nat) (master ingress : Int) : State :=
  let x := s.dom d
  let off := s.syncOffset d master ingress
  let fr := x.lastSync.elim x.freq fun p => satS 32 (Config.servoFreq (s.domP 0x9014 d) (s.syncFreq p master ingress) x.freq)
  let pred := x.lastSync.elim 0 fun p => s.syncPredict d p ingress
  let lock := s.domP 0x9013 d
  let err := (x.prevOffset.map fun o => (off - o - pred).natAbs).getD 0
  let run := if x.prevOffset.isSome ∧ err ≤ lock then x.lockRun + 1 else 0
  let bad := if 4 * lock < err then x.badRun + 1 else 0
  let t := s.modDom d fun x => { x with
    offset := off, freq := fr, prevOffset := some off, lastSync := some (master, ingress), lockRun := run, badRun := bad }
  let t := if s.time.source = 1 ∧ s.time.sel = d then t.modTime fun y => { y with freqCorr := clampI (-100000) 100000 fr }
    else t
  let t := if x.state = 1 ∧ 16 ≤ run then
      (t.modDom d fun y => { y with state := 2, badRun := 0 }).emit evDomainLocked (s.domRef d) [x.port, x.cls]
    else if x.state = 2 ∧ 4 ≤ bad then t.modDom d fun y => { y with state := 1, lockRun := 0, badRun := 0, sawUnlock := true }
    else t
  t.refreshUsable d

/-- The message comes from the domain's chosen master. -/
def State.fromMaster (s : State) (d : Nat) (m : PtpHdr) : Bool :=
  let x := s.dom d
  (x.state = 1 || x.state = 2) && x.master = some m.source && x.port = m.port.val

/-- A correctionField in nanoseconds. -/
def corrNs (c : Int) : Int := rdiv c 65536

/-- A Sync; a two-step one waits for its Follow_Up. -/
def execPtpSync (m : PtpHdr) (origin ingress : DevTime) (s : State) : Out :=
  .next (match s.domOf m with
    | some d =>
      if s.fromMaster d m then
        if m.twoStep then s.modDom d fun x => { x with twoStep := true, syncHeld := some (m, ingress) }
        else (s.modDom d fun x => { x with twoStep := false, syncHeld := none }).servoSync d
          (devNs origin + corrNs m.correction) (devNs ingress)
      else s
    | none => s)

/-- IEEE 1588-2019 data-set comparison: `a` is better than `b`. -/
def annKey (a : Announce) : List Nat :=
  [a.priority1.toNat, a.clockClass.toNat, a.accuracy.toNat, a.variance.toNat, a.priority2.toNat, a.grandmaster]

def lexLess : List Nat → List Nat → Bool
  | a :: r, b :: q => if a < b then true else if b < a then false else lexLess r q
  | _, _ => false

def annBetter (a b : Announce) : Bool :=
  if a.grandmaster = b.grandmaster then decide (a.stepsRemoved.toNat < b.stepsRemoved.toNat)
  else lexLess (annKey a) (annKey b)

/-- The best data set of each port with a new Announce: it replaces its own master's, or a worse one. -/
def takeAnnounce (l : List (Nat × Nat × Announce)) (port source : Nat) (a : Announce) : List (Nat × Nat × Announce) :=
  match l.find? fun e => e.1 = port with
  | some e =>
    if e.2.1 = source ∨ annBetter a e.2.2 then (l.filter fun e => e.1 ≠ port) ++ [(port, source, a)] else l
  | none => l ++ [(port, source, a)]

/-- The best of two ports; a tie goes to ETH0. -/
def bestMaster (l : List (Nat × Nat × Announce)) : Option (Nat × Nat × Announce) :=
  match l.find? (fun e => e.1 = 0), l.find? (fun e => e.1 = 1) with
  | some a, some b => some (if annBetter b.2.2 a.2.2 then b else a)
  | some a, none => some a
  | none, b => b

/-- The chosen master, its class, UTC offset and leap flags follow the best data set (R359, R367, R368). -/
def State.chooseMaster (s : State) (d : Nat) : State :=
  match bestMaster (s.dom d).best with
  | none => s
  | some (port, src, a) =>
    let x := s.dom d
    let fresh := x.state = 0 ∨ x.state = 3 ∨ x.master ≠ some src ∨ x.port ≠ port
    let t := s.modDom d fun y => { y with
      state := if fresh then 1 else y.state, lockRun := if fresh then 0 else y.lockRun, badRun := if fresh then 0 else y.badRun
      prevOffset := if fresh then none else y.prevOffset, lastSync := if fresh then none else y.lastSync
      delayOut := y.delayOut && !decide fresh, syncHeld := if fresh then none else y.syncHeld
      sawUnlock := y.sawUnlock || (decide fresh && y.state = 2)
      port := port, master := some src, cls := a.clockClass.toNat, leap61 := a.leap61, leap59 := a.leap59
      utcHeld := if a.utcValid then some a.utcOffset else y.utcHeld }
    let t := if s.time.source = 1 ∧ s.time.sel = d ∧ a.utcValid then t.setUtc a.utcOffset announceCause else t
    t.refreshUsable d

/-- announceReceiptTimeout in nanoseconds: `n` intervals of 2^log seconds. -/
def announceNs (a : Announce) : Nat :=
  if 0 ≤ a.logInterval then a.receiptTimeout * 1000000000 * 2 ^ a.logInterval.toNat
  else a.receiptTimeout * 1000000000 / 2 ^ a.logInterval.natAbs

def execPtpAnnounce (m : PtpHdr) (a : Announce) (s : State) : Out :=
  .next (match s.domOf m with
    | some d =>
      let t := s.modDom d fun x => { x with best := takeAnnounce x.best m.port.val m.source a }
      let t := t.chooseMaster d
      if t.fromMaster d m then t.modDom d fun x => { x with timeoutNs := s.now + announceNs a } else t
    | none => s)

/-- No Announce of the chosen master within its receipt timeout. -/
def execAnnounceTimeout (domain : Fin 2) (s : State) : Out :=
  let d := domain.val
  let x := s.dom d
  .next (if (x.state = 1 ∨ x.state = 2) ∧ x.timeoutNs ≤ s.now + s.P then
      (s.modDom d fun y => { y with
        state := 3, best := [], master := none, lockRun := 0, badRun := 0, prevOffset := none, syncHeld := none
        sawTimeout := true }).refreshUsable d
    else s)

/-- DOMAIN_ENABLE or DOMAIN_NUMBER commits: the domain starts at NO_MASTER; a UTC offset once held stays held (R360). -/
def State.domainRestart (s : State) (d : Nat) : State :=
  (s.modDom d fun x => { wasUsable := x.wasUsable, sawTimeout := x.sawTimeout, sawUnlock := true, utcHeld := x.utcHeld }).refreshUsable d

/-! ### Selection (R360 to R364) -/

/-- DOMAIN_LOST causes (R360): timeout 1, class 2, unlock 3. -/
def State.lostCause (s : State) (d : Nat) : Nat :=
  let x := s.dom d
  if x.sawTimeout then 1 else if x.master.isSome ∧ s.domP 0x9012 d < x.cls then 2 else 3

/-- A domain that has become unusable since the last boundary is recorded. -/
def State.domainLost (s : State) (d : Nat) : State :=
  let x := s.dom d
  let u := s.usable d
  let t := if x.wasUsable && !u then s.emit evDomainLost (s.domRef d) [s.lostCause d] else s
  (t.refreshUsable d).modDom d fun y => { y with wasUsable := u, sawTimeout := false, sawUnlock := false }

/-- The selection of R360: a domain, or holdover. No domain counts as selected before the first. -/
def State.selectDomain (s : State) : Option Nat :=
  let p := s.pU 0x9003 s.dev % 2
  let o := 1 - p
  let sel := s.time.sel
  let us := s.time.everSel && s.usable sel
  let up := s.usable p
  let revert := s.pU 0x9004 s.dev * 1000000000
  let usedFor := match (s.dom p).usableSince with | some n => s.now - n | none => 0
  if us && (sel = p || !up || decide (usedFor < revert) || revert = 0) then some sel
  else if up && (sel ≠ p || !us) && (!us || decide (revert ≤ usedFor)) then some p
  else if s.usable o then some o
  else none

/-- The device follows a domain from this boundary (R361, R363). -/
def State.followDomain (s : State) (d : Nat) : State :=
  let x := s.dom d
  let step := s.time.steppable && !s.time.everSel && decide (s.pU 0x9007 s.dev < x.offset.natAbs)
  let t := match x.utcHeld with
    | some o => s.setUtc o announceCause
    | none => s
  let t := t.modTime fun y => { y with
    source := 1, sel := d, everSel := true, freqCorr := clampI (-100000) 100000 x.freq
    remaining := if step then 0 else (x.offset : Rat), slewing := !step, slewStart := s.now
    alignSlew := !step && !s.time.steppable && !s.time.everSel }
  if step then (t.modTime fun y => stepTime y x.offset).emit evTimeStepped s.devRef [argI x.offset]
  else t.emit evTimeSwitch (if s.time.everSel then s.domRef s.time.sel else s.devRef) [(s.domRef d).toNat, argI x.offset]

/-- No domain is usable: holdover, once a domain has been followed. -/
def State.holdover (s : State) : State :=
  if s.time.source = 1 then
    (s.modTime fun y => { y with source := 2, slewing := false, alignSlew := false, remaining := 0 }).emit evTimeHoldover
      (s.domRef s.time.sel) []
  else s

/-- Selection at a planning boundary; a cell-link member that is linked, or has lost its link, selects nothing, nor does a
master that follows the winner of a conflict (R288, R289). -/
def State.timeBoundary (s : State) : State :=
  let t := (s.domainLost 0).domainLost 1
  if (s.isMember && (s.link.joined || s.link.locked || s.link.lost)) || s.selide.trunks.any fun p => p.2.followed then t
  else match t.selectDomain with
    | some d => if t.time.source = 1 ∧ t.time.sel = d then t else (t.followDomain d).timeCause s.time
    | none => t.holdover.timeCause s.time

/-! ### Bridge and transparent clock (R353, R356 to R358) -/

/-- The other Ethernet port. -/
def otherPort (p : Nat) : Nat := 1 - p

/-- A frame joins a queue of a port's egress. -/
def State.queueFrame (s : State) (p q : Nat) (f : EgFrame) : State :=
  s.modTime fun x => { x with egress := tblMod [] x.egress (8 * p + q) fun l => l ++ [f] }

/-- A frame crosses the bridge to a port, into the queue of its class. -/
def State.egress (s : State) (p q : Nat) (f : EgFrame) : State :=
  (s.queueFrame p q f).modTime fun x => { x with bridged := x.bridged + 1 }

/-- What leaves a port next: its queues in strict priority, 7 first (R353). -/
def TimeSt.waiting (x : TimeSt) (p : Nat) : List EgFrame := (upTo 8).flatMap fun k => tblGet [] x.egress (8 * p + (7 - k))

/-- At T0 what a tick has brought to the egress queues has left (log entry 151). -/
def State.egressTick (s : State) : State :=
  s.modTime fun x => { x with left := [(0, x.waiting 0), (1, x.waiting 1)], egress := [] }

/-- The queue of a PTP message that is no event message: by the PCP of its tag. -/
def ptpQueue (m : PtpHdr) : Nat := if m.vid = 0 then 0 else m.pcp.val

/-- An event message's frame as it leaves; over IPv4 its UDP checksum is 0 (R357). -/
def ptpOut (m : PtpHdr) (k : Option PtpEventKind) (correction : Int) : EgFrame :=
  .ptp { m with correction := correction } k (decide (m.transport = .udp4))

/-- What the transparent clock adds in P2P mode to a Sync. -/
def State.ingressDelay (s : State) (p : Nat) (k : PtpEventKind) : Nat :=
  match k with
  | .sync => if s.p2p then (s.eth p).linkDelay else 0
  | _ => 0

def isPeer : PtpEventKind → Bool
  | .pdelayReq => true
  | .pdelayResp => true
  | _ => false

/-- A PTP message over IPv6 is forwarded unchanged, counted and recorded (R357). -/
def State.forwardV6 (s : State) (m : PtpHdr) (k : Option PtpEventKind) (queue t : Nat) : State :=
  ((s.egress (otherPort m.port.val) queue (.ptp m k false)).modTime fun x =>
    { x with v6Fwd := incSat 32 x.v6Fwd }).emitAt evPtpV6Uncorrected s.devRef [m.port.val] (some (s.timeAt t))

/-- A PTP event message crosses the bridge; its delimiter came in `t` ns after T0. -/
def State.transitOp (s : State) (m : PtpHdr) (k : PtpEventKind) (residence t : Nat) : State :=
  let ing := m.port.val
  let out := otherPort ing
  let add := residence + s.ingressDelay ing k
  if !(s.eth ing).up || !(s.eth out).up then s
  else if isPeer k && s.p2p then s
  else if m.transport = .udp6 then s.forwardV6 m (some k) 7 t
  else
    let held := k = .sync && m.twoStep
    let u := (s.egress out 7 (ptpOut m (some k) (if held then m.correction else m.correction + add * 65536))).modTime fun x => { x with residenceMax := Nat.max x.residenceMax (Nat.min residence (2 ^ 32 - 1)) }
    if held then
      let h : HeldRes := { egress := out, source := m.source, domain := m.domain, seq := m.seq, value := add, ns := s.now + t }
      u.modTime fun x => { x with held := x.held ++ [h] }
    else u

def execPtpTransit (m : PtpHdr) (kind : PtpEventKind) (x : Transit) (s : State) : Out :=
  .next (s.transitOp m kind x.residence x.t)

/-- The held residence that a Follow_Up matches. -/
def heldFor (m : PtpHdr) (now : Nat) (x : HeldRes) : Bool :=
  x.egress = otherPort m.port.val && x.source = m.source && x.domain = m.domain && x.seq = m.seq &&
    decide (now ≤ x.ns + 10000000)

/-- A Follow_Up forwarded by the transparent clock. -/
def State.followUpTransit (s : State) (m : PtpHdr) (t : Nat) : State :=
  let out := otherPort m.port.val
  if !(s.eth m.port.val).up || !(s.eth out).up then s
  else if m.transport = .udp6 then s.forwardV6 m none (ptpQueue m) t
  else match s.time.held.find? (heldFor m (s.now + t)) with
    | some h => (s.egress out (ptpQueue m) (ptpOut m none (m.correction + h.value * 65536))).modTime fun x =>
        { x with held := x.held.erase h }
    | none => ((s.egress out (ptpQueue m) (.ptp m none false)).modTime fun x => { x with fuUnmatched := incSat 32 x.fuUnmatched }).emitAt
        evTcFuUnmatched s.devRef [m.port.val, m.seq.toNat] (some (s.timeAt t))

/-- A Follow_Up that completes a two-step Sync of a domain. -/
def State.followUpServo (s : State) (m : PtpHdr) (origin : DevTime) : State :=
  match s.domOf m with
  | some d =>
    match (s.dom d).syncHeld with
    | some (h, ingress) =>
      if h.source = m.source && h.seq = m.seq && h.port = m.port then
        (s.modDom d fun x => { x with syncHeld := none }).servoSync d
          (devNs origin + corrNs (h.correction + m.correction)) (devNs ingress)
      else s
    | none => s
  | none => s

def execPtpFollowUp (m : PtpHdr) (origin : DevTime) (t : Nat) (s : State) : Out :=
  .next ((s.followUpTransit m t).followUpServo m origin)

def execTcResidenceExpiry (s : State) : Out :=
  .next (s.modTime fun x => { x with held := x.held.filter fun h => decide (s.now < h.ns + 10000000) })

/-- R356: a peer-delay request is answered on its port, in P2P mode. -/
def execPtpPdelayReq (m : PtpHdr) (ingress egress : DevTime) (s : State) : Out :=
  .next (if s.ptpTaken m && s.p2p then
      (s.modEth m.port.val fun x => { x with respSent := true, turn := (devNs egress - devNs ingress).toNat }).queueFrame m.port.val 7
        (.own .pdelayResp m.domain.toNat m.seq.toNat)
    else s)

/-- Nanoseconds of 2^log seconds. -/
def logNs (l : Int) : Nat := if 0 ≤ l then 1000000000 * 2 ^ l.toNat else 1000000000 / 2 ^ l.natAbs

/-- The interval of TIME_PDELAY_LOG has passed since the port's last request (R355). -/
def State.reqDue (s : State) (p : Nat) : Bool :=
  (s.eth p).reqNs.elim true fun n => decide (n + logNs (s.pI 0x900C s.dev) ≤ s.now + s.P)

/-- The domains that have chosen a master on a port. -/
def State.domsOn (s : State) (p : Nat) : List Nat :=
  (upTo 2).filter fun d => let x := s.dom d
    s.domP 0x9011 d = 1 && (x.state = 1 || x.state = 2) && x.port = p

/-- The Delay_Req of a domain to its master in E2E mode. -/
def State.delayReq (s : State) (p d : Nat) : State :=
  let n := ((s.dom d).delaySeq + 1) % 65536
  (s.modDom d fun x => { x with delaySeq := n, delayOut := true }).queueFrame p 7 (.own .delayReq (s.domP 0x9010 d) n)

/-- R355: the C512's own Pdelay_Req on a port, or a Delay_Req of each domain whose master is heard on it. -/
def State.requestDelay (s : State) (p : Nat) : State :=
  let t := s.modEth p fun x => { x with reqNs := some s.now }
  if s.p2p then
    let n := ((s.eth p).pdelaySeq + 1) % 65536
    (t.modEth p fun x => { x with pdelaySeq := n, pdelayOut := true }).queueFrame p 7 (.own .pdelayReq 0 n)
  else t.forEach (s.domsOn p) fun u d => u.delayReq p d

def execPdelayReqInterval (port : Fin 2) (s : State) : Out :=
  .next (if (s.eth port.val).up && s.reqDue port.val then s.requestDelay port.val else s)

/-- The mean link delay: half of the round trip less the turnaround and the correction (IEEE 1588-2019). -/
def meanLinkDelay (request response reqIngress respIngress : DevTime) (correction : Int) : Int :=
  (devNs respIngress - devNs request - (devNs response - devNs reqIngress) - corrNs correction) / 2

/-- The delay to a master: half of the way of its last Sync and of the Delay_Req (IEEE 1588-2019). -/
def pathDelayOf (sync : Int × Int) (request reqIngress : DevTime) (correction : Int) : Int :=
  (sync.2 - sync.1 + (devNs reqIngress - devNs request) - corrNs correction) / 2

/-- In E2E mode the answer to a domain's own request. -/
def State.pathResp (s : State) (m : PtpHdr) (request reqIngress : DevTime) : State :=
  match s.domOf m with
  | some d =>
    let x := s.dom d
    if s.fromMaster d m && x.delayOut && x.delaySeq = m.seq.toNat then
      s.modDom d fun y => { y with
        delayOut := false
        pathDelay := x.lastSync.elim y.pathDelay fun p => pathDelayOf p request reqIngress m.correction }
    else s
  | none => s

/-- A Pdelay_Resp sets its port's delay; a Delay_Resp, whose `reqIngress` is its master's receive time, its domain's. -/
def execPtpDelayResp (m : PtpHdr) (request response reqIngress respIngress : DevTime) (s : State) : Out :=
  let x := s.eth m.port.val
  .next (if !s.p2p then s.pathResp m request reqIngress
    else if s.ptpTaken m && x.pdelayOut && x.pdelaySeq = m.seq.toNat then
      s.modEth m.port.val fun x => { x with
        pdelayOut := false, linkDelay := (meanLinkDelay request response reqIngress respIngress m.correction).toNat }
    else s)

/-- A group address: bit 0 of the first octet. -/
def groupAddr (a : BitVec 48) : Bool := bitN a.toNat 40

/-- R353: learn the source, forward by the destination, keep the tag. -/
def State.bridgeOp (s : State) (p : Nat) (f : EthFrame) : State :=
  let t := if groupAddr f.src then s
    else s.modTime fun x => { x with fdb := tblSet x.fdb f.src.toNat p }
  let known := s.time.fdb.find? fun e => e.1 = f.dst.toNat
  let reserved := decide (0x0180C2000000 ≤ f.dst.toNat) && decide (f.dst.toNat ≤ 0x0180C200000F)
  let here := !(groupAddr f.dst) && (known.any fun e => e.2 = p)
  if reserved || here || !(s.eth (otherPort p)).up then t
  else t.egress (otherPort p) (if f.tagged then f.pcp.val else 0) (.bridged f)

def execBridgeFrame (port : Fin 2) (f : EthFrame) (s : State) : Out :=
  .next (if (s.eth port.val).up then s.bridgeOp port.val f else s)

/-- A port loses or regains its link (R463): its master's data set goes with the link, the other port's may take over. -/
def State.ethLink (s : State) (p : Nat) (up : Bool) : State :=
  let t := s.modEth p fun x => if up then { x with up := true, autoneg := true } else { pdelaySeq := x.pdelaySeq }
  if up then t
  else
    let t := t.modTime fun x => { x with
      fdb := x.fdb.filter fun e => e.2 ≠ p, egress := x.egress.filter fun e => e.1 / 8 ≠ p }
    t.forEach (upTo 2) fun u d =>
      (u.modDom d fun x => { x with best := x.best.filter fun e => e.1 ≠ p }).chooseMaster d

def execEthLinkChange (port : Fin 2) (up : Bool) (s : State) : Out :=
  .next (if s.power.reset || (s.eth port.val).up = up then s else s.ethLink port.val up)

/-! ### PPS (R370) -/

/-- TIME_PPS_MODE lets PPS_OUT pulse. -/
def State.ppsOn (s : State) : Bool :=
  match s.pU 0x900A s.dev with
  | 0 => false
  | 1 => s.time.source = 1 || s.time.source = 3
  | _ => true

def execPpsOutSecond (s : State) : Out :=
  .next (if s.ppsOn && s.time.ns = 0 then
      s.modTime fun x => { x with ppsHigh := true, ppsEndNs := s.now + s.pU 0x9009 s.dev * 1000 }
    else s)

def execPpsOutPulseEnd (s : State) : Out :=
  .next (if s.time.ppsHigh && decide (s.time.ppsEndNs ≤ s.now + s.P) then s.modTime fun x => { x with ppsHigh := false } else s)

/-- The level of PPS_OUT: high-impedance in reset and until the strap window has ended, low after a failed boot or self-test,
else under TIME_PPS_MODE (R370, Table 18.5). -/
def State.ppsOutLevel (s : State) : Option Bool :=
  if s.power.reset || !s.power.strapDone then none
  else if s.power.phase = 5 && s.health.supLost.isNone then some false
  else some (s.time.ppsHigh && s.ppsOn)

/-- The edge's time less the nearest whole second. -/
def execPpsInEdge (t : Nat) (s : State) : Out :=
  let n := (s.timeAt t).ns
  .next (s.modTime fun x => { x with
    ppsIn := if n ≤ 500000000 then (n : Int) else (n : Int) - 1000000000, ppsSeenNs := some (s.now + t) })

/-- PPS_OUT is held low where its mode forbids it. -/
def State.ppsTick (s : State) : State := if s.ppsOn then s else s.modTime fun x => { x with ppsHigh := false }

/-! ### The member's side of the cell link (R277, R289, R293, R365) -/

/-- Nanoseconds of the tick period that a CYCLE_START names in CFLAGS. -/
def cflagsP (fl : Nat) : Nat := match fl % 4 with | 1 => 62500 | 2 => 125000 | _ => 31250

/-- R277: a frame is consistent with the one before. -/
def State.linkConsistent (s : State) (c : CycleStart) (arrival : Int) : Bool :=
  let P := cflagsP c.cflags.toNat
  s.link.lastCycle = some (c.cycle - 1) && c.gen = s.link.lastGen &&
    decide (((s.P : Int) + arrival - s.link.lastArrival - P).natAbs * 10000 ≤ 100000 + P * 12 / 10)

/-- R262: the hop delay, in 0.125 ns, of an echo whose round trip took `trip` of them: half of what lies beyond the 200 ns
of the neighbour above. -/
def hopOf (trip : Nat) : Nat := (trip - 1600) / 2

/-- R263: D_p of a member, in 0.125 ns. -/
def linkDelay (c : CycleStart) (hop : Nat) : Int := (c.acc.toNat : Int) + hop + c.corr.toInt

/-- Leader's time less the member's own, ns. The leader's T0 was `arrival` after the member's own T0, less D_p (R263). -/
def State.linkError (s : State) (c : CycleStart) (arrival : Int) : Int := s.cycleError c arrival s.link.delay

/-- A locked member takes the leader's cycle number and time at its local T0; once Selide ticks are sent it only slews to them,
and after a lost link it stays in holdover until its grant (R37, R38, R365). -/
def State.adoptLink (s : State) (c : CycleStart) (arrival : Int) : State :=
  if s.link.lost then s.modLink fun x => { x with error := s.linkError c arrival }
  else if s.tick.selide || s.time.slewing then
    s.modTime fun x => { x with source := 3, remaining := s.linkError c arrival }
  else
    (s.modTick fun x => { x with cycle := c.cycle }).modTime fun x =>
      { x with sec := c.t0Sec.toNat, ns := c.t0Ns.toNat, source := 3, remaining := 0 }

/-- The member's echo: the round trip of the one sent in the tick before gives h_p; a locked member sends the next where it has
no measurement since it locked, or one of 999 ticks ago (R262). -/
def LinkSt.echo (x : LinkSt) (trip : Option Nat) : LinkSt :=
  let got := x.echoOut && trip.isSome
  let age := if got then some 0 else x.hopAge.map (· + 1)
  { x with
    hop := if got then hopOf (trip.getD 0) else x.hop, hopAge := age
    echoOut := x.locked && (age.elim true fun n => decide (998 ≤ n)) }

/-- The JOIN payload of a member (Table 9.9): it has no axis channels, and one channel to measure (R289). -/
def State.joinBytes (s : State) : List Byte :=
  bytesLE 2 (Config.linkVendor s.dev) ++ bytesLE 2 (Config.linkProduct s.dev) ++
    bytesLE 4 (s.power.fuses.serial.toNat % 2 ^ 32) ++ [0, 0, 0, 0] ++ bytesLE 2 s.link.hop ++ bytesLE 2 0 ++
    bytesLE 2 (s.power.fw.elim 0 fun x => x.release.toNat) ++ List.replicate 6 0

/-- R277: a locked member that has measured h_p and is not granted sends JOIN in the join slot of its rotation tick. -/
def State.joinDue (s : State) (c : CycleStart) : Bool :=
  s.link.locked && !s.link.joined && s.link.hopAge.isSome && c.joinStart ≠ 0 && c.cycle.toNat % 16 = s.dev - 1 && !s.link.muted

def State.sendJoin (s : State) (c : CycleStart) : State :=
  if s.joinDue c then
    (s.modLink fun x => { x with
      joinTick := some s.tick.no, joinAt := 8 * (c.joinStart.toNat : Int) - (c.acc.toNat + x.hop : Nat) }).sendFrame s.linkTrunk
        (s.frameOf s.linkTrunk 0 ftJoin (s.dev - 1) 0xFF false s.linkGen s.joinBytes none)
  else s

def State.linkCycleStartOp (s : State) (c : CycleStart) (arrival : Int) (trip : Option Nat) : State :=
  let run := if s.linkConsistent c arrival then s.link.run + 1 else 1
  let t := s.modLink fun x => ({ x with
    run := run, lastCycle := some c.cycle, lastGen := c.gen, lastArrival := arrival, seen := true
    locked := decide (8 ≤ run) || x.locked, muted := bitN c.mute.toNat (s.dev - 1) } : LinkSt).echo trip
  let t := t.modLink fun x => { x with delay := linkDelay c x.hop }
  if t.link.locked then ((t.adoptLink c arrival).timeCause s.time).sendJoin c else t

/-- A CYCLE_START frame as a member repeats it: ACC grows by its hop and repeat delays, and the CRC follows (R261, R289). -/
def State.cycleRepeat (s : State) (f : Frame) : Frame :=
  let acc := fieldAt f.payload 32 2 + s.link.hop + repeatNs8 s.linkTrunk (s.dev - 1)
  let p := f.payload.take 32 ++ bytesLE 2 (acc % 65536) ++ f.payload.drop 34
  { f with payload := p, crc := BitVec.ofNat 32 (frameCrc f.hdr p f.sub) }

/-- `arrival` is that of the frame's first symbol after the member's own T0, in ns; `trip` the round trip of an echo that
the member has measured since the frame before, in 0.125 ns (R262). A frame that R259 discards is recorded. -/
def execLinkCycleStart (f : Frame) (arrival : Int) (trip : Option Nat) (s : State) : Out :=
  .next (if s.isMember then
      match cycleStartOf s.linkTrunk (s.dev - 1) f with
      | some c => let t := s.linkCycleStartOp c arrival trip
        t.repeatDown (t.cycleRepeat f)
      | none => s.frameError s.linkTrunk 0 0xFF none
    else s)

/-- The member's grant: it sends in its LINK slots from now on (R279, R289), and takes the leader's first sub-frame with any
SEQ (R271); after LINK_LOST it slews at TIME_SLEW (R365). -/
def State.linkGranted (s : State) : State :=
  let t := s.modLink fun x => { x with
    joined := true, lost := false, missed := 0, rx := tblMod {} x.rx 0 fun y => { y with subM := {}, subW := {} } }
  if s.link.lost then
    (t.modTime fun x => { x with
      source := 3, slewing := true, slewStart := s.now, alignSlew := false, remaining := s.link.error }).timeCause s.time
  else t

/-- A GRANT frame that grants this device its slots (Table 9.10). -/
def State.grantsUs (s : State) (f : Frame) : Bool :=
  f.hdr.ftype.toNat = ftGrant && f.payload.length = 72 && fieldAt f.payload 4 1 = 0 &&
  fieldAt f.payload 0 4 = s.power.fuses.serial.toNat % 2 ^ 32

/-- The GRANT answers the JOIN of the same tick (R279). -/
def execLinkGrantReceived (f : Frame) (s : State) : Out :=
  .next (if s.isMember && s.link.locked then
      if !s.linkOk true f then s.frameError s.linkTrunk 0 0xFF none
      else if s.grantsUs f && s.link.joinTick = some s.tick.no then (s.repeatDown f).linkGranted else s.repeatDown f
    else s)

/-! ### Status words (R371) -/

def State.timeStatus (s : State) : Nat :=
  let x := s.time
  x.source % 4 + 4 * (x.sel % 2) + 8 * b2n x.slewing + 16 * b2n x.steppable + 32 * b2n x.utcValid + 64 * b2n x.leap61 +
  128 * b2n x.leap59 + 256 * b2n (x.ppsSeenNs.any fun n => decide (s.now ≤ n + 1500000000)) +
  65536 * Nat.min 65535 (rnd (absQ x.remaining)).toNat

def State.domainStatus (s : State) (d : Nat) : Nat :=
  let x := s.dom d
  x.state % 4 + 4 * b2n (s.usable d) + 8 * (x.port % 2) + 16 * b2n x.twoStep + 256 * (x.cls % 256)

end Sys2Proof.Machine
end

