-- ==== Sys2Proof/Machine/Recorder.lean ====
section
/-!
DEFINITION. The event recorder of chapter 16: rate limits, records and the ring, the mirror in the host window, and
reading by command (R449 to R462). A record's TIME is UTC as it stands at the event (log entry 46).
-/
namespace Sys2Proof.Machine

/-- Severity of an event code (R526). -/
def severity (code : Nat) : Nat := ((eventTable.find? fun e => e.1 = code).map fun e => e.2).getD 0

def knownEvent (code : Nat) : Bool := eventTable.any fun e => e.1 = code

/-- One token of a bucket, in the units of `Lim.level`. -/
def token : Nat := 512000

/-- The limits a code has after power-up (Table 16.4, R454): full. -/
def limDefault (code : Nat) : Lim :=
  let b := if code = evSuppressed ∨ code = evRecLost ∨ severity code = 5 then 0 else 32
  { burst := b, rate := 160, level := b * token }

def State.lim (s : State) (code : Nat) : Lim := tblGet (limDefault code) s.recd.lims code
def State.setLim (s : State) (code : Nat) (l : Lim) : State := s.modRec fun r => { r with lims := tblSet r.lims code l }

/-- What a tick adds to a bucket: RATE/16 tokens per second over P. -/
def refill (P rate : Nat) : Nat := rate * P / 31250

def Lim.refilled (P : Nat) (l : Lim) : Lim := { l with level := Nat.min (l.burst * token) (l.level + refill P l.rate) }

/-- R457, at each tick. -/
def State.recTick (s : State) : State :=
  s.modRec fun r => { r with lims := r.lims.map fun e => (e.1, e.2.refilled s.P) }

/-- Table 16.1. -/
def recordBytes (n : Nat) (time : List Byte) (code sev narg : Nat) (stamped : Bool) (obj cycle : Word)
    (args : List Word) : List Byte :=
  bytesLE 8 n ++ time ++ bytesLE 2 code ++ bytesLE 1 sev ++ bytesLE 1 (narg + 8 * b2n stamped) ++
    bytesLE 4 obj.toNat ++ bytesLE 4 cycle.toNat ++
    ((args.flatMap fun (w : Word) => bytesLE 4 w.toNat) ++ List.replicate 24 0).take 24 ++ bytesLE 8 n

/-- Where the mirror slot of record `n` lies (R460). -/
def mirrorOff (n : Nat) : Nat := 0x40000 + 64 * (n % 4096)

/-- One record is written: into the ring of 65,536, the mirror and REC_SEQ (R449, R453, R460). -/
def State.writeRecord (s : State) (code sev : Nat) (obj : Word) (args : List Word) (cycle : Word) (time : List Byte)
    (stamped : Bool) : State :=
  let n := s.recd.seq + 1
  let b := recordBytes n time code sev args.length stamped obj cycle args
  let s1 := (s.modRec fun r => { r with
    seq := n, records := tblSet (r.records.filter fun e => decide (n < e.1 + 65536)) n b }).winWrite (mirrorOff n) b
  if s.pU 0xB001 s.dev < sev then s1.raiseIrq 5 else s1

/-- A suppression is closed by its SUPPRESSED record. -/
def State.closeSuppression (s : State) (code : Nat) : State :=
  let l := s.lim code
  (s.writeRecord evSuppressed (severity code) s.devRef
    [BitVec.ofNat 32 code, BitVec.ofNat 32 l.count, l.first, l.last] s.tick.cycle (s.calendar (s.timeAt 0)) false).setLim code
    { l with suppressing := false }

/-- R457: one occurrence is judged. -/
def State.judge (s : State) (code : Nat) (obj : Word) (args : List Word) (cycle : Word) (time : List Byte)
    (stamped : Bool) : State :=
  let l := s.lim code
  if l.burst = 0 ∨ token ≤ l.level then
    let s1 := if l.suppressing then s.closeSuppression code else s
    let s2 := if l.burst = 0 then s1 else s1.setLim code { s1.lim code with level := l.level - token }
    s2.writeRecord code (severity code) obj args cycle time stamped
  else
    let n := if l.suppressing then { l with count := incSat 32 l.count, last := cycle }
             else { l with suppressing := true, count := 1, first := cycle, last := cycle }
    (s.setLim code n).modRec fun r => { r with suppressedTotal := incSat 64 r.suppressedTotal }

/-- The recorder takes the event at the front of its queue. -/
def State.takeEvent (s : State) : State :=
  match s.recd.queue with
  | [] => s
  | .ev code obj args cycle time stamped :: rest =>
    (s.modRec fun r => { r with queue := rest }).judge code obj args cycle time stamped
  | .lost n f time :: rest =>
    (s.modRec fun r => { r with queue := rest }).writeRecord evRecLost (severity evRecLost) s.devRef
      [BitVec.ofNat 32 n, f] f time false

/-- R429: nothing is written during a supervisor takeover. -/
def execRecWrite (s : State) : Out := .next (if s.host.suspended then s else s.takeEvent)

/-- R457, at each planning boundary. -/
def State.recBoundary (s : State) : State :=
  s.forEach s.recd.lims fun t e =>
    let l := t.lim e.1
    if l.suppressing && decide (token ≤ l.level) then t.closeSuppression e.1 else t

/-- REC_OLDEST. -/
def State.recOldest (s : State) : Nat := if s.recd.seq = 0 then 0 else s.recd.seq - 65535 + b2n (decide (s.recd.seq ≤ 65535))

/-! ### REC_LIMIT (R458) -/

/-- The value REC_LIMIT reads as. -/
def State.recLimit (s : State) : Nat :=
  let code := s.pU 0xB003 s.dev
  let l := s.lim code
  code + severity code * 2 ^ 16 + l.burst * 2 ^ 32 + l.rate * 2 ^ 48

/-- The value sets the limits of some code. -/
def recLimitOk (v : Nat) : Bool :=
  let code := field v 15 0
  field v 31 19 = 0 && (code = 0 || (knownEvent code && code ≠ evSuppressed && code ≠ evRecLost)) &&
    (field v 47 32 = 0 || field v 63 48 ≠ 0)

def Lim.limited (l : Lim) (burst rate : Nat) : Lim :=
  { l with burst := burst, rate := rate, level := Nat.min l.level (burst * token) }

def State.setRecLimit (s : State) (v : Nat) : State :=
  let set (t : State) (c : Nat) : State := t.setLim c ((t.lim c).limited (field v 47 32) (field v 63 48))
  if field v 15 0 ≠ 0 then set s (field v 15 0)
  else (eventTable.filter fun e => e.1 ≠ evSuppressed && e.1 ≠ evRecLost).foldl (fun t e => set t e.1) s

/-! ### REC_READ (R459) -/

/-- The staging area of the host window (Table 14.8). -/
def stagingOk (off len : Nat) : Bool := decide (0x80000 ≤ off) && decide (off + len ≤ winBytes)

def recReadForm (off count : Nat) : Bool :=
  off % 64 = 0 && decide (1 ≤ count) && decide (count ≤ 16384) && stagingOk off (64 * count)

/-- Bytes the device writes over whole words clear their poison (R479). -/
def State.unpoison (s : State) (off len : Nat) : State :=
  s.modHealth fun x => { x with poison := x.poison.filter fun w => !(decide (off ≤ 8 * w) && decide (8 * w + 8 ≤ off + len)) }

/-- The records of a range that the ring still holds, in ascending order. -/
def State.copyRange (s : State) (first last : Nat) : List (List Byte) :=
  (s.recd.records.filter fun e => decide (first ≤ e.1) && decide (e.1 ≤ last)).map fun e => e.2

/-- A copy goes on by at most `k` numbers of its range; a record that the ring no longer holds is left out. -/
def State.copyOn (s : State) (k : Nat) (c : RecCopy) : State × RecCopy :=
  let last := Nat.min c.last (c.next + k - 1)
  let l := s.copyRange c.next last
  let b := l.flatMap id
  ((s.winWrite (c.off + 64 * c.n) b).unpoison (c.off + 64 * c.n) b.length,
    { c with next := Nat.max c.next (last + 1), n := c.n + l.length })

/-- The recorder's slack of a tick: each copy goes on by one number at least, and by how many more is open (R459, log entry
153). -/
def State.copyTick (s : State) : State :=
  s.recd.copies.foldl (fun u c =>
    let p := u.copyOn (1 + (Config.freeWord u.free).toNat) c
    ({ p.1 with free := p.1.free + 1 } : State).modRec fun (r : RecSt) =>
      { r with copies := r.copies.map fun (d : RecCopy) => if d.hdr = c.hdr then p.2 else d }) s

/-- REC_READ at its tick of effect: the range is fixed, and copying starts. -/
def State.recReadOp (s : State) (h : Hdr) (fromSeq off count : Nat) : State :=
  let first := Nat.max fromSeq s.recOldest
  let last := Nat.min (fromSeq + count - 1) s.recd.seq
  if !recReadForm off count then s.done 0x0303 h stArg
  else if first = 0 ∨ last < first ∨ s.copyRange first last = [] then s.done 0x0303 h stNoEffect
  else
    let p := s.copyOn (1 + (Config.freeWord s.free).toNat) { hdr := h, next := first, last := last, off := off }
    (({ p.1 with free := p.1.free + 1 } : State).modRec fun r => { r with copies := r.copies ++ [p.2] }).begin h

def execRecRead (h : Hdr) (fromSeq : Word64) (winOffset : Word) (count : Word16) (s : State) : Out :=
  .next (s.recReadOp h fromSeq.toNat winOffset.toNat count.toNat)

/-- The copying of the oldest REC_READ ends with what is left of its range. -/
def execRecReadDone (s : State) : Out :=
  .next (match s.recd.copies with
    | c :: rest =>
      let p := s.copyOn (c.last + 1) c
      (p.1.modRec fun r => { r with copies := rest }).complete 0x0303 c.hdr (if p.2.n = 0 then stNoEffect else stOk) c.hdr.obj p.2.n
    | [] => s)

end Sys2Proof.Machine
end

