-- ==== Sys2Proof/Machine/Params.lean ====
section
/-!
DEFINITION. Parameters: encoding and ranges (R433), the object a number is read or written on (R434), the checks and effects
of a commit (R437, R438 and the rules of each parameter's own chapter), PARAMSET images (R439) and reading back (R440,
R441). Log entries 47 to 51.
-/
namespace Sys2Proof.Machine

/-! ### Encoding and range (R433) -/

/-- Width in bits of an integer type code below 8. -/
def tyWidth (ty : Nat) : Nat := 8 * 2 ^ (ty % 4)

/-- The VALUE encodes a value of the type within the row's range; the ends of a binary64 range are the words nearest to
them. -/
def PRow.holds (r : PRow) (v : Nat) : Bool :=
  if r.ty < 4 then decide (v < 2 ^ tyWidth r.ty) && decide (r.lo ≤ v) && decide ((v : Int) ≤ r.hi)
  else if r.ty < 8 then decide (r.lo ≤ sext 64 v) && decide (sext 64 v ≤ r.hi)
  else if r.ty = 8 then decide (v < r.nchoice)
  else
    let w := BitVec.ofNat 64 v
    f64Finite w && decide (ofF64 (toF64 r.flo) ≤ ofF64 w) && decide (ofF64 w ≤ ofF64 (toF64 r.fhi))

/-- The tick period that TICK_RATE gives, before Selide ticks too. -/
def State.rateP (s : State) : Nat :=
  match s.pU 0x0010 s.dev with
  | 1 => 62500
  | 2 => 125000
  | _ => 31250

/-- R75: a notch frequency in mHz keeps to 0.4/P. -/
def notchFits (P f : Nat) : Bool := decide (f * P ≤ 400000000000)

/-- R77: a frequency that tracking admits. -/
def trackFits (f : Nat) : Bool := decide (20000 ≤ f) && decide (f ≤ 2000000)

/-! ### CAN timing (R376) -/

/-- Time quanta of a bit times the prescaler: the divisor of 80 MHz. -/
def canDiv (w : Nat) : Nat := (field w 8 0 + 1) * (3 + field w 16 9 + field w 23 17)

/-- The fields of a timing word, `data` for the data phase. -/
def canWordOk (data : Bool) (w : Nat) : Bool :=
  let brp := field w 8 0 + 1
  let t1 := field w 16 9 + 1
  let t2 := field w 23 17 + 1
  let sjw := field w 30 24 + 1
  !bitN w 31 && decide (sjw ≤ t2) &&
    (if data then decide (brp ≤ 32) && decide (t1 ≤ 32) && decide (t2 ≤ 16) && decide (sjw ≤ 16)
     else decide (brp ≤ 512) && decide (2 ≤ t1) && decide (t1 ≤ 256) && decide (2 ≤ t2) && decide (t2 ≤ 128) &&
       decide (sjw ≤ 128))

/-- The rates of a pair of words: nominal 10 kbit/s to 1 Mbit/s, data at least that and at most 8 Mbit/s. -/
def canRatesOk (nom data : Nat) : Bool :=
  decide (canDiv nom ≤ 8000) && decide (80 ≤ canDiv nom) && decide (canDiv data ≤ canDiv nom) && decide (10 ≤ canDiv data)

/-! ### SSI (R127, R129) -/

/-- Word length W from SSI_POS_BITS, SSI_ERR, SSI_CHECK and SSI_CRC_BITS. -/
def ssiWord (pos err check crc : Nat) : Nat :=
  pos + (if err = 0 then 0 else 1) + (if check = 0 then 0 else if check = 3 then crc else 1)

/-- A port's SSI configuration after a write of one parameter. -/
def State.ssiAfter (s : State) (num idx v k : Nat) : Nat := if num = k then v else s.pU k idx

def State.ssiFits (s : State) (num idx v : Nat) : Bool :=
  let g := s.ssiAfter num idx v
  let w := ssiWord (g 0x4011) (g 0x4013) (g 0x4014) (g 0x4015)
  let inTime := decide ((w + 1) * 1000000000 + g 0x4018 * g 0x4010 ≤ (s.rateP - 1000) * g 0x4010)
  decide (8 ≤ w) && decide (w ≤ 48) && (g 0x4001 ≠ 3 || inTime)

/-! ### Position compare (R140) -/

def spanOf (l : List Int) : Int :=
  match l with
  | [] => 0
  | x :: r => r.foldl (fun m y => if m < y then y else m) x - r.foldl (fun m y => if y < m then y else m) x

/-- CMP_PERIOD serves the list and direction that a write leaves in CYCLE mode. -/
def State.cmpCycleOk (s : State) (num idx v : Nat) : Bool :=
  let g := fun k => if num = k then v else s.pU k idx
  let p := sext 64 (g 0x4044)
  g 0x4041 ≠ 2 || (p ≠ 0 && decide (p < 0) = decide (g 0x4042 = 1) && decide (spanOf (s.cmp (idx % 16)).list < p.natAbs))

/-- A CMP source that is a port must count (R140). -/
def State.cmpSourceOk (s : State) (w : Word) : Bool :=
  refClass w ≠ clsPort || s.pU 0x4001 (refIndex w) = 1 || s.pU 0x4001 (refIndex w) = 2

/-! ### Supply costs (R112) -/

/-- A cost of axis or node in a domain stays within its budget; without a domain it draws nothing. -/
def State.costFits (s : State) (domain v : Nat) : Bool :=
  match s.cell.supplies.find? fun r => r.domain = domain with
  | some r => decide (v ≤ r.budget)
  | none => true

def State.axisSupply (s : State) (a : Nat) : Nat := ((s.axisRec a).map fun r => r.supply).getD 255

/-! ### State checks of a write, before its range (R437, R448) -/

/-- R119: an axis on the port is closed, or a CMP in use takes it as source. -/
def State.portBusy (s : State) (idx : Nat) : Bool :=
  (s.cell.axes.any fun r => r.source = mkRef clsPort idx && (s.axis r.index).closed) ||
    (upTo 16).any fun k => s.cmpMode k ≠ 0 && s.cmpSrc k = mkRef clsPort idx

/-- A SELIDE_START takes effect in this tick (R36). -/
def State.selideStartDue (s : State) : Bool :=
  s.host.inflight.any fun e => e.opcode.toNat = 0x0005 && !e.begun && !e.decided && decide (e.earliest ≤ s.tick.no)

def State.paramState (s : State) (num idx v : Nat) : Nat :=
  if num = 0x0010 then (if s.selide.started || s.selideStartDue then stBusy else 0)
  else if num = 0x1003 then
    (if s.axisState idx = stReady ∨ s.axisState idx = stDisabled then 0 else stBusy)
  else if num = 0x2021 then (if v = 1 ∧ s.pU 0x4034 idx = 0 then stNotAllowed else 0)
  else if num = 0x4001 then (if s.portBusy idx then stBusy else 0)
  else if num = 0x4040 then
    (if s.cmpMode (idx % 16) ≠ 0 then stBusy
     else if s.cmpSourceOk (BitVec.ofNat 32 v) then 0 else stNotAllowed)
  else if num = 0x4041 then
    (if v ≠ 0 ∧ ((s.strap (32 + idx % 16)).unstrapped ∨ !s.cmpSourceOk (s.cmpSrc (idx % 16))) then stNotAllowed else 0)
  else if (0xA001 ≤ num ∧ num ≤ 0xA003) ∨ (0xA038 ≤ num ∧ num ≤ 0xA047) then
    (if (s.canSt (idx % 4)).mode ≠ 0 then stBusy else 0)
  else 0

/-! ### Ranges that a table row does not give alone -/

/-- R17 of a reference-valued parameter. -/
def State.refValueOk (s : State) (num v : Nat) : Bool :=
  let w := BitVec.ofNat 32 v
  if num = 0x1015 then s.objOk w
  else if num = 0x4033 ∨ num = 0x4040 then w = noRef || s.objOk w
  else true

/-- The rules of the parameter's own chapter on its value. N2_FREQ outside 20 to 2,000 Hz while N2_TRACK is ON: DESIGN CHOICE
(log entry 18). A TICK_RATE that breaks R129 on an SSI port is accepted, as R129 names other writes only (DESIGN CHOICE, log
entry 142); SSI_CRC_BITS is not held against the polynomial and the XOR that stand (DESIGN CHOICE, log entry 146). -/
def State.ownRange (s : State) (num idx v : Nat) : Bool :=
  let w := BitVec.ofNat 32 v
  if num = 0x0010 then
    let P := if v = 1 then 62500 else if v = 2 then 125000 else 31250
    s.axisList.all fun a => notchFits P (s.pU 0x2010 a) && notchFits P (s.pU 0x2018 a)
  else if num = 0x1015 then refClass w = clsAxis
  else if num = 0x2007 then v = 0 || (decide (31250 ≤ v) && decide (v ≤ 1000000))
  else if num = 0x2010 then v = 0 || (decide (10000 ≤ v) && notchFits s.rateP v)
  else if num = 0x2018 then
    (v = 0 || (decide (10000 ≤ v) && notchFits s.rateP v)) && (s.pU 0x201B idx = 0 || trackFits v)
  else if num = 0x201B then v = 0 || trackFits (s.pU 0x2018 idx)
  else if num = 0x3021 then decide (v ≤ 2147483647)
  else if num = 0x3040 ∨ num = 0x3041 then s.costFits (s.axisSupply idx) v
  else if num = 0x3042 then s.costFits (s.pU 0x3043 idx) v
  else if num = 0x3043 then
    v = 255 || (decide (v ≤ 7) && s.costFits v (s.pU 0x3042 idx))
  else if num = 0x4001 ∨ (0x4010 ≤ num ∧ num ≤ 0x4015) ∨ num = 0x4018 then
    (if num = 0x4012 then true else s.ssiFits num idx v)
  else if num = 0x4016 then decide (v < 2 ^ s.pU 0x4015 idx)
  else if num = 0x4017 then decide (v < 2 ^ s.pU 0x4015 idx)
  else if num = 0x4019 ∨ num = 0x4020 then v % 5 = 0
  else if num = 0x4033 then w = noRef || (refClass w = clsAxis && (s.axisNode (refIndex w)).isSome)
  else if num = 0x4040 then w = noRef || refClass w = clsAxis || refClass w = clsPort
  else if num = 0x4041 ∨ num = 0x4042 ∨ num = 0x4044 then s.cmpCycleOk num idx v
  else if num = 0x6002 then decide (100 ≤ v) && decide ((v + 50) * 1000 ≤ 32 * s.rateP)
  else if num = 0x7001 then decide (s.pU 0x7002 idx ≤ v)
  else if num = 0x7002 then decide (1 ≤ v) && decide (v ≤ s.pU 0x7001 idx)
  else if num = 0x9010 then v ≠ s.pU 0x9010 (idx / 2 * 2 + (1 - idx % 2))
  else if num = 0xA001 then canWordOk false v && canRatesOk v (s.pU 0xA002 idx)
  else if num = 0xA002 then canWordOk true v && canRatesOk (s.pU 0xA001 idx) v
  else if 0xA010 ≤ num ∧ num ≤ 0xA01F then !bitN v 31
  else if 0xA020 ≤ num ∧ num ≤ 0xA02F then !bitN v 31 && field v 33 32 ≠ 3 && field v 63 36 = 0
  else if 0xA038 ≤ num ∧ num ≤ 0xA03F then canWordOk false v && canRatesOk v (s.pU (num + 8) idx)
  else if 0xA040 ≤ num ∧ num ≤ 0xA047 then canWordOk true v && canRatesOk (s.pU (num - 8) idx) v
  else if num = 0xA051 ∨ num = 0xA052 then decide (v < 2 ^ 30)
  else if num = 0xB002 then recLimitOk v
  else if num = 0xB003 then knownEvent v
  else true

/-- SUP_NODE_DOMAIN takes 255 beyond its row's range. -/
def PRow.admits (r : PRow) (v : Nat) : Bool := r.holds v || (r.num = 0x3043 && v = 255)

/-- The status of one write on one object: 0 if it may be made. -/
def State.writeStatus (s : State) (r : PRow) (num idx v : Nat) : Nat :=
  if r.ro && !r.clear0 then stReadOnly
  else if r.chk && s.safety.armed then stArmed
  else if s.paramState num idx v ≠ 0 then s.paramState num idx v
  else if r.clear0 then (if v = 0 then 0 else stRange)
  else if !r.admits v then stRange
  else if !s.refValueOk num v then stBadObject
  else if !s.ownRange num idx v then stRange
  else 0

/-! ### Commit -/

/-- R63: a new reference source starts from the present reference. -/
def State.refSourceStart (s : State) (a : Nat) : State :=
  s.modAxis a fun x => { x with
    lp := { x.lp with hold := x.lp.posRef, offDv := 0, pulseLast := (s.port (s.pU 0x1010 a % 16)).count, pulseRem := 0 } }

/-- R77: tracking starts at N2_FREQ. -/
def State.trackStart (s : State) (a : Nat) : State :=
  s.modAxis a fun x => { x with lp := { x.lp with trk := { fc := s.pU 0x2018 a * 65536 } } }

/-- What the commit of a value does beside the value in force. -/
def State.committed (s : State) (num idx v : Nat) : State :=
  if num = 0x1003 then s.refSourceStart idx
  else if num = 0x1010 then (if s.pU 0x1003 idx = 1 then s.refSourceStart idx else s)
  else if num = 0x100A then
    (if s.sourceAbsolute idx then s.modAxis idx fun x => { x with commValid := true } else s)
  else if num = 0x2018 ∨ num = 0x201B then (if s.pU 0x201B idx = 1 then s.trackStart idx else s)
  else if num = 0x4001 then s.portModeCommitted (idx % 16) v
  else if num = 0x6002 then (match s.solver.selected with | some k => s.factorSlow k | none => s)
  else if num = 0x9010 ∨ num = 0x9011 then
    s.domainRestart (idx % 2)
  else if num = 0xB002 then s.setRecLimit v
  else s

/-- A counter is cleared by a write of 0 (R438). -/
def State.clearCounter (s : State) (num idx : Nat) : State :=
  if num = 0x1014 then s.modAxis idx fun x => { x with lp := { x.lp with pulseSlipAcc := 0 } }
  else if num = 0x4009 then
    (s.modPort (idx % 16) fun x => { x with illegal := 0 }).forEach (s.portAxes (idx % 16)) fun u a => u.setIllegal a 0
  else if num = 0x400A then s.modPort (idx % 16) fun x => { x with inferred := 0 }
  else if num = 0x400B then s.modPort (idx % 16) fun x => { x with indexExtra := 0 }
  else if num = 0x4046 then s.modCmp (idx % 16) fun x => { x with fired := 0 }
  else if num = 0x4047 then s.modCmp (idx % 16) fun x => { x with merged := 0 }
  else if num = 0x8014 then s.modNode (idx % 64) fun x => { x with crcErr := 0 }
  else if num = 0x8015 then s.modNode (idx % 64) fun x => { x with staleTicks := 0 }
  else if num = 0x9025 then s.modTime fun x => { x with residenceMax := 0 }
  else if num = 0x9026 then s.modTime fun x => { x with v6Fwd := 0 }
  else if num = 0x9027 then s.modTime fun x => { x with fuUnmatched := 0 }
  else if num = 0xA062 then s.modCan (idx % 4) fun x => { x with dropped := 0 }
  else if num = 0xB011 then s.modRec fun x => { x with suppressedTotal := 0 }
  else if num = 0xB012 then s.modRec fun x => { x with lostCount := 0 }
  else if num = 0xC020 then s.modHealth fun x => { x with eccCorrected := 0 }
  else if num = 0xC021 then s.modHealth fun x => { x with eccUncorrectable := 0 }
  else s

/-- The value is in force. REC_LIMIT holds no value of its own. -/
def State.commitValue (s : State) (r : PRow) (num idx v : Nat) : State :=
  if r.clear0 then s.clearCounter num idx
  else (if num = 0xB002 then s else s.setParam num idx v).committed num idx v

/-! ### The object of a parameter command (R434) -/

def PRow.classOk (r : PRow) (obj : Word) : Bool :=
  let c := refClass obj
  c = r.cls || (r.cls = clsAxis && c = clsGroup) || (r.cls = clsGroup && r.also && c = clsAxis)

/-- The objects of this device that a reference stands for, with a group's axes for an axis parameter. -/
def State.targets (s : State) (r : PRow) (obj : Word) : List Word :=
  if r.cls = clsAxis && refClass obj = clsGroup then (s.localAxes obj).map (mkRef clsAxis)
  else if refDevice obj = s.dev then [obj]
  else []

/-- What one write comes to: status, object, state. -/
structure Written where
  status : Nat
  obj : Word
  state : State
  deriving DecidableEq, Repr

/-- R437: all objects are checked, then the value commits on all of them. -/
def State.writeOne (s : State) (obj : Word) (num v : Nat) : Written :=
  match paramRow num with
  | none => { status := stBadParam, obj := obj, state := s }
  | some r =>
    let t := s.targets r obj
    if !r.classOk obj then { status := stWrongClass, obj := obj, state := s }
    else if r.cls = clsAxis && refClass obj = clsGroup && (s.axesBelow obj).isEmpty then
      { status := stNoEffect, obj := obj, state := s }
    else match t.find? fun w => s.writeStatus r num (refIndex w) v ≠ 0 with
      | some w => { status := s.writeStatus r num (refIndex w) v, obj := w, state := s }
      | none =>
        { status := stOk, obj := obj, state := s.forEach t fun u w => u.commitValue r num (refIndex w) v }

/-- One write commits and completes (R436, R437). -/
def State.commitWrite (s : State) (h : Hdr) (num v : Nat) : State :=
  let w := s.writeOne h.obj num v
  w.state.complete 0x0003 h w.status w.obj (if w.status < 16 then 0 else num)

/-- R439: the records of an image, one after the other; the first that fails ends it. -/
def State.writeAll (s : State) : Nat → List PValue → Option (Nat × Word × Nat) × State
  | _, [] => (none, s)
  | k, p :: r =>
    let w := s.writeOne p.obj p.number.toNat p.value.toNat
    if w.status < 16 then w.state.writeAll (k + 1) r
    else (some (w.status, p.obj, p.number.toNat + k * 65536), s)

def State.commitSet (s : State) (x : StagedSet) : State :=
  match s.writeAll 0 x.records with
  | (none, t) => t.done 0x0201 x.hdr stOk
  | (some e, _) => s.complete 0x0201 x.hdr e.1 e.2.1 e.2.2

/-- A write joins the staged ones at its place in acceptance order (R437). -/
def insertWrite (x : StagedWrite) : List StagedWrite → List StagedWrite
  | [] => [x]
  | y :: r => if x.seq < y.seq then x :: y :: r else y :: insertWrite x r

/-- A planning write is staged until the boundary (R436). -/
def State.stagePlan (s : State) (h : Hdr) (num : Word16) (v : Word64) : State :=
  let q := (s.openCmd (some 0x0003) h.ring.val h.tag).elim s.host.seq fun e => e.seq
  let x : StagedWrite := { hdr := h, number := num, value := v, seq := q }
  State.begin { s with par := { s.par with staged := insertWrite x s.par.staged } } h

/-- Step 2 of Table 2.3: images first, then single writes, in acceptance order. -/
def State.commitPlanning (s : State) : State :=
  let t : State := { s with par := { s.par with staged := [], sets := [] } }
  (t.forEach s.par.sets State.commitSet).forEach s.par.staged fun u w => u.commitWrite w.hdr w.number.toNat w.value.toNat

/-- R436: a write takes effect; a planning parameter waits for the boundary. -/
def State.paramWriteOp (s : State) (h : Hdr) (num v : Nat) : State :=
  match paramRow num with
  | none => s.complete 0x0003 h stBadParam h.obj num
  | some r =>
    if !r.classOk h.obj then s.complete 0x0003 h stWrongClass h.obj num
    else if r.tick || s.boundary then s.commitWrite h num v
    else s.stagePlan h (BitVec.ofNat 16 num) (BitVec.ofNat 64 v)

def execParamWrite (h : Hdr) (number : Word16) (value : Word64) (s : State) : Out :=
  .next (s.paramWriteOp h number.toNat value.toNat)

/-! ### Reading back (R440) -/

def strapBits (s : State) (first n lo : Nat) (f : Strap → Bool) : Nat :=
  (upTo n).foldl (fun v k => v + b2n (f (s.strap (first + k))) * 2 ^ (lo + k)) 0

/-- STRAP_ZS and STRAP_IO (Table 18.10). -/
def State.strapZs (s : State) : Nat := strapBits s 0 32 0 (fun x => x.high) + strapBits s 0 32 32 (fun x => x.unstrapped)
def State.strapIo (s : State) : Nat := strapBits s 32 30 0 (fun x => x.high) + strapBits s 32 30 30 (fun x => x.unstrapped)

/-- The queue that a MOTION_STATUS reference names. -/
def queueRef (cls idx : Nat) : Word := mkRef cls idx

def i64 (v : Int) : Nat := uns 64 v

/-- Axis and motion values. -/
def State.readMotion (s : State) (num cls idx : Nat) : Option Nat :=
  let x := s.axis idx
  if num = 0x1014 then some (i64 x.lp.pulseSlipAcc)
  else if num = 0x1030 then some (loopStatus x.lp x.decKept x.commValid x.softStart (s.axisHalf idx))
  else if num = 0x201E then some (if s.pU 0x201B idx = 1 then (rdiv x.lp.trk.fc 65536).toNat else s.pU 0x2018 idx)
  else if num = 0x3030 then some x.home.status
  else if 0x3048 ≤ num ∧ num ≤ 0x304F then some (tblGet 0 s.supply.levels (num - 0x3048))
  else if num = 0xD010 then some (s.motionStatus (mkRef cls idx))
  else if num = 0xD011 then some (s.queue (mkRef cls idx)).lastSegId.toNat
  else if num = 0x4035 then some (s.fbWordStatus idx)
  else if num = 0x601E then some (i64 x.dvNew)
  else none

/-- Port and compare values. -/
def State.readPort (s : State) (num idx : Nat) : Option Nat :=
  let p := s.port (idx % 16)
  let c := s.cmp (idx % 16)
  if num = 0x4008 then some (i64 p.count)
  else if num = 0x4009 then some p.illegal
  else if num = 0x400A then some p.inferred
  else if num = 0x400B then some p.indexExtra
  else if num = 0x400C then some (s.portStatus (idx % 16))
  else if num = 0x400D then some p.id.toNat
  else if num = 0x4045 then some (c.ptr % 65536)
  else if num = 0x4046 then some c.fired
  else if num = 0x4047 then some c.merged
  else if num = 0x4048 then some c.lastCycle.toNat
  else if num = 0x4049 then some c.lastT
  else none

/-- Separation and solver values. -/
def State.readSep (s : State) (num idx : Nat) : Option Nat :=
  let st := s.struct? (idx % 4)
  if num = 0x5010 then some (s.kappaOf idx)
  else if num = 0x5011 then some (s.sep.m.arm idx).kappa
  else if num = 0x5012 then some (s.sep.w.arm idx).kappa
  else if num = 0x5013 then some (s.sepStatus idx)
  else if num = 0x5014 then some (i64 (s.minMargin idx))
  else if num = 0x5015 then some (s.linkVallow idx)
  else if num = 0x5016 then some s.sep.kin.pairs.length
  else if num = 0x5017 then some s.sep.publishPub
  else if num = 0x6010 then some s.solveStatus
  else if num = 0x6011 then some s.solver.resid.toNat
  else if num = 0x6012 then some s.solver.solveEnd
  else if num = 0x6013 then some s.solver.mapped.toNat
  else if num = 0x6014 then some s.solver.unplaced
  else if num = 0x6015 then some s.poolFree
  else if num = 0x6018 then some (st.elim 0 fun x => x.generation.toNat)
  else if num = 0x6019 then some (st.elim 0 fun x => x.footprint)
  else if num = 0x601A then some (st.elim 0 fun x => x.nnzL)
  else if num = 0x601B then some (st.elim 0 fun x => x.factorEst)
  else if num = 0x601C then some (st.elim 0 fun x => x.iterEst)
  else if num = 0x601D then some (s.sigmaSt idx).new
  else none

/-- Safety and Selide values. -/
def State.readSafe (s : State) (num idx : Nat) : Option Nat :=
  let n := s.node (idx % 64)
  if num = 0x7020 then some (b2n s.safety.armed)
  else if num = 0x7021 ∨ num = 0x7022 then some s.configCrc
  else if num = 0x7023 ∨ num = 0x7024 then some (s.groupCrc idx)
  else if num = 0x7030 then some (s.zoneStatus (idx % 16))
  else if num = 0x7031 then some (s.slsLambda idx)
  else if 0x7040 ≤ num ∧ num ≤ 0x705F then some (s.siStatus (num - 0x7040))
  else if num = 0x8010 then some (s.nodeStatus (idx % 64))
  else if num = 0x8011 then some (i64 (satS 16 n.corrA))
  else if num = 0x8012 then some (i64 (satS 16 n.corrB))
  else if num = 0x8013 then some (clampI 0 65535 (s.nodeDelay (idx % 64))).toNat
  else if num = 0x8014 then some n.crcErr
  else if num = 0x8015 then some n.staleTicks
  else if 0x8020 ≤ num ∧ num ≤ 0x8023 then some (s.trunkStatus (num - 0x8020))
  else none

/-- Time, CAN and recorder values. -/
def State.readTime (s : State) (num idx : Nat) : Option Nat :=
  let x := s.time
  let d := s.dom (idx % 2)
  let c := s.canSt (idx % 4)
  if num = 0x9020 then some s.timeStatus
  else if num = 0x9021 then some (s.domainStatus (idx % 2))
  else if num = 0x9022 then some (i64 (satS 32 d.offset))
  else if num = 0x9023 then some (i64 (satS 32 d.freq))
  else if num = 0x9024 then some (i64 (satS 32 x.ppsIn))
  else if num = 0x9025 then some x.residenceMax
  else if num = 0x9026 then some x.v6Fwd
  else if num = 0x9027 then some x.fuUnmatched
  else if num = 0xA060 then some c.status
  else if num = 0xA061 then some c.tdcMeas
  else if num = 0xA062 then some c.dropped
  else if num = 0xB002 then some s.recLimit
  else if num = 0xB010 then some s.recOldest
  else if num = 0xB011 then some s.recd.suppressedTotal
  else if num = 0xB012 then some s.recd.lostCount
  else none

/-- Device, lane and health values. -/
def State.readDevice (s : State) (num idx : Nat) : Option Nat :=
  let x := s.health
  if num = 0x0018 then some s.tick.cycle.toNat
  else if num = 0x0019 then some s.tick.finishPub
  else if num = 0x001A then some s.tick.slackPub
  else if num = 0x0020 then some s.power.bist.toNat
  else if num = 0x0021 then some s.strapZs
  else if num = 0x0022 then some s.strapIo
  else if 0x0050 ≤ num ∧ num ≤ 0x0060 then some (s.laneStatus (num - 0x0050))
  else if 0x0070 ≤ num ∧ num ≤ 0x007F then some (s.userUse (num - 0x0070))
  else if 0xC010 ≤ num ∧ num ≤ 0xC014 then some (s.clk (num - 0xC010)).status
  else if 0xC018 ≤ num ∧ num ≤ 0xC01C then some (s.clk (num - 0xC018)).forecast
  else if num = 0xC020 then some x.eccCorrected
  else if num = 0xC021 then some x.eccUncorrectable
  else if num = 0xC022 then some x.scrubPasses
  else if num = 0xC023 then some x.scrubLast
  else if 0xC030 ≤ num ∧ num ≤ 0xC03D then some (tblGet 0 x.eye (num - 0xC030))
  else if num = 0xC040 then some (x.serviceNs / 1000000)
  else if num = 0xC041 then some (x.lostNs / 1000)
  else if num = 0xD020 then some (b2n (tblGet false x.halfGroups idx))
  else none

/-- The value of a parameter on one object; a number without a source of its own has the value in force. -/
def State.paramNow (s : State) (num cls idx : Nat) : Nat :=
  ((((s.readMotion num cls idx).or (s.readPort num idx)).or (s.readSep num idx)).or
    (s.readSafe num idx)).or ((s.readTime num idx).or (s.readDevice num idx)) |>.getD (s.raw num idx)

/-- The last staged value of a parameter on one object, writes ahead of images (R440). -/
def State.stagedValue (s : State) (r : PRow) (num : Nat) (obj : Word) : Option Nat :=
  let w := (s.par.staged.filter fun x => x.number.toNat = num && (s.targets r x.hdr.obj).contains obj).getLast?
  let p := ((s.par.sets.flatMap fun x => x.records).filter fun x =>
    x.number.toNat = num && (s.targets r x.obj).contains obj).getLast?
  (w.map fun x => x.value.toNat).or (p.map fun x => x.value.toNat)

def State.readOne (s : State) (r : PRow) (num : Nat) (staged : Bool) (obj : Word) : Nat :=
  let v := s.paramNow num (refClass obj) (refIndex obj)
  if staged then (s.stagedValue r num obj).getD v else v

/-- The objects of the whole cell that a read stands for (R22, R26). -/
def State.readTargets (s : State) (r : PRow) (obj : Word) : List Word :=
  if r.cls = clsAxis && refClass obj = clsGroup then (s.axesBelow obj).map (mkRef clsAxis) else [obj]

/-- The values that a read finds. What a member device holds reaches the leader in no record of Table 9.11: each such value is
a free value (log entry 60). -/
def State.readValues (s : State) (r : PRow) (num : Nat) (staged : Bool) (l : List Word) : List Nat :=
  (l.zip (upTo l.length)).map fun p =>
    if refDevice p.1 = s.dev then s.readOne r num staged p.1 else (Config.freeWord (s.free + p.2)).toNat

/-- The parameter of a PARAM_READ, as this tick leaves it; on a member an object of another device has no value here (R440). -/
def State.paramReadNow (s : State) (h : Hdr) (num : Nat) (staged : Bool) : State :=
  match paramRow num with
  | none => s.complete 0x0301 h stBadParam h.obj 0
  | some r =>
    if !r.classOk h.obj then s.complete 0x0301 h stWrongClass h.obj 0
    else if !s.isLeader ∧ refDevice h.obj ≠ s.dev then s.complete 0x0301 h stLinkMember h.obj 0
    else if r.cls = clsAxis && refClass h.obj = clsGroup && (s.axesBelow h.obj).isEmpty then
      s.complete 0x0301 h stNoEffect h.obj 0
    else
      let l := s.readTargets r h.obj
      let far := l.filter fun w => refDevice w ≠ s.dev
      if !s.isLeader ∧ !far.isEmpty then s.complete 0x0301 h stLinkMember h.obj 0
      else match s.readValues r num staged l with
        | [] => s.complete 0x0301 h stLinkMember h.obj 0
        | v :: rest =>
          ({ s with free := s.free + if far.isEmpty then 0 else l.length }).complete 0x0301 h
            (if rest.all fun w => w = v then stOk else stMixed) h.obj v

/-- The reads of this tick are answered. -/
def State.answerReads (s : State) : State :=
  (s.modHost fun x => { x with reads := [] }).forEach s.host.reads fun t e => t.paramReadNow e.1 e.2.1.toNat e.2.2

/-- R440: the value is that of after step 7, so a read in a tick whose loops have still to run waits for its end, and one that
takes effect among the commands of step 6 waits for the last of them. -/
def State.paramReadOp (s : State) (h : Hdr) (num : Word16) (staged : Bool) : State :=
  if (s.tick.selide && !s.tick.cutoff) || s.host.current.isSome then (s.begin h).modHost fun x => { x with reads := x.reads ++ [(h, num, staged)] }
  else s.paramReadNow h num.toNat staged

def execParamRead (h : Hdr) (number : Word16) (staged : Bool) (s : State) : Out := .next (s.paramReadOp h number staged)

/-- Table 15.3. -/
def PRow.info (r : PRow) : Nat :=
  r.ty + r.cls * 2 ^ 4 + b2n r.tick * 2 ^ 8 + b2n r.ro * 2 ^ 9 + b2n r.clear0 * 2 ^ 10 + b2n r.chk * 2 ^ 11 +
    b2n r.also * 2 ^ 12 + r.nchoice * 2 ^ 16

/-- R441. -/
def execParamInfo (h : Hdr) (number : Word16) (s : State) : Out :=
  .next (match paramRow number.toNat with
    | some r => s.complete 0x0302 h stOk h.obj r.info
    | none => s.done 0x0302 h stBadParam)

end Sys2Proof.Machine
end

