-- ==== Sys2Proof/Machine/Images.lean ====
section
/-!
DEFINITION. IMAGE_LOAD (R442): the CELL image (R18, R32 to R35, R81, R111, R288), the SCHEDULE image (R273 to R275), the
KINEMATICS image (R149 to R158), the SAFETY image (R214, R230, R241, R242, R270, R501) and the PARAMSET image (R439), with the
checks that involve two images (R153, R214, R275, R291). The KERNEL image is checked and accepted in Sweep.lean. Log entries
52 to 56.
-/
namespace Sys2Proof.Machine

/-- Types never fall. -/
def typesRise (rs : List ImgRec) : Bool :=
  let types := rs.map fun r => r.rtype
  (types.zip (types.drop 1)).all fun p => decide (p.1 ≤ p.2)

def ref32 (l : List Byte) (off : Nat) : Word := BitVec.ofNat 32 (fieldAt l off 4)

/-- Three signed lengths in µm. -/
def vec3At (l : List Byte) (off : Nat) : Int × Int × Int := (sfieldAt l off 4, sfieldAt l (off + 4) 4, sfieldAt l (off + 8) 4)

def quatAt (l : List Byte) (off : Nat) : Int × Int × Int × Int :=
  (sfieldAt l off 4, sfieldAt l (off + 4) 4, sfieldAt l (off + 8) 4, sfieldAt l (off + 12) 4)

/-! ### CELL -/

/-- The records of a CELL image, of every device. -/
def cellOf (gen : Word) (rs : List ImgRec) : Cell :=
  { loaded := true, generation := gen
    devs := (recsOf rs 1).map fun r =>
      { index := refIndex r.obj, serial := BitVec.ofNat 64 (fieldAt r.body 0 8), priority := fieldAt r.body 8 2,
        link := fieldAt r.body 10 1 }
    nodes := (recsOf rs 2).map fun r =>
      { index := refIndex r.obj, vendor := fieldAt r.body 0 2, product := fieldAt r.body 2 2, nserial := fieldAt r.body 4 4,
        trunk := fieldAt r.body 8 1, chain := fieldAt r.body 9 1, late := bitN (fieldAt r.body 10 1) 0,
        sensor := bitN (fieldAt r.body 10 1) 1 }
    axes := (recsOf rs 3).map fun r =>
      { index := refIndex r.obj, source := ref32 r.body 0, chan := fieldAt r.body 4 1, lane := fieldAt r.body 5 1,
        supply := fieldAt r.body 6 1, holding := bitN (fieldAt r.body 7 1) 0 }
    groups := (recsOf rs 4).map fun r =>
      { index := refIndex r.obj, parent := ref32 r.body 0, redundant := bitN (fieldAt r.body 4 4) 0,
        members := (upTo (fieldAt r.body 8 2)).map fun k => ref32 r.body (12 + 4 * k) }
    supplies := (recsOf rs 5).map fun r =>
      { domain := fieldAt r.body 0 1, budget := fieldAt r.body 4 4, rate := fieldAt r.body 8 4 } }

/-- Known types, in their order, each of its length, reserved fields 0, values in their ranges (Tables 1.9, 4.9). -/
def cellForm (rs : List ImgRec) : Bool :=
  let stage := rs.map fun r => Nat.min r.rtype 3
  ((stage.zip (stage.drop 1)).all fun p => decide (p.1 ≤ p.2)) &&
  rs.all fun r => match r.rtype with
    | 1 => r.body.length = 12 && zeroAt r.body 11 1 && (decide (fieldAt r.body 10 1 ≤ 3) || fieldAt r.body 10 1 = 255)
    | 2 => r.body.length = 12 && zeroAt r.body 11 1 && decide (fieldAt r.body 8 1 ≤ 3) && decide (fieldAt r.body 9 1 ≤ 15) &&
        decide (fieldAt r.body 10 1 < 4)
    | 3 => r.body.length = 8 && decide (fieldAt r.body 4 1 ≤ 15) &&
        (decide (fieldAt r.body 5 1 ≤ 15) || fieldAt r.body 5 1 = 255) &&
        (decide (fieldAt r.body 6 1 ≤ 7) || fieldAt r.body 6 1 = 255) && decide (fieldAt r.body 7 1 < 2)
    | 4 => r.body.length = 12 + 4 * fieldAt r.body 8 2 && zeroAt r.body 10 2 && decide (fieldAt r.body 4 4 < 2) &&
        decide (fieldAt r.body 8 2 ≤ 512)
    | 5 => r.body.length = 16 && zeroAt r.body 1 3 && zeroAt r.body 12 4 && decide (fieldAt r.body 0 1 ≤ 7)
    | _ => false

/-- A reference is one of the image's own objects; a DEVICE of a declared index, a PORT of a declared device. -/
def Cell.declares (c : Cell) (w : Word) : Bool :=
  let i := refIndex w
  refRsvd w = 0 && classRange (refClass w) ≠ 0 && (c.devs.any fun d => d.index = refDevice w) &&
  (match refClass w with
    | 1 => c.axes.any fun r => r.index = i
    | 2 => c.nodes.any fun r => r.index = i
    | 3 => i % 256 = 0 || c.groups.any fun r => r.index = i
    | _ => true)

/-- The class of the object that a CELL record declares. -/
def cellClass (rtype : Nat) : Nat :=
  match rtype with
  | 2 => clsNode
  | 3 => clsAxis
  | 4 => clsGroup
  | _ => clsDevice

/-- The GROUP records that a device checks: a member ignores those of the other devices (R34). -/
def Cell.judged (c : Cell) (dev : Nat) : List GroupRec :=
  c.groups.filter fun g => dev = 0 || g.index / 256 = dev

/-- Every OBJ has its record's class and lies on a declared device; every reference names a declared object. -/
def cellObjects (dev : Nat) (rs : List ImgRec) (c : Cell) : Bool :=
  (rs.all fun r => c.declares r.obj && refClass r.obj = cellClass r.rtype) &&
  (c.devs.all fun d => decide (d.index < 8)) &&
  (c.axes.all fun a => c.declares a.source && (refClass a.source = clsNode || refClass a.source = clsPort) &&
    refDevice a.source = a.index / 512) &&
  (c.judged dev).all fun g => g.members.all fun m => c.declares m && (refClass m = clsAxis || refClass m = clsGroup)

/-- The axes that name a node carry CHAN 0 to n − 1; those on a port carry 0 (R34, Table 1.9). -/
def chansOk (c : Cell) : Bool :=
  (c.nodes.all fun n =>
    let l := (c.axes.filter fun a => a.source = mkRef clsNode n.index).map fun a => a.chan
    sortNat l = upTo l.length) &&
  c.axes.all fun a => refClass a.source ≠ clsPort || a.chan = 0

/-- The cases of R34 that end in ST_BAD_IMAGE, after the form. -/
def cellConsistent (serial : Word64) (rs : List ImgRec) (c : Cell) : Bool :=
  noDup ((rs.filter fun r => r.rtype ≠ 5).map fun r => r.obj) &&
  noDup (c.supplies.map fun x => x.domain) &&
  noDup (c.devs.map fun d => d.serial) && (c.devs.any fun d => d.serial = serial) &&
  (c.devs.length ≠ 1 || c.devs.all fun d => d.index = 0) &&
  noDup (c.nodes.map fun n => (n.index / 64, n.trunk, n.chain)) &&
  noDup (c.nodes.map fun n => (n.vendor, n.product, n.nserial)) && chansOk c

/-- The walk over PARENT fields from a group ends at a GROUP 0 within `fuel` groups. -/
def rootReached (c : Cell) : Nat → Nat → Bool
  | 0, _ => false
  | fuel + 1, g =>
    g % 256 = 0 || (match c.groups.find? fun r => r.index = g with
      | some r => rootReached c fuel (refIndex r.parent)
      | none => false)

/-- A member may stand in a group's list: it lies on the group's device and is no GROUP 0, or it is the GROUP 0 of a member
device in a list of the leader (R18, R34). -/
def memberPlaceOk (g : Nat) (m : Word) : Bool :=
  if refClass m = clsGroup && refIndex m % 256 = 0 then g / 256 = 0 && refIndex m ≠ 0 else refDevice m = g / 256

/-- The groups whose lists name an object, once for each naming. -/
def namings (c : Cell) (w : Word) : List Nat :=
  c.groups.flatMap fun g => (g.members.filter (· = w)).map fun _ => g.index

/-- R18 and the tree rules of R34; a member checks its own tree, and that its GROUP 0 is named once, by a group of the
leader. -/
def treeOk (dev : Nat) (c : Cell) : Bool :=
  let gs := c.judged dev
  let named := gs.flatMap fun g => g.members
  noDup named && (gs.all fun g => g.members.all (memberPlaceOk g.index)) &&
  (gs.all fun g =>
    if g.index % 256 = 0 then g.parent = noRef
    else c.groups.any fun p => g.parent = mkRef clsGroup p.index && p.members.contains (mkRef clsGroup g.index)) &&
  ((c.devs.filter fun d => d.index ≠ 0 && (dev = 0 || d.index = dev)).all fun d =>
    match namings c (mkRef clsGroup (d.index * 256)) with
    | [g] => g / 256 = 0
    | _ => false) &&
  gs.all fun g => rootReached c (c.groups.length + 1) g.index

/-- R35: at most 32 axes of a device name one lane. -/
def lanesNamedOk (c : Cell) : Bool :=
  (upTo 8).all fun d => (upTo 16).all fun l =>
    decide ((c.axes.filter fun a => a.index / 512 = d && a.lane = l).length ≤ 32)

/-- R111: supply domains; R81: load-holding axes of this device; R288: the leader has the lowest PRIORITY. -/
def State.cellLimits (s : State) (dev : Nat) (c : Cell) (own : List Word) : Bool :=
  let doms := c.supplies.map fun x => x.domain
  let axes := c.axes.filter fun a => a.index / 512 = dev
  (c.supplies.all fun x => 1 ≤ x.budget && 1 ≤ x.rate) &&
  (c.axes.all fun a => a.supply = 255 || doms.contains a.supply) &&
  (own.all fun n => let d := s.pU 0x3043 (refIndex n); d = 255 || doms.contains d) &&
  decide ((axes.filter fun a => a.holding).length ≤ 64) &&
  (decide (c.devs.length ≤ 1) || (c.devs.any fun l => l.index = 0 &&
    c.devs.all fun d => d.index = 0 || decide (l.priority < d.priority)))

/-- The lowest lane that holds fewer than 32 axes. -/
def freeLane (used : List Nat) : Nat :=
  ((upTo 16).find? fun l => decide ((used.filter (· = l)).length < 32)).getD 255

/-- R35: each automatic axis, by ascending cell index, takes the lowest lane with room. -/
def chooseLanes : List Nat → List Nat → List (Nat × Nat)
  | _, [] => []
  | used, a :: r => let l := freeLane used; (a, l) :: chooseLanes (l :: used) r

/-- What a device takes from the image (R25), with every automatic lane chosen; of the other devices' trees it keeps the
order in which they declare their axes. -/
def ownCell (dev : Nat) (rs : List ImgRec) (c : Cell) : Cell :=
  let axes := c.axes.filter fun a => a.index / 512 = dev
  let auto := sortNat ((axes.filter fun a => a.lane = 255).map fun a => a.index)
  let chosen := chooseLanes ((axes.filter fun a => a.lane ≠ 255).map fun a => a.lane) auto
  let dref := mkRef clsDevice dev
  { c with
    nodes := c.nodes.filter fun n => n.index / 64 = dev
    axes := axes.map fun a => match chosen.find? fun p => p.1 = a.index with
      | some p => { a with lane := p.2 }
      | none => a
    groups := c.groups.filter fun g => g.index / 256 = dev
    farGroups := c.groups.filter fun g => g.index / 256 ≠ dev
    farAxes := c.axes.filter fun a => a.index / 512 ≠ dev
    farNodes := (c.nodes.filter fun n => n.index / 64 ≠ dev).map fun n => n.index
    supplies := ((c.supplies.zip (recsOf rs 5)).filter fun p => p.2.obj = dref).map fun p => p.1 }

/-- What an engine keeps over a new image: its joints, with their pos_org (R151). -/
def Eng.jointsOnly (e : Eng) : Eng := { joints := e.joints }

/-- What a new CELL image discards (R33), and the unarmed state that follows from it (log entry 53). The handle of the last
SOLVER_SELECT and the warm-start vector are no images and stay (R191, R202). -/
def State.discardImages (s : State) : State :=
  let loads := s.solver.loading.map fun l => (0x0202, l.hdr)
  let kern := s.lanes.loads.map fun k => (0x0201, k.hdr)
  let sets := s.par.sets.map fun x => (0x0201, x.hdr)
  let t := s.forEach (loads ++ kern ++ sets) fun u p => u.done p.1 p.2 stAborted
  let t := if t.safety.armed then (t.emit evSafeDisarmed t.devRef [t.tick.cycle.toNat]).stopAllZones 6 else t
  let sep : SepSt :=
    { m := t.sep.m.jointsOnly, w := t.sep.w.jointsOnly
      chFault := t.sep.chFault, bothFailed := t.sep.bothFailed, publishMax := t.sep.publishMax, publishPub := t.sep.publishPub }
  let saf : SafetySt :=
    { t.safety with
      img := {}, armed := false, armedCrc := 0, armedArms := [], inputs := [], tps := [], sls := [], reqs := [], mon := []
      zones := t.safety.zones.map fun p => (p.1, p.2.pinsOnly) }
  let sel : SelideSt := { t.selide with sched := {}, nodes := [], trunks := [] }
  let lns : LanesSt :=
    { t.lanes with
      kernel := none, loads := [], disabled := [], aborts := []
      log := t.lanes.log.map fun e => (e.1, { e.2 with slots := [] }) }
  let sol : SolverSt :=
    { t.solver with structs := [], loading := [], place := [], placeOf := none, solve := none, due := false, vplan := [] }
  let hlt : HealthSt := { t.health with absent := [], moving := [] }
  let par : ParamSt := { t.par with sets := [] }
  { t with
    sep := sep, solver := sol, safety := saf, selide := sel, lanes := lns, health := hlt, par := par }

/-- Requests for supply leave their queues; a waiting command completes with ST_ABORTED (R111). -/
def State.dropSupply (s : State) : State :=
  let t := s.forEach s.supply.reqs fun u r => match r.kind with
    | .enable h _ => u.done 0x0105 h stAborted
    | .wake h _ => u.done 0x010A h stAborted
    | .start _ => u
  t.modSupply fun x => { x with reqs := [] }

def State.acceptCell (s : State) (c : Cell) : State :=
  let t := s.discardImages.dropSupply
  let t := { t with cell := c }
  (t.modSupply fun x => { x with
    levels := c.supplies.foldl (fun (l : Tbl Nat) d => tblSet l d.domain (d.budget * 65536)) [] }).syncIdentity

/-- The status of a CELL image, 0 when it is accepted, and what the device takes from it. -/
def State.checkCell (s : State) (gen : Word) (rs : List ImgRec) : Nat × Cell :=
  let all := cellOf gen rs
  let dev := ((all.devs.find? fun d => d.serial = s.power.fuses.serial).map fun d => d.index).getD 0
  let c := ownCell dev rs all
  let off := s.axisList.all fun a => s.axisState a = stDisabled || s.axisState a = stAbsent
  (firstFail [(off, stBusy), (cellForm rs, stBadImage), (cellConsistent s.power.fuses.serial rs all, stBadImage),
    (cellObjects dev rs all, stBadObject), (treeOk dev all, stBadTree), (lanesNamedOk all, stNoLane),
    (s.cellLimits dev all (c.nodes.map fun n => mkRef clsNode n.index), stBadImage)], c)

/-- This device's index as the CELL image being loaded gives it (R32). -/
def State.indexIn (s : State) (img : List Byte) : Nat :=
  match imageRecs img with
  | some rs => (((recsOf rs 1).find? fun r => BitVec.ofNat 64 (fieldAt r.body 0 8) = s.power.fuses.serial).map fun r =>
      refIndex r.obj).getD 0
  | none => 0

/-! ### SCHEDULE -/

def scheduleOf (gen : Word) (rs : List ImgRec) : Schedule :=
  { loaded := true, generation := gen
    trunks := (recsOf rs 0x0401).map fun r =>
      { trunk := fieldAt r.body 0 1, role := fieldAt r.body 1 1, joinStart := fieldAt r.body 4 2 }
    slots := (recsOf rs 0x0402).map fun r =>
      { owner := r.obj, trunk := fieldAt r.body 0 1, sched := fieldAt r.body 1 1, chan := fieldAt r.body 2 1,
        dir := fieldAt r.body 3 1, slot := fieldAt r.body 4 1, spare := bitN (fieldAt r.body 5 1) 0,
        start := fieldAt r.body 8 4, length := fieldAt r.body 12 4, payload := fieldAt r.body 16 2 } }

def scheduleForm (rs : List ImgRec) : Bool :=
  typesRise rs && rs.all fun r => match r.rtype with
    | 0x0401 => r.body.length = 8 && decide (fieldAt r.body 0 1 ≤ 3) &&
        (fieldAt r.body 1 1 = 1 || fieldAt r.body 1 1 = 2) && zeroAt r.body 2 2 && zeroAt r.body 6 2
    | 0x0402 => r.body.length = 20 && decide (fieldAt r.body 0 1 ≤ 3) && decide (fieldAt r.body 4 1 ≤ 63) &&
        decide (fieldAt r.body 5 1 < 2) && zeroAt r.body 6 2 && decide (fieldAt r.body 16 2 ≤ 1024) && zeroAt r.body 18 2
    | _ => false

/-- The window of Table 9.7 for a schedule, a channel and a direction. -/
def slotWindow (sched chan dir : Nat) : Option (Nat × Nat) :=
  match sched, chan, dir with
  | 0, 0, 0 => some (500, 11500)
  | 0, 0, 1 => some (22500, 30500)
  | 0, 1, 0 => some (500, 22000)
  | 0, 1, 1 => some (22500, 30000)
  | 1, 0, 0 => some (500, 11500)
  | 1, 0, 1 => some (22500, 30500)
  | 2, 1, 0 => some (500, 11500)
  | 2, 1, 1 => some (22500, 30500)
  | _, _, _ => none

/-- The slot carries essential data: a DATA frame, or a LINK frame, each with a safety sub-frame (R255, Table 9.2). -/
def dataSlot (r : SlotRec) : Bool := r.chan = essentialChan r.sched

def slotInWindow (r : SlotRec) : Bool :=
  match slotWindow r.sched r.chan r.dir with
  | some w => decide (w.1 ≤ r.start) && decide (r.start + r.length ≤ w.2) && decide (frameNs r.payload (dataSlot r) ≤ r.length)
  | none => false

def sameChannel (a b : SlotRec) : Bool := a.trunk = b.trunk && a.sched = b.sched && a.chan = b.chan && a.dir = b.dir

/-- Two slots of one channel: different numbers, apart by the gap of R273. -/
def slotsApart (a b : SlotRec) : Bool :=
  let gap := if a.dir = 1 then 40 else 200
  a.slot ≠ b.slot && (decide (a.start + a.length + gap ≤ b.start) || decide (b.start + b.length + gap ≤ a.start))

def allApart : List SlotRec → Bool
  | [] => true
  | a :: r => (r.all fun b => !sameChannel a b || slotsApart a b) && allApart r

/-- The slot keeps clear of the trunk's join slot. -/
def clearOfJoin (t : TrunkRec) (r : SlotRec) : Bool :=
  t.joinStart = 0 || !(r.sched = 0 && r.chan = 1 && r.dir = 0) ||
    decide (r.start + r.length ≤ t.joinStart) || decide (t.joinStart + 400 ≤ r.start)

/-- The owner and the trunk of a slot agree (R274, R275). -/
def State.ownerOk (s : State) (t : TrunkRec) (r : SlotRec) : Bool :=
  if refClass r.owner = clsNode then
    t.role = 1 && !r.spare && (match s.nodeRec (refIndex r.owner) with | some n => n.trunk = r.trunk | none => false)
  else if r.spare then r.owner = s.devRef
  else t.role = 2

/-- NREP that an upstream DATA payload spells for `nax` axes. -/
def nrepOf (payload nax : Nat) : Option Nat :=
  let x := payload - 12 * nax
  if 12 * nax ≤ payload ∧ x % 132 = 0 ∧ x / 132 ≤ 7 then some (x / 132) else none

/-- The slots of one node (R275). -/
def State.nodeSlotsOk (s : State) (c : Schedule) (n : NodeRec) : Bool :=
  let nax := (s.nodeAxes (n.index % 64)).length
  let own := c.slots.filter fun r => r.owner = mkRef clsNode n.index
  let data := fun sched dir => own.filter fun r => r.sched = sched && r.dir = dir && dataSlot r
  let reps := (own.filter fun r => r.dir = 0 && dataSlot r).map fun r => nrepOf r.payload nax
  ((upTo 3).all fun sched => (upTo 2).all fun dir =>
    let k := (data sched dir).length
    if n.late then decide (k ≤ 1) else k = 1) &&
  (own.all fun r => !(r.dir = 1 && dataSlot r) || r.payload = 8 * nax) &&
  (reps.all fun x => x.isSome && (x = some 0 || n.sensor) && x = reps.headD none) &&
  own.all fun r => !(r.dir = 0 && !dataSlot r) || decide (16 * nax ≤ r.payload)

/-- The cases of R275 after the form. -/
def State.scheduleOk (s : State) (c : Schedule) : Bool :=
  noDup (c.trunks.map fun t => t.trunk) &&
  (c.trunks.all fun t => t.joinStart = 0 || (decide (500 ≤ t.joinStart) && decide (t.joinStart ≤ 21600))) &&
  (c.slots.all fun r => match c.trunks.find? fun t => t.trunk = r.trunk with
    | some t => slotInWindow r && clearOfJoin t r && s.ownerOk t r
    | none => false) &&
  allApart c.slots && s.cell.nodes.all (s.nodeSlotsOk c)

/-- R275, R153: every PERSON SLOT lies below the NREP that its node's own upstream DATA slots declare. -/
def State.personSlotsOk (s : State) (c : Schedule) (k : Kin) : Bool :=
  !c.loaded || !k.loaded || k.persons.all fun p =>
    match c.slots.find? fun r => r.owner = mkRef clsNode p.node && r.dir = 0 && dataSlot r with
    | some r => decide (p.slot < (nrepOf r.payload (s.nodeAxes (p.node % 64)).length).getD 0)
    | none => true

/-! ### KINEMATICS -/

def jointOf (b : List Byte) (o : Nat) : JointRec :=
  { prismatic := fieldAt b o 1 = 2, t := vec3At b (o + 4), q := quatAt b (o + 16), stroke := fieldAt b (o + 32) 4 }

def kinOf (gen : Word) (img : List Byte) (rs : List ImgRec) : Kin :=
  { loaded := true, generation := gen, body := img.drop 32
    chains := (recsOf rs 0x0101).map fun r =>
      { group := refIndex r.obj, b := vec3At r.body 0, bq := quatAt r.body 12, body := r.body
        joints := (upTo (fieldAt r.body 28 1)).map fun j => jointOf r.body (32 + 36 * j) }
    caps := (recsOf rs 0x0102).map fun r =>
      { index := refIndex r.obj, attach := ref32 r.body 0, link := fieldAt r.body 4 1, kind := fieldAt r.body 5 1,
        relay := bitN (fieldAt r.body 6 1) 0, p1 := vec3At r.body 8, p2 := vec3At r.body 20, radius := fieldAt r.body 32 4,
        zr := fieldAt r.body 36 4, body := r.body }
    persons := (recsOf rs 0x0103).map fun r =>
      { index := refIndex r.obj, node := refIndex (ref32 r.body 0), slot := fieldAt r.body 4 1, cIntr := fieldAt r.body 8 4,
        lat := fieldAt r.body 12 4, zdMin := fieldAt r.body 16 4 }
    excludes := (recsOf rs 0x0104).map fun r =>
      { armA := refIndex r.obj, armB := refIndex (ref32 r.body 0), ca := vec3At r.body 4, ra := fieldAt r.body 16 4,
        cb := vec3At r.body 20, rb := fieldAt r.body 32 4 } }

def jointForm (b : List Byte) (o : Nat) : Bool :=
  zeroAt b (o + 1) 3 && (fieldAt b o 1 = 2 || (fieldAt b o 1 = 1 && fieldAt b (o + 32) 4 = 0))

def kinForm (rs : List ImgRec) : Bool :=
  typesRise rs && rs.all fun r => match r.rtype with
    | 0x0101 => r.body.length = 32 + 36 * fieldAt r.body 28 1 && zeroAt r.body 29 3 &&
        (upTo (fieldAt r.body 28 1)).all fun j => jointForm r.body (32 + 36 * j)
    | 0x0102 => r.body.length = 44 && zeroAt r.body 7 1 && zeroAt r.body 40 4 &&
        (fieldAt r.body 6 1 = 0 || (fieldAt r.body 6 1 = 1 && (fieldAt r.body 5 1 = 1 || fieldAt r.body 5 1 = 2)))
    | 0x0103 => r.body.length = 20 && zeroAt r.body 5 3 && decide (fieldAt r.body 4 1 ≤ 6)
    | 0x0104 => r.body.length = 36
    | _ => false

/-- Class of a KINEMATICS record's object. -/
def kinClass (rtype : Nat) : Nat :=
  match rtype with
  | 0x0102 => clsCapsule
  | 0x0103 => clsPerson
  | _ => clsGroup

/-- The references that a KINEMATICS record carries beside its OBJ. -/
def kinRefs (r : ImgRec) : List Word :=
  match r.rtype with
  | 0x0102 => if ref32 r.body 0 = noRef then [] else [ref32 r.body 0]
  | 0x0103 => [ref32 r.body 0]
  | 0x0104 => [ref32 r.body 0]
  | _ => []

def State.kinObjects (s : State) (rs : List ImgRec) : Bool :=
  rs.all fun r => s.objOk r.obj && refClass r.obj = kinClass r.rtype &&
    (kinRefs r).all s.objOk

/-- SOURCE is a node, ATTACH and ARM_B are groups; a declared object of another class ends in ST_BAD_IMAGE (R153). -/
def kinRefClasses (rs : List ImgRec) : Bool :=
  rs.all fun r => (kinRefs r).all fun w => refClass w = if r.rtype = 0x0103 then clsNode else clsGroup

/-- R19: every arm has 1 to 16 members, all axes, is no GROUP 0, and there are at most 64. -/
def State.armsOk (s : State) (k : Kin) : Bool :=
  decide (k.chains.length ≤ 64) && k.chains.all fun c =>
    let m := s.cell.members c.group
    c.group % 256 ≠ 0 && decide (1 ≤ m.length) && decide (m.length ≤ 16) && m.all fun w => refClass w = clsAxis

/-- A quaternion in Q2.30 whose norm differs from 1 by at most 2⁻²⁰ (R153). -/
def quatOk (q : Int × Int × Int × Int) : Bool :=
  let n := q.1 * q.1 + q.2.1 * q.2.1 + q.2.2.1 * q.2.2.1 + q.2.2.2 * q.2.2.2
  decide ((2 ^ 30 - 2 ^ 10) ^ 2 ≤ n) && decide (n ≤ (2 ^ 30 + 2 ^ 10) ^ 2)

def in32m (v : Int) : Bool := decide (v.natAbs ≤ 32000000)
def posOk (p : Int × Int × Int) : Bool := in32m p.1 && in32m p.2.1 && in32m p.2.2

def sqLen (p : Int × Int × Int) : Int := p.1 * p.1 + p.2.1 * p.2.1 + p.2.2 * p.2.2

/-- Length in µm, to 2⁻⁶⁴ µm. -/
def vecLen (p : Int × Int × Int) : Rat := sqrtQ (sqLen p)

/-- The reach bound of a LINK or TOOL capsule (R150). -/
def reachOk (ch : ChainRec) (c : CapRec) : Bool :=
  let js := ch.joints.take c.link
  let rc := js.foldl (fun (a : Rat) j => a + vecLen j.t + (if j.prismatic then (j.stroke : Rat) else 0)) 0
  let rc := rc + maxQ (vecLen c.p1) (vecLen c.p2) + (c.radius : Rat)
  [ch.b.1, ch.b.2.1, ch.b.2.2].all fun x => decide ((x.natAbs : Rat) + rc ≤ 32000000)

/-- The points of an OBSTACLE stay within ±32 m with its radius (R150). -/
def obstacleOk (c : CapRec) : Bool :=
  [c.p1.1, c.p1.2.1, c.p1.2.2, c.p2.1, c.p2.2.1, c.p2.2.2].all fun x => decide (x.natAbs + c.radius ≤ 32000000)

/-- ATTACH, LINK and KIND agree and the capsule keeps to R149 and R150. -/
def State.capOk (s : State) (k : Kin) (c : CapRec) : Bool :=
  posOk c.p1 && posOk c.p2 &&
  (match c.kind with
    | 1 | 2 =>
      (match k.chains.find? fun ch => c.attach = mkRef clsGroup ch.group with
        | some ch => decide (c.link ≤ ch.joints.length) && reachOk ch c
        | none => false) &&
      (c.kind ≠ 1 || decide ((k.caps.filter fun d => d.kind = 1 && d.attach = c.attach && d.link = c.link).length ≤ 2))
    | 3 => c.attach = noRef && c.link = 0 && obstacleOk c
    | 4 => c.attach ≠ noRef && refDevice c.attach ≠ s.dev && decide (c.link ≤ 16)
    | _ => false)

def isSensor (s : State) (n : Nat) : Bool := (s.nodeRec n).elim false fun r => r.sensor

def armPair (x : ExcludeRec) : Nat × Nat := if x.armA ≤ x.armB then (x.armA, x.armB) else (x.armB, x.armA)

/-- |CA − CB| > RA + RB, between two different arms. -/
def excludeOk (k : Kin) (x : ExcludeRec) : Bool :=
  let d := (x.ca.1 - x.cb.1, x.ca.2.1 - x.cb.2.1, x.ca.2.2 - x.cb.2.2)
  posOk x.ca && posOk x.cb && decide (((x.ra + x.rb : Nat) : Int) ^ 2 < sqLen d) && x.armA ≠ x.armB &&
  (k.chains.any fun c => c.group = x.armA) && k.chains.any fun c => c.group = x.armB

/-- The cases of R153 that one image shows. -/
def State.kinOk (s : State) (rs : List ImgRec) (k : Kin) : Bool :=
  kinRefClasses rs && noDup ((rs.filter fun r => r.rtype ≠ 0x0104).map fun r => r.obj) &&
  (k.chains.all fun c => c.joints.length = (s.cell.members c.group).length && posOk c.b && quatOk c.bq &&
    c.joints.all fun j => posOk j.t && quatOk j.q) &&
  k.caps.all (s.capOk k) && (k.persons.all fun p => isSensor s p.node) &&
  noDup (k.persons.map fun p => (p.node, p.slot)) && k.excludes.all (excludeOk k) && noDup (k.excludes.map armPair)

/-- R214: an arm lies wholly in one zone. -/
def State.armsInZones (s : State) (k : Kin) (img : SafeImg) : Bool :=
  !k.loaded || !img.loaded || k.chains.all fun c => img.zones.any fun z =>
    (s.axesBelow (mkRef clsGroup c.group)).all fun a => (z.members.flatMap s.axesBelow).contains a

/-! #### The pair list (R156, R158) -/

/-- The robot pairs of a list, each once, the capsule that stands first in the image first. -/
def robotPairs (excl : List (Nat × Nat)) : List CapRec → List Pair
  | [] => []
  | c :: r =>
    (r.filter fun d => d.attach ≠ c.attach &&
        !(excl.contains (refIndex c.attach, refIndex d.attach)) && !(excl.contains (refIndex d.attach, refIndex c.attach))).map
      (fun d => { a := c.index, b := .cap d.index }) ++ robotPairs excl r

/-- The pair list: the classes of Table 6.8 in their order, capsules in image order (log entry 54). -/
def pairsOf (k : Kin) : List Pair :=
  let robots := k.caps.filter isRobot
  let others := fun kind => k.caps.filter fun c => c.kind = kind
  (robots.flatMap fun c => k.persons.flatMap fun p => (upTo 4).map fun e => { a := c.index, b := .person p.index e }) ++
  robotPairs (k.excludes.map armPair) robots ++
  (robots.flatMap fun c => (others 3).map fun d => { a := c.index, b := .cap d.index }) ++
  robots.flatMap fun c => (others 4).map fun d => { a := c.index, b := .cap d.index }

/-- Length of the pair list, without building it. -/
def robotPairCount (excl : List (Nat × Nat)) : List CapRec → Nat
  | [] => 0
  | c :: r =>
    (r.filter fun d => d.attach ≠ c.attach &&
        !(excl.contains (refIndex c.attach, refIndex d.attach)) && !(excl.contains (refIndex d.attach, refIndex c.attach))).length +
      robotPairCount excl r

def pairCount (k : Kin) : Nat :=
  let robots := k.caps.filter isRobot
  robots.length * (4 * k.persons.length + (k.caps.filter fun c => c.kind = 3 || c.kind = 4).length) +
    robotPairCount (k.excludes.map armPair) robots

/-! #### The cell link's own line of R291 -/

/-- Payload of LINK slots in one direction, of one owner or of all. -/
def linkPayload (c : Schedule) (dir : Nat) (owner : Option Word) : Nat :=
  let t := (c.trunks.filter fun t => t.role = 2).map fun t => t.trunk
  ((c.slots.filter fun r => t.contains r.trunk && r.dir = dir && !r.spare && (match owner with
    | some w => r.owner = w
    | none => true)).map fun r => r.payload).foldl (· + ·) 0

/-- Groups with a SIGMA variable that carry a relayed capsule. -/
def State.sigmaRelayed (s : State) (k : Kin) : Nat :=
  let gs := dedup ((k.caps.filter fun c => c.relay && isRobot c).map fun c => refIndex c.attach)
  (gs.filter fun g => s.solver.structs.any fun p => match p.2 with
    | some x => (x.varOf 1 (mkRef clsGroup g)).isSome
    | none => false).length

/-- Least payload of the device's own LINK slots (R291). -/
def State.relayNeed (s : State) (c : Schedule) (k : Kin) : Nat :=
  let rown := (k.caps.filter fun x => x.relay && isRobot x).length
  let sg := s.sigmaRelayed k
  if s.isLeader then
    let others := (s.cell.devs.filter fun d => d.index ≠ 0).map fun d => linkPayload c 0 (some (mkRef clsDevice d.index)) - 284
    52 * rown + 8 * sg + 284 + others.foldl (· + ·) 0
  else 52 * rown + 8 * (Nat.max s.cell.groups.length 1) + 8 * sg + 284

def State.relayFits (s : State) (c : Schedule) (k : Kin) : Bool :=
  !c.loaded || !k.loaded || !(s.isLeader || s.isMember) ||
    decide (s.relayNeed c k ≤ (if s.isLeader then linkPayload c 1 none else linkPayload c 0 (some s.devRef)))

/-! ### SAFETY -/

def safetyOf (gen : Word) (img : List Byte) (rs : List ImgRec) : SafeImg :=
  { loaded := true, generation := gen, body := img.drop 32
    tests := (recsOf rs 0x0301).map fun r =>
      { tp := fieldAt r.body 0 1, period := fieldAt r.body 2 2, width := fieldAt r.body 4 2, tail := fieldAt r.body 6 2,
        delay := fieldAt r.body 8 2 }
    inputs := (recsOf rs 0x0302).map fun r =>
      { input := fieldAt r.body 0 1, antival := fieldAt r.body 1 1 = 2, tpA := fieldAt r.body 2 1, tpB := fieldAt r.body 3 1,
        filter := fieldAt r.body 4 2, disc := fieldAt r.body 6 2, stoMap := fieldAt r.body 8 2, ss1Map := fieldAt r.body 10 2 }
    zones := (recsOf rs 0x0303).map fun r =>
      { zone := refIndex r.obj % 16, auto := fieldAt r.body 0 1 = 2
        members := (upTo (fieldAt r.body 2 2)).map fun k => ref32 r.body (4 + 4 * k) }
    sls := (recsOf rs 0x0304).map fun r =>
      { group := refIndex r.obj, input := if fieldAt r.body 0 1 = 0xFE then none else some (fieldAt r.body 0 1)
        limit := fieldAt r.body 4 4 } }

def safetyForm (rs : List ImgRec) : Bool :=
  typesRise rs && rs.all fun r => match r.rtype with
    | 0x0301 => r.body.length = 12 && zeroAt r.body 1 1 && zeroAt r.body 10 2
    | 0x0302 => r.body.length = 16 && zeroAt r.body 12 4 && (fieldAt r.body 1 1 = 1 || fieldAt r.body 1 1 = 2)
    | 0x0303 => r.body.length = 4 + 4 * fieldAt r.body 2 2 && zeroAt r.body 1 1 &&
        (fieldAt r.body 0 1 = 1 || fieldAt r.body 0 1 = 2) && decide (1 ≤ fieldAt r.body 2 2) && decide (fieldAt r.body 2 2 ≤ 512)
    | 0x0304 => r.body.length = 12 && zeroAt r.body 1 3 && zeroAt r.body 8 4
    | _ => false

def safetyClass (rtype : Nat) : Nat :=
  match rtype with
  | 0x0303 => clsZone
  | 0x0304 => clsGroup
  | _ => clsDevice

def State.safetyObjects (s : State) (rs : List ImgRec) (x : SafeImg) : Bool :=
  (rs.all fun r => s.objOk r.obj && refClass r.obj = safetyClass r.rtype && refDevice r.obj = s.dev) &&
  x.zones.all fun z => z.members.all fun w => s.objOk w && (refClass w = clsGroup || refClass w = clsAxis)

/-- R230. -/
def testOk (t : TestRec) : Bool :=
  decide (t.tp ≤ 7) && [8, 16, 32, 64, 128].contains t.period && decide (100 ≤ t.width) && decide (t.width ≤ 1000) &&
  decide (t.tail ≤ 900) && decide (t.delay + 50 ≤ t.width) && decide ((t.width + t.tail) * 8 ≤ t.period * 1000)

/-- An INPUT record within its ranges (R226, R228), its test pulses and its two maps. -/
def inputOk (x : SafeImg) (i : InputRec) : Bool :=
  let tested := fun k => x.tests.any fun t => t.tp = k
  decide (i.input ≤ 31) && (i.tpA = 255 || (decide (i.tpA ≤ 3) && tested i.tpA)) &&
  (i.tpB = 255 || (decide (4 ≤ i.tpB) && decide (i.tpB ≤ 7) && tested i.tpB)) &&
  decide (1 ≤ i.filter) && decide (1 ≤ i.disc) && decide (i.disc ≤ 4000) && i.stoMap &&& i.ss1Map = 0 &&
  (i.stoMap ≠ 0 || i.ss1Map ≠ 0 || x.sls.any fun m => m.input = some i.input)

/-- Number of zones of an image that an axis lies in. -/
def State.zonesWith (s : State) (x : SafeImg) (a : Nat) : Nat :=
  (x.zones.filter fun z => (z.members.flatMap s.axesBelow).contains a).length

/-- The axes of a node lie in one zone (R270). -/
def State.nodesInZones (s : State) (x : SafeImg) : Bool :=
  s.cell.nodes.all fun n =>
    let l := s.nodeAxes (n.index % 64)
    l.isEmpty || x.zones.any fun z => l.all fun a => (z.members.flatMap s.axesBelow).contains a

/-- The cases of R242 after the form. -/
def State.safetyOk (s : State) (x : SafeImg) : Bool :=
  noDup (x.tests.map fun t => t.tp) && noDup (x.inputs.map fun i => i.input) && noDup (x.zones.map fun z => z.zone) &&
  x.tests.all testOk && x.inputs.all (inputOk x) &&
  (x.sls.all fun m => (match m.input with | some i => decide (i ≤ 31) | none => true) && decide (1000 ≤ m.limit) &&
    decide (m.limit ≤ 5000000)) &&
  decide (x.sls.length ≤ 128) && (s.axisList.all fun a => s.zonesWith x a = 1) && s.armsInZones s.sep.kin x && s.nodesInZones x

/-- R501: no zone and no test-pulse output of the image has an unstrapped pin. -/
def State.strapsOk (s : State) (x : SafeImg) : Bool :=
  (x.zones.all fun z => !(s.strap z.zone).unstrapped && !(s.strap (16 + z.zone)).unstrapped) &&
  x.tests.all fun t => !(s.strap (48 + t.tp)).unstrapped

/-! ### IMAGE_LOAD (R442) -/

/-- The PVALUE records of a PARAMSET image (R439). -/
def pvaluesOf (rs : List ImgRec) : List PValue :=
  rs.map fun r => { obj := r.obj, number := BitVec.ofNat 16 (fieldAt r.body 0 2), value := BitVec.ofNat 64 (fieldAt r.body 8 8) }

def paramsetForm (rs : List ImgRec) : Bool :=
  rs.all fun r => r.rtype = 0x0601 && r.body.length = 16 && zeroAt r.body 2 6

/-- Every OBJ of the records is declared. -/
def State.recObjects (s : State) (rs : List ImgRec) : Bool := rs.all fun r => s.objOk r.obj

def opImageLoad : Nat := 0x0201

def State.loadCell (s : State) (h : Hdr) (gen : Word) (rs : List ImgRec) : State :=
  let r := s.checkCell gen rs
  if r.1 ≠ 0 then s.done opImageLoad h r.1 else (s.acceptCell r.2).done opImageLoad h stOk

def State.loadSchedule (s : State) (h : Hdr) (gen : Word) (rs : List ImgRec) : State :=
  let c := scheduleOf gen rs
  let slotObj := (recsOf rs 0x0402).all fun r => refClass r.obj = clsNode || refClass r.obj = clsDevice
  let trunkObj := (recsOf rs 0x0401).all fun r => refClass r.obj = clsDevice
  let e := firstFail [(scheduleForm rs, stBadImage), (s.recObjects rs && slotObj && trunkObj, stBadObject),
    (s.scheduleOk c && s.personSlotsOk c s.sep.kin, stBadImage), (s.relayFits c s.sep.kin, stCapacity)]
  if e ≠ 0 then s.done opImageLoad h e else (s.modSelide fun x => { x with sched := c }).done opImageLoad h stOk

def State.loadKinematics (s : State) (h : Hdr) (gen : Word) (img : List Byte) (rs : List ImgRec) : State :=
  let k := kinOf gen img rs
  let e := firstFail [(kinForm rs, stBadImage), (s.kinObjects rs, stBadObject), (s.armsOk k, stBadTree),
    (s.kinOk rs k && s.armsInZones k s.safety.img && s.personSlotsOk s.selide.sched k, stBadImage),
    (decide (k.caps.length ≤ 1024) && decide (k.persons.length ≤ 32) && decide (pairCount k ≤ 131072), stCapacity),
    (s.relayFits s.selide.sched k, stCapacity), (!s.safety.armed, stArmed)]
  if e ≠ 0 then s.done opImageLoad h e
  else ((s.modSolver fun y => { y with kinLoads := y.kinLoads + 1 }).modSep fun x => { x with
    kin := { k with pairs := pairsOf k }, m := x.m.jointsOnly, w := x.w.jointsOnly, pairSt := [], disagree := false,
    disCount := 0, taken := false, latchV := [] }).done opImageLoad h stOk

def State.loadSafety (s : State) (h : Hdr) (gen : Word) (img : List Byte) (rs : List ImgRec) : State :=
  let x := safetyOf gen img rs
  let e := firstFail [(safetyForm rs, stBadImage), (s.safetyObjects rs x, stBadObject), (s.safetyOk x, stBadImage),
    (!s.safety.armed, stArmed), (s.strapsOk x, stNotAllowed)]
  if e ≠ 0 then s.done opImageLoad h e
  else (s.modSafety fun y => { y with img := x, inputs := [], tps := [], sls := [] }).inputsBegin.done opImageLoad h stOk

/-- R439: the records are staged and commit at the next planning boundary. -/
def State.loadParamset (s : State) (h : Hdr) (gen : Word) (rs : List ImgRec) : State :=
  let e := firstFail [(paramsetForm rs, stBadImage), (s.recObjects rs, stBadObject)]
  if e ≠ 0 then s.done opImageLoad h e
  else
    let x : StagedSet := { hdr := h, generation := gen, records := pvaluesOf rs }
    { s.begin h with par := { s.par with sets := s.par.sets ++ [x] } }

def State.loadKernel (s : State) (h : Hdr) (gen : Word) (rs : List ImgRec) : State :=
  let e := s.kernelStatus rs
  if e ≠ 0 then s.done opImageLoad h e else s.acceptKernel h gen rs

def State.imageLoadOp (s : State) (h : Hdr) (off len : Nat) : State :=
  let img := s.winRead off len
  let dev := if imageKind img = 1 then s.indexIn img else s.dev
  let e := imageHeaderError dev img len
  let gen := imageGen img
  if winBytes < off + len then s.done opImageLoad h stArg
  else if !s.winOk off len then s.done opImageLoad h stBadImage
  else if e ≠ 0 then s.done opImageLoad h e
  else if imageKind img = 5 then s.done opImageLoad h stArg
  else if imageKind img ≠ 1 ∧ !s.cell.loaded then s.done opImageLoad h stIncomplete
  else match imageRecs img with
    | none => s.done opImageLoad h stBadImage
    | some rs =>
      match imageKind img with
      | 1 => s.loadCell h gen rs
      | 2 => s.loadSchedule h gen rs
      | 3 => s.loadKinematics h gen img rs
      | 4 => s.loadSafety h gen img rs
      | 6 => s.loadParamset h gen rs
      | _ => s.loadKernel h gen rs

def execImageLoad (h : Hdr) (winOffset length : Word) (s : State) : Out :=
  .next (s.imageLoadOp h winOffset.toNat length.toNat)

end Sys2Proof.Machine
end

