-- ==== Sys2Proof/Machine/Commands.lean ====
section
/-!
DEFINITION. IDENTIFY and LINK_STATUS (R442), DEVICE_RUN (R31, R508), ABORT (R424), and one operation that lets any host
command of Table 15.5 take effect. Log entries 57 to 59.
-/
namespace Sys2Proof.Machine

/-! ### IDENTIFY, LINK_STATUS -/

def State.identifyOp (s : State) (h : Hdr) : State := s.complete 0x0001 h stOk h.obj s.power.fuses.serial.toNat

def execIdentify (h : Hdr) (s : State) : Out := .next (s.identifyOp h)

/-- The devices of the link that are present, this one among them. A member knows of the leader, and of the members whose
records the leader repeats to it (R291). -/
def State.linkBitmap (s : State) : Nat :=
  let l := dedup ([s.dev] ++ (if s.isLeader then s.link.present else if s.linkedMember then 0 :: s.link.present else []))
  (l.map fun d => 2 ^ d).foldl (· + ·) 0 % 256

def State.linkStatusOp (s : State) (h : Hdr) : State :=
  s.complete 0x0002 h stOk h.obj (s.linkBitmap + 65536 * b2n s.isMember)

def execLinkStatus (h : Hdr) (s : State) : Out := .next (s.linkStatusOp h)

/-! ### DEVICE_RUN (R31, R508) -/

/-- KIND of the first image of Table 1.6 that is not loaded, 0 for none; a cell without solver
structures, user kernels or changed parameter values has nothing of STRUCTURE, PARAMSET and KERNEL to declare (log entry 57). -/
def State.firstMissingImage (s : State) : Nat :=
  if !s.cell.loaded then 1
  else if !s.selide.sched.loaded then 2
  else if !s.sep.kin.loaded then 3
  else if !s.safety.img.loaded then 4
  else 0

/-- The boundary at which DEVICE_RUN takes effect: working pairs enter RUN, and so does the device. -/
def State.enterRun (s : State) : State :=
  let t := s.forEach (pairNos.filter fun p => (s.pair p).state = lpStart) fun u p => u.modPair p fun x => x.enter lpRun
  t.setPhase 4

def State.deviceRunOp (s : State) (h : Hdr) : State :=
  if s.power.phase = 4 then s.done 0x0004 h stNoEffect
  else if s.power.phase ≠ 3 then s.done 0x0004 h stNotReady
  else if s.firstMissingImage ≠ 0 then s.complete 0x0004 h stIncomplete h.obj s.firstMissingImage
  else if !s.safety.armed then s.done 0x0004 h stNotReady
  else if s.linkedMember ∧ !(s.link.cmds.any fun c => c.hdr.isNone) then s.done 0x0004 h stLinkMember
  else if (s.isLeader || s.isMember) && s.boundary then s.enterRun.done 0x0004 h stOk
  else (s.begin h).modPower fun x => { x with runPend := x.runPend ++ [h] }

def execDeviceRun (h : Hdr) (s : State) : Out := .next (s.deviceRunOp h)

/-- At a planning boundary: the accepted DEVICE_RUNs take effect. -/
def State.runBoundary (s : State) : State :=
  if s.power.runPend.isEmpty then s
  else
    let t := (s.modPower fun x => { x with runPend := [] }).enterRun
    t.forEach s.power.runPend fun u h => u.done 0x0004 h stOk

/-! ### ABORT (R424) -/

/-- The command under a ring and a tag other than the ABORT itself, one whose status is open before others. -/
def State.abortTarget (s : State) (h : Hdr) (ring : Nat) (tag : Word64) : Option InFlight :=
  let l := s.host.inflight.filter fun e => e.hdr.ring.val = ring && e.hdr.tag = tag && e.hdr ≠ h && !e.orphan
  (l.find? fun e => !e.decided).or l.head?

/-- A capacity change that waits belongs to a command. -/
def CapChange.of (c : CapChange) : Option Hdr :=
  match c with
  | .migrate h _ _ => h
  | .remove h _ => some h
  | .add h _ => some h
  | .half h _ _ => some h

/-- A supply request belongs to a command. -/
def reqHdr (r : SupReq) : Option Hdr :=
  match r.kind with
  | .enable h _ => some h
  | .wake h _ => some h
  | .start _ => none

/-- The begun command still waits, and what is left when it is withdrawn; none where it has taken effect. -/
def State.withdrawn (s : State) (h : Hdr) : Option State :=
  if s.par.staged.any fun w => w.hdr = h then
    let p : ParamSt := { s.par with staged := s.par.staged.filter fun w => w.hdr ≠ h }
    some { s with par := p }
  else if s.par.sets.any fun w => w.hdr = h then
    let p : ParamSt := { s.par with sets := s.par.sets.filter fun w => w.hdr ≠ h }
    some { s with par := p }
  else if s.supply.reqs.any fun r => reqHdr r = some h then
    some (s.modSupply fun x => { x with reqs := x.reqs.filter fun r => reqHdr r ≠ some h })
  else if s.solver.loading.any fun l => l.hdr = h then
    some (s.modSolver fun x => { x with loading := x.loading.filter fun l => l.hdr ≠ h })
  else if s.health.changes.any fun c => c.of = some h then
    some (s.modHealth fun x => { x with changes := x.changes.filter fun c => c.of ≠ some h })
  else if s.recd.copies.any fun c => c.hdr = h then
    some (s.modRec fun x => { x with copies := x.copies.filter fun c => c.hdr ≠ h })
  else if s.lanes.loads.any fun k => k.hdr = h then
    some (s.modLanes fun x => { x with loads := x.loads.filter fun k => k.hdr ≠ h })
  else if (s.safety.pendArms.any fun p => p.1 = h) || s.safety.pendGroups.any fun p => p.1 = h then
    some (s.modSafety fun x => { x with
      pendArms := x.pendArms.filter fun p => p.1 ≠ h, pendGroups := x.pendGroups.filter fun p => p.1 ≠ h })
  else if s.power.runPend.contains h then
    some (s.modPower fun x => { x with runPend := x.runPend.filter fun k => k ≠ h })
  else none

/-- The bytes that lie before the unsent bytes of a NODE_SEND, and those unsent bytes. -/
def sendSpan (h : Hdr) : List (Hdr × Nat) → Nat × Nat
  | [] => (0, 0)
  | (k, n) :: r => if k = h then (0, n) else let p := sendSpan h r; (n + p.1, p.2)

/-- A NODE_SEND drops its unsent bytes. -/
def State.dropSend (s : State) (n : Nat) (h : Hdr) : State :=
  s.modNode n fun x =>
    let p := sendSpan h x.sends
    { x with service := x.service.take p.1 ++ x.service.drop (p.1 + p.2), sends := x.sends.filter fun q => q.1 ≠ h }

def State.abortBegun (s : State) (h : Hdr) (e : InFlight) : State :=
  let ok := fun (t : State) => (t.done e.opcode.toNat e.hdr stAborted).done 0x0F01 h stOk
  match s.lanes.sweeps.find? fun x => x.hdr = e.hdr with
  | some x => (s.sweepEndOp x false).done 0x0F01 h stOk
  | none =>
    match (upTo 64).find? fun n => (s.node n).sends.any fun p => p.1 = e.hdr with
    | some n => ok (s.dropSend n e.hdr)
    | none =>
      match s.withdrawn e.hdr with
      | some t => ok t
      | none => s.done 0x0F01 h stAlreadyDone

/-- The link command of a header on the leader, one that no ABORT has cancelled. -/
def State.linkCmdOf (s : State) (h : Hdr) : Option LinkCmdSt :=
  s.link.cmds.find? fun c => c.hdr = some h && !c.aborted

def State.abortOp (s : State) (h : Hdr) (tag : Word64) (ring : Nat) : State :=
  match s.abortTarget h ring tag with
  | none => s.done 0x0F01 h (if (s.ring ring).lastTags.contains tag then stAlreadyDone else stNoTarget)
  | some e =>
    if e.decided then s.done 0x0F01 h stAlreadyDone
    else match s.linkCmdOf e.hdr with
      | some c =>
        if c.goSent = some true then
          (s.begin h).modHost fun x => { x with abortWaits := x.abortWaits ++ [(h, e.hdr)] }
        else
          let t := s.modLink fun x => { x with
            cmds := x.cmds.map fun d => if d.hdr = some e.hdr && d.seq = c.seq then { d with goSent := some false, aborted := true } else d }
          (t.done e.opcode.toNat e.hdr stAborted).done 0x0F01 h stOk
      | none =>
        if e.begun then s.abortBegun h e
        else (s.done e.opcode.toNat e.hdr stAborted).done 0x0F01 h stOk

def execAbort (h : Hdr) (targetTag : Word64) (targetRing : Byte) (s : State) : Out :=
  .next (if 3 < targetRing.toNat then s.done 0x0F01 h stArg else s.abortOp h targetTag targetRing.toNat)

/-- ABORTs that wait for the completion of their target. -/
def State.settleAborts (s : State) : State :=
  s.forEach s.host.abortWaits fun t p =>
    if t.host.inflight.any fun e => e.hdr = p.2 && !e.decided then t
    else (t.modHost fun x => { x with abortWaits := x.abortWaits.filter fun q => q ≠ p }).done 0x0F01 p.1 stAlreadyDone

/-! ### Any host command takes effect -/

/-- The meaning of a host command of Table 15.5. -/
def hostOut (c : Instr) (s : State) : Option Out :=
  match c with
  | .identify h => some (execIdentify h s)
  | .linkStatus h => some (execLinkStatus h s)
  | .paramWrite h n v => some (execParamWrite h n v s)
  | .paramRead h n b => some (execParamRead h n b s)
  | .paramInfo h n => some (execParamInfo h n s)
  | .deviceRun h => some (execDeviceRun h s)
  | .selideStart h => some (execSelideStart h s)
  | .nodeUnmute h => some (execNodeUnmute h s)
  | .nodeWake h => some (execNodeWake h s)
  | .nodeSleep h => some (execNodeSleep h s)
  | .nodeSend h o l => some (execNodeSend h o l s)
  | .timeSet h a b => some (execTimeSet h a b s)
  | .safeArm h c => some (execSafeArm h c s)
  | .safeArmGroup h c => some (execSafeArmGroup h c s)
  | .safeDisarm h => some (execSafeDisarm h s)
  | .safeReset h => some (execSafeReset h s)
  | .safeStop h m => some (execSafeStop h m s)
  | .safeSls h o => some (execSafeSls h o s)
  | .move h a => some (execMove h a s)
  | .halt h => some (execHalt h s)
  | .home h => some (execHome h s)
  | .align h => some (execAlign h s)
  | .axisEnable h => some (execAxisEnable h s)
  | .axisDisable h => some (execAxisDisable h s)
  | .faultReset h => some (execFaultReset h s)
  | .cmpLoad h o n => some (execCmpLoad h o n s)
  | .sweep h a => some (execSweep h a s)
  | .imageLoad h o l => some (execImageLoad h o l s)
  | .structLoad h o l => some (execStructLoad h o l s)
  | .structDrop h => some (execStructDrop h s)
  | .solverSelect h g => some (execSolverSelect h g s)
  | .solverUpdate h g n o => some (execSolverUpdate h g n o s)
  | .canMode h m => some (execCanMode h m s)
  | .canSend h m => some (execCanSend h m s)
  | .canCancel h t => some (execCanCancel h t s)
  | .canAbd h t => some (execCanAbd h t s)
  | .canRecover h => some (execCanRecover h s)
  | .groupAdd h => some (execGroupAdd h s)
  | .groupRemove h => some (execGroupRemove h s)
  | .axisMigrate h l => some (execAxisMigrate h l s)
  | .groupHalfRate h o => some (execGroupHalfRate h o s)
  | .recRead h f o n => some (execRecRead h f o n s)
  | .abort h t r => some (execAbort h t r s)
  | _ => none

/-- A host command takes effect now. -/
def State.hostEffect (s : State) (c : Instr) : State :=
  match hostOut c s with
  | some (.next t) => t
  | _ => s

/-- What a command would answer if it took effect now, under R20: its status and the object named. A parameter write is tried
as its commit would find it, behind the writes staged before it (R437). -/
def State.probe (s : State) (h : Hdr) (c : Instr) : Nat × Word :=
  let e : InFlight := { seq := 0, hdr := h, opcode := 0, notify := false, cmd := c, earliest := 0 }
  let t := (s.modHost fun x => { x with inflight := [e], journal := [], current := none }).modRing h.ring.val fun r =>
    { r with ready := [] }
  let u := match c with
    | .paramWrite _ n v => if (paramRow n.toNat).isSome then t.commitPlanning.commitWrite h n.toNat v.toNat else t.hostEffect c
    | _ => t.hostEffect c
  match (u.ring h.ring.val).ready.find? fun x => x.tag = h.tag with
  | some x => (if x.status.toNat < 0x10 then 0 else x.status.toNat, x.obj)
  | none => (0, h.obj)

end Sys2Proof.Machine
end

