-- ==== Sys2Proof/Machine/LinkRec.lean ====
section
/-!
DEFINITION. LINK frames as a device of a cell link receives them (R259, R264, R271, R289), and the records in them that need no
command decoder (R290, R291). A record's command carries the frame that brought it and the instant at which that frame began.
-/
namespace Sys2Proof.Machine

/-! ### Reception -/

/-- The device whose frame brings a record: every record comes to a member in the leader's frames (R291). -/
def State.linkSender (s : State) (device : Nat) : Nat := if s.isLeader then device else 0

def State.linkRx (s : State) (d : Nat) : LinkRx := tblGet {} s.link.rx d

def State.modLinkRx (s : State) (d : Nat) (f : LinkRx → LinkRx) : State :=
  s.modLink fun x => { x with rx := tblMod {} x.rx d f }

def LinkRx.subAt (x : LinkRx) (e : Island) : SubSt := match e with | .madder => x.subM | .woad => x.subW
def LinkRx.setSub (x : LinkRx) (e : Island) (v : SubSt) : LinkRx :=
  match e with | .madder => { x with subM := v } | .woad => { x with subW := v }

/-- The islands that find the sub-frame of the device's last frame valid in this tick. -/
def LinkRx.islands (x : LinkRx) : List Island := [Island.madder, .woad].filter fun e => (x.subAt e).valid

/-- Both islands find it valid. -/
def LinkRx.whole (x : LinkRx) : Bool := x.subM.valid && x.subW.valid

/-- Low 4 bytes of the serial of a device of the cell (R270). -/
def State.linkSerial (s : State) (d : Nat) : Nat :=
  (s.cell.devs.find? fun r => r.index = d).elim 0 fun r => r.serial.toNat % 2 ^ 32

/-- One island judges the sub-frame of a LINK frame. -/
def State.judgeLinkSub (s : State) (e : Island) (d : Nat) (x : SubFrame) (payload : List Byte) : State :=
  let st := (s.linkRx d).subAt e
  match s.subCause e (b2n s.isMember) (s.linkSerial d) st x payload with
  | 0 => s.modLinkRx d fun y => y.setSub e { st with valid := true, first := false, lastSeq := x.seq }
  | c => (s.modLinkRx d fun y => y.setSub e { st with valid := false }).emit evSubframeError (mkRef clsDevice d) [islandCode e, c]

/-- R264, R289: the leader times a member's frame as it does a node's, and discards what a muted one sends; whether the frame
is accepted, and the state after. -/
def State.linkTiming (s : State) (d : Nat) (f : Frame) (start : Int) : Bool × State :=
  if !s.isLeader then (true, s)
  else match s.selide.sched.slots.find? fun r => r.owner = mkRef clsDevice d && r.dir = 0 && r.slot = f.hdr.slot.toNat with
    | none => (false, s)
    | some r =>
      if (s.linkRx d).mute then (false, s) else
      let o := start - r.start
      let b := s.slotBounds r.trunk r
      let dur := frameNs f.payload.length f.sub.isSome
      if decide ((b.1 : Int) ≤ start) && decide (start + dur ≤ b.2) then
        let t := s.modLinkRx d fun x => { x with pendCorr := x.pendCorr + corrStep o }
        (true, if 50 < o.natAbs then t.emit evSlotEdge (mkRef clsDevice d) [0, argI o] else t)
      else (false, (s.modLinkRx d fun x => { x with
        violations := if x.violated then x.violations else x.violations + 1, violated := true }).emit evSlotViolation
          (mkRef clsDevice d) [0, argI o])

/-- A LINK frame of device `d` arrives: whether its records count, and the state after. A frame already judged in this tick
stands for each of its records as it was judged. -/
def State.linkFrameOp (s : State) (d : Nat) (f : Frame) (start : Int) : Bool × State :=
  if (s.linkRx d).frame = some f then ((s.linkRx d).whole, s)
  else if !s.linkOk (!s.isLeader) f then (false, s.frameError s.linkTrunk 0 f.hdr.slot.toNat none)
  else match f.sub with
    | none => (false, s)
    | some x =>
      let p := s.linkTiming d f start
      if !p.1 || f.hdr.ftype.toNat ≠ ftLink then p
      else
        let t := (p.2.judgeLinkSub .madder d x f.payload).judgeLinkSub .woad d x f.payload
        ((t.linkRx d).whole, if (t.linkRx d).islands.isEmpty then t else t.modLinkRx d fun y => { y with frame := some f })

/-- A frame from the leader: a member repeats it downstream on its channel B port as well (R289). -/
def State.linkArrives (s : State) (d : Nat) (f : Frame) (start : Int) : Bool × State :=
  (s.repeatDown f).linkFrameOp d f start

/-- What a record does when the frame that brings it counts and holds it. -/
def State.viaLink (s : State) (device : Nat) (f : Frame) (start : Int) (rec : List Byte) (k : State → State) : State :=
  let p := s.linkArrives (s.linkSender device) f start
  if p.1 && (linkRecs f.payload).contains rec then k p.2 else p.2

/-! ### Cell-link records (R290, R291) -/

/-- A record of a member device has arrived; another member knows of its presence by it. -/
def State.heard (s : State) (d : Nat) : State := s.modLink fun x => { x with
  silent := tblSet x.silent d 0, present := if s.isMember && d ≠ 0 && d ≠ s.dev then addOnce x.present d else x.present }

/-- The leader repeats a member's record in its own slots of the tick. -/
def State.repeatRecord (s : State) (b : List Byte) : State :=
  if s.isLeader then s.modLink fun x => { x with relayOut := x.relayOut ++ [b] } else s

/-- The relay of a foreign capsule reaches the engines of the islands `es`. -/
def State.relayArrives (s : State) (es : List Island) (r : CapRel) : State :=
  if s.sep.kin.caps.any fun c => c.kind = 4 && c.index = r.cap.toNat then
    s.forEach es fun t e => t.modRelay e r.cap.toNat fun y => { y with arrived := some r }
  else s

def State.caprelOp (s : State) (device : Nat) (r : CapRel) : State :=
  ((s.heard device).repeatRecord (capRelBytes r)).relayArrives [.madder, .woad] r

/-- Where one island alone finds the sub-frame valid, its own engine alone takes the relay (R14, R271). -/
def execLinkCaprel (device : Fin 8) (r : CapRel) (f : Frame) (start : Int) (s : State) : Out :=
  let d := s.linkSender device.val
  let p := s.linkArrives d f start
  .next (if !(linkRecs f.payload).contains (capRelBytes r) then p.2
    else if p.1 then p.2.caprelOp device.val r
    else if (p.2.linkRx d).frame = some f then p.2.relayArrives (p.2.linkRx d).islands r
    else p.2)

def gstatOf (r : GStat) : List Byte := gstatBytes r.group.toNat r.state.toNat r.flags.toNat r.first.toNat

def execLinkGstat (device : Fin 8) (r : GStat) (f : Frame) (start : Int) (s : State) : Out :=
  .next (s.viaLink device.val f start (gstatOf r) fun t => (t.heard device.val).modLink fun x => { x with
    gstatNew := tblSet x.gstatNew r.group.toNat { state := r.state.toNat, flags := r.flags, first := r.first } })

def execLinkSigma (device : Fin 8) (group : Word16) (sigma : Word) (f : Frame) (start : Int) (s : State) : Out :=
  .next (s.viaLink device.val f start (sigmaBytes group.toNat sigma.toNat) fun t =>
    ((t.heard device.val).repeatRecord (sigmaBytes group.toNat sigma.toNat)).modLink fun x =>
      { x with sigma := tblSet x.sigma group.toNat sigma.toNat })

end Sys2Proof.Machine
end

