-- ==== Sys2Proof/Machine/LinkCmd.lean ====
section
/-!
DEFINITION. Commands forwarded over the cell link (R21, R28, R292, R435, R508): which devices a command concerns, the leader's
CMD, a member's check and answer, the go, and the tick of effect. Log entries 60 and 61.
-/
namespace Sys2Proof.Machine

/-- The member devices whose axes lie below an object of the leader's tree. -/
def State.devicesBelow (s : State) (w : Word) : List Nat :=
  dedup (((s.axesBelow w).map fun a => a / 512).filter fun d => d ≠ s.dev)

/-- A parameter of the GROUP class concerns the group itself. -/
def groupParam (op : Nat) (a : List Byte) : Bool :=
  (op = 0x0003 || op = 0x0301) && (match paramRow (fieldAt a 0 2) with | some r => r.cls = clsGroup | none => false)

/-- The member devices that a command of the leader concerns (R28); ABORT acts on the leader's own commands. -/
def State.concerned (s : State) (op : Nat) (obj : Word) (a : List Byte) : List Nat :=
  if !s.isLeader ∨ 0x0F00 ≤ op then []
  else if op = 0x0004 then s.link.present
  else if refClass obj = clsGroup && !groupParam op a then
    dedup ((if refDevice obj = 0 then [] else [refDevice obj]) ++ s.devicesBelow obj)
  else if refDevice obj = 0 then []
  else [refDevice obj]

/-- The leader has a part of its own in a forwarded command. -/
def State.ownPart (s : State) (op : Nat) (obj : Word) : Bool :=
  op = 0x0004 || (refDevice obj = s.dev && (refClass obj ≠ clsGroup || !(s.localAxes obj).isEmpty))

/-- The leader sends CMD in the downstream window of tick `t`; the command takes effect at tick `eff`. -/
def State.forward (s : State) (h : Hdr) (c : Instr) (desc : List Byte) (devs : List Nat) (t eff : Nat) : State :=
  let l : LinkCmdSt :=
    { seq := s.link.nextSeq % 65536, hdr := some h, cmd := c, effect := s.tick.cycle + BitVec.ofNat 32 (eff - s.tick.no)
      waiting := devs, tick := t, desc := desc }
  s.modLink fun x => { x with cmds := x.cmds ++ [l], nextSeq := x.nextSeq + 1 }

/-! ### The member (R292) -/

/-- The object as the member sees it: a group of the leader stands for the member's whole tree, and the leader's DEVICE for
its own. -/
def State.memberObj (s : State) (op : Nat) (obj : Word) : Word :=
  if refClass obj = clsGroup && refDevice obj ≠ s.dev then mkRef clsGroup (s.dev * 256)
  else if op = 0x0004 then s.devRef
  else obj

/-- A MOVE to a group of the leader gives a member the targets of its own axes, by their place in the depth-first order of the
whole cell (R91, log entry 60). -/
def State.memberMove (s : State) (obj : Word) (m : MoveArgs) : MoveArgs :=
  let ax := s.axesBelow obj
  if refDevice obj = s.dev then m
  else { m with targets := if ax.length = m.targets.length then
    ((ax.zip m.targets).filter fun e => decide (e.1 / 512 = s.dev)).map fun e => e.2 else [] }

/-- The command that a forwarded descriptor spells on this member. -/
def State.memberCmd (s : State) (d : Descriptor) : Option (Hdr × Instr) :=
  let h : Hdr := { ring := 0, tag := d.tag, obj := s.memberObj d.op d.obj }
  (argsOf d.op h d.arg).map fun c => (h, match c with
    | .move k m => .move k (s.memberMove d.obj m)
    | _ => c)

/-- A member receives CMD, checks the command and keeps its answer. -/
def State.linkCmdOp (s : State) (seq : Nat) (effect : Word) (desc : List Byte) : State :=
  match s.memberCmd (descriptorOf desc) with
  | none => s
  | some (h, c) =>
    let l : LinkCmdSt := { seq := seq, cmd := c, effect := effect, tick := s.tick.no, desc := desc }
    let t := s.modLink fun x => { x with cmds := x.cmds ++ [l] }
    let p := t.probe h c
    t.modLink fun x => { x with
      cmds := x.cmds.map fun y => if y.hdr.isNone && y.seq = seq then
        { y with status := BitVec.ofNat 32 p.1, obj := p.2 } else y }

def execLinkCmd (seq : Word16) (effect : Word) (descriptor : List Byte) (f : Frame) (start : Int) (s : State) : Out :=
  .next (if s.linkedMember then
      s.viaLink 0 f start (cmdBytes seq.toNat effect.toNat descriptor) fun t => t.linkCmdOp seq.toNat effect descriptor
    else s)

/-- The member runs a forwarded command whose go has come; its completion is the leader's to write. -/
def State.runForwarded (s : State) (l : LinkCmdSt) : State :=
  let d := descriptorOf l.desc
  let h : Hdr := { ring := 0, tag := d.tag, obj := s.memberObj d.op d.obj }
  let e : InFlight :=
    { seq := s.host.seq, hdr := h, opcode := BitVec.ofNat 16 d.op, notify := false, cmd := l.cmd, earliest := s.tick.no
      orphan := true }
  let t := (s.modHost fun x => { x with inflight := x.inflight ++ [e], seq := x.seq + 1 }).asCurrent s.host.seq fun u =>
    u.hostEffect l.cmd
  t.modLink fun x => { x with cmds := x.cmds.filter fun y => !(y.hdr.isNone && y.seq = l.seq) }

/-- GO 1 lets the command take effect at its tick; GO 0 cancels it. -/
def State.linkGoOp (s : State) (seq : Nat) (go : Bool) : State :=
  s.modLink fun x => { x with
    cmds := if go then x.cmds.map fun y => if y.hdr.isNone && y.seq = seq then { y with goSent := some true } else y
      else x.cmds.filter fun y => !(y.hdr.isNone && y.seq = seq) }

def execLinkCmdgo (seq : Word16) (go : Word) (f : Frame) (start : Int) (s : State) : Out :=
  .next (if s.isMember then s.viaLink 0 f start (cmdgoBytes seq.toNat go.toNat) fun t => t.linkGoOp seq.toNat (go = 1) else s)

/-- T0 of the tick of effect on a member, for the commands that `pick` names. -/
def State.memberEffects (s : State) (pick : Instr → Bool) : State :=
  s.forEach (s.link.cmds.filter fun l => l.hdr.isNone && l.goSent = some true && l.effect = s.tick.cycle && pick l.cmd)
    State.runForwarded

/-! ### The leader -/

/-- The rejecting answer whose object stands first in depth-first declaration order (R20). -/
def firstReject (order : List Word) (l : List (Nat × Word)) : Option (Nat × Word) :=
  (order.findSome? fun w => l.find? fun p => p.2 = w).or l.head?

/-- A device's answer: it is waited for no longer, and of the rejecting answers the first in declaration order stands. With
the last answer the leader checks its own part. -/
def State.linkAnswer (s : State) (c : LinkCmdSt) (h : Hdr) (device status : Nat) (obj : Word) : State :=
  let rest := c.waiting.filter fun d => d ≠ device
  let own := if rest.isEmpty && s.ownPart (descriptorOf c.desc).op h.obj then s.probe h c.cmd else (0, h.obj)
  let ans := c.answers ++ ([(status, obj), own].filter fun p => p.1 ≠ 0)
  let r := (firstReject ((s.axesBelow h.obj).map (mkRef clsAxis)) ans).getD (0, h.obj)
  s.modLink fun x => { x with
    cmds := x.cmds.map fun y => if y.hdr = some h && y.seq = c.seq then
      { y with waiting := rest, answers := ans, status := BitVec.ofNat 32 r.1, obj := r.2 } else y }

def State.linkAckOp (s : State) (device seq status : Nat) (obj : Word) : State :=
  match s.link.cmds.find? fun c => c.hdr.isSome && c.seq = seq with
  | some c => match c.hdr with
    | some h => if c.goSent.isNone && c.waiting.contains device then s.linkAnswer c h device status obj else s
    | none => s
  | none => s

def execLinkCmdack (device : Fin 8) (seq : Word16) (status obj : Word) (f : Frame) (start : Int) (s : State) : Out :=
  .next (if s.isLeader then
      s.viaLink device.val f start (cmdackBytes seq.toNat status.toNat obj.toNat) fun t =>
        t.linkAckOp device.val seq.toNat status.toNat obj
    else s)

/-- RESULT of a forwarded command that only a member carries out. No record of Table 9.11 carries a result: the serial is
that of the CELL image, the description of a parameter that of the dictionary, and a presence bitmap a free value (log
entry 60). -/
def State.farResult (s : State) (c : Instr) : Nat × State :=
  match c with
  | .identify h => (((s.cell.devs.find? fun d => d.index = refDevice h.obj).map fun d => d.serial.toNat).getD 0, s)
  | .paramInfo _ n => (((paramRow n.toNat).map PRow.info).getD 0, s)
  | .linkStatus _ => let p := s.drawNat Config.freeWord; (p.1.toNat, p.2)
  | _ => (0, s)

/-- The go of a forwarded command stands. -/
def State.goes (s : State) (c : LinkCmdSt) : Bool := (c.decide (s.tick.no + 1)).goSent = some true

/-- The leader is done with a forwarded command. -/
def State.dropLinkCmd (s : State) (c : LinkCmdSt) : State :=
  s.modLink fun x => { x with cmds := x.cmds.filter fun y => !(y.hdr.isSome && y.seq = c.seq) }

/-- A forwarded command at its tick on the leader: its own part, or the first rejecting status and object; a missing answer
gives ST_LINK_LOST. A PARAM_READ is answered by the leader at the end of the tick, and a PARAM_WRITE at its commit. -/
def State.leaderEffect (s : State) (e : InFlight) (c : LinkCmdSt) : State :=
  let t := s.dropLinkCmd c
  let num := fun (x : Instr) => match x with | .paramWrite _ n _ => n.toNat | _ => 0
  if s.goes c then
    if s.ownPart e.opcode.toNat e.hdr.obj || e.opcode = 0x0301 || e.opcode = 0x0003 then t.hostEffect e.cmd
    else
      let p := t.farResult e.cmd
      p.2.complete e.opcode.toNat e.hdr stOk e.hdr.obj p.1
  else if c.status ≠ 0 then t.complete e.opcode.toNat e.hdr c.status.toNat c.obj (num e.cmd)
  else t.done e.opcode.toNat e.hdr stLinkLost

end Sys2Proof.Machine
end

