-- ==== Sys2Proof/Machine/HostIf.lean ====
section
/-!
DEFINITION. The host interface (chapter 14): function resets (R425), the BAR0 registers (R403, R404), the host window (R405), the
rings (R415 to R419) and completions (R421 to R423). Log entries 62 to 66.
-/
namespace Sys2Proof.Machine

/-- BAR0 and the window are usable (R410); in D3hot only configuration space answers (Table 14.1). -/
def State.hostUsable (s : State) : Bool := !s.power.reset && s.power.bootState ≠ 0 && !s.host.pci.d3hot

/-! ### Resets (R425) -/

def resetCode : HostResetCause → Nat
  | .functionLevel => 1
  | .hotReset => 2
  | .linkDown => 3

/-- Every ring register except CPL_BASE. -/
def Ring.functionReset (r : Ring) : Ring := { cplLo := r.cplLo, cplHi := r.cplHi, lastTags := r.lastTags }

def State.hostResetOp (s : State) (cause : HostResetCause) : State :=
  let lost := (s.host.rings.map fun p => p.2.ready.length).foldl (· + ·) 0
  let t := s.modHost fun x => { x with
    rings := x.rings.map fun p => (p.1, p.2.functionReset), doorbells := [], irqStatus := 0, irqEnable := 0
    pci := {}, msix := [], pba := 0, resetCnt := x.resetCnt + 1
    linkUp := x.linkUp && !(cause = .linkDown)
    inflight := (x.inflight.filter fun e => !e.decided).map fun e => { e with orphan := true } }
  t.emit evHostReset t.devRef [resetCode cause, lost]

def execHostReset (cause : HostResetCause) (s : State) : Out := .next (if s.power.reset then s else s.hostResetOp cause)

/-! ### Rings (R415, R416, Table 14.5) -/

/-- The counts from `a` up to, but not including, `b`, modulo 2³². -/
def countsFrom (a : Word) : Nat → List Word
  | 0 => []
  | n + 1 => a :: countsFrom (a + 1) n

/-- The doorbell: whole descriptors are submitted, or the ring overruns. A ring in overrun only takes the value. -/
def State.tailWrite (s : State) (r : Fin 4) (v : Word) : State :=
  let x := s.ring r.val
  let t := s.modRing r.val fun y => { y with tail := v }
  if x.overrun then t
  else if (v - x.head).toNat ≤ 32 ∧ (x.tail - x.head).toNat ≤ (v - x.head).toNat then
    t.modHost fun y => { y with doorbells := y.doorbells ++ (countsFrom x.tail (v - x.tail).toNat).map fun n => (r, n) }
  else
    let u := (t.modRing r.val fun y => { y with overrun := true }).modHost fun y =>
      { y with doorbells := y.doorbells.filter fun d => d.1 ≠ r }
    u.emit evHostRingOverrun u.devRef [r.val, v.toNat, x.head.toNat]

def execCmdTailWrite (ring : Fin 4) (value : Word) (s : State) : Out :=
  .next (if s.hostUsable then s.tailWrite ring value else s)

/-- CPL_HEAD advances to at most CPL_WRITTEN; commands whose completions it passes are no longer in flight. -/
def State.headWrite (s : State) (r : Fin 4) (v : Word) : State :=
  let x := s.ring r.val
  if (x.written - x.head).toNat < (v - x.head).toNat then s
  else
    (s.modRing r.val fun y => { y with head := v }).modHost fun y => { y with
      inflight := y.inflight.filter fun e => !(e.hdr.ring = r && (match e.cplNo with
        | some n => decide ((n - x.head).toNat < (v - x.head).toNat)
        | none => false)) }

def execCplHeadWrite (ring : Fin 4) (value : Word) (s : State) : Out :=
  .next (if s.hostUsable then s.headWrite ring value else s)

/-- A RING_CTRL write (Table 14.5). -/
def State.ringCtrlWrite (s : State) (r : Fin 4) (v : Word) : State :=
  let x := s.ring r.val
  let on := v.getLsbD 0
  let t := s.modRing r.val fun y => { y with enable := on, notifyAll := v.getLsbD 2 }
  if v.getLsbD 1 && !on && x.tail = x.head then
    (t.modRing r.val fun y => { y with tail := 0, accept := 0, written := 0, head := 0, overrun := false }).modHost fun y =>
      { y with doorbells := y.doorbells.filter fun d => d.1 ≠ r }
  else t

def execRingEnable (ring : Fin 4) (value : Word) (s : State) : Out :=
  .next (if s.hostUsable then s.ringCtrlWrite ring value else s)

def execRingReset (ring : Fin 4) (value : Word) (s : State) : Out :=
  .next (if s.hostUsable then s.ringCtrlWrite ring value else s)

/-- RING_STATUS (Table 14.6). -/
def State.ringStatus (s : State) (r : Nat) : Nat :=
  let x := s.ring r
  b2n x.overrun + 2 * b2n (!x.ready.isEmpty && decide (32 ≤ (x.written - x.head).toNat)) + 4 * b2n s.host.suspended +
    256 * Nat.min 32 (x.tail - x.head).toNat

/-! ### Interrupts (R403, R404, R423) -/

/-- RW1C; a cleared CPLr starts its count afresh. A message held back by its mask is held no more once its cause is cleared, as
the PCI Express Base Specification lays down for the pending bits. -/
def State.irqClear (s : State) (mask : Word) : State :=
  s.modHost fun x => { x with
    irqStatus := x.irqStatus &&& ~~~mask, pba := x.pba &&& ~~~mask
    rings := x.rings.map fun p => if mask.getLsbD p.1 then (p.1, { p.2 with sinceIrq := 0 }) else p }

def execIrqStatusClear (mask : Word) (s : State) : Out := .next (if s.hostUsable then s.irqClear mask else s)

/-- Cause CPLr sets: no completion of the ring stays unsignalled. -/
def State.signalRing (s : State) (r : Nat) : State := (s.raiseIrq r).modRing r fun x => { x with unsignalledNs := none }

/-- The hold-off of IRQ_COAL in ns. -/
def State.holdOff (s : State) : Nat := field s.host.irqCoal.toNat 15 0 * 1000

/-- The hold-off of a ring has expired: the completion was written in the tick that began at `t`, and the hold-off may end within
the present one. -/
def execIrqCoalHoldoff (ring : Fin 4) (s : State) : Out :=
  .next (match (s.ring ring.val).unsignalledNs with
    | some t => if s.holdOff ≠ 0 ∧ t + s.holdOff < s.now + s.P then s.signalRing ring.val else s
    | none => s)

/-- Completion entry `n` (Table 14.12). -/
def cplBytes (c : Cpl) (n : Nat) : List Byte :=
  bytesLE 8 c.tag.toNat ++ bytesLE 4 c.status.toNat ++ bytesLE 4 c.obj.toNat ++ bytesLE 4 c.cycle.toNat ++
    bytesLE 2 c.opcode.toNat ++ bytesLE 1 (b2n (bitN n 5)) ++ bytesLE 1 0 ++ bytesLE 8 c.result.toNat

/-- A ready completion is written while its ring has room; it is signalled at once with NOTIFY or at the count of IRQ_COAL. -/
def State.writeCompletion (s : State) (r : Nat) (c : Cpl) (rest : List Cpl) : State :=
  let x := s.ring r
  let n := x.written
  let addr := x.cplHi.toNat * 2 ^ 32 + x.cplLo.toNat + 32 * (n.toNat % 32)
  let t := (s.modRing r fun y => { y with
      ready := rest, written := n + 1, sinceIrq := y.sinceIrq + 1
      unsignalledNs := match y.unsignalledNs with | some k => some k | none => some s.now }).modHost fun y => { y with
    hostMem := writeCells y.hostMem addr (cplBytes c n.toNat)
    journal := y.journal.map fun j => if some j.seq = c.seq then { j with written := true } else j }
  let count := field s.host.irqCoal.toNat 23 16
  if c.notify || x.notifyAll || (count ≠ 0 && decide (count ≤ x.sinceIrq + 1)) then t.signalRing r else t

def State.completionWriteOp (s : State) (r : Nat) : State :=
  let x := s.ring r
  match x.ready with
  | c :: rest => if s.host.suspended ∨ 32 ≤ (x.written - x.head).toNat then s else s.writeCompletion r c rest
  | [] => s

def execCompletionWrite (ring : Fin 4) (s : State) : Out := .next (s.completionWriteOp ring.val)

/-! ### Registers (R403) -/

/-- A read of TIME_NS. -/
def execTimeNsRead (s : State) : Out :=
  let t := s.bootClock
  .next (if s.hostUsable then t.modHost fun x => { x with
      timeNsReg := BitVec.ofNat 32 t.time.ns, timeSecLatch := BitVec.ofNat 48 t.time.sec }
    else s)

/-- A vector that is no longer masked sends the message it holds. -/
def State.msixRelease (s : State) (k : Nat) : State :=
  if bitN s.host.pba.toNat k && !bitN (tblGet {} s.host.msix k).ctrl.toNat 0 && !s.host.pci.d3hot then
    (s.modHost fun h => { h with pba := h.pba &&& ~~~(BitVec.ofNat 32 (2 ^ k)) }).raiseVector k
  else s

/-- A write of one word of the MSI-X table. -/
def State.msixWrite (s : State) (o : Nat) (v : Word) : State :=
  let k := o / 16
  (s.modHost fun x => { x with msix := tblMod {} x.msix k fun e => match o / 4 % 4 with
    | 0 => { e with addrLo := v }
    | 1 => { e with addrHi := v }
    | 2 => { e with data := v }
    | _ => { e with ctrl := v &&& 1 } }).msixRelease k

/-- BOOT_CMD (R411). -/
def State.bootCmd (s : State) (v : Word) : State :=
  let o : Out := match v.toNat with
    | 1 => execLoadFw s
    | 2 => execBurnCustKey s
    | 3 => execBurnVendorDisable s
    | _ => .next s
  match o with
  | .next t => t
  | _ => s

/-- A register of a ring, at offset `k` of its block. -/
def State.ringRegWrite (s : State) (r : Fin 4) (k : Nat) (v : Word) : State :=
  match k with
  | 0x00 => s.tailWrite r v
  | 0x08 => s.modRing r.val fun x => { x with cplLo := v &&& 0xFFFFFC00 }
  | 0x0C => s.modRing r.val fun x => { x with cplHi := v }
  | 0x14 => s.headWrite r v
  | 0x18 => s.ringCtrlWrite r v
  | _ => s

/-- A write of an aligned 32-bit register; every other write is ignored. -/
def State.regWrite (s : State) (o : Nat) (v : Word) : State :=
  if o % 4 ≠ 0 then s
  else if 0x100 ≤ o ∧ o < 0x180 then s.ringRegWrite ⟨(o - 0x100) / 0x20 % 4, Nat.mod_lt _ (by decide)⟩ ((o - 0x100) % 0x20) v
  else if 0x240 ≤ o ∧ o ≤ 0x27C then s.modHost fun x => { x with scratch := cellWrite x.scratch ((o - 0x240) / 4) v }
  else if 0x8000 ≤ o ∧ o < 0x8200 then s.msixWrite (o - 0x8000) v
  else match o with
    | 0x24 => s.bootCmd v
    | 0x28 => s.modHost fun x => { x with bootCmdArg0 := v }
    | 0x2C => s.modHost fun x => { x with bootCmdArg1 := v }
    | 0x200 => s.irqClear v
    | 0x204 => s.modHost fun x => { x with irqEnable := v &&& 0x7FFF }
    | 0x208 => s.modHost fun x => { x with irqCoal := v &&& 0xFFFFFF }
    | _ => s

/-- A write of an aligned word of configuration space: COMMAND, the base addresses by their sizes, and the power state in the
power management capability, which stands at 0x40 (log entry 154). -/
def State.cfgSpaceWrite (s : State) (o : Nat) (v : Word) : State :=
  let put := fun (f : PciCfg → PciCfg) => s.modHost fun x => { x with pci := f x.pci }
  match o with
  | 0x04 => put fun x => { x with command := BitVec.ofNat 16 v.toNat &&& 0x0546 }
  | 0x10 => put fun x => { x with bar0 := v &&& 0xFFFF0000 }
  | 0x18 => put fun x => { x with bar2 := v &&& 0xFFC00000 }
  | 0x1C => put fun x => { x with bar3 := v }
  | 0x44 =>
    if field v.toNat 1 0 = 3 then put fun x => { x with d3hot := true }
    else if field v.toNat 1 0 = 0 then (put fun x => { x with d3hot := false }).forEach (upTo 32) State.msixRelease
    else s
  | _ => s

/-- A write of the host: an offset below 64 KB lies in BAR0; those from there on stand for configuration space, which no row of
its own writes (log entry 154). -/
def execRegisterWrite (offset : Nat) (value : Word) (s : State) : Out :=
  .next (if offset < 65536 then (if s.hostUsable then s.regWrite offset value else s)
    else if s.power.reset || !s.host.linkUp then s
    else s.cfgSpaceWrite (offset - 65536) value)

/-! ### The window (R405, Table 14.8) -/

/-- The areas that a host may write whole: rings 0 to 3 and the staging area. -/
def hostArea (off len : Nat) : Bool :=
  (decide (0x1000 ≤ off) && decide (off + len ≤ 0x9000)) || decide (stagingBase ≤ off)

/-- The word of a controller's area, 4 or 12 bytes in, that a write lies in: controller and offset. -/
def canWordAt (off len : Nat) : Option (Nat × Nat) :=
  if off < 0x18000 ∨ 0x20000 ≤ off then none
  else
    let k := (off - 0x18000) / 8192
    let o := (off - 0x18000) % 8192
    if 4 ≤ o ∧ o + len ≤ 8 then some (k, 4) else if 12 ≤ o ∧ o + len ≤ 16 then some (k, 12) else none

/-- The write lies in the RD word of a node service area. -/
def nodeRdAt (off len : Nat) : Bool :=
  decide (0x20000 ≤ off) && decide (off < 0x40000) && decide (4 ≤ (off - 0x20000) % 2048) &&
    decide ((off - 0x20000) % 2048 + len ≤ 8)

/-- A word of the window with `data` laid over it from `off`. -/
def State.wordOver (s : State) (base off : Nat) (data : List Byte) : Nat :=
  leNat (s.winRead base (off - base) ++ data ++ s.winRead (off + data.length) (base + 4 - off - data.length))

def State.windowWrite (s : State) (off : Nat) (data : List Byte) : State :=
  let n := data.length
  match canWordAt off n with
  | some (k, w) =>
    let base := 0x18000 + 8192 * k + w
    let v := s.wordOver base off data
    (if w = 4 then s.canRxRd k v else s.canEvRd k v).unpoison off n
  | none =>
    if hostArea off n || nodeRdAt off n then (s.winWrite off data).unpoison off n
    else s.emit evHostWriteDenied s.devRef [off]

def execHostWindowWrite (offset : Nat) (data : List Byte) (s : State) : Out :=
  if winBytes < offset + data.length then .fault .outsideHostWindow
  else .next (if s.hostUsable then s.windowWrite offset data else s)

/-! ### Acceptance (R417 to R419, R427) -/

/-- The rings are served (R410, R428). -/
def State.serves (s : State) (r : Fin 4) : Bool :=
  s.fwAlive && !s.host.suspended && (s.ring r.val).enable && !(s.ring r.val).overrun

/-- The first submitted descriptor that is read now, and what stays. -/
def State.nextDoorbell (s : State) : Option (Fin 4 × Word) := s.host.doorbells.find? fun d => s.serves d.1

/-- The words of a slot lie poisoned (R479). -/
def State.slotPoisoned (s : State) (off : Nat) : Bool :=
  s.health.poison.any fun w => decide (off ≤ 8 * w + 7) && decide (8 * w < off + 256)

/-- A rejected descriptor: its completion is ready at once (R418, R421). -/
def State.rejectNow (s : State) (e : InFlight) (status : Nat) : State :=
  let r := s.ring e.hdr.ring.val
  let n := r.written + BitVec.ofNat 32 r.ready.length
  let c : Cpl := { tag := e.hdr.tag, status := BitVec.ofNat 32 status, obj := e.hdr.obj, cycle := s.tick.cycle,
                   opcode := e.opcode, notify := e.notify, seq := some e.seq }
  (s.modRing e.hdr.ring.val fun x => { x with ready := x.ready ++ [c], lastTags := (c.tag :: x.lastTags).take 32 }).modHost
    fun x => { x with
      inflight := x.inflight ++ [{ e with decided := true, cplNo := some n }]
      journal := x.journal.map fun j =>
        if j.seq = e.seq then { j with status := some c.status, effectTick := some s.tick.no } else j }

/-- Earliest tick of effect (R45, R419), and whether AT_CYCLE holds the command back. -/
def State.effectTick (s : State) (d : Descriptor) : Nat × Bool :=
  let base := s.tick.no + (if s.tick.cutoff then 2 else 1)
  let at_ := (s.tick.no : Int) + s.ticksTo d.effectAt
  if bitN d.flags 1 ∧ (base : Int) < at_ then (at_.toNat, true) else (base, false)

/-- A command over the link takes effect no earlier than the second tick boundary after its acceptance (R28). -/
def State.linkTicks (s : State) (devs : List Nat) (t : Nat) : Nat :=
  if devs.isEmpty then t else Nat.max t (s.tick.no + (if s.tick.cutoff then 3 else 2))

def State.acceptCmd (s : State) (e : InFlight) (d : Descriptor) (desc : List Byte) (c : Instr) : State :=
  let devs := s.concerned d.op d.obj d.arg
  let p := s.effectTick d
  let t := s.modHost fun x => { x with
    inflight := x.inflight ++ [{ e with cmd := c, earliest := s.linkTicks devs p.1, atCycle := p.2 }] }
  if devs.isEmpty then t
  else t.forward e.hdr c desc devs (s.tick.no + (if s.tick.cutoff then 1 else 0)) (s.linkTicks devs p.1)

/-- One descriptor is accepted: it is copied, journalled and checked, and CMD_ACCEPT advances. -/
def State.acceptOne (s : State) (r : Fin 4) (n : Word) : State :=
  let off := 0x1000 + 8192 * r.val + 256 * (n.toNat % 32)
  let desc := s.winRead off 256
  let d := descriptorOf desc
  let h : Hdr := { ring := r, tag := d.tag, obj := d.obj }
  let e : InFlight :=
    { seq := s.host.seq, hdr := h, opcode := BitVec.ofNat 16 d.op, notify := bitN d.flags 0, cmd := .commandAccept, earliest := 0 }
  let j : JEntry := { seq := s.host.seq, ring := r, tag := d.tag, desc := desc }
  let t := (s.modHost fun x => { x with
      doorbells := x.doorbells.erase (r, n), seq := x.seq + 1, journal := x.journal ++ [j]
      journalDepth := x.journalDepth + 1 }).modRing r.val fun x => { x with accept := n + 1 }
  match s.formCheck r d (s.slotPoisoned off) with
  | (_, some c) => t.acceptCmd e d desc c
  | (st, none) => t.rejectNow e st

def execCommandAccept (s : State) : Out :=
  .next (match s.nextDoorbell with
    | some d => s.acceptOne d.1 d.2
    | none => s)

end Sys2Proof.Machine
end

