-- ==== Sys2Proof/Machine/Intake.lean ====
section
/-!
DEFINITION. The intake at 11,500 ns: essential feedback goes to the lanes, joint positions, persons and sub-frames to
the engines, and the SS1 plane is read (R41, R43, R82, R129, R135 to R138, R154, R235, R266, R269, R284).
-/
namespace Sys2Proof.Machine

/-! ### Words of a node's frames -/

/-- The feedback word of an axis channel in an upstream DATA payload (R266). -/
def NodeSt.feedbackWord (x : NodeSt) (ch : Nat) : BitVec 96 :=
  BitVec.ofNat 96 (leNat (((x.buf.getD []).drop (132 * x.nrep + 12 * ch)).take 12))

/-- The extended word of an axis channel (Table 9.5). -/
structure ExtWord where
  loadPos : Nat
  loadValid : Bool
  loadErr : Bool
  tStage : Int                    -- 0.1 °C
  tMotor : Int
  vDc : Nat                       -- 0.1 V
  iRms : Nat                      -- 2⁻¹⁶ of rated peak
  diag : Nat
  deriving DecidableEq, Repr

/-- The extended word of an axis channel that this intake takes, none with no EXT frame (R43, R269). -/
def NodeSt.extWord (x : NodeSt) (ch : Nat) : Option ExtWord :=
  x.extNow.map fun p =>
    let w := leNat ((p.drop (16 * ch)).take 16)
    { loadPos := field w 39 0, loadValid := bitN w 40, loadErr := bitN w 41, tStage := sext 16 (field w 63 48)
      tMotor := sext 16 (field w 79 64), vDc := field w 95 80, iRms := field w 111 96, diag := field w 127 112 }

/-- The load-side count of an axis channel, none where it is lost (R269, Table 9.5). -/
def NodeSt.loadCount (x : NodeSt) (ch : Nat) : Option Nat :=
  (x.extWord ch).bind fun w => if w.loadValid && !w.loadErr then some w.loadPos else none

/-- The node's essential data of this tick at an island: none where it is stale or that island finds the sub-frame invalid
(R14, R271, R284). -/
def NodeSt.dataAt (x : NodeSt) (e : Island) : Option (List Byte) := if (x.subAt e).valid then x.buf else none

/-- A person report of an upstream DATA payload, as an island takes it (R154). -/
def NodeSt.report (x : NodeSt) (e : Island) (slot : Nat) : Option (List Byte) :=
  (x.dataAt e).map fun p => (p.drop (132 * slot)).take 132

/-! ### Samples -/

/-- The axis's kernel takes a sample in this tick: it does not at half rate in the other ticks (R50). -/
def State.samples (s : State) (a : Nat) : Bool :=
  match s.laneOf a with
  | some (l, _) => !s.axisHalf a || (s.slotsNow l).any fun e => e.2 = a
  | none => true

/-- A sample at the lanes; an invalid one counts in every tick. -/
def State.laneSample (s : State) (a : Nat) (c : Option Nat) (cause : Nat) : State :=
  if s.samples a || c.isNone then s.takeSample a c cause (s.axisT a)
  else s.modAxis a fun x => { x with fb := { x.fb with sinceValid := x.fb.sinceValid + s.P } }

/-- The sample of this tick is valid. -/
def State.sampleOk (s : State) (a : Nat) (c : Option Nat) : Bool := c.isSome && !((s.axis a).fb.stale && s.samples a)

def State.engineSamples (s : State) (a : Nat) (c : Option Nat) : State :=
  (s.engineSample .madder a c).engineSample .woad a c

/-- The raw count in a feedback word, none where the encoder reports an error. -/
def wordCount (w : BitVec 96) : Option Nat := if bitN w.toNat 44 then none else some (field w.toNat 39 0)

/-- Each engine takes the axis's count by its own island's judgement of the sub-frame. -/
def State.nodeEngineSamples (s : State) (a n ch : Nat) : State :=
  let x := s.node n
  let c := fun (e : Island) => (x.dataAt e).bind fun _ => wordCount (x.feedbackWord ch)
  (s.engineSample .madder a (c .madder)).engineSample .woad a (c .woad)

/-- A fresh feedback word: encoder error, power-stage report, analogue value, index. -/
def State.freshWord (s : State) (a : Nat) (w : BitVec 96) : State :=
  let v := w.toNat
  let wasOn := bitN (s.axis a).fb.word.toNat 45
  let c := wordCount w
  let t := s.modAxis a fun x => { x with fb := { x.fb with
    word := w, analog := if bitN v 47 then sext 16 (field v 95 80) else x.fb.analog } }
  let t := if bitN v 44 && !bitN v 46 then t.commLost a 2 else t
  let t := if wasOn && !bitN v 45 then t.powerDown a else t
  let t := t.laneSample a c 8
  if t.sampleOk a c then t.nodeIndex a w else t

/-- One axis of a node. -/
def State.nodeAxisIntake (s : State) (a n ch : Nat) : State :=
  let x := s.node n
  if !x.present || s.tick.no < x.activeFrom then s
  else
    let t := s.modAxis a fun y => { y with fb := { y.fb with psOnPrev := bitN y.fb.word.toNat 45, idx := none } }
    let t := t.nodeEngineSamples a n ch
    let t := if x.stale then t.laneSample a none 9 else t.freshWord a (x.feedbackWord ch)
    t.takeLoad a (x.loadCount ch)

/-- The count that a port gives at this intake (R129). -/
def State.portCount (s : State) (p : Nat) : Option Nat :=
  if s.ssiAged p then (s.port p).held else (s.port p).sample

/-- One axis on a local port; an aged SSI word is advanced by one tick's motion (R129), and a count that holds an inferred
transition is flagged (R123). -/
def State.portAxisIntake (s : State) (a p : Nat) : State :=
  let c := s.portCount p
  let t := s.modAxis a fun y => { y with fb := { y.fb with idx := none, inferred := (s.port p).lastInferred } }
  let t := (t.engineSamples a c).laneSample a c (s.port p).lastCause
  let ok := t.sampleOk a c
  let t := if ok && s.ssiAged p && s.samples a then t.modAxis a fun y =>
      { y with fb := { y.fb with posNew := satS 64 (y.fb.posNew + rnd ((y.lp.vFb : Rat) * kT s.P)) } } else t
  if ok then t.portIndex a p else t

/-- One port and its axes; an Ochre IDENT answer holds no sample (R131), and before the source has been asked for one
there is none (R119). -/
def State.portIntake (s : State) (p : Nat) : State :=
  let x := s.port p
  if s.portMode p = pmOff || (s.portMode p = pmOchre && x.request = 0x3C) ||
      !(if s.ssiAged p then x.heldBegun else x.begun) then s
  else
    let ax := s.portAxes p
    let t := s.forEach ax fun u a => u.portAxisIntake a p
    let jump := (s.portCount p).isSome && ax.any fun a => (t.axis a).fb.stale && t.samples a
    let bad := (s.portCount p).isNone || jump
    t.modPort p fun y => { y with
      latch := none, stale := bad, consec := if bad then incSat 16 y.consec else 0
      lastCause := if jump then 7 else y.lastCause }

/-! ### The intake -/

def State.personIntake (s : State) (r : PersonRec) : State :=
  let x := s.node (r.node % 64)
  let rep := fun (e : Island) => if x.present && !decide (s.tick.no < x.activeFrom) then x.report e r.slot else none
  (s.takeReport .madder r.index (rep .madder)).takeReport .woad r.index (rep .woad)

def State.intakeOp (s : State) : State :=
  let t := s.finishMoves.nodeIntake
  let t := t.forEach (t.axisList.filter fun a => !t.axisAbsent a) fun u a => match u.axisNode a with
    | some (n, ch) => u.nodeAxisIntake a n ch
    | none => u
  let t := t.forEach (upTo 16) State.portIntake
  let t := t.forEach t.sep.kin.persons State.personIntake
  let t := t.ss1PlaneRead.captureV0
  let t := t.forEach (t.axisList.filter fun a => !t.axisAbsent a) State.homeIntake
  t.intakeWrite.modTick fun x => { x with intakeDone := true }

def execIntake (s : State) : Out := .next (if s.tick.selide && !s.tick.intakeDone then s.intakeOp else s)

end Sys2Proof.Machine
end

