-- ==== Sys2Proof/Machine/Start.lean ====
section
/-!
DEFINITION. The end of the self-test: BIST_RESULT, the lane pairs it retires, the clock steps of its measurements, and
the phase that follows (R481, R505).
-/
namespace Sys2Proof.Machine

/-- Pair `n` passed. -/
def BistIn.pairOk (r : BistIn) (n : Nat) : Bool := r.lanePass.getLsbD n

/-- Lane pairs that passed. -/
def BistIn.lanesPassed (r : BistIn) : Nat := (pairNos.filter fun p => BistIn.pairOk r p).length

/-- FAIL_CAUSE of Table 18.7: the first failing item, 0 for none. -/
def BistIn.failCause (r : BistIn) : Nat :=
  if r.supPass.val < 2 then 1
  else if BistIn.lanesPassed r < 16 then 2
  else if !r.madder then 3
  else if !r.woad then 4
  else if !r.solver then 5
  else if !r.memory then 6
  else 0

/-- BIST_RESULT (Table 18.7). -/
def BistIn.result (r : BistIn) : Nat :=
  r.supPass.val + 8 * r.lanePass.toNat + 2 ^ 20 * b2n r.madder + 2 ^ 21 * b2n r.woad + 2 ^ 22 * b2n r.solver +
    2 ^ 23 * b2n r.memory + 2 ^ 24 * BistIn.failCause r

/-- The lane that pair 16 serves from the start: the failing pair's. -/
def BistIn.spareLane (r : BistIn) : Option Nat := (upTo 16).find? fun p => !BistIn.pairOk r p

/-- A pair after the self-test: RETIRED, its own lane's, or pair 16's part (R505). -/
def BistIn.pairAfter (r : BistIn) (p : Nat) (x : PairSt) : PairSt :=
  if !BistIn.pairOk r p then { x with state := lpRetired, lane := none, reserve := false }
  else if p < 16 then { x with lane := some p, reserve := false }
  else match BistIn.spareLane r with
    | some l => { x with lane := some l, reserve := false }
    | none => { x with lane := none, reserve := true }

/-- Clock steps that a self-test margin needs, each worth 2.5 % of the period (log entry 67). -/
def stepsFor (m : Nat) : Nat := Nat.min 4 ((80 - m + 24) / 25)

/-- The self-test's measurement of a clock domain, and its steps (R481). -/
def State.bistClock (s : State) (d m : Nat) : State :=
  let t := s.modClk d fun x => { x with margin := m, steps := stepsFor m }
  if stepsFor m = 0 then t else t.emit evClockStep t.devRef [d, stepsFor m, m]

/-- Device time passes with the self-test (log entry 68). -/
def State.bistTime (s : State) (ms : Nat) : State :=
  s.modTime fun x => { x with sec := x.sec + (x.ns + ms * 1000000) / 1000000000, ns := (x.ns + ms * 1000000) % 1000000000 }

def State.bistOp (s : State) (r : BistIn) : State :=
  let t := s.bistTime r.durationMs
  let t := t.forEach pairNos fun u p => u.modPair p (BistIn.pairAfter r p)
  let t := t.forEach sensorSplit fun u e => match domainMargin r.margins e.2.1 e.2.2 with
    | some m => u.bistClock e.1 m
    | none => u
  let t := (t.modHost fun x => { x with standby := r.supPass.val = 3 }).modPower fun x => { x with
    bist := BitVec.ofNat 32 (BistIn.result r), failCause := BistIn.failCause r }
  let t := t.emit evBistDone t.devRef [BistIn.result r, r.durationMs]
  if BistIn.failCause r = 0 then (t.setPhase 2).modTick fun x => { x with running := true }
  else t.setPhase 5

def execBistDone (r : BistIn) (s : State) : Out :=
  .next (if s.power.phase = 1 && !s.power.reset then s.bistOp r else s)

end Sys2Proof.Machine
end

