-- ==== Sys2Proof/Machine/Status.lean ====
section
/-!
DEFINITION. What the block writes into the host window by itself: the axis and group status blocks (R406), the identity
area and the telemetry record (R408).
-/
namespace Sys2Proof.Machine

/-! ### Status blocks (R406) -/

def axisBlock : Nat := 0x9000
def groupBlock : Nat := 0x10000

/-- An axis entry. -/
def State.axisEntry (s : State) (a : Nat) : List Byte :=
  let x := s.axis a
  let cyc := bytesLE 2 s.tick.cycle.toNat
  cyc ++ bytesLE 1 (s.axisState a) ++ bytesLE 1 (b2n x.lp.overrun + 2 * b2n x.home.homed + 4 * b2n x.fb.stale) ++
    bytesLE 4 (loopStatus x.lp x.decKept x.commValid x.softStart (s.axisHalf a)) ++ bytesLE 4 (s.motionStatus (mkRef clsAxis a)) ++
    bytesLE 4 x.home.status ++ bytesLE 8 (i64 x.lp.posFb) ++ bytesLE 4 (argI x.lp.vFb) ++ bytesLE 2 (s.fbWordStatus a) ++ cyc

def groupEntryBytes (cyc : List Byte) (state flags : Nat) (first : Word) (motion : Nat) : List Byte :=
  cyc ++ bytesLE 1 state ++ bytesLE 1 flags ++ bytesLE 4 first.toNat ++ bytesLE 4 motion ++ cyc ++ [0, 0]

/-- A group of this device. -/
def State.groupEntry (s : State) (g : Nat) : List Byte :=
  let st := s.groupState g
  groupEntryBytes (bytesLE 2 s.tick.cycle.toNat) st.1 (s.groupFlags g) st.2 (s.motionStatus (mkRef clsGroup g))

/-- The first member that a GSTAT record names (Table 9.11). -/
def GStatSt.firstRef (x : GStatSt) : Word :=
  if x.first = 0xFFFF then noRef else mkRef (if bitN x.flags.toNat 7 then clsGroup else clsAxis) x.first.toNat

/-- The remote groups of which something is known: a report, or that their device is away. -/
def State.remoteGroups (s : State) : List Nat :=
  dedup ((s.link.gstat.map fun p => p.1) ++ s.link.away.map fun d => d * 256)

/-- A remote group, from its GSTAT record; the record carries no MOTION, which reads 0 (log entry 70). -/
def State.remoteEntry (s : State) (x : GStatSt) : List Byte :=
  groupEntryBytes (bytesLE 2 s.tick.cycle.toNat) x.state (x.flags.toNat % 4) x.firstRef 0

/-- The groups of this device's tree: its root, which every configured cell has (R18), and those of its GROUP records. -/
def State.ownGroups (s : State) : List Nat :=
  if s.cell.loaded then dedup (s.dev * 256 :: (s.cell.groups.filter fun r => r.index / 256 = s.dev).map fun r => r.index)
  else []

/-- Both blocks are written whole; the entries of undeclared objects hold 0. -/
def State.statusBlocks (s : State) : State :=
  let out := fun (c : Nat × Byte) => decide (c.1 < axisBlock) || (decide (0xD000 ≤ c.1) && decide (c.1 < groupBlock)) ||
    decide (groupBlock + 32768 ≤ c.1)
  let t := s.modHost fun x => { x with window := x.window.filter out }
  let t := t.forEach s.axisList fun u a => u.winWrite (axisBlock + 32 * (a % 512)) (s.axisEntry a)
  let t := t.forEach s.ownGroups fun u g => u.winWrite (groupBlock + 16 * g) (s.groupEntry g)
  if s.isLeader then
    t.forEach s.remoteGroups fun u g => u.winWrite (groupBlock + 16 * g) (s.remoteEntry (s.remoteGroup g))
  else t

/-! ### Telemetry (R408) -/

/-- The smallest path-delay margin of any clock domain. -/
def State.marginMin (s : State) : Nat :=
  match s.health.clk.map fun e => e.2.margin with
  | [] => 0
  | m :: r => minL m r

/-- Table 14.9. -/
def State.telemetryBytes (s : State) (r : TelemetryIn) : List Byte :=
  let seq := bytesLE 4 s.host.telemSeq.toNat
  seq ++ bytesLE 4 s.tick.cycle.toNat ++ bytesLE 2 (uns 16 r.tjMax) ++ bytesLE 2 (uns 16 r.tjMin) ++ bytesLE 2 r.power ++
    bytesLE 2 r.iCore ++ bytesLE 4 s.tick.finishPub ++ bytesLE 4 s.tick.slackPub ++ bytesLE 4 s.sep.publishPub ++
    bytesLE 4 s.solver.solveEnd ++ bytesLE 2 s.marginMin ++ [0, 0] ++ seq

/-- The extremes of the interval that ends are published, and a new interval begins. Without a pass 2 in it SLACK_MIN is the
tick period and FINISH_MAX 0, DESIGN CHOICE (log entry 15). -/
def State.closeInterval (s : State) : State :=
  (s.modTick fun x => { x with
    finishPub := x.finishMax, slackPub := x.slackMin.getD s.P, finishMax := 0, slackMin := none }).modSep fun x =>
      { x with publishPub := x.publishMax, publishMax := 0 }

/-- The sensors as read now: THERMAL_HIGH may be recorded again below 105 °C, and a trip holds until the island reads
below 110 °C (R524, log entry 71). -/
def State.readSensors (s : State) (r : TelemetryIn) : State :=
  (s.modHost fun x => { x with
    telemSeq := x.telemSeq + 1, tempMax := BitVec.ofInt 16 r.tempNow, powerNow := BitVec.ofNat 16 r.powerNow }).modHealth fun x =>
      { x with
        thermalArmed := x.thermalArmed || decide (r.tempNow < 1050)
        tempM := min x.tempM r.tempNow, tempW := min x.tempW r.tempNow }

def State.telemetryOp (s : State) (r : TelemetryIn) : State :=
  let t := s.closeInterval.readSensors r
  (t.winWrite 0x100 (t.telemetryBytes r)).raiseIrq 6

def execTelemetryWrite (r : TelemetryIn) (s : State) : Out :=
  .next (if !s.fwAlive then s
    else if s.host.suspended then s.modHost fun x => { x with telemDue := some r }
    else s.telemetryOp r)

/-- R428, R429: the standby core takes over. The checkpoint with the journal's recorded effects applied in order is the
supervisor's own state as the mismatch found it, so nothing is published again and what waited still waits (log entry 120); a
telemetry record that fell due meanwhile is written now. -/
def execSupervisorTakeover (durationUs : Nat) (s : State) : Out :=
  .next (if s.host.suspended && s.health.supLost.isNone then
      let t := s.modHost fun x => { x with
        suspended := false, standby := false, supSingle := true, takeovers := x.takeovers + 1, telemDue := none }
      let t := (t.emit evSupervisorTakeover t.devRef [s.host.takeoverCycle.toNat, s.host.journal.length, durationUs]).raiseIrq 8
      match s.host.telemDue with
      | some r => t.telemetryOp r
      | none => t
    else s)

end Sys2Proof.Machine
end

