-- ==== Sys2Proof/Machine/Tick.lean ====
section
/-!
DEFINITION. T0 of a tick: the grid and the cycle number (R37, R38), the order of effect of Table 2.3, the work of a
planning boundary, the first Selide tick (R507), and the shadow cut-off (R45).
-/
namespace Sys2Proof.Machine

/-! ### The grid (R36 to R40, R506, R507) -/

/-- Nanoseconds from the TAI epoch to T0 of this tick. -/
def State.taiNs (s : State) : Nat := s.time.sec * 1000000000 + s.time.ns

/-- R38: tick periods since the TAI epoch, modulo 2³². -/
def State.epochCycle (s : State) : Word := BitVec.ofNat 32 (s.taiNs / s.P)

/-- The period that TICK_RATE gives. -/
def State.ratePeriod (s : State) : Nat :=
  match s.pU 0x0010 s.dev with
  | 1 => 62500
  | 2 => 125000
  | _ => 31250

/-- SELIDE_START has taken effect and the next edge lies on the grid of TICK_RATE. -/
def State.firstSelideDue (s : State) : Bool :=
  s.selide.started && !s.tick.selide && decide ((s.time.ns + (31250 - s.time.ns % 31250)) % s.ratePeriod = 0)

/-- R40: width of the TICK_OUT pulse; none in CONFIG or on an unstrapped pin. -/
def State.tickOutNs (s : State) : Nat :=
  if !s.tick.selide || (s.strap 60).unstrapped then 0 else if s.boundary then 2000 else 1000

/-- The next edge. The first configuration tick and the first Selide tick take their number from the device time. -/
def State.nextEdge (s : State) (first : Bool) : State :=
  let a := if first then s.modTick fun x => { x with selide := true } else s
  let t := a.advanceTime
  let n := if first || s.tick.no = 0 then t.epochCycle else s.tick.cycle + 1
  let u := t.modTick fun x => { x with
    no := x.no + 1, cycle := n, cutoff := false, intakeDone := false, latched := false, downDone := false }
  u.modTick fun x => { x with tickOut := u.tickOutNs }

/-! ### A new tick -/

/-- A lane whose sweep has ended returns to RUN (R331); a lane with a pair in TEST is in no other case. -/
def State.lanesBack (s : State) : State :=
  let busy := s.lanes.sweeps.filterMap fun x => (s.laneOf x.axis).map fun p => p.1
  s.forEach pairNos fun u p =>
    let x := u.pair p
    if x.state = lpTest && x.lane.any (fun l => !busy.contains l) then u.modPair p fun y => y.enter lpRun else u

/-- What lasts for one tick in the lanes and the engines. -/
def State.clearPasses (s : State) : State :=
  let t := s.modLanes fun x => { x with log := x.log.map fun e => (e.1, { e.2 with
    pass1 := false, pass2 := false, finish := 0, skipFrom := none, abandon := none }) }
  let f := fun (e : Eng) => { e with published := false, late := false, rowsOk := false }
  t.modSep fun x => { x with compared := false, m := f x.m, w := f x.w }

/-- The ports at T0: illegal events are held against a limit that may have changed (R124), counts are sampled, an SSI word that came too late is held, the tick's marks clear (R123, R126, R129,
R146). The end of an index pulse has no command: whether Z has left its active level is open. -/
def State.portTick (s : State) : State :=
  s.forEach ((upTo 16).filter fun p => s.portMode p ≠ pmOff) fun u p =>
    let m := u.portMode p
    let act := decide (u.pU 0x4005 (u.portIx p) = 0)
    let t := u.modPort p fun x => { x with
      illegalTick := false, lastInferred := x.inferredTick, inferredTick := false, idxNew := false
      held := x.sample, heldBegun := x.begun, aged := u.ssiAged p
      zF := if x.zF = act then bitN (Config.freeWord u.free).toNat 0 else x.zF
      sample := if m = pmQuad || m = pmPulse then some (uns 64 x.count) else none }
    { t with free := t.free + 1 }.illegalLimit p

/-- Everything that T0 brings before the changes of Table 2.3. -/
def State.edgeWork (s : State) : State :=
  s.finishMoves.quietTick.clearPasses.lanesBack.nextReserve.lossTick.portTick.indexShifts.leapTick.egressTick.trunkTick.nodeTick.linkTick.relayTick
    |>.enterDegradedLanes.safetyTick.availTick.recTick.copyTick

/-! ### Commands that are due (R45, R46, R419) -/

def InFlight.due (e : InFlight) (tick : Nat) : Bool := !e.begun && !e.decided && decide (e.earliest ≤ tick)

/-- The due commands that `pick` names, in acceptance order, by sequence number. -/
def State.dueCmds (s : State) (pick : Instr → Bool) : List Nat :=
  (s.host.inflight.filter fun e => e.due s.tick.no && pick e.cmd).map fun e => e.seq

/-- A due command takes effect, unless one before it has ended it. -/
def State.takeEffect (s : State) (seq : Nat) : State :=
  match s.host.inflight.find? fun e => e.seq = seq with
  | some e =>
    if e.due s.tick.no then
      s.asCurrent seq fun t => match t.linkCmdOf e.hdr with
        | some c => t.leaderEffect e c
        | none => t.hostEffect e.cmd
    else s
  | none => s

def State.takeEffects (s : State) (pick : Instr → Bool) : State := s.forEach (s.dueCmds pick) State.takeEffect

/-- A write of a parameter marked "tick". -/
def isTickWrite : Instr → Bool
  | .paramWrite _ n _ => (paramRow n.toNat).elim true fun r => r.tick
  | _ => false

/-- A write of a parameter marked "planning". -/
def isPlanWrite (c : Instr) : Bool :=
  match c with
  | .paramWrite _ _ _ => !isTickWrite c
  | _ => false

/-- The capacity commands of Table 2.3, step 3. -/
def isCapacity : Instr → Bool
  | .groupAdd _ => true
  | .groupRemove _ => true
  | .axisMigrate _ _ => true
  | .groupHalfRate _ _ => true
  | _ => false

/-- A due planning write joins the staged ones, so that it commits at this boundary (R436); a forwarded one does so once its
go stands. -/
def State.stageWrite (s : State) (seq : Nat) : State :=
  match s.host.inflight.find? fun e => e.seq = seq with
  | some e => match e.cmd with
    | .paramWrite h n v => s.asCurrent seq fun t => match t.linkCmdOf h with
        | none => t.stagePlan h n v
        | some c => if t.goes c then (t.dropLinkCmd c).stagePlan h n v else t.leaderEffect e c
    | _ => s
  | none => s

/-! ### The steps of Table 2.3 -/

/-- No command or commit takes effect while the supervisor is suspended or lost (R429, R470). -/
def State.noEffects (s : State) : Bool := s.host.suspended || s.health.supLost.isSome

/-- Step 1. -/
def State.step1 (s : State) : State := (s.takeEffects isTickWrite).memberEffects isTickWrite

/-- Step 2, and the arming that follows its commits (R244). -/
def State.step2 (s : State) : State :=
  let t := (s.forEach (s.dueCmds isPlanWrite) State.stageWrite).commitPlanning
  ((t.takeEffects isPlanWrite).memberEffects isPlanWrite).armBoundary

/-- Axes on local ports that have no place yet; they are present from START on. -/
def State.freshPorts (s : State) : List Nat :=
  if s.power.phase = 3 || s.power.phase = 4 then
    s.axisList.filter fun a => (s.axisPort a).isSome && (s.laneOf a).isNone && !s.axisRemoved a && !s.health.absent.contains a
  else []

/-- Step 3: capacity changes, placement, migrations out of degraded lanes, the placement prepared for a lane loss, and the
due clock steps (R51, R465, R473, R481). -/
def State.step3 (s : State) : State :=
  let t := (s.applyChanges.takeEffects isCapacity).memberEffects isCapacity
  let p := t.placeNodes
  let t := p.1.placeAll (p.2 ++ p.1.freshPorts)
  (t.forEach laneNos State.degBoundary).planLanes.clockBoundary

/-- Step 4, with the rest of a planning boundary. -/
def State.step4 (s : State) : State :=
  let t := s.solveApply.trackBoundary.timeBoundary
  let t := t.modSolver fun x => { x with vplanOk := !t.noEffects }
  if t.noEffects then t else t.kernelBoundary.runBoundary.recBoundary

/-- Step 5: supply, profiles, homing runs. -/
def State.step5 (s : State) : State := s.supplyAndQueues.homeTick

/-- Step 6: every other due command, in acceptance order. A configuration tick has no loops to wait for (R440). -/
def State.step6 (s : State) : State :=
  let t := ((s.takeEffects fun _ => true).memberEffects fun _ => true).settleAborts
  if t.tick.selide && !t.tick.cutoff then t else t.answerReads

/-- After step 6 of a boundary: the checkpoint, a new journal, and HEARTBEAT (R426, R470). -/
def State.checkpoint (s : State) : State :=
  if s.noEffects then s.modHost fun x => { x with hbAge := x.hbAge + 1 }
  else
    let c : Checkpoint :=
      { par := s.par, cell := s.cell, queues := s.queues, supply := s.supply, inflight := s.host.inflight
        changes := s.health.changes, runPend := s.power.runPend, armPend := s.safety.pendArms, rings := s.host.rings }
    ({ s with chk := c }).modHost fun x => { x with
      journal := [], journalDepth := 0, checkpointCycle := s.tick.cycle, heartbeat := x.heartbeat + 1, hbAge := 0 }

/-- Table 2.3. -/
def State.effects (s : State) : State :=
  let live := !s.noEffects
  let t := if live then s.step1 else s
  let t := if t.boundary && live then t.step2 else t
  let t := if t.par.vals = s.par.vals then t else t.cfgWrite (upTo 64) fun x => x.lane.isSome
  let t := if t.boundary then (if live then t.step3 else t).step4 else t
  let t := t.step5
  let t := if live then t.step6 else t
  if t.boundary then t.checkpoint else t

/-! ### The first Selide tick (R507) -/

/-- Commands that wait for an AT_CYCLE tick of the configuration count end. -/
def State.abortAtCycle (s : State) : State :=
  s.forEach (s.host.inflight.filter fun e => e.atCycle && !e.begun && !e.decided) fun u e =>
    u.done e.opcode.toNat e.hdr stAborted

/-- Working pairs enter START with MODE.ASC set, the reserve enters TEST, and PHASE becomes START. -/
def State.selideBegins (s : State) : State :=
  let t := s.forEach (pairNos.filter fun p => (s.pair p).state = lpLoad) fun u p =>
    u.modPair p fun x => if x.lane.isSome then x.enter lpStart else if x.reserve then x.enter lpTest else x
  (t.modTime fun x => { x with steppable := false }).setPhase 3 |>.abortAtCycle

/-! ### T0 -/

def State.tickEdge (s : State) : State :=
  let first := s.firstSelideDue
  let t := s.answerReads.nextEdge first
  let t := if first then t.selideBegins else t
  t.edgeWork.effects.ppsTick.sendCycleStarts.memberSends

/-- Ticks run while REFCLK does (R464). -/
def State.ticking (s : State) : Bool := s.tick.running && s.power.refclk

def execTickEdge (s : State) : Out := .next (if s.ticking then s.tickEdge else s)

/-- The edge at which the first Selide tick is due; at any other edge nothing begins. -/
def execFirstSelideTick (s : State) : Out :=
  .next (if s.ticking && s.firstSelideDue then s.tickEdge else s)

/-! ### The shadow cut-off (R45) -/

/-- The tick's published values are complete: PARAM_READs of the tick are answered and the status blocks stand (R406,
R440). -/
def execShadowCutoff (s : State) : Out :=
  .next (if s.ticking && !s.tick.cutoff then (s.modTick fun x => { x with cutoff := true }).shadowWrite.answerReads.statusBlocks else s)

end Sys2Proof.Machine
end

