-- ==== Sys2Proof/Machine/Dispatch.lean ====
section
/-!
DEFINITION. One arm for each command: the command's effect on everything but the queue of waiting commands.
-/
namespace Sys2Proof.Machine

def exec (i : Instr) (s : State) : Host.Outcome State Fault Refusal :=
  match i with
  | .railValid r => Sys2Proof.Machine.execRailValid r s
  | .railInvalid r ns => Sys2Proof.Machine.execRailInvalid r ns s
  | .porstNLow ns => Sys2Proof.Machine.execPorstNLow ns s
  | .internalResetRelease => Sys2Proof.Machine.execInternalResetRelease s
  | .strapSense samples => Sys2Proof.Machine.execStrapSense samples s
  | .romReady => Sys2Proof.Machine.execRomReady s
  | .loadFw => Sys2Proof.Machine.execLoadFw s
  | .fwRunning => Sys2Proof.Machine.execFwRunning s
  | .burnCustKey => Sys2Proof.Machine.execBurnCustKey s
  | .burnVendorDisable => Sys2Proof.Machine.execBurnVendorDisable s
  | .fuseWriteDone readBackOk => Sys2Proof.Machine.execFuseWriteDone readBackOk s
  | .bistDone r => Sys2Proof.Machine.execBistDone r s
  | .refclkLoss => Sys2Proof.Machine.execRefclkLoss s
  | .hostReset cause => Sys2Proof.Machine.execHostReset cause s
  | .cmdTailWrite ring value => Sys2Proof.Machine.execCmdTailWrite ring value s
  | .commandAccept => Sys2Proof.Machine.execCommandAccept s
  | .cplHeadWrite ring value => Sys2Proof.Machine.execCplHeadWrite ring value s
  | .completionWrite ring => Sys2Proof.Machine.execCompletionWrite ring s
  | .irqCoalHoldoff ring => Sys2Proof.Machine.execIrqCoalHoldoff ring s
  | .ringEnable ring value => Sys2Proof.Machine.execRingEnable ring value s
  | .ringReset ring value => Sys2Proof.Machine.execRingReset ring value s
  | .irqStatusClear mask => Sys2Proof.Machine.execIrqStatusClear mask s
  | .timeNsRead => Sys2Proof.Machine.execTimeNsRead s
  | .registerWrite offset value => Sys2Proof.Machine.execRegisterWrite offset value s
  | .hostWindowWrite offset data => Sys2Proof.Machine.execHostWindowWrite offset data s
  | .canRxRdWrite can value => Sys2Proof.Machine.execCanRxRdWrite can value s
  | .identify h => Sys2Proof.Machine.execIdentify h s
  | .linkStatus h => Sys2Proof.Machine.execLinkStatus h s
  | .paramWrite h number value => Sys2Proof.Machine.execParamWrite h number value s
  | .paramRead h number staged => Sys2Proof.Machine.execParamRead h number staged s
  | .paramInfo h number => Sys2Proof.Machine.execParamInfo h number s
  | .deviceRun h => Sys2Proof.Machine.execDeviceRun h s
  | .selideStart h => Sys2Proof.Machine.execSelideStart h s
  | .firstSelideTick => Sys2Proof.Machine.execFirstSelideTick s
  | .bringupTimeout => Sys2Proof.Machine.execBringupTimeout s
  | .bringupComplete => Sys2Proof.Machine.execBringupComplete s
  | .nodeUnmute h => Sys2Proof.Machine.execNodeUnmute h s
  | .nodeWake h => Sys2Proof.Machine.execNodeWake h s
  | .nodeSleep h => Sys2Proof.Machine.execNodeSleep h s
  | .nodeSend h winOffset length => Sys2Proof.Machine.execNodeSend h winOffset length s
  | .timeSet h sec ns => Sys2Proof.Machine.execTimeSet h sec ns s
  | .safeArm h crc => Sys2Proof.Machine.execSafeArm h crc s
  | .safeArmGroup h crc => Sys2Proof.Machine.execSafeArmGroup h crc s
  | .safeDisarm h => Sys2Proof.Machine.execSafeDisarm h s
  | .safeReset h => Sys2Proof.Machine.execSafeReset h s
  | .safeStop h mode => Sys2Proof.Machine.execSafeStop h mode s
  | .safeSls h on => Sys2Proof.Machine.execSafeSls h on s
  | .move h a => Sys2Proof.Machine.execMove h a s
  | .halt h => Sys2Proof.Machine.execHalt h s
  | .home h => Sys2Proof.Machine.execHome h s
  | .align h => Sys2Proof.Machine.execAlign h s
  | .axisEnable h => Sys2Proof.Machine.execAxisEnable h s
  | .axisDisable h => Sys2Proof.Machine.execAxisDisable h s
  | .faultReset h => Sys2Proof.Machine.execFaultReset h s
  | .cmpLoad h winOffset count => Sys2Proof.Machine.execCmpLoad h winOffset count s
  | .sweep h a => Sys2Proof.Machine.execSweep h a s
  | .sweepEnd axis => Sys2Proof.Machine.execSweepEnd axis s
  | .imageLoad h winOffset length => Sys2Proof.Machine.execImageLoad h winOffset length s
  | .structLoad h winOffset length => Sys2Proof.Machine.execStructLoad h winOffset length s
  | .structLoaded => Sys2Proof.Machine.execStructLoaded s
  | .structDrop h => Sys2Proof.Machine.execStructDrop h s
  | .solverSelect h generation => Sys2Proof.Machine.execSolverSelect h generation s
  | .solverUpdate h generation count winOffset => Sys2Proof.Machine.execSolverUpdate h generation count winOffset s
  | .canMode h mode => Sys2Proof.Machine.execCanMode h mode s
  | .canModeApply can => Sys2Proof.Machine.execCanModeApply can s
  | .canSend h m => Sys2Proof.Machine.execCanSend h m s
  | .canCancel h tag => Sys2Proof.Machine.execCanCancel h tag s
  | .canAbd h thenMode => Sys2Proof.Machine.execCanAbd h thenMode s
  | .canAbdDone can => Sys2Proof.Machine.execCanAbdDone can s
  | .canAbdDwell can => Sys2Proof.Machine.execCanAbdDwell can s
  | .canAbdFail can => Sys2Proof.Machine.execCanAbdFail can s
  | .canRecover h => Sys2Proof.Machine.execCanRecover h s
  | .groupAdd h => Sys2Proof.Machine.execGroupAdd h s
  | .groupRemove h => Sys2Proof.Machine.execGroupRemove h s
  | .axisMigrate h lane => Sys2Proof.Machine.execAxisMigrate h lane s
  | .groupHalfRate h on => Sys2Proof.Machine.execGroupHalfRate h on s
  | .recRead h fromSeq winOffset count => Sys2Proof.Machine.execRecRead h fromSeq winOffset count s
  | .recReadDone => Sys2Proof.Machine.execRecReadDone s
  | .abort h targetTag targetRing => Sys2Proof.Machine.execAbort h targetTag targetRing s
  | .add p sb rd rs rt => Sys2Proof.Machine.execAdd p sb rd rs rt s
  | .sub p sb rd rs rt => Sys2Proof.Machine.execSub p sb rd rs rt s
  | .and p rd rs rt => Sys2Proof.Machine.execAnd p rd rs rt s
  | .or p rd rs rt => Sys2Proof.Machine.execOr p rd rs rt s
  | .xor p rd rs rt => Sys2Proof.Machine.execXor p rd rs rt s
  | .min p rd rs rt => Sys2Proof.Machine.execMin p rd rs rt s
  | .max p rd rs rt => Sys2Proof.Machine.execMax p rd rs rt s
  | .abs p sb rd rs => Sys2Proof.Machine.execAbs p sb rd rs s
  | .neg p sb rd rs => Sys2Proof.Machine.execNeg p sb rd rs s
  | .ash p sb rd rs rt => Sys2Proof.Machine.execAsh p sb rd rs rt s
  | .lsh p rd rs rt => Sys2Proof.Machine.execLsh p rd rs rt s
  | .cmp p rs rt => Sys2Proof.Machine.execCmp p rs rt s
  | .tst p rs rt => Sys2Proof.Machine.execTst p rs rt s
  | .mov p rd rs => Sys2Proof.Machine.execMov p rd rs s
  | .clip p rd rs rt => Sys2Proof.Machine.execClip p rd rs rt s
  | .mpyr p sb rd rs rt => Sys2Proof.Machine.execMpyr p sb rd rs rt s
  | .add64 p sb rd rs rt => Sys2Proof.Machine.execAdd64 p sb rd rs rt s
  | .sub64 p sb rd rs rt => Sys2Proof.Machine.execSub64 p sb rd rs rt s
  | .addi p sb rd rs imm => Sys2Proof.Machine.execAddi p sb rd rs imm s
  | .andi p rd rs imm => Sys2Proof.Machine.execAndi p rd rs imm s
  | .ori p rd rs imm => Sys2Proof.Machine.execOri p rd rs imm s
  | .xori p rd rs imm => Sys2Proof.Machine.execXori p rd rs imm s
  | .cmpi p rs imm => Sys2Proof.Machine.execCmpi p rs imm s
  | .ldi p rd imm => Sys2Proof.Machine.execLdi p rd imm s
  | .ashi p sb rd rs n => Sys2Proof.Machine.execAshi p sb rd rs n s
  | .lshi p rd rs n => Sys2Proof.Machine.execLshi p rd rs n s
  | .mac p sb an x y => Sys2Proof.Machine.execMac p sb an x y s
  | .msu p sb an x y => Sys2Proof.Machine.execMsu p sb an x y s
  | .mpy p sb an x y => Sys2Proof.Machine.execMpy p sb an x y s
  | .mpyn p sb an x y => Sys2Proof.Machine.execMpyn p sb an x y s
  | .cmac p sb an x y => Sys2Proof.Machine.execCmac p sb an x y s
  | .cmsu p sb an x y => Sys2Proof.Machine.execCmsu p sb an x y s
  | .cmpy p sb an x y => Sys2Proof.Machine.execCmpy p sb an x y s
  | .cmpyn p sb an x y => Sys2Proof.Machine.execCmpyn p sb an x y s
  | .cmacc p sb an x y => Sys2Proof.Machine.execCmacc p sb an x y s
  | .cmsuc p sb an x y => Sys2Proof.Machine.execCmsuc p sb an x y s
  | .cmpyc p sb an x y => Sys2Proof.Machine.execCmpyc p sb an x y s
  | .cmpync p sb an x y => Sys2Proof.Machine.execCmpync p sb an x y s
  | .dualMac p sb k1 a1 x1 y1 k2 a2 x2 y2 => Sys2Proof.Machine.execDualMac p sb k1 a1 x1 y1 k2 a2 x2 y2 s
  | .mvad p sb d an => Sys2Proof.Machine.execMvad p sb d an s
  | .mvad64 p sb d an => Sys2Proof.Machine.execMvad64 p sb d an s
  | .mvda p an d => Sys2Proof.Machine.execMvda p an d s
  | .clra p an => Sys2Proof.Machine.execClra p an s
  | .adda p sb an am => Sys2Proof.Machine.execAdda p sb an am s
  | .suba p sb an am => Sys2Proof.Machine.execSuba p sb an am s
  | .mvaa p an am => Sys2Proof.Machine.execMvaa p an am s
  | .nega p sb an => Sys2Proof.Machine.execNega p sb an s
  | .absa p sb an => Sys2Proof.Machine.execAbsa p sb an s
  | .sha p sb an n => Sys2Proof.Machine.execSha p sb an n s
  | .rnda p sb an => Sys2Proof.Machine.execRnda p sb an s
  | .ld p d desc => Sys2Proof.Machine.execLd p d desc s
  | .st p d desc => Sys2Proof.Machine.execSt p d desc s
  | .ld64 p d desc => Sys2Proof.Machine.execLd64 p d desc s
  | .st64 p d desc => Sys2Proof.Machine.execSt64 p d desc s
  | .pld p d1 desc1 d2 desc2 => Sys2Proof.Machine.execPld p d1 desc1 d2 desc2 s
  | .mvc p cr d => Sys2Proof.Machine.execMvc p cr d s
  | .mvd p d cr => Sys2Proof.Machine.execMvd p d cr s
  | .ldc p cr imm => Sys2Proof.Machine.execLdc p cr imm s
  | .ldcy p ptr imm => Sys2Proof.Machine.execLdcy p ptr imm s
  | .ldcp p ptr imm => Sys2Proof.Machine.execLdcp p ptr imm s
  | .modp p ptr m => Sys2Proof.Machine.execModp p ptr m s
  | .modi p ptr imm => Sys2Proof.Machine.execModi p ptr imm s
  | .br p c target => Sys2Proof.Machine.execBr p c target s
  | .call p c target => Sys2Proof.Machine.execCall p c target s
  | .ret p c => Sys2Proof.Machine.execRet p c s
  | .rpt p n => Sys2Proof.Machine.execRpt p n s
  | .wait p => Sys2Proof.Machine.execWait p s
  | .nop p => Sys2Proof.Machine.execNop p s
  | .undefinedInstruction p => Sys2Proof.Machine.execUndefinedInstruction p s
  | .tickEdge => Sys2Proof.Machine.execTickEdge s
  | .intake => Sys2Proof.Machine.execIntake s
  | .encFault axis => Sys2Proof.Machine.execEncFault axis s
  | .nodeStale node => Sys2Proof.Machine.execNodeStale node s
  | .laneEventPass lane pass slots finish => Sys2Proof.Machine.execLaneEventPass lane pass slots finish s
  | .plausFault axis => Sys2Proof.Machine.execPlausFault axis s
  | .userBudget axis cycles => Sys2Proof.Machine.execUserBudget axis cycles s
  | .laneEventDeadline lane => Sys2Proof.Machine.execLaneEventDeadline lane s
  | .laneEventSlack lane => Sys2Proof.Machine.execLaneEventSlack lane s
  | .deadlineLatch => Sys2Proof.Machine.execDeadlineLatch s
  | .laneDegraded lane => Sys2Proof.Machine.execLaneDegraded lane s
  | .degradedExpired lane => Sys2Proof.Machine.execDegradedExpired lane s
  | .downstreamWindow => Sys2Proof.Machine.execDownstreamWindow s
  | .shadowCutoff => Sys2Proof.Machine.execShadowCutoff s
  | .backgroundLate task overdueMs => Sys2Proof.Machine.execBackgroundLate task overdueMs s
  | .telemetryWrite r => Sys2Proof.Machine.execTelemetryWrite r s
  | .enginePredictedPass e => Sys2Proof.Machine.execEnginePredictedPass e s
  | .engineBoundPass e publish => Sys2Proof.Machine.execEngineBoundPass e publish s
  | .personLost person => Sys2Proof.Machine.execPersonLost person s
  | .relayStale device => Sys2Proof.Machine.execRelayStale device s
  | .engineLate e publish => Sys2Proof.Machine.execEngineLate e publish s
  | .sepChannelFault => Sys2Proof.Machine.execSepChannelFault s
  | .sepDirectedVerdict madderOk woadOk => Sys2Proof.Machine.execSepDirectedVerdict madderOk woadOk s
  | .solveStart => Sys2Proof.Machine.execSolveStart s
  | .solveFactorDone t => Sys2Proof.Machine.execSolveFactorDone t s
  | .solveIteration t => Sys2Proof.Machine.execSolveIteration t s
  | .rhoRefactorDone t => Sys2Proof.Machine.execRhoRefactorDone t s
  | .deadlineInFactor => Sys2Proof.Machine.execDeadlineInFactor s
  | .deadlineIter => Sys2Proof.Machine.execDeadlineIter s
  | .segmentStart queue => Sys2Proof.Machine.execSegmentStart queue s
  | .segEnd queue => Sys2Proof.Machine.execSegEnd queue s
  | .queueAtRest queue => Sys2Proof.Machine.execQueueAtRest queue s
  | .supplyRelease => Sys2Proof.Machine.execSupplyRelease s
  | .startDeferred => Sys2Proof.Machine.execStartDeferred s
  | .homeStageStart => Sys2Proof.Machine.execHomeStageStart s
  | .homeSwitchEdge axis => Sys2Proof.Machine.execHomeSwitchEdge axis s
  | .homeChatter axis => Sys2Proof.Machine.execHomeChatter axis s
  | .homeStallConfirmed axis => Sys2Proof.Machine.execHomeStallConfirmed axis s
  | .homeDone axis => Sys2Proof.Machine.execHomeDone axis s
  | .homeLimit axis => Sys2Proof.Machine.execHomeLimit axis s
  | .homeTimeout axis => Sys2Proof.Machine.execHomeTimeout axis s
  | .indexCheck axis => Sys2Proof.Machine.execIndexCheck axis s
  | .idxFault axis => Sys2Proof.Machine.execIdxFault axis s
  | .loopClose axis => Sys2Proof.Machine.execLoopClose axis s
  | .softStartRamp axis => Sys2Proof.Machine.execSoftStartRamp axis s
  | .softStartDone axis => Sys2Proof.Machine.execSoftStartDone axis s
  | .softStartFail axis => Sys2Proof.Machine.execSoftStartFail axis s
  | .brakeDelayDisable axis => Sys2Proof.Machine.execBrakeDelayDisable axis s
  | .alignStep axis => Sys2Proof.Machine.execAlignStep axis s
  | .quadEdge port a b x => Sys2Proof.Machine.execQuadEdge port a b x s
  | .pulseStep port a b x => Sys2Proof.Machine.execPulseStep port a b x s
  | .portIndexEvent port x => Sys2Proof.Machine.execPortIndexEvent port x s
  | .ssiTransfer port w => Sys2Proof.Machine.execSsiTransfer port w s
  | .ochreResponse port r => Sys2Proof.Machine.execOchreResponse port r s
  | .ochreNoResponse port => Sys2Proof.Machine.execOchreNoResponse port s
  | .cmpPortCrossing cmp t => Sys2Proof.Machine.execCmpPortCrossing cmp t s
  | .cmpFire cmp t => Sys2Proof.Machine.execCmpFire cmp t s
  | .cmpPulseEnd cmp t => Sys2Proof.Machine.execCmpPulseEnd cmp t s
  | .siQualify input chan level t => Sys2Proof.Machine.execSiQualify input chan level t s
  | .siDiscrepancy input t => Sys2Proof.Machine.execSiDiscrepancy input t s
  | .tpPulseStart tp t => Sys2Proof.Machine.execTpPulseStart tp t s
  | .tpPulseEnd tp t obs => Sys2Proof.Machine.execTpPulseEnd tp t obs s
  | .tpOutFault tp => Sys2Proof.Machine.execTpOutFault tp s
  | .safetyCrossCompare disagree => Sys2Proof.Machine.execSafetyCrossCompare disagree s
  | .safeChannelFault item attributed => Sys2Proof.Machine.execSafeChannelFault item attributed s
  | .pinReadbackFault island zone => Sys2Proof.Machine.execPinReadbackFault island zone s
  | .islandLost island clock => Sys2Proof.Machine.execIslandLost island clock s
  | .safeDegExpired => Sys2Proof.Machine.execSafeDegExpired s
  | .ss1Breach request island => Sys2Proof.Machine.execSs1Breach request island s
  | .ss1End request => Sys2Proof.Machine.execSs1End request s
  | .ss1Tmax request => Sys2Proof.Machine.execSs1Tmax request s
  | .slsMonitorStart group => Sys2Proof.Machine.execSlsMonitorStart group s
  | .slsBreach group => Sys2Proof.Machine.execSlsBreach group s
  | .axisStoRelease axis => Sys2Proof.Machine.execAxisStoRelease axis s
  | .zoneRelease zone => Sys2Proof.Machine.execZoneRelease zone s
  | .zoneTestDue zone => Sys2Proof.Machine.execZoneTestDue zone s
  | .subframeTimeout node island => Sys2Proof.Machine.execSubframeTimeout node island s
  | .nodeStoFail node chan => Sys2Proof.Machine.execNodeStoFail node chan s
  | .upstreamDataFrame trunk chan f start => Sys2Proof.Machine.execUpstreamDataFrame trunk chan f start s
  | .nodeMuted node => Sys2Proof.Machine.execNodeMuted node s
  | .extFrame trunk f start => Sys2Proof.Machine.execExtFrame trunk f start s
  | .join trunk f start => Sys2Proof.Machine.execJoin trunk f start s
  | .nodeJoined node => Sys2Proof.Machine.execNodeJoined node s
  | .leave trunk chan f start => Sys2Proof.Machine.execLeave trunk chan f start s
  | .nodeGone node => Sys2Proof.Machine.execNodeGone node s
  | .echo trunk chan t => Sys2Proof.Machine.execEcho trunk chan t s
  | .cycleStartReceived trunk f => Sys2Proof.Machine.execCycleStartReceived trunk f s
  | .symbolLockLoss trunk chan => Sys2Proof.Machine.execSymbolLockLoss trunk chan s
  | .channelLost trunk chan => Sys2Proof.Machine.execChannelLost trunk chan s
  | .channelRestored trunk => Sys2Proof.Machine.execChannelRestored trunk s
  | .channelDegExpired trunk => Sys2Proof.Machine.execChannelDegExpired trunk s
  | .linkCaprel device r f start => Sys2Proof.Machine.execLinkCaprel device r f start s
  | .linkGstat device r f start => Sys2Proof.Machine.execLinkGstat device r f start s
  | .linkSigma device group sigma f start => Sys2Proof.Machine.execLinkSigma device group sigma f start s
  | .linkCmd seq effect descriptor f start => Sys2Proof.Machine.execLinkCmd seq effect descriptor f start s
  | .linkCmdack device seq status obj f start => Sys2Proof.Machine.execLinkCmdack device seq status obj f start s
  | .linkCmdgo seq go f start => Sys2Proof.Machine.execLinkCmdgo seq go f start s
  | .linkLost => Sys2Proof.Machine.execLinkLost s
  | .laneFailed pair cause t => Sys2Proof.Machine.execLaneFailed pair cause t s
  | .laneTakeover lane => Sys2Proof.Machine.execLaneTakeover lane s
  | .laneLost lane => Sys2Proof.Machine.execLaneLost lane s
  | .laneLossExpired lane => Sys2Proof.Machine.execLaneLossExpired lane s
  | .laneRehomed lane => Sys2Proof.Machine.execLaneRehomed lane s
  | .laneRecovered pair passed => Sys2Proof.Machine.execLaneRecovered pair passed s
  | .reserveSelfTest passed => Sys2Proof.Machine.execReserveSelfTest passed s
  | .kernelActive => Sys2Proof.Machine.execKernelActive s
  | .supervisorLockstepMismatch => Sys2Proof.Machine.execSupervisorLockstepMismatch s
  | .supervisorTakeover durationUs => Sys2Proof.Machine.execSupervisorTakeover durationUs s
  | .supervisorRebuild firstPasses secondPasses => Sys2Proof.Machine.execSupervisorRebuild firstPasses secondPasses s
  | .supervisorLoss cause => Sys2Proof.Machine.execSupervisorLoss cause s
  | .supervisorLossStop => Sys2Proof.Machine.execSupervisorLossStop s
  | .eccUncorrectable mem address => Sys2Proof.Machine.execEccUncorrectable mem address s
  | .scrubPass corrected durationMs => Sys2Proof.Machine.execScrubPass corrected durationMs s
  | .ageingMeasurement margins => Sys2Proof.Machine.execAgeingMeasurement margins s
  | .clockStep domain => Sys2Proof.Machine.execClockStep domain s
  | .halfRateForced domain => Sys2Proof.Machine.execHalfRateForced domain s
  | .eyeMonitor margins => Sys2Proof.Machine.execEyeMonitor margins s
  | .thermalHigh temp sensor => Sys2Proof.Machine.execThermalHigh temp sensor s
  | .thermalTrip island temp => Sys2Proof.Machine.execThermalTrip island temp s
  | .ptpSync m origin ingress => Sys2Proof.Machine.execPtpSync m origin ingress s
  | .ptpFollowUp m origin t => Sys2Proof.Machine.execPtpFollowUp m origin t s
  | .ptpAnnounce m a => Sys2Proof.Machine.execPtpAnnounce m a s
  | .announceTimeout domain => Sys2Proof.Machine.execAnnounceTimeout domain s
  | .ptpPdelayReq m ingress egress => Sys2Proof.Machine.execPtpPdelayReq m ingress egress s
  | .ptpTransit m kind x => Sys2Proof.Machine.execPtpTransit m kind x s
  | .tcResidenceExpiry => Sys2Proof.Machine.execTcResidenceExpiry s
  | .timeSlewDone => Sys2Proof.Machine.execTimeSlewDone s
  | .leapSecond => Sys2Proof.Machine.execLeapSecond s
  | .ppsOutSecond => Sys2Proof.Machine.execPpsOutSecond s
  | .ppsInEdge t => Sys2Proof.Machine.execPpsInEdge t s
  | .canTxAttempt can t => Sys2Proof.Machine.execCanTxAttempt can t s
  | .canTxOutcome can r x => Sys2Proof.Machine.execCanTxOutcome can r x s
  | .canBusOn can => Sys2Proof.Machine.execCanBusOn can s
  | .canRxFrame can f t => Sys2Proof.Machine.execCanRxFrame can f t s
  | .canWake can cause t => Sys2Proof.Machine.execCanWake can cause t s
  | .recWrite => Sys2Proof.Machine.execRecWrite s
  | .bridgeFrame port f => Sys2Proof.Machine.execBridgeFrame port f s
  | .ethLinkChange port up => Sys2Proof.Machine.execEthLinkChange port up s
  | .pdelayReqInterval port => Sys2Proof.Machine.execPdelayReqInterval port s
  | .ptpDelayResp m request response reqIngress respIngress => Sys2Proof.Machine.execPtpDelayResp m request response reqIngress respIngress s
  | .pcieLinkUp => Sys2Proof.Machine.execPcieLinkUp s
  | .symbolLockGain trunk chan => Sys2Proof.Machine.execSymbolLockGain trunk chan s
  | .linkCycleStart f arrival trip => Sys2Proof.Machine.execLinkCycleStart f arrival trip s
  | .linkGrantReceived f => Sys2Proof.Machine.execLinkGrantReceived f s
  | .canRxError can e => Sys2Proof.Machine.execCanRxError can e s
  | .ppsOutPulseEnd => Sys2Proof.Machine.execPpsOutPulseEnd s
  | .ochreRequest port => Sys2Proof.Machine.execOchreRequest port s
  | .serdesCalibration unit t => Sys2Proof.Machine.execSerdesCalibration unit t s
  | .boundaryScanInstruction ti => Sys2Proof.Machine.execBoundaryScanInstruction ti s

end Sys2Proof.Machine
end

