-- ==== Sys2Proof/Machine/Registers.lean ====
section
/-!
DEFINITION. What the host reads from BAR0 (R403, Tables 14.2 to 14.6) and the levels of the block's output pins (R212,
R230, R380, R500, R504): functions of the state, with no effect. The read of TIME_NS that latches the seconds is a
command of its own.
-/
namespace Sys2Proof.Machine

/-! ### Status registers -/

/-- HEARTBEAT advanced within the last 2 planning periods (Table 14.4). -/
def State.fwAliveBit (s : State) : Bool := s.fwAlive && decide (s.host.hbAge < 2) && decide (0 < s.host.heartbeat.toNat)

/-- Any time-limited degraded mode is in force: of the safety channels, of a lane, of a trunk (R50, R239, R285, R466). -/
def State.anyDegraded (s : State) : Bool :=
  s.safety.degraded.isSome ||
  (s.lanes.log.any fun p => p.2.degraded || (p.2.wide && !s.allByChoice p.1)) ||
  (s.selide.trunks.any fun p => s.trunkDegraded p.1)

/-- A channel fault is in force: it clears only with PORST_N (R240). -/
def State.channelFaultNow (s : State) : Bool := s.safety.degraded.isSome || s.safety.degPending.isSome || s.safety.secondFault

/-- DEV_STATUS (Table 14.4). -/
def State.devStatus (s : State) : Nat :=
  s.power.phase % 8 + 8 * b2n s.fwAliveBit + 16 * b2n s.safety.armed + 32 * b2n s.isMember + 64 * b2n s.anyDegraded +
    128 * b2n s.host.supSingle + 256 * Nat.min 255 s.host.takeovers

/-- FAULT_SUMMARY (Table 14.2); the zones are those with a ZONE record. -/
def State.faultSummary (s : State) : Nat :=
  b2n (s.axes.any fun p => p.2.fault) + 2 * b2n (s.zoneList.any s.zoneSto) + 4 * b2n s.anyDegraded +
    8 * b2n s.channelFaultNow + 16 * b2n (pairNos.any fun p => (s.pair p).state = lpRetired)

/-- BOOT_STATUS (Table 14.3). -/
def State.bootStatus (s : State) : Nat := s.power.bootState % 8 + 256 * (s.power.bootError % 256)

/-- A register of ring `r`, at offset `k` of its block. -/
def State.ringReg (s : State) (r k : Nat) : Nat :=
  let x := s.ring r
  match k with
  | 0x00 => x.tail.toNat
  | 0x04 => x.accept.toNat
  | 0x08 => x.cplLo.toNat
  | 0x0C => x.cplHi.toNat
  | 0x10 => x.written.toNat
  | 0x14 => x.head.toNat
  | 0x18 => b2n x.enable + 4 * b2n x.notifyAll
  | _ => s.ringStatus r

/-- A word of the MSI-X table. -/
def State.msixWord (s : State) (o : Nat) : Nat :=
  let e := tblGet {} s.host.msix (o / 16)
  match o / 4 % 4 with
  | 0 => e.addrLo.toNat
  | 1 => e.addrHi.toNat
  | 2 => e.data.toNat
  | _ => e.ctrl.toNat

/-- The value an aligned read of BAR0 gives (Table 14.2); an offset that is not listed, and a write-only register, read 0. -/
def State.regRead (s : State) (o : Nat) : Nat :=
  if o % 4 ≠ 0 then 0
  else if 0x100 ≤ o ∧ o < 0x180 then s.ringReg ((o - 0x100) / 0x20) ((o - 0x100) % 0x20)
  else if 0x240 ≤ o ∧ o ≤ 0x27C then (cellRead s.host.scratch ((o - 0x240) / 4)).toNat
  else if 0x8000 ≤ o ∧ o < 0x8200 then s.msixWord (o - 0x8000)
  else if o ≤ 0x1C then s.idRegs.getD (o / 4) 0
  else match o with
    | 0x20 => s.bootStatus
    | 0x28 => s.host.bootCmdArg0.toNat
    | 0x2C => s.host.bootCmdArg1.toNat
    | 0x40 => s.devStatus
    | 0x44 => s.tick.cycle.toNat
    | 0x48 => s.time.ns
    | 0x4C => s.host.timeSecLatch.toNat % 2 ^ 32
    | 0x50 => s.host.timeSecLatch.toNat / 2 ^ 32
    | 0x54 => s.host.heartbeat.toNat
    | 0x58 => s.recd.seq % 2 ^ 32
    | 0x5C => s.recd.seq / 2 ^ 32
    | 0x60 => s.host.telemSeq.toNat
    | 0x64 => s.faultSummary
    | 0x68 => s.host.journalDepth
    | 0x6C => s.host.takeoverCycle.toNat
    | 0x70 => s.host.tempMax.toNat
    | 0x74 => s.host.powerNow.toNat
    | 0x200 => s.host.irqStatus.toNat
    | 0x204 => s.host.irqEnable.toNat
    | 0x208 => s.host.irqCoal.toNat
    | 0x20C => s.host.resetCnt.toNat
    | 0x9000 => s.host.pba.toNat
    | _ => 0

/-! ### PCI configuration space (Table 14.1) -/

/-- A word of configuration space. What the spec does not list of the standard header reads 0; the places of the capabilities
are the model's (log entry 154). -/
def State.cfgSpaceRead (s : State) (o : Nat) : Nat :=
  let x := s.host.pci
  match o with
  | 0x00 => 0xC5121E3C
  | 0x04 => x.command.toNat + 0x100000
  | 0x08 => 0x11800002
  | 0x10 => x.bar0.toNat
  | 0x18 => x.bar2.toNat + 0xC
  | 0x1C => x.bar3.toNat
  | 0x2C => 0xC5121E3C
  | 0x34 => 0x40
  | 0x40 => 0x35001
  | 0x44 => if x.d3hot then 3 else 0
  | 0x50 => 0x1F0011
  | 0x54 => 0x8000
  | 0x58 => 0x9000
  | _ => 0

/-! ### Output pins (Table 18.2) -/

/-- The strap-sensed outputs. -/
inductive Pin where
  | zone (island : Island) (z : Fin 16)
  | cmp (k : Fin 16)
  | tp (k : Fin 8)
  | canTxd (k : Fin 4)
  | tickOut
  | faultN
  deriving DecidableEq, Repr

/-- The pin's number among the straps. -/
def Pin.number : Pin → Nat
  | .zone .madder z => z.val
  | .zone .woad z => 16 + z.val
  | .cmp k => 32 + k.val
  | .tp k => 48 + k.val
  | .canTxd k => 56 + k.val
  | .tickOut => 60
  | .faultN => 61

/-- The pins that the loaded configuration uses (R504). -/
def State.usedPins (s : State) : List Nat :=
  (s.zoneList.flatMap fun z => [z, 16 + z]) ++ (s.safety.img.tests.map fun r => 48 + r.tp) ++
  (((upTo 16).filter fun k => s.pU 0x4041 k ≠ 0).map fun k => 32 + k) ++
  (((upTo 4).filter fun k => (s.canSt k).mode ≠ 0).map fun k => 56 + k)

/-- FAULT_N is at its run level (R504). -/
def State.faultNRun (s : State) : Bool :=
  (s.power.phase = 3 || s.power.phase = 4) && !s.channelFaultNow && !s.host.supSingle && s.safety.madderAlive &&
    s.safety.woadAlive && s.usedPins.all fun p => !(s.strap p).unstrapped

/-- The function that owns the pin drives its run level. -/
def State.pinRuns (s : State) : Pin → Bool
  | .zone e z => !s.zonePinSafe e z.val
  | .cmp k => (s.cmp k.val).active
  | .tp k => (s.testRec k.val).isSome && s.islandAlive (tpIsland k.val) && !s.tpLow k.val
  | .canTxd _ => false
  | .tickOut => false
  | .faultN => s.faultNRun

/-- The rails that a strap-sensed pin needs: VDD_CORE, that of its class (all are IO33, Table 19.1), and the island's where an
island owns it (R492). -/
def Pin.rails : Pin → List Rail
  | .zone .madder _ => [.core, .io33, .safeM]
  | .zone .woad _ => [.core, .io33, .safeW]
  | .tp k => [.core, .io33, match tpIsland k.val with | .madder => .safeM | .woad => .safeW]
  | _ => [.core, .io33]

/-- The level of a pin that runs or not; none while it is high-impedance: without one of its rails (R492), before the strap
window has ended, and unstrapped (R500). -/
def State.pinDrive (s : State) (p : Pin) (runs : Bool) : Option Bool :=
  let x := s.strap p.number
  if s.power.reset || !s.power.strapDone || x.unstrapped || p.rails.any fun r => !s.railOk (railNo r) then none
  else some (x.high != runs)

/-- The level of a pin. A controller's TXD is given as it stands between its frames, recessive high, and TICK_OUT between
its pulses. -/
def State.pinLevel (s : State) (p : Pin) : Option Bool := s.pinDrive p (s.pinRuns p)

/-- The level of TICK_OUT `t` ns after T0: opposite to its strap-learned level while its pulse lasts, and at that level in
a safe state, in which no pulse is given (R40, R500). -/
def State.tickOutLevel (s : State) (t : Nat) : Option Bool := s.pinDrive .tickOut (decide (t < s.tick.tickOut))

end Sys2Proof.Machine
end

