-- ==== Sys2Proof/Safety.lean ====
section
/-!
DEFINITION. What a safe run is: every step of it answers a next state.
-/
namespace Sys2Proof

/-- The machine makes `n` steps from `s` without a fault or a refusal. -/
def runsSafely : Nat → Machine.State → Prop
  | 0, _ => True
  | n + 1, s => ∃ t, Machine.step s = .next t ∧ runsSafely n t

end Sys2Proof
end

