-- ==== Sys2Proof/WellFormed.lean ====
section
/-!
DEFINITION. Which terms of `Instr` are commands the outside can give. Types bound most operands; what they do not
bound is here: a host command's ring and class of object (Table 15.5) and the ranges of its block, the lengths of
frames and samples, offsets within a tick. `exec` does not depend on these checks.
-/
namespace Sys2Proof

/-- The command stands in ring `ring` and addresses an object of one of `classes` (any class, if none is listed). -/
def Hdr.fits (h : Hdr) (ring : Nat) (classes : List Nat) : Bool :=
  decide (h.ring.val = ring) && (classes.isEmpty || classes.contains (h.obj.toNat / 2 ^ 28))

/-- An offset from T0 lies within the longest tick (R36). -/
def tickOffset (t : Nat) : Bool := decide (t < 125000)

/-- The SOF of a frame that ends in this tick: in it, or up to a second before T0 (R388). -/
def sofOffset (t : Int) : Bool := decide (-1000000000 < t) && decide (t < 125000)

/-- Table 4.2 (R91): 1 to 16 targets of 64 bits, bits 0 and 1 of FLAGS. -/
def MoveArgs.wf (a : MoveArgs) : Bool :=
  decide (1 ≤ a.targets.length) && decide (a.targets.length ≤ 16) && decide (a.flags.toNat < 4) &&
    a.targets.all fun v => decide (-(2 ^ 63 : Int) ≤ v) && decide (v < 2 ^ 63)

/-- Table 13.4 (R383): three flags, a DLC of 0 to 15, 64 bytes of data, reserved bit 31 of ID 0. -/
def CanMsg.wf (m : CanMsg) : Bool :=
  decide (m.flags.toNat < 8) && decide (m.dlc.toNat ≤ 15) && decide (m.data.length = 64) && !m.id.getLsbD 31

/-- Bytes that a DLC announces: 0 to 8, then 12 to 64 in an FD frame and 8 in a classic one (Table 13.4). -/
def dlcBytes (fd : Bool) (dlc : Nat) : Nat :=
  if dlc ≤ 8 then dlc
  else if fd then ([12, 16, 20, 24, 32, 48, 64].getD (dlc - 9) 64) else 8

/-- A received frame: as many bytes as its DLC announces, none in a remote frame, an 11-bit ID unless extended. -/
def CanFrame.wf (f : CanFrame) : Bool :=
  decide (f.data.length = if f.rtr then 0 else dlcBytes f.fdf f.dlc.val) && !(f.rtr && f.fdf) &&
    (f.ide || decide (f.id.toNat < 2048))

/-- A Selide frame carries a sub-frame exactly when CTRL.SUB is 1 (R257, R270). -/
def Frame.wf (f : Frame) : Bool := f.hdr.ctrl.getLsbD 4 == f.sub.isSome && decide (f.payload.length < 65536)

def DevTime.wf (d : DevTime) : Bool := decide (d.ns < 1000000000)

/-- A VLAN identifier has 12 bits (R353). -/
def vidOk (v : Nat) : Bool := decide (v < 4096)

def PtpHdr.wf (m : PtpHdr) : Bool := vidOk m.vid && decide (m.source < 2 ^ 80)

/-- Margins of the 64 path-delay sensors of Table 17.3, in units of 0.1 % of the period (R480, R505). -/
def marginsOk (l : List Nat) : Bool := decide (l.length = 64) && l.all fun m => decide (m ≤ 1000)

/-- A CAPREL's signed coordinates are 32-bit words (Table 9.11). -/
def v3Ok (p : Int × Int × Int) : Bool :=
  [p.1, p.2.1, p.2.2].all fun v => decide (-(2 ^ 31 : Int) ≤ v) && decide (v < 2 ^ 31)

/-- The well-formed commands. -/
def Instr.wf (c : Instr) : Bool :=
  match c with
  -- power and pins
  | .strapSense samples => decide (samples.length = 62)
  | .bistDone r => marginsOk r.margins
  | .ageingMeasurement margins => marginsOk margins
  | .eyeMonitor margins => decide (margins.length = 14) && margins.all fun m => decide (m ≤ 1000)
  -- registers and window
  | .registerWrite offset _ => decide (offset < 0x11000) && decide (offset % 4 = 0)
  | .hostWindowWrite offset data => decide (0 < data.length) && decide (offset + data.length ≤ 4194304)
  -- host commands, in the order of Table 15.5
  | .identify h | .linkStatus h | .deviceRun h | .selideStart h | .safeDisarm h => h.fits 0 [0]
  | .paramWrite h _ _ => h.fits 0 []
  | .nodeUnmute h => h.fits 0 [2]
  | .timeSet h _ _ | .safeArm h _ => h.fits 0 [0]
  | .safeArmGroup h _ => h.fits 0 [3]
  | .safeReset h => h.fits 0 [4, 0]
  | .safeStop h mode => h.fits 0 [4] && decide (mode.toNat ≤ 2)
  | .safeSls h on => h.fits 0 [3] && decide (on.toNat ≤ 1)
  | .move h a => h.fits 1 [1, 3] && a.wf
  | .halt h | .home h | .axisEnable h | .axisDisable h | .faultReset h => h.fits 1 [1, 3]
  | .align h | .sweep h _ => h.fits 1 [1]
  | .cmpLoad h winOffset count =>
    h.fits 1 [9] && decide (winOffset.toNat % 8 = 0) && decide (1 ≤ count.toNat) && decide (count.toNat ≤ 1024)
  | .nodeWake h | .nodeSleep h => h.fits 1 [2]
  | .imageLoad h _ _ => h.fits 2 [0]
  | .structLoad h _ _ | .structDrop h | .solverSelect h _ => h.fits 2 [7]
  | .solverUpdate h _ count _ => h.fits 2 [7] && decide (1 ≤ count.toNat) && decide (count.toNat ≤ 65536)
  | .nodeSend h _ length => h.fits 2 [2] && decide (1 ≤ length.toNat)
  | .canMode h mode => h.fits 2 [10] && decide (mode.toNat ≤ 3)
  | .canSend h m => h.fits 2 [10] && m.wf
  | .canCancel h _ | .canRecover h => h.fits 2 [10]
  | .canAbd h thenMode => h.fits 2 [10] && (decide (thenMode.toNat = 1) || decide (thenMode.toNat = 2))
  | .groupAdd h | .groupRemove h => h.fits 2 [3]
  | .axisMigrate h lane => h.fits 2 [1] && decide (lane.toNat ≤ 15)
  | .groupHalfRate h on => h.fits 2 [3] && decide (on.toNat ≤ 1)
  | .paramRead h _ _ => h.fits 3 []
  | .paramInfo h _ => h.fits 3 [0]
  | .recRead h _ winOffset count =>
    h.fits 3 [0] && decide (winOffset.toNat % 64 = 0) && decide (1 ≤ count.toNat) && decide (count.toNat ≤ 16384) &&
      decide (0x80000 ≤ winOffset.toNat) && decide (winOffset.toNat + 64 * count.toNat ≤ 4194304)
  | .abort _ _ targetRing => decide (targetRing.toNat ≤ 3)
  -- the tick
  | .laneEventPass _ _ slots finish => decide (slots ≤ 64) && tickOffset finish
  | .engineBoundPass _ publish | .engineLate _ publish => tickOffset publish
  | .quadEdge _ _ _ x | .pulseStep _ _ _ x => tickOffset x.t
  | .portIndexEvent _ x => tickOffset x.t
  | .cmpPortCrossing _ t | .cmpFire _ t
  | .cmpPulseEnd _ t | .siQualify _ _ _ t | .siDiscrepancy _ t | .tpPulseStart _ t | .tpPulseEnd _ t _
  | .echo _ _ t | .laneFailed _ _ t | .ppsInEdge t | .canTxAttempt _ t | .serdesCalibration _ t => tickOffset t
  | .ochreResponse _ r => tickOffset r.start && decide (0 < r.bitPs) && decide (r.line.length ≤ 1024)
  | .safetyCrossCompare disagree => decide disagree.Nodup
  -- frames
  | .upstreamDataFrame _ _ f _ | .extFrame _ f _ | .join _ f _ | .leave _ _ f _
  | .linkCycleStart f _ _ | .linkGrantReceived f | .linkGstat _ _ f _ | .linkCmdack _ _ _ _ f _ | .linkCmdgo _ _ f _ => f.wf
  | .cycleStartReceived _ x => x.frame.wf
  | .linkCaprel _ r f _ => v3Ok r.p1 && v3Ok r.p2 && f.wf
  | .linkSigma _ _ sigma f _ => decide (sigma.toNat ≤ 65536) && f.wf
  | .linkCmd _ _ descriptor f _ => decide (descriptor.length = 256) && f.wf
  | .ptpSync m origin ingress => m.wf && origin.wf && ingress.wf
  | .ptpFollowUp m origin t => m.wf && origin.wf && tickOffset t
  | .ptpAnnounce m a => m.wf && decide (a.grandmaster < 2 ^ 64)
  | .ptpPdelayReq m ingress egress => m.wf && ingress.wf && egress.wf
  | .ptpTransit m _ x => m.wf && tickOffset x.t
  | .ptpDelayResp m a b c d => m.wf && a.wf && b.wf && c.wf && d.wf
  | .bridgeFrame _ f => vidOk f.vid
  | .canRxFrame _ f t => f.wf && sofOffset t
  | .canWake _ (.frame f) t => f.wf && sofOffset t
  | .canWake _ (.edge _) t => sofOffset t
  | _ => true

end Sys2Proof
end

