-- ==== Sys2Proof/Certificates/Slice0/Obligations.lean ====
section
/-!
DEFINITION. Statements for the provers. `Completes c s P` says that the command `c` answers a next state at `s`, and
that this state satisfies `P`. An equation such as `{ t with host := s.host } = s` says that nothing but the named
part of State has changed.
-/

open Sys2Proof Sys2Proof.Machine

namespace Sys2Proof.Claims

/-- `c` answers a next state at `s`, and that state satisfies `P`. -/
def Completes (c : Instr) (s : State) (P : State → Prop) : Prop := ∃ t, Machine.exec c s = .next t ∧ P t

/-- The memories that the block addresses keep their canonical form: SCRATCH, the host window, what was written into host
memory, and the memories and register files of every lane pair. -/
def MemoriesCanonical (s : State) : Prop :=
  cellsWf s.host.scratch = true ∧ cellsWf s.host.window = true ∧ cellsWf s.host.hostMem = true ∧
  ∀ p, cellsWf (s.pair p).pMem = true ∧ cellsWf (s.pair p).xMem = true ∧ cellsWf (s.pair p).yMem = true ∧
    cellsWf (s.pair p).regs.d = true ∧ cellsWf (s.pair p).regs.a = true ∧ cellsWf (s.pair p).regs.p = true ∧
    cellsWf (s.pair p).regs.m = true ∧ cellsWf (s.pair p).regs.b = true ∧ cellsWf (s.pair p).regs.l = true

/-- The event is recorded with T0 of its tick as its time, unless 1,024 events already wait for the recorder (R456). -/
def Records (s t : State) (code : Nat) (obj : Word) (args : List Nat) : Prop :=
  queuedEvents s.recd.queue < 1024 →
    QEv.ev code obj (args.map (BitVec.ofNat 32)) s.tick.cycle (s.calendar (s.timeAt 0)) false ∈ t.recd.queue

/-- The event is recorded with a stamp of `n` ns after T0 (Table 12.4). -/
def RecordsAt (n : Nat) (s t : State) (code : Nat) (obj : Word) (args : List Nat) : Prop :=
  queuedEvents s.recd.queue < 1024 →
    QEv.ev code obj (args.map (BitVec.ofNat 32)) s.tick.cycle (s.calendar (s.timeAt n)) true ∈ t.recd.queue

/-- The event is recorded, where at most `k` others may come before it, unless the recorder's queue has no room for them. -/
def RecordsWithin (k : Nat) (s t : State) (code : Nat) (obj : Word) (args : List Nat) : Prop :=
  queuedEvents s.recd.queue + k < 1024 →
    QEv.ev code obj (args.map (BitVec.ofNat 32)) s.tick.cycle (s.calendar (s.timeAt 0)) false ∈ t.recd.queue

/-- The command `h` has a completion ready that reports this tick; a command accepted before a host reset has none (R425). -/
def Answered (s t : State) (h : Hdr) (status : Nat) : Prop :=
  (∀ e ∈ s.host.inflight, e.orphan = false) →
    ∃ c ∈ (t.ring h.ring.val).ready, c.tag = h.tag ∧ c.status = BitVec.ofNat 32 status ∧ c.cycle = s.tick.cycle

/-- The same, with RESULT. -/
def AnsweredWith (s t : State) (h : Hdr) (status result : Nat) : Prop :=
  (∀ e ∈ s.host.inflight, e.orphan = false) →
    ∃ c ∈ (t.ring h.ring.val).ready, c.tag = h.tag ∧ c.status = BitVec.ofNat 32 status ∧ c.cycle = s.tick.cycle ∧
      c.result = BitVec.ofNat 64 result

/-- The same, naming the object that refuses (R20). -/
def AnsweredFor (s t : State) (h : Hdr) (status : Nat) (obj : Word) : Prop :=
  (∀ e ∈ s.host.inflight, e.orphan = false) →
    ∃ c ∈ (t.ring h.ring.val).ready, c.tag = h.tag ∧ c.status = BitVec.ofNat 32 status ∧ c.cycle = s.tick.cycle ∧ c.obj = obj

/-- The command has begun to take effect and stays in flight; no completion is ready for it yet. -/
def Waits (s t : State) (h : Hdr) : Prop :=
  t.host.rings = s.host.rings ∧ ∀ e, s.openCmd none h.ring.val h.tag = some e → { e with begun := true } ∈ t.host.inflight

/-- Parameters whose commit has an effect of its own beside the value in force (R63, R77, R82, R119, R195, R357, R457). -/
def plainParam (num : Nat) : Bool :=
  !([0x1003, 0x1010, 0x100A, 0x2018, 0x201B, 0x4001, 0x6002, 0x9010, 0x9011, 0xB002].contains num)

/-! ### Lane code -/

/-- `s` with nothing changed but pair `p`, which becomes `y`. -/
def Leaves (s : State) (p : Fin 17) (c : Instr) (y : PairSt) : Prop :=
  Completes c s fun t => t.pair p.val = y ∧ (∀ q, q ≠ p.val → t.pair q = s.pair q) ∧
    { t with lanes := { t.lanes with pairs := s.lanes.pairs } } = s

/-- The pair issues an instruction of `size` parcels next: it runs, no repeat is set up, no event waits, and the parcels lie
where the instruction may stand (R301, R325, R339). -/
abbrev Fetches (x : PairSt) (size : Nat) : Prop :=
  x.issues = true ∧ x.regs.rpt = none ∧ x.events = [] ∧ (size = 2 → x.regs.pc % 2 = 0) ∧
  x.regs.pc + size ≤ 0x8000 ∧ (x.regs.user = true → 0x6000 ≤ x.regs.pc)

/-- The registers behind an instruction of `size` parcels and `cyc` cycles that is no flow instruction: the program counter,
the delay slots and the held boundaries have moved on (R315, R319, R347). -/
def behind (w : LaneRegs) (size cyc : Nat) : LaneRegs :=
  let next := w.pc + size
  let w := { w with cycles := w.cycles + cyc, held := w.held - 1, heldCyc := w.heldCyc - cyc }
  match w.delay, w.target with
  | 1, some a => { w with pc := a, delay := 0, target := none, call := false, stack := if w.call then next :: w.stack else w.stack }
  | 1, none => { w with pc := next, delay := 0, viaRet := false }
  | 0, _ => { w with pc := next, viaRet := false }
  | d + 1, _ => { w with pc := next, delay := d }

/-- A result lies outside a signed destination of `n` bits. -/
def outside (n : Nat) (v : Int) : Bool := decide (v < -(2 ^ (n - 1) : Int)) || decide ((2 ^ (n - 1) : Int) ≤ v)

/-- What such a destination stores: the nearest limit, or the low bits (R312). -/
def stored (sat : Bool) (n : Nat) (v : Int) : Int :=
  if sat then max (-(2 ^ (n - 1) : Int)) (min (2 ^ (n - 1) - 1) v) else (BitVec.ofInt n v).toInt

/-- `v / 2ⁿ` rounded to nearest with halves away from zero, or toward −∞ where RND is 1 (Table 10.5). -/
def rounded (trunc : Bool) (v : Int) (n : Nat) : Int :=
  if trunc then v / 2 ^ n else v.sign * ((2 * v.natAbs + 2 ^ n) / 2 ^ (n + 1) : Nat)

/-- FLAGS with Z, N, V, C, SV, SS, GU and SC as listed, and the other bits as they are. -/
def flagWord (w : LaneRegs) (l : List Bool) : Word :=
  (w.flags &&& 0xFFFFFF00) ||| BitVec.ofNat 32 (l.foldr (fun b n => b.toNat + 2 * n) 0)

/-- Code A of Table 11.4 with carry `c`. -/
def flagsA (w : LaneRegs) (sat : Bool) (n : Nat) (v : Int) (c : Bool) : List Bool :=
  [decide (stored sat n v = 0), decide (stored sat n v < 0), outside n v, c, w.flags.getLsbD 4 || (outside n v && !sat),
   w.flags.getLsbD 5 || (outside n v && sat), w.flags.getLsbD 6, w.flags.getLsbD 7]

/-- Code L of Table 11.4. -/
def flagsL (w : LaneRegs) (v : Word) : List Bool :=
  [decide (v = 0), v.msb, false, false, w.flags.getLsbD 4, w.flags.getLsbD 5, w.flags.getLsbD 6, w.flags.getLsbD 7]

/-- Code M of Table 11.4 for the results `v` and `u` (the same where there is one). -/
def flagsM (w : LaneRegs) (sat : Bool) (v u : Int) : List Bool :=
  let o := outside 80 v || outside 80 u
  [decide (stored sat 80 v = 0) && decide (stored sat 80 u = 0), decide (stored sat 80 v < 0), o, w.flags.getLsbD 3,
   w.flags.getLsbD 4 || (o && !sat), w.flags.getLsbD 5 || (o && sat),
   w.flags.getLsbD 6 || outside 64 (stored sat 80 v) || outside 64 (stored sat 80 u), w.flags.getLsbD 7]

/-- In the user stage, an instruction that does not complete is a user fault of the axis, and the pair goes on in its firmware
(R326). -/
def UserFaults (s : State) (p : Fin 17) (c : Instr) (cause : Nat) : Prop :=
  let x := s.pair p.val
  ∀ a, x.regs.user = true → x.userAxis = some a → Completes c s fun t =>
    (t.axis a).userDisabled = true ∧ (t.axis a).lp.uUser = (s.axis a).lp.uSat ∧ a ∈ t.lanes.disabled ∧
    Records s t evUserFault (mkRef clsAxis a) [(s.laneOf a).elim 0 Prod.fst, cause, x.regs.pc] ∧
    t.pair p.val = { x with userAxis := none, regs := { x.regs with mode := x.regs.mode &&& ~~~(8 : Word) } } ∧
    (∀ b, b ≠ a → t.axis b = s.axis b) ∧
    { t with axes := s.axes, lanes := { t.lanes with pairs := s.lanes.pairs, disabled := s.lanes.disabled }, recd := s.recd } = s

/-- In the firmware, it fails the pair (R332). -/
def PairFails (s : State) (p : Fin 17) (c : Instr) : Prop :=
  let x := s.pair p.val
  x.regs.user = false → x.working = true → Completes c s fun t =>
    (t.pair p.val).state = lpRecover ∧ (t.pair p.val).recovering = true ∧ (t.pair p.val).lane = none ∧
    (t.pair p.val).fails = min 255 (x.fails + 1) ∧
    Records s t evLaneFailed s.devRef [p.val, (if x.reserve then none else x.lane).getD 0xFF, laneCauseCode .firmwareFault] ∧
    t.host.irqStatus.getLsbD 14 = true ∧
    { t with host := s.host, axes := s.axes, lanes := s.lanes, recd := s.recd, health := s.health } = s

/-- The instruction does not complete, wherever it stands. -/
def Faults (s : State) (p : Fin 17) (c : Instr) (cause : Nat) : Prop := UserFaults s p c cause ∧ PairFails s p c

end Sys2Proof.Claims

open Sys2Proof.Claims

/-! ### The machine -/

/-- The instructions of this block's model: a step takes the command at the front of the queue and runs it on the state
with the queue's rest. -/
def Obligations.StepRunsTheFrontCommand : Prop :=
  ∀ (c : Instr) (rest : List Instr) (s : State),
    Machine.step { s with pending := c :: rest } = Machine.exec c { s with pending := rest }

/-- R405, R414: no command stops the block. Every command other than a host write past the end of the window has a next state, in every
state and with every operand; the other statements say which. -/
def Obligations.EveryCommandHasANextState : Prop :=
  ∀ (c : Instr) (s : State), (∀ off l, c = .hostWindowWrite off l → off + l.length ≤ 4194304) →
    ∃ t, Machine.exec c s = .next t

/-- Tables 14.2, 14.3 and 18.6: what the registers of BAR0 read at reset (a value that no table states: log entry 8).
The invariant of `StepKeepsMemoriesCanonical` holds at reset: no memory lists a byte or word that it need not. -/
def Obligations.ResetStateFollowsItsTables : Prop :=
  (
  State.reset.regRead 0x00 = 0xC5121E3C ∧ State.reset.regRead 0x04 = 2 ∧ State.reset.regRead 0x1C = 0xFF ∧
  (∀ o, o ∉ [0x00, 0x04, 0x1C] → ¬ (0x8000 ≤ o ∧ o < 0x8200) → State.reset.regRead o = 0) ∧
  (∀ k, k < 32 → State.reset.regRead (0x800C + 16 * k) = 1) ∧
  State.reset.power.phase = 0 ∧ State.reset.power.bootState = 0) ∧
  (
  MemoriesCanonical State.reset)

/-- Every step keeps every memory that the block addresses in its canonical form, whatever command is in front: SCRATCH, the host
window, host memory, and the memories and register files of the lane pairs (R309, R314, R402, R405). -/
def Obligations.StepKeepsMemoriesCanonical : Prop :=
  ∀ s t, MemoriesCanonical s → Machine.step s = .next t → MemoriesCanonical t

/-! ### Power, straps and boot (R410 to R413, R491 to R505) -/

/-- R491, R493, R495, R464, R494: rails, the reference clock, and what starts and ends internal reset. A rail of an island
that fails loses the island; another resets the device, and PORST_N low for 10 µs does so; what a pulse of 1 to 10 µs does is open.
R411, R413: a boot command acts only in ROM_READY and FAILED. LOAD_FW gives STARTING or FAILED with the first error of
the checks; the fuse commands enter FUSE_WRITE as CUST_PRESENT allows. Device time goes on meanwhile (R363, log entry 68).
R410, R411, R503: what follows by itself: ROM_READY, the end of a fuse write, the running firmware, which releases the
identity registers and enters SELF_TEST. -/
def Obligations.RailsAndBootFollowTheirStates : Prop :=
  (
  ∀ s : State,
    (∀ r, Completes (.railValid r) s fun t =>
      (∀ q, t.railOk q = if q = railNo r then true else s.railOk q) ∧
      { t with power := { t.power with rails := s.power.rails } } = s) ∧
    (∀ r ns, 1000 < ns → s.power.reset = false → r ≠ .safeM → r ≠ .safeW → Completes (.railInvalid r ns) s fun t =>
      t = { State.reset with
        power := { fuses := s.power.fuses, rails := tblSet s.power.rails (railNo r) false, refclk := s.power.refclk }
        host := { hostMem := s.host.hostMem }, free := s.free, pending := s.pending }) ∧
    (∀ r ns, 1000 < ns → s.power.reset = true → Completes (.railInvalid r ns) s fun t =>
      (∀ q, t.railOk q = if q = railNo r then false else s.railOk q) ∧
      { t with power := { t.power with rails := s.power.rails } } = s) ∧
    (∀ r ns, ns ≤ 1000 → Completes (.railInvalid r ns) s fun t => t = s) ∧
    (let resets := fun (t : State) (free : Nat) => t = { State.reset with
        power := { fuses := s.power.fuses, rails := s.power.rails, refclk := s.power.refclk }
        host := { hostMem := s.host.hostMem }, free := free, pending := s.pending }
     (∀ ns, 10000 ≤ ns → Completes (.porstNLow ns) s fun t => resets t s.free) ∧
     (∀ ns, 1000 ≤ ns → ns < 10000 → Completes (.porstNLow ns) s fun t =>
       resets t (s.free + 1) ∨ t = { s with free := s.free + 1 })) ∧
    (∀ ns, ns < 1000 → Completes (.porstNLow ns) s fun t => t = s) ∧
    ((∀ r, s.railOk (railNo r) = true) → s.power.reset = true → Completes .internalResetRelease s fun t =>
      t.power.reset = false ∧ { t with power := { t.power with reset := true, refclk := s.power.refclk } } = s) ∧
    ((s.power.reset = false ∨ ∃ r, s.railOk (railNo r) = false) → Completes .internalResetRelease s fun t => t = s) ∧
    Completes .refclkLoss s fun t => t.power.refclk = false ∧ ∀ z ∈ s.zoneList, t.zoneSto z = true) ∧
  (
  ∀ s : State,
    ((s.power.bootState = 1 ∨ s.power.bootState = 7) →
      (Completes .loadFw s fun t =>
        let img := s.winRead s.host.bootCmdArg0.toNat s.host.bootCmdArg1.toNat
        let e := fwError s.power.fuses s.host.bootCmdArg1.toNat img
        (e = 0 → t.power.bootState = 3 ∧ t.power.bootError = 0 ∧ t.power.phase = s.power.phase) ∧
        (e ≠ 0 → t.power.bootState = 7 ∧ t.power.bootError = e ∧ t.power.phase = 5) ∧
        t.power.fuses = s.power.fuses ∧ t.power.fw = s.power.fw ∧
        { t with power := s.power, host := s.host, recd := s.recd, time := s.time, free := s.free } = s) ∧
      (s.power.fuses.custPresent = false → Completes .burnCustKey s fun t =>
        t.power.bootState = 5 ∧ t.power.fuseData = s.winRead s.host.bootCmdArg0.toNat 48 ∧ t.power.fuseWrite = 1 ∧
        t.power.fuses = s.power.fuses ∧ { t with power := s.power, host := s.host, time := s.time, free := s.free } = s) ∧
      (s.power.fuses.custPresent = true → Completes .burnCustKey s fun t => { t with time := s.time, free := s.free } = s) ∧
      (s.power.fuses.custPresent = true → Completes .burnVendorDisable s fun t =>
        t.power.bootState = 5 ∧ t.power.fuseWrite = 2 ∧ t.power.fuses = s.power.fuses ∧
        { t with power := s.power, host := s.host, time := s.time, free := s.free } = s) ∧
      (s.power.fuses.custPresent = false → Completes .burnVendorDisable s fun t => { t with time := s.time, free := s.free } = s)) ∧
    (s.power.bootState ≠ 1 → s.power.bootState ≠ 7 → ∀ c ∈ [Instr.loadFw, .burnCustKey, .burnVendorDisable],
      Completes c s fun t => t = s)) ∧
  (
  ∀ s : State,
    (s.power.reset = false → s.power.bootState = 0 → Completes .romReady s fun t =>
      t.power.bootState = 1 ∧ t.host.irqStatus.getLsbD 4 = true ∧ t.time.sec = 86400 ∧ t.time.ns = 0 ∧
      { t with power := { t.power with bootState := 0, bootError := s.power.bootError }, host := s.host, time := s.time } = s) ∧
    (s.power.bootState = 5 → Completes (.fuseWriteDone true) s fun t =>
      t.power.bootState = 1 ∧ t.power.fuses = s.power.fuses.written s.power.fuseWrite s.power.fuseData ∧
      t.power.fuseWrite = 0 ∧ { t with power := s.power, host := s.host, time := s.time, free := s.free } = s) ∧
    (s.power.bootState = 5 → Completes (.fuseWriteDone false) s fun t =>
      t.power.bootState = 7 ∧ t.power.bootError = 12 ∧ t.power.fuses.eccErr = true ∧
      { t with power := s.power, host := s.host, recd := s.recd, time := s.time, free := s.free } = s) ∧
    (s.power.reset = true ∨ s.power.bootState ≠ 0 → Completes .romReady s fun t => t = s) ∧
    (s.power.bootState ≠ 5 → ∀ ok, Completes (.fuseWriteDone ok) s fun t => t = s) ∧
    (s.power.bootState ≠ 3 ∨ s.power.fwPending = none → Completes .fwRunning s fun t => t = s) ∧
    (∀ f, s.power.bootState = 3 → s.power.fwPending = some f → Completes .fwRunning s fun t =>
      t.power.bootState = 4 ∧ t.power.phase = 1 ∧ t.power.fw = some f ∧ t.regRead 0x08 = f.release.toNat ∧
      t.regRead 0x0C = f.build.toNat ∧ t.power.fuses = s.power.fuses ∧
      { t with power := s.power, host := s.host, recd := s.recd, time := s.time, free := s.free } = s))

/-- R498: the result of the strap sense at each of the 62 pins (Table 18.3); it stands until the next internal reset. -/
def Obligations.StrapSenseFollowsItsTable : Prop :=
  ∀ (s : State) (l : List StrapSample), s.power.reset = false → s.power.strapDone = false →
    Completes (.strapSense l) s fun t =>
      (∀ k x, l[k]? = some x →
        ((t.strap k).high = true ↔ x.at20 = .high ∧ x.at45 = .high) ∧
        ((t.strap k).unstrapped = false ↔
          (x.at20 = .low ∧ x.at45 = .low) ∨ (x.at20 = .high ∧ x.at45 = .high ∧ lowOnly k = false))) ∧
      t.power.strapDone = true ∧
      { t with power := { t.power with strapDone := false, straps := s.power.straps } } = s ∧
      ∀ l', Completes (.strapSense l') t fun u => u = t

/-- R505: after the self-test the device enters CONFIG if enough passed, else FAILED with the first failing item; a pair that
failed is RETIRED, and with pair k failed and pair 16 passed, pair 16 serves lane k; with 16 passing pairs there is no reserve. BIST_DONE
is recorded and BIST_RESULT published; with two supervisor cores there is no standby, and SUP_SINGLE stays as it is. -/
def Obligations.SelfTestDecidesConfigOrFailed : Prop :=
  ∀ (s : State) (r : BistIn), s.power.phase = 1 → s.power.reset = false → Completes (.bistDone r) s fun t =>
    (BistIn.failCause r = 0 ↔ 2 ≤ r.supPass.val ∧ 16 ≤ (pairNos.filter fun p => r.lanePass.getLsbD p).length ∧
      r.madder = true ∧ r.woad = true ∧ r.solver = true ∧ r.memory = true) ∧
    (t.power.phase = if BistIn.failCause r = 0 then 2 else 5) ∧ t.power.failCause = BistIn.failCause r ∧
    (BistIn.failCause r = if r.supPass.val < 2 then 1
      else if (pairNos.filter fun p => r.lanePass.getLsbD p).length < 16 then 2
      else if r.madder = false then 3 else if r.woad = false then 4 else if r.solver = false then 5
      else if r.memory = false then 6 else 0) ∧
    t.power.bist.toNat % 8 = r.supPass.val ∧ t.power.bist.toNat / 8 % 2 ^ 17 = r.lanePass.toNat ∧
    t.power.bist.getLsbD 20 = r.madder ∧ t.power.bist.getLsbD 21 = r.woad ∧ t.power.bist.getLsbD 22 = r.solver ∧
    t.power.bist.getLsbD 23 = r.memory ∧ t.power.bist.toNat / 2 ^ 24 = BistIn.failCause r ∧
    (queuedEvents s.recd.queue + 5 < 1024 → ∃ t0, QEv.ev evBistDone s.devRef
      [t.power.bist, BitVec.ofNat 32 r.durationMs] s.tick.cycle t0 false ∈ t.recd.queue) ∧
    t.host.standby = decide (r.supPass.val = 3) ∧ t.host.supSingle = s.host.supSingle ∧
    t.power.straps = s.power.straps ∧ t.power.fuses = s.power.fuses ∧
    (∀ p, p < 17 → r.lanePass.getLsbD p = false → (t.pair p).state = lpRetired ∧ (t.pair p).lane = none) ∧
    (∀ p, p < 16 → r.lanePass.getLsbD p = true → (t.pair p).lane = some p) ∧
    (∀ p, p < 17 → ({ t.pair p with state := (s.pair p).state, lane := (s.pair p).lane, reserve := (s.pair p).reserve } :
      PairSt) = s.pair p) ∧
    (∀ k, k < 16 → (∀ p, p < 17 → p ≠ k → r.lanePass.getLsbD p = true) → r.lanePass.getLsbD k = false →
      (t.pair 16).lane = some k) ∧
    ((pairNos.filter fun p => r.lanePass.getLsbD p).length = 16 → ∀ p, p < 17 → (t.pair p).reserve = false) ∧
    ((pairNos.filter fun p => r.lanePass.getLsbD p).length = 17 → (t.pair 16).reserve = true) ∧
    { t with power := s.power, host := s.host, recd := s.recd, lanes := s.lanes, time := s.time, health := s.health,
             tick := s.tick } = s

/-! ### Host registers, window and rings (R391, R403 to R405, R415 to R425) -/

/-- R425: what a reset of the function changes: the ring registers but CPL_BASE, the causes, the completions not yet written,
HOST_RESET_CNT. Nothing outside the host interface and the recorder. -/
def Obligations.HostResetResetsTheFunctionOnly : Prop :=
  ∀ (s : State) (k : HostResetCause), s.power.reset = false → Completes (.hostReset k) s fun t =>
    (∀ r o, r < 4 → o ∈ [0x00, 0x04, 0x10, 0x14, 0x18] → t.ringReg r o = 0) ∧
    (∀ r, (t.ring r).ready = [] ∧ (t.ring r).cplLo = (s.ring r).cplLo ∧ (t.ring r).cplHi = (s.ring r).cplHi) ∧
    t.host.irqStatus = 0 ∧ t.host.irqEnable = 0 ∧ t.host.resetCnt = s.host.resetCnt + 1 ∧
    t.host.window = s.host.window ∧ t.host.scratch = s.host.scratch ∧ t.host.hostMem = s.host.hostMem ∧
    (∀ e, e ∈ t.host.inflight ↔ ∃ e' ∈ s.host.inflight, e'.decided = false ∧ e = { e' with orphan := true }) ∧
    Records s t evHostReset s.devRef
      [resetCode k, (s.host.rings.map fun p => p.2.ready.length).foldl (· + ·) 0] ∧
    { t with host := s.host, recd := s.recd } = s

/-- R415, R416: a CMD_TAIL write submits the descriptors up to it in ring order; one that leaves more than 32 in flight, or
moves backwards, sets OVERRUN. A CPL_HEAD write beyond CPL_WRITTEN is ignored. RESET acts only while ENABLE is 0 and nothing
is in flight.
R423, R404 (Tables 14.2, 14.7): the hold-off, RW1C of IRQ_STATUS, the latch of the seconds by a read of TIME_NS; a cause
that is already set raises no further message. Before the first tick TIME_NS reads a later instant each time (R363, log entry 68).
R403, R404: SCRATCH keeps what is written; IRQ_ENABLE takes its defined bits, BOOT_ARG0 and BOOT_ARG1 whole words; a write
to an offset that the table does not list is ignored, and so is every write before ROM_READY and in D3hot. R401, with offsets from
64 KB on as configuration space (log entry 154): BAR2 keeps its address bits, and D3hot is entered and left. -/
def Obligations.HostRegistersAndCauses : Prop :=
  (
  ∀ (s : State) (r : Fin 4) (v : Word), s.hostUsable = true →
    ((s.ring r.val).overrun = false → ((s.ring r.val).tail - (s.ring r.val).head).toNat ≤ (v - (s.ring r.val).head).toNat →
      (v - (s.ring r.val).head).toNat ≤ 32 → Completes (.cmdTailWrite r v) s fun t =>
        t.ringReg r.val 0 = v.toNat ∧ (t.ring r.val).overrun = false ∧
        t.host.doorbells = s.host.doorbells ++ (countsFrom (s.ring r.val).tail (v - (s.ring r.val).tail).toNat).map fun n => (r, n)) ∧
    ((s.ring r.val).overrun = false → (32 < (v - (s.ring r.val).head).toNat ∨
        (v - (s.ring r.val).head).toNat < ((s.ring r.val).tail - (s.ring r.val).head).toNat) →
      Completes (.cmdTailWrite r v) s fun t => (t.ring r.val).overrun = true ∧ (∀ n, (r, n) ∉ t.host.doorbells) ∧
        t.host.inflight = s.host.inflight ∧
        Records s t evHostRingOverrun s.devRef [r.val, v.toNat, (s.ring r.val).head.toNat]) ∧
    (((s.ring r.val).written - (s.ring r.val).head).toNat < (v - (s.ring r.val).head).toNat →
      Completes (.cplHeadWrite r v) s fun t => t = s) ∧
    ((v - (s.ring r.val).head).toNat ≤ ((s.ring r.val).written - (s.ring r.val).head).toNat →
      Completes (.cplHeadWrite r v) s fun t => (t.ring r.val).head = v ∧ ∀ e ∈ t.host.inflight, e ∈ s.host.inflight) ∧
    (Completes (.ringEnable r v) s fun t =>
      (t.ring r.val).enable = v.getLsbD 0 ∧ (t.ring r.val).notifyAll = v.getLsbD 2 ∧
      (v.getLsbD 1 = false → (t.ring r.val).tail = (s.ring r.val).tail)) ∧
    (v.getLsbD 0 = false → v.getLsbD 1 = true → (s.ring r.val).tail = (s.ring r.val).head →
      Completes (.ringReset r v) s fun t => t.ringReg r.val 0 = 0 ∧ t.ringReg r.val 4 = 0 ∧ t.ringReg r.val 0x10 = 0 ∧
        t.ringReg r.val 0x14 = 0 ∧ (t.ring r.val).overrun = false ∧ (t.ring r.val).cplLo = (s.ring r.val).cplLo) ∧
    ∀ c ∈ [Instr.cmdTailWrite r v, .cplHeadWrite r v, .ringEnable r v, .ringReset r v], Completes c s fun t =>
      (∀ q, q ≠ r.val → t.ring q = s.ring q) ∧ t.host.window = s.host.window ∧ t.host.irqStatus = s.host.irqStatus ∧
      { t with host := s.host, recd := s.recd } = s) ∧
  (
  ∀ s : State,
    (∀ (r : Fin 4) t0, (s.ring r.val).unsignalledNs = some t0 → s.holdOff ≠ 0 → t0 + s.holdOff < s.now + s.P →
      Completes (.irqCoalHoldoff r) s fun t => t.host.irqStatus.getLsbD r.val = true ∧
        (t.ring r.val).unsignalledNs = none ∧ { t with host := s.host } = s) ∧
    (s.hostUsable = true → ∀ m : Word, Completes (.irqStatusClear m) s fun t =>
      t.host.irqStatus = s.host.irqStatus &&& ~~~m ∧ t.host.irqEnable = s.host.irqEnable ∧
      { t with host := s.host } = s) ∧
    (s.hostUsable = true → Completes .timeNsRead s fun t =>
      t.host.timeNsReg = BitVec.ofNat 32 t.time.ns ∧ t.host.timeSecLatch = BitVec.ofNat 48 t.time.sec ∧
      (s.tick.running = true → t.time = s.time ∧ t.free = s.free) ∧
      { t with host := { t.host with timeNsReg := s.host.timeNsReg, timeSecLatch := s.host.timeSecLatch }
               time := { t.time with sec := s.time.sec, ns := s.time.ns }, free := s.free } = s) ∧
    (∀ k, bitN s.host.irqStatus.toNat k = true → s.raiseIrq k = s)) ∧
  (
  ∀ (s : State) (v : Word), cellsWf s.host.scratch = true → s.hostUsable = true →
    (∀ k, k < 16 → Completes (.registerWrite (0x240 + 4 * k) v) s fun t =>
      t.regRead (0x240 + 4 * k) = v.toNat ∧
      (∀ j, j < 16 → j ≠ k → t.regRead (0x240 + 4 * j) = s.regRead (0x240 + 4 * j)) ∧
      { t with host := { t.host with scratch := s.host.scratch } } = s) ∧
    (Completes (.registerWrite 0x204 v) s fun t => t.regRead 0x204 = v.toNat % 2 ^ 15 ∧ { t with host := s.host } = s) ∧
    (Completes (.registerWrite 0x28 v) s fun t => t.regRead 0x28 = v.toNat ∧ { t with host := s.host } = s) ∧
    (Completes (.registerWrite 0x2C v) s fun t => t.regRead 0x2C = v.toNat ∧ { t with host := s.host } = s) ∧
    (∀ o, (o % 4 ≠ 0 ∨ o < 0x24 ∨ (0x30 ≤ o ∧ o < 0x100) ∨ (0x20C ≤ o ∧ o < 0x240) ∨ (0x280 ≤ o ∧ o < 0x8000) ∨ (0x8200 ≤ o ∧ o < 0x10000)) →
      Completes (.registerWrite o v) s fun t => t = s) ∧
    (∀ o (u : State), o < 0x10000 → u.hostUsable = false → Completes (.registerWrite o v) u fun t => t = u) ∧
    ∀ u : State, u.power.reset = false → u.host.linkUp = true →
      (Completes (.registerWrite 0x10018 v) u fun t => t.cfgSpaceRead 0x18 = v.toNat / 2 ^ 22 * 2 ^ 22 + 0xC ∧
        { t with host := { t.host with pci := { t.host.pci with bar2 := u.host.pci.bar2 } } } = u) ∧
      (v.toNat % 4 = 3 → Completes (.registerWrite 0x10044 v) u fun t => t.cfgSpaceRead 0x44 = 3 ∧ t.hostUsable = false ∧
        { t with host := { t.host with pci := { t.host.pci with d3hot := u.host.pci.d3hot } } } = u) ∧
      (v.toNat % 4 = 0 → u.host.pba = 0 → Completes (.registerWrite 0x10044 v) u fun t => t.cfgSpaceRead 0x44 = 0 ∧
        { t with host := { t.host with pci := { t.host.pci with d3hot := u.host.pci.d3hot } } } = u))

/-- R417, R418: the first descriptor that is submitted on a ring being served is accepted: CMD_ACCEPT advances, a journal entry
is written, and a command whose form fails is completed at once with the status of the check. -/
def Obligations.AcceptanceTakesTheFirstServedDescriptor : Prop :=
  ∀ (s : State) (r : Fin 4) (n : Word), s.nextDoorbell = some (r, n) → Completes .commandAccept s fun t =>
    (t.ring r.val).accept = n + 1 ∧ t.host.journalDepth = s.host.journalDepth + 1 ∧
    (∃ j ∈ t.host.journal, j.seq = s.host.seq ∧ j.ring = r) ∧ t.host.doorbells = s.host.doorbells.erase (r, n) ∧
    (let off := 0x1000 + 8192 * r.val + 256 * (n.toNat % 32)
     let d := descriptorOf (s.winRead off 256)
     match s.formCheck r d (s.slotPoisoned off) with
     | (st, none) => ∃ c ∈ (t.ring r.val).ready, c.tag = d.tag ∧ c.status = BitVec.ofNat 32 st ∧ c.cycle = s.tick.cycle
     | (_, some c) => ∃ e ∈ t.host.inflight, e.hdr = { ring := r, tag := d.tag, obj := d.obj } ∧ e.cmd = c ∧
         e.decided = false ∧ s.tick.no < e.earliest) ∧
    t.host.window = s.host.window ∧ { t with host := s.host, link := s.link } = s

/-- R418, with Tables 4.2 and 13.4 and the argument blocks of Table 15.5: a descriptor of 256 bytes that passes acceptance
spells a well-formed command. -/
def Obligations.AcceptedDescriptorsSpellWellFormedCommands : Prop :=
  ∀ (s : State) (r : Fin 4) (l : List Byte) (p : Bool) (st : Nat) (c : Instr), l.length = 256 →
    s.formCheck r (descriptorOf l) p = (st, some c) → st = stOk ∧ c.wf = true

/-- R422, R423, R414: completion n goes to slot n mod 32 of its completion ring in host memory while n < CPL_HEAD + 32, and
otherwise waits; with NOTIFY it sets CPLr. -/
def Obligations.CompletionsAreWrittenInOrder : Prop :=
  ∀ (s : State) (r : Fin 4) (c : Cpl) (l : List Cpl), cellsWf s.host.hostMem = true → (s.ring r.val).ready = c :: l →
    (s.host.suspended = false → ((s.ring r.val).written - (s.ring r.val).head).toNat < 32 →
      Completes (.completionWrite r) s fun t =>
        let n := (s.ring r.val).written
        let addr := (s.ring r.val).cplHi.toNat * 2 ^ 32 + (s.ring r.val).cplLo.toNat + 32 * (n.toNat % 32)
        (t.ring r.val).written = n + 1 ∧ (t.ring r.val).ready = l ∧
        readCells t.host.hostMem addr 32 = cplBytes c n.toNat ∧
        (∀ a, a < addr ∨ addr + 32 ≤ a → cellRead t.host.hostMem a = cellRead s.host.hostMem a) ∧
        (c.notify = true ∨ (s.ring r.val).notifyAll = true → t.host.irqStatus.getLsbD r.val = true) ∧
        { t with host := s.host } = s) ∧
    (32 ≤ ((s.ring r.val).written - (s.ring r.val).head).toNat → Completes (.completionWrite r) s fun t => t = s)

/-- R405: a host write lies in a writable area and changes exactly its bytes, or it is discarded with HOST_WRITE_DENIED and its
offset. Bytes outside the window do not exist. -/
def Obligations.HostWindowWritesStayInTheirAreas : Prop :=
  ∀ (s : State) (off : Nat) (l : List Byte), cellsWf s.host.window = true → s.hostUsable = true → l ≠ [] →
    ((0x1000 ≤ off ∧ off + l.length ≤ 0x9000) ∨ (0x80000 ≤ off ∧ off + l.length ≤ 4194304) →
      Completes (.hostWindowWrite off l) s fun t =>
        t.winRead off l.length = l ∧
        (∀ a, a < off ∨ off + l.length ≤ a → cellRead t.host.window a = cellRead s.host.window a) ∧
        t.host.irqStatus = s.host.irqStatus ∧ t.recd = s.recd ∧
        { t with host := { t.host with window := s.host.window }, health := { t.health with poison := s.health.poison } } = s) ∧
    (off + l.length ≤ 0x1000 ∨ (0x9000 ≤ off ∧ off + l.length ≤ 0x18000) ∨ (0x40000 ≤ off ∧ off + l.length ≤ 0x80000) →
      Completes (.hostWindowWrite off l) s fun t =>
        t.host = s.host ∧ Records s t evHostWriteDenied s.devRef [off] ∧ { t with recd := s.recd } = s) ∧
    (4194304 < off + l.length → Machine.exec (.hostWindowWrite off l) s = .fault .outsideHostWindow)

/-! ### Commands of the device: identification, images, parameters, RUN, ABORT (R30 to R35, R424, R434 to R442, R508) -/

/-- R442: IDENTIFY returns the serial number, LINK_STATUS the devices present and, in bit 16, whether the device is a member;
R441: PARAM_INFO returns the description of a number of the dictionary, and ST_BAD_PARAM for another.
R424: ABORT finds no such command in flight, or one whose status is decided, or one that still waits, which it aborts. -/
def Obligations.IdentityAndAbortCommands : Prop :=
  (
  ∀ (s : State) (h : Hdr),
    (Completes (.identify h) s fun t => AnsweredWith s t h stOk s.power.fuses.serial.toNat ∧ { t with host := s.host } = s) ∧
    (Completes (.linkStatus h) s fun t => AnsweredWith s t h stOk (s.linkBitmap + 65536 * b2n s.isMember) ∧
      { t with host := s.host } = s) ∧
    (∀ (n : Word16) (r : PRow), paramRow n.toNat = some r → Completes (.paramInfo h n) s fun t =>
      AnsweredWith s t h stOk r.info ∧ { t with host := s.host } = s) ∧
    (∀ n : Word16, paramRow n.toNat = none → Completes (.paramInfo h n) s fun t =>
      Answered s t h stBadParam ∧ { t with host := s.host } = s)) ∧
  (
  ∀ (s : State) (h : Hdr) (tag : Word64) (ring : Byte), ring.toNat ≤ 3 →
    (s.abortTarget h ring.toNat tag = none → Completes (.abort h tag ring) s fun t =>
      Answered s t h (if (s.ring ring.toNat).lastTags.contains tag then stAlreadyDone else stNoTarget) ∧
      { t with host := s.host } = s) ∧
    (∀ e, s.abortTarget h ring.toNat tag = some e →
      (e.decided = true → Completes (.abort h tag ring) s fun t => Answered s t h stAlreadyDone ∧ { t with host := s.host } = s) ∧
      (e.decided = false → e.begun = false → s.linkCmdOf e.hdr = none → Completes (.abort h tag ring) s fun t =>
        Answered s t e.hdr stAborted ∧ Answered s t h stOk ∧ { t with host := s.host } = s)))

/-- R434, R436, R437: a PARAM_WRITE that may be made on each of its objects, of a parameter of class "tick" or at a planning
boundary, puts the value in force on them and changes no other parameter; where one object refuses, its status is answered and
nothing changes; a "planning" parameter waits, staged, for the boundary.
R440: after the shadow cut-off of a tick, and before Selide ticks, a PARAM_READ of one object of this device answers the
value in force or the value of the quantity that the number names; STAGED answers the last staged value in its place. Before
the cut-off, and among the commands of step 6, the read waits. -/
def Obligations.ParametersAreWrittenAndRead : Prop :=
  (
  ∀ (s : State) (h : Hdr) (num : Word16) (v : Word64) (r : PRow), paramRow num.toNat = some r → r.classOk h.obj = true →
    ((r.tick = true ∨ s.boundary = true) → ¬ (r.cls = clsAxis ∧ refClass h.obj = clsGroup ∧ s.axesBelow h.obj = []) →
      ((∀ w ∈ s.targets r h.obj, s.writeStatus r num.toNat (refIndex w) v.toNat = 0) → r.clear0 = false → num.toNat ≠ 0xB002 →
        Completes (.paramWrite h num v) s fun t =>
          Answered s t h stOk ∧ (∀ w ∈ s.targets r h.obj, t.raw num.toNat (refIndex w) = v.toNat) ∧
          (∀ n i, i < 65536 → (∀ w ∈ s.targets r h.obj, (n, i) ≠ (num.toNat, refIndex w)) → t.raw n i = s.raw n i) ∧
          (plainParam num.toNat = true → { t with par := { t.par with vals := s.par.vals }, host := s.host } = s)) ∧
      (∀ w, (s.targets r h.obj).find? (fun w => s.writeStatus r num.toNat (refIndex w) v.toNat ≠ 0) = some w →
        Completes (.paramWrite h num v) s fun t =>
          AnsweredWith s t h (s.writeStatus r num.toNat (refIndex w) v.toNat)
            (if s.writeStatus r num.toNat (refIndex w) v.toNat < 16 then 0 else num.toNat) ∧ { t with host := s.host } = s)) ∧
    (r.tick = false → s.boundary = false → Completes (.paramWrite h num v) s fun t =>
      Waits s t h ∧ t.par.staged.length = s.par.staged.length + 1 ∧ (∀ y ∈ s.par.staged, y ∈ t.par.staged) ∧
      (∃ w ∈ t.par.staged, w.hdr = h ∧ w.number = num ∧ w.value = v) ∧ t.par.vals = s.par.vals ∧
      t.par.sets = s.par.sets ∧ { t with par := s.par, host := s.host } = s)) ∧
  (
  ∀ (s : State) (h : Hdr) (num : Word16) (b : Bool) (r : PRow), paramRow num.toNat = some r → r.classOk h.obj = true →
    (¬ (r.cls = clsAxis ∧ refClass h.obj = clsGroup) → refDevice h.obj = s.dev → (s.tick.selide = false ∨ s.tick.cutoff = true) →
      s.host.current = none →
      Completes (.paramRead h num b) s fun t =>
        AnsweredWith s t h stOk
          (if b then (s.stagedValue r num.toNat h.obj).getD (s.paramNow num.toNat (refClass h.obj) (refIndex h.obj))
           else s.paramNow num.toNat (refClass h.obj) (refIndex h.obj)) ∧
        { t with host := s.host } = s) ∧
    ((s.tick.selide = true ∧ s.tick.cutoff = false ∨ s.host.current.isSome = true) → Completes (.paramRead h num b) s fun t =>
      Waits s t h ∧ t.host.reads = s.host.reads ++ [(h, num, b)] ∧ { t with host := s.host } = s))

/-- R508, R31: DEVICE_RUN in READY, with the images loaded and the device armed, takes effect at the next planning boundary;
otherwise it answers why not and changes nothing.
R243, R245: SAFE_ARM and SAFE_ARM_GROUP with the CRC that the device computes begin arming; with another CRC they answer
ST_CRC_MISMATCH. R246: SAFE_DISARM disarms with every zone in STO, and answers ST_BUSY otherwise. -/
def Obligations.DeviceRunAndArming : Prop :=
  (
  ∀ (s : State) (h : Hdr),
    (s.power.phase = 3 → s.firstMissingImage = 0 → s.safety.armed = true → s.isLeader = false → s.isMember = false →
      Completes (.deviceRun h) s fun t => Waits s t h ∧ t.power.runPend = s.power.runPend ++ [h] ∧
        { t with power := { t.power with runPend := s.power.runPend }, host := s.host } = s) ∧
    ((s.power.phase = 4 ∨ s.power.phase ≠ 3 ∨ s.firstMissingImage ≠ 0 ∨ s.safety.armed = false) →
      Completes (.deviceRun h) s fun t =>
        AnsweredWith s t h
          (if s.power.phase = 4 then stNoEffect else if s.power.phase ≠ 3 then stNotReady
           else if s.firstMissingImage ≠ 0 then stIncomplete else stNotReady)
          (if s.power.phase = 3 ∧ s.firstMissingImage ≠ 0 then s.firstMissingImage else 0) ∧
        { t with host := s.host } = s)) ∧
  (
  ∀ (s : State) (h : Hdr) (crc : Word),
    (s.safety.img.loaded = true → s.sep.kin.loaded = true → s.safety.armed = false →
      (crc.toNat = s.configCrc → Completes (.safeArm h crc) s fun t => Waits s t h ∧
        t.safety.pendArms = s.safety.pendArms ++ [(h, crc)] ∧ t.safety.armed = false ∧
        { t with safety := { t.safety with pendArms := s.safety.pendArms }, host := s.host } = s) ∧
      (crc.toNat ≠ s.configCrc → Completes (.safeArm h crc) s fun t =>
        Answered s t h stCrcMismatch ∧ { t with host := s.host } = s)) ∧
    (s.safety.img.loaded = true → s.safety.armed = true → refIndex h.obj ∈ s.armList → (s.armSt (refIndex h.obj)).isNew = true →
      (crc.toNat = s.groupCrc (refIndex h.obj) → Completes (.safeArmGroup h crc) s fun t => Waits s t h ∧
        t.safety.pendGroups = s.safety.pendGroups ++ [(h, refIndex h.obj, crc)] ∧
        { t with safety := { t.safety with pendGroups := s.safety.pendGroups }, host := s.host } = s) ∧
      (crc.toNat ≠ s.groupCrc (refIndex h.obj) → Completes (.safeArmGroup h crc) s fun t =>
        Answered s t h stCrcMismatch ∧ { t with host := s.host } = s)) ∧
    (s.safety.armed = true → (∀ z ∈ s.zoneList, s.zoneSto z = true) → Completes (.safeDisarm h) s fun t =>
      Answered s t h stOk ∧ t.safety.armed = false ∧ Records s t evSafeDisarmed s.devRef [s.tick.cycle.toNat] ∧
      { t with
        safety := { t.safety with armed := true, armedCrc := s.safety.armedCrc, armedArms := s.safety.armedArms }
        host := s.host, recd := s.recd } = s) ∧
    (s.safety.armed = true → (∃ z ∈ s.zoneList, s.zoneSto z = false) → Completes (.safeDisarm h) s fun t =>
      Answered s t h stBusy ∧ { t with host := s.host } = s))

/-- R32 to R34, R442: an image that lies in the window and passes its header takes its place once the checks of its kind pass; a
CELL image discards every other image, but not the solver's selection. A header that fails answers its status and changes nothing.
R330: a module whose user stages have been suspended for its load becomes active at a planning boundary: entries and bindings hold,
no axis is disabled, the IMAGE_LOAD completes, KERNEL_ACTIVE is recorded. -/
def Obligations.ImagesAndKernelModules : Prop :=
  (
  ∀ (s : State) (h : Hdr) (off len : Word) (rs : List ImgRec),
    let img := s.winRead off.toNat len.toNat
    let gen := imageGen img
    s.winOk off.toNat len.toNat = true → imageRecs img = some rs →
    (imageHeaderError (if imageKind img = 1 then s.indexIn img else s.dev) img len.toNat ≠ 0 →
      Completes (.imageLoad h off len) s fun t =>
        Answered s t h (imageHeaderError (if imageKind img = 1 then s.indexIn img else s.dev) img len.toNat) ∧
        { t with host := s.host } = s) ∧
    (imageHeaderError (if imageKind img = 1 then s.indexIn img else s.dev) img len.toNat = 0 →
      (imageKind img = 1 → (s.checkCell gen rs).1 = 0 → Completes (.imageLoad h off len) s fun t =>
        Answered s t h stOk ∧ t.cell = (s.checkCell gen rs).2 ∧ t.selide.sched.loaded = false ∧ t.sep.kin.loaded = false ∧
        t.safety.img.loaded = false ∧ t.safety.armed = false ∧ t.solver.structs = [] ∧ t.lanes.kernel = none ∧
        t.par = { s.par with sets := [] } ∧ t.solver.selected = s.solver.selected ∧ t.solver.warmVec = s.solver.warmVec ∧ t.tick = s.tick ∧
        t.time = s.time ∧ t.can = s.can ∧ (s.safety.armed = false → t.queues = s.queues)) ∧
      (s.cell.loaded = true → imageKind img ≠ 1 →
        (imageKind img = 2 → scheduleForm rs = true → s.recObjects rs = true →
          (∀ r ∈ rs, (r.rtype = 0x0402 → refClass r.obj = clsNode ∨ refClass r.obj = clsDevice) ∧
            (r.rtype = 0x0401 → refClass r.obj = clsDevice)) →
          s.scheduleOk (scheduleOf gen rs) = true → s.personSlotsOk (scheduleOf gen rs) s.sep.kin = true →
          s.relayFits (scheduleOf gen rs) s.sep.kin = true →
          Completes (.imageLoad h off len) s fun t => Answered s t h stOk ∧ t.selide.sched = scheduleOf gen rs ∧
            { t with selide := { t.selide with sched := s.selide.sched }, host := s.host } = s) ∧
        (imageKind img = 4 → safetyForm rs = true → s.safetyObjects rs (safetyOf gen img rs) = true →
          s.safetyOk (safetyOf gen img rs) = true → s.safety.armed = false → s.strapsOk (safetyOf gen img rs) = true →
          Completes (.imageLoad h off len) s fun t => Answered s t h stOk ∧ t.safety.img = safetyOf gen img rs ∧
            t.safety.armed = false ∧ t.safety.tps = [] ∧
            (∀ r ∈ (safetyOf gen img rs).inputs, (t.input r.input).aQ = false ∧ (t.input r.input).bQ = false ∧
              (t.input r.input).qualA = s.now ∧ (t.input r.input).qualB = s.now) ∧
            { t with safety := s.safety, axes := s.axes, queues := s.queues, supply := s.supply, host := s.host, recd := s.recd } = s) ∧
        (imageKind img = 3 → kinForm rs = true → s.kinObjects rs = true → s.armsOk (kinOf gen img rs) = true →
          s.kinOk rs (kinOf gen img rs) = true → s.armsInZones (kinOf gen img rs) s.safety.img = true →
          s.personSlotsOk s.selide.sched (kinOf gen img rs) = true → (kinOf gen img rs).caps.length ≤ 1024 →
          (kinOf gen img rs).persons.length ≤ 32 → pairCount (kinOf gen img rs) ≤ 131072 →
          s.relayFits s.selide.sched (kinOf gen img rs) = true → s.safety.armed = false →
          Completes (.imageLoad h off len) s fun t => Answered s t h stOk ∧
            t.sep.kin = { kinOf gen img rs with pairs := pairsOf (kinOf gen img rs) } ∧
            t.solver = { s.solver with kinLoads := s.solver.kinLoads + 1 } ∧
            { t with sep := s.sep, solver := s.solver, host := s.host } = s) ∧
        (imageKind img = 6 → paramsetForm rs = true → s.recObjects rs = true → Completes (.imageLoad h off len) s fun t =>
          t.par.sets = s.par.sets ++ [{ hdr := h, generation := gen, records := pvaluesOf rs }] ∧ t.par.vals = s.par.vals ∧
          t.host.rings = s.host.rings ∧ { t with par := s.par, host := s.host } = s) ∧
        (imageKind img = 7 → s.kernelStatus rs = 0 → Completes (.imageLoad h off len) s fun t =>
          t.lanes.loads = s.lanes.loads ++ [{ hdr := h, image := kernelOf gen rs, accepted := s.tick.no }] ∧
          t.host.rings = s.host.rings ∧ { t with lanes := { t.lanes with loads := s.lanes.loads }, host := s.host } = s) ∧
        (imageKind img = 5 → Completes (.imageLoad h off len) s fun t => Answered s t h stArg ∧ { t with host := s.host } = s)))) ∧
  (
  ∀ (s : State),
    (s.lanes.loads = [] → Completes .kernelActive s fun t => t = s) ∧
    (∀ k r, s.lanes.loads = k :: r →
      ((k.suspended = false ∨ s.boundary = false ∨ s.kernelBoundaries k < 2) → Completes .kernelActive s fun t => t = s) ∧
      (k.suspended = true → s.boundary = true → 2 ≤ s.kernelBoundaries k → Completes .kernelActive s fun t =>
        t.lanes.loads = r.filter (fun y => y ≠ k) ∧ t.lanes.kernel = (if k.image.entries = [] then none else some k.image) ∧ t.lanes.disabled = [] ∧
        t.lanes.aborts = [] ∧ t.lanes.log = s.lanes.log ∧
        (∀ p, (t.pair p).state = (s.pair p).state ∧ (t.pair p).lane = (s.pair p).lane ∧
          (t.pair p).regs = { (s.pair p).regs with cache := (t.pair p).regs.cache }) ∧
        (∀ a, t.axis a = { s.axis a with userDisabled := (t.axis a).userDisabled }) ∧
        (∀ a ∈ s.axisList, (t.axis a).userDisabled = false) ∧ Answered s t k.hdr stOk ∧
        Records s t evKernelActive s.devRef [s.tick.cycle.toNat, k.image.entries.length, k.image.binds.length] ∧
        { t with host := s.host, axes := s.axes, lanes := s.lanes, recd := s.recd } = s)))

/-! ### Safety commands (R214, R224, R236, R243 to R246) and commands to nodes and time (R269, R276, R280, R281, R364) -/

/-- R224, R212: SAFE_STOP puts a zone of the configuration in STO at once, asks for SS1 of its axes, or withdraws the standing
request; a zone without a record answers ST_NO_EFFECT. The other zones keep their levels.
R224, R222: SAFE_SLS switches the host-only records of its group; R246, R236: SAFE_RESET releases a zone that may be released
and records SAFE_RESET_DONE. -/
def Obligations.SafetyCommandsActOnTheirZone : Prop :=
  (
  ∀ (s : State) (h : Hdr), s.safety.img.loaded = true →
    let z := refIndex h.obj % 16
    ((s.zoneRec z).isSome = true →
      (Completes (.safeStop h 2) s fun t => Answered s t h stOk ∧ t.zoneSto z = true ∧ (t.zone z).hostReq = Nat.max (s.zone z).hostReq 2 ∧
        (∀ y, y ≠ z → t.zone y = s.zone y) ∧
        { t with safety := s.safety, axes := s.axes, queues := s.queues, supply := s.supply, host := s.host, recd := s.recd } = s) ∧
      (s.zoneSto z = false → Completes (.safeStop h 1) s fun t => Answered s t h stOk ∧
        (∀ a ∈ s.zoneAxes z, s.inSto a = false → t.underSs1 a = true) ∧ (t.zone z).hostReq = Nat.max (s.zone z).hostReq 1 ∧
        (∀ y, (t.zone y).released = (s.zone y).released) ∧
        { t with safety := s.safety, axes := s.axes, queues := s.queues, supply := s.supply, host := s.host, recd := s.recd } = s) ∧
      ((s.zone z).hostReq ≠ 0 → Completes (.safeStop h 0) s fun t => Answered s t h stOk ∧ (t.zone z).hostReq = 0 ∧
        (t.zone z).released = (s.zone z).released ∧ (∀ y, y ≠ z → t.zone y = s.zone y) ∧
        { t with safety := { t.safety with zones := s.safety.zones }, host := s.host } = s)) ∧
    (s.zoneRec z = none → ∀ m : Word, m.toNat ≤ 2 → Completes (.safeStop h m) s fun t =>
      Answered s t h stNoEffect ∧ { t with host := s.host } = s)) ∧
  (
  ∀ (s : State) (h : Hdr), s.safety.img.loaded = true →
    (∀ on : Word, on.toNat ≤ 1 → (∃ p ∈ s.slsRecs, p.2.group = refIndex h.obj ∧ p.2.input = none) →
      Completes (.safeSls h on) s fun t => Answered s t h stOk ∧
        (∀ p ∈ s.slsRecs, p.2.group = refIndex h.obj → p.2.input = none → (t.slsSt p.1).hostOn = decide (on = 1)) ∧
        (∀ p ∈ s.slsRecs, p.2.group ≠ refIndex h.obj ∨ p.2.input ≠ none → (t.slsSt p.1).hostOn = (s.slsSt p.1).hostOn) ∧
        { t with safety := { t.safety with sls := s.safety.sls }, host := s.host } = s) ∧
    (∀ z, h.obj = mkRef clsZone z → z < 16 → s.zoneReleasable z = true →
      (∀ r ∈ s.safety.img.inputs, bitN r.stoMap z = true ∨ bitN r.ss1Map z = true → (s.input r.input).faulted = false) →
      Completes (.safeReset h) s fun t => Answered s t h stOk ∧ t.zoneSto z = false ∧
        (∀ y, y ≠ z → t.zone y = s.zone y) ∧ t.axes = s.axes ∧
        { t with safety := s.safety, host := s.host, recd := s.recd } = s))

/-- R276, R280, R281, R269, R364: the commands of ring 0 to 2 that start Selide, unmute, wake and put to sleep a node, send bytes
to it, and set the device time. -/
def Obligations.NodeAndTimeCommands : Prop :=
  ∀ (s : State) (h : Hdr),
    let n := refIndex h.obj % 64
    (s.cell.loaded = true → s.selide.sched.loaded = true → s.selide.started = false → s.tickRateStaged = false →
      Completes (.selideStart h) s fun t => Waits s t h ∧ t.selide.started = true ∧ t.selide.startPending = some h ∧
        t.selide.nodes = s.selide.nodes ∧ { t with selide := s.selide, host := s.host } = s) ∧
    (s.selide.sched.loaded = true → (s.node n).mute = true → Completes (.nodeUnmute h) s fun t =>
      Answered s t h stOk ∧ (t.node n).mute = false ∧ (∀ m, m ≠ n → t.node m = s.node m) ∧
      { t with selide := { t.selide with nodes := s.selide.nodes }, host := s.host } = s) ∧
    (s.selide.sched.loaded = true → (s.node n).wake = false → s.overBudget (s.wakeCost n) = false →
      Completes (.nodeWake h) s fun t =>
        (canPay s.supply.levels (s.supply.reqs.flatMap fun x => x.costs.map fun p => p.1) (s.wakeCost n) = true →
          (t.node n).wake = true ∧ t.supply.levels = payAll s.supply.levels (s.wakeCost n) ∧ t.supply.reqs = s.supply.reqs) ∧
        (canPay s.supply.levels (s.supply.reqs.flatMap fun x => x.costs.map fun p => p.1) (s.wakeCost n) = false →
          t.supply.reqs = s.supply.reqs ++ [{ kind := .wake h n, costs := s.wakeCost n, joined := s.tick.no }] ∧
          t.supply.levels = s.supply.levels ∧ t.selide = s.selide) ∧
        { t with selide := s.selide, supply := s.supply, host := s.host } = s) ∧
    (s.selide.sched.loaded = true → (s.node n).wake = true → (∀ a ∈ s.nodeAxes n, s.axisState a = stDisabled) →
      Completes (.nodeSleep h) s fun t => Answered s t h stOk ∧ (t.node n).wake = false ∧ (∀ m, m ≠ n → t.node m = s.node m) ∧
        { t with selide := { t.selide with nodes := s.selide.nodes }, host := s.host } = s) ∧
    ((s.node n).present = true → ∀ (off : Word) (len : Word16), Completes (.nodeSend h off len) s fun t => Waits s t h ∧
      (t.node n).service = (s.node n).service ++ s.winRead off.toNat len.toNat ∧
      (t.node n).sends = (s.node n).sends ++ [(h, len.toNat)] ∧ (∀ m, m ≠ n → t.node m = s.node m) ∧
      { t with selide := { t.selide with nodes := s.selide.nodes }, host := s.host } = s) ∧
    (∀ (sec : Word64) (ns : Word), sec.toNat < 2 ^ 48 → ns.toNat < 1000000000 → s.time.steppable = true →
      Completes (.timeSet h sec ns) s fun t => Answered s t h stOk ∧ t.time.sec = sec.toNat ∧ t.time.ns = ns.toNat ∧
        { t with time := { t.time with sec := s.time.sec, ns := s.time.ns }, host := s.host } = s)

/-! ### Motion commands (R20, R91 to R94, R99, R102, R141, R331, R443 to R445) -/

/-- R20: a command on several axes whose checks fail on one of them completes with the status of the first such axis, names it,
and acts on none. -/
def Obligations.OneRefusingAxisRefusesForAll : Prop :=
  ∀ (s : State) (h : Hdr) (a : Nat),
    (∀ c check, (c, check) ∈ [(Instr.home h, s.homeCheck), (.align h, s.alignCheck), (.axisDisable h, s.disableCheck),
        (.faultReset h, s.resetCheck)] →
      (s.localAxes h.obj).find? (fun a => check a ≠ stOk) = some a →
      Completes c s fun t => AnsweredFor s t h (check a) (mkRef clsAxis a) ∧ { t with host := s.host } = s) ∧
    (∀ x : SweepArgs, (s.localAxes h.obj).find? (fun a => s.sweepCheck x a ≠ stOk) = some a →
      Completes (.sweep h x) s fun t => AnsweredFor s t h (s.sweepCheck x a) (mkRef clsAxis a) ∧ { t with host := s.host } = s) ∧
    ∀ c ∈ [Instr.home h, .align h, .axisEnable h, .axisDisable h, .faultReset h], s.localAxes h.obj = [] →
      Completes c s fun t => Answered s t h stNoEffect ∧ { t with host := s.host } = s

/-- R91, R92, R93: a MOVE that passes its checks enters its queue as one segment for the axes of its object, and binds them; a
full queue answers ST_QUEUE_FULL, an impossible profile ST_PROFILE.
R99: HALT re-plans the active segment of every queue that drives an axis of its object and drops the waiting ones; where no
such queue holds a segment and nothing homes, it has no effect. -/
def Obligations.MoveAndHaltActOnTheirQueues : Prop :=
  (
  ∀ (s : State) (h : Hdr) (m : MoveArgs), moveFormOk m = true → (s.axesBelow h.obj).length = m.targets.length →
    (32 ≤ (s.queue h.obj).segs.length → Completes (.move h m) s fun t => Answered s t h stQueueFull ∧ { t with host := s.host } = s) ∧
    ((s.queue h.obj).segs.length < 32 → s.localAxes h.obj ≠ [] → (∀ a ∈ s.localAxes h.obj, s.moveCheck h.obj a = stOk) →
      (s.segValid (s.moveSeg h.obj m) (s.nextStarts h.obj (s.moveSeg h.obj m).axes) = false →
        Completes (.move h m) s fun t => Answered s t h stProfile ∧ { t with host := s.host } = s) ∧
      (s.segValid (s.moveSeg h.obj m) (s.nextStarts h.obj (s.moveSeg h.obj m).axes) = true →
        (Completes (.move h m) s fun t => Answered s t h stOk ∧
          { t with host := s.host, axes := s.axes, queues := s.queues, supply := s.supply, recd := s.recd } = s) ∧
        ((s.queue h.obj).segs ≠ [] → Completes (.move h m) s fun t =>
          (t.queue h.obj).segs = (s.queue h.obj).segs ++ [s.moveSeg h.obj m] ∧ (t.queue h.obj).plan = (s.queue h.obj).plan ∧
          (∀ a ∈ (s.moveSeg h.obj m).axes, (t.axis a).bound = some h.obj ∧ { t.axis a with bound := (s.axis a).bound } = s.axis a) ∧
          (∀ a, a ∉ (s.moveSeg h.obj m).axes → t.axis a = s.axis a) ∧
          (∀ q : Word, q ≠ h.obj → t.queue q = s.queue q) ∧ t.supply = s.supply ∧ t.recd = s.recd)))) ∧
  (
  ∀ (s : State) (h : Hdr), (∀ a ∈ s.localAxes h.obj, (s.axis a).home.run = none) →
    (s.queuesOf (s.localAxes h.obj) ≠ [] → Completes (.halt h) s fun t => Answered s t h stOk ∧
      (∀ q ∈ s.queuesOf (s.localAxes h.obj), ∀ g r,  (s.queue q).segs = g :: r →
        (∀ p, (s.queue q).plan = some p → (t.queue q).segs = [g] ∧ (t.queue q).halting = true ∧
          (t.queue q).plan = some (p.halt (s.queue q).tau)) ∧
        ((s.queue q).plan = none → (t.queue q).segs = [])) ∧
      (∀ q : Word, q ∉ s.queuesOf (s.localAxes h.obj) → t.queue q = s.queue q) ∧
      { t with host := s.host, axes := s.axes, queues := s.queues, supply := s.supply, recd := s.recd,
               lanes := { t.lanes with sweeps := s.lanes.sweeps } } = s) ∧
    (s.queuesOf (s.localAxes h.obj) = [] → Completes (.halt h) s fun t => Answered s t h stNoEffect ∧ t.queues = s.queues ∧
      t.axes = s.axes ∧ t.supply = s.supply ∧ t.recd = s.recd))

/-- R102, R83, R331: HOME puts every axis of its object into a homing run, unhomed; ALIGN enables the power stage and starts the
alignment; SWEEP starts an identification sweep on its axis and puts its lane into TEST.
R141, R331: CMP_LOAD replaces the compare's list by one strictly ordered in the direction of travel, and refuses another; a
sweep that has run its duration ends with ST_OK and SWEEP_END. -/
def Obligations.HomeAlignSweepAndCompare : Prop :=
  (
  ∀ (s : State) (h : Hdr), s.localAxes h.obj ≠ [] →
    ((∀ a ∈ s.localAxes h.obj, s.homeCheck a = stOk) → Completes (.home h) s fun t => Answered s t h stOk ∧
      (∀ a ∈ s.localAxes h.obj, (t.axis a).home.homed = false ∧
        (((t.axis a).home.run.map fun r => r.root) = some h.obj ∨ (t.axis a).home.failed = true)) ∧
      { t with host := s.host, axes := s.axes, queues := s.queues, supply := s.supply, recd := s.recd } = s) ∧
    ((∀ a ∈ s.localAxes h.obj, s.alignCheck a = stOk) → Completes (.align h) s fun t => Answered s t h stOk ∧
      (∀ a ∈ s.localAxes h.obj, (t.axis a).psEn = true ∧ (t.axis a).closed = false ∧ (t.axis a).brakeRel = false ∧
        (t.axis a).align = some { start := s.now } ∧ (t.axis a).home = (s.axis a).home ∧ (t.axis a).fb = (s.axis a).fb) ∧
      (∀ a, a ∉ s.localAxes h.obj → t.axis a = s.axis a) ∧ { t with host := s.host, axes := s.axes } = s) ∧
    (∀ x : SweepArgs, (∀ a ∈ s.localAxes h.obj, s.sweepCheck x a = stOk) → Completes (.sweep h x) s fun t =>
      t.host.rings = s.host.rings ∧
      t.lanes.sweeps = s.lanes.sweeps ++ (s.localAxes h.obj).map (fun a => { hdr := h, axis := a, args := x, startTick := s.tick.no }) ∧
      (∀ a ∈ s.localAxes h.obj, ∀ l k p, s.laneOf a = some (l, k) → s.pairOf l = some p → (t.pair p).state = lpTest) ∧
      t.lanes.log = s.lanes.log ∧ t.lanes.kernel = s.lanes.kernel ∧ { t with host := s.host, lanes := s.lanes } = s)) ∧
  (
  (∀ (s : State) (h : Hdr) (off : Word) (n : Word16),
    let k := refIndex h.obj % 16
    let l := (upTo n.toNat).map fun i => sfieldAt (s.winRead (off.toNat + 8 * i) 8) 0 8
    (strictlyOrdered (s.cmpNeg k) l = true → Completes (.cmpLoad h off n) s fun t => Answered s t h stOk ∧ (t.cmp k).list = l ∧
      ((t.cmp k).ptr, (t.cmp k).k) = loadPointer (s.cmpNeg k) (s.cmpPos k) (s.pI 0x4044 (s.cmpIx k)) (s.cmpMode k = 2) l ∧
      (t.cmp k).sched = [] ∧ (t.cmp k).armedFires = [] ∧ (∀ j, j ≠ k → t.cmp j = s.cmp j) ∧
      { t with host := s.host, cmps := s.cmps } = s) ∧
    (strictlyOrdered (s.cmpNeg k) l = false → Completes (.cmpLoad h off n) s fun t =>
      Answered s t h stArg ∧ { t with host := s.host } = s)) ∧
  (∀ (s : State) (a : Nat) (x : SweepSt) (b : Bool), s.lanes.sweeps.find? (fun x => x.axis = a) = some x → s.sweepOver x = some b →
    Completes (.sweepEnd a) s fun t => Answered s t x.hdr (if b then stOk else stAborted) ∧
      t.lanes.sweeps = s.lanes.sweeps.filter (fun w => w.axis ≠ x.axis ∨ w.hdr ≠ x.hdr) ∧
      Records s t evSweepEnd (mkRef clsAxis x.axis) [if b then stOk else stAborted, x.samples] ∧
      { t with host := s.host, recd := s.recd, lanes := { t.lanes with sweeps := s.lanes.sweeps } } = s))

/-- R443, R444, R445: AXIS_ENABLE takes effect when its supply domains pay for it; AXIS_DISABLE opens the loop, and an axis that
holds a load keeps its power stage for BRAKE_DELAY; FAULT_RESET clears the latched faults and sends CLR_FAULT in the next tick. -/
def Obligations.PowerStageCommands : Prop :=
  ∀ (s : State) (h : Hdr), s.localAxes h.obj ≠ [] →
    (let costs := s.enableCost ((s.localAxes h.obj).filter fun a => !(s.axis a).psEn)
     s.overBudget costs = false →
      (canPay s.supply.levels (s.supply.reqs.flatMap fun x => x.costs.map fun p => p.1) costs = true →
        (∀ a ∈ s.localAxes h.obj, s.enableCheck a = stOk) → (∃ a ∈ s.localAxes h.obj, (s.axis a).psEn = false) →
        Completes (.axisEnable h) s fun t => Answered s t h stOk ∧
          (∀ a ∈ s.localAxes h.obj, (t.axis a).psEn = true ∧ (t.axis a).psOff = none ∧
            { t.axis a with psEn := (s.axis a).psEn, psOff := (s.axis a).psOff } = s.axis a) ∧
          (∀ a, a ∉ s.localAxes h.obj → t.axis a = s.axis a) ∧ t.supply.levels = payAll s.supply.levels costs ∧
          { t with host := s.host, axes := s.axes, supply := { t.supply with levels := s.supply.levels } } = s) ∧
      (canPay s.supply.levels (s.supply.reqs.flatMap fun x => x.costs.map fun p => p.1) costs = false →
        Completes (.axisEnable h) s fun t => Waits s t h ∧
          t.supply.reqs = s.supply.reqs ++ [{ kind := .enable h (s.localAxes h.obj), costs := costs, joined := s.tick.no }] ∧
          { t with host := s.host, supply := { t.supply with reqs := s.supply.reqs } } = s)) ∧
    ((∀ a ∈ s.localAxes h.obj, s.disableCheck a = stOk) → Completes (.axisDisable h) s fun t => Answered s t h stOk ∧
      (∀ a ∈ s.localAxes h.obj, (t.axis a).brakeRel = false ∧ ((s.holding a && (s.axis a).psEn) = false → (t.axis a).psEn = false ∧
        (t.axis a).closed = false)) ∧
      (∀ a, a ∉ s.localAxes h.obj → t.axis a = s.axis a) ∧ { t with host := s.host, axes := s.axes } = s) ∧
    ((∀ a ∈ s.localAxes h.obj, s.resetCheck a = stOk) → (∃ a ∈ s.localAxes h.obj, (s.axis a).fault = true) →
      Completes (.faultReset h) s fun t => Answered s t h stOk ∧
        (∀ a ∈ s.localAxes h.obj, (t.axis a).fault = false ∧
          ((s.axis a).fault = true → (t.axis a).clrFault = some (s.tick.no + 1)) ∧ ((s.axis a).fault = false → t.axis a = s.axis a)) ∧
        (∀ a, a ∉ s.localAxes h.obj → t.axis a = s.axis a) ∧
        { t with host := s.host, axes := s.axes, ports := s.ports, sep := s.sep } = s)

/-! ### Capacity (R471 to R477), structures (R189 to R193), the recorder (R449, R457, R459) -/

/-- R471, R474, R475, R477: a capacity command waits for the next planning boundary, and acts in one.
R189 to R193: STRUCT_LOAD analyses an image that passes its checks in the background and then makes it resident, unless a load
that ended before it has made it stale; STRUCT_DROP frees a handle, which stays selected, SOLVER_SELECT selects a resident generation, SOLVER_UPDATE changes values of a resident structure and refuses a
list with one bad entry whole. -/
def Obligations.CapacityAndStructureCommands : Prop :=
  (
  ∀ (s : State) (h : Hdr),
    (s.boundary = false → ∀ (m : Byte) (on : Word), m.toNat ≤ 15 → on.toNat ≤ 1 →
      ∀ c k, (c, k) ∈ [(Instr.groupAdd h, CapChange.add h (refIndex h.obj)), (.groupRemove h, .remove h (refIndex h.obj)),
        (.axisMigrate h m, .migrate (some h) (refIndex h.obj) m.toNat), (.groupHalfRate h on, .half h (refIndex h.obj) (on = 1))] →
      Completes c s fun t => Waits s t h ∧ t.health.changes = s.health.changes ++ [k] ∧
        { t with host := s.host, health := { t.health with changes := s.health.changes } } = s) ∧
    (s.boundary = true →
      (∀ g, refIndex h.obj = g → g % 256 ≠ 0 → g / 256 = s.dev → (∃ a ∈ s.localAxes (mkRef clsGroup g), s.axisRemoved a = false) →
        (∀ a ∈ s.localAxes (mkRef clsGroup g), s.removable a = true) → Completes (.groupRemove h) s fun t =>
          Answered s t h stOk ∧ (∀ a ∈ s.localAxes (mkRef clsGroup g), t.axisRemoved a = true) ∧
          (∀ n ∈ s.nodesWithin (s.localAxes (mkRef clsGroup g)), (t.node n).mute = true ∧ (t.node n).released = true) ∧
          { t with host := s.host, health := s.health, lanes := s.lanes, supply := s.supply, selide := s.selide, recd := s.recd } = s) ∧
      ((∃ a ∈ s.localAxes (mkRef clsGroup (refIndex h.obj)), s.axisRemoved a = true) → Completes (.groupAdd h) s fun t =>
          Answered s t h stOk ∧ (∀ a ∈ s.localAxes (mkRef clsGroup (refIndex h.obj)), t.axisRemoved a = false) ∧
          { t with host := s.host, health := s.health, lanes := s.lanes, sep := s.sep, selide := s.selide, recd := s.recd
                   free := s.free } = s) ∧
      (s.localAxes (mkRef clsGroup (refIndex h.obj)) ≠ [] → Completes (.groupHalfRate h 1) s fun t => Answered s t h stOk ∧
          (∀ a ∈ s.localAxes (mkRef clsGroup (refIndex h.obj)), a ∈ t.health.halfAxes) ∧
          { t with host := s.host, health := { t.health with halfAxes := s.health.halfAxes, halfGroups := s.health.halfGroups } } = s) ∧
      (s.localAxes (mkRef clsGroup (refIndex h.obj)) ≠ [] → s.fullRateFits (s.localAxes (mkRef clsGroup (refIndex h.obj))) = true →
        Completes (.groupHalfRate h 0) s fun t => Answered s t h stOk ∧
          (∀ a ∈ s.localAxes (mkRef clsGroup (refIndex h.obj)), a ∉ t.health.halfAxes) ∧
          { t with host := s.host, health := { t.health with halfAxes := s.health.halfAxes, halfGroups := s.health.halfGroups } } = s) ∧
      (∀ (m : Byte) (l k : Nat) (g : List (Nat × Nat)), m.toNat ≤ 15 → s.laneOf (refIndex h.obj) = some (l, k) → l ≠ m.toNat →
        s.failedSince l = false → s.failedSince m.toNat = false → s.fit m.toNat [refIndex h.obj] = some g →
        s.laneBusy l = false → s.laneBusy m.toNat = false → Completes (.axisMigrate h m) s fun t =>
          t.host = s.host ∧ t.health.moving = s.health.moving ++
            [{ host := some h, axis := refIndex h.obj, fromLane := l, fromSlot := k, toLane := m.toNat,
               toSlot := (g.head?.map fun e => e.1).getD 0, why := 0 }] ∧
          tblGet none (t.logLane l).slots k = none ∧
          tblGet none (t.logLane m.toNat).slots ((g.head?.map fun e => e.1).getD 0) = some (refIndex h.obj) ∧
          { t with lanes := s.lanes, health := { t.health with moving := s.health.moving } } = s))) ∧
  (
  ∀ (s : State) (h : Hdr),
    let k := refIndex h.obj % 4
    (∀ (off len : Word) (rs : List ImgRec),
      let img := s.winRead off.toNat len.toNat
      let x := parseStruct (imageGen img) rs
      s.handleBusy k = false → s.winOk off.toNat len.toNat = true → imageHeaderError s.dev img len.toNat = 0 → imageKind img = 5 →
      s.cell.loaded = true → imageRecs img = some rs → structForm rs = true → (structObjects x).all s.objOk = true →
      s.structOk x = true → x.handle = h.obj → tblGet 0 s.solver.highGen k ≤ (imageGen img).toNat → s.structFits k x.st = true →
      Completes (.structLoad h off len) s fun t => Waits s t h ∧
        t.solver.loading = s.solver.loading ++ [{ hdr := h, handle := k, image := s.analysed x.st }] ∧
        t.solver.structs = s.solver.structs ∧ { t with solver := s.solver, host := s.host, free := s.free } = s) ∧
    (∀ l r, s.solver.loading = l :: r → l.image.generation.toNat < tblGet 0 s.solver.highGen l.handle →
      Completes .structLoaded s fun t => Answered s t l.hdr stStale ∧
        { t with solver := { t.solver with loading := s.solver.loading }, host := s.host } = s ∧ t.solver.loading = r) ∧
    (∀ l r, s.solver.loading = l :: r → tblGet 0 s.solver.highGen l.handle ≤ l.image.generation.toNat →
      Completes .structLoaded s fun t => Answered s t l.hdr stOk ∧
      t.struct? l.handle = some l.image ∧ (∀ j, j ≠ l.handle → t.struct? j = s.struct? j) ∧ t.solver.loading = r ∧
      { t with solver := { t.solver with loading := s.solver.loading, structs := s.solver.structs, highGen := s.solver.highGen }
               host := s.host, recd := s.recd } = s) ∧
    (s.handleBusy k = false → (s.struct? k).isSome = true → Completes (.structDrop h) s fun t => Answered s t h stOk ∧
      t.struct? k = none ∧ (∀ j, j ≠ k → t.struct? j = s.struct? j) ∧
      { t with solver := { t.solver with structs := s.solver.structs }, host := s.host } = s) ∧
    (∀ (g : Word) x, s.struct? k = some x →
      (x.generation = g → Completes (.solverSelect h g) s fun t => Answered s t h stOk ∧ t.solver.selected = some k ∧
        { t with solver := { t.solver with selected := s.solver.selected }, host := s.host } = s) ∧
      (x.generation ≠ g → Completes (.solverSelect h g) s fun t => Answered s t h stStale ∧ { t with host := s.host } = s) ∧
      (∀ (n off : Word),
        let es := updEntries (s.winRead off.toNat (16 * n.toNat)) n.toNat
        let bad := es.any fun e => e.res ≠ 0 || decide (updLimit x e.kind ≤ e.index)
        x.generation = g → s.winOk off.toNat (16 * n.toNat) = true →
        (bad = true → Completes (.solverUpdate h g n off) s fun t => Answered s t h stArg ∧ { t with host := s.host } = s) ∧
        (bad = false → es.any (fun e => f64IsNan e.value || (decide (e.kind ≤ 3) && !f64Finite e.value)) = false →
          boundsOk x.vars (es.foldl applyUpd x.vals) = true → Completes (.solverUpdate h g n off) s fun t =>
            Answered s t h stOk ∧ t.struct? k = some { x with vals := es.foldl applyUpd x.vals } ∧
            (∀ j, j ≠ k → t.struct? j = s.struct? j) ∧
            { t with solver := { t.solver with structs := s.solver.structs }, host := s.host } = s))))

/-- R449, R453, R457, R460: the recorder takes the first event that waits. While its code has a token, or no limit, it becomes
the record of the next sequence number, in the ring and in the mirror; otherwise it is counted and suppressed.
R459: REC_READ copies the records of its range that the ring holds to its place in the staging area, in ascending order, and
answers their number; a range with none has no effect. Copying begins in the tick of effect, at a free rate (log entry 153). -/
def Obligations.RecorderWritesAndReads : Prop :=
  (
  ∀ (s : State) (code : Nat) (obj cyc : Word) (args : List Word) (time : List Byte) (st : Bool) (rest : List QEv),
    cellsWf s.host.window = true → s.host.suspended = false → s.recd.queue = .ev code obj args cyc time st :: rest →
    (s.lim code).suppressing = false →
    (((s.lim code).burst = 0 ∨ token ≤ (s.lim code).level) → Completes .recWrite s fun t =>
      let n := s.recd.seq + 1
      let b := recordBytes n time code (severity code) args.length st obj cyc args
      t.recd.seq = n ∧ t.regRead 0x58 = n % 2 ^ 32 ∧ t.recd.queue = rest ∧ tblGet [] t.recd.records n = b ∧
      t.winRead (mirrorOff n) b.length = b ∧
      (∀ a, a < mirrorOff n ∨ mirrorOff n + b.length ≤ a → cellRead t.host.window a = cellRead s.host.window a) ∧
      { t with host := s.host, recd := s.recd } = s) ∧
    ((s.lim code).burst ≠ 0 → (s.lim code).level < token → Completes .recWrite s fun t =>
      t.recd.seq = s.recd.seq ∧ t.recd.records = s.recd.records ∧ t.recd.queue = rest ∧
      t.recd.suppressedTotal = incSat 64 s.recd.suppressedTotal ∧ { t with recd := s.recd } = s)) ∧
  (
  ∀ (s : State) (h : Hdr) (fromSeq : Word64) (off : Word) (n : Word16), recReadForm off.toNat n.toNat = true →
    let first := Nat.max fromSeq.toNat s.recOldest
    let last := Nat.min (fromSeq.toNat + n.toNat - 1) s.recd.seq
    let copied := fun (t : State) (at' : Nat) (b : List Byte) => t.winRead at' b.length = b ∧
      ∀ a, a < at' ∨ at' + b.length ≤ a → cellRead t.host.window a = cellRead s.host.window a
    cellsWf s.host.window = true →
    (first ≠ 0 → s.copyRange first last ≠ [] → Completes (.recRead h fromSeq off n) s fun t => Waits s t h ∧
      ∃ c : RecCopy, t.recd.copies = s.recd.copies ++ [c] ∧ c.hdr = h ∧ first < c.next ∧ c.next ≤ last + 1 ∧ c.last = last ∧
        c.off = off.toNat ∧ c.n = (s.copyRange first (c.next - 1)).length ∧
        copied t off.toNat ((s.copyRange first (c.next - 1)).flatMap id) ∧
        { t with host := s.host, free := s.free, recd := { t.recd with copies := s.recd.copies }
                 health := { t.health with poison := s.health.poison } } = s) ∧
    ((last < first ∨ s.copyRange first last = []) → Completes (.recRead h fromSeq off n) s fun t =>
      Answered s t h stNoEffect ∧ { t with host := s.host } = s) ∧
    (∀ c r, s.recd.copies = c :: r → Completes .recReadDone s fun t =>
      let l := s.copyRange c.next c.last
      AnsweredWith s t c.hdr (if c.n + l.length = 0 then stNoEffect else stOk) (c.n + l.length) ∧ t.recd.copies = r ∧
      copied t (c.off + 64 * c.n) (l.flatMap id) ∧ t.recd.records = s.recd.records ∧ t.recd.seq = s.recd.seq ∧
      { t with host := s.host, recd := { t.recd with copies := s.recd.copies }, health := { t.health with poison := s.health.poison } } = s))

/-! ### CAN controllers (R379 to R396) -/

/-- R379, R383, R386, R381, R394: what the commands on a controller do: a mode waits for the bus idle point and needs a recessive
strap, a message joins the queue in arrival order, a waiting message is taken out, detection begins, a bus-off controller
recovers.
R381, R382: detection ends with the candidate that has met the selection rule, whose words become the controller's timing;
without frames within the dwell it goes on with the next candidate, and at its time limit it fails. -/
def Obligations.CanCommandsAndBitRateDetection : Prop :=
  (
  ∀ (s : State) (h : Hdr),
    let k := canOf h
    (∀ m : Word, m.toNat ≤ 3 → (s.canSt k).mode ≠ m.toNat → (m.toNat = 0 ∨ s.canTxdOk k = true) →
      Completes (.canMode h m) s fun t => Answered s t h stOk ∧ (t.canSt k).pendMode = some m.toNat ∧
        (t.canSt k).mode = (s.canSt k).mode ∧ (∀ j, j ≠ k → t.canSt j = s.canSt j) ∧ { t with host := s.host, can := s.can } = s) ∧
    (∀ m : Word, m.toNat ≤ 3 → m.toNat ≠ 0 → (s.canSt k).mode ≠ m.toNat → s.canTxdOk k = false →
      Completes (.canMode h m) s fun t => Answered s t h stNotAllowed ∧ { t with host := s.host } = s) ∧
    (∀ m : CanMsg, (s.canSt k).mode ≠ 0 → (s.canSt k).mode ≠ 4 →
      ((s.canSt k).queue.length < 32 → canMsgOk m = true → (∀ q ∈ (s.canSt k).queue, q.msg.tag ≠ m.tag) →
        Completes (.canSend h m) s fun t => Answered s t h stOk ∧ (t.canSt k).queue = (s.canSt k).queue ++ [{ msg := m }] ∧
          (∀ j, j ≠ k → t.canSt j = s.canSt j) ∧ { t with host := s.host, can := s.can } = s) ∧
      (32 ≤ (s.canSt k).queue.length → Completes (.canSend h m) s fun t =>
        Answered s t h stQueueFull ∧ { t with host := s.host } = s)) ∧
    (∀ (tag : Word) (a b : List CanTx) m, (s.canSt k).queue = a ++ m :: b → m.msg.tag = tag → m.outcome = none →
      (∀ q ∈ a ++ b, q.msg.tag ≠ tag ∧ q.outcome = none) → a ≠ [] → s.evFull k = false → Completes (.canCancel h tag) s fun t =>
        (t.canSt k).queue = a ++ b ∧ (∀ j, j ≠ k → t.canSt j = s.canSt j) ∧ { t with host := s.host, can := s.can } = s) ∧
    (∀ m : Word, m.toNat = 1 ∨ m.toNat = 2 → (s.canSt k).mode = 0 ∨ (s.canSt k).mode = 2 → Completes (.canAbd h m) s fun t =>
      Waits s t h ∧ (t.canSt k).mode = 4 ∧
      (t.canSt k).abd = some { hdr := h, thenMode := m.toNat, startNs := s.now, dwellNs := s.now } ∧
      (∀ j, j ≠ k → t.canSt j = s.canSt j) ∧ { t with host := s.host, can := s.can } = s) ∧
    ((s.canSt k).busOff = true → Completes (.canRecover h) s fun t => Answered s t h stOk ∧ (t.canSt k).recovering = true ∧
      (t.canSt k).busOff = true ∧ (∀ j, j ≠ k → t.canSt j = s.canSt j) ∧ { t with host := s.host, can := s.can } = s)) ∧
  (
  ∀ (s : State) (k : Fin 4) (a : CanAbd), (s.canSt k).abd = some a →
    (s.abdMet k = true → a.thenMode ≠ 0 → Completes (.canAbdDone k) s fun t => Answered s t a.hdr stOk ∧
      (t.canSt k).mode = a.thenMode ∧ (t.canSt k).abd = none ∧ t.canP 0xA001 k = s.canP (0xA038 + a.cand) k ∧
      t.canP 0xA002 k = s.canP (0xA040 + a.cand) k ∧ Records s t evCanAbdDone (s.canRef k) [a.cand] ∧
      { t with host := s.host, par := s.par, can := s.can, recd := s.recd } = s) ∧
    (s.abdMet k = false → s.canP 0xA032 k * 1000000 ≤ s.now - a.dwellNs → Completes (.canAbdDwell k) s fun t =>
      (t.canSt k).abd = some { a with cand := (a.cand + 1) % s.canP 0xA030 k, frames := 0, dwellNs := s.now } ∧
      (t.canSt k).mode = (s.canSt k).mode ∧ { t with can := s.can } = s) ∧
    (s.abdMet k = false → s.abdTimedOut k a = true → Completes (.canAbdFail k) s fun t => Answered s t a.hdr stTimeout ∧
      (t.canSt k).mode = 0 ∧ (t.canSt k).abd = none ∧ Records s t evCanAbdFail (s.canRef k) [] ∧
      { t with host := s.host, can := s.can, recd := s.recd } = s))

/-- R379, R384, R387, R393, R394: at an idle point the mode changes or the head's attempt begins; a message that has been sent
leaves one event in the FIFO; an ACK error raises TEC by 8 unless an error-passive controller saw no dominant bit, and by 8 for each
error counted in its error flag; recovery clears the counters.
R389 to R393: a frame that passes the filters takes the next entry of the FIFO, or is counted as dropped from a full one;
receive errors count in REC, and a recessive res bit is a protocol exception where that is on (R374); a sleeping controller wakes into CAN_WAKE_TO; RX_RD advances to at most WR. -/
def Obligations.CanFramesAreSentAndReceived : Prop :=
  (
  ∀ (s : State) (k : Fin 4),
    (∀ m, (s.canSt k).attempt = false → (s.canSt k).pendMode = some m → m ≠ 0 → (s.canSt k).abd = none →
      Completes (.canModeApply k) s fun t => (t.canSt k).mode = m ∧ (t.canSt k).pendMode = none ∧
        (t.canSt k).queue = (s.canSt k).queue ∧ (∀ j, j ≠ k.val → t.canSt j = s.canSt j) ∧ { t with can := s.can } = s) ∧
    (∀ m r t0, s.canMayStart k = true → (s.canSt k).queue = m :: r → s.evFull k = false → Completes (.canTxAttempt k t0) s fun t =>
      (t.canSt k).attempt = true ∧
      (t.canSt k).queue = { m with attempts := incSat 8 m.attempts, cycle := s.tick.cycle, tOff := t0, sof := some (s.timeAt t0) } :: r ∧
      (∀ j, j ≠ k.val → t.canSt j = s.canSt j) ∧ { t with can := s.can } = s) ∧
    (∀ m fe, cellsWf s.host.window = true → (s.canSt k).attempt = true → (s.canSt k).queue = [m] → m.outcome = none →
      s.evFull k = false → (s.canSt k).tec ≤ 255 → Completes (.canTxOutcome k .sent ⟨none, fe⟩) s fun t =>
        (t.canSt k).attempt = false ∧ (t.canSt k).queue = [] ∧ (t.canSt k).tec = (s.canSt k).tec - 1 ∧
        (t.canSt k).noAck = false ∧ (t.canSt k).clash = false ∧
        t.canCount k 8 = (s.canCount k 8 + 1) % 2 ^ 32 ∧
        t.winRead (canArea k + 5184 + 16 * (s.canCount k 8 % 32)) 16 = m.event 1 ∧
        t.host.irqStatus.getLsbD (9 + k) = true ∧ { t with host := s.host, can := s.can, recd := s.recd } = s) ∧
    (∀ m r (dominant : Bool) fe, (s.canSt k).attempt = true → (s.canSt k).queue = m :: r → m.outcome = none →
      (s.canSt k).busOff = false → Completes (.canTxOutcome k (.ackError dominant) ⟨none, fe⟩) s fun t =>
        (t.canSt k).tec = (s.canSt k).tec + (if (s.canSt k).passive && !dominant then 0 else 8) + 8 * fe ∧
        ((t.canSt k).busOff = true ↔ 255 < (t.canSt k).tec) ∧ (t.canSt k).attempt = false ∧
        (∀ j, j ≠ k.val → t.canSt j = s.canSt j) ∧ { t with host := s.host, can := s.can, recd := s.recd } = s) ∧
    ((s.canSt k).busOff = true → (s.canSt k).recovering = true → Completes (.canBusOn k) s fun t =>
      (t.canSt k).busOff = false ∧ (t.canSt k).tec = 0 ∧ (t.canSt k).recCnt = 0 ∧ Records s t evCanBusOn (s.canRef k) [] ∧
      (∀ j, j ≠ k.val → t.canSt j = s.canSt j) ∧ { t with can := s.can, recd := s.recd } = s)) ∧
  (
  ∀ (s : State) (k : Fin 4), cellsWf s.host.window = true →
    (∀ f (t0 : Int), (s.canSt k).mode = 2 → (s.canFilter k f).1 = true →
      (s.rxFull k = false → Completes (.canRxFrame k f t0) s fun t =>
        t.canCount k 0 = (s.canCount k 0 + 1) % 2 ^ 32 ∧
        t.winRead (canArea k + 64 + 80 * (s.canCount k 0 % 64)) 80 = canRxEntry f (s.canFilter k f).2 (s.sofAt t0).1 (s.sofAt t0).2.1 ∧
        t.host.irqStatus.getLsbD (9 + k) = true ∧ t.canSt k = { s.canSt k with integrating := false } ∧
        (∀ j, j ≠ k.val → t.canSt j = s.canSt j) ∧ { t with host := s.host, can := s.can } = s) ∧
      (s.rxFull k = true → Completes (.canRxFrame k f t0) s fun t =>
        (t.canSt k).dropped = incSat 32 (s.canSt k).dropped ∧ (t.canSt k).rxOvf = true ∧ t.host = s.host ∧
        (∀ j, j ≠ k.val → t.canSt j = s.canSt j) ∧ { t with can := s.can, recd := s.recd } = s)) ∧
    (∀ f (t0 : Int), (s.canSt k).mode = 0 → Completes (.canRxFrame k f t0) s fun t => t = s) ∧
    (∀ n : Nat, s.sofAt n = (s.tick.cycle, n, s.timeAt n)) ∧
    (∀ e fe, (s.canSt k).mode = 1 → (s.canSt k).busOff = false → (s.canSt k).tec ≤ 255 → (e = .recessiveRes → s.canP 0xA004 k = 0) →
      Completes (.canRxError k ⟨e, fe⟩) s fun t =>
        (t.canSt k).recCnt = (s.canSt k).recCnt + (if e = .error true then 9 else 1) + 8 * fe ∧ (t.canSt k).tec = (s.canSt k).tec ∧
        (∀ j, j ≠ k.val → t.canSt j = s.canSt j) ∧ { t with can := s.can, recd := s.recd } = s) ∧
    (∀ fe, (s.canSt k).mode = 1 → s.canP 0xA004 k = 1 → Completes (.canRxError k ⟨.recessiveRes, fe⟩) s fun t =>
      t.canSt k = { s.canSt k with integrating := true } ∧ (∀ j, j ≠ k.val → t.canSt j = s.canSt j) ∧ { t with can := s.can } = s) ∧
    (∀ ns t0, (s.canSt k).mode = 3 → s.canP 0xA050 k = 1 → s.canP 0xA056 k ≤ ns → Completes (.canWake k (.edge ns) t0) s fun t =>
      (t.canSt k).mode = s.canP 0xA057 k + 1 ∧ t.host = s.host ∧ (∀ j, j ≠ k.val → t.canSt j = s.canSt j) ∧
      { t with can := s.can, recd := s.recd } = s) ∧
    (∀ v : Word, cntSub v.toNat (s.canCount k 4) ≤ cntSub (s.canCount k 0) (s.canCount k 4) → v.toNat ≠ s.canCount k 4 →
      Completes (.canRxRdWrite k v) s fun t => t.canCount k 4 = v.toNat ∧ (t.canSt k).rxOvf = false ∧
        (∀ a, a < canArea k + 4 ∨ canArea k + 8 ≤ a → cellRead t.host.window a = cellRead s.host.window a) ∧
        { t with host := { t.host with window := s.host.window }, can := s.can } = s))

/-! ### Lane code (R309 to R316, R339 to R350) -/

/-- R309, R312, R344, R346: the arithmetic of the ALU format writes the saturated or wrapped result and sets flag code A, with C
from carry or borrow for ADD and SUB; MPYR keeps the high word of the product.
R309, R340, R344, R350: the 64-bit forms act on pairs that an even register names, and are undefined on an odd one. -/
def Obligations.LaneArithmeticSaturatesOrWraps : Prop :=
  (
  ∀ (s : State) (p : Fin 17) (sb : Bool) (rd rs rt : Fin 16) (imm : LImm) (n : Word16),
    let x := s.pair p.val
    let r := x.regs
    let w := r.commitPend
    let sat := w.mode.getLsbD 0 || sb
    let a := r.dr rs.val
    let b := r.dr rt.val
    let i : Word := match imm with | .short v => v.signExtend 32 | .long v => v
    let size := match imm with | .short _ => 1 | .long _ => 2
    let put := fun (size : Nat) (v : Int) (c : Bool) =>
      { x with regs := behind { w with
                 d := cellWrite w.d rd.val (BitVec.ofInt 32 (stored sat 32 v)), flags := flagWord w (flagsA w sat 32 v c) } size 1 }
    let c := w.flags.getLsbD 3
    let shifted := fun (k : Int) => if 32 ≤ k then 0 else if 0 ≤ k then a.toInt * 2 ^ k.toNat else a.toInt / 2 ^ min k.natAbs 32
    let product := a.toInt * b.toInt
    (Fetches x 1 →
      Leaves s p (.add p sb rd rs rt) (put 1 (a.toInt + b.toInt) (decide (2 ^ 32 ≤ a.toNat + b.toNat))) ∧
      Leaves s p (.sub p sb rd rs rt) (put 1 (a.toInt - b.toInt) (decide (a.toNat < b.toNat))) ∧
      Leaves s p (.abs p sb rd rs) (put 1 a.toInt.natAbs c) ∧ Leaves s p (.neg p sb rd rs) (put 1 (-a.toInt) c) ∧
      Leaves s p (.ash p sb rd rs rt) (put 1 (shifted b.toInt) c) ∧ Leaves s p (.ashi p sb rd rs n) (put 1 (shifted n.toInt) c) ∧
      Leaves s p (.mpyr p sb rd rs rt)
        (put 1 (rounded (r.mode.getLsbD 1) (if r.mode.getLsbD 2 then 2 * product else product) 32) c)) ∧
    (Fetches x size →
      Leaves s p (.addi p sb rd rs imm) (put size (a.toInt + i.toInt) (decide (2 ^ 32 ≤ a.toNat + i.toNat))))) ∧
  (
  ∀ (s : State) (p : Fin 17) (sb : Bool) (rd rs rt : Fin 16),
    let x := s.pair p.val
    let r := x.regs
    let w := r.commitPend
    let sat := w.mode.getLsbD 0 || sb
    let even := rd.val % 2 = 0 ∧ rs.val % 2 = 0 ∧ rt.val % 2 = 0
    let wide := fun (k : Fin 16) => r.dr (k.val + 1) ++ r.dr k.val
    let a : BitVec 64 := wide rs
    let b : BitVec 64 := wide rt
    let put := fun (v : Int) (c : Bool) =>
      let y := BitVec.ofInt 64 (stored sat 64 v)
      { x with regs := behind { w with
                 d := cellWrite (cellWrite w.d rd.val (y.setWidth 32)) (rd.val + 1) ((y >>> 32).setWidth 32)
                 flags := flagWord w (flagsA w sat 64 v c) } 1 1 }
    Fetches x 1 →
    (even → Leaves s p (.add64 p sb rd rs rt) (put (a.toInt + b.toInt) (decide (2 ^ 64 ≤ a.toNat + b.toNat))) ∧
      Leaves s p (.sub64 p sb rd rs rt) (put (a.toInt - b.toInt) (decide (a.toNat < b.toNat)))) ∧
    (¬even → Faults s p (.add64 p sb rd rs rt) 2 ∧ Faults s p (.sub64 p sb rd rs rt) 2))

/-- R344, R346: the bitwise and selecting forms set flag code L and clear V and C, LDI no flag; the comparisons write no register;
CLIP sets V where it changes the value. Immediates are extended as R344 lays down. -/
def Obligations.LaneLogicAndComparisons : Prop :=
  ∀ (s : State) (p : Fin 17) (rd rs rt : Fin 16) (imm : LImm) (n : Word16),
    let x := s.pair p.val
    let r := x.regs
    let w := r.commitPend
    let a := r.dr rs.val
    let b := r.dr rt.val
    let size := match imm with | .short _ => 1 | .long _ => 2
    let iS : Word := match imm with | .short v => v.signExtend 32 | .long v => v
    let iZ : Word := match imm with | .short v => v.setWidth 32 | .long v => v
    let put := fun (size : Nat) (v : Word) =>
      { x with regs := behind { w with d := cellWrite w.d rd.val v, flags := flagWord w (flagsL w v) } size 1 }
    let only := fun (size : Nat) (l : List Bool) => { x with regs := behind { w with flags := flagWord w l } size 1 }
    let diff := fun (u v : Word) =>
      [decide (u = v), (u - v).msb, outside 32 (u.toInt - v.toInt), decide (u.toNat < v.toNat), w.flags.getLsbD 4,
       w.flags.getLsbD 5, w.flags.getLsbD 6, w.flags.getLsbD 7]
    let shifted := fun (k : Int) => if 32 ≤ k.natAbs then 0 else if 0 ≤ k then a <<< k.toNat else a >>> k.natAbs
    let m : Int := b.toInt.natAbs
    let clipped : Int := max (-m) (min m a.toInt)
    (Fetches x 1 →
      Leaves s p (.and p rd rs rt) (put 1 (a &&& b)) ∧ Leaves s p (.or p rd rs rt) (put 1 (a ||| b)) ∧
      Leaves s p (.xor p rd rs rt) (put 1 (a ^^^ b)) ∧ Leaves s p (.mov p rd rs) (put 1 a) ∧
      Leaves s p (.min p rd rs rt) (put 1 (if a.toInt ≤ b.toInt then a else b)) ∧
      Leaves s p (.max p rd rs rt) (put 1 (if a.toInt ≤ b.toInt then b else a)) ∧
      Leaves s p (.lsh p rd rs rt) (put 1 (shifted b.toInt)) ∧ Leaves s p (.lshi p rd rs n) (put 1 (shifted n.toInt)) ∧
      Leaves s p (.cmp p rs rt) (only 1 (diff a b)) ∧ Leaves s p (.tst p rs rt) (only 1 (flagsL w (a &&& b))) ∧
      Leaves s p (.clip p rd rs rt) { x with regs := behind { w with
        d := cellWrite w.d rd.val (BitVec.ofInt 32 clipped)
        flags := flagWord w [decide (clipped = 0), decide (clipped < 0), decide (clipped ≠ a.toInt), w.flags.getLsbD 3,
          w.flags.getLsbD 4, w.flags.getLsbD 5, w.flags.getLsbD 6, w.flags.getLsbD 7] } 1 1 }) ∧
    (Fetches x size →
      Leaves s p (.andi p rd rs imm) (put size (a &&& iZ)) ∧ Leaves s p (.ori p rd rs imm) (put size (a ||| iZ)) ∧
      Leaves s p (.xori p rd rs imm) (put size (a ^^^ iZ)) ∧ Leaves s p (.cmpi p rs imm) (only size (diff a iS)) ∧
      Leaves s p (.ldi p rd imm) { x with regs := behind { w with d := cellWrite w.d rd.val iS } size 1 })

/-- R310, R312, R343, R344: with operands that the registers or memory give, a single MAC writes one accumulator, a dual MAC two
distinct ones, and a complex form an accumulator pair from a0 or a2; products are exact and shifted left by 1 under FRAC.
R311, R312, R344, R346: the operations on accumulators. -/
def Obligations.LaneMultiplierAndAccumulators : Prop :=
  (
  ∀ (s : State) (p : Fin 17) (sb : Bool) (an am : Fin 4) (o1 o2 o3 o4 : MOperand),
    let x := s.pair p.val
    let r := x.regs
    let c : LCtx := { pair := p.val, rd := r, rep := false }
    let x0 : PairSt := { x with regs := r.commitPend }
    let prod := fun (v : Int) => if r.mode.getLsbD 2 then 2 * v else v
    let acc := fun (k : Nat) => (cellRead r.a k).toInt
    let sums := fun (k : Nat) (v : Int) => [(MacKind.mac, acc k + v), (.msu, acc k - v), (.mpy, v), (.mpyn, -v)]
    let put1 := fun (y : PairSt) (size cyc : Nat) (v : Int) =>
      let w := y.regs
      let sat := w.mode.getLsbD 0 || sb
      { y with regs := behind { w with
                 a := cellWrite w.a an.val (BitVec.ofInt 80 (stored sat 80 v)), flags := flagWord w (flagsM w sat v v) } size cyc }
    let put2 := fun (y : PairSt) (size cyc k : Nat) (v u : Int) =>
      let w := y.regs
      let sat := w.mode.getLsbD 0 || sb
      { y with regs := behind { w with
                 a := cellWrite (cellWrite w.a an.val (BitVec.ofInt 80 (stored sat 80 v))) k (BitVec.ofInt 80 (stored sat 80 u))
                 flags := flagWord w (flagsM w sat v u) } size cyc }
    (∀ v1 b1 y v2 b2 z, Fetches x 1 → operand32 c o1 x0 = .ok (v1, b1, y) → operand32 c o2 y = .ok (v2, b2, z) →
      busesOk [b1, b2] = true →
      ∀ i k v, (i, k) ∈ [(Instr.mac p sb an o1 o2, MacKind.mac), (.msu p sb an o1 o2, .msu), (.mpy p sb an o1 o2, .mpy),
        (.mpyn p sb an o1 o2, .mpyn)] → (k, v) ∈ sums an.val (prod (v1 * v2)) → Leaves s p i (put1 z 1 1 v)) ∧
    (∀ v1 b1 y1 v2 b2 y2 v3 b3 y3 v4 b4 y4, an ≠ am → Fetches x 2 → operand32 c o1 x0 = .ok (v1, b1, y1) →
      operand32 c o2 y1 = .ok (v2, b2, y2) → operand32 c o3 y2 = .ok (v3, b3, y3) → operand32 c o4 y3 = .ok (v4, b4, y4) →
      busesOk [b1, b2, b3, b4] = true →
      ∀ k1 k2 v u, (k1, v) ∈ sums an.val (prod (v1 * v2)) → (k2, u) ∈ sums am.val (prod (v3 * v4)) →
        Leaves s p (.dualMac p sb k1 an o1 o2 k2 am o3 o4) (put2 y4 2 1 am.val v u)) ∧
    (∀ xr xi b1 y yr yi b2 z, an.val % 2 = 0 → Fetches x 1 → operandC c o1 x0 = .ok (xr, xi, b1, y) →
      operandC c o2 y = .ok (yr, yi, b2, z) → busesOk [b1, b2] = true →
      let cyc := match o1, o2 with | .reg _, .reg _ => 1 | _, _ => 2
      ∀ k v u,
        ((k, v) ∈ sums an.val (prod (xr * yr - xi * yi)) → (k, u) ∈ sums (an.val + 1) (prod (xr * yi + xi * yr)) →
          ∀ i, (i, k) ∈ [(Instr.cmac p sb an o1 o2, MacKind.mac), (.cmsu p sb an o1 o2, .msu), (.cmpy p sb an o1 o2, .mpy),
            (.cmpyn p sb an o1 o2, .mpyn)] → Leaves s p i (put2 z 1 cyc (an.val + 1) v u)) ∧
        ((k, v) ∈ sums an.val (prod (xr * yr + xi * yi)) → (k, u) ∈ sums (an.val + 1) (prod (xi * yr - xr * yi)) →
          ∀ i, (i, k) ∈ [(Instr.cmacc p sb an o1 o2, MacKind.mac), (.cmsuc p sb an o1 o2, .msu), (.cmpyc p sb an o1 o2, .mpy),
            (.cmpync p sb an o1 o2, .mpyn)] → Leaves s p i (put2 z 1 cyc (an.val + 1) v u)))) ∧
  (
  ∀ (s : State) (p : Fin 17) (sb : Bool) (an am : Fin 4) (d : Fin 16) (n : BitVec 6),
    let x := s.pair p.val
    let r := x.regs
    let w := r.commitPend
    let sat := w.mode.getLsbD 0 || sb
    let trunc := r.mode.getLsbD 1
    let a := (cellRead r.a an.val).toInt
    let b := (cellRead r.a am.val).toInt
    let raw := fun (v : Int) => { w with a := cellWrite w.a an.val (BitVec.ofInt 80 v) }
    let put := fun (v : Int) =>
      { x with regs := behind { w with
                 a := cellWrite w.a an.val (BitVec.ofInt 80 (stored sat 80 v)), flags := flagWord w (flagsM w sat v v) } 1 1 }
    Fetches x 1 →
      Leaves s p (.adda p sb an am) (put (a + b)) ∧ Leaves s p (.suba p sb an am) (put (a - b)) ∧
      Leaves s p (.nega p sb an) (put (-a)) ∧ Leaves s p (.absa p sb an) (put a.natAbs) ∧
      Leaves s p (.sha p sb an n) (put (if 0 ≤ n.toInt then a * 2 ^ n.toInt.toNat else rounded trunc a n.toInt.natAbs)) ∧
      Leaves s p (.rnda p sb an) (put (rounded trunc a 32 * 2 ^ 32)) ∧
      Leaves s p (.clra p an) { x with regs := behind (raw 0) 1 1 } ∧
      Leaves s p (.mvaa p an am) { x with regs := behind (raw b) 1 1 } ∧
      Leaves s p (.mvda p an d) { x with regs := behind { raw ((r.dr d.val).toInt * 2 ^ 32) with
        flags := flagWord w (flagsL w (r.dr d.val)) } 1 1 })

/-- R311, R312, R313: a move of an accumulator rounds, and saturates or wraps; under MODE.ASC it shifts by the greater of EXP and
the least shift at which the value fits, stores that, and sets SC at once and EXP one instruction later (R316).
R309, R314, R316, R345: the control registers. A write reaches its register one instruction later, FLAGS at once with its
sticky bits cleared where a 1 is written; MVD reads; a post-modify with no access moves its pointer at once. -/
def Obligations.LaneMovesAndControlRegisters : Prop :=
  (
  ∀ (s : State) (p : Fin 17) (sb : Bool) (an : Fin 4) (d : Fin 16),
    let x := s.pair p.val
    let r := x.regs
    let w := r.commitPend
    let a := (cellRead r.a an.val).toInt
    let mv := fun (n sh : Nat) => rounded (r.mode.getLsbD 1) a (n + sh)
    let put := fun (bits : Nat) (v : Int) =>
      let y := BitVec.ofInt 64 v
      let lo := cellWrite w.d d.val (y.setWidth 32)
      if bits = 64 then cellWrite lo (d.val + 1) ((y >>> 32).setWidth 32) else lo
    Fetches x 1 → ∀ i n bits, (i, n, bits) ∈ [(Instr.mvad p sb d an, 32, 32), (.mvad64 p sb d an, 0, 64)] →
      (bits = 64 → d.val % 2 = 0) →
      (w.mode.getLsbD 0 = false → Leaves s p i { x with regs := behind { w with
        d := put bits (stored sb bits (mv n 0)), flags := flagWord w (flagsA w sb bits (mv n 0) (w.flags.getLsbD 3)) } 1 1 }) ∧
      (w.mode.getLsbD 0 = true → ∀ req sh, req ≤ 16 → (outside bits (mv n req) = false ∨ req = 16) →
        (∀ k, k < req → outside bits (mv n k) = true) → sh = max req (r.bexp.toNat % 32) →
        Leaves s p i { x with regs := behind { w with
          d := put bits (stored true bits (mv n sh)), pendC := [(.bexp, BitVec.ofNat 32 sh)]
          flags := if 0 < sh then w.flags ||| (0x80 : Word) else w.flags } 1 1 })) ∧
  (
  ∀ (s : State) (p : Fin 17) (cr : CtrlReg) (d : Fin 16) (imm : Word16) (i m : Fin 8),
    let x := s.pair p.val
    let r := x.regs
    let w := r.commitPend
    let late := fun (c : CtrlReg) (v : Word) => { x with regs := behind { w with pendC := w.pendC ++ [(c, v)] } 1 1 }
    let flags := fun (v : Word) =>
      { x with regs := behind { w with flags := (w.flags &&& ~~~(v &&& 0xF0) &&& 0x1F0) ||| (v &&& 0xF) } 1 1 }
    let write := fun (v : Word) => if cr = .flags then flags v else late cr v
    let v := match cr with | .m _ => imm.signExtend 32 | _ => imm.setWidth 32
    let value : Word := match cr with
      | .p k => cellRead r.p k.val
      | .m k => cellRead r.m k.val
      | .b k => (cellRead r.b k.val).setWidth 32
      | .l k => (cellRead r.l k.val).setWidth 32
      | .lc => r.lc.setWidth 32
      | .mode => r.mode
      | .flags => r.flags
      | .bexp => r.bexp
    Fetches x 1 →
      Leaves s p (.mvc p cr d) (write (r.dr d.val)) ∧ Leaves s p (.ldc p cr imm) (write v) ∧
      Leaves s p (.ldcy p i imm) (late (.p i) (imm.setWidth 32 ||| 0x10000)) ∧
      Leaves s p (.ldcp p i imm) (late (.p i) (imm.setWidth 32 ||| 0x20000)) ∧
      Leaves s p (.mvd p d cr) { x with regs := behind { w with d := cellWrite w.d d.val value } 1 1 } ∧
      (∀ k j, (k, j) ∈ [(Instr.modp p i m, (cellRead r.m m.val).toInt), (.modi p i imm, imm.toInt)] →
        (∀ q, r.reach i.val j = some q → Leaves s p k { x with regs := behind (w.setAddr i.val q (r.space i.val)) 1 1 }) ∧
        (r.reach i.val j = none → Faults s p k 1)))

/-- R316, R320, R341, R342, R348: what a memory operand addresses. The four modes give the address and move the pointer; a load
reads the word, or the one before the store of the preceding instruction, and reaches its register one instruction later; a
store writes exactly the words it names. A region that other blocks write reads as their last write left it (R301, R302). -/
def Obligations.LaneLoadsAndStores : Prop :=
  ∀ (s : State) (p : Fin 17) (d d2 : Fin 16) (e e2 : Desc),
    let x := s.pair p.val
    let r := x.regs
    let w := r.commitPend
    let move := fun (e : Desc) => match e.mode with
      | .plain => some (r.addr e.ptr.val, r.addr e.ptr.val)
      | .postMod k => (r.reach e.ptr.val (cellRead r.m k.val).toInt).map fun q => (r.addr e.ptr.val, q)
      | .postConst k => (r.reach e.ptr.val (if k.val < 4 then (k.val : Int) - 4 else k.val - 3)).map fun q => (r.addr e.ptr.val, q)
      | .offset k => (r.reach e.ptr.val k.val).map fun q => (q, r.addr e.ptr.val)
    let moved := fun (w : LaneRegs) (e : Desc) (q : Nat) => match e.mode with
      | .plain => w
      | .offset _ => w
      | _ => w.setAddr e.ptr.val q (r.space e.ptr.val)
    let word := fun (e : Desc) (a : Nat) => match r.shadow.find? fun h => h.1 = r.space e.ptr.val && h.2.1 = a with
      | some h => h.2.2
      | none => cellRead (x.mem (r.space e.ptr.val)) a
    let own := fun (e : Desc) (a : Nat) => region r.user false (r.space e.ptr.val) a = .own
    let late := fun (w : LaneRegs) (l : List (Nat × Word)) => { w with pendD := w.pendD ++ l }
    let stores := fun (y : PairSt) (a : Nat) (v : Word) =>
      let sp := r.space e.ptr.val
      let y := { y with regs := { y.regs with shadow := (sp, a, cellRead (y.mem sp) a) :: y.regs.shadow } }
      if sp = 0 then { y with xMem := cellWrite y.xMem a v } else { y with yMem := cellWrite y.yMem a v }
    Fetches x 1 →
    (move e = none → ∀ i ∈ [Instr.ld p d e, .st p d e], Faults s p i 1) ∧
    (∀ a q, move e = some (a, q) →
      (region r.user false (r.space e.ptr.val) a = .unmapped → ∀ i ∈ [Instr.ld p d e, .st p d e], Faults s p i 1) ∧
      (region r.user false (r.space e.ptr.val) a = .foreign → PairFails s p (.st p d e) ∧
        Leaves s p (.ld p d e) { x with
          regs := behind (late (moved w e q) [(d.val, x.extWord p.val (r.space e.ptr.val) a)]) 1 1 }) ∧
      (own e a → Leaves s p (.ld p d e) { x with regs := behind (late (moved w e q) [(d.val, word e a)]) 1 1 } ∧
        (let y := stores { x with regs := moved w e q } a (r.dr d.val)
         Leaves s p (.st p d e) { y with regs := behind y.regs 1 1 })) ∧
      (own e a → own e (a + 1) → a % 2 = 0 → d.val % 2 = 0 →
        Leaves s p (.ld64 p d e)
          { x with regs := behind (late (moved w e q) [(d.val, word e a), (d.val + 1, word e (a + 1))]) 1 2 } ∧
        (let y := stores (stores { x with regs := moved w e q } a (r.dr d.val)) (a + 1) (r.dr (d.val + 1))
         Leaves s p (.st64 p d e) { y with regs := behind y.regs 1 2 })) ∧
      (a % 2 = 1 ∧ d.val % 2 = 0 → Faults s p (.ld64 p d e) 1 ∧ Faults s p (.st64 p d e) 1) ∧
      (∀ a2 q2, move e2 = some (a2, q2) → own e a → own e2 a2 → d ≠ d2 →
        (r.space e.ptr.val ≠ r.space e2.ptr.val → Leaves s p (.pld p d e d2 e2)
          { x with regs := behind (late (moved (moved w e q) e2 q2) [(d.val, word e a), (d2.val, word e2 a2)]) 1 1 }) ∧
        (r.space e.ptr.val = r.space e2.ptr.val → Faults s p (.pld p d e d2 e2) 1)))

/-- R320: a post-modify adds the modifier to the pointer. In a linear pointer the sum wraps; in a circular one it is corrected
by one length of the buffer, and a sum that still lies outside the buffer is an address fault. -/
def Obligations.CircularAddressing : Prop :=
  ∀ (s : State) (p : Fin 17) (i : Fin 8) (imm : Word16),
    let x := s.pair p.val
    let r := x.regs
    let b : Int := (cellRead r.b i.val).toNat
    let l : Int := (cellRead r.l i.val).toNat
    let q : Int := r.addr i.val + imm.toInt
    let moves := fun (a : Int) => Leaves s p (.modi p i imm)
      { x with regs := behind (r.commitPend.setAddr i.val a.toNat (r.space i.val)) 1 1 }
    Fetches x 1 →
      (l = 0 → moves (q % 65536)) ∧
      (0 < l → b ≤ q → q < b + l → moves q) ∧
      (0 < l → b + l ≤ q → q < b + 2 * l → moves (q - l)) ∧
      (0 < l → b - l ≤ q → q < b → moves (q + l)) ∧
      (0 < l → (q < b - l ∨ b + 2 * l ≤ q) → Faults s p (.modi p i imm) 1)

/-- R315, R316, R317, R345, R349: after two delay slots a taken flow instruction continues at its target, and a taken call pushes
the instruction behind them; the values that wait for their registers reach them behind the next instruction; WAIT halts
issue; RPT repeats the instruction that follows it, which counts LC down. -/
def Obligations.LaneFlow : Prop :=
  ∀ (s : State) (p : Fin 17) (c : Cond) (t : Word16) (n : BitVec 11) (rd : Fin 16) (i : Word16),
    let x := s.pair p.val
    let r := x.regs
    let w := r.commitPend
    let z := r.flags.getLsbD 0
    let ng := r.flags.getLsbD 1
    let v := r.flags.getLsbD 2
    let cf := r.flags.getLsbD 3
    let taken := match c with
      | .always => true | .eq => z | .ne => !z | .lt => ng != v | .ge => ng == v | .gt => !z && ng == v | .le => z || ng != v
      | .mi => ng | .pl => !ng | .vs => v | .vc => !v | .cs => cf | .cc => !cf
    let slot := fun (w : LaneRegs) => { w with pc := w.pc + 1, cycles := w.cycles + 1, delay := 2, held := 3 }
    let flow := fun (to_ : Option Nat) (call ret : Bool) (st : List Nat) =>
      { x with regs := slot { w with target := to_, call := call, viaRet := ret, stack := st } }
    (Fetches x 1 →
      Leaves s p (.nop p) { x with regs := behind w 1 1 } ∧
      Leaves s p (.br p c t) (flow (if taken then some t.toNat else none) false false w.stack) ∧
      (taken = false → Leaves s p (.call p c t) (flow none false false w.stack) ∧ Leaves s p (.ret p c) (flow none false false w.stack)) ∧
      (taken = true → r.stack.length < 8 → Leaves s p (.call p c t) (flow (some t.toNat) true false w.stack)) ∧
      (taken = true → 8 ≤ r.stack.length → Faults s p (.call p c t) 2) ∧
      (taken = true → ∀ a st, r.stack = a :: st → Leaves s p (.ret p c) (flow (some a) false true st)) ∧
      (taken = true → r.stack = [] → Faults s p (.ret p c) 2) ∧
      (1 ≤ n.toNat → n.toNat ≤ 1024 → Leaves s p (.rpt p n) { x with regs := behind { w with rpt := some n.toNat } 1 1 }) ∧
      (n.toNat = 0 ∨ 1024 < n.toNat → Faults s p (.rpt p n) 2) ∧
      (r.user = false → Leaves s p (.wait p) { x with regs := behind { w with waiting := true } 1 1 }) ∧
      UserFaults s p (.wait p) 2 ∧
      Faults s p (.undefinedInstruction p) 2) ∧
    (∀ k, x.issues = true → x.events = [] → r.pc < 0x8000 → r.rpt = some k → 1 ≤ k → k ≤ 1024 → r.user = false → r.mode.getLsbD 0 = false → cellsWf r.d = true →
      r.pendC = [] → Completes (.addi p false rd rd (.short i)) s fun t =>
        (t.pair p.val).regs.dr rd.val = r.dr rd.val + BitVec.ofNat 32 k * i.signExtend 32 ∧
        (t.pair p.val).regs.lc = 0 ∧ (t.pair p.val).regs.rpt = none ∧ (t.pair p.val).regs.flags.getLsbD 8 = false ∧
        (t.pair p.val).regs.cycles = r.cycles + k + (if r.pc ∈ r.cache then 1 else 3) ∧
        r.pc ∈ (t.pair p.val).regs.cache ∧
        { t with lanes := { t.lanes with pairs := s.lanes.pairs } } = s)

/-! ### Local ports and position compare (R122 to R134, R142 to R144) -/

/-- R120, R122 to R128, R131, R132: the inputs of a local port. A level counts once its run of PORT_FILTER samples is complete, from
the sample that completes it. A single-line edge of a QUAD port counts by the quadrature sequence, a change of both lines in one
sample is inferred or illegal; a PULSE port counts its step edges by the level of B; the first
index event of a tick latches the count and its time; a serial word becomes the tick's sample or is recorded with its cause.
R142 to R144: a fire drives the pin for CMP_WIDTH, truncated to 5 ns, and is counted; one within a pulse restarts the width
and is merged. A port-sourced entry fires when the count reaches it, a captured fire at its time. -/
def Obligations.PortsAndComparesFollowTheirEdges : Prop :=
  (
  ∀ (s : State) (p : Fin 16) (a b : Bool) (run run2 n : Nat),
    let x := s.port p.val
    let only := fun (t : State) (y : Port) =>
      t.port p.val = y ∧ (∀ q, q ≠ p.val → t.port q = s.port q) ∧ { t with ports := s.ports } = s
    let obj := mkRef clsPort (s.portIx p.val)
    let faultless := s.pU 0x4007 (s.portIx p.val) = 0
    let filter := s.pU 0x4002 (s.portIx p.val)
    let off := n - (run - filter) * 5
    let at' := s.now + off
    let infers := s.pU 0x4003 (s.portIx p.val) = 1 ∧ x.dirKnown = true ∧ 0 < x.interval ∧ x.interval < max 80 (20 * (filter + 1))
    (s.portMode p.val = pmQuad →
      (a ≠ x.aF → b = x.bF → filter ≤ run → Completes (.quadEdge p a b ⟨run, run2, n⟩) s fun t =>
        let up : Bool := a != b
        only t { x with
          aF := a, aEdgeNs := at', count := wrapS 64 (x.count + if up then 1 else -1), lastNeg := !up
          lastSign := if up then 1 else -1, dirKnown := decide (x.lastSign = if up then 1 else -1)
          interval := at' - x.edgeNs, edgeNs := at' }) ∧
      (run < filter → run2 < filter → Completes (.quadEdge p a b ⟨run, run2, n⟩) s fun t => t = s) ∧
      (a = x.aF → b ≠ x.bF → filter ≤ run → Completes (.quadEdge p a b ⟨run2, run, n⟩) s fun t =>
        let up : Bool := a == b
        only t { x with
          bF := b, bEdgeNs := at', count := wrapS 64 (x.count + if up then 1 else -1), lastNeg := !up
          lastSign := if up then 1 else -1, dirKnown := decide (x.lastSign = if up then 1 else -1)
          interval := at' - x.edgeNs, edgeNs := at' }) ∧
      (a ≠ x.aF → b ≠ x.bF → filter ≤ run2 → run2 < run → (run - filter) * 5 ≤ n → Completes (.quadEdge p a b ⟨run, run2, n⟩) s fun t =>
        (t.port p.val).aF = a ∧ (t.port p.val).bF = b ∧ (t.port p.val).aEdgeNs = at' ∧ (t.port p.val).illegal = x.illegal ∧
        (t.port p.val).count = wrapS 64 (wrapS 64 (x.count + if a = x.bF then -1 else 1) + if a = b then 1 else -1) ∧
        (∀ q, q ≠ p.val → t.port q = s.port q) ∧ { t with ports := s.ports } = s) ∧
      (a ≠ x.aF → b ≠ x.bF → filter ≤ run → faultless → ¬infers → Completes (.quadEdge p a b ⟨run, run, n⟩) s fun t =>
        t.port p.val = { x with
          aF := a, bF := b, aEdgeNs := at', bEdgeNs := at', illegal := min (x.illegal + 1) (2 ^ 32 - 1), illegalTick := true } ∧
        Records s t evQuadIllegal obj [min (x.illegal + 1) (2 ^ 32 - 1)] ∧
        ((s.portAxes p.val).Nodup → ∀ i ∈ s.portAxes p.val, t.axis i = { s.axis i with fb := { (s.axis i).fb with
          illegal := min ((s.axis i).fb.illegal + 1) (2 ^ 32 - 1) } }) ∧
        (∀ i, i ∉ s.portAxes p.val → t.axis i = s.axis i) ∧
        { t with ports := s.ports, axes := s.axes, recd := s.recd } = s) ∧
      (a ≠ x.aF → b ≠ x.bF → filter ≤ run → infers → Completes (.quadEdge p a b ⟨run, run, n⟩) s fun t => only t { x with
          aF := a, bF := b, aEdgeNs := at', bEdgeNs := at', count := wrapS 64 (x.count + if x.lastNeg then -2 else 2)
          inferredTick := true, inferred := min (x.inferred + 1) (2 ^ 32 - 1) })) ∧
    (s.portMode p.val = pmPulse → a ≠ x.aF → b = x.bF → filter ≤ run →
      (x.bEdgeNs = 0 ∨ (filter + 1) * 5 ≤ at' - x.bEdgeNs) → Completes (.pulseStep p a b ⟨run, run2, n⟩) s fun t =>
        let step := a = true ↔ s.pU 0x4006 (s.portIx p.val) = 0
        only t { x with
          aF := a, aEdgeNs := at', count := if step then wrapS 64 (x.count + if b then 1 else -1) else x.count
          lastNeg := if step then !b else x.lastNeg }) ∧
    ((s.portMode p.val = pmQuad ∨ s.portMode p.val = pmPulse) → (s.pU 0x4004 (s.portIx p.val) = 1 → x.aF = true ∧ x.bF = true) →
      (filter ≤ run → x.zEdgeNs = 0 ∨ filter * 10 ≤ at' - x.zEdgeNs → Completes (.portIndexEvent p ⟨run, n⟩) s fun t => let y := t.port p.val
        (x.idxNew = false → y.latch = some (x.count, s.timeAt off) ∧ y.idxNew = true ∧ y.indexExtra = x.indexExtra) ∧
        (x.idxNew = true → y.latch = x.latch ∧ y.idxNew = true ∧ y.indexExtra = min (x.indexExtra + 1) (2 ^ 32 - 1)) ∧
        only t { x with latch := y.latch, idxNew := y.idxNew, indexExtra := y.indexExtra, zEdgeNs := at'
                        zF := decide (s.pU 0x4005 (s.portIx p.val) = 0) }) ∧
      (run < filter ∨ x.zEdgeNs ≠ 0 ∧ at' - x.zEdgeNs < filter * 10 → Completes (.portIndexEvent p ⟨run, n⟩) s fun t => t = s)) ∧
    (s.portMode p.val = pmSsi → ∀ w : SsiWord,
      let ix := s.portIx p.val
      let k := if s.pU 0x4014 ix = 0 then 0 else if s.pU 0x4014 ix = 3 then s.pU 0x4015 ix else 1
      let e := if s.pU 0x4013 ix = 0 then 0 else 1
      let word := w.bits.toNat % 2 ^ (s.pU 0x4011 ix + e + k)
      let value := word / 2 ^ (k + e)
      (w.idleHighAtT0 = false → Completes (.ssiTransfer p w) s fun t =>
        Records s t evSsiError obj [1] ∧ (t.port p.val).sample = none ∧ { t with ports := s.ports, recd := s.recd } = s) ∧
      (w.idleHighAtT0 = true → x.badNext = false → s.pU 0x4012 ix ≠ 0 →
        (s.pU 0x4013 ix ≠ 0 → (word / 2 ^ k % 2 = 1 ↔ s.pU 0x4013 ix ≠ 1)) → s.pU 0x4014 ix = 0 →
        (w.highAfterTimeout = true → Completes (.ssiTransfer p w) s fun t =>
          only t { x with begun := true, sample := some value, badNext := false }) ∧
        (w.highAfterTimeout = false → Completes (.ssiTransfer p w) s fun t =>
          t.port p.val = { x with begun := true, sample := some value, badNext := true, lastCause := 4 } ∧
          Records s t evSsiError obj [4] ∧
          { t with ports := s.ports, recd := s.recd } = s))) ∧
    (s.portMode p.val = pmOchre →
      (∀ (r : OchreResp) (w : BitVec 64), r.start ≤ 2000 → ochreRateOk r.bitPs = true → r.line.length * r.bitPs ≤ 12000000 →
        r.line = [false, false, false, true, true, true] ++
          ((upTo 64).flatMap fun k => [!w.getLsbD (63 - k), w.getLsbD (63 - k)]) ++ [true, true] →
        let field := w.toNat / 2 ^ 24
        let status := w.toNat / 2 ^ 16 % 256
        let good := crcNorm 16 0x1021 0xFFFF (ochreBytes w.toNat) = w.toNat % 2 ^ 16
        (good → w.getLsbD 23 = false → w.getLsbD 22 = false →
          (x.request ≠ 0x3C → Completes (.ochreResponse p r) s fun t =>
            only { t with free := s.free } { x with begun := true, sample := some field, warn := false }) ∧
          (x.request = 0x3C → Completes (.ochreResponse p r) s fun t =>
            only { t with free := s.free } { x with sample := none, warn := false, id := BitVec.ofNat 32 (field / 256) })) ∧
        (good → w.getLsbD 23 = true → w.getLsbD 22 = false → x.request ≠ 0x3C → Completes (.ochreResponse p r) s fun t =>
          t.port p.val = { x with begun := true, sample := none, warn := false, lastCause := 2 } ∧
          Records s t evOchreError obj [2, status] ∧ { t with ports := s.ports, recd := s.recd, free := s.free } = s) ∧
        (¬good → x.request ≠ 0x3C → Completes (.ochreResponse p r) s fun t =>
          t.port p.val = { x with begun := true, sample := none, lastCause := 3 } ∧
          Records s t evOchreError obj [3, status] ∧ { t with ports := s.ports, recd := s.recd, free := s.free } = s)) ∧
      (x.request ≠ 0x3C → Completes (.ochreNoResponse p) s fun t =>
        t.port p.val = { x with begun := true, sample := none, lastCause := 5 } ∧
        Records s t evOchreError obj [5, 0] ∧ { t with ports := s.ports, recd := s.recd } = s) ∧
      (Completes (.ochreRequest p) s fun t =>
        let byte := if 0 < x.identLeft then 0x3C else if x.clearPending then 0x2D else 0x1E
        only t { x with
          request := byte, driven := ochreFrame 8 byte.toNat, identLeft := x.identLeft - 1
          clearPending := decide (0 < x.identLeft) && x.clearPending })) ∧
    (s.portMode p.val = pmOff →
      (∀ c ∈ [Instr.ochreNoResponse p, .ochreRequest p], Completes c s fun t => t = s) ∧
      ∀ c ∈ [Instr.quadEdge p a b ⟨run, run2, n⟩, .pulseStep p a b ⟨run, run2, n⟩, .portIndexEvent p ⟨run, n⟩], Completes c s fun t =>
        (t.port p.val).count = x.count ∧ (t.port p.val).latch = x.latch ∧ (∀ q, q ≠ p.val → t.port q = s.port q) ∧
        { t with ports := s.ports } = s)) ∧
  (
  ∀ (s : State) (k : Fin 16) (n : Nat),
    let x := s.cmp k.val
    let obj := mkRef clsCmp (s.cmpIx k.val)
    let width := s.pU 0x4043 (s.cmpIx k.val) / 5 * 5
    let fires := fun (t : State) (e : Int) (y : CmpSt) =>
      (∀ j, j ≠ k.val → t.cmp j = s.cmp j) ∧ { t with cmps := s.cmps, recd := s.recd } = s ∧
      t.cmp k.val = { y with
        active := true, pulseEnd := s.now + n + width, fired := min (x.fired + 1) (2 ^ 32 - 1)
        sinceLoad := min (x.sinceLoad + 1) (2 ^ 32 - 1), lastCycle := s.tick.cycle, lastT := n
        merged := if x.active then min (x.merged + 1) (2 ^ 32 - 1) else x.merged } ∧
      (x.active = true → RecordsAt n s t evCmpMerged obj [uns 64 e % 2 ^ 32, uns 64 e / 2 ^ 32])
    s.cmpMode k.val ≠ 0 →
    (refClass (s.cmpSrc k.val) = clsPort → ∀ e, s.cmpEntry k.val x.ptr x.k = some e →
      let at_ := (s.port (refIndex (s.cmpSrc k.val) % 16)).count
      let hit := if s.pU 0x4042 (s.cmpIx k.val) = 1 then at_ ≤ e else e ≤ at_
      (¬hit → Completes (.cmpPortCrossing k n) s fun t => t = s) ∧
      (hit → (s.cmpMode k.val = 1 → x.list.getLast? ≠ some e) → Completes (.cmpPortCrossing k n) s fun t =>
        fires t e { x with ptr := (s.cmpAdvance k.val x.ptr x.k).1, k := (s.cmpAdvance k.val x.ptr x.k).2 }) ∧
      (hit → s.cmpMode k.val = 1 → x.list.getLast? = some e → x.active = false → Completes (.cmpPortCrossing k n) s fun t =>
        fires t e { x with
          ptr := (s.cmpAdvance k.val x.ptr x.k).1, k := (s.cmpAdvance k.val x.ptr x.k).2, ended := true } ∧
        RecordsAt n s t evCmpEnd obj [min (x.sinceLoad + 1) (2 ^ 32 - 1)])) ∧
    (∀ at_ e rest, x.armedFires = (at_, e) :: rest → (s.cmpMode k.val = 1 → x.list.getLast? ≠ some e) →
      (at_ ≤ s.now + n → Completes (.cmpFire k n) s fun t => fires t e { x with armedFires := rest }) ∧
      (s.now + n < at_ → Completes (.cmpFire k n) s fun t => t = s)) ∧
    (x.active = true → x.pulseEnd ≤ s.now + n → Completes (.cmpPulseEnd k n) s fun t =>
      t.cmp k.val = { x with active := false } ∧ (∀ j, j ≠ k.val → t.cmp j = s.cmp j) ∧ { t with cmps := s.cmps } = s) ∧
    (s.now + n < x.pulseEnd → Completes (.cmpPulseEnd k n) s fun t => t = s))

/-! ### The safety functions (R218 to R240, R249) -/

/-- R226 to R234: safety inputs and test pulses. A qualified level that demands, a discrepancy of T_disc and a failed test pulse
put every zone of the input's STO plane into STO; a level is qualified after a run of FILTER samples outside a masked window, which
holds the qualified level. -/
def Obligations.SafetyInputsAndTestPulses : Prop :=
  ∀ (s : State) (i : Fin 32) (c : Chan) (r : InputRec) (n : Nat) (tp : Fin 8), s.inputRec i.val = some r →
    let x := s.input i.val
    let old := match c with | .A => x.aQ | .B => x.bQ
    let held := match c with | .A => x.maskA | .B => x.maskB
    let since := match c with | .A => x.qualA | .B => x.qualB
    let opened := match c with | .A => x.openA | .B => x.openB
    let need := r.filter * 20
    let ran := held = false ∧ need ≤ s.now + n - since ∧ need ≤ s.now + n - opened
    let stopped := fun (t : State) => t.demandNow i.val = true ∧ ∀ z ∈ mapZones r.stoMap, t.zoneSto z = true
    let scope := fun (t : State) =>
      { t with safety := s.safety, axes := s.axes, queues := s.queues, supply := s.supply, host := s.host, recd := s.recd } = s
    (∀ level, (held = true ∨ level = old ∨ s.islandAlive (match c with | .A => .madder | .B => .woad) = false ∨ s.now + n - since + 20 + need / 10000 < need ∨
        s.now + n - opened + 20 + need / 10000 < need) → Completes (.siQualify i c level n) s fun t => t = s) ∧
    (∀ level, ran → level ≠ old → s.chanAlive c = true →
      (match c with | .A => level = false | .B => level = r.antival) → Completes (.siQualify i c level n) s fun t =>
        stopped t ∧ (match c with | .A => (t.input i.val).aQ | .B => (t.input i.val).bQ) = level ∧
        (∀ j, j ≠ i.val → t.input j = s.input j) ∧ scope t) ∧
    (∀ level, ran → level ≠ old → s.chanAlive .A = true → s.chanAlive .B = true → x.discFault = false →
      x.tpFault = false → (match c with | .A => level = true ∧ x.bDem r.antival = false | .B => level ≠ r.antival ∧ x.aDem = false) →
      s.now + n < x.runStart.getD (s.now + n) + discNs r → Completes (.siQualify i c level n) s fun t =>
        t.demandNow i.val = false ∧ (∀ z, t.zone z = s.zone z) ∧ (∀ j, j ≠ i.val → t.input j = s.input j) ∧ scope t) ∧
    (∀ start, x.runStart = some start → x.discFault = false → (s.indications i.val).1 ≠ (s.indications i.val).2 →
      start + discNs r ≤ s.now + n →
      Completes (.siDiscrepancy i n) s fun t => stopped t ∧ (t.input i.val).discFault = true ∧
        RecordsWithin 1 s t evSiDiscrepancy s.devRef [i.val, (s.now + n - start) / 1000, if x.aFirst then 1 else 2] ∧
        (∀ j, j ≠ i.val → t.input j = s.input j) ∧ scope t) ∧
    (∀ y, s.testRec tp.val = some y → s.islandAlive (tpIsland tp.val) = true → r ∈ s.safety.img.inputs →
      let due := ((s.timeAt n).sec * 1000000000 + (s.timeAt n).ns) % (y.period * 1000000) = y.tp * (y.period * 125000)
      let till := s.now + n + (y.width + y.tail) * 1000
      (due → Completes (.tpPulseStart tp n) s fun t => (t.tp tp.val).low = true ∧ (t.tp tp.val).startNs = s.now + n ∧
        (r.tpA = tp.val → (t.input r.input).maskA = true ∧ (t.input r.input).openA = till) ∧
        (r.tpB = tp.val → (t.input r.input).maskB = true ∧ (t.input r.input).openB = till) ∧
        (∀ k, k ≠ tp.val → t.tp k = s.tp k) ∧ t.safety.zones = s.safety.zones ∧ { t with safety := s.safety } = s) ∧
      (¬due → Completes (.tpPulseStart tp n) s fun t => t = s)) ∧
    (r ∈ s.safety.img.inputs → Completes (.tpOutFault tp) s fun t => (t.tp tp.val).outFault = true ∧
      Records s t evTpOutFault s.devRef [tp.val] ∧
      ((r.tpA = tp.val ∨ r.tpB = tp.val) → (t.input r.input).tpFault = true ∧ stopped t) ∧ scope t) ∧
    (∀ y, s.testRec tp.val = some y → (s.tp tp.val).low = true →
      s.now + n - (s.tp tp.val).startNs + 20 + (y.width + y.tail) * 1000 / 10000 < (y.width + y.tail) * 1000 →
      ∀ l, Completes (.tpPulseEnd tp n l) s fun t => t = s) ∧
    ((s.tp tp.val).low = true → (∀ y, s.testRec tp.val = some y → (y.width + y.tail) * 1000 ≤ s.now + n - (s.tp tp.val).startNs) →
      r ∈ s.safety.img.inputs →
      (Completes (.tpPulseEnd tp n []) s fun t => (t.tp tp.val).low = false ∧
        (r.tpA = tp.val → (t.input r.input).maskA = false) ∧ (r.tpB = tp.val → (t.input r.input).maskB = false) ∧
        t.safety.zones = s.safety.zones ∧ { t with safety := s.safety } = s) ∧
      (∀ o : PulseObs, o.input = i → s.chanAlive o.chan = true →
        (match o.chan with | .A => (s.tp tp.val).beforeA | .B => (s.tp tp.val).beforeB).contains i.val = true →
        ∀ k, ((k = 1 ∧ (match o.chan with | .A => r.tpA = tp.val | .B => r.tpB = tp.val) ∧ o.anyHigh = true) ∨
          (k = 2 ∧ (match o.chan with | .A => r.tpA ≠ tp.val ∧ x.aQ = true | .B => r.tpB ≠ tp.val ∧ x.bQ = true) ∧
            o.allLow = true)) →
        Completes (.tpPulseEnd tp n [o]) s fun t => (t.input i.val).tpFault = true ∧ stopped t ∧
          Records s t evTpFault s.devRef [i.val, chanCode o.chan, k] ∧ (t.tp tp.val).low = false ∧ scope t))

/-- R212, R237 to R240, R493: cross-comparison and channel faults. An item counts while it disagrees; its third tick in a row is a
channel fault and begins degraded mode at the next tick; a second fault, and the loss of an island, put every zone into STO. -/
def Obligations.ChannelFaultsAndLostIslands : Prop :=
  ∀ (s : State) (item : CcItem) (e : Island) (z : Fin 16) (l : List CcItem),
    let scope := fun (t : State) =>
      { t with safety := s.safety, axes := s.axes, queues := s.queues, supply := s.supply, host := s.host, recd := s.recd
               health := s.health } = s
    let alive := match e with | .madder => s.safety.madderAlive | .woad => s.safety.woadAlive
    let alone := fun (t : State) => (∀ y ∈ s.zoneList, t.zoneSto y = true) ∧ scope t
    (let differs := fun (i : CcItem) => l.contains i = true ∨
       (i = .lambda ∧ ∃ g ∈ s.armList, 1311 ≤ (((s.sep.m.arm g).lambda : Int) - (s.sep.w.arm g).lambda).natAbs) ∨
       (i = .crc ∧ s.safety.armed = true ∧ s.configCrc ≠ s.safety.armedCrc.toNat)
     Completes (.safetyCrossCompare l) s fun t =>
      (∀ i, i ≠ CcItem.pin → (differs i → t.ccCount (ccCode i) = s.ccCount (ccCode i) + 1) ∧
        (¬differs i → t.ccCount (ccCode i) = 0)) ∧
      { t with safety := { t.safety with ccCounts := s.safety.ccCounts } } = s) ∧
    (item ≠ .pin → s.ccCount (ccCode item) = 3 →
      let named := if item = .crc ∨ item = .crystal then some e else none
      (s.safety.degraded = none → s.safety.degPending = none → Completes (.safeChannelFault item (some e)) s fun t =>
        t.safety.degPending = some named ∧ t.safety.degraded = none ∧
        Records s t evSafeChannelFault s.devRef [named.elim 3 islandCode, ccCode item] ∧
        { t with recd := s.recd, safety := { t.safety with
          degPending := none, ccCounts := s.safety.ccCounts, directed := s.safety.directed
          directedItem := s.safety.directedItem } } = s) ∧
      (s.safety.degraded ≠ none → Completes (.safeChannelFault item (some e)) s fun t => t.safety.secondFault = true ∧
        Records s t evSafeChannelFault s.devRef [named.elim 3 islandCode, ccCode item] ∧ alone t)) ∧
    (item ≠ .pin → s.ccCount (ccCode item) < 3 → Completes (.safeChannelFault item (some e)) s fun t => t = s) ∧
    ((match e with | .madder => (s.zone z.val).stuckA | .woad => (s.zone z.val).stuckB) = none → s.islandAlive e = true →
      s.safety.degraded = none → s.safety.degPending = none → Completes (.pinReadbackFault e z) s fun t =>
        t.safety.degPending = some (some e) ∧ (∀ y, (t.zone y).released = (s.zone y).released) ∧
        (match e with | .madder => (t.zone z.val).stuckA | .woad => (t.zone z.val).stuckB) =
          some ((match e with | .madder => (s.zone z.val).runM | .woad => (s.zone z.val).runW) && (s.zoneRec z.val).isSome) ∧ t.zoneSto z.val = true ∧ scope t ∧
        (s.zoneSto z.val = true → Records s t evSafeChannelFault s.devRef [islandCode e, 7] ∧
          { t with recd := s.recd, safety := { t.safety with degPending := none, zones := s.safety.zones } } = s)) ∧
    (alive = true →
      (∀ clock, Completes (.islandLost e clock) s fun t => alone t ∧
        (match e with | .madder => t.safety.madderAlive | .woad => t.safety.woadAlive) = false ∧
        Records s t evIslandLost s.devRef [islandCode e, if clock then 2 else 1]) ∧
      (∀ ns, 1000 < ns → s.power.reset = false → Completes (.railInvalid (match e with | .madder => .safeM | .woad => .safeW) ns) s
        fun t => (∀ y ∈ s.zoneList, t.zoneSto y = true) ∧ Records s t evIslandLost s.devRef [islandCode e, 1] ∧
          t.railOk (railNo (match e with | .madder => Rail.safeM | .woad => .safeW)) = false ∧
          scope { t with power := s.power })) ∧
    (∀ d, s.safety.degraded = some d → d.expired = false → s.pU 0x7013 s.dev * 1000000 ≤ (s.tick.no - d.entry) * s.P →
      Completes .safeDegExpired s fun t => t.safety.degraded = some { d with expired := true } ∧
        Records s t evSafeDegExpired s.devRef [s.tick.cycle.toNat] ∧
        (∃ q, t.safety.reqs = s.safety.reqs ++ [q] ∧ q.scope = .zones s.zoneList ∧ q.t0 = s.tick.no + 1 ∧ q.begun = false) ∧
        { t with recd := s.recd, health := s.health, safety := { t.safety with
          degraded := s.safety.degraded, reqs := s.safety.reqs, nextReq := s.safety.nextReq } } = s) ∧
    (∀ temp, 1200 ≤ temp → (match e with | .madder => s.health.tripM | .woad => s.health.tripW) = false →
      Completes (.thermalTrip e temp) s fun t => Records s t evThermalTrip s.devRef [islandCode e, argI temp] ∧
        (∃ q, t.safety.reqs = s.safety.reqs ++ [q] ∧ q.scope = .zones s.zoneList ∧ q.t0 = s.tick.no + 1 ∧ q.begun = false) ∧
        { t with recd := s.recd, health := s.health, safety := { t.safety with
          reqs := s.safety.reqs, nextReq := s.safety.nextReq } } = s)

/-- R218, R220 to R223, R236, R249: SS1 monitoring ends in STO of the request's scope, on a breach, at standstill and at
SS1_TMAX; safely limited speed is monitored from SLS_REACH_T and a breach asks for SS1; zones and axes are released
when their conditions hold. -/
def Obligations.MonitoringEndsInSto : Prop :=
  ∀ (s : State) (e : Island) (id g a : Nat) (z : Fin 16),
    let scope := fun (t : State) =>
      { t with safety := s.safety, axes := s.axes, queues := s.queues, supply := s.supply, host := s.host, recd := s.recd } = s
    let ended := fun (t : State) (r : Ss1Req) => scope t ∧ (∀ q ∈ t.safety.reqs, q.id ≠ r.id) ∧
      (match r.scope with
       | .zones zs => ∀ y ∈ zs, t.zoneSto y = true
       | .axis => ∀ b ∈ s.coveredAxes r, (t.axisSto b).on = true)
    let what := fun (r : Ss1Req) => match r.scope with
      | .zones zs => [1, zs.foldl (fun n z => n ||| 2 ^ z) 0]
      | .axis => [2, (s.coveredAxes r).length]
    (∀ r, s.ss1Req id = some r → r.id = id →
      (∀ b v env, s.ss1Above e r = some (b, v, env) → s.islandDecides e = true → Completes (.ss1Breach id e) s fun t =>
        ended t r ∧ Records s t evSs1Breach (mkRef clsAxis b) [v, env, islandCode e]) ∧
      (r.t0 < s.tick.no → s.islandDecides e = true → (∀ b ∈ s.coveredAxes r, s.islandSpeed e b ≤ s.pU 0x7005 b) →
        Completes (.ss1End id) s fun t => ended t r ∧ Records s t evSs1End r.obj (what r ++ [1])) ∧
      (r.t0 < s.tick.no → (∀ b ∈ s.coveredAxes r, ∀ m, tblGet none s.safety.mon b = some m →
          s.pU 0x7004 b * 1000000 ≤ (s.tick.no - m.t0) * s.P) →
        Completes (.ss1Tmax id) s fun t => ended t r ∧ Records s t evSs1End r.obj (what r ++ [2])) ∧
      (s.tick.no ≤ r.t0 → Completes (.ss1End id) s fun t => t = s) ∧ (s.tick.no ≤ r.t0 → Completes (.ss1Tmax id) s fun t => t = s)) ∧
    (Completes (.slsMonitorStart g) s fun t =>
      (∀ p ∈ s.slsRecs, (t.slsSt p.1).monitoring = ((s.slsSt p.1).monitoring || (decide (p.2.group = g) && (s.slsSt p.1).active &&
        decide ((s.slsSt p.1).since + s.pU 0x7011 s.dev * 1000000 ≤ s.now + 19000)))) ∧
      { t with safety := { t.safety with sls := s.safety.sls } } = s) ∧
    ((∀ b, s.slsMonitored (mkRef clsGroup b) = []) → (∀ b, s.slsMonitored (mkRef clsAxis b) = []) →
      Completes (.slsBreach g) s fun t => t = s) ∧
    (∀ b v x, (∀ arm ∈ s.armList, arm ∈ s.groupsBelow (mkRef clsGroup g) → s.armSlsBreach arm = none) →
      s.localAxes (mkRef clsGroup g) = [b] → s.axisSlsBreach b = some v → s.slsWorst (mkRef clsAxis b) = some x →
      (s.localAxes (mkRef clsGroup x.group)).all s.stopStands = false → Completes (.slsBreach g) s fun t =>
        ∃ q, t.safety.reqs = s.safety.reqs ++ [q] ∧ q.scope = .axis ∧ q.t0 = s.tick.no + 1 ∧ q.fromDemand = false ∧
          q.obj = mkRef clsGroup x.group ∧ Records s t evSlsBreach q.obj [(mkRef clsAxis b).toNat, v] ∧
          { t with recd := s.recd, safety := { t.safety with reqs := s.safety.reqs, nextReq := s.safety.nextReq } } = s) ∧
    (∀ arm c v, arm < 65536 → (∀ b ∈ s.localAxes (mkRef clsGroup g), s.axisSlsBreach b = none) → s.armList = [arm] → arm ∈ s.groupsBelow (mkRef clsGroup g) → s.armSlsBreach arm = some (c, v) →
      (match s.slsWorst (mkRef clsGroup arm) with
       | some x => s.localAxes (mkRef clsGroup x.group)
       | none => s.localAxes (mkRef clsGroup arm)).all s.stopStands = false →
      Completes (.slsBreach g) s fun t => ∃ q, t.safety.reqs = s.safety.reqs ++ [q] ∧ q.scope = .axis ∧ q.t0 = s.tick.no + 1 ∧
        q.fromDemand = false ∧ Records s t evSlsBreach q.obj [(mkRef clsCapsule c).toNat, v] ∧
        { t with recd := s.recd, safety := { t.safety with reqs := s.safety.reqs, nextReq := s.safety.nextReq } } = s) ∧
    (s.axisReleasable a = true → (s.axisSto a).needReset = false → s.pU 0x7014 s.dev = 1 → Completes (.axisStoRelease a) s fun t =>
      (t.axisSto a).on = false ∧ (∀ b, b ≠ a → t.axisSto b = s.axisSto b) ∧
      { t with safety := { t.safety with axisSto := s.safety.axisSto } } = s) ∧
    ((s.axisReleasable a = false ∨ (s.axisSto a).needReset = true) → Completes (.axisStoRelease a) s fun t => t = s) ∧
    (∀ r, s.zoneRec z.val = some r →
      (r.auto = true → s.zoneReleasable z.val = true → Completes (.zoneRelease z) s fun t => t.zoneSto z.val = false ∧
        Records s t evZoneRelease (mkRef clsZone (s.dev * 16 + z.val)) [] ∧ (∀ y, y ≠ z.val → t.zone y = s.zone y) ∧
        { t with host := s.host, recd := s.recd, safety := { t.safety with zones := s.safety.zones } } = s) ∧
      ((r.auto = false ∨ s.zoneReleasable z.val = false) → Completes (.zoneRelease z) s fun t => t = s) ∧
      (s.zoneSto z.val = false → (s.zone z.val).testDue = false →
        s.pU 0x7016 s.dev ≤ (s.now - (s.zone z.val).lastSto) / 3600000000000 → Completes (.zoneTestDue z) s fun t =>
          (t.zone z.val).testDue = true ∧ t.zoneSto z.val = false ∧
          Records s t evZoneTestDue (mkRef clsZone (s.dev * 16 + z.val)) [(s.now - (s.zone z.val).lastSto) / 3600000000000] ∧
          (∀ y, y ≠ z.val → t.zone y = s.zone y) ∧
          { t with recd := s.recd, safety := { t.safety with zones := s.safety.zones } } = s))

/-! ### Selide (R259 to R288) -/

/-- R272, R278 to R284: nodes join, leave and fall silent. A JOIN that passes is granted its slots from the next tick, another is
refused by its reason; the first valid DATA frame completes it; LEAVE and 64 silent ticks end it; three slot violations
mute it; a stale node and an island without sub-frames act on its axes. -/
def Obligations.NodesJoinAndLeave : Prop :=
  ∀ (s : State) (n : Fin 64) (k : Fin 4) (e : Island) (ch : Fin 16),
    let x := s.node n.val
    let obj := s.nodeRef n.val
    let others := fun (t : State) => ∀ m, m ≠ n.val → t.node m = s.node m
    let nodes := fun (t : State) => { t with selide := { t.selide with nodes := s.selide.nodes }, recd := s.recd } = s
    let stops := fun (t : State) => (∀ a ∈ s.nodeAxes n.val, (t.axisSto a).on = true) ∧
      { t with safety := s.safety, axes := s.axes, queues := s.queues, supply := s.supply, host := s.host, recd := s.recd
               selide := s.selide } = s
    (∀ (f : Frame) (start : Int), s.tick.selide = true → s.joinStart k.val ≠ 0 → s.selide.joinOpen = true →
      (s.trunk k.val).sched = 0 → s.frameOk k.val 1 f = true → f.hdr.ftype.toNat = ftJoin → f.payload.length = 24 →
      ((s.strunk k.val).any fun r => r.role = 2) = false →
      (s.nodeAt k.val f.hdr.node.toNat = some n.val → s.joinReason k.val (some n.val) f.payload start = 0 →
        Completes (.join k f start) s fun t => (t.node n.val).state = 1 ∧ (t.node n.val).activeFrom = s.tick.no + 1 ∧
          (t.node n.val).mute = false ∧ (t.trunk k.val).grant.isSome = true ∧ others t ∧
          (∃ g, (t.trunk k.val).sent = (s.trunk k.val).sent ++ [g] ∧ g.hdr.ftype.toNat = ftGrant ∧
            some g.payload = (t.trunk k.val).grant) ∧
          (∀ j, j ≠ k.val → t.trunk j = s.trunk j) ∧
          (∀ a, a ∉ s.nodeAxes n.val → t.axis a = s.axis a) ∧ (∀ a ∈ s.nodeAxes n.val, (t.axis a).fb.started = false) ∧
          { t with axes := s.axes, sep := s.sep
                   selide := { t.selide with nodes := s.selide.nodes, trunks := s.selide.trunks } } = s) ∧
      (∀ j, s.nodeAt k.val f.hdr.node.toNat = j → s.joinReason k.val j f.payload start ≠ 0 →
        Completes (.join k f start) s fun t =>
          Records s t evJoinRefused s.devRef [k.val, f.hdr.node.toNat, s.joinReason k.val j f.payload start] ∧
          (t.trunk k.val).grant.isSome = true ∧ t.selide.nodes = s.selide.nodes ∧
          { t with recd := s.recd, selide := { t.selide with trunks := s.selide.trunks } } = s)) ∧
    (∀ (f : Frame) (start : Int), (s.selide.joinOpen = false ∨ s.tick.selide = false ∨ (s.trunk k.val).sched ≠ 0) →
      Completes (.join k f start) s fun t => t = s) ∧
    (x.state = 1 → x.validData = true → Completes (.nodeJoined n) s fun t => t.node n.val = { x with state := 2 } ∧
      Records s t evNodeJoined obj [x.slots.length] ∧ others t ∧
      (∀ g, (t.armSt g).isNew = ((s.armSt g).isNew || (s.nodeAxes n.val).any fun a => s.cell.parent (mkRef clsAxis a) = some g)) ∧
      nodes { t with sep := { t.sep with arms := s.sep.arms } }) ∧
    (∀ (f : Frame) (start : Int) r, s.tick.selide = true → s.frameOk k.val (essentialChan (s.trunk k.val).sched) f = true →
      s.nodeAt k.val f.hdr.node.toNat = some n.val →
      x.slot (s.trunk k.val).sched (essentialChan (s.trunk k.val).sched) 0 f.hdr.slot.toNat = some r →
      (start - r.start).natAbs ≤ 50 → ((s.slotBounds r.trunk r).1 : Int) ≤ start →
      start + frameNs f.payload.length f.sub.isSome ≤ (s.slotBounds r.trunk r).2 →
      f.hdr.ftype.toNat = ftLeave → x.present = true →
      fieldAt f.payload 0 4 = (s.localNode n.val).elim 0 (fun y => y.nserial) →
      Completes (.leave k (if essentialChan (s.trunk k.val).sched = 0 then .A else .B) f start) s fun t =>
        (t.node n.val).leaving = true ∧ Records s t evNodeLeft obj [] ∧ others t ∧ nodes t) ∧
    (64 ≤ s.silentTicks n.val → x.present = true → x.mute = false → x.leaving = false → Completes (.nodeGone n) s fun t =>
      t.node n.val = { x with leaving := true, goneNext := true } ∧ Records s t evNodeGone obj [] ∧ others t ∧ nodes t) ∧
    (3 ≤ x.violations → x.present = true → x.mute = false → Completes (.nodeMuted n) s fun t =>
      t.node n.val = { x with mute := true, state := 3 } ∧ Records s t evNodeMuted obj [] ∧ others t ∧ nodes t) ∧
    (∀ h, s.selide.startPending = some h → s.tick.selide = true →
      (s.firstMissing = none → Completes .bringupComplete s fun t => Answered s t h stOk ∧ t.selide.startPending = none ∧
        { t with host := s.host, selide := { t.selide with startPending := some h } } = s) ∧
      (∀ m, s.firstMissing = some m → (Completes .bringupComplete s fun t => t = s) ∧
        (s.selide.startNs + s.pU 0x8003 s.dev * 1000000 ≤ s.now + s.P → Completes .bringupTimeout s fun t =>
          AnsweredFor s t h stIncomplete (mkRef clsNode m) ∧ t.selide.startPending = none ∧
          { t with host := s.host, selide := { t.selide with startPending := some h } } = s))) ∧
    (x.staleCnt = 3 → x.stale = true → Completes (.nodeStale n) s fun t => (t.node n.val).staleCnt = 4 ∧
      Records s t evNodeStale obj [x.staleCause] ∧ others t ∧
      (∀ a ∈ s.nodeAxes n.val, 3 ≤ (s.axis a).fb.consec → (s.axis a).fb.faulted = false →
        (t.axis a).fault = true ∧ (t.axis a).home.homed = false) ∧
      { t with axes := s.axes, safety := s.safety, recd := s.recd, selide := { t.selide with nodes := s.selide.nodes } } = s) ∧
    (4 ≤ (x.subAt e).missing → (x.subAt e).timedOut = false → Completes (.subframeTimeout n e) s fun t => stops t ∧
      ((t.node n.val).subAt e).timedOut = true ∧ others t) ∧
    (tblGet 0 x.stoSince ch.val = s.tick.no + 1 → (x.subM.valid = true ∨ x.subW.valid = true) → bitN x.stoAct.toNat ch.val = false →
      (∃ a ∈ s.nodeAxes n.val, (s.axisRec a).any (fun r => r.chan = ch.val) = true) → Completes (.nodeStoFail n ch) s fun t =>
        Records s t evNodeStoFail obj [ch.val] ∧
        (∀ a ∈ s.nodeAxes n.val, (s.axisRec a).any (fun r => r.chan = ch.val) = true → (t.axis a).fault = true) ∧
        { t with axes := s.axes, recd := s.recd } = s)

/-- R259, R264, R266, R269, R270, R272, R285 to R288: frames on the bus and the loss of a channel. A frame that fails a check counts and is recorded; one
in its slot delivers its payload to the node's buffer; a frame too far from its slot is a violation. The downstream window
stamps every present node's sub-frame; a lost channel selects a degraded schedule until it returns. -/
def Obligations.BusFramesAndChannels : Prop :=
  ∀ (s : State) (k : Fin 4) (c : Chan) (f : Frame) (start : Int) (n : Nat),
    let tr := s.trunk k.val
    let chan := chanNo c
    let nodes := fun (t : State) => { t with selide := { t.selide with nodes := s.selide.nodes }, recd := s.recd } = s
    let trunk := fun (t : State) => { t with selide := { t.selide with trunks := s.selide.trunks } } = s
    let x := s.node n
    let within := fun (r : SlotRec) => ((s.slotBounds r.trunk r).1 : Int) ≤ start ∧
      start + frameNs f.payload.length f.sub.isSome ≤ (s.slotBounds r.trunk r).2
    (s.tick.selide = true → s.frameOk k.val chan f = false → tr.sched = 0 → Completes (.upstreamDataFrame k c f start) s fun t =>
      Records s t evFrameError s.devRef [k.val, chan, (s.slotAt k.val 0 chan start).1] ∧
      (∀ m, t.node m = if (s.slotAt k.val 0 chan start).2 = some m then
        { s.node m with crcErr := min ((s.node m).crcErr + 1) (2 ^ 32 - 1) } else s.node m) ∧ nodes t) ∧
    (∀ r, s.tick.selide = true → s.frameOk k.val chan f = true → tr.sched = 0 → s.nodeAt k.val f.hdr.node.toNat = some n →
      x.slot 0 chan 0 f.hdr.slot.toNat = some r → x.present = true → x.mute = false → x.activeFrom ≤ s.tick.no →
      (within r → (start - r.start).natAbs ≤ 50 → f.hdr.ftype.toNat = ftData → c = .A → Completes (.upstreamDataFrame k c f start) s fun t =>
        (t.node n).buf = some f.payload ∧ (t.node n).arrivedA = true ∧ (t.node n).offset = start - r.start ∧
        (∀ m, m ≠ n → t.node m = s.node m) ∧
        (∀ y, f.sub = some y → let ns := (s.localNode n).elim 0 fun r => r.nserial
          ((t.node n).subM.valid = true ↔ s.subCause .madder 0 ns x.subM y f.payload = 0) ∧
          ((t.node n).subW.valid = true ↔ s.subCause .woad 0 ns x.subW y f.payload = 0)) ∧
        { t with selide := s.selide, axes := s.axes, queues := s.queues, supply := s.supply, safety := s.safety, host := s.host
                 recd := s.recd } = s) ∧
      (¬within r → Completes (.upstreamDataFrame k c f start) s fun t =>
        Records s t evSlotViolation (s.nodeRef n) [chan, argI (start - r.start)] ∧ (t.node n).violated = true ∧
        (t.node n).buf = x.buf ∧ (∀ m, m ≠ n → t.node m = s.node m) ∧ nodes t)) ∧
    (s.tick.selide = true → s.frameOk k.val 1 f = true → s.nodeAt k.val f.hdr.node.toNat = some n → x.present = true →
      x.mute = false → tr.sched = 0 → (x.slot 0 1 0 f.hdr.slot.toNat).isSome = true → f.hdr.ftype.toNat = ftExt →
      Completes (.extFrame k f start) s fun t => t.node n = { x with arrivedB := true, extBuf := some f.payload } ∧
        (∀ m, m ≠ n → t.node m = s.node m) ∧
        { t with selide := { t.selide with nodes := s.selide.nodes }, host := s.host } = s) ∧
    (s.tick.selide = true → s.frameOk k.val 1 f = false → Completes (.extFrame k f start) s fun t =>
      Records s t evFrameError s.devRef [k.val, 1, (s.slotAt k.val 0 1 start).1] ∧
      (∀ m, t.node m = if (s.slotAt k.val 0 1 start).2 = some m then
        { s.node m with crcErr := min ((s.node m).crcErr + 1) (2 ^ 32 - 1) } else s.node m) ∧ nodes t) ∧
    ((s.tick.selide = false ∨ s.tick.latched = false ∨ s.tick.downDone = true) →
      Completes .downstreamWindow s fun t => t = s) ∧
    (s.tick.selide = true → s.tick.latched = true → s.tick.downDone = false → (s.selide.nodes.map fun p => p.1).Nodup →
        Completes .downstreamWindow s fun t =>
      (∀ m, m ∈ s.selide.nodes.map (fun p => p.1) → (s.node m).present = true →
        (t.node m).downSeq = (s.node m).downSeq + 1 ∧
        ∃ sub, (t.node m).downSub = some sub ∧ sub.seq = (s.node m).downSeq + 1 ∧
          sub.cstamp = s.tick.cycle.setWidth 16 ∧ sub.sdata = BitVec.ofNat 32 (s.downSdata m)) ∧
      (∀ j, ∃ l, t.trunk j = { s.trunk j with sent := (s.trunk j).sent ++ l }) ∧
      { t with selide := s.selide, tick := { t.tick with downDone := false }, host := s.host, link := s.link
               free := s.free } = s) ∧
    (∀ off, s.tick.selide = true → Completes (.echo k c off) s fun t => trunk t ∧ (∀ j, j ≠ k.val → t.trunk j = s.trunk j) ∧
      t.trunk k.val = { tr with
        echoA := if c = .A then some (off + 200) else tr.echoA, echoB := if c = .B then some (off + 200) else tr.echoB }) ∧
    (∀ arrival y, s.tick.selide = true → cycleStartOf k.val s.dev f = some y → tr.master = true → tr.followed = false →
      y.serial ≠ s.power.fuses.serial →
      let own := masterKey (s.devRec.elim 0 fun d => d.priority) s.power.fuses.serial
      (masterKey y.prio.toNat y.serial < own → Completes (.cycleStartReceived k ⟨f, arrival⟩) s fun t =>
        (t.trunk k.val).conflict = true ∧ (t.trunk k.val).master = false ∧
        ((t.trunk k.val).followed = true ↔ s.pU 0x8002 s.dev = 0) ∧
        Records s t evMasterConflict s.devRef [k.val, y.serial.toNat % 2 ^ 32, y.serial.toNat / 2 ^ 32, y.prio.toNat,
          if s.pU 0x8002 s.dev = 0 then 1 else 2] ∧
        t.time = (if s.pU 0x8002 s.dev = 0 then
          { s.time with
            remaining := s.cycleError y arrival y.acc.toNat, slewing := true, alignSlew := false
            slewStart := if s.time.slewing then s.time.slewStart else s.now } else s.time) ∧
        trunk { t with recd := s.recd, time := s.time }) ∧
      (own ≤ masterKey y.prio.toNat y.serial → Completes (.cycleStartReceived k ⟨f, arrival⟩) s fun t =>
        t.trunk k.val = { tr with conflict := true } ∧ trunk t)) ∧
    (∀ arrival, s.tick.selide = true → tr.master = true → cycleStartOf k.val s.dev f = none →
      Completes (.cycleStartReceived k ⟨f, arrival⟩) s fun t =>
      Records s t evFrameError s.devRef [k.val, 0, 0xFF] ∧ { t with recd := s.recd } = s) ∧
    (Completes (.symbolLockLoss k c) s fun t => trunk t ∧ (∀ j, j ≠ k.val → t.trunk j = s.trunk j) ∧
      t.trunk k.val = { tr with lockA := if c = .A then false else tr.lockA, lockB := if c = .B then false else tr.lockB }) ∧
    (Completes (.symbolLockGain k c) s fun t => trunk t ∧ (∀ j, j ≠ k.val → t.trunk j = s.trunk j) ∧
      t.trunk k.val = { tr with lockA := if c = .A then true else tr.lockA, lockB := if c = .B then true else tr.lockB }) ∧
    (s.isLinkTrunk k.val = true → Completes (.channelLost k c) s fun t => t = s) ∧
    (s.tick.selide = true → s.isLinkTrunk k.val = false → (if c = .A then tr.aLost else tr.bLost) = false →
      (0 < s.lossCause k.val chan → tr.schedNext = 0 → Completes (.channelLost k c) s fun t =>
        (t.trunk k.val).schedNext = (if c = .A then 2 else 1) ∧ (t.trunk k.val).lostNs = s.now ∧
        (t.trunk k.val).lostChan.isSome = true ∧ Records s t evChannelLost s.devRef [k.val, chan, s.lossCause k.val chan] ∧
        trunk { t with recd := s.recd }) ∧
      (s.lossCause k.val chan = 0 → Completes (.channelLost k c) s fun t => t = s)) ∧
    (tr.lostChan.isSome = true →
      (32 ≤ tr.nullRun → Completes (.channelRestored k) s fun t => t.trunk k.val = { tr with restore := true } ∧ trunk t) ∧
      (tr.nullRun < 31 → Completes (.channelRestored k) s fun t => t = s) ∧
      (tr.expired = false → tr.lostNs + s.pU 0x8001 s.dev * 1000000 ≤ s.now + s.P → Completes (.channelDegExpired k) s fun t =>
        t.trunk k.val = { tr with expired := true } ∧ t.selide.nodes = s.selide.nodes ∧
        { t with safety := s.safety, recd := s.recd, health := s.health
                 selide := { t.selide with trunks := s.selide.trunks } } = s))

/-! ### The cell link (R277, R289 to R293) and network time (R353 to R370) -/

/-- R259, R263, R264, R277, R289 to R293, R365: the cell link. A LINK frame counts when the frame, its slot and both its sub-frames are valid. Its
records are then kept, and repeated by the leader; a member checks a forwarded command and acts on its go; the leader collects
answers; a member locks on 8 consistent CYCLE_STARTs and loses the link after 4 missing. -/
def Obligations.CellLinkExchangesItsRecords : Prop :=
  ∀ (s : State) (d : Fin 8) (r : CapRel) (g : GStat) (grp seq : Word16) (w obj : Word) (f : Frame) (start : Int),
    let link := fun (t : State) => { t with link := s.link, recd := s.recd } = s
    let repeated := fun (b : List Byte) => if s.isLeader then s.link.relayOut ++ [b] else s.link.relayOut
    let sender := if s.isLeader then d.val else 0
    let rx := fun (k : Nat) => (s.linkArrives k f start).2.linkRx k
    let counts := fun (k : Nat) (rec : List Byte) => (s.linkArrives k f start).1 = true ∧ rec ∈ linkRecs f.payload
    let dropped := fun (c : Instr) => Completes c s fun t =>
      { t with link := { t.link with rx := s.link.rx, portB := s.link.portB }, recd := s.recd } = s
    let taken := fun (t : State) (e : Island) => ∀ c ∈ s.sep.kin.caps, c.kind = 4 → c.index = r.cap.toNat →
      (tblGet {} (t.eng e).relays r.cap.toNat).arrived = some r
    let relays := fun (t : State) => ∀ e, { t.eng e with relays := (s.eng e).relays } = s.eng e
    let irq := fun (t : State) => (t.host.irqStatus.getLsbD 13 = true ∨ t.time.source = s.time.source) ∧
      { t with link := s.link, time := s.time, tick := s.tick, recd := s.recd
               host := { t.host with irqStatus := s.host.irqStatus, msiSent := s.host.msiSent, pba := s.host.pba } } = s
    (∀ k x, (s.linkRx k).frame ≠ some f → (s.isLeader = true → (s.linkRx k).mute = false) →
      s.linkOk (!s.isLeader) f = true → f.hdr.ftype.toNat = ftLink → f.sub = some x →
      (∀ e, s.subCause e (if s.isMember then 1 else 0) (s.linkSerial k) ((s.linkRx k).subAt e) x f.payload = 0) →
      (s.isLeader = false ∨ ∃ q, s.selide.sched.slots.find? (fun q => q.owner = mkRef clsDevice k && q.dir = 0 &&
        q.slot = f.hdr.slot.toNat) = some q ∧ ((s.slotBounds q.trunk q).1 : Int) ≤ start ∧
        start + frameNs f.payload.length true ≤ (s.slotBounds q.trunk q).2) →
      (s.linkArrives k f start).1 = true) ∧
    (counts sender (capRelBytes r) → Completes (.linkCaprel d r f start) s fun t =>
      tblGet 0 t.link.silent d.val = 0 ∧ t.link.relayOut = repeated (capRelBytes r) ∧
      (∀ e, taken t e) ∧ relays t ∧ link { t with sep := { t.sep with m := s.sep.m, w := s.sep.w } }) ∧
    (capRelBytes r ∉ linkRecs f.payload ∨ (s.linkArrives sender f start).1 = false ∧ (rx sender).frame ≠ some f →
      dropped (.linkCaprel d r f start)) ∧
    (capRelBytes r ∈ linkRecs f.payload → (s.linkArrives sender f start).1 = false → (rx sender).frame = some f →
      Completes (.linkCaprel d r f start) s fun t => (∀ e ∈ (rx sender).islands, taken t e) ∧
        (∀ e, e ∉ (rx sender).islands → t.eng e = s.eng e) ∧ relays t ∧ t.link.relayOut = s.link.relayOut ∧
        link { t with sep := { t.sep with m := s.sep.m, w := s.sep.w } }) ∧
    (counts sender (gstatOf g) → Completes (.linkGstat d g f start) s fun t => tblGet 0 t.link.silent d.val = 0 ∧ link t ∧
      tblGet {} t.link.gstatNew g.group.toNat = { state := g.state.toNat, flags := g.flags, first := g.first } ∧
      t.link.gstat = s.link.gstat) ∧
    (¬counts sender (gstatOf g) → dropped (.linkGstat d g f start)) ∧
    (counts sender (sigmaBytes grp.toNat w.toNat) → Completes (.linkSigma d grp w f start) s fun t =>
      tblGet 0 t.link.silent d.val = 0 ∧ link t ∧
      tblGet 0 t.link.sigma grp.toNat = w.toNat ∧ t.link.relayOut = repeated (sigmaBytes grp.toNat w.toNat)) ∧
    (¬counts sender (sigmaBytes grp.toNat w.toNat) → dropped (.linkSigma d grp w f start)) ∧
    (∀ desc h c, s.linkedMember = true → s.memberCmd (descriptorOf desc) = some (h, c) →
      counts 0 (cmdBytes seq.toNat w.toNat desc) → Completes (.linkCmd seq w desc f start) s fun t => link t ∧
        ∃ l ∈ t.link.cmds, l.seq = seq.toNat ∧ l.hdr = none ∧ l.cmd = c ∧ l.effect = w ∧ l.tick = s.tick.no ∧ l.goSent = none ∧
          l.desc = desc) ∧
    (∀ go : Word, s.isMember = true → counts 0 (cmdgoBytes seq.toNat go.toNat) →
      Completes (.linkCmdgo seq go f start) s fun t => link t ∧
      (go = 1 → (∀ l ∈ s.link.cmds, l.hdr = none → l.seq = seq.toNat → { l with goSent := some true } ∈ t.link.cmds) ∧
        t.link.cmds.length = s.link.cmds.length) ∧
      (go ≠ 1 → ∀ l, l ∈ t.link.cmds ↔ l ∈ s.link.cmds ∧ ¬(l.hdr = none ∧ l.seq = seq.toNat))) ∧
    (∀ c h, s.isLeader = true → s.link.cmds.find? (fun c => c.hdr.isSome && c.seq = seq.toNat) = some c → c.hdr = some h →
      c.goSent = none → d.val ∈ c.waiting → counts d.val (cmdackBytes seq.toNat w.toNat obj.toNat) →
      let rest := c.waiting.filter fun k => k ≠ d.val
      let order := (s.axesBelow h.obj).map (mkRef clsAxis)
      Completes (.linkCmdack d seq w obj f start) s fun t => link t ∧ ∃ y ∈ t.link.cmds, ∃ own,
        y = { c with waiting := rest, answers := y.answers, status := y.status, obj := y.obj } ∧
        y.answers = c.answers ++ (if w.toNat ≠ 0 then [(w.toNat, obj)] else []) ++ own ∧ (rest ≠ [] → own = []) ∧
        (y.answers = [] → y.status = 0) ∧
        ∀ p, firstReject order y.answers = some p → y.status = BitVec.ofNat 32 p.1 ∧ y.obj = p.2) ∧
    (s.isMember = true → s.link.lost = false → 4 ≤ s.link.missed → Completes .linkLost s fun t =>
      t.link.lost = true ∧ t.link.joined = false ∧ t.link.locked = false ∧ t.link.cmds = [] ∧ t.time.source = 2 ∧
      t.time.slewing = false ∧ t.time.remaining = 0 ∧ t.tick = s.tick ∧ Records { s with time := t.time } t evLinkLost s.devRef [] ∧ irq t) ∧
    (∀ (c : CycleStart) arrival trip, s.isMember = true → cycleStartOf s.linkTrunk (s.dev - 1) f = some c →
      let run := if s.linkConsistent c arrival then s.link.run + 1 else 1
      Completes (.linkCycleStart f arrival trip) s fun t =>
        t.link.run = run ∧ t.link.seen = true ∧ t.link.locked = (decide (8 ≤ run) || s.link.locked) ∧
        (∀ n, trip = some n → s.link.echoOut = true → t.link.hop = (n - 1600) / 2) ∧
        (trip = none ∨ s.link.echoOut = false → t.link.hop = s.link.hop) ∧
        t.link.delay = (c.acc.toNat : Int) + t.link.hop + c.corr.toInt ∧
        (t.link.locked = false → t.time = s.time ∧ t.tick = s.tick) ∧
        (t.link.locked = true → s.link.lost = true → t.time = s.time ∧ t.link.error = t.linkError c arrival ∧ t.tick = s.tick) ∧
        (t.joinDue c = true → t.link.joinTick = some s.tick.no ∧
          ∃ g, (t.trunk s.linkTrunk).sent = (s.trunk s.linkTrunk).sent ++ [g] ∧ g.hdr.ftype.toNat = ftJoin) ∧
        (t.joinDue c = false → t.selide = s.selide) ∧ t.cycleRepeat f ∈ t.link.portB ∧
        (t.link.locked = true → s.link.lost = false → (s.tick.selide = true ∨ s.time.slewing = true) →
          t.time = { s.time with source := 3, remaining := t.linkError c arrival } ∧ t.tick = s.tick) ∧
        (t.link.locked = true → s.link.lost = false → s.tick.selide = false → s.time.slewing = false →
          t.tick = { s.tick with cycle := c.cycle } ∧
          t.time = { s.time with sec := c.t0Sec.toNat, ns := c.t0Ns.toNat, source := 3, remaining := 0 }) ∧
        irq { t with selide := s.selide }) ∧
    (∀ arrival trip, s.isMember = true → cycleStartOf s.linkTrunk (s.dev - 1) f = none →
      Completes (.linkCycleStart f arrival trip) s fun t => Records s t evFrameError s.devRef [s.linkTrunk, 0, 0xFF] ∧
        { t with recd := s.recd } = s) ∧
    (s.isMember = true → s.link.locked = true → s.linkOk true f = true →
      (s.grantsUs f = true → s.link.joinTick = some s.tick.no → Completes (.linkGrantReceived f) s fun t =>
        t.link.joined = true ∧ t.link.lost = false ∧ t.link.missed = 0 ∧
        (s.link.lost = true → t.time = { s.time with
          source := 3, slewing := true, slewStart := s.now, alignSlew := false, remaining := s.link.error }) ∧
        (s.link.lost = false → t.time = s.time) ∧ t.tick = s.tick ∧ irq t) ∧
      (s.grantsUs f = false ∨ s.link.joinTick ≠ some s.tick.no → Completes (.linkGrantReceived f) s fun t => f ∈ t.link.portB ∧
        { t with link := { t.link with portB := s.link.portB } } = s))

/-- R353, R356 to R358, R368, R370, R463: the bridge, the transparent clock and the pulse per second. -/
def Obligations.BridgeTransparentClockAndPps : Prop :=
  ∀ (s : State) (p : Fin 2) (m : PtpHdr) (n : Nat),
    let e := s.eth p.val
    let out := otherPort m.port.val
    let time := fun (t : State) => { t with time := s.time } = s
    let queue := fun (q : Nat) (x : EgFrame) => tblMod [] s.time.egress q (· ++ [x])
    let fu := fun (x : EgFrame) => queue (8 * out + if m.vid = 0 then 0 else m.pcp.val) x
    let ethOnly := fun (t : State) => { t with time := { t.time with eth := s.time.eth } } = s
    (∀ f : EthFrame, e.up = true → (s.eth (otherPort p.val)).up = true → groupAddr f.src = false →
      (s.time.fdb.find? fun k => k.1 = f.dst.toNat) = none → (f.dst.toNat < 0x0180C2000000 ∨ 0x0180C200000F < f.dst.toNat) →
      Completes (.bridgeFrame p f) s fun t => t.time = { s.time with
        fdb := tblSet s.time.fdb f.src.toNat p.val, bridged := s.time.bridged + 1
        egress := tblMod [] s.time.egress (8 * otherPort p.val + if f.tagged then f.pcp.val else 0) (· ++ [.bridged f]) } ∧
        time t) ∧
    (∀ f : EthFrame, e.up = false → Completes (.bridgeFrame p f) s fun t => t = s) ∧
    (∀ kind at', (s.eth m.port.val).up = true → (s.eth out).up = true →
      (isPeer kind = false ∨ s.p2p = false) →
      let add := n + if kind = .sync ∧ s.p2p = true then (s.eth m.port.val).linkDelay else 0
      let x := fun (c : Int) (zero : Bool) => { s.time with
        egress := tblMod [] s.time.egress (8 * out + 7) (· ++ [EgFrame.ptp { m with correction := c } (some kind) zero])
        bridged := s.time.bridged + 1 }
      let longest := Nat.max s.time.residenceMax (Nat.min n (2 ^ 32 - 1))
      let v4 := decide (m.transport = .udp4)
      (m.transport = .udp6 → Completes (.ptpTransit m kind ⟨n, at'⟩) s fun t =>
        t.time = { x m.correction false with v6Fwd := min (s.time.v6Fwd + 1) (2 ^ 32 - 1) } ∧
        RecordsAt at' s t evPtpV6Uncorrected s.devRef [m.port.val] ∧ { t with time := s.time, recd := s.recd } = s) ∧
      (m.transport ≠ .udp6 → ¬(kind = .sync ∧ m.twoStep = true) → Completes (.ptpTransit m kind ⟨n, at'⟩) s fun t =>
        t.time = { x (m.correction + add * 65536) v4 with residenceMax := longest } ∧ time t) ∧
      (m.transport ≠ .udp6 → kind = .sync → m.twoStep = true → Completes (.ptpTransit m kind ⟨n, at'⟩) s fun t =>
        t.time = { x m.correction v4 with
          residenceMax := longest
          held := s.time.held ++ [{ egress := out, source := m.source, domain := m.domain, seq := m.seq, value := add, ns := s.now + at' }] } ∧
        time t)) ∧
    (∀ (o : DevTime) h, (s.eth m.port.val).up = true → (s.eth out).up = true → m.transport ≠ .udp6 → s.domOf m = none →
      (s.time.held.find? (heldFor m (s.now + n)) = some h → Completes (.ptpFollowUp m o n) s fun t =>
        t.time = { s.time with
          egress := fu (.ptp { m with correction := m.correction + h.value * 65536 } none (decide (m.transport = .udp4)))
          bridged := s.time.bridged + 1, held := s.time.held.erase h } ∧ time t) ∧
      (s.time.held.find? (heldFor m (s.now + n)) = none → Completes (.ptpFollowUp m o n) s fun t =>
        t.time = { s.time with
          egress := fu (.ptp m none false), bridged := s.time.bridged + 1
          fuUnmatched := min (s.time.fuUnmatched + 1) (2 ^ 32 - 1) } ∧
        RecordsAt n s t evTcFuUnmatched s.devRef [m.port.val, m.seq.toNat] ∧ { t with time := s.time, recd := s.recd } = s)) ∧
    (∀ o : DevTime, (s.eth m.port.val).up = true → (s.eth out).up = true → m.transport = .udp6 → s.domOf m = none →
      Completes (.ptpFollowUp m o n) s fun t =>
        t.time = { s.time with
          egress := fu (.ptp m none false), bridged := s.time.bridged + 1, v6Fwd := min (s.time.v6Fwd + 1) (2 ^ 32 - 1) } ∧
        RecordsAt n s t evPtpV6Uncorrected s.devRef [m.port.val] ∧
        { t with time := s.time, recd := s.recd } = s) ∧
    (Completes .tcResidenceExpiry s fun t =>
      t.time = { s.time with held := s.time.held.filter fun h => s.now < h.ns + 10000000 } ∧ time t) ∧
    (∀ ing eg, s.ptpTaken m = true → s.p2p = true → Completes (.ptpPdelayReq m ing eg) s fun t =>
      (t.eth m.port.val).respSent = true ∧
      (t.eth m.port.val).turn = eg.sec * 1000000000 + eg.ns - (ing.sec * 1000000000 + ing.ns) ∧
      t.time.egress = queue (8 * m.port.val + 7) (.own .pdelayResp m.domain.toNat m.seq.toNat) ∧
      ethOnly { t with time := { t.time with egress := s.time.egress } }) ∧
    (e.up = false ∨ s.reqDue p.val = false → Completes (.pdelayReqInterval p) s fun t => t = s) ∧
    (e.up = true → s.reqDue p.val = true →
      (s.p2p = true → Completes (.pdelayReqInterval p) s fun t =>
        let q := (e.pdelaySeq + 1) % 65536
        t.eth p.val = { e with pdelaySeq := q, pdelayOut := true, reqNs := some s.now } ∧
        t.time.egress = queue (8 * p.val + 7) (.own .pdelayReq 0 q) ∧
        ethOnly { t with time := { t.time with egress := s.time.egress } }) ∧
      (s.p2p = false → Completes (.pdelayReqInterval p) s fun t =>
        t.eth p.val = { e with reqNs := some s.now } ∧
        (∀ d, d < 2 → if d ∈ s.domsOn p.val then
          t.dom d = { s.dom d with delaySeq := ((s.dom d).delaySeq + 1) % 65536, delayOut := true } ∧
          EgFrame.own .delayReq (s.domP 0x9010 d) (t.dom d).delaySeq ∈ tblGet [] t.time.egress (8 * p.val + 7) else t.dom d = s.dom d) ∧
        ethOnly { t with time := { t.time with egress := s.time.egress, domains := s.time.domains } })) ∧
    (∀ a b c d, s.p2p = true → s.ptpTaken m = true → (s.eth m.port.val).pdelayOut = true →
      (s.eth m.port.val).pdelaySeq = m.seq.toNat →
      Completes (.ptpDelayResp m a b c d) s fun t => (t.eth m.port.val).pdelayOut = false ∧
        (t.eth m.port.val).linkDelay =
          ((devNs d - devNs a - (devNs b - devNs c) - rdiv m.correction 65536) / 2).toNat ∧ ethOnly t) ∧
    (∀ a b c d dm (y : Int × Int), s.p2p = false → s.domOf m = some dm → s.fromMaster dm m = true →
      (s.dom dm).delayOut = true → (s.dom dm).delaySeq = m.seq.toNat → (s.dom dm).lastSync = some y →
      Completes (.ptpDelayResp m a b c d) s fun t =>
        t.dom dm = { s.dom dm with
          delayOut := false, pathDelay := (y.2 - y.1 + (devNs c - devNs a) - rdiv m.correction 65536) / 2 } ∧
        { t with time := { t.time with domains := s.time.domains } } = s) ∧
    (s.power.reset = false →
      (e.up = false → Completes (.ethLinkChange p true) s fun t => (t.eth p.val).up = true ∧ ethOnly t) ∧
      (e.up = true → Completes (.ethLinkChange p false) s fun t => (t.eth p.val).up = false ∧
        (∀ k ∈ t.time.fdb, k.2 ≠ p.val) ∧ (∀ k ∈ t.time.egress, k.1 / 8 ≠ p.val) ∧ (∀ q, q ≠ p.val → t.eth q = s.eth q) ∧
        { t with time := s.time, recd := s.recd } = s)) ∧
    (s.time.ns = 0 → (s.pU 0x900A s.dev = 1 → s.time.source = 1 ∨ s.time.source = 3) → s.pU 0x900A s.dev ≠ 0 →
      Completes .ppsOutSecond s fun t =>
        t.time = { s.time with ppsHigh := true, ppsEndNs := s.now + s.pU 0x9009 s.dev * 1000 } ∧ time t) ∧
    (s.pU 0x900A s.dev = 0 → Completes .ppsOutSecond s fun t => t = s) ∧
    (s.time.ppsHigh = true → s.time.ppsEndNs ≤ s.now + s.P → Completes .ppsOutPulseEnd s fun t =>
      t.time = { s.time with ppsHigh := false } ∧ time t) ∧
    (let off := (s.time.ns + n) % 1000000000
     Completes (.ppsInEdge n) s fun t => time t ∧ t.time = { s.time with
       ppsIn := if off ≤ 500000000 then (off : Int) else off - 1000000000, ppsSeenNs := some (s.now + n) })

/-- R359 to R368: the domains and the device time. A Sync of the chosen master gives one servo estimate, whose frequency filter is free (log
entry 9); the best Announce is chosen, and its absence ends the domain; a finished slew is recorded; leap seconds act at the end of
their month. -/
def Obligations.DomainsServoAndLeapSeconds : Prop :=
  ∀ (s : State) (m : PtpHdr) (d : Fin 2) (o ing : DevTime),
    let x := s.dom d.val
    let time := fun (t : State) => { t with time := s.time } = s
    (s.domOf m = some d.val → s.fromMaster d.val m = true →
      (m.twoStep = true → Completes (.ptpSync m o ing) s fun t => t.dom d.val = { x with twoStep := true, syncHeld := some (m, ing) } ∧
        { t with time := { t.time with domains := s.time.domains } } = s) ∧
      (m.twoStep = false → Completes (.ptpSync m o ing) s fun t =>
        let master := devNs o + rdiv m.correction 65536
        (t.dom d.val).offset = satS 32 (master + (if s.p2p = true then ((s.eth x.port).linkDelay : Int) else x.pathDelay) - devNs ing) ∧
        (t.dom d.val).freq = x.lastSync.elim x.freq (fun y =>
          satS 32 (Config.servoFreq (s.domP 0x9014 d.val) (s.syncFreq y master (devNs ing)) x.freq)) ∧
        (t.dom d.val).lastSync = some (master, devNs ing) ∧
        (t.dom d.val).twoStep = false ∧ t.time.sec = s.time.sec ∧ t.time.ns = s.time.ns ∧
        (s.time.source ≠ 1 ∨ s.time.sel ≠ d.val → t.time.freqCorr = s.time.freqCorr) ∧
        (t.time.freqCorr = s.time.freqCorr ∨ -100000 ≤ t.time.freqCorr ∧ t.time.freqCorr ≤ 100000) ∧
        { t with time := s.time, recd := s.recd } = s)) ∧
    (s.domOf m = none → Completes (.ptpSync m o ing) s fun t => t = s) ∧
    (∀ a : Announce, s.domOf m = some d.val → x.best = [] → x.state = 0 → Completes (.ptpAnnounce m a) s fun t =>
      (t.dom d.val).state = 1 ∧ (t.dom d.val).master = some m.source ∧ (t.dom d.val).port = m.port.val ∧
      (t.dom d.val).cls = a.clockClass.toNat ∧ (t.dom d.val).timeoutNs = s.now + announceNs a ∧
      (a.utcValid = true → (t.dom d.val).utcHeld = some a.utcOffset) ∧
      { t with time := s.time, recd := s.recd } = s) ∧
    ((x.state = 1 ∨ x.state = 2) → x.timeoutNs ≤ s.now + s.P → Completes (.announceTimeout d) s fun t =>
      (t.dom d.val).state = 3 ∧ (t.dom d.val).master = none ∧ (t.dom d.val).best = [] ∧ (t.dom d.val).sawTimeout = true ∧
      { t with time := { t.time with domains := s.time.domains } } = s) ∧
    (s.now + s.P < x.timeoutNs → Completes (.announceTimeout d) s fun t => t = s) ∧
    (s.time.slewing = true →
      (absQ s.time.remaining ≤ (s.domP 0x9013 s.time.sel : Rat) → Completes .timeSlewDone s fun t =>
        t.time = { s.time with slewing := false, alignSlew := false } ∧
        Records { s with time := { s.time with slewing := false, alignSlew := false } } t evTimeSlewDone (s.domRef s.time.sel) [(s.now - s.time.slewStart) / 1000000] ∧
        { t with time := s.time, recd := s.recd } = s) ∧
      ((s.domP 0x9013 s.time.sel : Rat) < absQ s.time.remaining → Completes .timeSlewDone s fun t => t = s)) ∧
    (∀ u, s.utcStart = some u →
      (s.time.leap61 = true → s.time.leapSec = false → u % 86400 = 0 → firstOfMonth u = true → Completes .leapSecond s fun t =>
        t.time = { s.time with leapSec := true } ∧ time t) ∧
      (s.time.leap61 = false → s.time.leap59 = true → u % 86400 = 86399 → firstOfMonth (u + 1) = true →
        Completes .leapSecond s fun t => t.time.utcOffset = s.utcOff - 1 ∧ t.time.utcValid = true ∧ t.time.leap59 = false ∧
          Records { s with time := { s.time with utcOffset := s.utcOff - 1, utcValid := true } } t evUtcOffsetChange s.devRef
            [argI s.utcOff, argI (s.utcOff - 1), 1] ∧
          { t with time := s.time, recd := s.recd } = s))

/-! ### Separation engines (R14, R44, R155 to R174) and the coordination solver (R192 to R207) -/

/-- R14, R41, R44, R155, R160, R167, R170, R171, R174: what the engines do, each with its own persons and relays. The predicted pass keeps a distance for every pair whose bodies are
present; the bound pass publishes for every arm, with κ = 0 under a stop demand, κ rising by at most its ramp, and SS1 of
a stopped arm requested; late engines, lost persons, stale relays and channel faults are recorded. -/
def Obligations.EnginesPublishAndStop : Prop :=
  ∀ (s : State) (e : Island) (n : Nat) (q : Fin 32) (d : Fin 8),
    let on := s.tick.selide = true ∧ s.islandAlive e = true
    let other := fun (t : State) => t.eng (otherIsland e) = s.eng (otherIsland e)
    let i := s.dev * 32 + q.val
    let p := fun (e : Island) => s.person e i
    let engs := fun (t : State) => { t with sep := { t.sep with m := s.sep.m, w := s.sep.w } }
    (on → s.sep.kin.loaded = true → Completes (.enginePredictedPass e) s fun t => other t ∧
      (∀ k pr, (k, pr) ∈ s.pairList → (((t.eng e).dHat.any fun x => x.1 = k) = true ↔
        s.bodyPresent e (.cap pr.a) = true ∧ s.bodyPresent e pr.b = true)) ∧
      (let y := { t.eng e with pred := (s.eng e).pred, dHat := (s.eng e).dHat }
       y = s.eng e) ∧ { t with sep := s.sep } = s) ∧
    (on → s.tick.intakeDone = true → (s.eng e).published = false → Completes (.engineBoundPass e n) s fun t =>
      other t ∧ (t.eng e).published = decide (n ≤ 19000) ∧ (t.eng e).publish = n ∧ (t.eng e).joints = (s.eng e).joints ∧
      (∀ g ∈ s.armList,
        (((t.eng e).arm g).stop = true → ((t.eng e).arm g).kappa = 0) ∧
        (s.armOut g = false → (s.armSt g).isNew = false →
          ((t.eng e).arm g).kappa ≤ ((s.eng e).arm g).kappa + s.pU 0x5008 s.dev) ∧
        (((t.eng e).arm g).stop = true → e ∈ s.enginesUsed → s.safety.armed = true →
          (∃ a ∈ s.armJoints g, s.inSto a = false ∧ s.underSs1 a = false) →
          ∃ r ∈ t.safety.reqs, r.obj = mkRef clsGroup g ∧ r.fromDemand = true ∧ r.begun = false)) ∧
      (∀ p, { t.pair p with ext := (s.pair p).ext } = s.pair p) ∧
      { t with sep := s.sep, recd := s.recd, free := s.free, lanes := { t.lanes with pairs := s.lanes.pairs }
               safety := { t.safety with reqs := s.safety.reqs, nextReq := s.safety.nextReq } } = s) ∧
    (on → (s.eng e).published = false → (s.eng e).late = false →
      Completes (.engineLate e n) s fun t =>
      (t.eng e).late = true ∧ Records s t evEngineLate s.devRef [islandCode e, n] ∧ other t ∧
      (s.sep.compared = false → t.sep.disagree = true ∧ t.sep.disCount = Nat.min 3 (s.sep.disCount + 1) ∧
        t.sep.lateM = (if s.sep.m.published then 0 else s.sep.lateM + 1) ∧
        t.sep.lateW = (if s.sep.w.published then 0 else s.sep.lateW + 1)) ∧
      { t with sep := s.sep, recd := s.recd } = s) ∧
    (¬on → Completes (.engineLate e n) s fun t => t = s) ∧
    (¬on ∨ s.tick.intakeDone = false ∨ (s.eng e).published = true → Completes (.engineBoundPass e n) s fun t => t = s) ∧
    (¬on ∨ s.sep.kin.loaded = false → Completes (.enginePredictedPass e) s fun t => t = s) ∧
    (∀ r, s.personRec i = some r →
      ((∃ e, (p e).lost = false ∧ ((p e).fault = true ∨ 3 ≤ (p e).stale)) → Completes (.personLost q) s fun t =>
        (∀ e, t.person e i = { p e with lost := (p e).lost || (p e).fault || decide (3 ≤ (p e).stale) } ∧
          { t.eng e with persons := (s.eng e).persons } = s.eng e) ∧
        ((∀ e, (p e).lost = false) → Records s t evPersonLost (mkRef clsPerson i)
          [(mkRef clsNode r.node).toNat, if (p .madder).fault || (p .woad).fault then 1 else 2]) ∧
        engs { t with recd := s.recd } = s) ∧
      ((∀ e, (p e).lost = true ∨ (p e).fault = false ∧ (p e).stale < 3) → Completes (.personLost q) s fun t => t = s)) ∧
    (let k := ((s.foreignCaps d.val).filter fun c =>
       decide ((s.relay .madder c.index).stale = 3) || decide ((s.relay .woad c.index).stale = 3)).length
     (0 < k → Completes (.relayStale d) s fun t => Records s t evRelayStale (mkRef clsDevice d.val) [k] ∧
       { t with recd := s.recd } = s) ∧ (k = 0 → Completes (.relayStale d) s fun t => t = s)) ∧
    (s.sep.disCount = 3 → s.sep.taken = false → s.safety.degraded = none → s.safety.degPending = none →
      Completes .sepChannelFault s fun t =>
        let a : Option Island := if 3 ≤ s.sep.lateM ∧ s.sep.lateW < 3 then some .madder
          else if 3 ≤ s.sep.lateW ∧ s.sep.lateM < 3 then some .woad else none
        t.safety.degPending = some a ∧ t.sep.taken = true ∧
        t.sep.chFault = some { attributed := a, pending := a.isNone, tick := s.tick.no } ∧
        Records s t evSepChannelFault s.devRef [a.elim 3 islandCode, if a.isSome then 2 else 1] ∧
        { t with recd := s.recd, safety := { t.safety with degPending := none }
                 sep := { t.sep with taken := s.sep.taken, chFault := s.sep.chFault } } = s) ∧
    (s.sep.disCount < 3 → Completes .sepChannelFault s fun t => t = s) ∧
    (s.safety.directed = true →
      (Completes (.sepDirectedVerdict true true) s fun t => t.safety.directed = false ∧
        { t with safety := { t.safety with directed := true }, sep := { t.sep with chFault := s.sep.chFault } } = s) ∧
      (Completes (.sepDirectedVerdict (decide (e ≠ .madder)) (decide (e ≠ .woad))) s fun t => t.safety.directed = false ∧
        t.safety.degPending = some (some e) ∧
        RecordsWithin 1 s t evSafeChannelFault s.devRef [islandCode e, s.safety.directedItem] ∧
        { t with recd := s.recd, sep := { t.sep with chFault := s.sep.chFault }
                 safety := { t.safety with directed := true, degPending := s.safety.degPending } } = s) ∧
      (Completes (.sepDirectedVerdict false false) s fun t => t.sep.bothFailed = true ∧ t.safety.directed = false ∧
        (∃ r, t.safety.reqs = s.safety.reqs ++ [r] ∧ r.scope = .zones s.zoneList ∧ r.t0 = s.tick.no + 1) ∧
        { t with health := s.health, sep := { t.sep with bothFailed := s.sep.bothFailed, chFault := s.sep.chFault }
                 safety := { t.safety with directed := true, reqs := s.safety.reqs, nextReq := s.safety.nextReq } } = s))

/-- R192 to R200, R207: a solve starts at a planning boundary from the selected structure, or the period is skipped; its
factorisation and its iterations complete before the deadline; it ends converged, at its deadline or on a numeric failure,
that of an uncorrectable error in its structure among them (R479). -/
def Obligations.SolvesRunToTheirOutcome : Prop :=
  ∀ (s : State) (n : Nat), s.health.warmDamaged = false →
    let ends := fun (t : State) (out : Nat) => t.solver.solve = none ∧ t.solver.outcome = out ∧ t.solver.due = true ∧
      t.solver.structs = s.solver.structs ∧ { t with solver := s.solver, recd := s.recd, free := s.free } = s
    let kept := fun (x : Solve) (out : Nat) => if (s.struct? x.handle).any (fun y => y.damaged) = true then outNumeric else out
    let numeric := fun (t : State) (cause : Nat) => ends t outNumeric ∧ t.solver.usable = false ∧
      Records s t evSolveNumeric s.devRef [cause]
    (∀ k x, s.solver.selected = some k → s.struct? k = some x →
      ((s.boundary = false ∨ s.pU 0x6001 s.dev ≠ 1 ∨ s.solver.due = true) → Completes .solveStart s fun t => t = s) ∧
      (s.boundary = true → s.pU 0x6001 s.dev = 1 → s.solver.due = false → s.solver.solve = none →
        ((s.rowEngines = [] ∨ s.solver.vplanOk = false) → Completes .solveStart s fun t =>
          ends t outSkipped ∧ t.solver.usable = false ∧ { t with solver := s.solver } = s) ∧
        (s.rowEngines ≠ [] → s.solver.vplanOk = true → x.damaged = false → Completes .solveStart s fun t =>
          (∃ y, t.solver.solve = some y ∧ y.handle = k ∧ y.generation = x.generation ∧ y.image = x ∧ y.iter = 0 ∧
            y.factored = false ∧ y.deadline = s.pU 0x6002 s.dev * 1000 ∧ y.boundaryNs = s.now) ∧
          t.solver.structs = s.solver.structs ∧ { t with solver := s.solver, recd := s.recd, free := s.free } = s))) ∧
    (s.solver.selected = none → Completes .solveStart s fun t => t = s) ∧
    (∀ x, s.solver.solve = some x →
      let off := s.now + n - x.boundaryNs
      (x.factored = false → off + 20000 ≤ x.deadline →
        (x.inertiaOk (s.pF 0x6005) x.rho = false → Completes (.solveFactorDone n) s fun t => numeric t 1) ∧
        (x.inertiaOk (s.pF 0x6005) x.rho = true → finite64 [x.cur.r] = true →
          (x.cur.r ≤ 1 → Completes (.solveFactorDone n) s fun t => ends t (kept x outConverged)) ∧
          (1 < x.cur.r → Completes (.solveFactorDone n) s fun t => t.solver.solve = some { x with factored := true } ∧
            { t with solver := { t.solver with solve := s.solver.solve } } = s))) ∧
      (x.factored = false → x.deadline < off + 20000 → Completes (.solveFactorDone n) s fun t => t = s) ∧
      (x.factored = false → x.boundaryNs + x.deadline ≤ s.now + s.P + 20000 → Completes .deadlineInFactor s fun t =>
        ends t (kept x outDeadlineFactor)) ∧
      (x.factored = true → off ≤ x.deadline → s.pU 0x600B s.dev = 0 →
        (s.nextIter x = none → Completes (.solveIteration n) s fun t => numeric t 1) ∧
        (∀ v z y, s.nextIter x = some (v, z, y) →
          (finite64 (v ++ z ++ y) = false → Completes (.solveIteration n) s fun t => numeric t 2) ∧
          (finite64 (v ++ z ++ y) = true →
            let it := s.evalIter x (v.map round64) (z.map round64) (y.map round64)
            (it.r ≤ 1 → Completes (.solveIteration n) s fun t => ends t (kept x outConverged)) ∧
            (1 < it.r → Completes (.solveIteration n) s fun t =>
              (∃ w, t.solver.solve = some w ∧ w.cur = it ∧ w.iter = x.iter + 1 ∧ w.rho = x.rho ∧
                w.best = if it.r ≤ x.best.r then it else x.best) ∧
              { t with solver := { t.solver with solve := s.solver.solve } } = s)))) ∧
      (x.factored = true → x.boundaryNs + x.deadline ≤ s.now + s.P → Completes .deadlineIter s fun t => ends t (kept x outDeadlineIter)) ∧
      (∀ r, x.newRho = some r → off ≤ x.deadline →
        (x.inertiaOk (s.pF 0x6005) r = true → Completes (.rhoRefactorDone n) s fun t =>
          t.solver.solve = some { x with rho := r, newRho := none, switched := true } ∧
          { t with solver := { t.solver with solve := s.solver.solve } } = s) ∧
        (x.inertiaOk (s.pF 0x6005) r = false → Completes (.rhoRefactorDone n) s fun t => numeric t 1))) ∧
    (s.solver.solve = none → ∀ c ∈ [Instr.solveFactorDone n, .solveIteration n, .rhoRefactorDone n, .deadlineInFactor,
      .deadlineIter], Completes c s fun t => t = s)

/-! ### Segments, supply, loops (R80 to R83, R94, R95, R99, R113 to R115, R444) -/

/-- R94, R95, R112: a segment due to start from rest pays its supply cost and begins on the profile clock, waits for its domains, or
is dropped where its cost exceeds a budget; a segment that reaches its end leaves its queue with its outcome, blending into the next
where it may; a halted one ends HALTED. -/
def Obligations.SegmentsStartAndEnd : Prop :=
  ∀ (s : State) (q : Word),
    let x := s.queue q
    (s.startDue q = false → Completes (.segmentStart q) s fun t => t = s) ∧
    (∀ g r, x.segs = g :: r → s.startDue q = true →
      let costs := s.startCost g
      let blocked := s.supply.reqs.flatMap fun y => y.costs.map fun p => p.1
      let p := s.planSeg g (s.startsOf g) x.tau
      (s.overBudget costs = true → g.homing = false → Completes (.segmentStart q) s fun t => (t.queue q).segs = [] ∧
        (∀ a, (t.axis a).bound ≠ some q) ∧ Records s t evSegEnd q [g.segId.toNat, ocDeferred] ∧
        { t with axes := s.axes, queues := s.queues, supply := s.supply, recd := s.recd } = s) ∧
      (s.overBudget costs = false → canPay s.supply.levels blocked costs = false → Completes (.segmentStart q) s fun t =>
        t.queue q = { x with waiting := true } ∧ (∀ k : Word, k ≠ q → t.queue k = s.queue k) ∧
        t.supply = { s.supply with reqs := s.supply.reqs ++ [{ kind := .start q, costs := costs, joined := s.tick.no }] } ∧
        { t with queues := s.queues, supply := s.supply } = s) ∧
      (s.overBudget costs = false → canPay s.supply.levels blocked costs = true → s.segValid g (s.startsOf g) = true → p.dist ≠ 0 →
        Completes (.segmentStart q) s fun t => t.queue q = { x with waiting := false, plan := some p, endedTick := none } ∧
          (∀ k : Word, k ≠ q → t.queue k = s.queue k) ∧ t.supply = { s.supply with levels := payAll s.supply.levels costs } ∧
          (∀ a, t.axis a = { s.axis a with decKept := (t.axis a).decKept }) ∧ (∀ a ∈ g.axes, (t.axis a).decKept = false) ∧
          { t with queues := s.queues, supply := s.supply, axes := s.axes } = s) ∧
      (s.overBudget costs = false → canPay s.supply.levels blocked costs = true → s.segValid g (s.startsOf g) = false →
        g.homing = false → Completes (.segmentStart q) s fun t =>
          (t.queue q).segs = [] ∧ Records s t evSegEnd q [g.segId.toNat, ocRefused]) ∧
      (s.overBudget costs = false → canPay s.supply.levels blocked costs = true → p.dist = 0 → r = [] → g.homing = false →
        Completes (.segmentStart q) s fun t => (t.queue q).segs = [] ∧ (t.queue q).plan = none ∧
          (t.queue q).lastOutcome = ocComplete ∧ (t.queue q).lastSegId = g.segId ∧
          (g.notify = true → Records s t evSegEnd q [g.segId.toNat, ocComplete]))) ∧
    (s.segOver q = false → ∀ c ∈ [Instr.segEnd q, .queueAtRest q], Completes c s fun t => t = s) ∧
    (∀ g r p, x.segs = g :: r → x.plan = some p → s.segOver q = true → g.homing = false →
      let blends := p.blend.getD (blendOk x.segs) && blendOk x.segs && s.health.supLost.isNone
      let ends := fun (t : State) (oc : Nat) => (t.queue q).segs = r ∧ (t.queue q).plan = none ∧ (t.queue q).halting = false ∧
        (t.queue q).lastOutcome = oc ∧ (t.queue q).lastSegId = g.segId ∧ (t.queue q).endedTick = some s.tick.no ∧
        ((oc ≠ ocComplete ∨ g.notify = true) → Records s t evSegEnd q [g.segId.toNat, oc]) ∧
        (r = [] → ∀ a, (t.axis a).bound ≠ some q) ∧
        (r ≠ [] → g.axes.Nodup → ∀ k a, g.axes[k]? = some a → (t.axis a).lp.hold = (p.axisRef g k x.tau).1) ∧
        (∀ k : Word, k ≠ q → t.queue k = s.queue k) ∧ { t with axes := s.axes, queues := s.queues, recd := s.recd } = s
      (x.halting = false → blends = false → Completes (.segEnd q) s fun t => ends t ocComplete) ∧
      (x.halting = false → blends = true → Completes (.segEnd q) s fun t =>
        (g.notify = true → Records s t evSegEnd q [g.segId.toNat, ocComplete]) ∧
        (∀ g2 l, r = g2 :: l → g.axes.Nodup →
          let starts := (upTo g.axes.length).map fun k => (p.axisRef g k x.tau).1
          let p2 := s.planSeg g2 starts (p.tau0 + p.tEnd)
          s.segValid g2 starts = true → p2.dist ≠ 0 → p2.over x.tau = false →
            (t.queue q).segs = r ∧ (t.queue q).plan = some p2)) ∧
      (x.halting = true → Completes (.queueAtRest q) s fun t => ends t ocHalted))

/-- R113, R114, R115: the waiting requests are taken in arrival order; one whose domains hold its cost, and which no earlier request
of a shared domain precedes, is paid and released; one that has waited longer than START_DEFER_LIMIT is dropped as DEFERRED. None
acts after a supervisor loss, and no command's during a takeover (R429, R470). -/
def Obligations.SupplyServesInArrivalOrder : Prop :=
  ∀ (s : State) (r r2 : SupReq),
    ((∀ y ∈ s.supply.reqs, s.waitedTooLong y = false ∧ canPay s.supply.levels [] y.costs = false) →
      Completes .supplyRelease s fun t => t = s) ∧
    (s.supply.reqs = [r, r2] → s.waitedTooLong r = false → s.waitedTooLong r2 = false →
      canPay s.supply.levels [] r.costs = false → (∃ d c c2, (d, c) ∈ r.costs ∧ (d, c2) ∈ r2.costs) →
      Completes .supplyRelease s fun t => t = s) ∧
    ((∀ y ∈ s.supply.reqs, s.heldBack y = true) → ∀ c ∈ [Instr.supplyRelease, .startDeferred], Completes c s fun t => t = s) ∧
    (∀ h n, s.supply.reqs = [r] → s.heldBack r = false → r.kind = .wake h n → s.waitedTooLong r = false → canPay s.supply.levels [] r.costs = true →
      Completes .supplyRelease s fun t => t.supply = { levels := payAll s.supply.levels r.costs, reqs := [] } ∧
        t.node n = { s.node n with wake := true } ∧ Answered s t h stOk ∧
        { t with supply := s.supply, selide := s.selide, host := s.host } = s) ∧
    (∀ h axes, s.supply.reqs = [r] → s.heldBack r = false → r.kind = .enable h axes → s.waitedTooLong r = false →
      canPay s.supply.levels [] r.costs = true → (∀ a ∈ axes, s.enableCheck a = stOk) → (∃ a ∈ axes, (s.axis a).psEn = false) →
      Completes .supplyRelease s fun t => t.supply = { levels := payAll s.supply.levels r.costs, reqs := [] } ∧
        (∀ a ∈ axes, (t.axis a).psEn = true) ∧ Answered s t h stOk ∧
        { t with supply := s.supply, axes := s.axes, host := s.host } = s) ∧
    ((∀ y ∈ s.supply.reqs, s.waitedTooLong y = false) → Completes .startDeferred s fun t => t = s) ∧
    (∀ h axes d c l, s.supply.reqs = [r] → s.heldBack r = false → r.kind = .enable h axes → s.waitedTooLong r = true → r.costs = (d, c) :: l →
      tblGet 0 s.supply.levels d < c * 65536 → Completes .startDeferred s fun t =>
        t.supply = { s.supply with reqs := [] } ∧ Answered s t h stDeferred ∧
        Records s t evStartDeferred s.devRef [1, h.obj.toNat, d, (s.tick.no - r.joined) * s.P / 1000000] ∧
        { t with supply := s.supply, recd := s.recd, host := s.host } = s) ∧
    (∀ q g l, s.supply.reqs = [r] → s.heldBack r = false → r.kind = .start q → (s.queue q).segs = g :: l → g.homing = false →
      s.waitedTooLong r = true → Completes .startDeferred s fun t => (t.queue q).segs = [] ∧ t.supply.reqs = [] ∧
        t.supply.levels = s.supply.levels ∧ RecordsWithin 1 s t evSegEnd q [g.segId.toNat, ocDeferred])

/-- R80 to R83, R444: an axis due to close does so on its reference, or on its measured position when that lies too far off, with
REF_RESET; an OPENLOOP axis whose node retains its address resumes on its reference; a load-holding axis closes through a soft start, which ends at its target or in STO and FAULT; the power stage of a braked
axis goes after BRAKE_DELAY; an alignment judges its second move. -/
def Obligations.LoopsCloseAndAlign : Prop :=
  ∀ (s : State) (a : Nat),
    let x := s.axis a
    let meas := x.fb.posNew
    let others := fun (t : State) => ∀ b, b ≠ a → t.axis b = s.axis b
    (s.closeDue a = false → Completes (.loopClose a) s fun t => t = s) ∧
    (s.closeDue a = true → s.holding a = false → Completes (.loopClose a) s fun t =>
      let far := x.lp.hadRef = true ∧ ¬(s.openLoop a = true ∧ s.nodeRetains a = true) ∧
        s.pU 0x1006 a < (x.lp.posRef - meas).natAbs
      let ref := if x.lp.hadRef = true ∧ ¬far then x.lp.posRef else meas
      (t.axis a).closed = true ∧ (t.axis a).softStart = x.softStart ∧ (t.axis a).lp.posRef = ref ∧ (t.axis a).lp.hold = ref ∧
      (t.axis a).lp.posFb = x.lp.posFb ∧ (t.axis a).lp.vRef = 0 ∧ (t.axis a).lp.aRef = 0 ∧ (t.axis a).lp.lims = {} ∧
      (t.axis a).lp.d = 0 ∧ (t.axis a).lp.uPid = 0 ∧ (t.axis a).brakeRel = x.brakeRel ∧ (t.axis a).home = x.home ∧
      (far → Records s t evRefReset (mkRef clsAxis a) (arg64 (x.lp.posRef - meas))) ∧ (¬far → t.recd = s.recd) ∧
      others t ∧ { t with axes := s.axes, recd := s.recd } = s) ∧
    (s.closeDue a = true → s.holding a = true → Completes (.loopClose a) s fun t =>
      (t.axis a).closed = true ∧ (t.axis a).softStart = true ∧ (t.axis a).brakeRel = true ∧ (t.axis a).softT0 = s.tick.no ∧
      (t.axis a).softTarget = x.refBrake.getD meas ∧ (t.axis a).lp.posRef = meas ∧
      (t.axis a).lp.uPid = tq (x.uHold.getD (s.pI 0x1020 a)) ∧
      (s.closePos a = meas → (t.axis a).lp.iPid = tq (x.uHold.getD (s.pI 0x1020 a))) ∧
      others t ∧ { t with axes := s.axes } = s) ∧
    (let ns := (s.tick.no - x.softT0) * s.P
     let arrived := x.softStart = true ∧ x.softRamp = true ∧ x.lp.posRef = x.softTarget
     (x.softStart = true → s.pU 0x1021 a * 1000000 ≤ ns → Completes (.softStartRamp a) s fun t =>
       t.axis a = { x with softRamp := true } ∧ others t ∧ { t with axes := s.axes } = s) ∧
     ((x.softStart = false ∨ ns < s.pU 0x1021 a * 1000000) → Completes (.softStartRamp a) s fun t => t = s) ∧
     (arrived → Completes (.softStartDone a) s fun t => (t.axis a).softStart = false ∧ (t.axis a).softRamp = false ∧
       (t.axis a).lp = { x.lp with hold := x.lp.posRef, pProf := x.lp.posRef, vRef := 0, aRef := 0 } ∧
       others t ∧ { t with axes := s.axes } = s) ∧
     (¬arrived → Completes (.softStartDone a) s fun t => t = s) ∧
     (x.softStart = true → ¬arrived → s.pU 0x1022 a * 1000000 ≤ ns → Completes (.softStartFail a) s fun t =>
       (t.axisSto a).on = true ∧ (t.axis a).fault = true ∧
       ((s.axisSto a).on = false → (t.axis a).psEn = false ∧ (t.axis a).closed = false ∧ (t.axis a).brakeRel = false) ∧
       ((s.axisSto a).on = true ∨ x.bound = none ∧ x.home.run = none →
         Records s t evSoftStartFail (mkRef clsAxis a) (arg64 (x.softTarget - x.lp.posRef))) ∧
       { t with axes := s.axes, queues := s.queues, supply := s.supply, safety := s.safety, recd := s.recd } = s) ∧
     ((x.softStart = false ∨ arrived ∨ ns < s.pU 0x1022 a * 1000000) → Completes (.softStartFail a) s fun t => t = s)) ∧
    ((∀ n, x.psOff = some n → n ≤ s.tick.no → Completes (.brakeDelayDisable a) s fun t => (t.axis a).psEn = false ∧
       (t.axis a).closed = false ∧ (t.axis a).brakeRel = false ∧ (t.axis a).psOff = none ∧ others t ∧ { t with axes := s.axes } = s) ∧
     ((∀ n, x.psOff = some n → s.tick.no < n) → Completes (.brakeDelayDisable a) s fun t => t = s)) ∧
    (x.align = none → Completes (.alignStep a) s fun t => t = s) ∧
    (∀ g, x.align = some g →
      let half := s.pU 0x100D a * 500000
      let on := s.now - g.start
      let pairs := s.pU 0x1009 a
      let step := x.lp.posFb - g.p1
      (g.second = false → half ≤ on → Completes (.alignStep a) s fun t =>
        t.axis a = { x with align := some { g with second := true, p1 := x.lp.posFb } } ∧ others t ∧ { t with axes := s.axes } = s) ∧
      (on < (if g.second then 2 * half else half) → Completes (.alignStep a) s fun t => t = s) ∧
      (g.second = true → 2 * half ≤ on →
        (4 * (4 * pairs * step - 2 ^ 32).natAbs ≤ 2 ^ 32 → Completes (.alignStep a) s fun t =>
          (t.axis a).commValid = true ∧ (t.axis a).align = none ∧ (t.axis a).psEn = false ∧
          t.pU 0x100A a = elecAngle g.p1 pairs ∧ others t ∧ { t with axes := s.axes, par := s.par } = s) ∧
        (2 ^ 32 < 4 * (4 * pairs * step - 2 ^ 32).natAbs → Completes (.alignStep a) s fun t =>
          (t.axis a).commValid = x.commValid ∧ (t.axis a).align = none ∧ (t.axis a).psEn = false ∧
          Records s t evCommAlignFail (mkRef clsAxis a) (arg64 step ++ arg64 (rnd (mkRat (2 ^ 32) (4 * pairs)))) ∧
          others t ∧ { t with axes := s.axes, recd := s.recd } = s)))

/-! ### Homing and index checking (R102 to R110) -/

/-- R102, R103, R105: a stage of a homing run starts once nothing of the run is under way; a search drives its axis along the direction
of Table 4.6, ABSOLUTE drives nothing; an edge of the home switch counts once its level has stayed for HOME_DEBOUNCE, and ends the step
that the axis is in. -/
def Obligations.HomingSearchesFollowTheirSteps : Prop :=
  ∀ (s : State) (a : Nat),
    let x := s.axis a
    let q := mkRef clsAxis a
    let others := fun (t : State) => (∀ b, b ≠ a → t.axis b = s.axis b) ∧ ∀ k : Word, k ≠ q → t.queue k = s.queue k
    (((∀ w ∈ s.homeRoots, s.stageDue w = false) ∨ s.health.supLost.isSome = true) → Completes .homeStageStart s fun t => t = s) ∧
    (∀ r k, s.health.supLost = none → s.homeRoots.filter s.stageDue = [r.root] → s.homeWaiting r.root = [(k, a)] → x.home.run = some r →
      let neg := decide (s.pU 0x3011 a = 1)
      (s.homeMethod a = 4 → Completes .homeStageStart s fun t => t.axis a =
        { x with home := { x.home with state := 0, run := some { r with started := true, stageStart := s.now, dirNeg := neg } } } ∧
        others t ∧ { t with axes := s.axes } = s) ∧
      (s.homeMethod a ≠ 4 → (∀ y, s.axisRec a = some y → 8 ≤ y.supply) → -(2 ^ 62) < x.lp.hold → x.lp.hold < 2 ^ 62 →
        let act := (s.homeInput a).level
        let st := if s.homeMethod a = 2 then 4 else if s.homeMethod a = 3 then 5 else if act then 2 else 1
        let back := if st = 1 then neg != x.home.reversed else if st = 2 then !neg else neg
        Completes .homeStageStart s fun t => (t.axis a).home.state = st ∧ (t.axis a).bound = some q ∧
          (t.axis a).home.run = some { r with started := true, stageStart := s.now, dirNeg := neg, next := none, seenActive := act } ∧
          ((t.queue q).segs.map fun g => (g.axes, g.targets, g.vFix)) =
            [([a], [x.lp.hold + (if back then -(2 ^ 62) else 2 ^ 62)], s.pU (if st ≤ 2 then 0x3013 else 0x3014) a)] ∧
          (t.queue q).plan.isSome = true ∧ others t ∧ { t with axes := s.axes, queues := s.queues } = s)) ∧
    (let i := s.homeInput a
     let n := Nat.max 1 (ticksOf s.P (s.pU 0x3019 a * 1000))
     let frame := fun (t : State) => { t with axes := s.axes, queues := s.queues, supply := s.supply, recd := s.recd } = s
     let ready := i.cand ≠ i.level ∧ n ≤ i.run
     (¬ready → Completes (.homeSwitchEdge a) s fun t => (t.axis a).home.run = x.home.run ∧ (t.axis a).home.state = x.home.state ∧
       (s.pU 0x3012 a ≠ 1 → s.pU 0x3012 a ≠ 2 → (t.axis a).home.swHome = x.home.swHome) ∧ others t ∧ { t with axes := s.axes } = s) ∧
     (ready → (Completes (.homeSwitchEdge a) s fun t =>
         (s.pU 0x3012 a ≠ 1 → s.pU 0x3012 a ≠ 2 → (t.axis a).home.swHome = { x.home.swHome with level := i.cand, run := 0 }) ∧
         (s.pU 0x3012 a = 1 → (t.axis a).home.swPos = { x.home.swPos with level := i.cand, run := 0 }) ∧
         (s.pU 0x3012 a = 2 → (t.axis a).home.swNeg = { x.home.swNeg with level := i.cand, run := 0 }) ∧ frame t) ∧
       ∀ r, x.home.run = some r →
         ((r.next.isSome = true ∨ r.pEv.isSome = true ∨ r.ending = true) → Completes (.homeSwitchEdge a) s fun t =>
           (t.axis a).home.run = some r) ∧
         (r.next = none → r.pEv = none → r.ending = false →
           let goes := fun (r' : HomeRun) (st : Nat) => Completes (.homeSwitchEdge a) s fun t =>
             (t.axis a).home.run = some r' ∧ (t.axis a).home.state = st
           (x.home.state = 1 → x.home.reversed = false → i.cand = true → goes { r with next := some 2 } 1) ∧
           (x.home.state = 1 → x.home.reversed = true → i.cand = true → goes { r with seenActive := true } 1) ∧
           (x.home.state = 1 → x.home.reversed = true → r.seenActive = true → i.cand = false → goes { r with next := some 3 } 1) ∧
           (x.home.state = 2 → i.cand = false → goes { r with next := some 3 } 2) ∧
           (x.home.state = 3 → i.cand = true → s.homeMethod a = 0 → goes { r with pEv := some i.firstPos, evTick := s.tick.no } 3) ∧
           (x.home.state = 3 → i.cand = true → s.homeMethod a = 1 → goes r 4))))

/-- R104 to R109: a run is homed in the tick after its defining event, when the axis's frame moves so that the event lies at HOME_POS;
stall ends a search against a stop; a limit reverses a search once or fails it; chatter and the timeout fail it. -/
def Obligations.HomingRunsEnd : Prop :=
  ∀ (s : State) (a : Nat),
    let x := s.axis a
    let q := mkRef clsAxis a
    let frame := fun (t : State) => { t with axes := s.axes, queues := s.queues, supply := s.supply, recd := s.recd } = s
    let fails := fun (t : State) (ev : Nat) (args : List Nat) => (t.axis a).home.run = none ∧ (t.axis a).home.state = 0 ∧
      (t.axis a).home.homed = false ∧ (t.axis a).home.failed = true ∧
      Records s t ev (mkRef clsAxis a) args ∧ frame t
    let failsLimit := fun (t : State) (args : List Nat) => (t.axis a).home.run = none ∧ (t.axis a).home.state = 0 ∧
      (t.axis a).home.homed = false ∧ (t.axis a).home.failed = true ∧ Records s t evHomeLimit (mkRef clsAxis a) args ∧ frame t
    (x.home.run = none → ∀ c ∈ [Instr.homeDone a, .homeChatter a, .homeStallConfirmed a, .homeTimeout a], Completes c s fun t => t = s) ∧
    (s.limitTrip a = none → Completes (.homeLimit a) s fun t => t = s) ∧
    (∀ r, x.home.run = some r →
      (9 ≤ x.home.rejected → Completes (.homeChatter a) s fun t => fails t evHomeChatter [x.home.rejected]) ∧
      (x.home.rejected < 9 → Completes (.homeChatter a) s fun t => t = s) ∧
      (let late := r.started = true ∧ x.home.homed = false ∧ s.pU 0x301C a * 1000000 < s.now - r.stageStart
       (late → Completes (.homeTimeout a) s fun t => fails t evHomeTimeout [x.home.state]) ∧
       (¬late → Completes (.homeTimeout a) s fun t => t = s)) ∧
      (∀ bit, s.limitTrip a = some bit →
        (r.started = false → Completes (.homeLimit a) s fun t =>
          (t.axis a).home.run = some r ∧ { t with axes := s.axes } = s) ∧
        (r.started = true → (r.pEv.isSome = true ∨ r.ending = true) → Completes (.homeLimit a) s fun t =>
          failsLimit t [bit, if x.home.reversed then 1 else 0]) ∧
        (r.started = true → r.pEv = none → r.ending = false →
          (s.pU 0x3018 a = 1 → x.home.reversed = false → Completes (.homeLimit a) s fun t => (t.axis a).home.reversed = true ∧
            (t.axis a).home.run = some (if s.homeMethod a ≤ 1 then { r with next := some 1 }
              else { r with next := some x.home.state, dirNeg := !r.dirNeg }) ∧ frame t) ∧
          ((s.pU 0x3018 a ≠ 1 ∨ x.home.reversed = true) → Completes (.homeLimit a) s fun t =>
            failsLimit t [bit, if x.home.reversed then 1 else 0]))) ∧
      (s.stallHeld a = false → Completes (.homeStallConfirmed a) s fun t => t = s) ∧
      (s.stallHeld a = true → (∀ y, s.axisRec a = some y → 8 ≤ y.supply) → Completes (.homeStallConfirmed a) s fun t =>
        (t.axis a).home.state = 6 ∧ (t.axis a).home.run = some { r with
          pEv := some x.lp.posFb, evTick := s.tick.no, next := none, seenActive := (s.homeInput a).level } ∧
        { t with axes := s.axes, queues := s.queues, supply := s.supply, recd := s.recd } = s) ∧
      (s.homeDue a = false → Completes (.homeDone a) s fun t => t = s) ∧
      (∀ p, r.pEv = some p → r.evTick < s.tick.no → Completes (.homeDone a) s fun t =>
        let d := s.pI 0x3016 a - (if s.homeMethod a = 4 then x.fb.posOrg else p)
        (t.axis a).home.homed = true ∧ (t.axis a).fb.posOrg = x.fb.posOrg + d ∧ (t.axis a).lp.posRef = satS 64 (x.lp.posRef + d) ∧
        (t.axis a).lp.posFb = satS 64 (x.lp.posFb + d) ∧ (t.axis a).lp.hold = satS 64 (x.lp.hold + d) ∧
        (t.axis a).lp.vRef = x.lp.vRef ∧ (t.axis a).lp.uOut = x.lp.uOut ∧
        ((s.queue q).segs = [] → (t.axis a).home.run = none ∧ (t.axis a).home.state = 0) ∧
        ((s.queue q).segs ≠ [] → (t.axis a).home.run = some { r with pEv := none, ending := true }) ∧
        (∀ b, b ≠ a → t.axis b = s.axis b ∨ ∃ y, (s.axis b).home.run = some y ∧ y.root = r.root ∧ t.axis b =
          { s.axis b with home := { (s.axis b).home with run := some { y with readyTick := some s.tick.no } } }) ∧
        Records s t evHomeDone (mkRef clsAxis a) (s.homeMethod a :: arg64 p) ∧
        { t with axes := s.axes, queues := s.queues, ports := s.ports, sep := s.sep, recd := s.recd } = s))

/-! ### The tick (R36 to R48, R406, R408, R506, R507) -/

/-- R37, R38, R40, R46, R507: a tick edge falls on the next whole multiple of P after the start of the second; its cycle number is the
one before it plus 1, and comes from the device time at the first tick and at the first Selide tick; then the steps of Table 2.3 act in
their order, 2 to 4 at a planning boundary. While the supervisor is suspended or lost no command takes effect (R429, R470). -/
def Obligations.TickEdgesActInOrder : Prop :=
  ∀ (s : State),
    (s.ticking = false → ∀ c ∈ [Instr.tickEdge, .firstSelideTick], Completes c s fun t => t = s) ∧
    (s.firstSelideDue = false → Completes .firstSelideTick s fun t => t = s) ∧
    (s.ticking = true →
      let first := s.firstSelideDue
      let period := if first then s.ratePeriod else s.P
      let dt := period - s.time.ns % period
      let ns := s.time.ns + dt
      let taiNs := (s.time.sec + ns / 1000000000) * 1000000000 + ns % 1000000000
      let edge := fun (u : State) =>
        u.time.sec = s.time.sec + ns / 1000000000 ∧ u.time.ns = ns % 1000000000 ∧ u.tick.t0Ns = s.tick.t0Ns + dt ∧
        u.tick.no = s.tick.no + 1 ∧ u.tick.selide = (first || s.tick.selide) ∧
        u.tick.cycle = (if first ∨ s.tick.no = 0 then BitVec.ofNat 32 (taiNs / period) else s.tick.cycle + 1) ∧
        u.tick.cutoff = false ∧ u.tick.intakeDone = false ∧ u.tick.latched = false ∧ u.tick.downDone = false ∧
        u.tick.tickOut = (if u.tick.selide = false ∨ (s.strap 60).unstrapped = true then 0
          else if u.tick.cycle.toNat % 32 = 0 then 2000 else 1000) ∧
        { u with time := s.time, tick := s.tick, host := s.answerReads.host } = { s with host := s.answerReads.host }
      let checked := fun (x : State) => if x.boundary then x.checkpoint else x
      let configured := fun (w v : State) => if v.par.vals = w.par.vals then v else v.cfgWrite (upTo 64) fun x => x.lane.isSome
      let sent := fun (x : State) => x.ppsTick.sendCycleStarts.memberSends
      let ordered := fun (w t : State) =>
        (w.noEffects = false → let v := configured w (if w.step1.boundary then w.step1.step2 else w.step1)
          t = sent (checked (if v.boundary then v.step3.step4 else v).step5.step6)) ∧
        (w.noEffects = true → t = sent (checked (if w.boundary then w.step4 else w).step5))
      (first = false → Completes .tickEdge s fun t => ∃ u, edge u ∧ ordered u.edgeWork t) ∧
      (first = true → ∀ c ∈ [Instr.tickEdge, .firstSelideTick], Completes c s fun t => ∃ u, edge u ∧ ordered u.selideBegins.edgeWork t))

/-- R47, R48, R59: at 22,000 ns the latch captures what each lane has written, and lays an extrapolated address, reference and velocity
in its place for an axis whose lane has not, as if its first pass had not run; OVERRUN counts those that were due, and those of a
lost lane that its move has not yet reached (R466). -/
def Obligations.TheDeadlineLatchSubstitutes : Prop :=
  ∀ (s : State),
    ((s.tick.running = false ∨ s.tick.latched = true) → Completes .deadlineLatch s fun t => t = s) ∧
    (s.tick.running = true → s.tick.latched = false →
      (Completes .deadlineLatch s fun t => t.tick = { s.tick with latched := true } ∧
        { t with tick := s.tick, axes := s.axes, cmps := s.cmps, lanes := s.lanes, recd := s.recd
                 sep := { t.sep with latchV := s.sep.latchV } } = s) ∧
      (∀ l slot a, l < 17 → ((s.logLane l).held.filter fun e => e.2 = a) = [(slot, a)] →
        (∀ k, k < 17 → k ≠ l → ∀ e ∈ (s.logLane k).held, e.2 ≠ a) → s.axisAbsent a = false →
        let x := (s.axis a).lp
        (s.captures l slot = true → Completes .deadlineLatch s fun t =>
          (t.axis a).lp = { x with
            addr := x.addrW, ampl := x.amplW, extrap := false, overrun := false, addrPrev2 := x.addrPrev, addrPrev := x.addrW
            posRefPrev2 := x.posRefPrev, posRefPrev := x.posRef, vRefPrev := x.vRef, pass1Done := false
            last := s.tick.cycle }) ∧
        (s.captures l slot = false → Completes .deadlineLatch s fun t =>
          let y := (t.axis a).lp
          let z := (s.axis a).bak.elim x x.undo
          let step := (BitVec.ofInt 16 ((z.addrPrev : Int) - z.addrPrev2)).toInt
          (y.addr : Int) = ((z.addrPrev : Int) + step) % 65536 ∧ y.ampl = z.ampl ∧
          y.posRef = satS 64 (z.posRefPrev + rnd ((z.vRefPrev : Rat) * kT s.P)) ∧ y.vRef = z.vRefPrev ∧ y.extrap = true ∧ y.win = 15 ∧
          y.posFb = z.posFb ∧ y.iPid = z.iPid ∧ y.overrun = ((s.slotsDue l ++ laneNos.flatMap s.lostDue).map fun e => e.2).contains a ∧
          y.addrPrev = y.addr ∧ y.addrPrev2 = z.addrPrev ∧ y.posRefPrev = y.posRef ∧ y.vRefPrev = y.vRef)) ∧
      (∀ l, l < 17 → (∀ k, k ≠ l → (s.logLane k).held = [] ∧ s.lostDue k = []) →
        let late := (s.logLane l).held.filter fun e => !s.axisAbsent e.2 && ((s.slotsDue l).map fun e => e.2).contains e.2 &&
          !s.captures l e.1
        let n := late.length + (s.lostDue l).length
        (n ≠ 0 → Completes .deadlineLatch s fun t => Records s t evOverrun s.devRef [l, n, (s.logLane l).finish] ∧
          (late ≠ [] → s.served l = true → s.inTakeover l = false → s.tick.no ∈ (t.logLane l).overruns)) ∧
        (n = 0 → Completes .deadlineLatch s fun t => t.recd = s.recd ∧ (t.logLane l).overruns = (s.logLane l).overruns)))

/-- R45, R154, R266, R275, R406, R408: at the cut-off the reads of the tick are answered and the status blocks stand; the intake takes
the tick's words and marks a node without a valid frame stale; a telemetry record closes its interval; a late background task is
recorded. -/
def Obligations.IntakeCutoffAndTelemetry : Prop :=
  ∀ (s : State) (r : TelemetryIn) (b : BgTask) (n : Nat), cellsWf s.host.window = true →
    ((s.ticking = false ∨ s.tick.cutoff = true) → Completes .shadowCutoff s fun t => t = s) ∧
    (s.ticking = true → s.tick.cutoff = false → Completes .shadowCutoff s fun t => t.tick = { s.tick with cutoff := true } ∧
      t.host.reads = [] ∧ (∀ a ∈ s.axisList, a / 512 = s.dev → t.winRead (0x9000 + 32 * (a % 512)) 32 = s.axisEntry a) ∧
      (∀ k, k < 512 → (∀ a ∈ s.axisList, a % 512 ≠ k) → t.winRead (0x9000 + 32 * k) 32 = List.replicate 32 0) ∧
      (∀ p, { t.pair p with ext := (s.pair p).ext } = s.pair p) ∧
      { t with tick := s.tick, host := s.host, lanes := { t.lanes with pairs := s.lanes.pairs }, free := s.free } = s) ∧
    ((s.tick.selide = false ∨ s.tick.intakeDone = true) → Completes .intake s fun t => t = s) ∧
    (s.tick.selide = true → s.tick.intakeDone = false → Completes .intake s fun t => t.tick = { s.tick with intakeDone := true } ∧
      (∀ k, (s.selide.nodes.filter fun e => e.1 = k).length = 1 → (s.node k).present = true → (s.node k).activeFrom ≤ s.tick.no →
        ((s.node k).buf = none → (t.node k).stale = true ∧ (t.node k).staleCause = if (s.node k).nullFrame then 2 else 1) ∧
        ((s.node k).buf ≠ none → (t.node k).stale = !((s.node k).subM.valid && (s.node k).subW.valid))) ∧
      (∀ p, p < 16 → s.portMode p ≠ pmOff → s.portMode p ≠ pmOchre → s.portAxes p = [] →
        (if s.ssiAged p then (s.port p).heldBegun else (s.port p).begun) = true →
        (t.port p).latch = none ∧ (t.port p).stale = (s.portCount p).isNone ∧ (t.port p).count = (s.port p).count) ∧
      { t with tick := s.tick, host := s.host, axes := s.axes, queues := s.queues, supply := s.supply, ports := s.ports, sep := s.sep
               safety := s.safety, selide := s.selide, lanes := s.lanes, recd := s.recd, health := s.health, free := s.free } = s) ∧
    (s.fwAlive = false → Completes (.telemetryWrite r) s fun t => t = s) ∧
    (s.fwAlive = true → s.host.suspended = true → Completes (.telemetryWrite r) s fun t =>
      t = { s with host := { s.host with telemDue := some r } }) ∧
    (s.fwAlive = true → s.host.suspended = false → Completes (.telemetryWrite r) s fun t =>
      t.host.telemSeq = s.host.telemSeq + 1 ∧ t.winRead 0x100 40 = t.telemetryBytes r ∧ t.host.irqStatus.getLsbD 6 = true ∧
      t.tick = { s.tick with
        finishPub := s.tick.finishMax, slackPub := s.tick.slackMin.getD s.P, finishMax := 0, slackMin := none } ∧
      t.sep.publishPub = s.sep.publishMax ∧ t.sep.publishMax = 0 ∧ t.host.tempMax = BitVec.ofInt 16 r.tempNow ∧
      (∀ off, off < 0x100 ∨ 0x128 ≤ off → cellRead t.host.window off = cellRead s.host.window off) ∧
      { t with host := s.host, tick := s.tick, sep := { t.sep with publishPub := s.sep.publishPub, publishMax := s.sep.publishMax }
               health := s.health } = s) ∧
    (Completes (.backgroundLate b n) s fun t => Records s t evBackgroundLate s.devRef [taskCode b, n] ∧
      t.health.lateTasks = (taskCode b, n) :: s.health.lateTasks.filter (fun p => p.1 ≠ taskCode b) ∧
      { t with recd := s.recd, health := { t.health with lateTasks := s.health.lateTasks } } = s)

/-! ### Passes of a lane (R41, R49 to R53, R58, R66, R136, R318, R326, R327) -/

/-- R41, R59, R318, R327: a PASS event runs pass 1 after the intake and pass 2 after pass 1, once each, on the axes that the lane
computes in the tick, pass 2 when each engine has published or is late; a pass that ends beyond the latch has done its first
`slots` axes only. DEADLINE abandons pass 2, SLACK and the
other events are taken by the pair, and a kernel beyond its budget is abandoned with the user stages of the slots behind it. -/
def Obligations.LanePassesRunOncePerTick : Prop :=
  ∀ (s : State) (l : Fin 17) (n finish : Nat),
    let x := s.logLane l.val
    let settled := ∀ e, (s.eng e).published = true ∨ (s.eng e).late = true ∨ s.islandAlive e = false
    let slack := 12000 + (s.P - finish)
    let passes := [Instr.laneEventPass l 0 n finish, .laneEventPass l 1 n finish]
    let takes := fun (t : State) (p prio : Nat) =>
      let y := s.pair p
      ∃ e r, sortNat (dedup (prio :: y.events)) = e :: r ∧ t.pair p =
        if y.regs.waiting = true ∨ y.regs.unheld = true then { y with events := r, regs := y.regs.vector e }
        else { y with events := e :: r }
    (s.pairOf l.val = none → ∀ c ∈ .laneEventDeadline l :: .laneEventSlack l :: passes, Completes c s fun t => t = s) ∧
    (∀ p, s.pairOf l.val = some p →
      ((s.inTakeover l.val = true ∨ s.tick.latched = true) → ∀ c ∈ passes, Completes c s fun t => t = s) ∧
      (s.inTakeover l.val = false → s.tick.latched = false →
        let done := if finish ≤ 22000 then s.slotsNow l.val else (s.slotsNow l.val).take n
        ((s.tick.intakeDone = false ∨ x.pass1 = true) → Completes (.laneEventPass l 0 n finish) s fun t => t = s) ∧
        (s.tick.intakeDone = true → x.pass1 = false → Completes (.laneEventPass l 0 n finish) s fun t =>
          (t.logLane l.val).pass1 = true ∧
          (∀ e ∈ done, (t.axis e.2).lp.pass1Done = true ∧ (t.axis e.2).lp.posFb = (s.axis e.2).fb.posNew ∧
            (t.axis e.2).lp.halfRate = s.axisHalf e.2 ∧ (t.axis e.2).fb = (s.axis e.2).fb ∧
            ((s.axis e.2).closed = false → (t.axis e.2).lp.vRef = 0 ∧ (t.axis e.2).lp.posRef = (s.axis e.2).lp.posRef)) ∧
          (∀ a, (∀ e ∈ done, e.2 ≠ a) → t.axis a = s.axis a) ∧ takes t p 3 ∧ (∀ q, q ≠ p → t.pair q = s.pair q) ∧
          { t with axes := s.axes, safety := s.safety, recd := s.recd
                   lanes := { t.lanes with pairs := s.lanes.pairs, log := s.lanes.log } } = s) ∧
        ((x.pass1 = false ∨ x.pass2 = true ∨ ¬settled) → Completes (.laneEventPass l 1 n finish) s fun t => t = s) ∧
        (x.pass1 = true → x.pass2 = false → settled → Completes (.laneEventPass l 1 n finish) s fun t =>
          (t.logLane l.val).pass2 = true ∧ (t.logLane l.val).finish = finish ∧
          t.tick = { s.tick with
            finishMax := max s.tick.finishMax finish
            slackMin := some (match s.tick.slackMin with
              | some v => min v slack
              | none => slack) } ∧
          (let ready := done.filter fun e => (s.axis e.2).lp.pass1Done
           let finished := fun (e : Nat × Nat) => cellRead (t.pair p).xMem (doneAddr e.1) = s.doneWord
           (s.lanes.kernel = none → ∀ e ∈ ready, finished e) ∧ (∀ k e, ready = k ++ [e] → finished e) ∧
           ∀ e ∈ ready, (s.axis e.2).closed = false → (s.axis e.2).align = none →
             (t.axis e.2).lp.addrW = (s.axis e.2).lp.addr ∧ (t.axis e.2).lp.amplW = 0 ∧ (t.axis e.2).lp.uOut = 0 ∧
             (t.axis e.2).lp.win = 14) ∧
          (∀ a, (∀ e ∈ done, e.2 = a → (s.axis a).lp.pass1Done = false) → t.axis a = s.axis a) ∧
          { t with host := s.host, tick := s.tick, axes := s.axes, cmps := s.cmps, lanes := s.lanes, recd := s.recd } = s)) ∧
      (Completes (.laneEventDeadline l) s fun t => (t.logLane l.val).pass2 = true ∧ (t.logLane l.val).finish = x.finish ∧ takes t p 1 ∧
        { t with lanes := { t.lanes with pairs := s.lanes.pairs, log := s.lanes.log } } = s) ∧
      (s.laneSlack l.val = true → Completes (.laneEventSlack l) s fun t => takes t p 4 ∧ (∀ q, q ≠ p → t.pair q = s.pair q) ∧
        { t with lanes := { t.lanes with pairs := s.lanes.pairs } } = s) ∧
      (s.laneSlack l.val = false → Completes (.laneEventSlack l) s fun t => t = s) ∧
      (∀ a k, s.laneOf a = some (l.val, k) →
        (s.userEntry l.val k a p = none → Completes (.userBudget a n) s fun t => t = s) ∧
        (∀ e, s.userEntry l.val k a p = some e → Completes (.userBudget a n) s fun t =>
          (t.logLane l.val).skipFrom = some (x.skipFrom.elim k (min k)) ∧ (t.logLane l.val).abandon = some a ∧ (t.axis a).lp.uUser = (s.axis a).lp.uSat ∧
          Records s t evUserBudget (mkRef clsAxis a) [l.val, n] ∧ takes t p 2 ∧
          (let aborts := (true :: tblGet [] s.lanes.aborts a).take 32
           tblGet [] t.lanes.aborts a = aborts ∧
           (s.pU 0x0041 s.dev ≤ (aborts.filter id).length → a ∈ t.lanes.disabled ∧
             (a ∉ s.lanes.disabled → (t.axis a).userDisabled = true ∧
               RecordsWithin 1 s t evUserDisabled (mkRef clsAxis a) [2])) ∧
           ((aborts.filter id).length < s.pU 0x0041 s.dev → t.lanes.disabled = s.lanes.disabled)) ∧
          { t with axes := s.axes, lanes := s.lanes, recd := s.recd } = s)))

/-- R66, R136: the third computation in a row with the positions apart, or the third invalid sample in a row, is a feedback fault:
FAULT, HOMED cleared, COMM_VALID cleared on an incremental source, SS1 from the next tick, and a record.
R110, R136: each index of a homed axis is held against the first one, less the corrections made since; a small deviation is corrected in the next tick, a larger one
counts, and the third in a row is a feedback fault: FAULT, HOMED cleared, SS1. -/
def Obligations.FeedbackAndIndexFaults : Prop :=
  (
  ∀ (s : State) (a : Nat),
    let x := s.axis a
    let faults := fun (t : State) (ev : Nat) (args : List Nat) =>
      (t.axis a).fault = true ∧ (t.axis a).home = { x.home with homed := false } ∧
      (t.axis a).commValid = (x.commValid && s.sourceAbsolute a) ∧
      (∃ r, t.safety.reqs = s.safety.reqs ++ [r] ∧ r.axes = s.armAxes a ∧ r.t0 = s.tick.no + 1 ∧ r.begun = false) ∧
      RecordsWithin 1 s t ev (mkRef clsAxis a) args ∧ (∀ b, b ≠ a → t.axis b = s.axis b) ∧
      { t with axes := s.axes, recd := s.recd
               safety := { t.safety with reqs := s.safety.reqs, nextReq := s.safety.nextReq } } = s
    (x.lp.plausRun = 3 → Completes (.plausFault a) s fun t => (t.axis a).lp.plausRun = 4 ∧
      faults t evPlausFault [argI (satS 32 (s.loadPos a - x.lp.posFb))]) ∧
    (x.lp.plausRun ≠ 3 → Completes (.plausFault a) s fun t => t = s) ∧
    (3 ≤ x.fb.consec → x.fb.faulted = false → Completes (.encFault a) s fun t =>
      (t.axis a).fb = { x.fb with faulted := true, fault := true } ∧
      faults t evEncFault [1]) ∧
    ((x.fb.consec < 3 ∨ x.fb.faulted = true) → Completes (.encFault a) s fun t => t = s)) ∧
  (
  ∀ (s : State) (a : Nat),
    let x := s.axis a
    let others := fun (t : State) => ∀ b, b ≠ a → t.axis b = s.axis b
    ((x.fb.idx = none ∨ s.pU 0x3022 a ≠ 1 ∨ x.home.homed = false) → Completes (.indexCheck a) s fun t => t = s) ∧
    (∀ c, x.fb.idx = some c → s.pU 0x3022 a = 1 → x.home.homed = true →
      let fb := { x.fb with idx := none }
      (x.home.cH = none → Completes (.indexCheck a) s fun t => t.axis a = { x with fb := fb } ∧ others t ∧
        { t with axes := s.axes } = s) ∧
      (∀ cH, x.home.cH = some cH →
        let per : Int := Nat.max 1 (if s.pU 0x3021 a = 0 then s.pU 0x4030 a else s.pU 0x3021 a)
        let m := (c + x.home.idxCorr - cH) % per
        let dev := if per < 2 * m then m - per else m
        (dev.natAbs ≤ s.pU 0x3020 a → Completes (.indexCheck a) s fun t => t.axis a =
          { x with fb := fb, home := { x.home with idxDev := dev, idxMiss := 0, idxShift := -dev } } ∧
          others t ∧ { t with axes := s.axes } = s) ∧
        (s.pU 0x3020 a < dev.natAbs → Completes (.indexCheck a) s fun t =>
          let n := min 3 (x.home.idxMiss + 1)
          t.axis a = { x with fb := fb, home := { x.home with idxDev := dev, idxMiss := n } } ∧
          Records s t evIdxMismatch (mkRef clsAxis a) [argI dev, n] ∧ others t ∧ { t with axes := s.axes, recd := s.recd } = s))) ∧
    ((x.home.homed = false ∨ x.home.idxMiss ≠ 3) → Completes (.idxFault a) s fun t => t = s) ∧
    (x.home.homed = true → x.home.idxMiss = 3 → Completes (.idxFault a) s fun t =>
      (t.axis a).fault = true ∧ (t.axis a).home = { x.home with homed := false } ∧
      (t.axis a).commValid = (x.commValid && s.sourceAbsolute a) ∧
      (∃ r, t.safety.reqs = s.safety.reqs ++ [r] ∧ r.axes = s.armAxes a ∧ r.t0 = s.tick.no + 1 ∧ r.begun = false) ∧
      RecordsWithin 1 s t evIdxFault (mkRef clsAxis a) [argI x.home.idxDev] ∧ others t ∧
      { t with axes := s.axes, recd := s.recd
               safety := { t.safety with reqs := s.safety.reqs, nextReq := s.safety.nextReq } } = s))

/-- R49, R53, R467: the third overrun within 32 ticks puts a lane into degraded half-rate mode from the next tick; a degraded or
64-slot lane whose time is over stops its axes and their arms by SS1.
R332, R333, R334: a working pair that fails enters RECOVER and counts; its lane waits for the reserve, from the first tick whose
12,000 ns lies 8 µs after the failure, 16 µs on a lane of 64 slots, or for its prepared placement; a lane that
the pair was to take back stays lost (R468, R472); a reserve that fails its test fails. -/
def Obligations.LanesDegradeAndFail : Prop :=
  (
  ∀ (s : State) (l : Fin 17),
    let x := s.logLane l.val
    let recent := (x.overruns.filter fun k => decide (s.tick.no < k + 32)).length
    let others := fun (t : State) => ∀ k, k ≠ l.val → t.logLane k = s.logLane k
    let axes := s.laneAxes l.val
    let stops := fun (t : State) (ev : Nat) =>
      (t.logLane l.val) = { x with expiredSs1 := true } ∧ others t ∧
      (∃ r, t.safety.reqs = s.safety.reqs ++ [r] ∧ (∀ a, a ∈ r.axes ↔ a ∈ axes ∨ ∃ b ∈ axes, a ∈ s.armAxes b) ∧
        r.t0 = s.tick.no + 1 ∧ r.begun = false ∧ (∀ a ∈ r.axes, a ∈ t.health.faultStop) ∧
        Records s t ev s.devRef [l.val, r.axes.length]) ∧
      { t with recd := s.recd, lanes := { t.lanes with log := s.lanes.log }, health := { t.health with faultStop := s.health.faultStop }
               safety := { t.safety with reqs := s.safety.reqs, nextReq := s.safety.nextReq } } = s
    let enters := x.degraded = false ∧ x.enterAt = none ∧ s.tick.no ∈ x.overruns ∧ 3 ≤ recent
    (enters → Completes (.laneDegraded l) s fun t => t.logLane l.val = { x with enterAt := some (s.tick.no + 1) } ∧ others t ∧
      Records s t evLaneDegraded s.devRef [l.val, (s.tick.cycle + 1).toNat] ∧
      { t with recd := s.recd, lanes := { t.lanes with log := s.lanes.log } } = s) ∧
    (¬enters → Completes (.laneDegraded l) s fun t => t = s) ∧
    (let gone := x.degraded = true ∧ x.expiredSs1 = false ∧ (s.pU 0x0011 s.dev * 1000000 ≤ s.now - x.degNs ∨ 3 ≤ recent)
     (gone → Completes (.degradedExpired l) s fun t => stops t evDegradedExpired) ∧
     (¬gone → Completes (.degradedExpired l) s fun t => t = s)) ∧
    (let gone := x.wide = true ∧ x.expiredSs1 = false ∧ s.allByChoice l.val = false ∧ s.pU 0xC003 s.dev * 1000000 ≤ s.now - x.degNs
     (gone → Completes (.laneLossExpired l) s fun t => stops t evLaneLossExpired) ∧
     (¬gone → Completes (.laneLossExpired l) s fun t => t = s))) ∧
  (
  ∀ (s : State) (p : Fin 17) (cause : LaneCause) (at' : Nat),
    let x := s.pair p.val
    let failed := fun (t : State) (q : Nat) (lane code : Nat) =>
      let y := t.pair q
      y.state = lpRecover ∧ y.lane = none ∧ y.reserve = false ∧ y.fails = min 255 ((s.pair q).fails + 1) ∧ y.recovering = true ∧
      y.failTick = s.tick.no ∧ y.events = [] ∧ y.xMem = (s.pair q).xMem ∧ y.yMem = (s.pair q).yMem ∧
      (∀ k, k ≠ q → t.pair k = s.pair k) ∧ Records s t evLaneFailed s.devRef [q, lane, code] ∧ t.host.irqStatus.getLsbD 14 = true ∧
      { t with host := s.host, recd := s.recd, lanes := s.lanes, health := s.health } = s
    (x.working = false → Completes (.laneFailed p cause at') s fun t => t = s) ∧
    (x.working = true → (x.reserve = true ∨ x.lane = none) → Completes (.laneFailed p cause at') s fun t =>
      failed t p.val 0xFF (laneCauseCode cause) ∧ t.lanes.log = s.lanes.log ∧ t.lanes.sweeps = s.lanes.sweeps ∧ t.health = s.health) ∧
    (∀ l, x.working = true → x.reserve = false → x.lane = some l → s.health.moving = [] → (s.logLane l).loss.isSome = true →
      Completes (.laneFailed p cause at') s fun t =>
        failed t p.val l (laneCauseCode cause) ∧ t.lanes.log = s.lanes.log ∧ t.lanes.sweeps = s.lanes.sweeps ∧ t.health = s.health) ∧
    (∀ l, x.working = true → x.reserve = false → x.lane = some l → s.health.moving = [] → (s.logLane l).loss = none →
      Completes (.laneFailed p cause at') s fun t =>
      failed t p.val l (laneCauseCode cause) ∧ t.health = s.health ∧ (∀ k, k ≠ l → t.logLane k = s.logLane k) ∧
      ∃ e, t.logLane l = { (s.logLane l).uncount s.tick.no with takeover := some e } ∧ s.tick.no ∉ (t.logLane l).overruns ∧
        e.failed = p.val ∧ e.pair = s.reserve ∧
        e.failNs = s.now + at' ∧ e.prevStart = decide (x.state = lpStart) ∧
        (let due := at' + (if (s.logLane l).wide ∧ s.reserve.isSome then 16000 else 8000)
         s.tick.no ≤ e.firstTick ∧ due ≤ 12000 + (e.firstTick - s.tick.no) * s.P ∧
         (s.tick.no < e.firstTick → 12000 + (e.firstTick - 1 - s.tick.no) * s.P < due))) ∧
    ((s.reserve = none → ∀ b, Completes (.reserveSelfTest b) s fun t => t = s) ∧
     (Completes (.reserveSelfTest true) s fun t => t = s) ∧
     (∀ q, s.reserve = some q → Completes (.reserveSelfTest false) s fun t => failed t q 0xFF 5 ∧ t.lanes.log = s.lanes.log)))

/-! ### Lane pairs (R304, R330, R332 to R336, R465, R466, R468) -/

/-- R334, R335, R336, R465, R466, R468: the reserve takes a failed pair's lane with the memory of Table 10.1; without one the lane is
lost, and its axes take the places prepared, or stop where none were; a pair that has recovered becomes the reserve, or RETIRED after
too many failures; a reserve brings a lost lane back. -/
def Obligations.LanesAreTakenOverLostAndRehomed : Prop :=
  ∀ (s : State) (l : Fin 17) (p : Fin 17) (ok : Bool),
    let x := s.logLane l.val
    let copied := fun (a : Nat) => decide (a < 0x400) || x.held.any fun e =>
      let b := bankAt ((s.axis e.2).lp.last.toNat % 2) e.1
      decide (b ≤ a ∧ a < b + 96)
    let substituted := fun (a : Nat) => ∃ e ∈ x.held, ∃ i, i < 8 ∧ Config.ctlAddr e.1 i % 1024 = a
    let device := if s.power.phase = 3 then lpStart else lpRun
    (x.takeover = none → ∀ c ∈ [Instr.laneTakeover l, .laneLost l], Completes c s fun t => t = s) ∧
    (∀ e q, x.takeover = some e → e.pair = some q →
      (Completes (.laneLost l) s fun t => t = s) ∧
      ((s.tick.no < e.firstTick ∨ (s.pair q).state ≠ lpTest) → Completes (.laneTakeover l) s fun t => t = s) ∧
      (e.firstTick ≤ s.tick.no → (s.pair q).state = lpTest → Completes (.laneTakeover l) s fun t =>
        (t.pair q).state = (if e.prevStart then device else lpRun) ∧ (t.pair q).lane = some l.val ∧ (t.pair q).reserve = false ∧
        (t.logLane l.val).takeover = none ∧ (t.logLane l.val).slots = x.slots ∧
        Records s t evLaneTakeover s.devRef [l.val, e.failed, q, s.tick.cycle.toNat, e.extrapolated] ∧
        t.host.irqStatus.getLsbD 14 = true ∧ (∀ k, k ≠ q → t.pair k = s.pair k) ∧
        (cellsWf (s.pair e.failed).xMem = true → cellsWf (s.pair q).xMem = true → s.lanes.kernel = none →
          (∀ y ∈ x.held, tblGet (0, q, y.1) (t.pair q).ext.cfg y.1 = tblGet (0, e.failed, y.1) (s.pair e.failed).ext.cfg y.1) ∧
          ∀ a, ¬substituted a → cellRead (t.pair q).xMem a = cellRead (if copied a then (s.pair e.failed).xMem else (s.pair q).xMem) a) ∧
        (e.damaged = [] → { t with host := s.host, lanes := s.lanes, recd := s.recd } = s) ∧
        (∀ k r a, e.damaged = [(k, r)] → r ≠ 3 → tblGet none x.slots k = some a → (∀ y ∈ s.safety.reqs, y.begun = true) →
          (t.axis a).closed = (s.axis a).closed ∧ (t.axis a).lp.seen = false ∧
          ((∀ b ∈ s.armAxes a, (s.axis b).bound = none ∧ (s.axis b).home.run = none) →
            RecordsWithin 2 s t evTakeoverStateLost (mkRef clsAxis a) [r]) ∧ ∀ b ∈ s.armAxes a, b ∈ t.health.faultStop))) ∧
    (∀ e, x.takeover = some e → e.pair = none →
      (Completes (.laneTakeover l) s fun t => t = s) ∧
      (Completes (.laneLost l) s fun t => (t.logLane l.val).takeover = none ∧ (t.logLane l.val).degraded = false ∧
        (∃ y, (t.logLane l.val).loss = some y ∧ y.failed = e.failed ∧ y.lostNs = e.failNs ∧ y.firstTick = e.firstTick ∧
          y.host = (if x.plan = [] then none else x.planHost) ∧
          Records s t evLaneLost s.devRef [l.val, e.failed, y.host.getD 0xFF, (y.moves.filter fun m => m.1.full).length]) ∧
        (x.plan = [] → t.safety.reqs.length = s.safety.reqs.length + 1 ∧
          ∀ a ∈ s.laneAxes l.val, ∃ r ∈ t.safety.reqs, a ∈ r.axes ∧ r.begun = false ∧ r.t0 = s.tick.no + 1) ∧
        { t with lanes := s.lanes, recd := s.recd, safety := s.safety, health := s.health } = s) ∧
      (∀ m k k', x.plan = [m] → m.full = true → x.planHost = none → m.lane ≠ l.val → s.laneOf m.axis = some (l.val, k) →
        s.slotFor m = some k' → Completes (.laneLost l) s fun t => tblGet none (t.logLane m.lane).slots k' = some m.axis ∧
          tblGet none (t.logLane l.val).slots k = none ∧ t.safety = s.safety)) ∧
    ((s.pair p.val).state ≠ lpRecover → Completes (.laneRecovered p ok) s fun t => t = s) ∧
    ((s.pair p.val).state = lpRecover →
      let back := fun (t : State) => t.host.irqStatus.getLsbD 14 = true ∧ (t.pair p.val).recovering = false ∧
        (∀ k, k ≠ p.val → t.pair k = s.pair k) ∧
        { t with host := s.host, recd := s.recd, lanes := { t.lanes with pairs := s.lanes.pairs } } = s
      ((s.pair p.val).fails < s.pU 0x0040 s.dev → Completes (.laneRecovered p true) s fun t => back t ∧
        (t.pair p.val).state = lpTest ∧ (t.pair p.val).lane = none ∧
        ((t.pair p.val).reserve = true ↔ ∀ k, k < 17 → k ≠ p.val → (s.pair k).reserve = false) ∧ (t.pair p.val).regs = { mode := modeFor 0x5 lpTest } ∧
        (s.lanes.kernel = none → (t.pair p.val).pMem = [] ∧ (t.pair p.val).xMem = [] ∧ (t.pair p.val).yMem = []) ∧
        Records s t evLaneRecovered s.devRef [p.val]) ∧
      (ok = false ∨ s.pU 0x0040 s.dev ≤ (s.pair p.val).fails → Completes (.laneRecovered p ok) s fun t => back t ∧
        (t.pair p.val).state = lpRetired ∧ Records s t evLaneRetired s.devRef [p.val, (s.pair p.val).fails])) ∧
    ((x.loss = none ∨ s.reserve = none ∨ s.boundary = false ∨ s.tick.intakeDone = true) →
      Completes (.laneRehomed l) s fun t => t = s) ∧
    (∀ y q, x.loss = some y → s.reserve = some q → s.boundary = true → s.tick.intakeDone = false →
      (Completes (.laneRehomed l) s fun t => (t.pair q).state = device ∧ (t.pair q).lane = some l.val ∧ (t.pair q).reserve = false ∧
        { t with lanes := s.lanes, recd := s.recd, health := s.health } = s) ∧
      (y.moves = [] → s.pairOf l.val = none → s.health.moving = [] → Completes (.laneRehomed l) s fun t =>
        (t.logLane l.val).loss = none ∧ Records s t evLaneRehomed s.devRef [l.val, q]) ∧
      (∀ m k l2 k2, y.moves = [(m, k)] → s.laneOf m.axis = some (l2, k2) → Completes (.laneRehomed l) s fun t =>
        let e : Moving := { host := none, axis := m.axis, fromLane := l2, fromSlot := k2, toLane := l.val, toSlot := k, why := 2 }
        t.health.moving = s.health.moving ++ [e] ∧ tblGet none (t.logLane l.val).slots k = some m.axis ∧ (t.logLane l.val).loss = some y))

/-! ### Supervisor, memory, margins (R406, R428 to R430, R470, R478 to R486, R495, R521, R524) -/

/-- R428 to R430, R470: on a mismatch the standby takes over, with the rings suspended meanwhile; without one the supervisor is lost:
the rings stay suspended, PHASE is FAILED, no event is recorded, and every zone stops by SS1 100 ms later. -/
def Obligations.SupervisorTakesOverOrIsLost : Prop :=
  ∀ (s : State) (c : SupLossCause) (n : Nat) (a b : Bool),
    let lost := fun (t : State) => t.host.suspended = true ∧ t.health.supLost = some s.now ∧ t.power.phase = 5 ∧ t.recd = s.recd ∧
      t.solver.vplanOk = false ∧
      { t with host := { t.host with suspended := s.host.suspended }, health := { t.health with supLost := s.health.supLost }
               solver := { t.solver with vplanOk := s.solver.vplanOk }, power := { t.power with phase := s.power.phase } } = s
    let standby := s.host.standby = true ∧ s.host.supSingle = false ∧ s.host.suspended = false
    (s.fwAlive = false → ∀ i ∈ [Instr.supervisorLockstepMismatch, .supervisorLoss c], Completes i s fun t => t = s) ∧
    (s.fwAlive = true →
      (standby → Completes .supervisorLockstepMismatch s fun t => t.host.suspended = true ∧ t.host.takeoverCycle = s.tick.cycle ∧
        t.solver.vplanOk = (s.solver.vplanOk && (!s.boundary || s.tick.latched)) ∧
        { t with host := { t.host with suspended := s.host.suspended, takeoverCycle := s.host.takeoverCycle }
                 solver := { t.solver with vplanOk := s.solver.vplanOk } } = s) ∧
      (¬standby → Completes .supervisorLockstepMismatch s lost ∧ Completes (.supervisorLoss .mismatchNoStandby) s lost) ∧
      (s.host.supSingle = true → Completes (.supervisorLoss .unprotectedFault) s lost) ∧
      (s.host.supSingle = false → Completes (.supervisorLoss .unprotectedFault) s fun t => t = s) ∧
      (2 ≤ s.host.hbAge → Completes (.supervisorLoss .heartbeatStall) s lost) ∧
      (s.host.hbAge < 2 → Completes (.supervisorLoss .heartbeatStall) s fun t => t = s)) ∧
    (s.host.suspended = true → s.health.supLost = none → cellsWf s.host.window = true → Completes (.supervisorTakeover n) s fun t =>
      t.host.suspended = false ∧ t.host.standby = false ∧ t.host.supSingle = true ∧ t.host.takeovers = s.host.takeovers + 1 ∧
      t.host.inflight = s.host.inflight ∧ t.host.rings = s.host.rings ∧ t.host.journal = s.host.journal ∧
      Records s t evSupervisorTakeover s.devRef [s.host.takeoverCycle.toNat, s.host.journal.length, n] ∧
      t.host.irqStatus.getLsbD 8 = true ∧ t.host.telemDue = none ∧ t.chk = s.chk ∧
      (s.host.telemDue = none → { t with host := s.host, recd := s.recd } = s) ∧
      (∀ r, s.host.telemDue = some r → t.host.telemSeq = s.host.telemSeq + 1 ∧ t.winRead 0x100 40 = t.telemetryBytes r ∧
        { t with host := s.host, recd := s.recd, tick := s.tick, health := s.health
                 sep := { t.sep with publishPub := s.sep.publishPub, publishMax := s.sep.publishMax } } = s)) ∧
    ((s.host.suspended = false ∨ s.health.supLost.isSome = true) → Completes (.supervisorTakeover n) s fun t => t = s) ∧
    (s.host.supSingle = true → s.host.suspended = false →
      ((a || b) = true → Completes (.supervisorRebuild a b) s fun t => t.host.supSingle = false ∧ t.host.standby = (a && b) ∧
        { t with host := { t.host with supSingle := s.host.supSingle, standby := s.host.standby } } = s) ∧
      (Completes (.supervisorRebuild false false) s fun t => Records s t evSupervisorSingle s.devRef [2] ∧ { t with recd := s.recd } = s)) ∧
    ((s.host.supSingle = false ∨ s.host.suspended = true) → Completes (.supervisorRebuild a b) s fun t => t = s) ∧
    (∀ t0, s.health.supLost = some t0 → s.health.supStopped = false → t0 + 100000000 ≤ s.now →
      Completes .supervisorLossStop s fun t => t.health.supStopped = true ∧ t.recd = s.recd ∧
        (∃ r, t.safety.reqs = s.safety.reqs ++ [r] ∧ r.scope = .zones s.zoneList ∧ r.cause = 5 ∧ r.t0 = s.tick.no ∧
          ∀ z ∈ s.zoneList, ∀ x ∈ s.zoneAxes z, x ∈ r.axes ∧ x ∈ t.health.faultStop) ∧
        { t with health := s.health, safety := { t.safety with reqs := s.safety.reqs, nextReq := s.safety.nextReq } } = s) ∧
    ((s.health.supLost = none ∨ s.health.supStopped = true ∨ ∃ t0, s.health.supLost = some t0 ∧ s.now < t0 + 100000000) →
      Completes .supervisorLossStop s fun t => t = s)

/-- R478, R479: an uncorrectable word counts, is recorded by its memory and acts as Table 17.2 gives; a scrub pass counts and records
every correction. -/
def Obligations.MemoryErrorsActOnTheirMemory : Prop :=
  ∀ (s : State) (address ms : Nat) (l : List (MemKind × Nat)),
    let rest := fun (t : State) => { t with recd := s.recd, health := { t.health with eccUncorrectable := s.health.eccUncorrectable } }
    (∀ m, Completes (.eccUncorrectable m address) s fun t => t.health.eccUncorrectable = min (2 ^ 32 - 1) (s.health.eccUncorrectable + 1) ∧
      Records s t evEccUncorrectable s.devRef [memCode m, address] ∧
      { t with power := s.power, host := s.host, axes := s.axes, queues := s.queues, supply := s.supply, sep := s.sep, solver := s.solver
               safety := s.safety, selide := s.selide, lanes := s.lanes, recd := s.recd, health := s.health } = s) ∧
    (s.fwAlive = true → s.host.standby = true → s.host.supSingle = false → s.host.suspended = false →
      Completes (.eccUncorrectable .supervisor address) s fun t => t.host.suspended = true ∧
        { rest t with host := s.host, solver := { t.solver with vplanOk := s.solver.vplanOk } } = s) ∧
    (∀ e, Completes (.eccUncorrectable (match e with
        | Island.madder => .madder
        | .woad => .woad) address) s fun t =>
      t.sep.chFault = some { attributed := some e, pending := false, tick := s.tick.no } ∧
      (s.safety.degraded = none → s.safety.degPending = none → t.safety.degPending = some (some e) ∧
        RecordsWithin 1 s t evSepChannelFault s.devRef [islandCode e, 1])) ∧
    (∀ k x, s.struct? k.val = some x → Completes (.eccUncorrectable (.solverPool k) address) s fun t =>
      t.struct? k.val = some { x with damaged := true } ∧ (∀ j, j ≠ k.val → t.struct? j = s.struct? j) ∧
      { rest t with solver := s.solver } = s) ∧
    (s.solver.solve.isSome = true → Completes (.eccUncorrectable .solverWarm address) s fun t => t.health.warmDamaged = true ∧
      { t with recd := s.recd, health := s.health } = s) ∧
    (s.solver.solve = none → Completes (.eccUncorrectable .solverWarm address) s fun t => t.solver.warmVec = none ∧
      (s.solver.due = true → t.solver.outcome = outNumeric ∧ t.solver.usable = false ∧
        ∀ r, s.solver.result = some r → t.solver.result = some { r with outcome := outNumeric }) ∧
      (s.solver.due = false → t.solver.outcome = s.solver.outcome ∧ t.solver.usable = s.solver.usable) ∧
      { rest t with solver := s.solver } = s) ∧
    (Completes (.eccUncorrectable .recorder address) s fun t =>
      (∀ r ∈ t.recd.records, r ∈ s.recd.records ∧ r.1 % 65536 ≠ address / 8 % 65536) ∧ { rest t with recd := s.recd } = s) ∧
    (Completes (.eccUncorrectable .windowOther address) s fun t => (∀ w, w ∈ t.health.poison ↔ w ∈ s.health.poison ∨ w = address) ∧
      { t with recd := s.recd, health := s.health } = s) ∧
    (Completes (.eccUncorrectable .windowStatus address) s fun t => rest t = s) ∧
    (∀ k, Completes (.eccUncorrectable (.selide k) address) s fun t => (t.node k.val).buf = none ∧ (t.node k.val).arrived = false ∧
      (∀ j, j ≠ k.val → t.node j = s.node j) ∧ { rest t with selide := s.selide } = s) ∧
    (∀ p : Fin 17, (s.pair p.val).working = true → (s.pair p.val).reserve = true →
      (∀ k, k < 17 → (s.logLane k).takeover = none ∧ (s.logLane k).loss = none) → Completes (.eccUncorrectable (.lane p) address) s fun t =>
        (t.pair p.val).state = lpRecover ∧ RecordsWithin 1 s t evLaneFailed s.devRef [p.val, 0xFF, laneCauseCode .ecc]) ∧
    (∀ (p : Fin 17) k x e, k < 17 → (s.logLane k).takeover = some x → x.failed = p.val →
      (∀ j, j < 17 → j ≠ k → (s.logLane j).takeover = none) →
      s.userModule.copyRegion (fun n => ((s.logLane k).held.find? fun y => y.1 = n).elim 0 fun y => s.lastBank y.2) address = some e →
      Completes (.eccUncorrectable (.lane p) address) s fun t =>
        t.logLane k = { s.logLane k with takeover := some { x with damaged := addOnce x.damaged e } } ∧
        (∀ j, j ≠ k → t.logLane j = s.logLane j) ∧ { rest t with lanes := { t.lanes with log := s.lanes.log } } = s) ∧
    (Completes (.scrubPass l ms) s fun t => (s.health.eccCorrected < 2 ^ 32 → t.health.eccCorrected = min (2 ^ 32 - 1) (s.health.eccCorrected + l.length)) ∧
      t.health.scrubPasses = min (2 ^ 32 - 1) (s.health.scrubPasses + 1) ∧ t.health.scrubLast = ms ∧
      (∀ e ∈ l, RecordsWithin l.length s t evEccCorrected s.devRef [memCode e.1, e.2]) ∧
      { t with recd := s.recd, health := { t.health with
          eccCorrected := s.health.eccCorrected, scrubPasses := s.health.scrubPasses, scrubLast := s.health.scrubLast } } = s)

/-- R480 to R483: a measurement below 8.0 % makes a clock step due, or the domain exhausted after four; a step that fits takes effect
at its boundary; an overdue one is forced, the lane array by half rate.
R486, R495, R521, R524: an eye margin below EYE_MIN is retrained and recorded; THERMAL_HIGH is recorded once until the temperature
has fallen; a calibration is noted; the endpoint answers once its link is trained; the TAP holds an instruction it may take, else
BYPASS. -/
def Obligations.MarginsClocksAndTemperature : Prop :=
  (
  ∀ (s : State) (margins : List Nat) (d : Fin 5),
    let x := s.clk d.val
    (Completes (.ageingMeasurement margins) s fun t =>
      (∀ k first n, (k, first, n) ∈ sensorSplit →
        (∀ a r, (margins.drop first).take n = a :: r →
          let y := s.clk k
          let m := r.foldl min a
          (t.clk k).margin = m ∧ (t.clk k).steps = y.steps ∧
          (t.clk k).dueNs = (if m < 80 ∧ y.steps < 4 ∧ y.dueNs = none then some s.now else y.dueNs) ∧
          (t.clk k).exhausted = (y.exhausted || (decide (m < 80) && decide (y.steps = 4))) ∧
          (y.exhausted = false → m < 80 → y.steps = 4 → RecordsWithin 4 s t evMarginExhausted s.devRef [k, m])) ∧
        ((margins.drop first).take n = [] → t.clk k = s.clk k)) ∧
      { t with recd := s.recd, health := { t.health with clk := s.health.clk } } = s) ∧
    (let ready := (∃ n, x.ready = some n ∧ n ≤ s.tick.no) ∧ s.boundary = true ∧ s.stepBlocked = false
     (¬ready → Completes (.clockStep d) s fun t => t = s) ∧
     (ready → Completes (.clockStep d) s fun t => t.clk d.val =
         { x with steps := x.steps + 1, stepMargin := some x.margin, pending := false, forcing := false, dueNs := none, ready := none } ∧
       (∀ k, k ≠ d.val → t.clk k = s.clk k) ∧ Records s t evClockStep s.devRef [d.val, x.steps + 1, x.margin] ∧
       (d.val ≠ 4 → { t with recd := s.recd, health := { t.health with clk := s.health.clk } } = s) ∧
       (d.val = 4 → { t with recd := s.recd, health := { t.health with clk := s.health.clk }, solver := s.solver, free := s.free } = s))) ∧
    (let overdue := ∃ t0, x.dueNs = some t0 ∧ x.pending = true ∧ x.forcing = false ∧
       (s.pU 0xC001 s.dev * 3600000000000 ≤ s.now - t0 ∨ x.margin < s.pU 0xC002 s.dev)
     (¬overdue → Completes (.halfRateForced d) s fun t => t = s) ∧
     (overdue → (Completes (.halfRateForced d) s fun t => t.clk d.val = { x with forced := true, forcing := true } ∧
         (∀ k, k ≠ d.val → t.clk k = s.clk k) ∧ (∀ a ∈ s.health.halfAxes, a ∈ t.health.halfAxes) ∧
         { t with recd := s.recd, health := s.health } = s) ∧
       (d.val ≠ 1 → Completes (.halfRateForced d) s fun t => t.recd = s.recd ∧ t.health.halfAxes = s.health.halfAxes) ∧
       (d.val = 1 → ∀ l g, s.laneMisfit (x.steps + 1) = some l → s.heaviestGroup l = some g →
         Completes (.halfRateForced d) s fun t => (∀ a ∈ s.localAxes (mkRef clsGroup g), a ∈ t.health.halfAxes) ∧
           tblGet false t.health.halfGroups g = true ∧ Records s t evHalfRateForced (mkRef clsGroup g) [l])))) ∧
  (
  ∀ (s : State) (margins : List Nat) (temp : Int) (sensor : Fin 16) (u : CalUnit) (i : TapInstr) (n : Nat),
    (Completes (.eyeMonitor margins) s fun t =>
      (∀ k m, k < 14 → margins[k]? = some m →
        let lim := s.pU 0xC004 s.dev
        let old := tblGet 1000 s.health.eye k
        tblGet 1000 t.health.eye k = m ∧
        (k ∈ s.health.retrain → RecordsWithin 13 s t evEyeRetrained s.devRef [k, old, m] ∧ k ∉ t.health.retrain) ∧
        (k ∉ s.health.retrain → (k ∈ t.health.retrain ↔ m < lim ∧ lim ≤ old))) ∧
      (∀ k, 14 ≤ k ∨ margins[k]? = none → (k ∈ t.health.retrain ↔ k ∈ s.health.retrain) ∧
        tblGet 1000 t.health.eye k = tblGet 1000 s.health.eye k) ∧
      { t with recd := s.recd, health := { t.health with eye := s.health.eye, retrain := s.health.retrain } } = s) ∧
    (s.health.thermalArmed = true → 1100 < temp → Completes (.thermalHigh temp sensor) s fun t => t.health.thermalArmed = false ∧
      Records s t evThermalHigh s.devRef [argI temp, sensor.val] ∧
      { t with recd := s.recd, health := { t.health with thermalArmed := s.health.thermalArmed } } = s) ∧
    ((s.health.thermalArmed = false ∨ temp ≤ 1100) → Completes (.thermalHigh temp sensor) s fun t => t = s) ∧
    (let busy := ∃ k c, u = .selide k c ∧ s.channelInUse k.val (chanNo c) n = true
     (busy → Completes (.serdesCalibration u n) s fun t => t = s) ∧
     (¬busy → Completes (.serdesCalibration u n) s fun t => tblGet 0 t.health.calibrated (calNo u) = s.now + n ∧
       (∀ k, k ≠ calNo u → tblGet 0 t.health.calibrated k = tblGet 0 s.health.calibrated k) ∧
       { t with health := { t.health with calibrated := s.health.calibrated } } = s)) ∧
    (s.power.reset = false → Completes .pcieLinkUp s fun t => t.host.linkUp = true ∧
      { t with host := { t.host with linkUp := s.host.linkUp } } = s) ∧
    (s.power.reset = true → Completes .pcieLinkUp s fun t => t = s) ∧
    (Completes (.boundaryScanInstruction i) s fun t =>
      t.power.tap = i ∧ t.tapActs = (if i = .bypass ∨ i = .idcode ∨ s.bootCmdOk = true then i else .bypass) ∧
      { t with power := { t.power with tap := s.power.tap } } = s))
end

