-- ==== Sys2Proof/Laws/Cells.lean ====
section
/-!
SUPPORT. Memories (R301, R402, R403, R405): a read after a write, other addresses, and the canonical form, which every
memory operation keeps.
-/
namespace Sys2Proof.Machine

variable {w : Nat}

theorem cellsFrom_mono {m : Cells w} {lo lo' : Nat} (h : lo' ≤ lo) (hm : cellsFrom lo m = true) :
    cellsFrom lo' m = true := by
  cases m with
  | nil => rfl
  | cons e r =>
    obtain ⟨j, v⟩ := e
    simp only [cellsFrom, Bool.and_eq_true, decide_eq_true_eq] at hm ⊢
    exact ⟨⟨by omega, hm.1.2⟩, hm.2⟩

/-- In a canonical memory an address below the least listed one reads as 0. -/
theorem cellRead_below {m : Cells w} {lo a : Nat} (hm : cellsFrom lo m = true) (h : a < lo) : cellRead m a = 0 := by
  induction m generalizing lo with
  | nil => rfl
  | cons e r ih =>
    obtain ⟨j, v⟩ := e
    simp only [cellsFrom, Bool.and_eq_true, decide_eq_true_eq] at hm
    simp only [cellRead, if_neg (show ¬ j = a by omega)]
    exact ih hm.2 (by omega)

theorem cellsFrom_write {m : Cells w} {lo a : Nat} (v : BitVec w) (hm : cellsFrom lo m = true) (h : lo ≤ a) :
    cellsFrom lo (cellWrite m a v) = true := by
  induction m generalizing lo with
  | nil => unfold cellWrite; split <;> simp_all [cellsFrom]
  | cons e r ih =>
    obtain ⟨j, u⟩ := e
    have hm' := hm
    simp only [cellsFrom, Bool.and_eq_true, decide_eq_true_eq] at hm
    unfold cellWrite
    by_cases h1 : a < j
    · by_cases hv : v = 0
      · rw [if_pos h1, if_pos hv]; exact hm'
      · rw [if_pos h1, if_neg hv]
        simp only [cellsFrom, Bool.and_eq_true, decide_eq_true_eq]
        exact ⟨⟨h, hv⟩, ⟨⟨by omega, hm.1.2⟩, hm.2⟩⟩
    · by_cases h2 : a = j
      · by_cases hv : v = 0
        · rw [if_neg h1, if_pos h2, if_pos hv]; exact cellsFrom_mono (by omega) hm.2
        · rw [if_neg h1, if_pos h2, if_neg hv]
          simp only [cellsFrom, Bool.and_eq_true, decide_eq_true_eq]
          exact ⟨⟨h, hv⟩, h2 ▸ hm.2⟩
      · rw [if_neg h1, if_neg h2]
        simp only [cellsFrom, Bool.and_eq_true, decide_eq_true_eq]
        exact ⟨hm.1, ih hm.2 (by omega)⟩

theorem cellsWf_write {m : Cells w} (a : Nat) (v : BitVec w) (hm : cellsWf m = true) :
    cellsWf (cellWrite m a v) = true := cellsFrom_write v hm (Nat.zero_le a)

theorem cellsWf_writeCells {m : Cells w} (off : Nat) (l : List (BitVec w)) (hm : cellsWf m = true) :
    cellsWf (writeCells m off l) = true := by
  induction l generalizing m off with
  | nil => exact hm
  | cons b r ih => exact ih (off + 1) (cellsWf_write off b hm)

theorem cellRead_write {m : Cells w} (hm : cellsWf m = true) (a b : Nat) (v : BitVec w) :
    cellRead (cellWrite m a v) b = if b = a then v else cellRead m b := by
  suffices ∀ lo, cellsFrom lo m = true → cellRead (cellWrite m a v) b = if b = a then v else cellRead m b from this 0 hm
  clear hm
  induction m with
  | nil =>
    intro _ _
    by_cases hv : v = 0 <;> by_cases hb : b = a
    · simp [cellWrite, hv, cellRead]
    · simp [cellWrite, hv, cellRead]
    · rw [cellWrite, if_neg hv]; simp [cellRead, hb]
    · rw [cellWrite, if_neg hv]; simp [cellRead, hb, Ne.symm hb]
  | cons e r ih =>
    intro lo hm
    obtain ⟨j, u⟩ := e
    have hm' := hm
    simp only [cellsFrom, Bool.and_eq_true, decide_eq_true_eq] at hm
    unfold cellWrite
    by_cases h1 : a < j
    · by_cases hv : v = 0
      · rw [if_pos h1, if_pos hv]
        by_cases hb : b = a
        · subst hb; rw [if_pos rfl, hv]
          exact cellRead_below (lo := j) (by simp only [cellsFrom, Bool.and_eq_true, decide_eq_true_eq]; exact ⟨⟨Nat.le_refl j, hm.1.2⟩, hm.2⟩) h1
        · rw [if_neg hb]
      · rw [if_pos h1, if_neg hv]
        by_cases hb : b = a
        · simp [cellRead, hb]
        · rw [if_neg hb]; simp [cellRead, Ne.symm hb]
    · by_cases h2 : a = j
      · subst h2
        by_cases hv : v = 0
        · rw [if_neg h1, if_pos rfl, if_pos hv]
          by_cases hb : b = a
          · subst hb; rw [if_pos rfl, hv]; exact cellRead_below hm.2 (by omega)
          · rw [if_neg hb]; simp [cellRead, Ne.symm hb]
        · rw [if_neg h1, if_pos rfl, if_neg hv]
          by_cases hb : b = a
          · simp [cellRead, hb]
          · rw [if_neg hb]; simp [cellRead, Ne.symm hb]
      · rw [if_neg h1, if_neg h2]
        by_cases hb : j = b
        · subst hb; rw [if_neg (Ne.symm h2)]; simp [cellRead]
        · simp only [cellRead, if_neg hb]; exact ih _ hm.2

theorem cellRead_writeCells_other {m : Cells w} (hm : cellsWf m = true) (off : Nat) (l : List (BitVec w)) {a : Nat}
    (h : a < off ∨ off + l.length ≤ a) : cellRead (writeCells m off l) a = cellRead m a := by
  induction l generalizing m off with
  | nil => rfl
  | cons b r ih =>
    simp only [List.length_cons] at h
    rw [writeCells, ih (cellsWf_write off b hm) (off + 1) (by omega), cellRead_write hm, if_neg (by omega)]

theorem readCells_writeCells {m : Cells w} (hm : cellsWf m = true) (off : Nat) (l : List (BitVec w)) :
    readCells (writeCells m off l) off l.length = l := by
  induction l generalizing m off with
  | nil => rfl
  | cons b r ih =>
    simp only [List.length_cons, readCells, writeCells]
    rw [ih (cellsWf_write off b hm), cellRead_writeCells_other (cellsWf_write off b hm) _ _ (Or.inl (by omega)),
      cellRead_write hm, if_pos rfl]

theorem length_readCells (m : Cells w) (off n : Nat) : (readCells m off n).length = n := by
  induction n generalizing off with
  | zero => rfl
  | succ n ih => simp [readCells, ih]

end Sys2Proof.Machine
end

