-- ==== Sys2Proof/Laws/State.lean ====
section
/-!
SUPPORT. What each accessor of Machine/Ops.lean leaves of State: one lemma for each field and each update, true by
unfolding, and the laws of keyed tables (read after write, other keys).
-/
namespace Sys2Proof.Machine

variable {α : Type} (s : State)

/-! ### Keyed tables -/

theorem tblGet_tblSet_same (d : α) (t : Tbl α) (k : Nat) (v : α) : tblGet d (tblSet t k v) k = v := by
  induction t with
  | nil => simp [tblSet, tblGet]
  | cons e r ih =>
    obtain ⟨j, w⟩ := e
    unfold tblSet
    split
    · simp [tblGet]
    · split
      · simp [tblGet]
      · simp [tblGet, ih]; omega

theorem tblGet_tblSet_other (d : α) (t : Tbl α) {k k' : Nat} (v : α) (h : k' ≠ k) :
    tblGet d (tblSet t k v) k' = tblGet d t k' := by
  induction t with
  | nil => simp [tblSet, tblGet, h.symm]
  | cons e r ih =>
    obtain ⟨j, w⟩ := e
    unfold tblSet
    split
    · simp [tblGet, h.symm]
    · split
      · subst_vars; simp [tblGet, h.symm]
      · simp [tblGet, ih]

@[simp] theorem tblGet_tblSet (d : α) (t : Tbl α) (k k' : Nat) (v : α) :
    tblGet d (tblSet t k v) k' = if k' = k then v else tblGet d t k' := by
  split
  · subst_vars; exact tblGet_tblSet_same ..
  · rename_i h; exact tblGet_tblSet_other _ _ _ h

@[simp] theorem tblGet_tblMod (d : α) (t : Tbl α) (k k' : Nat) (f : α → α) :
    tblGet d (tblMod d t k f) k' = if k' = k then f (tblGet d t k) else tblGet d t k' := by
  simp [tblMod]

/-! ### `modAxis` -/

@[simp] theorem State.modAxis_power (a : Nat) (f : Axis → Axis) : (s.modAxis a f).power = s.power := rfl
@[simp] theorem State.modAxis_host (a : Nat) (f : Axis → Axis) : (s.modAxis a f).host = s.host := rfl
@[simp] theorem State.modAxis_par (a : Nat) (f : Axis → Axis) : (s.modAxis a f).par = s.par := rfl
@[simp] theorem State.modAxis_cell (a : Nat) (f : Axis → Axis) : (s.modAxis a f).cell = s.cell := rfl
@[simp] theorem State.modAxis_tick (a : Nat) (f : Axis → Axis) : (s.modAxis a f).tick = s.tick := rfl
@[simp] theorem State.modAxis_axes (a : Nat) (f : Axis → Axis) : (s.modAxis a f).axes = tblMod {} s.axes a f := rfl
@[simp] theorem State.modAxis_queues (a : Nat) (f : Axis → Axis) : (s.modAxis a f).queues = s.queues := rfl
@[simp] theorem State.modAxis_sigma (a : Nat) (f : Axis → Axis) : (s.modAxis a f).sigma = s.sigma := rfl
@[simp] theorem State.modAxis_supply (a : Nat) (f : Axis → Axis) : (s.modAxis a f).supply = s.supply := rfl
@[simp] theorem State.modAxis_ports (a : Nat) (f : Axis → Axis) : (s.modAxis a f).ports = s.ports := rfl
@[simp] theorem State.modAxis_cmps (a : Nat) (f : Axis → Axis) : (s.modAxis a f).cmps = s.cmps := rfl
@[simp] theorem State.modAxis_sep (a : Nat) (f : Axis → Axis) : (s.modAxis a f).sep = s.sep := rfl
@[simp] theorem State.modAxis_solver (a : Nat) (f : Axis → Axis) : (s.modAxis a f).solver = s.solver := rfl
@[simp] theorem State.modAxis_safety (a : Nat) (f : Axis → Axis) : (s.modAxis a f).safety = s.safety := rfl
@[simp] theorem State.modAxis_selide (a : Nat) (f : Axis → Axis) : (s.modAxis a f).selide = s.selide := rfl
@[simp] theorem State.modAxis_link (a : Nat) (f : Axis → Axis) : (s.modAxis a f).link = s.link := rfl
@[simp] theorem State.modAxis_lanes (a : Nat) (f : Axis → Axis) : (s.modAxis a f).lanes = s.lanes := rfl
@[simp] theorem State.modAxis_time (a : Nat) (f : Axis → Axis) : (s.modAxis a f).time = s.time := rfl
@[simp] theorem State.modAxis_can (a : Nat) (f : Axis → Axis) : (s.modAxis a f).can = s.can := rfl
@[simp] theorem State.modAxis_recd (a : Nat) (f : Axis → Axis) : (s.modAxis a f).recd = s.recd := rfl
@[simp] theorem State.modAxis_health (a : Nat) (f : Axis → Axis) : (s.modAxis a f).health = s.health := rfl
@[simp] theorem State.modAxis_chk (a : Nat) (f : Axis → Axis) : (s.modAxis a f).chk = s.chk := rfl
@[simp] theorem State.modAxis_free (a : Nat) (f : Axis → Axis) : (s.modAxis a f).free = s.free := rfl
@[simp] theorem State.modAxis_pending (a : Nat) (f : Axis → Axis) : (s.modAxis a f).pending = s.pending := rfl

/-! ### `modQueue` -/

@[simp] theorem State.modQueue_power (q : Word) (f : Queue → Queue) : (s.modQueue q f).power = s.power := rfl
@[simp] theorem State.modQueue_host (q : Word) (f : Queue → Queue) : (s.modQueue q f).host = s.host := rfl
@[simp] theorem State.modQueue_par (q : Word) (f : Queue → Queue) : (s.modQueue q f).par = s.par := rfl
@[simp] theorem State.modQueue_cell (q : Word) (f : Queue → Queue) : (s.modQueue q f).cell = s.cell := rfl
@[simp] theorem State.modQueue_tick (q : Word) (f : Queue → Queue) : (s.modQueue q f).tick = s.tick := rfl
@[simp] theorem State.modQueue_axes (q : Word) (f : Queue → Queue) : (s.modQueue q f).axes = s.axes := rfl
@[simp] theorem State.modQueue_queues (q : Word) (f : Queue → Queue) : (s.modQueue q f).queues = tblMod {} s.queues q.toNat f := rfl
@[simp] theorem State.modQueue_sigma (q : Word) (f : Queue → Queue) : (s.modQueue q f).sigma = s.sigma := rfl
@[simp] theorem State.modQueue_supply (q : Word) (f : Queue → Queue) : (s.modQueue q f).supply = s.supply := rfl
@[simp] theorem State.modQueue_ports (q : Word) (f : Queue → Queue) : (s.modQueue q f).ports = s.ports := rfl
@[simp] theorem State.modQueue_cmps (q : Word) (f : Queue → Queue) : (s.modQueue q f).cmps = s.cmps := rfl
@[simp] theorem State.modQueue_sep (q : Word) (f : Queue → Queue) : (s.modQueue q f).sep = s.sep := rfl
@[simp] theorem State.modQueue_solver (q : Word) (f : Queue → Queue) : (s.modQueue q f).solver = s.solver := rfl
@[simp] theorem State.modQueue_safety (q : Word) (f : Queue → Queue) : (s.modQueue q f).safety = s.safety := rfl
@[simp] theorem State.modQueue_selide (q : Word) (f : Queue → Queue) : (s.modQueue q f).selide = s.selide := rfl
@[simp] theorem State.modQueue_link (q : Word) (f : Queue → Queue) : (s.modQueue q f).link = s.link := rfl
@[simp] theorem State.modQueue_lanes (q : Word) (f : Queue → Queue) : (s.modQueue q f).lanes = s.lanes := rfl
@[simp] theorem State.modQueue_time (q : Word) (f : Queue → Queue) : (s.modQueue q f).time = s.time := rfl
@[simp] theorem State.modQueue_can (q : Word) (f : Queue → Queue) : (s.modQueue q f).can = s.can := rfl
@[simp] theorem State.modQueue_recd (q : Word) (f : Queue → Queue) : (s.modQueue q f).recd = s.recd := rfl
@[simp] theorem State.modQueue_health (q : Word) (f : Queue → Queue) : (s.modQueue q f).health = s.health := rfl
@[simp] theorem State.modQueue_chk (q : Word) (f : Queue → Queue) : (s.modQueue q f).chk = s.chk := rfl
@[simp] theorem State.modQueue_free (q : Word) (f : Queue → Queue) : (s.modQueue q f).free = s.free := rfl
@[simp] theorem State.modQueue_pending (q : Word) (f : Queue → Queue) : (s.modQueue q f).pending = s.pending := rfl

/-! ### `modPort` -/

@[simp] theorem State.modPort_power (p : Nat) (f : Port → Port) : (s.modPort p f).power = s.power := rfl
@[simp] theorem State.modPort_host (p : Nat) (f : Port → Port) : (s.modPort p f).host = s.host := rfl
@[simp] theorem State.modPort_par (p : Nat) (f : Port → Port) : (s.modPort p f).par = s.par := rfl
@[simp] theorem State.modPort_cell (p : Nat) (f : Port → Port) : (s.modPort p f).cell = s.cell := rfl
@[simp] theorem State.modPort_tick (p : Nat) (f : Port → Port) : (s.modPort p f).tick = s.tick := rfl
@[simp] theorem State.modPort_axes (p : Nat) (f : Port → Port) : (s.modPort p f).axes = s.axes := rfl
@[simp] theorem State.modPort_queues (p : Nat) (f : Port → Port) : (s.modPort p f).queues = s.queues := rfl
@[simp] theorem State.modPort_sigma (p : Nat) (f : Port → Port) : (s.modPort p f).sigma = s.sigma := rfl
@[simp] theorem State.modPort_supply (p : Nat) (f : Port → Port) : (s.modPort p f).supply = s.supply := rfl
@[simp] theorem State.modPort_ports (p : Nat) (f : Port → Port) : (s.modPort p f).ports = tblMod {} s.ports p f := rfl
@[simp] theorem State.modPort_cmps (p : Nat) (f : Port → Port) : (s.modPort p f).cmps = s.cmps := rfl
@[simp] theorem State.modPort_sep (p : Nat) (f : Port → Port) : (s.modPort p f).sep = s.sep := rfl
@[simp] theorem State.modPort_solver (p : Nat) (f : Port → Port) : (s.modPort p f).solver = s.solver := rfl
@[simp] theorem State.modPort_safety (p : Nat) (f : Port → Port) : (s.modPort p f).safety = s.safety := rfl
@[simp] theorem State.modPort_selide (p : Nat) (f : Port → Port) : (s.modPort p f).selide = s.selide := rfl
@[simp] theorem State.modPort_link (p : Nat) (f : Port → Port) : (s.modPort p f).link = s.link := rfl
@[simp] theorem State.modPort_lanes (p : Nat) (f : Port → Port) : (s.modPort p f).lanes = s.lanes := rfl
@[simp] theorem State.modPort_time (p : Nat) (f : Port → Port) : (s.modPort p f).time = s.time := rfl
@[simp] theorem State.modPort_can (p : Nat) (f : Port → Port) : (s.modPort p f).can = s.can := rfl
@[simp] theorem State.modPort_recd (p : Nat) (f : Port → Port) : (s.modPort p f).recd = s.recd := rfl
@[simp] theorem State.modPort_health (p : Nat) (f : Port → Port) : (s.modPort p f).health = s.health := rfl
@[simp] theorem State.modPort_chk (p : Nat) (f : Port → Port) : (s.modPort p f).chk = s.chk := rfl
@[simp] theorem State.modPort_free (p : Nat) (f : Port → Port) : (s.modPort p f).free = s.free := rfl
@[simp] theorem State.modPort_pending (p : Nat) (f : Port → Port) : (s.modPort p f).pending = s.pending := rfl

/-! ### `modCmp` -/

@[simp] theorem State.modCmp_power (k : Nat) (f : CmpSt → CmpSt) : (s.modCmp k f).power = s.power := rfl
@[simp] theorem State.modCmp_host (k : Nat) (f : CmpSt → CmpSt) : (s.modCmp k f).host = s.host := rfl
@[simp] theorem State.modCmp_par (k : Nat) (f : CmpSt → CmpSt) : (s.modCmp k f).par = s.par := rfl
@[simp] theorem State.modCmp_cell (k : Nat) (f : CmpSt → CmpSt) : (s.modCmp k f).cell = s.cell := rfl
@[simp] theorem State.modCmp_tick (k : Nat) (f : CmpSt → CmpSt) : (s.modCmp k f).tick = s.tick := rfl
@[simp] theorem State.modCmp_axes (k : Nat) (f : CmpSt → CmpSt) : (s.modCmp k f).axes = s.axes := rfl
@[simp] theorem State.modCmp_queues (k : Nat) (f : CmpSt → CmpSt) : (s.modCmp k f).queues = s.queues := rfl
@[simp] theorem State.modCmp_sigma (k : Nat) (f : CmpSt → CmpSt) : (s.modCmp k f).sigma = s.sigma := rfl
@[simp] theorem State.modCmp_supply (k : Nat) (f : CmpSt → CmpSt) : (s.modCmp k f).supply = s.supply := rfl
@[simp] theorem State.modCmp_ports (k : Nat) (f : CmpSt → CmpSt) : (s.modCmp k f).ports = s.ports := rfl
@[simp] theorem State.modCmp_cmps (k : Nat) (f : CmpSt → CmpSt) : (s.modCmp k f).cmps = tblMod {} s.cmps k f := rfl
@[simp] theorem State.modCmp_sep (k : Nat) (f : CmpSt → CmpSt) : (s.modCmp k f).sep = s.sep := rfl
@[simp] theorem State.modCmp_solver (k : Nat) (f : CmpSt → CmpSt) : (s.modCmp k f).solver = s.solver := rfl
@[simp] theorem State.modCmp_safety (k : Nat) (f : CmpSt → CmpSt) : (s.modCmp k f).safety = s.safety := rfl
@[simp] theorem State.modCmp_selide (k : Nat) (f : CmpSt → CmpSt) : (s.modCmp k f).selide = s.selide := rfl
@[simp] theorem State.modCmp_link (k : Nat) (f : CmpSt → CmpSt) : (s.modCmp k f).link = s.link := rfl
@[simp] theorem State.modCmp_lanes (k : Nat) (f : CmpSt → CmpSt) : (s.modCmp k f).lanes = s.lanes := rfl
@[simp] theorem State.modCmp_time (k : Nat) (f : CmpSt → CmpSt) : (s.modCmp k f).time = s.time := rfl
@[simp] theorem State.modCmp_can (k : Nat) (f : CmpSt → CmpSt) : (s.modCmp k f).can = s.can := rfl
@[simp] theorem State.modCmp_recd (k : Nat) (f : CmpSt → CmpSt) : (s.modCmp k f).recd = s.recd := rfl
@[simp] theorem State.modCmp_health (k : Nat) (f : CmpSt → CmpSt) : (s.modCmp k f).health = s.health := rfl
@[simp] theorem State.modCmp_chk (k : Nat) (f : CmpSt → CmpSt) : (s.modCmp k f).chk = s.chk := rfl
@[simp] theorem State.modCmp_free (k : Nat) (f : CmpSt → CmpSt) : (s.modCmp k f).free = s.free := rfl
@[simp] theorem State.modCmp_pending (k : Nat) (f : CmpSt → CmpSt) : (s.modCmp k f).pending = s.pending := rfl

/-! ### `modCan` -/

@[simp] theorem State.modCan_power (k : Nat) (f : CanSt → CanSt) : (s.modCan k f).power = s.power := rfl
@[simp] theorem State.modCan_host (k : Nat) (f : CanSt → CanSt) : (s.modCan k f).host = s.host := rfl
@[simp] theorem State.modCan_par (k : Nat) (f : CanSt → CanSt) : (s.modCan k f).par = s.par := rfl
@[simp] theorem State.modCan_cell (k : Nat) (f : CanSt → CanSt) : (s.modCan k f).cell = s.cell := rfl
@[simp] theorem State.modCan_tick (k : Nat) (f : CanSt → CanSt) : (s.modCan k f).tick = s.tick := rfl
@[simp] theorem State.modCan_axes (k : Nat) (f : CanSt → CanSt) : (s.modCan k f).axes = s.axes := rfl
@[simp] theorem State.modCan_queues (k : Nat) (f : CanSt → CanSt) : (s.modCan k f).queues = s.queues := rfl
@[simp] theorem State.modCan_sigma (k : Nat) (f : CanSt → CanSt) : (s.modCan k f).sigma = s.sigma := rfl
@[simp] theorem State.modCan_supply (k : Nat) (f : CanSt → CanSt) : (s.modCan k f).supply = s.supply := rfl
@[simp] theorem State.modCan_ports (k : Nat) (f : CanSt → CanSt) : (s.modCan k f).ports = s.ports := rfl
@[simp] theorem State.modCan_cmps (k : Nat) (f : CanSt → CanSt) : (s.modCan k f).cmps = s.cmps := rfl
@[simp] theorem State.modCan_sep (k : Nat) (f : CanSt → CanSt) : (s.modCan k f).sep = s.sep := rfl
@[simp] theorem State.modCan_solver (k : Nat) (f : CanSt → CanSt) : (s.modCan k f).solver = s.solver := rfl
@[simp] theorem State.modCan_safety (k : Nat) (f : CanSt → CanSt) : (s.modCan k f).safety = s.safety := rfl
@[simp] theorem State.modCan_selide (k : Nat) (f : CanSt → CanSt) : (s.modCan k f).selide = s.selide := rfl
@[simp] theorem State.modCan_link (k : Nat) (f : CanSt → CanSt) : (s.modCan k f).link = s.link := rfl
@[simp] theorem State.modCan_lanes (k : Nat) (f : CanSt → CanSt) : (s.modCan k f).lanes = s.lanes := rfl
@[simp] theorem State.modCan_time (k : Nat) (f : CanSt → CanSt) : (s.modCan k f).time = s.time := rfl
@[simp] theorem State.modCan_can (k : Nat) (f : CanSt → CanSt) : (s.modCan k f).can = tblMod {} s.can k f := rfl
@[simp] theorem State.modCan_recd (k : Nat) (f : CanSt → CanSt) : (s.modCan k f).recd = s.recd := rfl
@[simp] theorem State.modCan_health (k : Nat) (f : CanSt → CanSt) : (s.modCan k f).health = s.health := rfl
@[simp] theorem State.modCan_chk (k : Nat) (f : CanSt → CanSt) : (s.modCan k f).chk = s.chk := rfl
@[simp] theorem State.modCan_free (k : Nat) (f : CanSt → CanSt) : (s.modCan k f).free = s.free := rfl
@[simp] theorem State.modCan_pending (k : Nat) (f : CanSt → CanSt) : (s.modCan k f).pending = s.pending := rfl

/-! ### `modRing` -/

@[simp] theorem State.modRing_power (r : Nat) (f : Ring → Ring) : (s.modRing r f).power = s.power := rfl
@[simp] theorem State.modRing_host (r : Nat) (f : Ring → Ring) : (s.modRing r f).host = { s.host with rings := tblMod {} s.host.rings r f } := rfl
@[simp] theorem State.modRing_par (r : Nat) (f : Ring → Ring) : (s.modRing r f).par = s.par := rfl
@[simp] theorem State.modRing_cell (r : Nat) (f : Ring → Ring) : (s.modRing r f).cell = s.cell := rfl
@[simp] theorem State.modRing_tick (r : Nat) (f : Ring → Ring) : (s.modRing r f).tick = s.tick := rfl
@[simp] theorem State.modRing_axes (r : Nat) (f : Ring → Ring) : (s.modRing r f).axes = s.axes := rfl
@[simp] theorem State.modRing_queues (r : Nat) (f : Ring → Ring) : (s.modRing r f).queues = s.queues := rfl
@[simp] theorem State.modRing_sigma (r : Nat) (f : Ring → Ring) : (s.modRing r f).sigma = s.sigma := rfl
@[simp] theorem State.modRing_supply (r : Nat) (f : Ring → Ring) : (s.modRing r f).supply = s.supply := rfl
@[simp] theorem State.modRing_ports (r : Nat) (f : Ring → Ring) : (s.modRing r f).ports = s.ports := rfl
@[simp] theorem State.modRing_cmps (r : Nat) (f : Ring → Ring) : (s.modRing r f).cmps = s.cmps := rfl
@[simp] theorem State.modRing_sep (r : Nat) (f : Ring → Ring) : (s.modRing r f).sep = s.sep := rfl
@[simp] theorem State.modRing_solver (r : Nat) (f : Ring → Ring) : (s.modRing r f).solver = s.solver := rfl
@[simp] theorem State.modRing_safety (r : Nat) (f : Ring → Ring) : (s.modRing r f).safety = s.safety := rfl
@[simp] theorem State.modRing_selide (r : Nat) (f : Ring → Ring) : (s.modRing r f).selide = s.selide := rfl
@[simp] theorem State.modRing_link (r : Nat) (f : Ring → Ring) : (s.modRing r f).link = s.link := rfl
@[simp] theorem State.modRing_lanes (r : Nat) (f : Ring → Ring) : (s.modRing r f).lanes = s.lanes := rfl
@[simp] theorem State.modRing_time (r : Nat) (f : Ring → Ring) : (s.modRing r f).time = s.time := rfl
@[simp] theorem State.modRing_can (r : Nat) (f : Ring → Ring) : (s.modRing r f).can = s.can := rfl
@[simp] theorem State.modRing_recd (r : Nat) (f : Ring → Ring) : (s.modRing r f).recd = s.recd := rfl
@[simp] theorem State.modRing_health (r : Nat) (f : Ring → Ring) : (s.modRing r f).health = s.health := rfl
@[simp] theorem State.modRing_chk (r : Nat) (f : Ring → Ring) : (s.modRing r f).chk = s.chk := rfl
@[simp] theorem State.modRing_free (r : Nat) (f : Ring → Ring) : (s.modRing r f).free = s.free := rfl
@[simp] theorem State.modRing_pending (r : Nat) (f : Ring → Ring) : (s.modRing r f).pending = s.pending := rfl

/-! ### `modSigma` -/

@[simp] theorem State.modSigma_power (g : Nat) (f : SigmaSt → SigmaSt) : (s.modSigma g f).power = s.power := rfl
@[simp] theorem State.modSigma_host (g : Nat) (f : SigmaSt → SigmaSt) : (s.modSigma g f).host = s.host := rfl
@[simp] theorem State.modSigma_par (g : Nat) (f : SigmaSt → SigmaSt) : (s.modSigma g f).par = s.par := rfl
@[simp] theorem State.modSigma_cell (g : Nat) (f : SigmaSt → SigmaSt) : (s.modSigma g f).cell = s.cell := rfl
@[simp] theorem State.modSigma_tick (g : Nat) (f : SigmaSt → SigmaSt) : (s.modSigma g f).tick = s.tick := rfl
@[simp] theorem State.modSigma_axes (g : Nat) (f : SigmaSt → SigmaSt) : (s.modSigma g f).axes = s.axes := rfl
@[simp] theorem State.modSigma_queues (g : Nat) (f : SigmaSt → SigmaSt) : (s.modSigma g f).queues = s.queues := rfl
@[simp] theorem State.modSigma_sigma (g : Nat) (f : SigmaSt → SigmaSt) : (s.modSigma g f).sigma = tblMod {} s.sigma g f := rfl
@[simp] theorem State.modSigma_supply (g : Nat) (f : SigmaSt → SigmaSt) : (s.modSigma g f).supply = s.supply := rfl
@[simp] theorem State.modSigma_ports (g : Nat) (f : SigmaSt → SigmaSt) : (s.modSigma g f).ports = s.ports := rfl
@[simp] theorem State.modSigma_cmps (g : Nat) (f : SigmaSt → SigmaSt) : (s.modSigma g f).cmps = s.cmps := rfl
@[simp] theorem State.modSigma_sep (g : Nat) (f : SigmaSt → SigmaSt) : (s.modSigma g f).sep = s.sep := rfl
@[simp] theorem State.modSigma_solver (g : Nat) (f : SigmaSt → SigmaSt) : (s.modSigma g f).solver = s.solver := rfl
@[simp] theorem State.modSigma_safety (g : Nat) (f : SigmaSt → SigmaSt) : (s.modSigma g f).safety = s.safety := rfl
@[simp] theorem State.modSigma_selide (g : Nat) (f : SigmaSt → SigmaSt) : (s.modSigma g f).selide = s.selide := rfl
@[simp] theorem State.modSigma_link (g : Nat) (f : SigmaSt → SigmaSt) : (s.modSigma g f).link = s.link := rfl
@[simp] theorem State.modSigma_lanes (g : Nat) (f : SigmaSt → SigmaSt) : (s.modSigma g f).lanes = s.lanes := rfl
@[simp] theorem State.modSigma_time (g : Nat) (f : SigmaSt → SigmaSt) : (s.modSigma g f).time = s.time := rfl
@[simp] theorem State.modSigma_can (g : Nat) (f : SigmaSt → SigmaSt) : (s.modSigma g f).can = s.can := rfl
@[simp] theorem State.modSigma_recd (g : Nat) (f : SigmaSt → SigmaSt) : (s.modSigma g f).recd = s.recd := rfl
@[simp] theorem State.modSigma_health (g : Nat) (f : SigmaSt → SigmaSt) : (s.modSigma g f).health = s.health := rfl
@[simp] theorem State.modSigma_chk (g : Nat) (f : SigmaSt → SigmaSt) : (s.modSigma g f).chk = s.chk := rfl
@[simp] theorem State.modSigma_free (g : Nat) (f : SigmaSt → SigmaSt) : (s.modSigma g f).free = s.free := rfl
@[simp] theorem State.modSigma_pending (g : Nat) (f : SigmaSt → SigmaSt) : (s.modSigma g f).pending = s.pending := rfl

/-! ### `modHost` -/

@[simp] theorem State.modHost_power (f : HostIf → HostIf) : (s.modHost f).power = s.power := rfl
@[simp] theorem State.modHost_host (f : HostIf → HostIf) : (s.modHost f).host = f s.host := rfl
@[simp] theorem State.modHost_par (f : HostIf → HostIf) : (s.modHost f).par = s.par := rfl
@[simp] theorem State.modHost_cell (f : HostIf → HostIf) : (s.modHost f).cell = s.cell := rfl
@[simp] theorem State.modHost_tick (f : HostIf → HostIf) : (s.modHost f).tick = s.tick := rfl
@[simp] theorem State.modHost_axes (f : HostIf → HostIf) : (s.modHost f).axes = s.axes := rfl
@[simp] theorem State.modHost_queues (f : HostIf → HostIf) : (s.modHost f).queues = s.queues := rfl
@[simp] theorem State.modHost_sigma (f : HostIf → HostIf) : (s.modHost f).sigma = s.sigma := rfl
@[simp] theorem State.modHost_supply (f : HostIf → HostIf) : (s.modHost f).supply = s.supply := rfl
@[simp] theorem State.modHost_ports (f : HostIf → HostIf) : (s.modHost f).ports = s.ports := rfl
@[simp] theorem State.modHost_cmps (f : HostIf → HostIf) : (s.modHost f).cmps = s.cmps := rfl
@[simp] theorem State.modHost_sep (f : HostIf → HostIf) : (s.modHost f).sep = s.sep := rfl
@[simp] theorem State.modHost_solver (f : HostIf → HostIf) : (s.modHost f).solver = s.solver := rfl
@[simp] theorem State.modHost_safety (f : HostIf → HostIf) : (s.modHost f).safety = s.safety := rfl
@[simp] theorem State.modHost_selide (f : HostIf → HostIf) : (s.modHost f).selide = s.selide := rfl
@[simp] theorem State.modHost_link (f : HostIf → HostIf) : (s.modHost f).link = s.link := rfl
@[simp] theorem State.modHost_lanes (f : HostIf → HostIf) : (s.modHost f).lanes = s.lanes := rfl
@[simp] theorem State.modHost_time (f : HostIf → HostIf) : (s.modHost f).time = s.time := rfl
@[simp] theorem State.modHost_can (f : HostIf → HostIf) : (s.modHost f).can = s.can := rfl
@[simp] theorem State.modHost_recd (f : HostIf → HostIf) : (s.modHost f).recd = s.recd := rfl
@[simp] theorem State.modHost_health (f : HostIf → HostIf) : (s.modHost f).health = s.health := rfl
@[simp] theorem State.modHost_chk (f : HostIf → HostIf) : (s.modHost f).chk = s.chk := rfl
@[simp] theorem State.modHost_free (f : HostIf → HostIf) : (s.modHost f).free = s.free := rfl
@[simp] theorem State.modHost_pending (f : HostIf → HostIf) : (s.modHost f).pending = s.pending := rfl

/-! ### `modTick` -/

@[simp] theorem State.modTick_power (f : TickSt → TickSt) : (s.modTick f).power = s.power := rfl
@[simp] theorem State.modTick_host (f : TickSt → TickSt) : (s.modTick f).host = s.host := rfl
@[simp] theorem State.modTick_par (f : TickSt → TickSt) : (s.modTick f).par = s.par := rfl
@[simp] theorem State.modTick_cell (f : TickSt → TickSt) : (s.modTick f).cell = s.cell := rfl
@[simp] theorem State.modTick_tick (f : TickSt → TickSt) : (s.modTick f).tick = f s.tick := rfl
@[simp] theorem State.modTick_axes (f : TickSt → TickSt) : (s.modTick f).axes = s.axes := rfl
@[simp] theorem State.modTick_queues (f : TickSt → TickSt) : (s.modTick f).queues = s.queues := rfl
@[simp] theorem State.modTick_sigma (f : TickSt → TickSt) : (s.modTick f).sigma = s.sigma := rfl
@[simp] theorem State.modTick_supply (f : TickSt → TickSt) : (s.modTick f).supply = s.supply := rfl
@[simp] theorem State.modTick_ports (f : TickSt → TickSt) : (s.modTick f).ports = s.ports := rfl
@[simp] theorem State.modTick_cmps (f : TickSt → TickSt) : (s.modTick f).cmps = s.cmps := rfl
@[simp] theorem State.modTick_sep (f : TickSt → TickSt) : (s.modTick f).sep = s.sep := rfl
@[simp] theorem State.modTick_solver (f : TickSt → TickSt) : (s.modTick f).solver = s.solver := rfl
@[simp] theorem State.modTick_safety (f : TickSt → TickSt) : (s.modTick f).safety = s.safety := rfl
@[simp] theorem State.modTick_selide (f : TickSt → TickSt) : (s.modTick f).selide = s.selide := rfl
@[simp] theorem State.modTick_link (f : TickSt → TickSt) : (s.modTick f).link = s.link := rfl
@[simp] theorem State.modTick_lanes (f : TickSt → TickSt) : (s.modTick f).lanes = s.lanes := rfl
@[simp] theorem State.modTick_time (f : TickSt → TickSt) : (s.modTick f).time = s.time := rfl
@[simp] theorem State.modTick_can (f : TickSt → TickSt) : (s.modTick f).can = s.can := rfl
@[simp] theorem State.modTick_recd (f : TickSt → TickSt) : (s.modTick f).recd = s.recd := rfl
@[simp] theorem State.modTick_health (f : TickSt → TickSt) : (s.modTick f).health = s.health := rfl
@[simp] theorem State.modTick_chk (f : TickSt → TickSt) : (s.modTick f).chk = s.chk := rfl
@[simp] theorem State.modTick_free (f : TickSt → TickSt) : (s.modTick f).free = s.free := rfl
@[simp] theorem State.modTick_pending (f : TickSt → TickSt) : (s.modTick f).pending = s.pending := rfl

/-! ### `modSafety` -/

@[simp] theorem State.modSafety_power (f : SafetySt → SafetySt) : (s.modSafety f).power = s.power := rfl
@[simp] theorem State.modSafety_host (f : SafetySt → SafetySt) : (s.modSafety f).host = s.host := rfl
@[simp] theorem State.modSafety_par (f : SafetySt → SafetySt) : (s.modSafety f).par = s.par := rfl
@[simp] theorem State.modSafety_cell (f : SafetySt → SafetySt) : (s.modSafety f).cell = s.cell := rfl
@[simp] theorem State.modSafety_tick (f : SafetySt → SafetySt) : (s.modSafety f).tick = s.tick := rfl
@[simp] theorem State.modSafety_axes (f : SafetySt → SafetySt) : (s.modSafety f).axes = s.axes := rfl
@[simp] theorem State.modSafety_queues (f : SafetySt → SafetySt) : (s.modSafety f).queues = s.queues := rfl
@[simp] theorem State.modSafety_sigma (f : SafetySt → SafetySt) : (s.modSafety f).sigma = s.sigma := rfl
@[simp] theorem State.modSafety_supply (f : SafetySt → SafetySt) : (s.modSafety f).supply = s.supply := rfl
@[simp] theorem State.modSafety_ports (f : SafetySt → SafetySt) : (s.modSafety f).ports = s.ports := rfl
@[simp] theorem State.modSafety_cmps (f : SafetySt → SafetySt) : (s.modSafety f).cmps = s.cmps := rfl
@[simp] theorem State.modSafety_sep (f : SafetySt → SafetySt) : (s.modSafety f).sep = s.sep := rfl
@[simp] theorem State.modSafety_solver (f : SafetySt → SafetySt) : (s.modSafety f).solver = s.solver := rfl
@[simp] theorem State.modSafety_safety (f : SafetySt → SafetySt) : (s.modSafety f).safety = f s.safety := rfl
@[simp] theorem State.modSafety_selide (f : SafetySt → SafetySt) : (s.modSafety f).selide = s.selide := rfl
@[simp] theorem State.modSafety_link (f : SafetySt → SafetySt) : (s.modSafety f).link = s.link := rfl
@[simp] theorem State.modSafety_lanes (f : SafetySt → SafetySt) : (s.modSafety f).lanes = s.lanes := rfl
@[simp] theorem State.modSafety_time (f : SafetySt → SafetySt) : (s.modSafety f).time = s.time := rfl
@[simp] theorem State.modSafety_can (f : SafetySt → SafetySt) : (s.modSafety f).can = s.can := rfl
@[simp] theorem State.modSafety_recd (f : SafetySt → SafetySt) : (s.modSafety f).recd = s.recd := rfl
@[simp] theorem State.modSafety_health (f : SafetySt → SafetySt) : (s.modSafety f).health = s.health := rfl
@[simp] theorem State.modSafety_chk (f : SafetySt → SafetySt) : (s.modSafety f).chk = s.chk := rfl
@[simp] theorem State.modSafety_free (f : SafetySt → SafetySt) : (s.modSafety f).free = s.free := rfl
@[simp] theorem State.modSafety_pending (f : SafetySt → SafetySt) : (s.modSafety f).pending = s.pending := rfl

/-! ### `modSep` -/

@[simp] theorem State.modSep_power (f : SepSt → SepSt) : (s.modSep f).power = s.power := rfl
@[simp] theorem State.modSep_host (f : SepSt → SepSt) : (s.modSep f).host = s.host := rfl
@[simp] theorem State.modSep_par (f : SepSt → SepSt) : (s.modSep f).par = s.par := rfl
@[simp] theorem State.modSep_cell (f : SepSt → SepSt) : (s.modSep f).cell = s.cell := rfl
@[simp] theorem State.modSep_tick (f : SepSt → SepSt) : (s.modSep f).tick = s.tick := rfl
@[simp] theorem State.modSep_axes (f : SepSt → SepSt) : (s.modSep f).axes = s.axes := rfl
@[simp] theorem State.modSep_queues (f : SepSt → SepSt) : (s.modSep f).queues = s.queues := rfl
@[simp] theorem State.modSep_sigma (f : SepSt → SepSt) : (s.modSep f).sigma = s.sigma := rfl
@[simp] theorem State.modSep_supply (f : SepSt → SepSt) : (s.modSep f).supply = s.supply := rfl
@[simp] theorem State.modSep_ports (f : SepSt → SepSt) : (s.modSep f).ports = s.ports := rfl
@[simp] theorem State.modSep_cmps (f : SepSt → SepSt) : (s.modSep f).cmps = s.cmps := rfl
@[simp] theorem State.modSep_sep (f : SepSt → SepSt) : (s.modSep f).sep = f s.sep := rfl
@[simp] theorem State.modSep_solver (f : SepSt → SepSt) : (s.modSep f).solver = s.solver := rfl
@[simp] theorem State.modSep_safety (f : SepSt → SepSt) : (s.modSep f).safety = s.safety := rfl
@[simp] theorem State.modSep_selide (f : SepSt → SepSt) : (s.modSep f).selide = s.selide := rfl
@[simp] theorem State.modSep_link (f : SepSt → SepSt) : (s.modSep f).link = s.link := rfl
@[simp] theorem State.modSep_lanes (f : SepSt → SepSt) : (s.modSep f).lanes = s.lanes := rfl
@[simp] theorem State.modSep_time (f : SepSt → SepSt) : (s.modSep f).time = s.time := rfl
@[simp] theorem State.modSep_can (f : SepSt → SepSt) : (s.modSep f).can = s.can := rfl
@[simp] theorem State.modSep_recd (f : SepSt → SepSt) : (s.modSep f).recd = s.recd := rfl
@[simp] theorem State.modSep_health (f : SepSt → SepSt) : (s.modSep f).health = s.health := rfl
@[simp] theorem State.modSep_chk (f : SepSt → SepSt) : (s.modSep f).chk = s.chk := rfl
@[simp] theorem State.modSep_free (f : SepSt → SepSt) : (s.modSep f).free = s.free := rfl
@[simp] theorem State.modSep_pending (f : SepSt → SepSt) : (s.modSep f).pending = s.pending := rfl

/-! ### `modSolver` -/

@[simp] theorem State.modSolver_power (f : SolverSt → SolverSt) : (s.modSolver f).power = s.power := rfl
@[simp] theorem State.modSolver_host (f : SolverSt → SolverSt) : (s.modSolver f).host = s.host := rfl
@[simp] theorem State.modSolver_par (f : SolverSt → SolverSt) : (s.modSolver f).par = s.par := rfl
@[simp] theorem State.modSolver_cell (f : SolverSt → SolverSt) : (s.modSolver f).cell = s.cell := rfl
@[simp] theorem State.modSolver_tick (f : SolverSt → SolverSt) : (s.modSolver f).tick = s.tick := rfl
@[simp] theorem State.modSolver_axes (f : SolverSt → SolverSt) : (s.modSolver f).axes = s.axes := rfl
@[simp] theorem State.modSolver_queues (f : SolverSt → SolverSt) : (s.modSolver f).queues = s.queues := rfl
@[simp] theorem State.modSolver_sigma (f : SolverSt → SolverSt) : (s.modSolver f).sigma = s.sigma := rfl
@[simp] theorem State.modSolver_supply (f : SolverSt → SolverSt) : (s.modSolver f).supply = s.supply := rfl
@[simp] theorem State.modSolver_ports (f : SolverSt → SolverSt) : (s.modSolver f).ports = s.ports := rfl
@[simp] theorem State.modSolver_cmps (f : SolverSt → SolverSt) : (s.modSolver f).cmps = s.cmps := rfl
@[simp] theorem State.modSolver_sep (f : SolverSt → SolverSt) : (s.modSolver f).sep = s.sep := rfl
@[simp] theorem State.modSolver_solver (f : SolverSt → SolverSt) : (s.modSolver f).solver = f s.solver := rfl
@[simp] theorem State.modSolver_safety (f : SolverSt → SolverSt) : (s.modSolver f).safety = s.safety := rfl
@[simp] theorem State.modSolver_selide (f : SolverSt → SolverSt) : (s.modSolver f).selide = s.selide := rfl
@[simp] theorem State.modSolver_link (f : SolverSt → SolverSt) : (s.modSolver f).link = s.link := rfl
@[simp] theorem State.modSolver_lanes (f : SolverSt → SolverSt) : (s.modSolver f).lanes = s.lanes := rfl
@[simp] theorem State.modSolver_time (f : SolverSt → SolverSt) : (s.modSolver f).time = s.time := rfl
@[simp] theorem State.modSolver_can (f : SolverSt → SolverSt) : (s.modSolver f).can = s.can := rfl
@[simp] theorem State.modSolver_recd (f : SolverSt → SolverSt) : (s.modSolver f).recd = s.recd := rfl
@[simp] theorem State.modSolver_health (f : SolverSt → SolverSt) : (s.modSolver f).health = s.health := rfl
@[simp] theorem State.modSolver_chk (f : SolverSt → SolverSt) : (s.modSolver f).chk = s.chk := rfl
@[simp] theorem State.modSolver_free (f : SolverSt → SolverSt) : (s.modSolver f).free = s.free := rfl
@[simp] theorem State.modSolver_pending (f : SolverSt → SolverSt) : (s.modSolver f).pending = s.pending := rfl

/-! ### `modSelide` -/

@[simp] theorem State.modSelide_power (f : SelideSt → SelideSt) : (s.modSelide f).power = s.power := rfl
@[simp] theorem State.modSelide_host (f : SelideSt → SelideSt) : (s.modSelide f).host = s.host := rfl
@[simp] theorem State.modSelide_par (f : SelideSt → SelideSt) : (s.modSelide f).par = s.par := rfl
@[simp] theorem State.modSelide_cell (f : SelideSt → SelideSt) : (s.modSelide f).cell = s.cell := rfl
@[simp] theorem State.modSelide_tick (f : SelideSt → SelideSt) : (s.modSelide f).tick = s.tick := rfl
@[simp] theorem State.modSelide_axes (f : SelideSt → SelideSt) : (s.modSelide f).axes = s.axes := rfl
@[simp] theorem State.modSelide_queues (f : SelideSt → SelideSt) : (s.modSelide f).queues = s.queues := rfl
@[simp] theorem State.modSelide_sigma (f : SelideSt → SelideSt) : (s.modSelide f).sigma = s.sigma := rfl
@[simp] theorem State.modSelide_supply (f : SelideSt → SelideSt) : (s.modSelide f).supply = s.supply := rfl
@[simp] theorem State.modSelide_ports (f : SelideSt → SelideSt) : (s.modSelide f).ports = s.ports := rfl
@[simp] theorem State.modSelide_cmps (f : SelideSt → SelideSt) : (s.modSelide f).cmps = s.cmps := rfl
@[simp] theorem State.modSelide_sep (f : SelideSt → SelideSt) : (s.modSelide f).sep = s.sep := rfl
@[simp] theorem State.modSelide_solver (f : SelideSt → SelideSt) : (s.modSelide f).solver = s.solver := rfl
@[simp] theorem State.modSelide_safety (f : SelideSt → SelideSt) : (s.modSelide f).safety = s.safety := rfl
@[simp] theorem State.modSelide_selide (f : SelideSt → SelideSt) : (s.modSelide f).selide = f s.selide := rfl
@[simp] theorem State.modSelide_link (f : SelideSt → SelideSt) : (s.modSelide f).link = s.link := rfl
@[simp] theorem State.modSelide_lanes (f : SelideSt → SelideSt) : (s.modSelide f).lanes = s.lanes := rfl
@[simp] theorem State.modSelide_time (f : SelideSt → SelideSt) : (s.modSelide f).time = s.time := rfl
@[simp] theorem State.modSelide_can (f : SelideSt → SelideSt) : (s.modSelide f).can = s.can := rfl
@[simp] theorem State.modSelide_recd (f : SelideSt → SelideSt) : (s.modSelide f).recd = s.recd := rfl
@[simp] theorem State.modSelide_health (f : SelideSt → SelideSt) : (s.modSelide f).health = s.health := rfl
@[simp] theorem State.modSelide_chk (f : SelideSt → SelideSt) : (s.modSelide f).chk = s.chk := rfl
@[simp] theorem State.modSelide_free (f : SelideSt → SelideSt) : (s.modSelide f).free = s.free := rfl
@[simp] theorem State.modSelide_pending (f : SelideSt → SelideSt) : (s.modSelide f).pending = s.pending := rfl

/-! ### `modLink` -/

@[simp] theorem State.modLink_power (f : LinkSt → LinkSt) : (s.modLink f).power = s.power := rfl
@[simp] theorem State.modLink_host (f : LinkSt → LinkSt) : (s.modLink f).host = s.host := rfl
@[simp] theorem State.modLink_par (f : LinkSt → LinkSt) : (s.modLink f).par = s.par := rfl
@[simp] theorem State.modLink_cell (f : LinkSt → LinkSt) : (s.modLink f).cell = s.cell := rfl
@[simp] theorem State.modLink_tick (f : LinkSt → LinkSt) : (s.modLink f).tick = s.tick := rfl
@[simp] theorem State.modLink_axes (f : LinkSt → LinkSt) : (s.modLink f).axes = s.axes := rfl
@[simp] theorem State.modLink_queues (f : LinkSt → LinkSt) : (s.modLink f).queues = s.queues := rfl
@[simp] theorem State.modLink_sigma (f : LinkSt → LinkSt) : (s.modLink f).sigma = s.sigma := rfl
@[simp] theorem State.modLink_supply (f : LinkSt → LinkSt) : (s.modLink f).supply = s.supply := rfl
@[simp] theorem State.modLink_ports (f : LinkSt → LinkSt) : (s.modLink f).ports = s.ports := rfl
@[simp] theorem State.modLink_cmps (f : LinkSt → LinkSt) : (s.modLink f).cmps = s.cmps := rfl
@[simp] theorem State.modLink_sep (f : LinkSt → LinkSt) : (s.modLink f).sep = s.sep := rfl
@[simp] theorem State.modLink_solver (f : LinkSt → LinkSt) : (s.modLink f).solver = s.solver := rfl
@[simp] theorem State.modLink_safety (f : LinkSt → LinkSt) : (s.modLink f).safety = s.safety := rfl
@[simp] theorem State.modLink_selide (f : LinkSt → LinkSt) : (s.modLink f).selide = s.selide := rfl
@[simp] theorem State.modLink_link (f : LinkSt → LinkSt) : (s.modLink f).link = f s.link := rfl
@[simp] theorem State.modLink_lanes (f : LinkSt → LinkSt) : (s.modLink f).lanes = s.lanes := rfl
@[simp] theorem State.modLink_time (f : LinkSt → LinkSt) : (s.modLink f).time = s.time := rfl
@[simp] theorem State.modLink_can (f : LinkSt → LinkSt) : (s.modLink f).can = s.can := rfl
@[simp] theorem State.modLink_recd (f : LinkSt → LinkSt) : (s.modLink f).recd = s.recd := rfl
@[simp] theorem State.modLink_health (f : LinkSt → LinkSt) : (s.modLink f).health = s.health := rfl
@[simp] theorem State.modLink_chk (f : LinkSt → LinkSt) : (s.modLink f).chk = s.chk := rfl
@[simp] theorem State.modLink_free (f : LinkSt → LinkSt) : (s.modLink f).free = s.free := rfl
@[simp] theorem State.modLink_pending (f : LinkSt → LinkSt) : (s.modLink f).pending = s.pending := rfl

/-! ### `modLanes` -/

@[simp] theorem State.modLanes_power (f : LanesSt → LanesSt) : (s.modLanes f).power = s.power := rfl
@[simp] theorem State.modLanes_host (f : LanesSt → LanesSt) : (s.modLanes f).host = s.host := rfl
@[simp] theorem State.modLanes_par (f : LanesSt → LanesSt) : (s.modLanes f).par = s.par := rfl
@[simp] theorem State.modLanes_cell (f : LanesSt → LanesSt) : (s.modLanes f).cell = s.cell := rfl
@[simp] theorem State.modLanes_tick (f : LanesSt → LanesSt) : (s.modLanes f).tick = s.tick := rfl
@[simp] theorem State.modLanes_axes (f : LanesSt → LanesSt) : (s.modLanes f).axes = s.axes := rfl
@[simp] theorem State.modLanes_queues (f : LanesSt → LanesSt) : (s.modLanes f).queues = s.queues := rfl
@[simp] theorem State.modLanes_sigma (f : LanesSt → LanesSt) : (s.modLanes f).sigma = s.sigma := rfl
@[simp] theorem State.modLanes_supply (f : LanesSt → LanesSt) : (s.modLanes f).supply = s.supply := rfl
@[simp] theorem State.modLanes_ports (f : LanesSt → LanesSt) : (s.modLanes f).ports = s.ports := rfl
@[simp] theorem State.modLanes_cmps (f : LanesSt → LanesSt) : (s.modLanes f).cmps = s.cmps := rfl
@[simp] theorem State.modLanes_sep (f : LanesSt → LanesSt) : (s.modLanes f).sep = s.sep := rfl
@[simp] theorem State.modLanes_solver (f : LanesSt → LanesSt) : (s.modLanes f).solver = s.solver := rfl
@[simp] theorem State.modLanes_safety (f : LanesSt → LanesSt) : (s.modLanes f).safety = s.safety := rfl
@[simp] theorem State.modLanes_selide (f : LanesSt → LanesSt) : (s.modLanes f).selide = s.selide := rfl
@[simp] theorem State.modLanes_link (f : LanesSt → LanesSt) : (s.modLanes f).link = s.link := rfl
@[simp] theorem State.modLanes_lanes (f : LanesSt → LanesSt) : (s.modLanes f).lanes = f s.lanes := rfl
@[simp] theorem State.modLanes_time (f : LanesSt → LanesSt) : (s.modLanes f).time = s.time := rfl
@[simp] theorem State.modLanes_can (f : LanesSt → LanesSt) : (s.modLanes f).can = s.can := rfl
@[simp] theorem State.modLanes_recd (f : LanesSt → LanesSt) : (s.modLanes f).recd = s.recd := rfl
@[simp] theorem State.modLanes_health (f : LanesSt → LanesSt) : (s.modLanes f).health = s.health := rfl
@[simp] theorem State.modLanes_chk (f : LanesSt → LanesSt) : (s.modLanes f).chk = s.chk := rfl
@[simp] theorem State.modLanes_free (f : LanesSt → LanesSt) : (s.modLanes f).free = s.free := rfl
@[simp] theorem State.modLanes_pending (f : LanesSt → LanesSt) : (s.modLanes f).pending = s.pending := rfl

/-! ### `modTime` -/

@[simp] theorem State.modTime_power (f : TimeSt → TimeSt) : (s.modTime f).power = s.power := rfl
@[simp] theorem State.modTime_host (f : TimeSt → TimeSt) : (s.modTime f).host = s.host := rfl
@[simp] theorem State.modTime_par (f : TimeSt → TimeSt) : (s.modTime f).par = s.par := rfl
@[simp] theorem State.modTime_cell (f : TimeSt → TimeSt) : (s.modTime f).cell = s.cell := rfl
@[simp] theorem State.modTime_tick (f : TimeSt → TimeSt) : (s.modTime f).tick = s.tick := rfl
@[simp] theorem State.modTime_axes (f : TimeSt → TimeSt) : (s.modTime f).axes = s.axes := rfl
@[simp] theorem State.modTime_queues (f : TimeSt → TimeSt) : (s.modTime f).queues = s.queues := rfl
@[simp] theorem State.modTime_sigma (f : TimeSt → TimeSt) : (s.modTime f).sigma = s.sigma := rfl
@[simp] theorem State.modTime_supply (f : TimeSt → TimeSt) : (s.modTime f).supply = s.supply := rfl
@[simp] theorem State.modTime_ports (f : TimeSt → TimeSt) : (s.modTime f).ports = s.ports := rfl
@[simp] theorem State.modTime_cmps (f : TimeSt → TimeSt) : (s.modTime f).cmps = s.cmps := rfl
@[simp] theorem State.modTime_sep (f : TimeSt → TimeSt) : (s.modTime f).sep = s.sep := rfl
@[simp] theorem State.modTime_solver (f : TimeSt → TimeSt) : (s.modTime f).solver = s.solver := rfl
@[simp] theorem State.modTime_safety (f : TimeSt → TimeSt) : (s.modTime f).safety = s.safety := rfl
@[simp] theorem State.modTime_selide (f : TimeSt → TimeSt) : (s.modTime f).selide = s.selide := rfl
@[simp] theorem State.modTime_link (f : TimeSt → TimeSt) : (s.modTime f).link = s.link := rfl
@[simp] theorem State.modTime_lanes (f : TimeSt → TimeSt) : (s.modTime f).lanes = s.lanes := rfl
@[simp] theorem State.modTime_time (f : TimeSt → TimeSt) : (s.modTime f).time = f s.time := rfl
@[simp] theorem State.modTime_can (f : TimeSt → TimeSt) : (s.modTime f).can = s.can := rfl
@[simp] theorem State.modTime_recd (f : TimeSt → TimeSt) : (s.modTime f).recd = s.recd := rfl
@[simp] theorem State.modTime_health (f : TimeSt → TimeSt) : (s.modTime f).health = s.health := rfl
@[simp] theorem State.modTime_chk (f : TimeSt → TimeSt) : (s.modTime f).chk = s.chk := rfl
@[simp] theorem State.modTime_free (f : TimeSt → TimeSt) : (s.modTime f).free = s.free := rfl
@[simp] theorem State.modTime_pending (f : TimeSt → TimeSt) : (s.modTime f).pending = s.pending := rfl

/-! ### `modHealth` -/

@[simp] theorem State.modHealth_power (f : HealthSt → HealthSt) : (s.modHealth f).power = s.power := rfl
@[simp] theorem State.modHealth_host (f : HealthSt → HealthSt) : (s.modHealth f).host = s.host := rfl
@[simp] theorem State.modHealth_par (f : HealthSt → HealthSt) : (s.modHealth f).par = s.par := rfl
@[simp] theorem State.modHealth_cell (f : HealthSt → HealthSt) : (s.modHealth f).cell = s.cell := rfl
@[simp] theorem State.modHealth_tick (f : HealthSt → HealthSt) : (s.modHealth f).tick = s.tick := rfl
@[simp] theorem State.modHealth_axes (f : HealthSt → HealthSt) : (s.modHealth f).axes = s.axes := rfl
@[simp] theorem State.modHealth_queues (f : HealthSt → HealthSt) : (s.modHealth f).queues = s.queues := rfl
@[simp] theorem State.modHealth_sigma (f : HealthSt → HealthSt) : (s.modHealth f).sigma = s.sigma := rfl
@[simp] theorem State.modHealth_supply (f : HealthSt → HealthSt) : (s.modHealth f).supply = s.supply := rfl
@[simp] theorem State.modHealth_ports (f : HealthSt → HealthSt) : (s.modHealth f).ports = s.ports := rfl
@[simp] theorem State.modHealth_cmps (f : HealthSt → HealthSt) : (s.modHealth f).cmps = s.cmps := rfl
@[simp] theorem State.modHealth_sep (f : HealthSt → HealthSt) : (s.modHealth f).sep = s.sep := rfl
@[simp] theorem State.modHealth_solver (f : HealthSt → HealthSt) : (s.modHealth f).solver = s.solver := rfl
@[simp] theorem State.modHealth_safety (f : HealthSt → HealthSt) : (s.modHealth f).safety = s.safety := rfl
@[simp] theorem State.modHealth_selide (f : HealthSt → HealthSt) : (s.modHealth f).selide = s.selide := rfl
@[simp] theorem State.modHealth_link (f : HealthSt → HealthSt) : (s.modHealth f).link = s.link := rfl
@[simp] theorem State.modHealth_lanes (f : HealthSt → HealthSt) : (s.modHealth f).lanes = s.lanes := rfl
@[simp] theorem State.modHealth_time (f : HealthSt → HealthSt) : (s.modHealth f).time = s.time := rfl
@[simp] theorem State.modHealth_can (f : HealthSt → HealthSt) : (s.modHealth f).can = s.can := rfl
@[simp] theorem State.modHealth_recd (f : HealthSt → HealthSt) : (s.modHealth f).recd = s.recd := rfl
@[simp] theorem State.modHealth_health (f : HealthSt → HealthSt) : (s.modHealth f).health = f s.health := rfl
@[simp] theorem State.modHealth_chk (f : HealthSt → HealthSt) : (s.modHealth f).chk = s.chk := rfl
@[simp] theorem State.modHealth_free (f : HealthSt → HealthSt) : (s.modHealth f).free = s.free := rfl
@[simp] theorem State.modHealth_pending (f : HealthSt → HealthSt) : (s.modHealth f).pending = s.pending := rfl

/-! ### `modPower` -/

@[simp] theorem State.modPower_power (f : PowerSt → PowerSt) : (s.modPower f).power = f s.power := rfl
@[simp] theorem State.modPower_host (f : PowerSt → PowerSt) : (s.modPower f).host = s.host := rfl
@[simp] theorem State.modPower_par (f : PowerSt → PowerSt) : (s.modPower f).par = s.par := rfl
@[simp] theorem State.modPower_cell (f : PowerSt → PowerSt) : (s.modPower f).cell = s.cell := rfl
@[simp] theorem State.modPower_tick (f : PowerSt → PowerSt) : (s.modPower f).tick = s.tick := rfl
@[simp] theorem State.modPower_axes (f : PowerSt → PowerSt) : (s.modPower f).axes = s.axes := rfl
@[simp] theorem State.modPower_queues (f : PowerSt → PowerSt) : (s.modPower f).queues = s.queues := rfl
@[simp] theorem State.modPower_sigma (f : PowerSt → PowerSt) : (s.modPower f).sigma = s.sigma := rfl
@[simp] theorem State.modPower_supply (f : PowerSt → PowerSt) : (s.modPower f).supply = s.supply := rfl
@[simp] theorem State.modPower_ports (f : PowerSt → PowerSt) : (s.modPower f).ports = s.ports := rfl
@[simp] theorem State.modPower_cmps (f : PowerSt → PowerSt) : (s.modPower f).cmps = s.cmps := rfl
@[simp] theorem State.modPower_sep (f : PowerSt → PowerSt) : (s.modPower f).sep = s.sep := rfl
@[simp] theorem State.modPower_solver (f : PowerSt → PowerSt) : (s.modPower f).solver = s.solver := rfl
@[simp] theorem State.modPower_safety (f : PowerSt → PowerSt) : (s.modPower f).safety = s.safety := rfl
@[simp] theorem State.modPower_selide (f : PowerSt → PowerSt) : (s.modPower f).selide = s.selide := rfl
@[simp] theorem State.modPower_link (f : PowerSt → PowerSt) : (s.modPower f).link = s.link := rfl
@[simp] theorem State.modPower_lanes (f : PowerSt → PowerSt) : (s.modPower f).lanes = s.lanes := rfl
@[simp] theorem State.modPower_time (f : PowerSt → PowerSt) : (s.modPower f).time = s.time := rfl
@[simp] theorem State.modPower_can (f : PowerSt → PowerSt) : (s.modPower f).can = s.can := rfl
@[simp] theorem State.modPower_recd (f : PowerSt → PowerSt) : (s.modPower f).recd = s.recd := rfl
@[simp] theorem State.modPower_health (f : PowerSt → PowerSt) : (s.modPower f).health = s.health := rfl
@[simp] theorem State.modPower_chk (f : PowerSt → PowerSt) : (s.modPower f).chk = s.chk := rfl
@[simp] theorem State.modPower_free (f : PowerSt → PowerSt) : (s.modPower f).free = s.free := rfl
@[simp] theorem State.modPower_pending (f : PowerSt → PowerSt) : (s.modPower f).pending = s.pending := rfl

/-! ### `modRec` -/

@[simp] theorem State.modRec_power (f : RecSt → RecSt) : (s.modRec f).power = s.power := rfl
@[simp] theorem State.modRec_host (f : RecSt → RecSt) : (s.modRec f).host = s.host := rfl
@[simp] theorem State.modRec_par (f : RecSt → RecSt) : (s.modRec f).par = s.par := rfl
@[simp] theorem State.modRec_cell (f : RecSt → RecSt) : (s.modRec f).cell = s.cell := rfl
@[simp] theorem State.modRec_tick (f : RecSt → RecSt) : (s.modRec f).tick = s.tick := rfl
@[simp] theorem State.modRec_axes (f : RecSt → RecSt) : (s.modRec f).axes = s.axes := rfl
@[simp] theorem State.modRec_queues (f : RecSt → RecSt) : (s.modRec f).queues = s.queues := rfl
@[simp] theorem State.modRec_sigma (f : RecSt → RecSt) : (s.modRec f).sigma = s.sigma := rfl
@[simp] theorem State.modRec_supply (f : RecSt → RecSt) : (s.modRec f).supply = s.supply := rfl
@[simp] theorem State.modRec_ports (f : RecSt → RecSt) : (s.modRec f).ports = s.ports := rfl
@[simp] theorem State.modRec_cmps (f : RecSt → RecSt) : (s.modRec f).cmps = s.cmps := rfl
@[simp] theorem State.modRec_sep (f : RecSt → RecSt) : (s.modRec f).sep = s.sep := rfl
@[simp] theorem State.modRec_solver (f : RecSt → RecSt) : (s.modRec f).solver = s.solver := rfl
@[simp] theorem State.modRec_safety (f : RecSt → RecSt) : (s.modRec f).safety = s.safety := rfl
@[simp] theorem State.modRec_selide (f : RecSt → RecSt) : (s.modRec f).selide = s.selide := rfl
@[simp] theorem State.modRec_link (f : RecSt → RecSt) : (s.modRec f).link = s.link := rfl
@[simp] theorem State.modRec_lanes (f : RecSt → RecSt) : (s.modRec f).lanes = s.lanes := rfl
@[simp] theorem State.modRec_time (f : RecSt → RecSt) : (s.modRec f).time = s.time := rfl
@[simp] theorem State.modRec_can (f : RecSt → RecSt) : (s.modRec f).can = s.can := rfl
@[simp] theorem State.modRec_recd (f : RecSt → RecSt) : (s.modRec f).recd = f s.recd := rfl
@[simp] theorem State.modRec_health (f : RecSt → RecSt) : (s.modRec f).health = s.health := rfl
@[simp] theorem State.modRec_chk (f : RecSt → RecSt) : (s.modRec f).chk = s.chk := rfl
@[simp] theorem State.modRec_free (f : RecSt → RecSt) : (s.modRec f).free = s.free := rfl
@[simp] theorem State.modRec_pending (f : RecSt → RecSt) : (s.modRec f).pending = s.pending := rfl

/-! ### `modSupply` -/

@[simp] theorem State.modSupply_power (f : SupplySt → SupplySt) : (s.modSupply f).power = s.power := rfl
@[simp] theorem State.modSupply_host (f : SupplySt → SupplySt) : (s.modSupply f).host = s.host := rfl
@[simp] theorem State.modSupply_par (f : SupplySt → SupplySt) : (s.modSupply f).par = s.par := rfl
@[simp] theorem State.modSupply_cell (f : SupplySt → SupplySt) : (s.modSupply f).cell = s.cell := rfl
@[simp] theorem State.modSupply_tick (f : SupplySt → SupplySt) : (s.modSupply f).tick = s.tick := rfl
@[simp] theorem State.modSupply_axes (f : SupplySt → SupplySt) : (s.modSupply f).axes = s.axes := rfl
@[simp] theorem State.modSupply_queues (f : SupplySt → SupplySt) : (s.modSupply f).queues = s.queues := rfl
@[simp] theorem State.modSupply_sigma (f : SupplySt → SupplySt) : (s.modSupply f).sigma = s.sigma := rfl
@[simp] theorem State.modSupply_supply (f : SupplySt → SupplySt) : (s.modSupply f).supply = f s.supply := rfl
@[simp] theorem State.modSupply_ports (f : SupplySt → SupplySt) : (s.modSupply f).ports = s.ports := rfl
@[simp] theorem State.modSupply_cmps (f : SupplySt → SupplySt) : (s.modSupply f).cmps = s.cmps := rfl
@[simp] theorem State.modSupply_sep (f : SupplySt → SupplySt) : (s.modSupply f).sep = s.sep := rfl
@[simp] theorem State.modSupply_solver (f : SupplySt → SupplySt) : (s.modSupply f).solver = s.solver := rfl
@[simp] theorem State.modSupply_safety (f : SupplySt → SupplySt) : (s.modSupply f).safety = s.safety := rfl
@[simp] theorem State.modSupply_selide (f : SupplySt → SupplySt) : (s.modSupply f).selide = s.selide := rfl
@[simp] theorem State.modSupply_link (f : SupplySt → SupplySt) : (s.modSupply f).link = s.link := rfl
@[simp] theorem State.modSupply_lanes (f : SupplySt → SupplySt) : (s.modSupply f).lanes = s.lanes := rfl
@[simp] theorem State.modSupply_time (f : SupplySt → SupplySt) : (s.modSupply f).time = s.time := rfl
@[simp] theorem State.modSupply_can (f : SupplySt → SupplySt) : (s.modSupply f).can = s.can := rfl
@[simp] theorem State.modSupply_recd (f : SupplySt → SupplySt) : (s.modSupply f).recd = s.recd := rfl
@[simp] theorem State.modSupply_health (f : SupplySt → SupplySt) : (s.modSupply f).health = s.health := rfl
@[simp] theorem State.modSupply_chk (f : SupplySt → SupplySt) : (s.modSupply f).chk = s.chk := rfl
@[simp] theorem State.modSupply_free (f : SupplySt → SupplySt) : (s.modSupply f).free = s.free := rfl
@[simp] theorem State.modSupply_pending (f : SupplySt → SupplySt) : (s.modSupply f).pending = s.pending := rfl

/-! ### `modNode` -/

@[simp] theorem State.modNode_power (n : Nat) (f : NodeSt → NodeSt) : (s.modNode n f).power = s.power := rfl
@[simp] theorem State.modNode_host (n : Nat) (f : NodeSt → NodeSt) : (s.modNode n f).host = s.host := rfl
@[simp] theorem State.modNode_par (n : Nat) (f : NodeSt → NodeSt) : (s.modNode n f).par = s.par := rfl
@[simp] theorem State.modNode_cell (n : Nat) (f : NodeSt → NodeSt) : (s.modNode n f).cell = s.cell := rfl
@[simp] theorem State.modNode_tick (n : Nat) (f : NodeSt → NodeSt) : (s.modNode n f).tick = s.tick := rfl
@[simp] theorem State.modNode_axes (n : Nat) (f : NodeSt → NodeSt) : (s.modNode n f).axes = s.axes := rfl
@[simp] theorem State.modNode_queues (n : Nat) (f : NodeSt → NodeSt) : (s.modNode n f).queues = s.queues := rfl
@[simp] theorem State.modNode_sigma (n : Nat) (f : NodeSt → NodeSt) : (s.modNode n f).sigma = s.sigma := rfl
@[simp] theorem State.modNode_supply (n : Nat) (f : NodeSt → NodeSt) : (s.modNode n f).supply = s.supply := rfl
@[simp] theorem State.modNode_ports (n : Nat) (f : NodeSt → NodeSt) : (s.modNode n f).ports = s.ports := rfl
@[simp] theorem State.modNode_cmps (n : Nat) (f : NodeSt → NodeSt) : (s.modNode n f).cmps = s.cmps := rfl
@[simp] theorem State.modNode_sep (n : Nat) (f : NodeSt → NodeSt) : (s.modNode n f).sep = s.sep := rfl
@[simp] theorem State.modNode_solver (n : Nat) (f : NodeSt → NodeSt) : (s.modNode n f).solver = s.solver := rfl
@[simp] theorem State.modNode_safety (n : Nat) (f : NodeSt → NodeSt) : (s.modNode n f).safety = s.safety := rfl
@[simp] theorem State.modNode_link (n : Nat) (f : NodeSt → NodeSt) : (s.modNode n f).link = s.link := rfl
@[simp] theorem State.modNode_lanes (n : Nat) (f : NodeSt → NodeSt) : (s.modNode n f).lanes = s.lanes := rfl
@[simp] theorem State.modNode_time (n : Nat) (f : NodeSt → NodeSt) : (s.modNode n f).time = s.time := rfl
@[simp] theorem State.modNode_can (n : Nat) (f : NodeSt → NodeSt) : (s.modNode n f).can = s.can := rfl
@[simp] theorem State.modNode_recd (n : Nat) (f : NodeSt → NodeSt) : (s.modNode n f).recd = s.recd := rfl
@[simp] theorem State.modNode_health (n : Nat) (f : NodeSt → NodeSt) : (s.modNode n f).health = s.health := rfl
@[simp] theorem State.modNode_chk (n : Nat) (f : NodeSt → NodeSt) : (s.modNode n f).chk = s.chk := rfl
@[simp] theorem State.modNode_free (n : Nat) (f : NodeSt → NodeSt) : (s.modNode n f).free = s.free := rfl
@[simp] theorem State.modNode_pending (n : Nat) (f : NodeSt → NodeSt) : (s.modNode n f).pending = s.pending := rfl

/-! ### `modTrunk` -/

@[simp] theorem State.modTrunk_power (k : Nat) (f : TrunkSt → TrunkSt) : (s.modTrunk k f).power = s.power := rfl
@[simp] theorem State.modTrunk_host (k : Nat) (f : TrunkSt → TrunkSt) : (s.modTrunk k f).host = s.host := rfl
@[simp] theorem State.modTrunk_par (k : Nat) (f : TrunkSt → TrunkSt) : (s.modTrunk k f).par = s.par := rfl
@[simp] theorem State.modTrunk_cell (k : Nat) (f : TrunkSt → TrunkSt) : (s.modTrunk k f).cell = s.cell := rfl
@[simp] theorem State.modTrunk_tick (k : Nat) (f : TrunkSt → TrunkSt) : (s.modTrunk k f).tick = s.tick := rfl
@[simp] theorem State.modTrunk_axes (k : Nat) (f : TrunkSt → TrunkSt) : (s.modTrunk k f).axes = s.axes := rfl
@[simp] theorem State.modTrunk_queues (k : Nat) (f : TrunkSt → TrunkSt) : (s.modTrunk k f).queues = s.queues := rfl
@[simp] theorem State.modTrunk_sigma (k : Nat) (f : TrunkSt → TrunkSt) : (s.modTrunk k f).sigma = s.sigma := rfl
@[simp] theorem State.modTrunk_supply (k : Nat) (f : TrunkSt → TrunkSt) : (s.modTrunk k f).supply = s.supply := rfl
@[simp] theorem State.modTrunk_ports (k : Nat) (f : TrunkSt → TrunkSt) : (s.modTrunk k f).ports = s.ports := rfl
@[simp] theorem State.modTrunk_cmps (k : Nat) (f : TrunkSt → TrunkSt) : (s.modTrunk k f).cmps = s.cmps := rfl
@[simp] theorem State.modTrunk_sep (k : Nat) (f : TrunkSt → TrunkSt) : (s.modTrunk k f).sep = s.sep := rfl
@[simp] theorem State.modTrunk_solver (k : Nat) (f : TrunkSt → TrunkSt) : (s.modTrunk k f).solver = s.solver := rfl
@[simp] theorem State.modTrunk_safety (k : Nat) (f : TrunkSt → TrunkSt) : (s.modTrunk k f).safety = s.safety := rfl
@[simp] theorem State.modTrunk_link (k : Nat) (f : TrunkSt → TrunkSt) : (s.modTrunk k f).link = s.link := rfl
@[simp] theorem State.modTrunk_lanes (k : Nat) (f : TrunkSt → TrunkSt) : (s.modTrunk k f).lanes = s.lanes := rfl
@[simp] theorem State.modTrunk_time (k : Nat) (f : TrunkSt → TrunkSt) : (s.modTrunk k f).time = s.time := rfl
@[simp] theorem State.modTrunk_can (k : Nat) (f : TrunkSt → TrunkSt) : (s.modTrunk k f).can = s.can := rfl
@[simp] theorem State.modTrunk_recd (k : Nat) (f : TrunkSt → TrunkSt) : (s.modTrunk k f).recd = s.recd := rfl
@[simp] theorem State.modTrunk_health (k : Nat) (f : TrunkSt → TrunkSt) : (s.modTrunk k f).health = s.health := rfl
@[simp] theorem State.modTrunk_chk (k : Nat) (f : TrunkSt → TrunkSt) : (s.modTrunk k f).chk = s.chk := rfl
@[simp] theorem State.modTrunk_free (k : Nat) (f : TrunkSt → TrunkSt) : (s.modTrunk k f).free = s.free := rfl
@[simp] theorem State.modTrunk_pending (k : Nat) (f : TrunkSt → TrunkSt) : (s.modTrunk k f).pending = s.pending := rfl

/-! ### `modPair` -/

@[simp] theorem State.modPair_power (p : Nat) (f : PairSt → PairSt) : (s.modPair p f).power = s.power := rfl
@[simp] theorem State.modPair_host (p : Nat) (f : PairSt → PairSt) : (s.modPair p f).host = s.host := rfl
@[simp] theorem State.modPair_par (p : Nat) (f : PairSt → PairSt) : (s.modPair p f).par = s.par := rfl
@[simp] theorem State.modPair_cell (p : Nat) (f : PairSt → PairSt) : (s.modPair p f).cell = s.cell := rfl
@[simp] theorem State.modPair_tick (p : Nat) (f : PairSt → PairSt) : (s.modPair p f).tick = s.tick := rfl
@[simp] theorem State.modPair_axes (p : Nat) (f : PairSt → PairSt) : (s.modPair p f).axes = s.axes := rfl
@[simp] theorem State.modPair_queues (p : Nat) (f : PairSt → PairSt) : (s.modPair p f).queues = s.queues := rfl
@[simp] theorem State.modPair_sigma (p : Nat) (f : PairSt → PairSt) : (s.modPair p f).sigma = s.sigma := rfl
@[simp] theorem State.modPair_supply (p : Nat) (f : PairSt → PairSt) : (s.modPair p f).supply = s.supply := rfl
@[simp] theorem State.modPair_ports (p : Nat) (f : PairSt → PairSt) : (s.modPair p f).ports = s.ports := rfl
@[simp] theorem State.modPair_cmps (p : Nat) (f : PairSt → PairSt) : (s.modPair p f).cmps = s.cmps := rfl
@[simp] theorem State.modPair_sep (p : Nat) (f : PairSt → PairSt) : (s.modPair p f).sep = s.sep := rfl
@[simp] theorem State.modPair_solver (p : Nat) (f : PairSt → PairSt) : (s.modPair p f).solver = s.solver := rfl
@[simp] theorem State.modPair_safety (p : Nat) (f : PairSt → PairSt) : (s.modPair p f).safety = s.safety := rfl
@[simp] theorem State.modPair_selide (p : Nat) (f : PairSt → PairSt) : (s.modPair p f).selide = s.selide := rfl
@[simp] theorem State.modPair_link (p : Nat) (f : PairSt → PairSt) : (s.modPair p f).link = s.link := rfl
@[simp] theorem State.modPair_time (p : Nat) (f : PairSt → PairSt) : (s.modPair p f).time = s.time := rfl
@[simp] theorem State.modPair_can (p : Nat) (f : PairSt → PairSt) : (s.modPair p f).can = s.can := rfl
@[simp] theorem State.modPair_recd (p : Nat) (f : PairSt → PairSt) : (s.modPair p f).recd = s.recd := rfl
@[simp] theorem State.modPair_health (p : Nat) (f : PairSt → PairSt) : (s.modPair p f).health = s.health := rfl
@[simp] theorem State.modPair_chk (p : Nat) (f : PairSt → PairSt) : (s.modPair p f).chk = s.chk := rfl
@[simp] theorem State.modPair_free (p : Nat) (f : PairSt → PairSt) : (s.modPair p f).free = s.free := rfl
@[simp] theorem State.modPair_pending (p : Nat) (f : PairSt → PairSt) : (s.modPair p f).pending = s.pending := rfl

/-! ### `modLogLane` -/

@[simp] theorem State.modLogLane_power (l : Nat) (f : LogLane → LogLane) : (s.modLogLane l f).power = s.power := rfl
@[simp] theorem State.modLogLane_host (l : Nat) (f : LogLane → LogLane) : (s.modLogLane l f).host = s.host := rfl
@[simp] theorem State.modLogLane_par (l : Nat) (f : LogLane → LogLane) : (s.modLogLane l f).par = s.par := rfl
@[simp] theorem State.modLogLane_cell (l : Nat) (f : LogLane → LogLane) : (s.modLogLane l f).cell = s.cell := rfl
@[simp] theorem State.modLogLane_tick (l : Nat) (f : LogLane → LogLane) : (s.modLogLane l f).tick = s.tick := rfl
@[simp] theorem State.modLogLane_axes (l : Nat) (f : LogLane → LogLane) : (s.modLogLane l f).axes = s.axes := rfl
@[simp] theorem State.modLogLane_queues (l : Nat) (f : LogLane → LogLane) : (s.modLogLane l f).queues = s.queues := rfl
@[simp] theorem State.modLogLane_sigma (l : Nat) (f : LogLane → LogLane) : (s.modLogLane l f).sigma = s.sigma := rfl
@[simp] theorem State.modLogLane_supply (l : Nat) (f : LogLane → LogLane) : (s.modLogLane l f).supply = s.supply := rfl
@[simp] theorem State.modLogLane_ports (l : Nat) (f : LogLane → LogLane) : (s.modLogLane l f).ports = s.ports := rfl
@[simp] theorem State.modLogLane_cmps (l : Nat) (f : LogLane → LogLane) : (s.modLogLane l f).cmps = s.cmps := rfl
@[simp] theorem State.modLogLane_sep (l : Nat) (f : LogLane → LogLane) : (s.modLogLane l f).sep = s.sep := rfl
@[simp] theorem State.modLogLane_solver (l : Nat) (f : LogLane → LogLane) : (s.modLogLane l f).solver = s.solver := rfl
@[simp] theorem State.modLogLane_safety (l : Nat) (f : LogLane → LogLane) : (s.modLogLane l f).safety = s.safety := rfl
@[simp] theorem State.modLogLane_selide (l : Nat) (f : LogLane → LogLane) : (s.modLogLane l f).selide = s.selide := rfl
@[simp] theorem State.modLogLane_link (l : Nat) (f : LogLane → LogLane) : (s.modLogLane l f).link = s.link := rfl
@[simp] theorem State.modLogLane_time (l : Nat) (f : LogLane → LogLane) : (s.modLogLane l f).time = s.time := rfl
@[simp] theorem State.modLogLane_can (l : Nat) (f : LogLane → LogLane) : (s.modLogLane l f).can = s.can := rfl
@[simp] theorem State.modLogLane_recd (l : Nat) (f : LogLane → LogLane) : (s.modLogLane l f).recd = s.recd := rfl
@[simp] theorem State.modLogLane_health (l : Nat) (f : LogLane → LogLane) : (s.modLogLane l f).health = s.health := rfl
@[simp] theorem State.modLogLane_chk (l : Nat) (f : LogLane → LogLane) : (s.modLogLane l f).chk = s.chk := rfl
@[simp] theorem State.modLogLane_free (l : Nat) (f : LogLane → LogLane) : (s.modLogLane l f).free = s.free := rfl
@[simp] theorem State.modLogLane_pending (l : Nat) (f : LogLane → LogLane) : (s.modLogLane l f).pending = s.pending := rfl

/-! ### `modZone` -/

@[simp] theorem State.modZone_power (z : Nat) (f : ZoneSt → ZoneSt) : (s.modZone z f).power = s.power := rfl
@[simp] theorem State.modZone_host (z : Nat) (f : ZoneSt → ZoneSt) : (s.modZone z f).host = s.host := rfl
@[simp] theorem State.modZone_par (z : Nat) (f : ZoneSt → ZoneSt) : (s.modZone z f).par = s.par := rfl
@[simp] theorem State.modZone_cell (z : Nat) (f : ZoneSt → ZoneSt) : (s.modZone z f).cell = s.cell := rfl
@[simp] theorem State.modZone_tick (z : Nat) (f : ZoneSt → ZoneSt) : (s.modZone z f).tick = s.tick := rfl
@[simp] theorem State.modZone_axes (z : Nat) (f : ZoneSt → ZoneSt) : (s.modZone z f).axes = s.axes := rfl
@[simp] theorem State.modZone_queues (z : Nat) (f : ZoneSt → ZoneSt) : (s.modZone z f).queues = s.queues := rfl
@[simp] theorem State.modZone_sigma (z : Nat) (f : ZoneSt → ZoneSt) : (s.modZone z f).sigma = s.sigma := rfl
@[simp] theorem State.modZone_supply (z : Nat) (f : ZoneSt → ZoneSt) : (s.modZone z f).supply = s.supply := rfl
@[simp] theorem State.modZone_ports (z : Nat) (f : ZoneSt → ZoneSt) : (s.modZone z f).ports = s.ports := rfl
@[simp] theorem State.modZone_cmps (z : Nat) (f : ZoneSt → ZoneSt) : (s.modZone z f).cmps = s.cmps := rfl
@[simp] theorem State.modZone_sep (z : Nat) (f : ZoneSt → ZoneSt) : (s.modZone z f).sep = s.sep := rfl
@[simp] theorem State.modZone_solver (z : Nat) (f : ZoneSt → ZoneSt) : (s.modZone z f).solver = s.solver := rfl
@[simp] theorem State.modZone_selide (z : Nat) (f : ZoneSt → ZoneSt) : (s.modZone z f).selide = s.selide := rfl
@[simp] theorem State.modZone_link (z : Nat) (f : ZoneSt → ZoneSt) : (s.modZone z f).link = s.link := rfl
@[simp] theorem State.modZone_lanes (z : Nat) (f : ZoneSt → ZoneSt) : (s.modZone z f).lanes = s.lanes := rfl
@[simp] theorem State.modZone_time (z : Nat) (f : ZoneSt → ZoneSt) : (s.modZone z f).time = s.time := rfl
@[simp] theorem State.modZone_can (z : Nat) (f : ZoneSt → ZoneSt) : (s.modZone z f).can = s.can := rfl
@[simp] theorem State.modZone_recd (z : Nat) (f : ZoneSt → ZoneSt) : (s.modZone z f).recd = s.recd := rfl
@[simp] theorem State.modZone_health (z : Nat) (f : ZoneSt → ZoneSt) : (s.modZone z f).health = s.health := rfl
@[simp] theorem State.modZone_chk (z : Nat) (f : ZoneSt → ZoneSt) : (s.modZone z f).chk = s.chk := rfl
@[simp] theorem State.modZone_free (z : Nat) (f : ZoneSt → ZoneSt) : (s.modZone z f).free = s.free := rfl
@[simp] theorem State.modZone_pending (z : Nat) (f : ZoneSt → ZoneSt) : (s.modZone z f).pending = s.pending := rfl

/-! ### `modInput` -/

@[simp] theorem State.modInput_power (i : Nat) (f : InputSt → InputSt) : (s.modInput i f).power = s.power := rfl
@[simp] theorem State.modInput_host (i : Nat) (f : InputSt → InputSt) : (s.modInput i f).host = s.host := rfl
@[simp] theorem State.modInput_par (i : Nat) (f : InputSt → InputSt) : (s.modInput i f).par = s.par := rfl
@[simp] theorem State.modInput_cell (i : Nat) (f : InputSt → InputSt) : (s.modInput i f).cell = s.cell := rfl
@[simp] theorem State.modInput_tick (i : Nat) (f : InputSt → InputSt) : (s.modInput i f).tick = s.tick := rfl
@[simp] theorem State.modInput_axes (i : Nat) (f : InputSt → InputSt) : (s.modInput i f).axes = s.axes := rfl
@[simp] theorem State.modInput_queues (i : Nat) (f : InputSt → InputSt) : (s.modInput i f).queues = s.queues := rfl
@[simp] theorem State.modInput_sigma (i : Nat) (f : InputSt → InputSt) : (s.modInput i f).sigma = s.sigma := rfl
@[simp] theorem State.modInput_supply (i : Nat) (f : InputSt → InputSt) : (s.modInput i f).supply = s.supply := rfl
@[simp] theorem State.modInput_ports (i : Nat) (f : InputSt → InputSt) : (s.modInput i f).ports = s.ports := rfl
@[simp] theorem State.modInput_cmps (i : Nat) (f : InputSt → InputSt) : (s.modInput i f).cmps = s.cmps := rfl
@[simp] theorem State.modInput_sep (i : Nat) (f : InputSt → InputSt) : (s.modInput i f).sep = s.sep := rfl
@[simp] theorem State.modInput_solver (i : Nat) (f : InputSt → InputSt) : (s.modInput i f).solver = s.solver := rfl
@[simp] theorem State.modInput_selide (i : Nat) (f : InputSt → InputSt) : (s.modInput i f).selide = s.selide := rfl
@[simp] theorem State.modInput_link (i : Nat) (f : InputSt → InputSt) : (s.modInput i f).link = s.link := rfl
@[simp] theorem State.modInput_lanes (i : Nat) (f : InputSt → InputSt) : (s.modInput i f).lanes = s.lanes := rfl
@[simp] theorem State.modInput_time (i : Nat) (f : InputSt → InputSt) : (s.modInput i f).time = s.time := rfl
@[simp] theorem State.modInput_can (i : Nat) (f : InputSt → InputSt) : (s.modInput i f).can = s.can := rfl
@[simp] theorem State.modInput_recd (i : Nat) (f : InputSt → InputSt) : (s.modInput i f).recd = s.recd := rfl
@[simp] theorem State.modInput_health (i : Nat) (f : InputSt → InputSt) : (s.modInput i f).health = s.health := rfl
@[simp] theorem State.modInput_chk (i : Nat) (f : InputSt → InputSt) : (s.modInput i f).chk = s.chk := rfl
@[simp] theorem State.modInput_free (i : Nat) (f : InputSt → InputSt) : (s.modInput i f).free = s.free := rfl
@[simp] theorem State.modInput_pending (i : Nat) (f : InputSt → InputSt) : (s.modInput i f).pending = s.pending := rfl

/-! ### `modTp` -/

@[simp] theorem State.modTp_power (i : Nat) (f : TpSt → TpSt) : (s.modTp i f).power = s.power := rfl
@[simp] theorem State.modTp_host (i : Nat) (f : TpSt → TpSt) : (s.modTp i f).host = s.host := rfl
@[simp] theorem State.modTp_par (i : Nat) (f : TpSt → TpSt) : (s.modTp i f).par = s.par := rfl
@[simp] theorem State.modTp_cell (i : Nat) (f : TpSt → TpSt) : (s.modTp i f).cell = s.cell := rfl
@[simp] theorem State.modTp_tick (i : Nat) (f : TpSt → TpSt) : (s.modTp i f).tick = s.tick := rfl
@[simp] theorem State.modTp_axes (i : Nat) (f : TpSt → TpSt) : (s.modTp i f).axes = s.axes := rfl
@[simp] theorem State.modTp_queues (i : Nat) (f : TpSt → TpSt) : (s.modTp i f).queues = s.queues := rfl
@[simp] theorem State.modTp_sigma (i : Nat) (f : TpSt → TpSt) : (s.modTp i f).sigma = s.sigma := rfl
@[simp] theorem State.modTp_supply (i : Nat) (f : TpSt → TpSt) : (s.modTp i f).supply = s.supply := rfl
@[simp] theorem State.modTp_ports (i : Nat) (f : TpSt → TpSt) : (s.modTp i f).ports = s.ports := rfl
@[simp] theorem State.modTp_cmps (i : Nat) (f : TpSt → TpSt) : (s.modTp i f).cmps = s.cmps := rfl
@[simp] theorem State.modTp_sep (i : Nat) (f : TpSt → TpSt) : (s.modTp i f).sep = s.sep := rfl
@[simp] theorem State.modTp_solver (i : Nat) (f : TpSt → TpSt) : (s.modTp i f).solver = s.solver := rfl
@[simp] theorem State.modTp_selide (i : Nat) (f : TpSt → TpSt) : (s.modTp i f).selide = s.selide := rfl
@[simp] theorem State.modTp_link (i : Nat) (f : TpSt → TpSt) : (s.modTp i f).link = s.link := rfl
@[simp] theorem State.modTp_lanes (i : Nat) (f : TpSt → TpSt) : (s.modTp i f).lanes = s.lanes := rfl
@[simp] theorem State.modTp_time (i : Nat) (f : TpSt → TpSt) : (s.modTp i f).time = s.time := rfl
@[simp] theorem State.modTp_can (i : Nat) (f : TpSt → TpSt) : (s.modTp i f).can = s.can := rfl
@[simp] theorem State.modTp_recd (i : Nat) (f : TpSt → TpSt) : (s.modTp i f).recd = s.recd := rfl
@[simp] theorem State.modTp_health (i : Nat) (f : TpSt → TpSt) : (s.modTp i f).health = s.health := rfl
@[simp] theorem State.modTp_chk (i : Nat) (f : TpSt → TpSt) : (s.modTp i f).chk = s.chk := rfl
@[simp] theorem State.modTp_free (i : Nat) (f : TpSt → TpSt) : (s.modTp i f).free = s.free := rfl
@[simp] theorem State.modTp_pending (i : Nat) (f : TpSt → TpSt) : (s.modTp i f).pending = s.pending := rfl

/-! ### `modAxisSto` -/

@[simp] theorem State.modAxisSto_power (a : Nat) (f : AxisSto → AxisSto) : (s.modAxisSto a f).power = s.power := rfl
@[simp] theorem State.modAxisSto_host (a : Nat) (f : AxisSto → AxisSto) : (s.modAxisSto a f).host = s.host := rfl
@[simp] theorem State.modAxisSto_par (a : Nat) (f : AxisSto → AxisSto) : (s.modAxisSto a f).par = s.par := rfl
@[simp] theorem State.modAxisSto_cell (a : Nat) (f : AxisSto → AxisSto) : (s.modAxisSto a f).cell = s.cell := rfl
@[simp] theorem State.modAxisSto_tick (a : Nat) (f : AxisSto → AxisSto) : (s.modAxisSto a f).tick = s.tick := rfl
@[simp] theorem State.modAxisSto_axes (a : Nat) (f : AxisSto → AxisSto) : (s.modAxisSto a f).axes = s.axes := rfl
@[simp] theorem State.modAxisSto_queues (a : Nat) (f : AxisSto → AxisSto) : (s.modAxisSto a f).queues = s.queues := rfl
@[simp] theorem State.modAxisSto_sigma (a : Nat) (f : AxisSto → AxisSto) : (s.modAxisSto a f).sigma = s.sigma := rfl
@[simp] theorem State.modAxisSto_supply (a : Nat) (f : AxisSto → AxisSto) : (s.modAxisSto a f).supply = s.supply := rfl
@[simp] theorem State.modAxisSto_ports (a : Nat) (f : AxisSto → AxisSto) : (s.modAxisSto a f).ports = s.ports := rfl
@[simp] theorem State.modAxisSto_cmps (a : Nat) (f : AxisSto → AxisSto) : (s.modAxisSto a f).cmps = s.cmps := rfl
@[simp] theorem State.modAxisSto_sep (a : Nat) (f : AxisSto → AxisSto) : (s.modAxisSto a f).sep = s.sep := rfl
@[simp] theorem State.modAxisSto_solver (a : Nat) (f : AxisSto → AxisSto) : (s.modAxisSto a f).solver = s.solver := rfl
@[simp] theorem State.modAxisSto_selide (a : Nat) (f : AxisSto → AxisSto) : (s.modAxisSto a f).selide = s.selide := rfl
@[simp] theorem State.modAxisSto_link (a : Nat) (f : AxisSto → AxisSto) : (s.modAxisSto a f).link = s.link := rfl
@[simp] theorem State.modAxisSto_lanes (a : Nat) (f : AxisSto → AxisSto) : (s.modAxisSto a f).lanes = s.lanes := rfl
@[simp] theorem State.modAxisSto_time (a : Nat) (f : AxisSto → AxisSto) : (s.modAxisSto a f).time = s.time := rfl
@[simp] theorem State.modAxisSto_can (a : Nat) (f : AxisSto → AxisSto) : (s.modAxisSto a f).can = s.can := rfl
@[simp] theorem State.modAxisSto_recd (a : Nat) (f : AxisSto → AxisSto) : (s.modAxisSto a f).recd = s.recd := rfl
@[simp] theorem State.modAxisSto_health (a : Nat) (f : AxisSto → AxisSto) : (s.modAxisSto a f).health = s.health := rfl
@[simp] theorem State.modAxisSto_chk (a : Nat) (f : AxisSto → AxisSto) : (s.modAxisSto a f).chk = s.chk := rfl
@[simp] theorem State.modAxisSto_free (a : Nat) (f : AxisSto → AxisSto) : (s.modAxisSto a f).free = s.free := rfl
@[simp] theorem State.modAxisSto_pending (a : Nat) (f : AxisSto → AxisSto) : (s.modAxisSto a f).pending = s.pending := rfl

/-! ### `modSls` -/

@[simp] theorem State.modSls_power (g : Nat) (f : SlsSt → SlsSt) : (s.modSls g f).power = s.power := rfl
@[simp] theorem State.modSls_host (g : Nat) (f : SlsSt → SlsSt) : (s.modSls g f).host = s.host := rfl
@[simp] theorem State.modSls_par (g : Nat) (f : SlsSt → SlsSt) : (s.modSls g f).par = s.par := rfl
@[simp] theorem State.modSls_cell (g : Nat) (f : SlsSt → SlsSt) : (s.modSls g f).cell = s.cell := rfl
@[simp] theorem State.modSls_tick (g : Nat) (f : SlsSt → SlsSt) : (s.modSls g f).tick = s.tick := rfl
@[simp] theorem State.modSls_axes (g : Nat) (f : SlsSt → SlsSt) : (s.modSls g f).axes = s.axes := rfl
@[simp] theorem State.modSls_queues (g : Nat) (f : SlsSt → SlsSt) : (s.modSls g f).queues = s.queues := rfl
@[simp] theorem State.modSls_sigma (g : Nat) (f : SlsSt → SlsSt) : (s.modSls g f).sigma = s.sigma := rfl
@[simp] theorem State.modSls_supply (g : Nat) (f : SlsSt → SlsSt) : (s.modSls g f).supply = s.supply := rfl
@[simp] theorem State.modSls_ports (g : Nat) (f : SlsSt → SlsSt) : (s.modSls g f).ports = s.ports := rfl
@[simp] theorem State.modSls_cmps (g : Nat) (f : SlsSt → SlsSt) : (s.modSls g f).cmps = s.cmps := rfl
@[simp] theorem State.modSls_sep (g : Nat) (f : SlsSt → SlsSt) : (s.modSls g f).sep = s.sep := rfl
@[simp] theorem State.modSls_solver (g : Nat) (f : SlsSt → SlsSt) : (s.modSls g f).solver = s.solver := rfl
@[simp] theorem State.modSls_selide (g : Nat) (f : SlsSt → SlsSt) : (s.modSls g f).selide = s.selide := rfl
@[simp] theorem State.modSls_link (g : Nat) (f : SlsSt → SlsSt) : (s.modSls g f).link = s.link := rfl
@[simp] theorem State.modSls_lanes (g : Nat) (f : SlsSt → SlsSt) : (s.modSls g f).lanes = s.lanes := rfl
@[simp] theorem State.modSls_time (g : Nat) (f : SlsSt → SlsSt) : (s.modSls g f).time = s.time := rfl
@[simp] theorem State.modSls_can (g : Nat) (f : SlsSt → SlsSt) : (s.modSls g f).can = s.can := rfl
@[simp] theorem State.modSls_recd (g : Nat) (f : SlsSt → SlsSt) : (s.modSls g f).recd = s.recd := rfl
@[simp] theorem State.modSls_health (g : Nat) (f : SlsSt → SlsSt) : (s.modSls g f).health = s.health := rfl
@[simp] theorem State.modSls_chk (g : Nat) (f : SlsSt → SlsSt) : (s.modSls g f).chk = s.chk := rfl
@[simp] theorem State.modSls_free (g : Nat) (f : SlsSt → SlsSt) : (s.modSls g f).free = s.free := rfl
@[simp] theorem State.modSls_pending (g : Nat) (f : SlsSt → SlsSt) : (s.modSls g f).pending = s.pending := rfl

/-! ### `modEng` -/

@[simp] theorem State.modEng_power (e : Island) (f : Eng → Eng) : (s.modEng e f).power = s.power := by cases e <;> rfl
@[simp] theorem State.modEng_host (e : Island) (f : Eng → Eng) : (s.modEng e f).host = s.host := by cases e <;> rfl
@[simp] theorem State.modEng_par (e : Island) (f : Eng → Eng) : (s.modEng e f).par = s.par := by cases e <;> rfl
@[simp] theorem State.modEng_cell (e : Island) (f : Eng → Eng) : (s.modEng e f).cell = s.cell := by cases e <;> rfl
@[simp] theorem State.modEng_tick (e : Island) (f : Eng → Eng) : (s.modEng e f).tick = s.tick := by cases e <;> rfl
@[simp] theorem State.modEng_axes (e : Island) (f : Eng → Eng) : (s.modEng e f).axes = s.axes := by cases e <;> rfl
@[simp] theorem State.modEng_queues (e : Island) (f : Eng → Eng) : (s.modEng e f).queues = s.queues := by cases e <;> rfl
@[simp] theorem State.modEng_sigma (e : Island) (f : Eng → Eng) : (s.modEng e f).sigma = s.sigma := by cases e <;> rfl
@[simp] theorem State.modEng_supply (e : Island) (f : Eng → Eng) : (s.modEng e f).supply = s.supply := by cases e <;> rfl
@[simp] theorem State.modEng_ports (e : Island) (f : Eng → Eng) : (s.modEng e f).ports = s.ports := by cases e <;> rfl
@[simp] theorem State.modEng_cmps (e : Island) (f : Eng → Eng) : (s.modEng e f).cmps = s.cmps := by cases e <;> rfl
@[simp] theorem State.modEng_solver (e : Island) (f : Eng → Eng) : (s.modEng e f).solver = s.solver := by cases e <;> rfl
@[simp] theorem State.modEng_safety (e : Island) (f : Eng → Eng) : (s.modEng e f).safety = s.safety := by cases e <;> rfl
@[simp] theorem State.modEng_selide (e : Island) (f : Eng → Eng) : (s.modEng e f).selide = s.selide := by cases e <;> rfl
@[simp] theorem State.modEng_link (e : Island) (f : Eng → Eng) : (s.modEng e f).link = s.link := by cases e <;> rfl
@[simp] theorem State.modEng_lanes (e : Island) (f : Eng → Eng) : (s.modEng e f).lanes = s.lanes := by cases e <;> rfl
@[simp] theorem State.modEng_time (e : Island) (f : Eng → Eng) : (s.modEng e f).time = s.time := by cases e <;> rfl
@[simp] theorem State.modEng_can (e : Island) (f : Eng → Eng) : (s.modEng e f).can = s.can := by cases e <;> rfl
@[simp] theorem State.modEng_recd (e : Island) (f : Eng → Eng) : (s.modEng e f).recd = s.recd := by cases e <;> rfl
@[simp] theorem State.modEng_health (e : Island) (f : Eng → Eng) : (s.modEng e f).health = s.health := by cases e <;> rfl
@[simp] theorem State.modEng_chk (e : Island) (f : Eng → Eng) : (s.modEng e f).chk = s.chk := by cases e <;> rfl
@[simp] theorem State.modEng_free (e : Island) (f : Eng → Eng) : (s.modEng e f).free = s.free := by cases e <;> rfl
@[simp] theorem State.modEng_pending (e : Island) (f : Eng → Eng) : (s.modEng e f).pending = s.pending := by cases e <;> rfl

/-! ### `modPerson` -/

@[simp] theorem State.modPerson_power (e : Island) (p : Nat) (f : PersonSt → PersonSt) : (s.modPerson e p f).power = s.power := by cases e <;> rfl
@[simp] theorem State.modPerson_host (e : Island) (p : Nat) (f : PersonSt → PersonSt) : (s.modPerson e p f).host = s.host := by cases e <;> rfl
@[simp] theorem State.modPerson_par (e : Island) (p : Nat) (f : PersonSt → PersonSt) : (s.modPerson e p f).par = s.par := by cases e <;> rfl
@[simp] theorem State.modPerson_cell (e : Island) (p : Nat) (f : PersonSt → PersonSt) : (s.modPerson e p f).cell = s.cell := by cases e <;> rfl
@[simp] theorem State.modPerson_tick (e : Island) (p : Nat) (f : PersonSt → PersonSt) : (s.modPerson e p f).tick = s.tick := by cases e <;> rfl
@[simp] theorem State.modPerson_axes (e : Island) (p : Nat) (f : PersonSt → PersonSt) : (s.modPerson e p f).axes = s.axes := by cases e <;> rfl
@[simp] theorem State.modPerson_queues (e : Island) (p : Nat) (f : PersonSt → PersonSt) : (s.modPerson e p f).queues = s.queues := by cases e <;> rfl
@[simp] theorem State.modPerson_sigma (e : Island) (p : Nat) (f : PersonSt → PersonSt) : (s.modPerson e p f).sigma = s.sigma := by cases e <;> rfl
@[simp] theorem State.modPerson_supply (e : Island) (p : Nat) (f : PersonSt → PersonSt) : (s.modPerson e p f).supply = s.supply := by cases e <;> rfl
@[simp] theorem State.modPerson_ports (e : Island) (p : Nat) (f : PersonSt → PersonSt) : (s.modPerson e p f).ports = s.ports := by cases e <;> rfl
@[simp] theorem State.modPerson_cmps (e : Island) (p : Nat) (f : PersonSt → PersonSt) : (s.modPerson e p f).cmps = s.cmps := by cases e <;> rfl
@[simp] theorem State.modPerson_solver (e : Island) (p : Nat) (f : PersonSt → PersonSt) : (s.modPerson e p f).solver = s.solver := by cases e <;> rfl
@[simp] theorem State.modPerson_safety (e : Island) (p : Nat) (f : PersonSt → PersonSt) : (s.modPerson e p f).safety = s.safety := by cases e <;> rfl
@[simp] theorem State.modPerson_selide (e : Island) (p : Nat) (f : PersonSt → PersonSt) : (s.modPerson e p f).selide = s.selide := by cases e <;> rfl
@[simp] theorem State.modPerson_link (e : Island) (p : Nat) (f : PersonSt → PersonSt) : (s.modPerson e p f).link = s.link := by cases e <;> rfl
@[simp] theorem State.modPerson_lanes (e : Island) (p : Nat) (f : PersonSt → PersonSt) : (s.modPerson e p f).lanes = s.lanes := by cases e <;> rfl
@[simp] theorem State.modPerson_time (e : Island) (p : Nat) (f : PersonSt → PersonSt) : (s.modPerson e p f).time = s.time := by cases e <;> rfl
@[simp] theorem State.modPerson_can (e : Island) (p : Nat) (f : PersonSt → PersonSt) : (s.modPerson e p f).can = s.can := by cases e <;> rfl
@[simp] theorem State.modPerson_recd (e : Island) (p : Nat) (f : PersonSt → PersonSt) : (s.modPerson e p f).recd = s.recd := by cases e <;> rfl
@[simp] theorem State.modPerson_health (e : Island) (p : Nat) (f : PersonSt → PersonSt) : (s.modPerson e p f).health = s.health := by cases e <;> rfl
@[simp] theorem State.modPerson_chk (e : Island) (p : Nat) (f : PersonSt → PersonSt) : (s.modPerson e p f).chk = s.chk := by cases e <;> rfl
@[simp] theorem State.modPerson_free (e : Island) (p : Nat) (f : PersonSt → PersonSt) : (s.modPerson e p f).free = s.free := by cases e <;> rfl
@[simp] theorem State.modPerson_pending (e : Island) (p : Nat) (f : PersonSt → PersonSt) : (s.modPerson e p f).pending = s.pending := by cases e <;> rfl

/-! ### `modRelay` -/

@[simp] theorem State.modRelay_power (e : Island) (p : Nat) (f : RelaySt → RelaySt) : (s.modRelay e p f).power = s.power := by cases e <;> rfl
@[simp] theorem State.modRelay_host (e : Island) (p : Nat) (f : RelaySt → RelaySt) : (s.modRelay e p f).host = s.host := by cases e <;> rfl
@[simp] theorem State.modRelay_par (e : Island) (p : Nat) (f : RelaySt → RelaySt) : (s.modRelay e p f).par = s.par := by cases e <;> rfl
@[simp] theorem State.modRelay_cell (e : Island) (p : Nat) (f : RelaySt → RelaySt) : (s.modRelay e p f).cell = s.cell := by cases e <;> rfl
@[simp] theorem State.modRelay_tick (e : Island) (p : Nat) (f : RelaySt → RelaySt) : (s.modRelay e p f).tick = s.tick := by cases e <;> rfl
@[simp] theorem State.modRelay_axes (e : Island) (p : Nat) (f : RelaySt → RelaySt) : (s.modRelay e p f).axes = s.axes := by cases e <;> rfl
@[simp] theorem State.modRelay_queues (e : Island) (p : Nat) (f : RelaySt → RelaySt) : (s.modRelay e p f).queues = s.queues := by cases e <;> rfl
@[simp] theorem State.modRelay_sigma (e : Island) (p : Nat) (f : RelaySt → RelaySt) : (s.modRelay e p f).sigma = s.sigma := by cases e <;> rfl
@[simp] theorem State.modRelay_supply (e : Island) (p : Nat) (f : RelaySt → RelaySt) : (s.modRelay e p f).supply = s.supply := by cases e <;> rfl
@[simp] theorem State.modRelay_ports (e : Island) (p : Nat) (f : RelaySt → RelaySt) : (s.modRelay e p f).ports = s.ports := by cases e <;> rfl
@[simp] theorem State.modRelay_cmps (e : Island) (p : Nat) (f : RelaySt → RelaySt) : (s.modRelay e p f).cmps = s.cmps := by cases e <;> rfl
@[simp] theorem State.modRelay_solver (e : Island) (p : Nat) (f : RelaySt → RelaySt) : (s.modRelay e p f).solver = s.solver := by cases e <;> rfl
@[simp] theorem State.modRelay_safety (e : Island) (p : Nat) (f : RelaySt → RelaySt) : (s.modRelay e p f).safety = s.safety := by cases e <;> rfl
@[simp] theorem State.modRelay_selide (e : Island) (p : Nat) (f : RelaySt → RelaySt) : (s.modRelay e p f).selide = s.selide := by cases e <;> rfl
@[simp] theorem State.modRelay_link (e : Island) (p : Nat) (f : RelaySt → RelaySt) : (s.modRelay e p f).link = s.link := by cases e <;> rfl
@[simp] theorem State.modRelay_lanes (e : Island) (p : Nat) (f : RelaySt → RelaySt) : (s.modRelay e p f).lanes = s.lanes := by cases e <;> rfl
@[simp] theorem State.modRelay_time (e : Island) (p : Nat) (f : RelaySt → RelaySt) : (s.modRelay e p f).time = s.time := by cases e <;> rfl
@[simp] theorem State.modRelay_can (e : Island) (p : Nat) (f : RelaySt → RelaySt) : (s.modRelay e p f).can = s.can := by cases e <;> rfl
@[simp] theorem State.modRelay_recd (e : Island) (p : Nat) (f : RelaySt → RelaySt) : (s.modRelay e p f).recd = s.recd := by cases e <;> rfl
@[simp] theorem State.modRelay_health (e : Island) (p : Nat) (f : RelaySt → RelaySt) : (s.modRelay e p f).health = s.health := by cases e <;> rfl
@[simp] theorem State.modRelay_chk (e : Island) (p : Nat) (f : RelaySt → RelaySt) : (s.modRelay e p f).chk = s.chk := by cases e <;> rfl
@[simp] theorem State.modRelay_free (e : Island) (p : Nat) (f : RelaySt → RelaySt) : (s.modRelay e p f).free = s.free := by cases e <;> rfl
@[simp] theorem State.modRelay_pending (e : Island) (p : Nat) (f : RelaySt → RelaySt) : (s.modRelay e p f).pending = s.pending := by cases e <;> rfl

/-! ### `modArm` -/

@[simp] theorem State.modArm_power (g : Nat) (f : ArmSt → ArmSt) : (s.modArm g f).power = s.power := rfl
@[simp] theorem State.modArm_host (g : Nat) (f : ArmSt → ArmSt) : (s.modArm g f).host = s.host := rfl
@[simp] theorem State.modArm_par (g : Nat) (f : ArmSt → ArmSt) : (s.modArm g f).par = s.par := rfl
@[simp] theorem State.modArm_cell (g : Nat) (f : ArmSt → ArmSt) : (s.modArm g f).cell = s.cell := rfl
@[simp] theorem State.modArm_tick (g : Nat) (f : ArmSt → ArmSt) : (s.modArm g f).tick = s.tick := rfl
@[simp] theorem State.modArm_axes (g : Nat) (f : ArmSt → ArmSt) : (s.modArm g f).axes = s.axes := rfl
@[simp] theorem State.modArm_queues (g : Nat) (f : ArmSt → ArmSt) : (s.modArm g f).queues = s.queues := rfl
@[simp] theorem State.modArm_sigma (g : Nat) (f : ArmSt → ArmSt) : (s.modArm g f).sigma = s.sigma := rfl
@[simp] theorem State.modArm_supply (g : Nat) (f : ArmSt → ArmSt) : (s.modArm g f).supply = s.supply := rfl
@[simp] theorem State.modArm_ports (g : Nat) (f : ArmSt → ArmSt) : (s.modArm g f).ports = s.ports := rfl
@[simp] theorem State.modArm_cmps (g : Nat) (f : ArmSt → ArmSt) : (s.modArm g f).cmps = s.cmps := rfl
@[simp] theorem State.modArm_solver (g : Nat) (f : ArmSt → ArmSt) : (s.modArm g f).solver = s.solver := rfl
@[simp] theorem State.modArm_safety (g : Nat) (f : ArmSt → ArmSt) : (s.modArm g f).safety = s.safety := rfl
@[simp] theorem State.modArm_selide (g : Nat) (f : ArmSt → ArmSt) : (s.modArm g f).selide = s.selide := rfl
@[simp] theorem State.modArm_link (g : Nat) (f : ArmSt → ArmSt) : (s.modArm g f).link = s.link := rfl
@[simp] theorem State.modArm_lanes (g : Nat) (f : ArmSt → ArmSt) : (s.modArm g f).lanes = s.lanes := rfl
@[simp] theorem State.modArm_time (g : Nat) (f : ArmSt → ArmSt) : (s.modArm g f).time = s.time := rfl
@[simp] theorem State.modArm_can (g : Nat) (f : ArmSt → ArmSt) : (s.modArm g f).can = s.can := rfl
@[simp] theorem State.modArm_recd (g : Nat) (f : ArmSt → ArmSt) : (s.modArm g f).recd = s.recd := rfl
@[simp] theorem State.modArm_health (g : Nat) (f : ArmSt → ArmSt) : (s.modArm g f).health = s.health := rfl
@[simp] theorem State.modArm_chk (g : Nat) (f : ArmSt → ArmSt) : (s.modArm g f).chk = s.chk := rfl
@[simp] theorem State.modArm_free (g : Nat) (f : ArmSt → ArmSt) : (s.modArm g f).free = s.free := rfl
@[simp] theorem State.modArm_pending (g : Nat) (f : ArmSt → ArmSt) : (s.modArm g f).pending = s.pending := rfl

/-! ### `modDom` -/

@[simp] theorem State.modDom_power (d : Nat) (f : DomainSt → DomainSt) : (s.modDom d f).power = s.power := rfl
@[simp] theorem State.modDom_host (d : Nat) (f : DomainSt → DomainSt) : (s.modDom d f).host = s.host := rfl
@[simp] theorem State.modDom_par (d : Nat) (f : DomainSt → DomainSt) : (s.modDom d f).par = s.par := rfl
@[simp] theorem State.modDom_cell (d : Nat) (f : DomainSt → DomainSt) : (s.modDom d f).cell = s.cell := rfl
@[simp] theorem State.modDom_tick (d : Nat) (f : DomainSt → DomainSt) : (s.modDom d f).tick = s.tick := rfl
@[simp] theorem State.modDom_axes (d : Nat) (f : DomainSt → DomainSt) : (s.modDom d f).axes = s.axes := rfl
@[simp] theorem State.modDom_queues (d : Nat) (f : DomainSt → DomainSt) : (s.modDom d f).queues = s.queues := rfl
@[simp] theorem State.modDom_sigma (d : Nat) (f : DomainSt → DomainSt) : (s.modDom d f).sigma = s.sigma := rfl
@[simp] theorem State.modDom_supply (d : Nat) (f : DomainSt → DomainSt) : (s.modDom d f).supply = s.supply := rfl
@[simp] theorem State.modDom_ports (d : Nat) (f : DomainSt → DomainSt) : (s.modDom d f).ports = s.ports := rfl
@[simp] theorem State.modDom_cmps (d : Nat) (f : DomainSt → DomainSt) : (s.modDom d f).cmps = s.cmps := rfl
@[simp] theorem State.modDom_sep (d : Nat) (f : DomainSt → DomainSt) : (s.modDom d f).sep = s.sep := rfl
@[simp] theorem State.modDom_solver (d : Nat) (f : DomainSt → DomainSt) : (s.modDom d f).solver = s.solver := rfl
@[simp] theorem State.modDom_safety (d : Nat) (f : DomainSt → DomainSt) : (s.modDom d f).safety = s.safety := rfl
@[simp] theorem State.modDom_selide (d : Nat) (f : DomainSt → DomainSt) : (s.modDom d f).selide = s.selide := rfl
@[simp] theorem State.modDom_link (d : Nat) (f : DomainSt → DomainSt) : (s.modDom d f).link = s.link := rfl
@[simp] theorem State.modDom_lanes (d : Nat) (f : DomainSt → DomainSt) : (s.modDom d f).lanes = s.lanes := rfl
@[simp] theorem State.modDom_can (d : Nat) (f : DomainSt → DomainSt) : (s.modDom d f).can = s.can := rfl
@[simp] theorem State.modDom_recd (d : Nat) (f : DomainSt → DomainSt) : (s.modDom d f).recd = s.recd := rfl
@[simp] theorem State.modDom_health (d : Nat) (f : DomainSt → DomainSt) : (s.modDom d f).health = s.health := rfl
@[simp] theorem State.modDom_chk (d : Nat) (f : DomainSt → DomainSt) : (s.modDom d f).chk = s.chk := rfl
@[simp] theorem State.modDom_free (d : Nat) (f : DomainSt → DomainSt) : (s.modDom d f).free = s.free := rfl
@[simp] theorem State.modDom_pending (d : Nat) (f : DomainSt → DomainSt) : (s.modDom d f).pending = s.pending := rfl

/-! ### `modEth` -/

@[simp] theorem State.modEth_power (p : Nat) (f : EthPort → EthPort) : (s.modEth p f).power = s.power := rfl
@[simp] theorem State.modEth_host (p : Nat) (f : EthPort → EthPort) : (s.modEth p f).host = s.host := rfl
@[simp] theorem State.modEth_par (p : Nat) (f : EthPort → EthPort) : (s.modEth p f).par = s.par := rfl
@[simp] theorem State.modEth_cell (p : Nat) (f : EthPort → EthPort) : (s.modEth p f).cell = s.cell := rfl
@[simp] theorem State.modEth_tick (p : Nat) (f : EthPort → EthPort) : (s.modEth p f).tick = s.tick := rfl
@[simp] theorem State.modEth_axes (p : Nat) (f : EthPort → EthPort) : (s.modEth p f).axes = s.axes := rfl
@[simp] theorem State.modEth_queues (p : Nat) (f : EthPort → EthPort) : (s.modEth p f).queues = s.queues := rfl
@[simp] theorem State.modEth_sigma (p : Nat) (f : EthPort → EthPort) : (s.modEth p f).sigma = s.sigma := rfl
@[simp] theorem State.modEth_supply (p : Nat) (f : EthPort → EthPort) : (s.modEth p f).supply = s.supply := rfl
@[simp] theorem State.modEth_ports (p : Nat) (f : EthPort → EthPort) : (s.modEth p f).ports = s.ports := rfl
@[simp] theorem State.modEth_cmps (p : Nat) (f : EthPort → EthPort) : (s.modEth p f).cmps = s.cmps := rfl
@[simp] theorem State.modEth_sep (p : Nat) (f : EthPort → EthPort) : (s.modEth p f).sep = s.sep := rfl
@[simp] theorem State.modEth_solver (p : Nat) (f : EthPort → EthPort) : (s.modEth p f).solver = s.solver := rfl
@[simp] theorem State.modEth_safety (p : Nat) (f : EthPort → EthPort) : (s.modEth p f).safety = s.safety := rfl
@[simp] theorem State.modEth_selide (p : Nat) (f : EthPort → EthPort) : (s.modEth p f).selide = s.selide := rfl
@[simp] theorem State.modEth_link (p : Nat) (f : EthPort → EthPort) : (s.modEth p f).link = s.link := rfl
@[simp] theorem State.modEth_lanes (p : Nat) (f : EthPort → EthPort) : (s.modEth p f).lanes = s.lanes := rfl
@[simp] theorem State.modEth_can (p : Nat) (f : EthPort → EthPort) : (s.modEth p f).can = s.can := rfl
@[simp] theorem State.modEth_recd (p : Nat) (f : EthPort → EthPort) : (s.modEth p f).recd = s.recd := rfl
@[simp] theorem State.modEth_health (p : Nat) (f : EthPort → EthPort) : (s.modEth p f).health = s.health := rfl
@[simp] theorem State.modEth_chk (p : Nat) (f : EthPort → EthPort) : (s.modEth p f).chk = s.chk := rfl
@[simp] theorem State.modEth_free (p : Nat) (f : EthPort → EthPort) : (s.modEth p f).free = s.free := rfl
@[simp] theorem State.modEth_pending (p : Nat) (f : EthPort → EthPort) : (s.modEth p f).pending = s.pending := rfl

/-! ### `modClk` -/

@[simp] theorem State.modClk_power (d : Nat) (f : ClkDomain → ClkDomain) : (s.modClk d f).power = s.power := rfl
@[simp] theorem State.modClk_host (d : Nat) (f : ClkDomain → ClkDomain) : (s.modClk d f).host = s.host := rfl
@[simp] theorem State.modClk_par (d : Nat) (f : ClkDomain → ClkDomain) : (s.modClk d f).par = s.par := rfl
@[simp] theorem State.modClk_cell (d : Nat) (f : ClkDomain → ClkDomain) : (s.modClk d f).cell = s.cell := rfl
@[simp] theorem State.modClk_tick (d : Nat) (f : ClkDomain → ClkDomain) : (s.modClk d f).tick = s.tick := rfl
@[simp] theorem State.modClk_axes (d : Nat) (f : ClkDomain → ClkDomain) : (s.modClk d f).axes = s.axes := rfl
@[simp] theorem State.modClk_queues (d : Nat) (f : ClkDomain → ClkDomain) : (s.modClk d f).queues = s.queues := rfl
@[simp] theorem State.modClk_sigma (d : Nat) (f : ClkDomain → ClkDomain) : (s.modClk d f).sigma = s.sigma := rfl
@[simp] theorem State.modClk_supply (d : Nat) (f : ClkDomain → ClkDomain) : (s.modClk d f).supply = s.supply := rfl
@[simp] theorem State.modClk_ports (d : Nat) (f : ClkDomain → ClkDomain) : (s.modClk d f).ports = s.ports := rfl
@[simp] theorem State.modClk_cmps (d : Nat) (f : ClkDomain → ClkDomain) : (s.modClk d f).cmps = s.cmps := rfl
@[simp] theorem State.modClk_sep (d : Nat) (f : ClkDomain → ClkDomain) : (s.modClk d f).sep = s.sep := rfl
@[simp] theorem State.modClk_solver (d : Nat) (f : ClkDomain → ClkDomain) : (s.modClk d f).solver = s.solver := rfl
@[simp] theorem State.modClk_safety (d : Nat) (f : ClkDomain → ClkDomain) : (s.modClk d f).safety = s.safety := rfl
@[simp] theorem State.modClk_selide (d : Nat) (f : ClkDomain → ClkDomain) : (s.modClk d f).selide = s.selide := rfl
@[simp] theorem State.modClk_link (d : Nat) (f : ClkDomain → ClkDomain) : (s.modClk d f).link = s.link := rfl
@[simp] theorem State.modClk_lanes (d : Nat) (f : ClkDomain → ClkDomain) : (s.modClk d f).lanes = s.lanes := rfl
@[simp] theorem State.modClk_time (d : Nat) (f : ClkDomain → ClkDomain) : (s.modClk d f).time = s.time := rfl
@[simp] theorem State.modClk_can (d : Nat) (f : ClkDomain → ClkDomain) : (s.modClk d f).can = s.can := rfl
@[simp] theorem State.modClk_recd (d : Nat) (f : ClkDomain → ClkDomain) : (s.modClk d f).recd = s.recd := rfl
@[simp] theorem State.modClk_chk (d : Nat) (f : ClkDomain → ClkDomain) : (s.modClk d f).chk = s.chk := rfl
@[simp] theorem State.modClk_free (d : Nat) (f : ClkDomain → ClkDomain) : (s.modClk d f).free = s.free := rfl
@[simp] theorem State.modClk_pending (d : Nat) (f : ClkDomain → ClkDomain) : (s.modClk d f).pending = s.pending := rfl

/-! ### `setParam` -/

@[simp] theorem State.setParam_power (num idx v : Nat) : (s.setParam num idx v).power = s.power := rfl
@[simp] theorem State.setParam_host (num idx v : Nat) : (s.setParam num idx v).host = s.host := rfl
@[simp] theorem State.setParam_cell (num idx v : Nat) : (s.setParam num idx v).cell = s.cell := rfl
@[simp] theorem State.setParam_tick (num idx v : Nat) : (s.setParam num idx v).tick = s.tick := rfl
@[simp] theorem State.setParam_axes (num idx v : Nat) : (s.setParam num idx v).axes = s.axes := rfl
@[simp] theorem State.setParam_queues (num idx v : Nat) : (s.setParam num idx v).queues = s.queues := rfl
@[simp] theorem State.setParam_sigma (num idx v : Nat) : (s.setParam num idx v).sigma = s.sigma := rfl
@[simp] theorem State.setParam_supply (num idx v : Nat) : (s.setParam num idx v).supply = s.supply := rfl
@[simp] theorem State.setParam_ports (num idx v : Nat) : (s.setParam num idx v).ports = s.ports := rfl
@[simp] theorem State.setParam_cmps (num idx v : Nat) : (s.setParam num idx v).cmps = s.cmps := rfl
@[simp] theorem State.setParam_sep (num idx v : Nat) : (s.setParam num idx v).sep = s.sep := rfl
@[simp] theorem State.setParam_solver (num idx v : Nat) : (s.setParam num idx v).solver = s.solver := rfl
@[simp] theorem State.setParam_safety (num idx v : Nat) : (s.setParam num idx v).safety = s.safety := rfl
@[simp] theorem State.setParam_selide (num idx v : Nat) : (s.setParam num idx v).selide = s.selide := rfl
@[simp] theorem State.setParam_link (num idx v : Nat) : (s.setParam num idx v).link = s.link := rfl
@[simp] theorem State.setParam_lanes (num idx v : Nat) : (s.setParam num idx v).lanes = s.lanes := rfl
@[simp] theorem State.setParam_time (num idx v : Nat) : (s.setParam num idx v).time = s.time := rfl
@[simp] theorem State.setParam_can (num idx v : Nat) : (s.setParam num idx v).can = s.can := rfl
@[simp] theorem State.setParam_recd (num idx v : Nat) : (s.setParam num idx v).recd = s.recd := rfl
@[simp] theorem State.setParam_health (num idx v : Nat) : (s.setParam num idx v).health = s.health := rfl
@[simp] theorem State.setParam_chk (num idx v : Nat) : (s.setParam num idx v).chk = s.chk := rfl
@[simp] theorem State.setParam_free (num idx v : Nat) : (s.setParam num idx v).free = s.free := rfl
@[simp] theorem State.setParam_pending (num idx v : Nat) : (s.setParam num idx v).pending = s.pending := rfl

/-! ### `emitAt` -/

@[simp] theorem State.emitAt_power (code : Nat) (obj : Word) (args : List Nat) (st : Option DevTime) : (s.emitAt code obj args st).power = s.power := rfl
@[simp] theorem State.emitAt_host (code : Nat) (obj : Word) (args : List Nat) (st : Option DevTime) : (s.emitAt code obj args st).host = s.host := rfl
@[simp] theorem State.emitAt_par (code : Nat) (obj : Word) (args : List Nat) (st : Option DevTime) : (s.emitAt code obj args st).par = s.par := rfl
@[simp] theorem State.emitAt_cell (code : Nat) (obj : Word) (args : List Nat) (st : Option DevTime) : (s.emitAt code obj args st).cell = s.cell := rfl
@[simp] theorem State.emitAt_tick (code : Nat) (obj : Word) (args : List Nat) (st : Option DevTime) : (s.emitAt code obj args st).tick = s.tick := rfl
@[simp] theorem State.emitAt_axes (code : Nat) (obj : Word) (args : List Nat) (st : Option DevTime) : (s.emitAt code obj args st).axes = s.axes := rfl
@[simp] theorem State.emitAt_queues (code : Nat) (obj : Word) (args : List Nat) (st : Option DevTime) : (s.emitAt code obj args st).queues = s.queues := rfl
@[simp] theorem State.emitAt_sigma (code : Nat) (obj : Word) (args : List Nat) (st : Option DevTime) : (s.emitAt code obj args st).sigma = s.sigma := rfl
@[simp] theorem State.emitAt_supply (code : Nat) (obj : Word) (args : List Nat) (st : Option DevTime) : (s.emitAt code obj args st).supply = s.supply := rfl
@[simp] theorem State.emitAt_ports (code : Nat) (obj : Word) (args : List Nat) (st : Option DevTime) : (s.emitAt code obj args st).ports = s.ports := rfl
@[simp] theorem State.emitAt_cmps (code : Nat) (obj : Word) (args : List Nat) (st : Option DevTime) : (s.emitAt code obj args st).cmps = s.cmps := rfl
@[simp] theorem State.emitAt_sep (code : Nat) (obj : Word) (args : List Nat) (st : Option DevTime) : (s.emitAt code obj args st).sep = s.sep := rfl
@[simp] theorem State.emitAt_solver (code : Nat) (obj : Word) (args : List Nat) (st : Option DevTime) : (s.emitAt code obj args st).solver = s.solver := rfl
@[simp] theorem State.emitAt_safety (code : Nat) (obj : Word) (args : List Nat) (st : Option DevTime) : (s.emitAt code obj args st).safety = s.safety := rfl
@[simp] theorem State.emitAt_selide (code : Nat) (obj : Word) (args : List Nat) (st : Option DevTime) : (s.emitAt code obj args st).selide = s.selide := rfl
@[simp] theorem State.emitAt_link (code : Nat) (obj : Word) (args : List Nat) (st : Option DevTime) : (s.emitAt code obj args st).link = s.link := rfl
@[simp] theorem State.emitAt_lanes (code : Nat) (obj : Word) (args : List Nat) (st : Option DevTime) : (s.emitAt code obj args st).lanes = s.lanes := rfl
@[simp] theorem State.emitAt_time (code : Nat) (obj : Word) (args : List Nat) (st : Option DevTime) : (s.emitAt code obj args st).time = s.time := rfl
@[simp] theorem State.emitAt_can (code : Nat) (obj : Word) (args : List Nat) (st : Option DevTime) : (s.emitAt code obj args st).can = s.can := rfl
@[simp] theorem State.emitAt_health (code : Nat) (obj : Word) (args : List Nat) (st : Option DevTime) : (s.emitAt code obj args st).health = s.health := rfl
@[simp] theorem State.emitAt_chk (code : Nat) (obj : Word) (args : List Nat) (st : Option DevTime) : (s.emitAt code obj args st).chk = s.chk := rfl
@[simp] theorem State.emitAt_free (code : Nat) (obj : Word) (args : List Nat) (st : Option DevTime) : (s.emitAt code obj args st).free = s.free := rfl
@[simp] theorem State.emitAt_pending (code : Nat) (obj : Word) (args : List Nat) (st : Option DevTime) : (s.emitAt code obj args st).pending = s.pending := rfl

/-! ### `emit` -/

@[simp] theorem State.emit_power (code : Nat) (obj : Word) (args : List Nat) : (s.emit code obj args).power = s.power := rfl
@[simp] theorem State.emit_host (code : Nat) (obj : Word) (args : List Nat) : (s.emit code obj args).host = s.host := rfl
@[simp] theorem State.emit_par (code : Nat) (obj : Word) (args : List Nat) : (s.emit code obj args).par = s.par := rfl
@[simp] theorem State.emit_cell (code : Nat) (obj : Word) (args : List Nat) : (s.emit code obj args).cell = s.cell := rfl
@[simp] theorem State.emit_tick (code : Nat) (obj : Word) (args : List Nat) : (s.emit code obj args).tick = s.tick := rfl
@[simp] theorem State.emit_axes (code : Nat) (obj : Word) (args : List Nat) : (s.emit code obj args).axes = s.axes := rfl
@[simp] theorem State.emit_queues (code : Nat) (obj : Word) (args : List Nat) : (s.emit code obj args).queues = s.queues := rfl
@[simp] theorem State.emit_sigma (code : Nat) (obj : Word) (args : List Nat) : (s.emit code obj args).sigma = s.sigma := rfl
@[simp] theorem State.emit_supply (code : Nat) (obj : Word) (args : List Nat) : (s.emit code obj args).supply = s.supply := rfl
@[simp] theorem State.emit_ports (code : Nat) (obj : Word) (args : List Nat) : (s.emit code obj args).ports = s.ports := rfl
@[simp] theorem State.emit_cmps (code : Nat) (obj : Word) (args : List Nat) : (s.emit code obj args).cmps = s.cmps := rfl
@[simp] theorem State.emit_sep (code : Nat) (obj : Word) (args : List Nat) : (s.emit code obj args).sep = s.sep := rfl
@[simp] theorem State.emit_solver (code : Nat) (obj : Word) (args : List Nat) : (s.emit code obj args).solver = s.solver := rfl
@[simp] theorem State.emit_safety (code : Nat) (obj : Word) (args : List Nat) : (s.emit code obj args).safety = s.safety := rfl
@[simp] theorem State.emit_selide (code : Nat) (obj : Word) (args : List Nat) : (s.emit code obj args).selide = s.selide := rfl
@[simp] theorem State.emit_link (code : Nat) (obj : Word) (args : List Nat) : (s.emit code obj args).link = s.link := rfl
@[simp] theorem State.emit_lanes (code : Nat) (obj : Word) (args : List Nat) : (s.emit code obj args).lanes = s.lanes := rfl
@[simp] theorem State.emit_time (code : Nat) (obj : Word) (args : List Nat) : (s.emit code obj args).time = s.time := rfl
@[simp] theorem State.emit_can (code : Nat) (obj : Word) (args : List Nat) : (s.emit code obj args).can = s.can := rfl
@[simp] theorem State.emit_health (code : Nat) (obj : Word) (args : List Nat) : (s.emit code obj args).health = s.health := rfl
@[simp] theorem State.emit_chk (code : Nat) (obj : Word) (args : List Nat) : (s.emit code obj args).chk = s.chk := rfl
@[simp] theorem State.emit_free (code : Nat) (obj : Word) (args : List Nat) : (s.emit code obj args).free = s.free := rfl
@[simp] theorem State.emit_pending (code : Nat) (obj : Word) (args : List Nat) : (s.emit code obj args).pending = s.pending := rfl

/-! ### `winWrite` -/

@[simp] theorem State.winWrite_power (off : Nat) (l : List Byte) : (s.winWrite off l).power = s.power := rfl
@[simp] theorem State.winWrite_par (off : Nat) (l : List Byte) : (s.winWrite off l).par = s.par := rfl
@[simp] theorem State.winWrite_cell (off : Nat) (l : List Byte) : (s.winWrite off l).cell = s.cell := rfl
@[simp] theorem State.winWrite_tick (off : Nat) (l : List Byte) : (s.winWrite off l).tick = s.tick := rfl
@[simp] theorem State.winWrite_axes (off : Nat) (l : List Byte) : (s.winWrite off l).axes = s.axes := rfl
@[simp] theorem State.winWrite_queues (off : Nat) (l : List Byte) : (s.winWrite off l).queues = s.queues := rfl
@[simp] theorem State.winWrite_sigma (off : Nat) (l : List Byte) : (s.winWrite off l).sigma = s.sigma := rfl
@[simp] theorem State.winWrite_supply (off : Nat) (l : List Byte) : (s.winWrite off l).supply = s.supply := rfl
@[simp] theorem State.winWrite_ports (off : Nat) (l : List Byte) : (s.winWrite off l).ports = s.ports := rfl
@[simp] theorem State.winWrite_cmps (off : Nat) (l : List Byte) : (s.winWrite off l).cmps = s.cmps := rfl
@[simp] theorem State.winWrite_sep (off : Nat) (l : List Byte) : (s.winWrite off l).sep = s.sep := rfl
@[simp] theorem State.winWrite_solver (off : Nat) (l : List Byte) : (s.winWrite off l).solver = s.solver := rfl
@[simp] theorem State.winWrite_safety (off : Nat) (l : List Byte) : (s.winWrite off l).safety = s.safety := rfl
@[simp] theorem State.winWrite_selide (off : Nat) (l : List Byte) : (s.winWrite off l).selide = s.selide := rfl
@[simp] theorem State.winWrite_link (off : Nat) (l : List Byte) : (s.winWrite off l).link = s.link := rfl
@[simp] theorem State.winWrite_lanes (off : Nat) (l : List Byte) : (s.winWrite off l).lanes = s.lanes := rfl
@[simp] theorem State.winWrite_time (off : Nat) (l : List Byte) : (s.winWrite off l).time = s.time := rfl
@[simp] theorem State.winWrite_can (off : Nat) (l : List Byte) : (s.winWrite off l).can = s.can := rfl
@[simp] theorem State.winWrite_recd (off : Nat) (l : List Byte) : (s.winWrite off l).recd = s.recd := rfl
@[simp] theorem State.winWrite_health (off : Nat) (l : List Byte) : (s.winWrite off l).health = s.health := rfl
@[simp] theorem State.winWrite_chk (off : Nat) (l : List Byte) : (s.winWrite off l).chk = s.chk := rfl
@[simp] theorem State.winWrite_free (off : Nat) (l : List Byte) : (s.winWrite off l).free = s.free := rfl
@[simp] theorem State.winWrite_pending (off : Nat) (l : List Byte) : (s.winWrite off l).pending = s.pending := rfl

/-! ### `begin` -/

@[simp] theorem State.begin_power (h : Hdr) : (s.begin h).power = s.power := rfl
@[simp] theorem State.begin_par (h : Hdr) : (s.begin h).par = s.par := rfl
@[simp] theorem State.begin_cell (h : Hdr) : (s.begin h).cell = s.cell := rfl
@[simp] theorem State.begin_tick (h : Hdr) : (s.begin h).tick = s.tick := rfl
@[simp] theorem State.begin_axes (h : Hdr) : (s.begin h).axes = s.axes := rfl
@[simp] theorem State.begin_queues (h : Hdr) : (s.begin h).queues = s.queues := rfl
@[simp] theorem State.begin_sigma (h : Hdr) : (s.begin h).sigma = s.sigma := rfl
@[simp] theorem State.begin_supply (h : Hdr) : (s.begin h).supply = s.supply := rfl
@[simp] theorem State.begin_ports (h : Hdr) : (s.begin h).ports = s.ports := rfl
@[simp] theorem State.begin_cmps (h : Hdr) : (s.begin h).cmps = s.cmps := rfl
@[simp] theorem State.begin_sep (h : Hdr) : (s.begin h).sep = s.sep := rfl
@[simp] theorem State.begin_solver (h : Hdr) : (s.begin h).solver = s.solver := rfl
@[simp] theorem State.begin_safety (h : Hdr) : (s.begin h).safety = s.safety := rfl
@[simp] theorem State.begin_selide (h : Hdr) : (s.begin h).selide = s.selide := rfl
@[simp] theorem State.begin_link (h : Hdr) : (s.begin h).link = s.link := rfl
@[simp] theorem State.begin_lanes (h : Hdr) : (s.begin h).lanes = s.lanes := rfl
@[simp] theorem State.begin_time (h : Hdr) : (s.begin h).time = s.time := rfl
@[simp] theorem State.begin_can (h : Hdr) : (s.begin h).can = s.can := rfl
@[simp] theorem State.begin_recd (h : Hdr) : (s.begin h).recd = s.recd := rfl
@[simp] theorem State.begin_health (h : Hdr) : (s.begin h).health = s.health := rfl
@[simp] theorem State.begin_chk (h : Hdr) : (s.begin h).chk = s.chk := rfl
@[simp] theorem State.begin_free (h : Hdr) : (s.begin h).free = s.free := rfl
@[simp] theorem State.begin_pending (h : Hdr) : (s.begin h).pending = s.pending := rfl

/-! ### What an accessor reads after an update through it -/

@[simp] theorem State.modAxis_axis (a b : Nat) (f : Axis → Axis) :
    (s.modAxis a f).axis b = if b = a then f (s.axis a) else s.axis b := tblGet_tblMod ..

@[simp] theorem State.modPort_port (a b : Nat) (f : Port → Port) :
    (s.modPort a f).port b = if b = a then f (s.port a) else s.port b := tblGet_tblMod ..

@[simp] theorem State.modCmp_cmp (a b : Nat) (f : CmpSt → CmpSt) :
    (s.modCmp a f).cmp b = if b = a then f (s.cmp a) else s.cmp b := tblGet_tblMod ..

@[simp] theorem State.modCan_canSt (a b : Nat) (f : CanSt → CanSt) :
    (s.modCan a f).canSt b = if b = a then f (s.canSt a) else s.canSt b := tblGet_tblMod ..

@[simp] theorem State.modRing_ring (a b : Nat) (f : Ring → Ring) :
    (s.modRing a f).ring b = if b = a then f (s.ring a) else s.ring b := tblGet_tblMod ..

@[simp] theorem State.modSigma_sigmaSt (a b : Nat) (f : SigmaSt → SigmaSt) :
    (s.modSigma a f).sigmaSt b = if b = a then f (s.sigmaSt a) else s.sigmaSt b := tblGet_tblMod ..

@[simp] theorem State.modNode_node (a b : Nat) (f : NodeSt → NodeSt) :
    (s.modNode a f).node b = if b = a then f (s.node a) else s.node b := tblGet_tblMod ..

@[simp] theorem State.modTrunk_trunk (a b : Nat) (f : TrunkSt → TrunkSt) :
    (s.modTrunk a f).trunk b = if b = a then f (s.trunk a) else s.trunk b := tblGet_tblMod ..

@[simp] theorem State.modPair_pair (a b : Nat) (f : PairSt → PairSt) :
    (s.modPair a f).pair b = if b = a then f (s.pair a) else s.pair b := tblGet_tblMod ..

@[simp] theorem State.modLogLane_logLane (a b : Nat) (f : LogLane → LogLane) :
    (s.modLogLane a f).logLane b = if b = a then f (s.logLane a) else s.logLane b := tblGet_tblMod ..

@[simp] theorem State.modZone_zone (a b : Nat) (f : ZoneSt → ZoneSt) :
    (s.modZone a f).zone b = if b = a then f (s.zone a) else s.zone b := tblGet_tblMod ..

@[simp] theorem State.modInput_input (a b : Nat) (f : InputSt → InputSt) :
    (s.modInput a f).input b = if b = a then f (s.input a) else s.input b := tblGet_tblMod ..

@[simp] theorem State.modTp_tp (a b : Nat) (f : TpSt → TpSt) :
    (s.modTp a f).tp b = if b = a then f (s.tp a) else s.tp b := tblGet_tblMod ..

@[simp] theorem State.modAxisSto_axisSto (a b : Nat) (f : AxisSto → AxisSto) :
    (s.modAxisSto a f).axisSto b = if b = a then f (s.axisSto a) else s.axisSto b := tblGet_tblMod ..

@[simp] theorem State.modSls_slsSt (a b : Nat) (f : SlsSt → SlsSt) :
    (s.modSls a f).slsSt b = if b = a then f (s.slsSt a) else s.slsSt b := tblGet_tblMod ..

@[simp] theorem State.modArm_armSt (a b : Nat) (f : ArmSt → ArmSt) :
    (s.modArm a f).armSt b = if b = a then f (s.armSt a) else s.armSt b := tblGet_tblMod ..

@[simp] theorem State.modDom_dom (a b : Nat) (f : DomainSt → DomainSt) :
    (s.modDom a f).dom b = if b = a then f (s.dom a) else s.dom b := tblGet_tblMod ..

@[simp] theorem State.modEth_eth (a b : Nat) (f : EthPort → EthPort) :
    (s.modEth a f).eth b = if b = a then f (s.eth a) else s.eth b := tblGet_tblMod ..

@[simp] theorem State.modClk_clk (a b : Nat) (f : ClkDomain → ClkDomain) :
    (s.modClk a f).clk b = if b = a then f (s.clk a) else s.clk b := tblGet_tblMod ..

theorem State.modEng_eng (e : Island) (f : Eng → Eng) : (s.modEng e f).eng e = f (s.eng e) := by cases e <;> rfl

theorem State.modEng_eng_other {e d : Island} (f : Eng → Eng) (h : d ≠ e) : (s.modEng e f).eng d = s.eng d := by
  cases e <;> cases d <;> first | rfl | exact absurd rfl h

@[simp] theorem State.modPerson_person (e : Island) (a b : Nat) (f : PersonSt → PersonSt) :
    (s.modPerson e a f).person e b = if b = a then f (s.person e a) else s.person e b := by
  cases e <;> exact tblGet_tblMod ..

@[simp] theorem State.modRelay_relay (e : Island) (a b : Nat) (f : RelaySt → RelaySt) :
    (s.modRelay e a f).relay e b = if b = a then f (s.relay e a) else s.relay e b := by
  cases e <;> exact tblGet_tblMod ..

@[simp] theorem State.modQueue_queue (q r : Word) (f : Queue → Queue) :
    (s.modQueue q f).queue r = if r.toNat = q.toNat then f (s.queue q) else s.queue r := tblGet_tblMod ..

end Sys2Proof.Machine
end

