-- ==== Sys2Proof/Laws/Ops.lean ====
section
/-!
SUPPORT. What the shared operations of Machine/Ops.lean can do, said once: causes and vectors (R404), the event queue (R456),
completions (R421, R422), the host window (R405), folds over lists, and object references (R16).
-/
namespace Sys2Proof.Machine

variable (s : State)

/-! ### Causes of Table 14.7 (R404) -/

@[simp] theorem State.raiseVector_power (k : Nat) : (s.raiseVector k).power = s.power := by
  unfold State.raiseVector; dsimp only; split <;> rfl
@[simp] theorem State.raiseVector_par (k : Nat) : (s.raiseVector k).par = s.par := by
  unfold State.raiseVector; dsimp only; split <;> rfl
@[simp] theorem State.raiseVector_cell (k : Nat) : (s.raiseVector k).cell = s.cell := by
  unfold State.raiseVector; dsimp only; split <;> rfl
@[simp] theorem State.raiseVector_tick (k : Nat) : (s.raiseVector k).tick = s.tick := by
  unfold State.raiseVector; dsimp only; split <;> rfl
@[simp] theorem State.raiseVector_axes (k : Nat) : (s.raiseVector k).axes = s.axes := by
  unfold State.raiseVector; dsimp only; split <;> rfl
@[simp] theorem State.raiseVector_queues (k : Nat) : (s.raiseVector k).queues = s.queues := by
  unfold State.raiseVector; dsimp only; split <;> rfl
@[simp] theorem State.raiseVector_sigma (k : Nat) : (s.raiseVector k).sigma = s.sigma := by
  unfold State.raiseVector; dsimp only; split <;> rfl
@[simp] theorem State.raiseVector_supply (k : Nat) : (s.raiseVector k).supply = s.supply := by
  unfold State.raiseVector; dsimp only; split <;> rfl
@[simp] theorem State.raiseVector_ports (k : Nat) : (s.raiseVector k).ports = s.ports := by
  unfold State.raiseVector; dsimp only; split <;> rfl
@[simp] theorem State.raiseVector_cmps (k : Nat) : (s.raiseVector k).cmps = s.cmps := by
  unfold State.raiseVector; dsimp only; split <;> rfl
@[simp] theorem State.raiseVector_sep (k : Nat) : (s.raiseVector k).sep = s.sep := by
  unfold State.raiseVector; dsimp only; split <;> rfl
@[simp] theorem State.raiseVector_solver (k : Nat) : (s.raiseVector k).solver = s.solver := by
  unfold State.raiseVector; dsimp only; split <;> rfl
@[simp] theorem State.raiseVector_safety (k : Nat) : (s.raiseVector k).safety = s.safety := by
  unfold State.raiseVector; dsimp only; split <;> rfl
@[simp] theorem State.raiseVector_selide (k : Nat) : (s.raiseVector k).selide = s.selide := by
  unfold State.raiseVector; dsimp only; split <;> rfl
@[simp] theorem State.raiseVector_link (k : Nat) : (s.raiseVector k).link = s.link := by
  unfold State.raiseVector; dsimp only; split <;> rfl
@[simp] theorem State.raiseVector_lanes (k : Nat) : (s.raiseVector k).lanes = s.lanes := by
  unfold State.raiseVector; dsimp only; split <;> rfl
@[simp] theorem State.raiseVector_time (k : Nat) : (s.raiseVector k).time = s.time := by
  unfold State.raiseVector; dsimp only; split <;> rfl
@[simp] theorem State.raiseVector_can (k : Nat) : (s.raiseVector k).can = s.can := by
  unfold State.raiseVector; dsimp only; split <;> rfl
@[simp] theorem State.raiseVector_recd (k : Nat) : (s.raiseVector k).recd = s.recd := by
  unfold State.raiseVector; dsimp only; split <;> rfl
@[simp] theorem State.raiseVector_health (k : Nat) : (s.raiseVector k).health = s.health := by
  unfold State.raiseVector; dsimp only; split <;> rfl
@[simp] theorem State.raiseVector_chk (k : Nat) : (s.raiseVector k).chk = s.chk := by
  unfold State.raiseVector; dsimp only; split <;> rfl
@[simp] theorem State.raiseVector_free (k : Nat) : (s.raiseVector k).free = s.free := by
  unfold State.raiseVector; dsimp only; split <;> rfl
@[simp] theorem State.raiseVector_pending (k : Nat) : (s.raiseVector k).pending = s.pending := by
  unfold State.raiseVector; dsimp only; split <;> rfl

@[simp] theorem State.raiseIrq_power (k : Nat) : (s.raiseIrq k).power = s.power := by
  unfold State.raiseIrq; dsimp only; split; rfl; split; simp; rfl
@[simp] theorem State.raiseIrq_par (k : Nat) : (s.raiseIrq k).par = s.par := by
  unfold State.raiseIrq; dsimp only; split; rfl; split; simp; rfl
@[simp] theorem State.raiseIrq_cell (k : Nat) : (s.raiseIrq k).cell = s.cell := by
  unfold State.raiseIrq; dsimp only; split; rfl; split; simp; rfl
@[simp] theorem State.raiseIrq_tick (k : Nat) : (s.raiseIrq k).tick = s.tick := by
  unfold State.raiseIrq; dsimp only; split; rfl; split; simp; rfl
@[simp] theorem State.raiseIrq_axes (k : Nat) : (s.raiseIrq k).axes = s.axes := by
  unfold State.raiseIrq; dsimp only; split; rfl; split; simp; rfl
@[simp] theorem State.raiseIrq_queues (k : Nat) : (s.raiseIrq k).queues = s.queues := by
  unfold State.raiseIrq; dsimp only; split; rfl; split; simp; rfl
@[simp] theorem State.raiseIrq_sigma (k : Nat) : (s.raiseIrq k).sigma = s.sigma := by
  unfold State.raiseIrq; dsimp only; split; rfl; split; simp; rfl
@[simp] theorem State.raiseIrq_supply (k : Nat) : (s.raiseIrq k).supply = s.supply := by
  unfold State.raiseIrq; dsimp only; split; rfl; split; simp; rfl
@[simp] theorem State.raiseIrq_ports (k : Nat) : (s.raiseIrq k).ports = s.ports := by
  unfold State.raiseIrq; dsimp only; split; rfl; split; simp; rfl
@[simp] theorem State.raiseIrq_cmps (k : Nat) : (s.raiseIrq k).cmps = s.cmps := by
  unfold State.raiseIrq; dsimp only; split; rfl; split; simp; rfl
@[simp] theorem State.raiseIrq_sep (k : Nat) : (s.raiseIrq k).sep = s.sep := by
  unfold State.raiseIrq; dsimp only; split; rfl; split; simp; rfl
@[simp] theorem State.raiseIrq_solver (k : Nat) : (s.raiseIrq k).solver = s.solver := by
  unfold State.raiseIrq; dsimp only; split; rfl; split; simp; rfl
@[simp] theorem State.raiseIrq_safety (k : Nat) : (s.raiseIrq k).safety = s.safety := by
  unfold State.raiseIrq; dsimp only; split; rfl; split; simp; rfl
@[simp] theorem State.raiseIrq_selide (k : Nat) : (s.raiseIrq k).selide = s.selide := by
  unfold State.raiseIrq; dsimp only; split; rfl; split; simp; rfl
@[simp] theorem State.raiseIrq_link (k : Nat) : (s.raiseIrq k).link = s.link := by
  unfold State.raiseIrq; dsimp only; split; rfl; split; simp; rfl
@[simp] theorem State.raiseIrq_lanes (k : Nat) : (s.raiseIrq k).lanes = s.lanes := by
  unfold State.raiseIrq; dsimp only; split; rfl; split; simp; rfl
@[simp] theorem State.raiseIrq_time (k : Nat) : (s.raiseIrq k).time = s.time := by
  unfold State.raiseIrq; dsimp only; split; rfl; split; simp; rfl
@[simp] theorem State.raiseIrq_can (k : Nat) : (s.raiseIrq k).can = s.can := by
  unfold State.raiseIrq; dsimp only; split; rfl; split; simp; rfl
@[simp] theorem State.raiseIrq_recd (k : Nat) : (s.raiseIrq k).recd = s.recd := by
  unfold State.raiseIrq; dsimp only; split; rfl; split; simp; rfl
@[simp] theorem State.raiseIrq_health (k : Nat) : (s.raiseIrq k).health = s.health := by
  unfold State.raiseIrq; dsimp only; split; rfl; split; simp; rfl
@[simp] theorem State.raiseIrq_chk (k : Nat) : (s.raiseIrq k).chk = s.chk := by
  unfold State.raiseIrq; dsimp only; split; rfl; split; simp; rfl
@[simp] theorem State.raiseIrq_free (k : Nat) : (s.raiseIrq k).free = s.free := by
  unfold State.raiseIrq; dsimp only; split; rfl; split; simp; rfl
@[simp] theorem State.raiseIrq_pending (k : Nat) : (s.raiseIrq k).pending = s.pending := by
  unfold State.raiseIrq; dsimp only; split; rfl; split; simp; rfl

/-- A vector is sent or held; nothing else of the host interface changes. -/
theorem State.raiseVector_host (k : Nat) :
    ({ (s.raiseVector k).host with pba := s.host.pba, msiSent := s.host.msiSent } : HostIf) = s.host := by
  unfold State.raiseVector; dsimp only; split <;> rfl

/-- A cause that sets leaves its bit set, sends or holds a message, and changes nothing else of the host interface. -/
theorem State.raiseIrq_host (k : Nat) :
    ({ (s.raiseIrq k).host with irqStatus := s.host.irqStatus, pba := s.host.pba, msiSent := s.host.msiSent } : HostIf) =
      s.host := by
  unfold State.raiseIrq; dsimp only
  split
  · rfl
  · split
    · unfold State.raiseVector; dsimp only; split <;> rfl
    · rfl

theorem State.raiseVector_irqStatus (k : Nat) : (s.raiseVector k).host.irqStatus = s.host.irqStatus := by
  unfold State.raiseVector; dsimp only; split <;> rfl

theorem State.raiseIrq_irqStatus (k : Nat) :
    (s.raiseIrq k).host.irqStatus = s.host.irqStatus ||| BitVec.ofNat 32 (2 ^ k) := by
  have key : ∀ h : bitN s.host.irqStatus.toNat k = true, s.host.irqStatus = s.host.irqStatus ||| BitVec.ofNat 32 (2 ^ k) := by
    intro h
    apply BitVec.eq_of_getLsbD_eq
    intro i hi
    simp only [BitVec.getLsbD_or, BitVec.getLsbD_ofNat, Nat.testBit_two_pow]
    by_cases hik : k = i
    · subst hik
      have : s.host.irqStatus.getLsbD k = true := by
        simp only [bitN, decide_eq_true_eq] at h
        simp only [BitVec.getLsbD, Nat.testBit_eq_decide_div_mod_eq, h, decide_true]
      simp [this]
    · simp [hik]
  unfold State.raiseIrq; dsimp only
  split
  · rename_i h; exact key h
  · split
    · rw [State.raiseVector_irqStatus]; rfl
    · rfl

/-- Fields of the host interface that a cause leaves alone. -/
@[simp] theorem State.raiseIrq_rings (k : Nat) : (s.raiseIrq k).host.rings = s.host.rings := by
  unfold State.raiseIrq State.raiseVector; dsimp only; repeat' split
  all_goals rfl
@[simp] theorem State.raiseIrq_window (k : Nat) : (s.raiseIrq k).host.window = s.host.window := by
  unfold State.raiseIrq State.raiseVector; dsimp only; repeat' split
  all_goals rfl
@[simp] theorem State.raiseIrq_hostMem (k : Nat) : (s.raiseIrq k).host.hostMem = s.host.hostMem := by
  unfold State.raiseIrq State.raiseVector; dsimp only; repeat' split
  all_goals rfl
@[simp] theorem State.raiseIrq_scratch (k : Nat) : (s.raiseIrq k).host.scratch = s.host.scratch := by
  unfold State.raiseIrq State.raiseVector; dsimp only; repeat' split
  all_goals rfl

/-! ### Events (R456) -/

/-- An event changes nothing but the recorder's queue and its count of lost events. -/
theorem State.emitAt_recd (code : Nat) (obj : Word) (args : List Nat) (st : Option DevTime) :
    ({ (s.emitAt code obj args st).recd with queue := s.recd.queue, lostCount := s.recd.lostCount } : RecSt) = s.recd := by
  unfold State.emitAt State.modRec; dsimp only; split <;> rfl

/-- While fewer than 1,024 events wait, an event joins the end of the queue. -/
theorem State.emitAt_queue (code : Nat) (obj : Word) (args : List Nat) (st : Option DevTime)
    (h : queuedEvents s.recd.queue < 1024) :
    (s.emitAt code obj args st).recd.queue =
      s.recd.queue ++ [.ev code obj (args.map (BitVec.ofNat 32)) s.tick.cycle (s.calendar (st.getD (s.timeAt 0))) st.isSome] := by
  simp [State.emitAt, State.modRec, h]

/-! ### Completions (R421, R422) -/

@[simp] theorem State.complete_power (op : Nat) (h : Hdr) (status : Nat) (obj : Word) (result : Nat) : (s.complete op h status obj result).power = s.power := by
  unfold State.complete; dsimp only; split <;> rfl
@[simp] theorem State.complete_par (op : Nat) (h : Hdr) (status : Nat) (obj : Word) (result : Nat) : (s.complete op h status obj result).par = s.par := by
  unfold State.complete; dsimp only; split <;> rfl
@[simp] theorem State.complete_cell (op : Nat) (h : Hdr) (status : Nat) (obj : Word) (result : Nat) : (s.complete op h status obj result).cell = s.cell := by
  unfold State.complete; dsimp only; split <;> rfl
@[simp] theorem State.complete_tick (op : Nat) (h : Hdr) (status : Nat) (obj : Word) (result : Nat) : (s.complete op h status obj result).tick = s.tick := by
  unfold State.complete; dsimp only; split <;> rfl
@[simp] theorem State.complete_axes (op : Nat) (h : Hdr) (status : Nat) (obj : Word) (result : Nat) : (s.complete op h status obj result).axes = s.axes := by
  unfold State.complete; dsimp only; split <;> rfl
@[simp] theorem State.complete_queues (op : Nat) (h : Hdr) (status : Nat) (obj : Word) (result : Nat) : (s.complete op h status obj result).queues = s.queues := by
  unfold State.complete; dsimp only; split <;> rfl
@[simp] theorem State.complete_sigma (op : Nat) (h : Hdr) (status : Nat) (obj : Word) (result : Nat) : (s.complete op h status obj result).sigma = s.sigma := by
  unfold State.complete; dsimp only; split <;> rfl
@[simp] theorem State.complete_supply (op : Nat) (h : Hdr) (status : Nat) (obj : Word) (result : Nat) : (s.complete op h status obj result).supply = s.supply := by
  unfold State.complete; dsimp only; split <;> rfl
@[simp] theorem State.complete_ports (op : Nat) (h : Hdr) (status : Nat) (obj : Word) (result : Nat) : (s.complete op h status obj result).ports = s.ports := by
  unfold State.complete; dsimp only; split <;> rfl
@[simp] theorem State.complete_cmps (op : Nat) (h : Hdr) (status : Nat) (obj : Word) (result : Nat) : (s.complete op h status obj result).cmps = s.cmps := by
  unfold State.complete; dsimp only; split <;> rfl
@[simp] theorem State.complete_sep (op : Nat) (h : Hdr) (status : Nat) (obj : Word) (result : Nat) : (s.complete op h status obj result).sep = s.sep := by
  unfold State.complete; dsimp only; split <;> rfl
@[simp] theorem State.complete_solver (op : Nat) (h : Hdr) (status : Nat) (obj : Word) (result : Nat) : (s.complete op h status obj result).solver = s.solver := by
  unfold State.complete; dsimp only; split <;> rfl
@[simp] theorem State.complete_safety (op : Nat) (h : Hdr) (status : Nat) (obj : Word) (result : Nat) : (s.complete op h status obj result).safety = s.safety := by
  unfold State.complete; dsimp only; split <;> rfl
@[simp] theorem State.complete_selide (op : Nat) (h : Hdr) (status : Nat) (obj : Word) (result : Nat) : (s.complete op h status obj result).selide = s.selide := by
  unfold State.complete; dsimp only; split <;> rfl
@[simp] theorem State.complete_link (op : Nat) (h : Hdr) (status : Nat) (obj : Word) (result : Nat) : (s.complete op h status obj result).link = s.link := by
  unfold State.complete; dsimp only; split <;> rfl
@[simp] theorem State.complete_lanes (op : Nat) (h : Hdr) (status : Nat) (obj : Word) (result : Nat) : (s.complete op h status obj result).lanes = s.lanes := by
  unfold State.complete; dsimp only; split <;> rfl
@[simp] theorem State.complete_time (op : Nat) (h : Hdr) (status : Nat) (obj : Word) (result : Nat) : (s.complete op h status obj result).time = s.time := by
  unfold State.complete; dsimp only; split <;> rfl
@[simp] theorem State.complete_can (op : Nat) (h : Hdr) (status : Nat) (obj : Word) (result : Nat) : (s.complete op h status obj result).can = s.can := by
  unfold State.complete; dsimp only; split <;> rfl
@[simp] theorem State.complete_recd (op : Nat) (h : Hdr) (status : Nat) (obj : Word) (result : Nat) : (s.complete op h status obj result).recd = s.recd := by
  unfold State.complete; dsimp only; split <;> rfl
@[simp] theorem State.complete_health (op : Nat) (h : Hdr) (status : Nat) (obj : Word) (result : Nat) : (s.complete op h status obj result).health = s.health := by
  unfold State.complete; dsimp only; split <;> rfl
@[simp] theorem State.complete_chk (op : Nat) (h : Hdr) (status : Nat) (obj : Word) (result : Nat) : (s.complete op h status obj result).chk = s.chk := by
  unfold State.complete; dsimp only; split <;> rfl
@[simp] theorem State.complete_free (op : Nat) (h : Hdr) (status : Nat) (obj : Word) (result : Nat) : (s.complete op h status obj result).free = s.free := by
  unfold State.complete; dsimp only; split <;> rfl
@[simp] theorem State.complete_pending (op : Nat) (h : Hdr) (status : Nat) (obj : Word) (result : Nat) : (s.complete op h status obj result).pending = s.pending := by
  unfold State.complete; dsimp only; split <;> rfl

@[simp] theorem State.done_power (op : Nat) (h : Hdr) (status : Nat) : (s.done op h status).power = s.power := by
  simp [State.done]
@[simp] theorem State.done_par (op : Nat) (h : Hdr) (status : Nat) : (s.done op h status).par = s.par := by
  simp [State.done]
@[simp] theorem State.done_cell (op : Nat) (h : Hdr) (status : Nat) : (s.done op h status).cell = s.cell := by
  simp [State.done]
@[simp] theorem State.done_tick (op : Nat) (h : Hdr) (status : Nat) : (s.done op h status).tick = s.tick := by
  simp [State.done]
@[simp] theorem State.done_axes (op : Nat) (h : Hdr) (status : Nat) : (s.done op h status).axes = s.axes := by
  simp [State.done]
@[simp] theorem State.done_queues (op : Nat) (h : Hdr) (status : Nat) : (s.done op h status).queues = s.queues := by
  simp [State.done]
@[simp] theorem State.done_sigma (op : Nat) (h : Hdr) (status : Nat) : (s.done op h status).sigma = s.sigma := by
  simp [State.done]
@[simp] theorem State.done_supply (op : Nat) (h : Hdr) (status : Nat) : (s.done op h status).supply = s.supply := by
  simp [State.done]
@[simp] theorem State.done_ports (op : Nat) (h : Hdr) (status : Nat) : (s.done op h status).ports = s.ports := by
  simp [State.done]
@[simp] theorem State.done_cmps (op : Nat) (h : Hdr) (status : Nat) : (s.done op h status).cmps = s.cmps := by
  simp [State.done]
@[simp] theorem State.done_sep (op : Nat) (h : Hdr) (status : Nat) : (s.done op h status).sep = s.sep := by
  simp [State.done]
@[simp] theorem State.done_solver (op : Nat) (h : Hdr) (status : Nat) : (s.done op h status).solver = s.solver := by
  simp [State.done]
@[simp] theorem State.done_safety (op : Nat) (h : Hdr) (status : Nat) : (s.done op h status).safety = s.safety := by
  simp [State.done]
@[simp] theorem State.done_selide (op : Nat) (h : Hdr) (status : Nat) : (s.done op h status).selide = s.selide := by
  simp [State.done]
@[simp] theorem State.done_link (op : Nat) (h : Hdr) (status : Nat) : (s.done op h status).link = s.link := by
  simp [State.done]
@[simp] theorem State.done_lanes (op : Nat) (h : Hdr) (status : Nat) : (s.done op h status).lanes = s.lanes := by
  simp [State.done]
@[simp] theorem State.done_time (op : Nat) (h : Hdr) (status : Nat) : (s.done op h status).time = s.time := by
  simp [State.done]
@[simp] theorem State.done_can (op : Nat) (h : Hdr) (status : Nat) : (s.done op h status).can = s.can := by
  simp [State.done]
@[simp] theorem State.done_recd (op : Nat) (h : Hdr) (status : Nat) : (s.done op h status).recd = s.recd := by
  simp [State.done]
@[simp] theorem State.done_health (op : Nat) (h : Hdr) (status : Nat) : (s.done op h status).health = s.health := by
  simp [State.done]
@[simp] theorem State.done_chk (op : Nat) (h : Hdr) (status : Nat) : (s.done op h status).chk = s.chk := by
  simp [State.done]
@[simp] theorem State.done_free (op : Nat) (h : Hdr) (status : Nat) : (s.done op h status).free = s.free := by
  simp [State.done]
@[simp] theorem State.done_pending (op : Nat) (h : Hdr) (status : Nat) : (s.done op h status).pending = s.pending := by
  simp [State.done]

/-- With no command left from before a host reset, the command a status belongs to is none of those. -/
theorem State.openCmd_no_orphan (op : Option Nat) (r : Nat) (t : Word64)
    (h : s.host.inflight.all (fun e => !e.orphan) = true) :
    ((s.openCmd op r t).map fun e => e.orphan).getD false = false := by
  cases hf : s.openCmd op r t with
  | none => rfl
  | some e =>
    have hm : e ∈ s.host.inflight.filter fun e => e.hdr.ring.val = r && e.hdr.tag = t && !e.decided := by
      rcases Option.or_eq_some_iff.mp hf with h1 | ⟨-, h1⟩
      · rcases Option.or_eq_some_iff.mp h1 with h2 | ⟨-, h2⟩
        · exact List.mem_of_find?_eq_some h2
        · exact List.mem_of_find?_eq_some h2
      · exact List.mem_of_head? h1
    have := List.all_eq_true.mp h e (List.mem_of_mem_filter hm)
    simpa using this

/-- With no command left from before a host reset, a completion becomes the last that is ready on its ring; it carries the
sequence number and the NOTIFY of the command whose status it decides. -/
theorem State.complete_ready (op : Nat) (h : Hdr) (status : Nat) (obj : Word) (result : Nat)
    (ho : s.host.inflight.all (fun e => !e.orphan) = true) :
    ((s.complete op h status obj result).ring h.ring.val).ready = (s.ring h.ring.val).ready ++
      [{ tag := h.tag, status := BitVec.ofNat 32 status, obj := obj, cycle := s.tick.cycle,
         opcode := BitVec.ofNat 16 op, result := BitVec.ofNat 64 result,
         notify := ((s.openCmd (some op) h.ring.val h.tag).map fun e => e.notify).getD false,
         seq := (s.openCmd (some op) h.ring.val h.tag).map fun e => e.seq }] := by
  have := s.openCmd_no_orphan (some op) h.ring.val h.tag ho
  unfold State.complete
  dsimp only
  rw [if_neg (by rw [this]; simp)]
  simp [State.ring, State.modHost, State.modRing]

/-- A completion leaves the other rings, the registers, the window and host memory alone. -/
theorem State.complete_host (op : Nat) (h : Hdr) (status : Nat) (obj : Word) (result : Nat) :
    ({ (s.complete op h status obj result).host with
        rings := s.host.rings, inflight := s.host.inflight, journal := s.host.journal } : HostIf) = s.host := by
  unfold State.complete; dsimp only; split <;> rfl

theorem State.complete_ring_other (op : Nat) (h : Hdr) (status : Nat) (obj : Word) (result : Nat) (r : Nat)
    (hr : r ≠ h.ring.val) : (s.complete op h status obj result).ring r = s.ring r := by
  unfold State.complete; dsimp only
  split
  · rfl
  · simp [State.ring, State.modHost, State.modRing, hr]

/-! ### Folds -/

@[simp] theorem State.forEach_nil {α : Type} (f : State → α → State) : s.forEach [] f = s := rfl

@[simp] theorem State.forEach_cons {α : Type} (a : α) (l : List α) (f : State → α → State) :
    s.forEach (a :: l) f = (f s a).forEach l f := rfl

/-- What one round keeps, a fold keeps. -/
theorem State.forEach_keeps {α β : Type} (g : State → β) (l : List α) (f : State → α → State)
    (h : ∀ t a, a ∈ l → g (f t a) = g t) : g (s.forEach l f) = g s := by
  induction l generalizing s with
  | nil => rfl
  | cons a r ih =>
    rw [State.forEach_cons, ih _ fun t b hb => h t b (List.mem_cons_of_mem _ hb), h s a (List.mem_cons_self ..)]

/-- An invariant of one round is an invariant of a fold. -/
theorem State.forEach_invariant {α : Type} (P : State → Prop) (l : List α) (f : State → α → State) (hs : P s)
    (h : ∀ t a, a ∈ l → P t → P (f t a)) : P (s.forEach l f) := by
  induction l generalizing s with
  | nil => exact hs
  | cons a r ih => exact ih _ (h s a (List.mem_cons_self ..) hs) fun t b hb => h t b (List.mem_cons_of_mem _ hb)

/-! ### The host window (R405) -/

theorem State.winWrite_read (off : Nat) (l : List Byte) (hm : cellsWf s.host.window = true) :
    (s.winWrite off l).winRead off l.length = l := by
  have : ∀ (m : Cells 8), cellsWf m = true → readCells (writeCells m off l) off l.length = l :=
    fun m h => readCells_writeCells h off l
  exact this _ hm

/-! ### Object references (Tables 1.3, 1.4) -/

theorem refClass_mkRef (c i : Nat) (hc : c < 16) (hi : i < 65536) : refClass (mkRef c i) = c := by
  simp only [refClass, mkRef, BitVec.toNat_ofNat]; omega

theorem refIndex_mkRef (c i : Nat) (hi : i < 65536) : refIndex (mkRef c i) = i := by
  simp only [refIndex, mkRef, BitVec.toNat_ofNat]; omega

end Sys2Proof.Machine
end

