-- ==== Sys2Proof/Tests/Slice0.lean ====
section
/-!
SUPPORT. Tests: small states, ill-formed commands that `Instr.wf` refuses, the spec's worked examples, and for every clause
of the obligations that has hypotheses a state and operands that meet them (`test_witness_<obligation>`; `k` in its comment
counts the clauses of the obligation in order).
-/
set_option Elab.async false

namespace Sys2Proof.Tests
open Sys2Proof Sys2Proof.Machine

/-! ### States -/

/-- Out of reset, every rail valid, the boot ROM ready. -/
def rom : State :=
  { power := { reset := false, bootState := 1, rails := (upTo 12).map fun k => (k, true) } }

/-- Power applied, every rail valid, internal reset still asserted. -/
def railed : State := { power := { rails := (upTo 16).map fun k => (k, true) } }

/-- A header on ring 0 for an object. -/
def hdr (obj : Word) : Hdr := { ring := 0, tag := 7, obj := obj }

def booted : PowerSt := { reset := false, bootState := 4, phase := 4, strapDone := true, fw := some ⟨1, 2, 1⟩ }

/-- A cell of one device with axis 0 on local port 0, group 0 that holds it, and supply domain 0. -/
def cellOne : Cell :=
  { loaded := true, devs := [⟨0, 0, 0, 0⟩], axes := [⟨0, mkRef clsPort 0, 0, 0, 0, false⟩]
    groups := [⟨0, 0, false, [mkRef clsGroup 1]⟩, ⟨1, mkRef clsGroup 0, false, [mkRef clsAxis 0]⟩], supplies := [⟨0, 100, 10⟩] }

/-- In RUN with that cell and no other image. -/
def run : State := { power := booted, cell := cellOne, tick := { running := true } }

/-- Rings 0 to 3 enabled. -/
def hosted : State := { run with host := { rings := (upTo 4).map fun r => (r, { enable := true }) } }

def romKeyed : State := { rom with power := { rom.power with fuses := { custPresent := true } } }
def romFresh : State := { rom with power := { rom.power with bootState := 0 } }
def burning : State := { rom with power := { rom.power with bootState := 5, fuseWrite := 2 } }
def starting : State := { rom with power := { rom.power with bootState := 3, fwPending := some ⟨1, 2, 1⟩ } }

def testing : State := { rom with power := { rom.power with bootState := 4, phase := 1 } }

/-- Ring 2 holds a completion not yet signalled; IRQ_COAL is 0x7FFF µs. -/
def coalescing : State :=
  { run with host := { rings := [(2, { unsignalledNs := some 100 })], irqCoal := 0x7FFF, irqStatus := 0x4001 }
             tick := { t0Ns := 32767100 } }

/-- Descriptor of an IDENTIFY with tag 9. -/
def identifyBytes : List Byte := [9, 0, 0, 0, 0, 0, 0, 0, 1] ++ List.replicate 247 0

/-- That descriptor lies in slot 5 of ring 1 and is submitted. -/
def submitted : State :=
  { run with host := { rings := [(1, { enable := true, tail := 6, accept := 5, head := 5 })], doorbells := [(1, 5)]
                       window := [(0x1000 + 8192 + 256 * 5, 9), (0x1000 + 8192 + 256 * 5 + 8, 1)] } }

/-- Ring 1 may write its completion, the completion ring of ring 2 is full. -/
def completing : State :=
  { run with host := { rings := [(1, { ready := [{ tag := 3, notify := true }], written := 31, cplLo := 0x1000 }),
                                 (2, { ready := [{ tag := 4 }], written := 32 })] } }

def flown : InFlight :=
  { seq := 1, hdr := { ring := 0, tag := 1, obj := 0 }, opcode := 1, notify := false, cmd := .identify (hdr 0)
    earliest := 0, decided := true }

def waiting : InFlight :=
  { seq := 2, hdr := { ring := 3, tag := 2, obj := 0 }, opcode := 1, notify := false, cmd := .identify (hdr 0)
    earliest := 0 }

/-- Two commands in flight, one decided. -/
def flying : State := { run with host := { inflight := [flown, waiting] } }

def prow (n : Nat) : PRow := (paramRow n).getD { num := 0, last := 0, ty := 0, cls := 0, dflt := 0 }

def unitQ : Int × Int × Int × Int := (1073741824, 0, 0, 0)

/-- Group 1 is an arm of one joint, in zone 0, which is released; lane 0 computes axis 0 on pair 0. -/
def work : State :=
  { run with
    tick := { running := true, no := 100, t0Ns := 3125000, cycle := 33, selide := true }
    axes := [(0, { closed := true, psEn := true, commValid := true, fb := { started := true }, home := { homed := true } })]
    sep := { kin := { loaded := true, chains := [⟨1, (0, 0, 0), unitQ, [⟨false, (0, 0, 0), unitQ, 0⟩], []⟩] } }
    safety := { img := { loaded := true, zones := [⟨0, false, [mkRef clsGroup 1]⟩], sls := [⟨1, none, 1000⟩] }, armed := true
                zones := [(0, { runM := true, runW := true })] }
    selide := { sched := { loaded := true } }
    lanes := { pairs := (upTo 17).map fun p => (p, { state := 2, lane := if p < 16 then some p else none, reserve := p = 16 })
               log := [(0, { slots := [(0, some 0)] })] } }

def atBoundary : State := { work with tick := { work.tick with cycle := 32 } }
def disarmed : State := { work with safety := { work.safety with armed := false } }
def stopped : State := { work with safety := { work.safety with zones := [(0, { hostReq := 1 })] } }
def ready : State := { work with power := { booted with phase := 3 } }

def releasable : State := { work with safety := { work.safety with zones := [] } }

/-- Nodes 0 and 63: present and awake, and muted. -/
def noded : State :=
  { work with selide := { work.selide with started := true, nodes := [(0, { state := 2, wake := true, placed := true }), (63, { mute := true })] } }

/-- Axis 0 is bound to the queue of group 1, which holds one segment. -/
def seg0 : Seg := { segId := 5, notify := false, vStart := 0, vStop := 0, axes := [0], targets := [4294967296] }
def bound : State :=
  { work with axes := [(0, { closed := true, psEn := true, commValid := true, home := { homed := true }, bound := some (mkRef clsGroup 1) })]
              queues := [((mkRef clsGroup 1).toNat, { segs := [seg0] })] }

/-- Nothing moves: axis 0 is closed, unbound, and its supply domain is charged. -/
def calm : State := { work with supply := { levels := [(0, 100 * 65536)] } }
def fullQueue : State := { bound with queues := [((mkRef clsGroup 1).toNat, { segs := List.replicate 32 seg0 })] }
/-- One turn from rest to rest; the same ending faster than the axis may travel. -/
def move0 : MoveArgs := { segId := 6, flags := 0, vStart := 0, vStop := 0, targets := [4294967296] }
def moveBad : MoveArgs := { move0 with vStop := 0xFFFFFFFF }
def sweep0 : SweepArgs :=
  { fStart := 1000, fEnd := 100000, ampl := 16384, decim := 64, duration := 100, winOffset := 0x80000, winLength := 0x1000 }
def sweepDone : SweepSt := { hdr := hdr (mkRef clsAxis 0), axis := 0, args := sweep0, startTick := 10, elapsedNs := 100000000 }
def sweeping : State := { calm with lanes := { calm.lanes with sweeps := [sweepDone] } }
/-- Entries 1, 2, 2 of a compare list lie in the staging area. -/
def listed : State := { calm with host := { window := [(0x80000, 1), (0x80008, 2), (0x80010, 2)] } }
def unpowered : State := { calm with axes := [(0, { commValid := true })], par := { vals := [(0x3040 * 65536, 100)] } }
def unpaid : State := { unpowered with supply := {} }
def faulted : State := { calm with axes := [(0, { fault := true, fb := { started := true } })] }

def armNew : State := { work with sep := { work.sep with arms := [(1, { isNew := true })] } }

/-! ### Images -/

/-- Consecutive bytes in the window; a byte 0 is listed by none. -/
def cellsAt : Nat → List Byte → Cells 8
  | _, [] => []
  | off, b :: r => if b = 0 then cellsAt (off + 1) r else (off, b) :: cellsAt (off + 1) r

/-- A record of an image (R33). -/
def imgRec (type : Nat) (obj : Word) (body : List Byte) : List Byte :=
  bytesLE 2 type ++ bytesLE 2 (8 + body.length) ++ bytesLE 4 obj.toNat ++ body

/-- An image of format 3 for every device, generation 1 (R32). -/
def imgOf (kind : Nat) (body : List Byte) : List Byte :=
  let part := fun (crc : Nat) => bytesLE 4 0x4643425A ++ bytesLE 2 kind ++ bytesLE 2 3 ++ bytesLE 4 (32 + body.length) ++
    [0xFF, 0, 0, 0] ++ bytesLE 4 1 ++ bytesLE 4 crc ++ List.replicate 8 0 ++ body
  part (crc32 (part 0))

/-- The image lies at 0x80000. -/
def holding (s : State) (img : List Byte) : State := { s with host := { s.host with window := cellsAt 0x80000 img } }

def devBytes : List Byte := imgRec 1 0 (bytesLE 8 0 ++ [0, 0, 0, 0])
def cellImg : List Byte := imgOf 1 devBytes
def schedImg : List Byte := imgOf 2 (imgRec 0x0401 0 [0, 1, 0, 0, 0, 0, 0, 0])
def kinImg : List Byte := imgOf 3 []
def safeImg : List Byte :=
  imgOf 4 (imgRec 0x0303 (mkRef clsZone 0) ([1, 0, 1, 0] ++ bytesLE 4 (mkRef clsGroup 1).toNat))
def paramImg : List Byte := imgOf 6 (imgRec 0x0601 (mkRef clsAxis 0) (bytesLE 2 0x1005 ++ List.replicate 14 0))
def kernelImg : List Byte := imgOf 7 []
def structImg : List Byte := imgOf 5 []

def badImg : List Byte := [0] ++ kernelImg.drop 1

def emptyCell : State := holding rom cellImg
def recordsOf (img : List Byte) : List ImgRec := (imageRecs img).getD []
def plain : State := { disarmed with sep := {} }
def loadingKernel : KernelLoad := { hdr := hdr 0, image := {}, accepted := 99 }
def kernelWait : State := { atBoundary with lanes := { atBoundary.lanes with loads := [loadingKernel] } }
def kernelReady : State :=
  { atBoundary with lanes := { atBoundary.lanes with loads := [{ loadingKernel with accepted := 36, suspended := true }] } }

/-! ### Capacity, structures, recorder, CAN -/

/-- Group 1 is removed; its axis is not placed. -/
def removed : State := { atBoundary with health := { removed := [0] }, lanes := { atBoundary.lanes with log := [] } }
def idle : State := { atBoundary with axes := [], safety := { atBoundary.safety with zones := [] } }

def struct0 : Struct :=
  { generation := 1, vars := [⟨1, 3, 0⟩], pents := [(0, 0)], rows := [], blocks := [], perm := [0]
    vals := { p := [0], q := [0], lb := [0], ub := [0] } }
def loading0 : StructLoading := { hdr := hdr (mkRef clsStruct 0), handle := 0, image := struct0 }
/-- Structure 0 is resident; updates lie in the staging area: one of kind 2 (q), index 0, and one of index 1. -/
def resident : State :=
  { work with solver := { structs := [(0, some struct0)] }, host := { window := [(0x80000, 2), (0x80010, 2), (0x80014, 1)] } }
def structStale : State := { work with solver := { loading := [loading0], highGen := [(0, 1000)] } }
def structLoading : State := { work with solver := { loading := [loading0] } }

def event0 : QEv := .ev 0x0101 0 [] 33 (List.replicate 8 0) false
def recording : State := { work with recd := { queue := [event0] } }
def limited : State := { work with recd := { queue := [event0], lims := [(0x0101, { burst := 1, rate := 1, level := 511999 })] } }
def recorded : State := { work with recd := { seq := 2, records := [(1, List.replicate 64 0), (2, List.replicate 64 1)] } }
def copy0 : RecCopy := { hdr := hdr 0, next := 1, last := 2, off := 0x80000 }
def copying : State := { recorded with recd := { recorded.recd with copies := [copy0] } }

def canMsg0 : CanMsg := { tag := 5, id := 0x7FF, flags := 0, dlc := 8, data := List.replicate 8 0xAA }
def tx0 : CanTx := { msg := canMsg0 }
def tx1 : CanTx := { msg := { canMsg0 with tag := 6 } }
def tx2 : CanTx := { msg := { canMsg0 with tag := 7 } }
def canFrame0 : CanFrame :=
  { id := 0x7FF, ide := false, rtr := false, fdf := false, brs := false, esi := false, dlc := 1, data := [1] }
def abd0 : CanAbd := { hdr := hdr (mkRef clsCan 3), thenMode := 1, frames := 255 }
/-- Controller 3 with the given state; its transmit pin is strapped recessive. -/
def canned (c : CanSt) : State :=
  { work with can := [(3, c)], power := { work.power with straps := [(59, { high := true })] } }
def canLate : State := { canned { mode := 0, abd := some { abd0 with frames := 0 } } with tick := { work.tick with t0Ns := 10 ^ 12 } }

/-- The same, accepting every frame. -/
def canOpen (c : CanSt) : State := { canned c with par := { vals := [(0xA008 * 65536 + 3, 0)] } }
/-- Controller 3 with RX_WR 64 and RX_RD 0. -/
def canRxFull : State := { canOpen { mode := 2 } with host := { window := [(canArea 3, 64)] } }
def canSleep : State := { canned { mode := 3 } with par := { vals := [(0xA050 * 65536 + 3, 1), (0xA056 * 65536 + 3, 5000)] } }
/-- CAN_PROT_EXC is ON. -/
def canProt : State := { canned { mode := 1 } with par := { vals := [(0xA004 * 65536 + 3, 1)] } }

/-! ### Lane code -/

/-- Pair 0, or the reserve, runs lane code with these registers. -/
def coded (w : LaneRegs) : State :=
  { work with lanes := { work.lanes with pairs := [(0, { state := 2, lane := some 0, userAxis := some 0, regs := w })] } }
def codedRes (w : LaneRegs) : State :=
  { work with lanes := { work.lanes with pairs := [(16, { state := 2, reserve := true, regs := w })] } }

/-- Firmware at address 0x100: d0 to d3 hold 2³¹ − 1, 1, −2³¹ and 35; a0 its greatest value; pointers 0 and 4 address X and Y. -/
def fwRegs : LaneRegs :=
  { pc := 0x100, d := [(0, 0x7FFFFFFF), (1, 1), (2, 0x80000000), (3, 35)], a := [(0, 0x7FFFFFFFFFFFFFFFFFFF), (1, 3)]
    p := [(0, 0x100), (1, 0x10A80), (2, 0x500), (3, 0x2FFFF), (4, 0x1B000), (5, 0xB101), (6, 0xB0FF)]
    m := [(0, 300), (1, 0xFFFFFFFF)], b := [(6, 0xB0F0)], l := [(6, 16)] }
/-- The same, saturating, in the user stage at its last parcel pair. -/
def userRegs : LaneRegs := { fwRegs with mode := 0xD, pc := 0x7FFE }
def looped : LaneRegs := { fwRegs with stack := List.replicate 8 0x200 }
def wraps : LaneRegs := { fwRegs with mode := 4 }

def loopedUser : LaneRegs := { userRegs with stack := List.replicate 8 0x6000 }
def repeating : LaneRegs := { wraps with rpt := some 1024 }

/-! ### Ports and compares -/

/-- Port 15 in the given mode, with further parameters. -/
def ported (mode : Nat) (p : Port) (vals : List (Nat × Word64)) : State :=
  { work with ports := [(15, p)], par := { vals := vals.map (fun v => (v.1 * 65536 + 15, v.2)) ++ [(0x4001 * 65536 + 15, BitVec.ofNat 64 mode)] } }
def ssi0 : SsiWord := { bits := 0x5, idleHighAtT0 := true, highAfterTimeout := true }
/-- An Ochre response that carries `w`, at the nominal rate. -/
def ochreOf (w : BitVec 64) : OchreResp := { start := 1000, bitPs := 80000, line := ochreFrame 64 w.toNat }
/-- Field 5 with the given status and its CRC. -/
def ochreWordOf (status : Nat) : BitVec 64 :=
  let v := (5 * 256 + status) * 65536
  BitVec.ofNat 64 (v + crcNorm 16 0x1021 0xFFFF (ochreBytes v))

/-- Compare 15 with the given mode on port 15. -/
def compared (mode : Nat) (c : CmpSt) : State :=
  { work with cmps := [(15, c)], ports := [(15, { count := 7 })]
              par := { vals := [(0x4040 * 65536 + 15, (mkRef clsPort 15).setWidth 64), (0x4041 * 65536 + 15, BitVec.ofNat 64 mode)] } }

/-! ### Safety -/

def safeIn : InputRec := { input := 31, antival := true, tpA := 7, tpB := 6, filter := 10, disc := 2, stoMap := 1, ss1Map := 0 }
/-- Input 31, antivalent, with test pulses 7 and 6, acts on zone 0. -/
def sensing (x : InputSt) : State :=
  { work with safety := { work.safety with img := { work.safety.img with inputs := [safeIn], tests := [⟨7, 100, 100, 0, 0⟩] }
                                           inputs := [(31, x)] } }
/-- A test pulse of TP 7 that began at `start`. -/
def pulsing (start : Nat) : State :=
  { sensing { aQ := true } with
    safety := { (sensing { aQ := true }).safety with tps := [(7, { low := true, startNs := start, beforeA := [31] })] } }
/-- 5 ns before TP 7 is due. -/
def onPulse : State := { sensing {} with time := { ns := 87499995 } }
def counted : State := { work with safety := { work.safety with ccCounts := [(1, 3)] } }
def degradedCell : State := { counted with safety := { counted.safety with degraded := some { attributed := none, entry := 99 } } }
def degradedLong : State := { degradedCell with tick := { work.tick with no := 10 ^ 9 } }

def ss1Of (t0 : Nat) : Ss1Req := { id := 1, scope := .zones [0], obj := mkRef clsZone 0, axes := [0], t0 := t0, begun := true }
/-- Axis 0 is under SS1 since tick `t0`, while Madder measures `v`. -/
def under (t0 : Nat) (v : Int) : State :=
  { work with safety := { work.safety with reqs := [ss1Of t0], mon := [(0, some ⟨t0, 0, 0⟩)] }
              sep := { work.sep with m := { joints := [(0, { vel := v })] } } }
def underLong : State := { under 99 0 with tick := { work.tick with no := 10 ^ 9 } }

def armCap : CapRec :=
  { index := 0, attach := mkRef clsGroup 1, link := 1, kind := 1, relay := false, p1 := (0, 0, 0), p2 := (1000000, 0, 0)
    radius := 0, zr := 0, body := [] }
/-- Madder measures one turn per second on the joint of arm 1, whose capsule reaches 1 m, under a limit of 1 mm/s. -/
def speeding : State :=
  { work with sep := { work.sep with kin := { work.sep.kin with caps := [armCap] }, m := { joints := [(0, { vel := 65536 })] } }
              safety := { work.safety with sls := [(0, { hostOn := true, active := true, monitoring := true })] } }
/-- Axis 0, in no arm, runs too fast. -/
def axisSpeeding : State :=
  { speeding with sep := { kin := { loaded := true }, m := { joints := [(0, { vel := 1000000000 })] } } }
def axisStopped : State :=
  { work with sep := { work.sep with arms := [(1, { quiet := 10 ^ 10 })] }, safety := { work.safety with axisSto := [(0, { on := true })] }, par := { vals := [(0x7014 * 65536, 1)] } }
def autoZone : State :=
  { work with safety := { work.safety with img := { work.safety.img with zones := [⟨0, true, [mkRef clsGroup 1]⟩] }, zones := [] } }
def untested : State := { work with tick := { work.tick with t0Ns := 10 ^ 20 } }

/-! ### Selide, cell link, network time -/

def slotUp : SlotRec := { owner := mkRef clsNode 5, trunk := 3, sched := 0, chan := 0, dir := 0, slot := 1, spare := false
                          start := 2000, length := 1000, payload := 12 }
def slotExt : SlotRec := { slotUp with chan := 1, slot := 2 }
def cellNode : Cell :=
  { cellOne with nodes := [⟨5, 1, 2, 3, 3, 15, false, false⟩], axes := [⟨0, mkRef clsNode 5, 0, 0, 0, false⟩] }

/-- Axis 0 on channel 0 of node 5, at the end of trunk 3. -/
def onNode (x : NodeSt) (t : TrunkSt) : State :=
  { work with cell := cellNode
              selide := { sched := { loaded := true, trunks := [⟨3, 1, 1000⟩], slots := [slotUp, slotExt] }, started := true
                          joinOpen := true, nodes := [(5, x)], trunks := [(3, t)] } }
def joinedNode : NodeSt := { state := 2, placed := true, wake := true, slots := [slotUp, slotExt], validData := true, nax := 1 }

/-- A frame of that node in cycle 33, with its CRC. -/
def framed (type node slot ctrl cyc : Nat) (payload : List Byte) (sub : Option SubFrame) : Frame :=
  let h : FrameHdr := { ftype := BitVec.ofNat 8 type, node := BitVec.ofNat 8 node, slot := BitVec.ofNat 8 slot, ctrl := BitVec.ofNat 8 ctrl
                        length := BitVec.ofNat 16 payload.length, cycLo := BitVec.ofNat 16 cyc, genLo := 0, reserved := 0 }
  { hdr := h, payload := payload, sub := sub, crc := BitVec.ofNat 32 (frameCrc h payload sub) }
def frameOf (type slot chan : Nat) (payload : List Byte) : Frame := framed type 15 slot (0x23 + 4 * chan) 33 payload none
def joinBytes : List Byte := [1, 0, 2, 0, 3, 0, 0, 0, 1, 0, 0, 0] ++ List.replicate 12 0
def bringing (x : NodeSt) (ns : Nat) : State :=
  { onNode x {} with selide := { (onNode x {}).selide with startPending := some (hdr 0) }, tick := { work.tick with t0Ns := ns } }

def cycleStart0 : CycleStart :=
  { cycle := 34, t0Ns := 0, t0Sec := 0, cflags := 0, gen := 0, prio := 0, joinStart := 0, serial := 9, acc := 800, corr := 0, mute := 0 }

/-- The CYCLE_START frame on a trunk that carries `c` (Table 9.3). -/
def cycleFrame (c : CycleStart) (trunk : Nat := 0) : Frame :=
  framed ftCycleStart 0xFF 0xFF (0x28 + trunk) c.cycle.toNat (bytesLE 4 c.cycle.toNat ++ bytesLE 4 c.t0Ns.toNat ++ bytesLE 6 c.t0Sec.toNat ++
    bytesLE 2 c.cflags.toNat ++ bytesLE 4 c.gen.toNat ++ bytesLE 2 c.prio.toNat ++ bytesLE 2 c.joinStart.toNat ++
    bytesLE 8 c.serial.toNat ++ bytesLE 2 c.acc.toNat ++ List.replicate 38 0) none

/-- A LINK frame of cycle 33 in slot 1, down trunk 0 or up trunk 3, from the device with the serial number `serial`, whose sub-frame both islands find valid. -/
def linkFrame (down : Bool) (serial : Nat) (payload : List Byte) : Frame :=
  let l := subCovered serial (b2n down) 1 33 0 payload
  framed ftLink 0 1 (if down then 0x38 else 0x33) 33 payload
    (some { seq := 1, cstamp := 33, sdata := 0, crcM := BitVec.ofNat 32 (crc32c l), crcW := BitVec.ofNat 32 (crc32k l) })
def fromLeader (payload : List Byte) : Frame := linkFrame true 0 payload
def fromMember (payload : List Byte) : Frame := linkFrame false 1 payload
/-- A LINK frame already accepted in this tick. -/
def keptFrame (payload : List Byte) : Frame :=
  { fromLeader [] with hdr := { (fromLeader []).hdr with length := BitVec.ofNat 16 payload.length }, payload := payload, sub := none, crc := 0 }
def grantBytes0 (ns : Nat) : List Byte := bytesLE 4 ns ++ List.replicate 68 0

def cellTwo : Cell := { cellOne with devs := [⟨0, 0, 5, 3⟩, ⟨1, 1, 6, 3⟩] }
/-- Device 0 of a cell of two devices leads it. -/
def leading (l : LinkSt) : State :=
  { work with cell := cellTwo, link := l
              selide := { sched := { loaded := true, trunks := [⟨3, 2, 1000⟩], slots := [{ slotUp with owner := mkRef clsDevice 1 }] } } }
/-- Device 1, whose serial number is 1, is its member. -/
def member (l : LinkSt) : State :=
  { work with cell := cellTwo, link := l, power := { booted with fuses := { serial := 1 } } }
def linkCmd0 : LinkCmdSt := { seq := 7, hdr := some (hdr 0), cmd := .identify (hdr 0), effect := 40, waiting := [1] }
def capRel0 : CapRel :=
  { cap := 0, p1 := (0, 0, 0), p2 := (0, 0, 0), uStop := 0, uKappa := 0, ssStop := 0, ssKappa := 0, uMax := 0, stopDemand := false }

/-- Both Ethernet ports are up; time domain 0 is PTP domain 0. -/
def timed (t : TimeSt) : State :=
  { work with time := { t with eth := (upTo 2).map fun p => (p, { up := true }) } }
def frame0 : EthFrame := { dst := 0xFFFFFFFFFFFF, src := 2, tagged := false, vid := 0, pcp := 7 }
def ptp0 : PtpHdr :=
  { port := 1, domain := 0, transport := .l2, vid := 0, source := 9, seq := 5, twoStep := true, correction := 0, pcp := 7 }
def held0 : HeldRes := { egress := 0, source := 9, domain := 77, seq := 5, value := 100, ns := 0 }
def announce0 : Announce :=
  { priority1 := 1, clockClass := 6, accuracy := 0x21, variance := 0, priority2 := 0, grandmaster := 9, stepsRemoved := 0
    utcOffset := 37, utcValid := true, leap61 := false, leap59 := false, receiptTimeout := 3, logInterval := 0 }

/-! ### Engines, solver, motion, homing -/

def withEng (f : SepSt) : State := { work with sep := { f with kin := { work.sep.kin with caps := [armCap], persons := [⟨31, 0, 0, 0, 0, 0⟩] } } }
def relayed (n : Nat) : State :=
  { leading {} with sep := { kin := { work.sep.kin with caps := [{ armCap with index := 1024, kind := 4 }] }, m := { relays := [(1024, { stale := n })] } } }
def directing : State := { work with safety := { work.safety with directed := true } }

/-- Structure 3 is selected at a planning boundary and the solver enabled. -/
def solverOn (x : SolverSt) : State :=
  { atBoundary with solver := { x with structs := [(3, some struct0)], selected := some 3 }, par := { vals := [(0x6001 * 65536, 1)] } }
def solve0 : Solve :=
  { handle := 3, generation := 1, deadline := 20000, warm := 0, image := struct0, pairRows := [], pinned := [], rho := 1
    boundaryNs := 3125000 }
def solving (x : Solve) : State := solverOn { solve := some x }
/-- P is −10⁶, so K(ρ) has the wrong inertia. -/
def struct1 : Struct := { struct0 with vals := { struct0.vals with p := [0xC12E848000000000] } }
/-- The cost's gradient is 1. -/
def struct2 : Struct := { struct0 with vals := { struct0.vals with q := [0x3FF0000000000000] } }
/-- The same with ADAPTIVE off. -/
def solvingFixed (x : Solve) : State :=
  { solving x with par := { vals := [(0x6001 * 65536, 1), (0x600B * 65536, 0)] } }

def supplied (l : Tbl Nat) (q : Queue) : State :=
  { bound with supply := { levels := l }, queues := [((mkRef clsGroup 1).toNat, q)], par := { vals := [(0x3041 * 65536, 10)] } }
def plan0 : Plan := { dist := 0 }
def waitingReq (n : Nat) : SupReq := { kind := .start (mkRef clsGroup 1), costs := [(0, 10)], joined := n }
def enableReq (n : Nat) : SupReq := { kind := .enable (hdr 0) [0], costs := [(0, 10)], joined := n }
def wakeReq (n : Nat) : SupReq := { kind := .wake (hdr 0) 63, costs := [(0, 10)], joined := n }
def asking (l : List SupReq) (level : Nat) (no : Nat) : State :=
  { unpowered with supply := { levels := [(0, level)], reqs := l }, tick := { work.tick with no := no } }

/-- Axis 0 as given, on port 0, load-holding or not. -/
def axed (x : Axis) (holding : Bool) (no : Nat) : State :=
  { calm with axes := [(0, x)], cell := { cellOne with axes := [⟨0, mkRef clsPort 0, 0, 0, 255, holding⟩] }
              tick := { work.tick with no := no, t0Ns := no * 31250 } }
/-- The same after the intake of its tick. -/
def sampled (x : Axis) (holding : Bool) : State :=
  { axed x holding 100 with tick := { (axed x holding 100).tick with intakeDone := true } }
def homeRun0 : HomeRun := { root := mkRef clsAxis 0, stage := 0 }
def waiting0 : HomeRun := { homeRun0 with readyTick := some 99 }
def begun : HomeRun := { homeRun0 with started := true }
def homing (h : HomeSt) : State := axed { closed := true, psEn := true, commValid := true, home := h } false 100
/-- The home switch has been at its new level for 500 ticks. -/
def switched (on : Bool) : SwitchSt := { level := !on, cand := on, run := 500 }
def homingBy (method : Nat) (h : HomeSt) : State := { homing h with par := { vals := [(0x3010 * 65536, BitVec.ofNat 64 method)] } }
def limitRev (h : HomeSt) : State := { homing h with par := { vals := [(0x3018 * 65536, 1)] } }
def stallRun0 : HomeRun := { begun with stallRun := 10 ^ 6 }
/-- A stall search whose condition has held for long. -/
def stalled : State := homingBy 3 { run := some stallRun0, state := 5 }
def telem0 : TelemetryIn := { tjMax := 300, tjMin := 200, power := 1, iCore := 1, tempNow := 250, powerNow := 1 }

/-! ### Lanes, the supervisor, health -/

/-- Lane 0 as given beside a slot that holds axis 0; the reserve is in TEST. -/
def laned (x : LogLane) : State :=
  { work with lanes := { work.lanes with
      pairs := (upTo 17).map fun p => (p, { state := if p < 16 then 2 else 3, lane := if p < 16 then some p else none, reserve := p = 16 })
      log := [(0, { x with slots := [(0, some 0)] })] } }
def intaken (x : LogLane) : State := { laned x with tick := { work.tick with intakeDone := true } }
/-- Axis 0's output entry holds this cycle's DONE word. -/
def capturing : State :=
  { laned {} with lanes := { (laned {}).lanes with
      pairs := (0, { state := 2, lane := some 0, xMem := [(0x9C07, 33)] }) :: (laned {}).lanes.pairs.drop 1 } }
/-- One engine has published, the other is late. -/
def engined (x : LogLane) : State := { intaken x with sep := { work.sep with m := { published := true }, w := { late := true } } }
def late (x : LogLane) : State := { laned x with tick := { work.tick with no := 10 ^ 9, t0Ns := 10 ^ 15 } }
/-- An entry point with a budget serves axis 0. -/
def userBound : State :=
  { laned {} with lanes := { (laned {}).lanes with kernel := some { entries := [⟨1, 64, 3000, 100⟩], binds := [(0, 1)] } } }
def indexed (c : Int) (h : HomeSt) : State :=
  { axed { fb := { started := true, idx := some c }, home := h } false 100 with
    par := { vals := [(0x3022 * 65536, 1), (0x3021 * 65536, 4096), (0x3020 * 65536, 10)] } }
def over3 : LogLane := { overruns := [98, 99, 100] }
def taken (p : Option Nat) (n : Nat) : LogLane := { takeover := some { failed := 0, pair := p, failNs := 0, firstTick := n, prevStart := false } }
/-- Pair 0 has failed and lane 0 has no pair. -/
def lost (x : LogLane) : State :=
  { laned x with lanes := { (laned x).lanes with pairs := (0, { state := 4 }) :: (laned x).lanes.pairs.drop 1 } }
def move1 : PlanMove := { axis := 0, lane := 1, slot := 0, full := true }
def recovering (fails : Nat) : State :=
  { laned {} with lanes := { (laned {}).lanes with pairs := (0, { state := 4, fails := fails }) :: (laned {}).lanes.pairs.drop 1 } }
def rehoming (y : LaneLoss) : State :=
  { (lost { loss := some y }) with tick := { work.tick with cycle := 32 } }
def loss0 : LaneLoss := { failed := 0, lostNs := 0, firstTick := 90, moves := [], host := some 1 }
def standby (h : HostIf) : State := { work with host := { h with standby := true } }
def lostSup (n : Nat) : State := { work with health := { supLost := some n } }
def clocked (x : ClkDomain) (d : Nat) : State := { atBoundary with health := { clk := [(d, x)] } }
/-- Thirty-two axes of group 1 on lane 0, whose clock has stepped to where 30 fit. -/
def crowded : State :=
  { atBoundary with
    health := { clk := [(1, { steps := 2, dueNs := some 0, pending := true, margin := 0 })] }
    cell := { cellOne with
      axes := (upTo 32).map fun a => ⟨a, mkRef clsPort 0, a, 0, 0, false⟩
      groups := [⟨0, 0, false, [mkRef clsGroup 1]⟩, ⟨1, mkRef clsGroup 0, false, (upTo 32).map (mkRef clsAxis)⟩] }
    lanes := { work.lanes with log := [(0, { slots := (upTo 32).map fun a => (a, some a) })] } }

/-- Reset with a byte in the window and a command in the queue. -/
def queued : State := { host := { window := [(7, 1)] }, pending := [.fwRunning] }

/-! ### Well-formedness: for each check, a term that it refuses -/

def bist0 : BistIn :=
  { supPass := 3, lanePass := 0x1FFFF, madder := true, woad := true, solver := true, memory := true, durationMs := 30
    margins := List.replicate 64 40 }
def msg0 : CanMsg := { tag := 1, id := 0x123, flags := 0, dlc := 8, data := List.replicate 64 0 }
def rx0 : CanFrame := { id := 0x123, ide := false, rtr := false, fdf := false, brs := false, esi := false, dlc := 2, data := [1, 2] }
def onRing (r : Fin 4) (obj : Word) : Hdr := { ring := r, tag := 1, obj := obj }

theorem test_wf_power : (Instr.bistDone bist0).wf = true ∧ (Instr.strapSense []).wf = false ∧
    (Instr.bistDone { bist0 with margins := [] }).wf = false ∧
    (Instr.bistDone { bist0 with margins := List.replicate 64 1001 }).wf = false ∧ (Instr.ageingMeasurement []).wf = false ∧
    (Instr.eyeMonitor []).wf = false ∧ (Instr.eyeMonitor (List.replicate 14 1001)).wf = false := by decide +kernel

theorem test_wf_registers : (Instr.registerWrite 0x1C 0).wf = true ∧ (Instr.registerWrite 0x11000 0).wf = false ∧
    (Instr.registerWrite 2 0).wf = false ∧ (Instr.hostWindowWrite 0 []).wf = false ∧
    (Instr.hostWindowWrite 4194303 [1, 2]).wf = false ∧ (Instr.hostWindowWrite 4194303 [1]).wf = true := by decide +kernel

/-- A command in another ring than its own is refused. -/
theorem test_wf_rings : (Instr.identify (onRing 0 0)).wf = true ∧ (Instr.identify (onRing 1 0)).wf = false ∧
    (Instr.paramWrite (onRing 3 0) 0 0).wf = false ∧ (Instr.nodeUnmute (onRing 0 0)).wf = false ∧
    (Instr.timeSet (onRing 2 0) 0 0).wf = false ∧ (Instr.safeArmGroup (onRing 0 0) 0).wf = false ∧
    (Instr.safeReset (onRing 0 (mkRef clsAxis 0))).wf = false ∧ (Instr.halt (onRing 1 0)).wf = false ∧
    (Instr.align (onRing 1 (mkRef clsGroup 1))).wf = false ∧ (Instr.nodeWake (onRing 1 0)).wf = false ∧
    (Instr.imageLoad (onRing 2 (mkRef clsAxis 0)) 0 0).wf = false ∧ (Instr.structDrop (onRing 2 0)).wf = false ∧
    (Instr.canRecover (onRing 2 0)).wf = false ∧ (Instr.groupAdd (onRing 2 (mkRef clsAxis 0))).wf = false ∧
    (Instr.paramRead (onRing 0 0) 0 false).wf = false ∧ (Instr.paramInfo (onRing 3 (mkRef clsAxis 0)) 0).wf = false := by
  decide +kernel

theorem test_wf_arguments : (Instr.safeStop (onRing 0 (mkRef clsZone 0)) 3).wf = false ∧
    (Instr.safeSls (onRing 0 (mkRef clsGroup 1)) 2).wf = false ∧
    (Instr.cmpLoad (onRing 1 (mkRef 9 0)) 4 1).wf = false ∧ (Instr.cmpLoad (onRing 1 (mkRef 9 0)) 8 0).wf = false ∧
    (Instr.cmpLoad (onRing 1 (mkRef 9 0)) 8 1025).wf = false ∧ (Instr.cmpLoad (onRing 1 (mkRef 9 0)) 8 1024).wf = true ∧
    (Instr.solverUpdate (onRing 2 (mkRef clsStruct 0)) 0 0 0).wf = false ∧
    (Instr.solverUpdate (onRing 2 (mkRef clsStruct 0)) 0 65537 0).wf = false ∧
    (Instr.nodeSend (onRing 2 (mkRef clsNode 0)) 0 0).wf = false ∧ (Instr.canMode (onRing 2 (mkRef 10 0)) 4).wf = false ∧
    (Instr.canAbd (onRing 2 (mkRef 10 0)) 0).wf = false ∧ (Instr.canAbd (onRing 2 (mkRef 10 0)) 3).wf = false ∧
    (Instr.canAbd (onRing 2 (mkRef 10 0)) 2).wf = true ∧ (Instr.axisMigrate (onRing 2 (mkRef clsAxis 0)) 16).wf = false ∧
    (Instr.groupHalfRate (onRing 2 (mkRef clsGroup 1)) 2).wf = false ∧ (Instr.abort (onRing 0 0) 0 4).wf = false := by
  decide +kernel

theorem test_wf_move : (Instr.move (onRing 1 (mkRef clsAxis 0)) move0).wf = true ∧
    (Instr.move (onRing 1 (mkRef clsAxis 0)) { move0 with targets := [] }).wf = false ∧
    (Instr.move (onRing 1 (mkRef clsAxis 0)) { move0 with targets := List.replicate 17 0 }).wf = false ∧
    (Instr.move (onRing 1 (mkRef clsAxis 0)) { move0 with flags := 4 }).wf = false ∧
    (Instr.move (onRing 1 (mkRef clsAxis 0)) { move0 with targets := [-(2 ^ 63) - 1] }).wf = false ∧
    (Instr.move (onRing 1 (mkRef clsAxis 0)) { move0 with targets := [2 ^ 63] }).wf = false := by decide +kernel

theorem test_wf_record_read : (Instr.recRead (onRing 3 0) 1 0x80000 1).wf = true ∧
    (Instr.recRead (onRing 3 0) 1 0x80020 1).wf = false ∧ (Instr.recRead (onRing 3 0) 1 0x80000 0).wf = false ∧
    (Instr.recRead (onRing 3 0) 1 0x80000 16385).wf = false ∧ (Instr.recRead (onRing 3 0) 1 0x7FFC0 1).wf = false ∧
    (Instr.recRead (onRing 3 0) 1 0x3FFFC0 2).wf = false := by decide +kernel

theorem test_wf_can : (Instr.canSend (onRing 2 (mkRef 10 0)) msg0).wf = true ∧
    (Instr.canSend (onRing 2 (mkRef 10 0)) { msg0 with flags := 8 }).wf = false ∧
    (Instr.canSend (onRing 2 (mkRef 10 0)) { msg0 with dlc := 16 }).wf = false ∧
    (Instr.canSend (onRing 2 (mkRef 10 0)) { msg0 with data := [] }).wf = false ∧
    (Instr.canSend (onRing 2 (mkRef 10 0)) { msg0 with id := 0x80000000 }).wf = false ∧
    (Instr.canRxFrame 0 rx0 5).wf = true ∧ (Instr.canRxFrame 0 { rx0 with data := [1] } 5).wf = false ∧
    (Instr.canRxFrame 0 { rx0 with rtr := true, fdf := true, data := [] } 5).wf = false ∧
    (Instr.canRxFrame 0 { rx0 with id := 0x800 } 5).wf = false ∧ (Instr.canRxFrame 0 rx0 125000).wf = false ∧
    (Instr.canWake 0 (.frame { rx0 with data := [1] }) 5).wf = false ∧ (Instr.canWake 0 (.edge 5) 125000).wf = false := by
  decide +kernel

/-- An offset from T0 lies within the longest tick. -/
theorem test_wf_offsets : (Instr.laneEventPass 0 0 65 5).wf = false ∧ (Instr.laneEventPass 0 0 64 125000).wf = false ∧
    (Instr.laneEventPass 0 0 64 124999).wf = true ∧ (Instr.engineBoundPass .madder 125000).wf = false ∧
    (Instr.engineLate .woad 125000).wf = false ∧ (Instr.quadEdge 0 true true ⟨0, 0, 125000⟩).wf = false ∧
    (Instr.pulseStep 0 true true ⟨0, 0, 125000⟩).wf = false ∧ (Instr.portIndexEvent 0 ⟨0, 125000⟩).wf = false ∧
    (Instr.cmpPortCrossing 0 125000).wf = false ∧ (Instr.cmpFire 0 125000).wf = false ∧ (Instr.cmpPulseEnd 0 125000).wf = false ∧
    (Instr.siQualify 0 .A true 125000).wf = false ∧ (Instr.siDiscrepancy 0 125000).wf = false ∧
    (Instr.tpPulseStart 0 125000).wf = false ∧ (Instr.tpPulseEnd 0 125000 []).wf = false ∧ (Instr.echo 0 .A 125000).wf = false ∧
    (Instr.laneFailed 0 .hang 125000).wf = false ∧ (Instr.ppsInEdge 125000).wf = false ∧
    (Instr.canTxAttempt 0 125000).wf = false ∧ (Instr.safetyCrossCompare [.crc, .crc]).wf = false := by decide +kernel

/-- A frame whose CTRL announces the sub-frame that it lacks is refused wherever a frame stands. -/
theorem test_wf_frames :
    let f := fromLeader []
    let bad := { frameOf 1 0 0 [] with hdr := { (frameOf 1 0 0 []).hdr with ctrl := 0x30 } }
    (Instr.extFrame 0 bad 0).wf = false ∧ (Instr.upstreamDataFrame 0 .A bad 0).wf = false ∧ (Instr.join 0 bad 0).wf = false ∧
    (Instr.leave 0 .A bad 0).wf = false ∧ (Instr.cycleStartReceived 0 ⟨bad, 0⟩).wf = false ∧
    (Instr.linkCycleStart bad 0 none).wf = false ∧ (Instr.linkGrantReceived bad).wf = false ∧
    (Instr.linkGstat 0 ⟨0, 0, 0, 0⟩ bad 0).wf = false ∧ (Instr.linkCmdack 0 0 0 0 bad 0).wf = false ∧
    (Instr.linkCmdgo 0 0 bad 0).wf = false ∧ (Instr.linkCaprel 0 capRel0 f 0).wf = true ∧ (Instr.linkCaprel 0 capRel0 bad 0).wf = false ∧
    (Instr.linkCaprel 0 { capRel0 with p1 := (2 ^ 31, 0, 0) } f 0).wf = false ∧
    (Instr.linkCaprel 0 { capRel0 with p2 := (0, 0, -(2 ^ 31) - 1) } f 0).wf = false ∧
    (Instr.linkSigma 0 0 65537 f 0).wf = false ∧ (Instr.linkSigma 0 0 65536 bad 0).wf = false ∧
    (Instr.linkSigma 0 0 65536 f 0).wf = true ∧ (Instr.linkCmd 0 0 [] f 0).wf = false ∧
    (Instr.linkCmd 0 0 identifyBytes bad 0).wf = false ∧ (Instr.linkCmd 0 0 (identifyBytes.take 256) f 0).wf = true := by
  decide +kernel

theorem test_wf_ochre : (Instr.ochreResponse 0 (ochreOf 0)).wf = true ∧
    (Instr.ochreResponse 0 { ochreOf 0 with start := 125000 }).wf = false ∧
    (Instr.ochreResponse 0 { ochreOf 0 with bitPs := 0 }).wf = false ∧
    (Instr.ochreResponse 0 { ochreOf 0 with line := List.replicate 1025 true }).wf = false ∧
    (Instr.serdesCalibration .pll 125000).wf = false ∧ (Instr.serdesCalibration .pll 124999).wf = true := by decide +kernel

theorem test_wf_time :
    (Instr.ptpSync ptp0 ⟨0, 0⟩ ⟨0, 1000000000⟩).wf = false ∧ (Instr.ptpSync ptp0 ⟨0, 1000000000⟩ ⟨0, 0⟩).wf = false ∧
    (Instr.ptpSync { ptp0 with vid := 4096 } ⟨0, 0⟩ ⟨0, 0⟩).wf = false ∧
    (Instr.ptpSync { ptp0 with source := 2 ^ 80 } ⟨0, 0⟩ ⟨0, 0⟩).wf = false ∧ (Instr.ptpFollowUp ptp0 ⟨0, 0⟩ 125000).wf = false ∧
    (Instr.ptpAnnounce ptp0 { announce0 with grandmaster := 2 ^ 64 }).wf = false ∧
    (Instr.ptpPdelayReq ptp0 ⟨0, 0⟩ ⟨0, 1000000000⟩).wf = false ∧ (Instr.ptpTransit { ptp0 with vid := 4096 } .sync ⟨0, 0⟩).wf = false ∧
    (Instr.ptpDelayResp ptp0 ⟨0, 0⟩ ⟨0, 0⟩ ⟨0, 0⟩ ⟨0, 1000000000⟩).wf = false ∧
    (Instr.bridgeFrame 0 { frame0 with vid := 4096 }).wf = false := by decide +kernel

/-! ### Effects: the spec's worked examples and values computed by hand from a rule -/

/-- The state that an outcome holds. -/
def nextOf (o : Out) : State := match o with
  | .next t => t
  | _ => .reset

/-- The table gives no row any bits, so no word spells a command. -/
theorem test_no_word : decodeTableWord 0 0 = none ∧ decodeTableWord 32 0xFFFFFFFF = none ∧
    (rom.withFetchWord 32 5).pending = [] := by decide +kernel

/-- The two words that chapter 11's first worked example writes out: RPT #5 and MAC a0, (p7)+1, (p2)+1. -/
theorem test_lane_words : decodeLane 0 0x63000005 0 = .rpt 0 5 ∧
    decodeLane 0 0x201BCCA0 0 = .mac 0 false 0 (.mem { ptr := 7, mode := .postConst 4 }) (.mem { ptr := 2, mode := .postConst 4 }) := by
  decide +kernel

/-- The same example's user use: 32 axes of 24 cycles and a hold-off of 11 make 779. -/
theorem test_user_use : slotUse { entries := [⟨0, 0x6000, 24, 11⟩], binds := (upTo 32).map fun a => (a, 0) }
    ((upTo 32).map fun a => (a, a)) (fun _ => false) = 779 := by decide +kernel

/-- The cell of chapter 1's worked example. -/
def smallTree : State :=
  { run with cell := { cellOne with
      axes := (upTo 14).map fun a => ⟨a, mkRef clsPort a, a, 0, 0, false⟩
      groups := [⟨0, 0, false, [mkRef clsGroup 1, mkRef clsGroup 2, mkRef clsAxis 12]⟩,
        ⟨1, mkRef clsGroup 0, false, [mkRef clsGroup 3, mkRef clsAxis 13]⟩,
        ⟨2, mkRef clsGroup 0, false, (upTo 6).map fun k => mkRef clsAxis (6 + k)⟩,
        ⟨3, mkRef clsGroup 1, false, (upTo 6).map fun k => mkRef clsAxis k⟩] } }

/-- A HALT to GROUP 1 concerns AXIS 0 to AXIS 5 and AXIS 13, in that order. -/
theorem test_small_tree : smallTree.localAxes (mkRef clsGroup 1) = [0, 1, 2, 3, 4, 5, 13] := by decide +kernel

/-- Chapter 2's worked example: the third overrun within 32 ticks brings degraded mode in the tick after. -/
def overrun (l : List Nat) : State :=
  { work with tick := { work.tick with no := 1000063 }, lanes := { work.lanes with log := [(0, { overruns := l })] } }
theorem test_lane_degraded :
    ((nextOf (execLaneDegraded 0 (overrun [1000040, 1000052, 1000063]))).logLane 0).enterAt = some 1000064 ∧
    ((nextOf (execLaneDegraded 0 (overrun [1000031, 1000052, 1000063]))).logLane 0).enterAt = none := by decide +kernel

/-- Chapter 4's worked example (Table 4.4): AXIS 7 leads, AXIS 8 lowers the lead's speed to 0.625 turn/s. -/
def threeJoints : State :=
  { run with par := { vals := [(0x3001 * 65536, 65536), (0x3002 * 65536, 16384), (0x3003 * 65536, 16384),
      (0x3001 * 65536 + 1, 49152), (0x3002 * 65536 + 1, 8192), (0x3003 * 65536 + 1, 10240),
      (0x3001 * 65536 + 2, 10240), (0x3002 * 65536 + 2, 40960), (0x3003 * 65536 + 2, 40960)] } }
/-- No acceleration or deceleration is lowered: 2 and 2.5 turn/s². The targets are those of the example. -/
theorem test_three_joint_limits :
    let l := threeJoints.segLimits { seg0 with axes := [0, 1, 2], targets := [1503238554, -644245094, 214748365] }
      [429496730, 1073741824, -214748365]
    l.lead = 1 ∧ l.coLead = true ∧ l.acc = 2 ∧ l.dec = (5 : Rat) / 2 ∧
      (l.vm - (5 : Rat) / 8) * 1000000 < 1 ∧ ((5 : Rat) / 8 - l.vm) * 1000000 < 1 := by decide +kernel

/-- Chapter 6's worked example: S_p(1) = 0.92589625 m, and Madder's kappa is 64,200. -/
theorem test_person_near_arm :
    sp1 ((147 : Rat) / 1000, (45152125 : Rat) / 100000000, (327375 : Rat) / 1000000) = (92589625 : Rat) / 100000000 ∧
    kappaPair ((147 : Rat) / 1000, (45152125 : Rat) / 100000000, (327375 : Rat) / 1000000) ((910760 : Rat) / 1000000) = 64200 := by
  decide +kernel

/-- Chapter 8's worked example: with DISC 40 a run of 999,999 samples of 20 ns is no discrepancy, one of 1,000,000 is. -/
def doorOpen : State :=
  { work with tick := { work.tick with t0Ns := 10 ^ 9 }
              safety := { work.safety with
                img := { work.safety.img with inputs := [⟨7, false, 255, 255, 500, 40, 4, 0⟩] }
                inputs := [(7, { bQ := true, runStart := some (10 ^ 9 - 19999000), aFirst := true })] } }
theorem test_discrepancy : ((nextOf (execSiQualify 7 .B false 980 doorOpen)).input 7).discFault = false ∧
    ((nextOf (execSiQualify 7 .B false 1000 doorOpen)).input 7).discFault = true := by decide +kernel

/-- Chapter 15's worked example: SS1_DEC_MON 49,152 is out of range until SS1_DEC is 61,440. -/
theorem test_linked_limits :
    run.writeStatus (prow 0x7002) 0x7002 0 49152 = stRange ∧ run.writeStatus (prow 0x7001) 0x7001 0 61440 = 0 ∧
    ({ run with par := { vals := [(0x7001 * 65536, 61440)] } } : State).writeStatus (prow 0x7002) 0x7002 0 49152 = 0 := by
  decide +kernel

/-- Chapter 16's worked example: sequence number 812 lies in the mirror at 0x04_CB00. -/
theorem test_mirror_slot : mirrorOff 812 = 0x4CB00 := by decide

/-- Chapter 18's worked example: a pin low in the first sample and high in the second is unstrapped. Table 18.2: a test-pulse pin
may only be strapped safe-low. -/
theorem test_straps : (strapResult 21 { at20 := .low, at45 := .high }).unstrapped = true ∧
    (strapResult 21 { at20 := .high, at45 := .high }).unstrapped = false ∧
    (strapResult 50 { at20 := .high, at45 := .high }).unstrapped = true ∧
    (strapResult 50 { at20 := .low, at45 := .low }).unstrapped = false := by decide

/-- R32: the CRC-32 of IEEE 802.3 of the digits 1 to 9, its published check value. -/
theorem test_crc32 : crc32 [0x31, 0x32, 0x33, 0x34, 0x35, 0x36, 0x37, 0x38, 0x39] = 0xCBF43926 := by decide +kernel

/-- A command in front is taken from the queue; an empty queue idles. -/
theorem test_queue : Machine.step queued = .next { queued with pending := [] } ∧ Machine.step rom = .next rom := ⟨rfl, rfl⟩

/-! ### Witnesses: states and operands that meet the hypotheses of the obligations' clauses -/

open Sys2Proof.Claims

/-- `Obligations.EveryCommandHasANextState`, k = 1. -/
theorem test_witness_EveryCommandHasANextState :
      (∃ (c : Instr),
        ∀ (off : Nat) (l : List Byte), c = Instr.hostWindowWrite off l → off + l.length ≤ 4194304) :=
  ⟨.hostWindowWrite 4194303 [1], fun _ _ h => by cases h; decide⟩

/-- `Obligations.ResetStateFollowsItsTables`, k = 4, 5. -/
theorem test_witness_ResetStateFollowsItsTables :
      (∃ (o : Nat),
        (o ∉ [0, 4, 28]) ∧
        (¬(32768 ≤ o ∧ o < 33280))) ∧
      (∃ (k : Nat),
        k < 32) :=
  ⟨⟨8, by decide +kernel⟩,
    ⟨31, by decide +kernel⟩⟩

/-- `Obligations.StepKeepsMemoriesCanonical`, k = 1. -/
theorem test_witness_StepKeepsMemoriesCanonical :
      (∃ (s t : State),
        (MemoriesCanonical s) ∧
        (step s = Host.Outcome.next t)) :=
  ⟨queued, { queued with pending := [] }, ⟨by decide +kernel, by decide +kernel, by decide +kernel, fun p => ⟨rfl, rfl, rfl,
    rfl, rfl, rfl, rfl, rfl, rfl⟩⟩, rfl⟩

/-- `Obligations.RailsAndBootFollowTheirStates`, k = 2, 3, 4, 5, 6, 7, 8, 9. -/
theorem test_witness_RailsAndBootFollowTheirStates_1 :
      (∃ (s : State) (r : Rail) (ns : Nat),
        (1000 < ns) ∧
        (s.power.reset = false) ∧
        (r ≠ Rail.safeM) ∧
        (r ≠ Rail.safeW)) ∧
      (∃ (s : State) (ns : Nat),
        (1000 < ns) ∧
        (s.power.reset = true)) ∧
      (∃ (ns : Nat),
        ns ≤ 1000) ∧
      (∃ (ns : Nat),
        10000 ≤ ns) ∧
      (∃ (ns : Nat),
        (1000 ≤ ns) ∧
        (ns < 10000)) ∧
      (∃ (ns : Nat),
        ns < 1000) ∧
      (∃ (s : State),
        (∀ (r : Rail), s.railOk (railNo r) = true) ∧
        (s.power.reset = true)) ∧
      (∃ (s : State),
        s.power.reset = false ∨ ∃ r, s.railOk (railNo r) = false) :=
  ⟨⟨run, .core, 1001, by decide +kernel⟩,
    ⟨railed, 1001, by decide +kernel⟩,
    ⟨1000, by decide +kernel⟩,
    ⟨10000, by decide +kernel⟩,
    ⟨9999, by decide +kernel⟩,
    ⟨999, by decide +kernel⟩,
    ⟨railed, fun r => by cases r <;> decide +kernel, by decide +kernel⟩,
    ⟨run, Or.inl (by decide +kernel)⟩⟩

/-- `Obligations.RailsAndBootFollowTheirStates`, k = 11, 12, 13, 16, 17, 18, 20, 21. -/
theorem test_witness_RailsAndBootFollowTheirStates_2 :
      (∃ (s : State),
        s.power.bootState = 1 ∨ s.power.bootState = 7) ∧
      (∃ (s : State),
        (s.power.bootState = 1 ∨ s.power.bootState = 7) ∧
        (s.power.fuses.custPresent = false)) ∧
      (∃ (s : State),
        (s.power.bootState = 1 ∨ s.power.bootState = 7) ∧
        (s.power.fuses.custPresent = true)) ∧
      (∃ (s : State) (c : Instr),
        (s.power.bootState ≠ 1) ∧
        (s.power.bootState ≠ 7) ∧
        (c ∈ [Instr.loadFw, Instr.burnCustKey, Instr.burnVendorDisable])) ∧
      (∃ (s : State),
        (s.power.reset = false) ∧
        (s.power.bootState = 0)) ∧
      (∃ (s : State),
        s.power.bootState = 5) ∧
      (∃ (s : State),
        s.power.reset = true ∨ s.power.bootState ≠ 0) ∧
      (∃ (s : State),
        s.power.bootState ≠ 5) :=
  ⟨⟨rom, by decide +kernel⟩,
    ⟨rom, by decide +kernel⟩,
    ⟨romKeyed, by decide +kernel⟩,
    ⟨run, .loadFw, by decide +kernel⟩,
    ⟨romFresh, by decide +kernel⟩,
    ⟨burning, by decide +kernel⟩,
    ⟨rom, by decide +kernel⟩,
    ⟨rom, by decide +kernel⟩⟩

/-- `Obligations.RailsAndBootFollowTheirStates`, k = 22, 23. -/
theorem test_witness_RailsAndBootFollowTheirStates_3 :
      (∃ (s : State),
        s.power.bootState ≠ 3 ∨ s.power.fwPending = none) ∧
      (∃ (s : State) (f : FwInfo),
        (s.power.bootState = 3) ∧
        (s.power.fwPending = some f)) :=
  ⟨⟨rom, by decide +kernel⟩,
    ⟨starting, ⟨1,2,1⟩, by decide +kernel⟩⟩

/-- `Obligations.StrapSenseFollowsItsTable`, k = 1. -/
theorem test_witness_StrapSenseFollowsItsTable :
      (∃ (s : State),
        (s.power.reset = false) ∧
        (s.power.strapDone = false)) :=
  ⟨rom, by decide +kernel⟩

/-- `Obligations.SelfTestDecidesConfigOrFailed`, k = 1. -/
theorem test_witness_SelfTestDecidesConfigOrFailed :
      (∃ (s : State),
        (s.power.phase = 1) ∧
        (s.power.reset = false)) :=
  ⟨testing, by decide +kernel⟩

/-- `Obligations.HostResetResetsTheFunctionOnly`, k = 1. -/
theorem test_witness_HostResetResetsTheFunctionOnly :
      (∃ (s : State),
        s.power.reset = false) :=
  ⟨hosted, by decide +kernel⟩

/-- `Obligations.HostRegistersAndCauses`, k = 1, 2, 3, 4, 5, 6, 7, 8. -/
theorem test_witness_HostRegistersAndCauses_1 :
      (∃ (s : State) (r : Fin 4) (v : Word),
        (s.hostUsable = true) ∧
        ((s.ring ↑r).overrun = false) ∧
        (BitVec.toNat ((s.ring ↑r).tail - (s.ring ↑r).head) ≤ BitVec.toNat (v - (s.ring ↑r).head)) ∧
        (BitVec.toNat (v - (s.ring ↑r).head) ≤ 32)) ∧
      (∃ (s : State) (r : Fin 4) (v : Word),
        (s.hostUsable = true) ∧
        ((s.ring ↑r).overrun = false) ∧
        (32 < BitVec.toNat (v - (s.ring ↑r).head) ∨
          BitVec.toNat (v - (s.ring ↑r).head) < BitVec.toNat ((s.ring ↑r).tail - (s.ring ↑r).head))) ∧
      (∃ (s : State) (r : Fin 4) (v : Word),
        (s.hostUsable = true) ∧
        (BitVec.toNat ((s.ring ↑r).written - (s.ring ↑r).head) < BitVec.toNat (v - (s.ring ↑r).head))) ∧
      (∃ (s : State) (r : Fin 4) (v : Word),
        (s.hostUsable = true) ∧
        (BitVec.toNat (v - (s.ring ↑r).head) ≤ BitVec.toNat ((s.ring ↑r).written - (s.ring ↑r).head))) ∧
      (∃ (s : State),
        s.hostUsable = true) ∧
      (∃ (s : State) (r : Fin 4) (v : Word),
        (s.hostUsable = true) ∧
        (BitVec.getLsbD v 0 = false) ∧
        (BitVec.getLsbD v 1 = true) ∧
        ((s.ring ↑r).tail = (s.ring ↑r).head)) ∧
      (∃ (s : State) (r : Fin 4) (v : Word) (c : Instr),
        (s.hostUsable = true) ∧
        (c ∈ [Instr.cmdTailWrite r v, Instr.cplHeadWrite r v, Instr.ringEnable r v, Instr.ringReset r v])) ∧
      (∃ (s : State) (r : Fin 4) (t0 : Nat),
        ((s.ring ↑r).unsignalledNs = some t0) ∧
        (s.holdOff ≠ 0) ∧
        (t0 + s.holdOff < s.now + s.P)) :=
  ⟨⟨hosted, 1, 32, by decide +kernel⟩,
    ⟨hosted, 1, 33, by decide +kernel⟩,
    ⟨hosted, 3, 1, by decide +kernel⟩,
    ⟨hosted, 3, 0, by decide +kernel⟩,
    ⟨hosted, by decide +kernel⟩,
    ⟨hosted, 3, 2, by decide +kernel⟩,
    ⟨hosted, 3, 2, .cmdTailWrite 3 2, by decide +kernel⟩,
    ⟨coalescing, 2, 100, by decide +kernel⟩⟩

/-- `Obligations.HostRegistersAndCauses`, k = 11, 12, 13, 16, 17, 18, 19, 20. -/
theorem test_witness_HostRegistersAndCauses_2 :
      (∃ (s : State) (k : Nat),
        bitN (BitVec.toNat s.host.irqStatus) k = true) ∧
      (∃ (s : State) (k : Nat),
        (cellsWf s.host.scratch = true) ∧
        (s.hostUsable = true) ∧
        (k < 16)) ∧
      (∃ (s : State),
        (cellsWf s.host.scratch = true) ∧
        (s.hostUsable = true)) ∧
      (∃ (s : State) (o : Nat),
        (cellsWf s.host.scratch = true) ∧
        (s.hostUsable = true) ∧
        (o % 4 ≠ 0 ∨ o < 36 ∨ 48 ≤ o ∧ o < 256 ∨ 524 ≤ o ∧ o < 576 ∨ 640 ≤ o ∧ o < 32768 ∨ 33280 ≤ o ∧ o < 65536)) ∧
      (∃ (s : State) (o : Nat) (u : State),
        (cellsWf s.host.scratch = true) ∧
        (s.hostUsable = true) ∧
        (o < 65536) ∧
        (u.hostUsable = false)) ∧
      (∃ (s u : State),
        (cellsWf s.host.scratch = true) ∧
        (s.hostUsable = true) ∧
        (u.power.reset = false) ∧
        (u.host.linkUp = true)) ∧
      (∃ (s : State) (v : Word) (u : State),
        (cellsWf s.host.scratch = true) ∧
        (s.hostUsable = true) ∧
        (u.power.reset = false) ∧
        (u.host.linkUp = true) ∧
        (BitVec.toNat v % 4 = 3)) ∧
      (∃ (s : State) (v : Word) (u : State),
        (cellsWf s.host.scratch = true) ∧
        (s.hostUsable = true) ∧
        (u.power.reset = false) ∧
        (u.host.linkUp = true) ∧
        (BitVec.toNat v % 4 = 0) ∧
        (u.host.pba = 0)) :=
  ⟨⟨coalescing, 14, by decide +kernel⟩,
    ⟨run, 15, by decide +kernel⟩,
    ⟨run, by decide +kernel⟩,
    ⟨run, 0x20C, by decide +kernel⟩,
    ⟨run, 0x204, railed, by decide +kernel⟩,
    ⟨run, { run with host := { linkUp := true } }, by decide +kernel⟩,
    ⟨run, 3, { run with host := { linkUp := true } }, by decide +kernel⟩,
    ⟨run, 4, { run with host := { linkUp := true, pci := { d3hot := true } } }, by decide +kernel⟩⟩

/-- `Obligations.AcceptanceTakesTheFirstServedDescriptor`, k = 1. -/
theorem test_witness_AcceptanceTakesTheFirstServedDescriptor :
      (∃ (s : State) (r : Fin 4) (n : Word),
        s.nextDoorbell = some (r, n)) :=
  ⟨submitted, 1, 5, by decide +kernel⟩

/-- `Obligations.AcceptedDescriptorsSpellWellFormedCommands`, k = 1. -/
theorem test_witness_AcceptedDescriptorsSpellWellFormedCommands :
      (∃ (s : State) (r : Fin 4) (l : List Byte) (p : Bool) (st : Nat) (c : Instr),
        (l.length = 256) ∧
        (s.formCheck r (descriptorOf l) p = (st, some c))) :=
  ⟨run, 0, identifyBytes, false, 0, .identify ⟨0, 9, 0⟩, by decide +kernel⟩

/-- `Obligations.CompletionsAreWrittenInOrder`, k = 1, 2. -/
theorem test_witness_CompletionsAreWrittenInOrder :
      (∃ (s : State) (r : Fin 4) (c : Cpl) (l : List Cpl),
        (cellsWf s.host.hostMem = true) ∧
        ((s.ring ↑r).ready = c :: l) ∧
        (s.host.suspended = false) ∧
        (BitVec.toNat ((s.ring ↑r).written - (s.ring ↑r).head) < 32)) ∧
      (∃ (s : State) (r : Fin 4) (c : Cpl) (l : List Cpl),
        (cellsWf s.host.hostMem = true) ∧
        ((s.ring ↑r).ready = c :: l) ∧
        (32 ≤ BitVec.toNat ((s.ring ↑r).written - (s.ring ↑r).head))) :=
  ⟨⟨completing, 1, { tag := 3, notify := true}, [], by decide +kernel⟩,
    ⟨completing, 2, { tag := 4}, [], by decide +kernel⟩⟩

/-- `Obligations.HostWindowWritesStayInTheirAreas`, k = 1, 2, 3. -/
theorem test_witness_HostWindowWritesStayInTheirAreas :
      (∃ (s : State) (off : Nat) (l : List Byte),
        (cellsWf s.host.window = true) ∧
        (s.hostUsable = true) ∧
        (l ≠ []) ∧
        (4096 ≤ off ∧ off + l.length ≤ 36864 ∨ 524288 ≤ off ∧ off + l.length ≤ 4194304)) ∧
      (∃ (s : State) (off : Nat) (l : List Byte),
        (cellsWf s.host.window = true) ∧
        (s.hostUsable = true) ∧
        (l ≠ []) ∧
        (off + l.length ≤ 4096 ∨ 36864 ≤ off ∧ off + l.length ≤ 98304 ∨ 262144 ≤ off ∧ off + l.length ≤ 524288)) ∧
      (∃ (s : State) (off : Nat) (l : List Byte),
        (cellsWf s.host.window = true) ∧
        (s.hostUsable = true) ∧
        (l ≠ []) ∧
        (4194304 < off + l.length)) :=
  ⟨⟨run, 0x8FFF, [5], by decide +kernel⟩,
    ⟨run, 0x9000, [5], by decide +kernel⟩,
    ⟨run, 4194303, [5, 6], by decide +kernel⟩⟩

/-- `Obligations.IdentityAndAbortCommands`, k = 3, 4, 5, 6, 7. -/
theorem test_witness_IdentityAndAbortCommands :
      (∃ (n : Word16) (r : PRow),
        paramRow (BitVec.toNat n) = some r) ∧
      (∃ (n : Word16),
        paramRow (BitVec.toNat n) = none) ∧
      (∃ (s : State) (h : Hdr) (tag : Word64) (ring : Byte),
        (BitVec.toNat ring ≤ 3) ∧
        (s.abortTarget h (BitVec.toNat ring) tag = none)) ∧
      (∃ (s : State) (h : Hdr) (tag : Word64) (ring : Byte) (e : InFlight),
        (BitVec.toNat ring ≤ 3) ∧
        (s.abortTarget h (BitVec.toNat ring) tag = some e) ∧
        (e.decided = true)) ∧
      (∃ (s : State) (h : Hdr) (tag : Word64) (ring : Byte) (e : InFlight),
        (BitVec.toNat ring ≤ 3) ∧
        (s.abortTarget h (BitVec.toNat ring) tag = some e) ∧
        (e.decided = false) ∧
        (e.begun = false) ∧
        (s.linkCmdOf e.hdr = none)) :=
  ⟨⟨0x0010, prow 0x10, by decide +kernel⟩,
    ⟨0x0FFF, by decide +kernel⟩,
    ⟨run, hdr 0, 1, 3, by decide +kernel⟩,
    ⟨flying, hdr 0, 1, 0, flown, by decide +kernel⟩,
    ⟨flying, hdr 0, 2, 3, waiting, by decide +kernel⟩⟩

/-- `Obligations.ParametersAreWrittenAndRead`, k = 1, 2, 3, 4, 5. -/
theorem test_witness_ParametersAreWrittenAndRead :
      (∃ (s : State) (h : Hdr) (num : Word16) (v : Word64) (r : PRow),
        (paramRow (BitVec.toNat num) = some r) ∧
        (r.classOk h.obj = true) ∧
        (r.tick = true ∨ s.boundary = true) ∧
        (¬(r.cls = clsAxis ∧ refClass h.obj = clsGroup ∧ s.axesBelow h.obj = [])) ∧
        (∀ w ∈ s.targets r h.obj, s.writeStatus r (BitVec.toNat num) (refIndex w) (BitVec.toNat v) = 0) ∧
        (r.clear0 = false) ∧
        (BitVec.toNat num ≠ 45058)) ∧
      (∃ (s : State) (h : Hdr) (num : Word16) (v : Word64) (r : PRow) (w : Word),
        (paramRow (BitVec.toNat num) = some r) ∧
        (r.classOk h.obj = true) ∧
        (r.tick = true ∨ s.boundary = true) ∧
        (¬(r.cls = clsAxis ∧ refClass h.obj = clsGroup ∧ s.axesBelow h.obj = [])) ∧
        (List.find? (fun w => decide (s.writeStatus r (BitVec.toNat num) (refIndex w) (BitVec.toNat v) ≠ 0))
            (s.targets r h.obj) =
          some w)) ∧
      (∃ (s : State) (h : Hdr) (num : Word16) (r : PRow),
        (paramRow (BitVec.toNat num) = some r) ∧
        (r.classOk h.obj = true) ∧
        (r.tick = false) ∧
        (s.boundary = false)) ∧
      (∃ (s : State) (h : Hdr) (num : Word16) (r : PRow),
        (paramRow (BitVec.toNat num) = some r) ∧
        (r.classOk h.obj = true) ∧
        (¬(r.cls = clsAxis ∧ refClass h.obj = clsGroup)) ∧
        (refDevice h.obj = s.dev) ∧
        (s.tick.selide = false ∨ s.tick.cutoff = true) ∧
        (s.host.current = none)) ∧
      (∃ (s : State) (h : Hdr) (num : Word16) (r : PRow),
        (paramRow (BitVec.toNat num) = some r) ∧
        (r.classOk h.obj = true) ∧
        (s.tick.selide = true ∧ s.tick.cutoff = false ∨ s.host.current.isSome = true)) :=
  ⟨⟨run, hdr (mkRef clsAxis 0), 0x1005, 32767, prow 0x1005, by decide +kernel, by decide +kernel, by decide +kernel,
    by decide +kernel, fun w h => of_decide_eq_true (List.all_eq_true.1
    (show ((run.targets (prow 0x1005) (mkRef clsAxis 0)).all fun w => decide (run.writeStatus (prow 0x1005) 0x1005
      (refIndex w) 32767 = 0)) = true by decide +kernel) w h), by decide +kernel, by decide +kernel⟩,
    ⟨work, hdr (mkRef clsAxis 0), 0x1005, 32768, prow 0x1005, mkRef clsAxis 0, by decide +kernel⟩,
    ⟨work, hdr 0, 0x0010, prow 0x10, by decide +kernel⟩,
    ⟨run, hdr 0, 0x0010, prow 0x10, by decide +kernel⟩,
    ⟨work, hdr 0, 0x0010, prow 0x10, by decide +kernel⟩⟩

/-- `Obligations.DeviceRunAndArming`, k = 1, 2, 3, 4, 5, 6, 7, 8. -/
theorem test_witness_DeviceRunAndArming :
      (∃ (s : State),
        (s.power.phase = 3) ∧
        (s.firstMissingImage = 0) ∧
        (s.safety.armed = true) ∧
        (s.isLeader = false) ∧
        (s.isMember = false)) ∧
      (∃ (s : State),
        s.power.phase = 4 ∨ s.power.phase ≠ 3 ∨ s.firstMissingImage ≠ 0 ∨ s.safety.armed = false) ∧
      (∃ (s : State) (crc : Word),
        (s.safety.img.loaded = true) ∧
        (s.sep.kin.loaded = true) ∧
        (s.safety.armed = false) ∧
        (BitVec.toNat crc = s.configCrc)) ∧
      (∃ (s : State) (crc : Word),
        (s.safety.img.loaded = true) ∧
        (s.sep.kin.loaded = true) ∧
        (s.safety.armed = false) ∧
        (BitVec.toNat crc ≠ s.configCrc)) ∧
      (∃ (s : State) (h : Hdr) (crc : Word),
        (s.safety.img.loaded = true) ∧
        (s.safety.armed = true) ∧
        (refIndex h.obj ∈ s.armList) ∧
        ((s.armSt (refIndex h.obj)).isNew = true) ∧
        (BitVec.toNat crc = s.groupCrc (refIndex h.obj))) ∧
      (∃ (s : State) (h : Hdr) (crc : Word),
        (s.safety.img.loaded = true) ∧
        (s.safety.armed = true) ∧
        (refIndex h.obj ∈ s.armList) ∧
        ((s.armSt (refIndex h.obj)).isNew = true) ∧
        (BitVec.toNat crc ≠ s.groupCrc (refIndex h.obj))) ∧
      (∃ (s : State),
        (s.safety.armed = true) ∧
        (∀ z ∈ s.zoneList, s.zoneSto z = true)) ∧
      (∃ (s : State),
        (s.safety.armed = true) ∧
        (∃ z ∈ s.zoneList, s.zoneSto z = false)) :=
  ⟨⟨ready, by decide +kernel⟩,
    ⟨work, by decide +kernel⟩,
    ⟨disarmed, BitVec.ofNat 32 disarmed.configCrc, by decide +kernel⟩,
    ⟨disarmed, 0, by decide +kernel⟩,
    ⟨armNew, hdr (mkRef clsGroup 1), BitVec.ofNat 32 (armNew.groupCrc 1), by decide +kernel⟩,
    ⟨armNew, hdr (mkRef clsGroup 1), 0, by decide +kernel⟩,
    ⟨stopped, by decide +kernel⟩,
    ⟨work, by decide +kernel⟩⟩

/-- `Obligations.ImagesAndKernelModules`, k = 1, 2, 3, 4, 5, 6, 7, 8. -/
theorem test_witness_ImagesAndKernelModules_1 :
      (∃ (s : State) (off len : Word) (rs : List ImgRec),
        (s.winOk (BitVec.toNat off) (BitVec.toNat len) = true) ∧
        (imageRecs (s.winRead (BitVec.toNat off) (BitVec.toNat len)) = some rs) ∧
        (imageHeaderError
            (if imageKind (s.winRead (BitVec.toNat off) (BitVec.toNat len)) = 1 then
              s.indexIn (s.winRead (BitVec.toNat off) (BitVec.toNat len))
            else s.dev)
            (s.winRead (BitVec.toNat off) (BitVec.toNat len)) (BitVec.toNat len) ≠
          0)) ∧
      (∃ (s : State) (off len : Word) (rs : List ImgRec),
        (s.winOk (BitVec.toNat off) (BitVec.toNat len) = true) ∧
        (imageRecs (s.winRead (BitVec.toNat off) (BitVec.toNat len)) = some rs) ∧
        (imageHeaderError
            (if imageKind (s.winRead (BitVec.toNat off) (BitVec.toNat len)) = 1 then
              s.indexIn (s.winRead (BitVec.toNat off) (BitVec.toNat len))
            else s.dev)
            (s.winRead (BitVec.toNat off) (BitVec.toNat len)) (BitVec.toNat len) =
          0) ∧
        (imageKind (s.winRead (BitVec.toNat off) (BitVec.toNat len)) = 1) ∧
        ((s.checkCell (imageGen (s.winRead (BitVec.toNat off) (BitVec.toNat len))) rs).1 = 0)) ∧
      (∃ (s : State) (off len : Word) (rs : List ImgRec),
        (s.winOk (BitVec.toNat off) (BitVec.toNat len) = true) ∧
        (imageRecs (s.winRead (BitVec.toNat off) (BitVec.toNat len)) = some rs) ∧
        (imageHeaderError
            (if imageKind (s.winRead (BitVec.toNat off) (BitVec.toNat len)) = 1 then
              s.indexIn (s.winRead (BitVec.toNat off) (BitVec.toNat len))
            else s.dev)
            (s.winRead (BitVec.toNat off) (BitVec.toNat len)) (BitVec.toNat len) =
          0) ∧
        (s.cell.loaded = true) ∧
        (imageKind (s.winRead (BitVec.toNat off) (BitVec.toNat len)) ≠ 1) ∧
        (imageKind (s.winRead (BitVec.toNat off) (BitVec.toNat len)) = 2) ∧
        (scheduleForm rs = true) ∧
        (s.recObjects rs = true) ∧
        (∀ r ∈ rs,
          (r.rtype = 1026 → refClass r.obj = clsNode ∨ refClass r.obj = clsDevice) ∧
            (r.rtype = 1025 → refClass r.obj = clsDevice)) ∧
        (s.scheduleOk (scheduleOf (imageGen (s.winRead (BitVec.toNat off) (BitVec.toNat len))) rs) = true) ∧
        (s.personSlotsOk (scheduleOf (imageGen (s.winRead (BitVec.toNat off) (BitVec.toNat len))) rs) s.sep.kin = true) ∧
        (s.relayFits (scheduleOf (imageGen (s.winRead (BitVec.toNat off) (BitVec.toNat len))) rs) s.sep.kin = true)) ∧
      (∃ (s : State) (off len : Word) (rs : List ImgRec),
        (s.winOk (BitVec.toNat off) (BitVec.toNat len) = true) ∧
        (imageRecs (s.winRead (BitVec.toNat off) (BitVec.toNat len)) = some rs) ∧
        (imageHeaderError
            (if imageKind (s.winRead (BitVec.toNat off) (BitVec.toNat len)) = 1 then
              s.indexIn (s.winRead (BitVec.toNat off) (BitVec.toNat len))
            else s.dev)
            (s.winRead (BitVec.toNat off) (BitVec.toNat len)) (BitVec.toNat len) =
          0) ∧
        (s.cell.loaded = true) ∧
        (imageKind (s.winRead (BitVec.toNat off) (BitVec.toNat len)) ≠ 1) ∧
        (imageKind (s.winRead (BitVec.toNat off) (BitVec.toNat len)) = 4) ∧
        (safetyForm rs = true) ∧
        (s.safetyObjects rs
            (safetyOf (imageGen (s.winRead (BitVec.toNat off) (BitVec.toNat len)))
              (s.winRead (BitVec.toNat off) (BitVec.toNat len)) rs) =
          true) ∧
        (s.safetyOk
            (safetyOf (imageGen (s.winRead (BitVec.toNat off) (BitVec.toNat len)))
              (s.winRead (BitVec.toNat off) (BitVec.toNat len)) rs) =
          true) ∧
        (s.safety.armed = false) ∧
        (s.strapsOk
            (safetyOf (imageGen (s.winRead (BitVec.toNat off) (BitVec.toNat len)))
              (s.winRead (BitVec.toNat off) (BitVec.toNat len)) rs) =
          true)) ∧
      (∃ (s : State) (off len : Word) (rs : List ImgRec),
        (s.winOk (BitVec.toNat off) (BitVec.toNat len) = true) ∧
        (imageRecs (s.winRead (BitVec.toNat off) (BitVec.toNat len)) = some rs) ∧
        (imageHeaderError
            (if imageKind (s.winRead (BitVec.toNat off) (BitVec.toNat len)) = 1 then
              s.indexIn (s.winRead (BitVec.toNat off) (BitVec.toNat len))
            else s.dev)
            (s.winRead (BitVec.toNat off) (BitVec.toNat len)) (BitVec.toNat len) =
          0) ∧
        (s.cell.loaded = true) ∧
        (imageKind (s.winRead (BitVec.toNat off) (BitVec.toNat len)) ≠ 1) ∧
        (imageKind (s.winRead (BitVec.toNat off) (BitVec.toNat len)) = 3) ∧
        (kinForm rs = true) ∧
        (s.kinObjects rs = true) ∧
        (s.armsOk
            (kinOf (imageGen (s.winRead (BitVec.toNat off) (BitVec.toNat len)))
              (s.winRead (BitVec.toNat off) (BitVec.toNat len)) rs) =
          true) ∧
        (s.kinOk rs
            (kinOf (imageGen (s.winRead (BitVec.toNat off) (BitVec.toNat len)))
              (s.winRead (BitVec.toNat off) (BitVec.toNat len)) rs) =
          true) ∧
        (s.armsInZones
            (kinOf (imageGen (s.winRead (BitVec.toNat off) (BitVec.toNat len)))
              (s.winRead (BitVec.toNat off) (BitVec.toNat len)) rs)
            s.safety.img =
          true) ∧
        (s.personSlotsOk s.selide.sched
            (kinOf (imageGen (s.winRead (BitVec.toNat off) (BitVec.toNat len)))
              (s.winRead (BitVec.toNat off) (BitVec.toNat len)) rs) =
          true) ∧
        ((kinOf (imageGen (s.winRead (BitVec.toNat off) (BitVec.toNat len))) (s.winRead (BitVec.toNat off) (BitVec.toNat
          len))
                rs).caps.length ≤
          1024) ∧
        ((kinOf (imageGen (s.winRead (BitVec.toNat off) (BitVec.toNat len))) (s.winRead (BitVec.toNat off) (BitVec.toNat
          len))
                rs).persons.length ≤
          32) ∧
        (pairCount
            (kinOf (imageGen (s.winRead (BitVec.toNat off) (BitVec.toNat len)))
              (s.winRead (BitVec.toNat off) (BitVec.toNat len)) rs) ≤
          131072) ∧
        (s.relayFits s.selide.sched
            (kinOf (imageGen (s.winRead (BitVec.toNat off) (BitVec.toNat len)))
              (s.winRead (BitVec.toNat off) (BitVec.toNat len)) rs) =
          true) ∧
        (s.safety.armed = false)) ∧
      (∃ (s : State) (off len : Word) (rs : List ImgRec),
        (s.winOk (BitVec.toNat off) (BitVec.toNat len) = true) ∧
        (imageRecs (s.winRead (BitVec.toNat off) (BitVec.toNat len)) = some rs) ∧
        (imageHeaderError
            (if imageKind (s.winRead (BitVec.toNat off) (BitVec.toNat len)) = 1 then
              s.indexIn (s.winRead (BitVec.toNat off) (BitVec.toNat len))
            else s.dev)
            (s.winRead (BitVec.toNat off) (BitVec.toNat len)) (BitVec.toNat len) =
          0) ∧
        (s.cell.loaded = true) ∧
        (imageKind (s.winRead (BitVec.toNat off) (BitVec.toNat len)) ≠ 1) ∧
        (imageKind (s.winRead (BitVec.toNat off) (BitVec.toNat len)) = 6) ∧
        (paramsetForm rs = true) ∧
        (s.recObjects rs = true)) ∧
      (∃ (s : State) (off len : Word) (rs : List ImgRec),
        (s.winOk (BitVec.toNat off) (BitVec.toNat len) = true) ∧
        (imageRecs (s.winRead (BitVec.toNat off) (BitVec.toNat len)) = some rs) ∧
        (imageHeaderError
            (if imageKind (s.winRead (BitVec.toNat off) (BitVec.toNat len)) = 1 then
              s.indexIn (s.winRead (BitVec.toNat off) (BitVec.toNat len))
            else s.dev)
            (s.winRead (BitVec.toNat off) (BitVec.toNat len)) (BitVec.toNat len) =
          0) ∧
        (s.cell.loaded = true) ∧
        (imageKind (s.winRead (BitVec.toNat off) (BitVec.toNat len)) ≠ 1) ∧
        (imageKind (s.winRead (BitVec.toNat off) (BitVec.toNat len)) = 7) ∧
        (s.kernelStatus rs = 0)) ∧
      (∃ (s : State) (off len : Word) (rs : List ImgRec),
        (s.winOk (BitVec.toNat off) (BitVec.toNat len) = true) ∧
        (imageRecs (s.winRead (BitVec.toNat off) (BitVec.toNat len)) = some rs) ∧
        (imageHeaderError
            (if imageKind (s.winRead (BitVec.toNat off) (BitVec.toNat len)) = 1 then
              s.indexIn (s.winRead (BitVec.toNat off) (BitVec.toNat len))
            else s.dev)
            (s.winRead (BitVec.toNat off) (BitVec.toNat len)) (BitVec.toNat len) =
          0) ∧
        (s.cell.loaded = true) ∧
        (imageKind (s.winRead (BitVec.toNat off) (BitVec.toNat len)) ≠ 1) ∧
        (imageKind (s.winRead (BitVec.toNat off) (BitVec.toNat len)) = 5)) :=
  ⟨⟨holding plain badImg, 0x80000, BitVec.ofNat 32 badImg.length, recordsOf badImg, by decide +kernel⟩,
    ⟨holding railed cellImg, 0x80000, BitVec.ofNat 32 cellImg.length, recordsOf cellImg, by decide +kernel⟩,
    ⟨holding plain schedImg, 0x80000, BitVec.ofNat 32 schedImg.length, recordsOf schedImg, by decide +kernel⟩,
    ⟨holding plain safeImg, 0x80000, BitVec.ofNat 32 safeImg.length, recordsOf safeImg, by decide +kernel⟩,
    ⟨holding disarmed kinImg, 0x80000, BitVec.ofNat 32 kinImg.length, recordsOf kinImg, by decide +kernel⟩,
    ⟨holding plain paramImg, 0x80000, BitVec.ofNat 32 paramImg.length, recordsOf paramImg, by decide +kernel⟩,
    ⟨holding plain kernelImg, 0x80000, BitVec.ofNat 32 kernelImg.length, recordsOf kernelImg, by decide +kernel⟩,
    ⟨holding plain structImg, 0x80000, BitVec.ofNat 32 structImg.length, recordsOf structImg, by decide +kernel⟩⟩

/-- `Obligations.ImagesAndKernelModules`, k = 9, 10, 11. -/
theorem test_witness_ImagesAndKernelModules_2 :
      (∃ (s : State),
        s.lanes.loads = []) ∧
      (∃ (s : State) (k : KernelLoad) (r : List KernelLoad),
        (s.lanes.loads = k :: r) ∧
        (k.suspended = false ∨ s.boundary = false ∨ s.kernelBoundaries k < 2)) ∧
      (∃ (s : State) (k : KernelLoad) (r : List KernelLoad),
        (s.lanes.loads = k :: r) ∧
        (k.suspended = true) ∧
        (s.boundary = true) ∧
        (2 ≤ s.kernelBoundaries k)) :=
  ⟨⟨plain, by decide +kernel⟩,
    ⟨kernelWait, loadingKernel, [], by decide +kernel⟩,
    ⟨kernelReady, { loadingKernel with accepted := 36, suspended := true }, [], by decide +kernel⟩⟩

/-- `Obligations.SafetyCommandsActOnTheirZone`, k = 1, 2, 3, 4, 5, 6. -/
theorem test_witness_SafetyCommandsActOnTheirZone :
      (∃ (s : State) (h : Hdr),
        (s.safety.img.loaded = true) ∧
        ((s.zoneRec (refIndex h.obj % 16)).isSome = true)) ∧
      (∃ (s : State) (h : Hdr),
        (s.safety.img.loaded = true) ∧
        ((s.zoneRec (refIndex h.obj % 16)).isSome = true) ∧
        (s.zoneSto (refIndex h.obj % 16) = false)) ∧
      (∃ (s : State) (h : Hdr),
        (s.safety.img.loaded = true) ∧
        ((s.zoneRec (refIndex h.obj % 16)).isSome = true) ∧
        ((s.zone (refIndex h.obj % 16)).hostReq ≠ 0)) ∧
      (∃ (s : State) (h : Hdr) (m : Word),
        (s.safety.img.loaded = true) ∧
        (s.zoneRec (refIndex h.obj % 16) = none) ∧
        (BitVec.toNat m ≤ 2)) ∧
      (∃ (s : State) (h : Hdr) (on : Word),
        (s.safety.img.loaded = true) ∧
        (BitVec.toNat on ≤ 1) ∧
        (∃ p ∈ s.slsRecs, p.2.group = refIndex h.obj ∧ p.2.input = none)) ∧
      (∃ (s : State) (h : Hdr) (z : Nat),
        (s.safety.img.loaded = true) ∧
        (h.obj = mkRef clsZone z) ∧
        (z < 16) ∧
        (s.zoneReleasable z = true) ∧
        (∀ r ∈ s.safety.img.inputs, bitN r.stoMap z = true ∨ bitN r.ss1Map z = true → (s.input r.input).faulted = false)) :=
  ⟨⟨work, hdr (mkRef clsZone 0), by decide +kernel⟩,
    ⟨work, hdr (mkRef clsZone 0), by decide +kernel⟩,
    ⟨stopped, hdr (mkRef clsZone 0), by decide +kernel⟩,
    ⟨work, hdr (mkRef clsZone 15), 2, by decide +kernel⟩,
    ⟨work, hdr (mkRef clsGroup 1), 1, by decide +kernel⟩,
    ⟨releasable, hdr (mkRef clsZone 0), 0, by decide +kernel⟩⟩

/-- `Obligations.NodeAndTimeCommands`, k = 1, 2, 3, 4, 5, 6. -/
theorem test_witness_NodeAndTimeCommands :
      (∃ (s : State),
        (s.cell.loaded = true) ∧
        (s.selide.sched.loaded = true) ∧
        (s.selide.started = false) ∧
        (s.tickRateStaged = false)) ∧
      (∃ (s : State) (h : Hdr),
        (s.selide.sched.loaded = true) ∧
        ((s.node (refIndex h.obj % 64)).mute = true)) ∧
      (∃ (s : State) (h : Hdr),
        (s.selide.sched.loaded = true) ∧
        ((s.node (refIndex h.obj % 64)).wake = false) ∧
        (s.overBudget (s.wakeCost (refIndex h.obj % 64)) = false)) ∧
      (∃ (s : State) (h : Hdr),
        (s.selide.sched.loaded = true) ∧
        ((s.node (refIndex h.obj % 64)).wake = true) ∧
        (∀ a ∈ s.nodeAxes (refIndex h.obj % 64), s.axisState a = stDisabled)) ∧
      (∃ (s : State) (h : Hdr),
        (s.node (refIndex h.obj % 64)).present = true) ∧
      (∃ (s : State) (sec : Word64) (ns : Word),
        (BitVec.toNat sec < 2 ^ 48) ∧
        (BitVec.toNat ns < 1000000000) ∧
        (s.time.steppable = true)) :=
  ⟨⟨work, by decide +kernel⟩,
    ⟨noded, hdr (mkRef clsNode 63), by decide +kernel⟩,
    ⟨work, hdr (mkRef clsNode 63), by decide +kernel⟩,
    ⟨noded, hdr (mkRef clsNode 0), by decide +kernel⟩,
    ⟨noded, hdr (mkRef clsNode 0), by decide +kernel⟩,
    ⟨work, 0xFFFFFFFFFFFF, 999999999, by decide +kernel⟩⟩

/-- `Obligations.OneRefusingAxisRefusesForAll`, k = 1, 2, 3. -/
theorem test_witness_OneRefusingAxisRefusesForAll :
      (∃ (s : State) (h : Hdr) (a : Nat) (c : Instr) (check : Nat → Nat),
        ((c, check) ∈
          [(Instr.home h, s.homeCheck), (Instr.align h, s.alignCheck), (Instr.axisDisable h, s.disableCheck),
            (Instr.faultReset h, s.resetCheck)]) ∧
        (List.find? (fun a => decide (check a ≠ stOk)) (s.localAxes h.obj) = some a)) ∧
      (∃ (s : State) (h : Hdr) (a : Nat) (x : SweepArgs),
        List.find? (fun a => decide (s.sweepCheck x a ≠ stOk)) (s.localAxes h.obj) = some a) ∧
      (∃ (s : State) (h : Hdr) (c : Instr),
        (c ∈ [Instr.home h, Instr.align h, Instr.axisEnable h, Instr.axisDisable h, Instr.faultReset h]) ∧
        (s.localAxes h.obj = [])) :=
  ⟨⟨bound, hdr (mkRef clsGroup 1), 0, .axisDisable (hdr (mkRef clsGroup 1)), bound.disableCheck,
    .tail _ (.tail _ (.head _)), by decide +kernel⟩,
    ⟨faulted, hdr (mkRef clsAxis 0), 0, sweep0, by decide +kernel⟩,
    ⟨bound, hdr (mkRef clsGroup 3), .home (hdr (mkRef clsGroup 3)), by decide +kernel⟩⟩

/-- `Obligations.MoveAndHaltActOnTheirQueues`, k = 1, 2, 3, 4, 5, 6. -/
theorem test_witness_MoveAndHaltActOnTheirQueues :
      (∃ (s : State) (h : Hdr) (m : MoveArgs),
        (moveFormOk m = true) ∧
        ((s.axesBelow h.obj).length = m.targets.length) ∧
        (32 ≤ (s.queue h.obj).segs.length)) ∧
      (∃ (s : State) (h : Hdr) (m : MoveArgs),
        (moveFormOk m = true) ∧
        ((s.axesBelow h.obj).length = m.targets.length) ∧
        ((s.queue h.obj).segs.length < 32) ∧
        (s.localAxes h.obj ≠ []) ∧
        (∀ a ∈ s.localAxes h.obj, s.moveCheck h.obj a = stOk) ∧
        (s.segValid (s.moveSeg h.obj m) (s.nextStarts h.obj (s.moveSeg h.obj m).axes) = false)) ∧
      (∃ (s : State) (h : Hdr) (m : MoveArgs),
        (moveFormOk m = true) ∧
        ((s.axesBelow h.obj).length = m.targets.length) ∧
        ((s.queue h.obj).segs.length < 32) ∧
        (s.localAxes h.obj ≠ []) ∧
        (∀ a ∈ s.localAxes h.obj, s.moveCheck h.obj a = stOk) ∧
        (s.segValid (s.moveSeg h.obj m) (s.nextStarts h.obj (s.moveSeg h.obj m).axes) = true)) ∧
      (∃ (s : State) (h : Hdr) (m : MoveArgs),
        (moveFormOk m = true) ∧
        ((s.axesBelow h.obj).length = m.targets.length) ∧
        ((s.queue h.obj).segs.length < 32) ∧
        (s.localAxes h.obj ≠ []) ∧
        (∀ a ∈ s.localAxes h.obj, s.moveCheck h.obj a = stOk) ∧
        (s.segValid (s.moveSeg h.obj m) (s.nextStarts h.obj (s.moveSeg h.obj m).axes) = true) ∧
        ((s.queue h.obj).segs ≠ [])) ∧
      (∃ (s : State) (h : Hdr),
        (∀ a ∈ s.localAxes h.obj, (s.axis a).home.run = none) ∧
        (s.queuesOf (s.localAxes h.obj) ≠ [])) ∧
      (∃ (s : State) (h : Hdr),
        (∀ a ∈ s.localAxes h.obj, (s.axis a).home.run = none) ∧
        (s.queuesOf (s.localAxes h.obj) = [])) :=
  ⟨⟨fullQueue, hdr (mkRef clsGroup 1), move0, by decide +kernel⟩,
    ⟨calm, hdr (mkRef clsGroup 1), moveBad, by decide +kernel⟩,
    ⟨calm, hdr (mkRef clsGroup 1), move0, by decide +kernel⟩,
    ⟨bound, hdr (mkRef clsGroup 1), move0, by decide +kernel⟩,
    ⟨bound, hdr (mkRef clsGroup 1), by decide +kernel⟩,
    ⟨calm, hdr (mkRef clsGroup 1), by decide +kernel⟩⟩

/-- `Obligations.HomeAlignSweepAndCompare`, k = 1, 2, 3, 4, 5, 6. -/
theorem test_witness_HomeAlignSweepAndCompare :
      (∃ (s : State) (h : Hdr),
        (s.localAxes h.obj ≠ []) ∧
        (∀ a ∈ s.localAxes h.obj, s.homeCheck a = stOk)) ∧
      (∃ (s : State) (h : Hdr),
        (s.localAxes h.obj ≠ []) ∧
        (∀ a ∈ s.localAxes h.obj, s.alignCheck a = stOk)) ∧
      (∃ (s : State) (h : Hdr) (x : SweepArgs),
        (s.localAxes h.obj ≠ []) ∧
        (∀ a ∈ s.localAxes h.obj, s.sweepCheck x a = stOk)) ∧
      (∃ (s : State) (h : Hdr) (off : Word) (n : Word16),
        strictlyOrdered (s.cmpNeg (refIndex h.obj % 16))
            (List.map (fun i => sfieldAt (s.winRead (BitVec.toNat off + 8 * i) 8) 0 8) (upTo (BitVec.toNat n))) =
          true) ∧
      (∃ (s : State) (h : Hdr) (off : Word) (n : Word16),
        strictlyOrdered (s.cmpNeg (refIndex h.obj % 16))
            (List.map (fun i => sfieldAt (s.winRead (BitVec.toNat off + 8 * i) 8) 0 8) (upTo (BitVec.toNat n))) =
          false) ∧
      (∃ (s : State) (a : Nat) (x : SweepSt) (b : Bool),
        (List.find? (fun x => decide (x.axis = a)) s.lanes.sweeps = some x) ∧
        (s.sweepOver x = some b)) :=
  ⟨⟨calm, hdr (mkRef clsAxis 0), by decide +kernel⟩,
    ⟨calm, hdr (mkRef clsAxis 0), by decide +kernel⟩,
    ⟨calm, hdr (mkRef clsAxis 0), sweep0, by decide +kernel⟩,
    ⟨listed, hdr (mkRef clsCmp 15), 0x80000, 2, by decide +kernel⟩,
    ⟨listed, hdr (mkRef clsCmp 15), 0x80000, 3, by decide +kernel⟩,
    ⟨sweeping, 0, sweepDone, true, by decide +kernel⟩⟩

/-- `Obligations.PowerStageCommands`, k = 1, 2, 3, 4. -/
theorem test_witness_PowerStageCommands :
      (∃ (s : State) (h : Hdr),
        (s.localAxes h.obj ≠ []) ∧
        (s.overBudget (s.enableCost (List.filter (fun a => !(s.axis a).psEn) (s.localAxes h.obj))) = false) ∧
        (canPay s.supply.levels (List.flatMap (fun x => List.map (fun p => p.1) x.costs) s.supply.reqs)
            (s.enableCost (List.filter (fun a => !(s.axis a).psEn) (s.localAxes h.obj))) =
          true) ∧
        (∀ a ∈ s.localAxes h.obj, s.enableCheck a = stOk) ∧
        (∃ a ∈ s.localAxes h.obj, (s.axis a).psEn = false)) ∧
      (∃ (s : State) (h : Hdr),
        (s.localAxes h.obj ≠ []) ∧
        (s.overBudget (s.enableCost (List.filter (fun a => !(s.axis a).psEn) (s.localAxes h.obj))) = false) ∧
        (canPay s.supply.levels (List.flatMap (fun x => List.map (fun p => p.1) x.costs) s.supply.reqs)
            (s.enableCost (List.filter (fun a => !(s.axis a).psEn) (s.localAxes h.obj))) =
          false)) ∧
      (∃ (s : State) (h : Hdr),
        (s.localAxes h.obj ≠ []) ∧
        (∀ a ∈ s.localAxes h.obj, s.disableCheck a = stOk)) ∧
      (∃ (s : State) (h : Hdr),
        (s.localAxes h.obj ≠ []) ∧
        (∀ a ∈ s.localAxes h.obj, s.resetCheck a = stOk) ∧
        (∃ a ∈ s.localAxes h.obj, (s.axis a).fault = true)) :=
  ⟨⟨unpowered, hdr (mkRef clsAxis 0), by decide +kernel⟩,
    ⟨unpaid, hdr (mkRef clsAxis 0), by decide +kernel⟩,
    ⟨calm, hdr (mkRef clsGroup 1), by decide +kernel⟩,
    ⟨faulted, hdr (mkRef clsAxis 0), by decide +kernel⟩⟩

/-- `Obligations.CapacityAndStructureCommands`, k = 1, 2, 3, 4, 5, 6, 8, 9. -/
theorem test_witness_CapacityAndStructureCommands_1 :
      (∃ (s : State) (h : Hdr) (m : Byte) (on : Word) (c : Instr) (k : CapChange),
        (s.boundary = false) ∧
        (BitVec.toNat m ≤ 15) ∧
        (BitVec.toNat on ≤ 1) ∧
        ((c, k) ∈
          [(Instr.groupAdd h, CapChange.add h (refIndex h.obj)), (Instr.groupRemove h, CapChange.remove h (refIndex h.obj)),
            (Instr.axisMigrate h m, CapChange.migrate (some h) (refIndex h.obj) (BitVec.toNat m)),
            (Instr.groupHalfRate h on, CapChange.half h (refIndex h.obj) (decide (on = 1)))])) ∧
      (∃ (s : State) (h : Hdr) (g : Nat),
        (s.boundary = true) ∧
        (refIndex h.obj = g) ∧
        (g % 256 ≠ 0) ∧
        (g / 256 = s.dev) ∧
        (∃ a ∈ s.localAxes (mkRef clsGroup g), s.axisRemoved a = false) ∧
        (∀ a ∈ s.localAxes (mkRef clsGroup g), s.removable a = true)) ∧
      (∃ (s : State) (h : Hdr),
        (s.boundary = true) ∧
        (∃ a ∈ s.localAxes (mkRef clsGroup (refIndex h.obj)), s.axisRemoved a = true)) ∧
      (∃ (s : State) (h : Hdr),
        (s.boundary = true) ∧
        (s.localAxes (mkRef clsGroup (refIndex h.obj)) ≠ [])) ∧
      (∃ (s : State) (h : Hdr),
        (s.boundary = true) ∧
        (s.localAxes (mkRef clsGroup (refIndex h.obj)) ≠ []) ∧
        (s.fullRateFits (s.localAxes (mkRef clsGroup (refIndex h.obj))) = true)) ∧
      (∃ (s : State) (h : Hdr) (m : Byte) (l k : Nat) (g : List (Nat × Nat)),
        (s.boundary = true) ∧
        (BitVec.toNat m ≤ 15) ∧
        (s.laneOf (refIndex h.obj) = some (l, k)) ∧
        (l ≠ BitVec.toNat m) ∧
        (s.failedSince l = false) ∧
        (s.failedSince (BitVec.toNat m) = false) ∧
        (s.fit (BitVec.toNat m) [refIndex h.obj] = some g) ∧
        (s.laneBusy l = false) ∧
        (s.laneBusy (BitVec.toNat m) = false)) ∧
      (∃ (s : State) (l : StructLoading) (r : List StructLoading),
        (s.solver.loading = l :: r) ∧
        (BitVec.toNat l.image.generation < tblGet 0 s.solver.highGen l.handle)) ∧
      (∃ (s : State) (l : StructLoading) (r : List StructLoading),
        (s.solver.loading = l :: r) ∧
        (tblGet 0 s.solver.highGen l.handle ≤ BitVec.toNat l.image.generation)) :=
  ⟨⟨work, hdr (mkRef clsGroup 1), 15, 1, .groupHalfRate (hdr (mkRef clsGroup 1)) 1, .half (hdr (mkRef clsGroup 1)) 1 true,
    by decide +kernel⟩,
    ⟨idle, hdr (mkRef clsGroup 1), 1, by decide +kernel⟩,
    ⟨removed, hdr (mkRef clsGroup 1), by decide +kernel⟩,
    ⟨atBoundary, hdr (mkRef clsGroup 1), by decide +kernel⟩,
    ⟨atBoundary, hdr (mkRef clsGroup 1), by decide +kernel⟩,
    ⟨atBoundary, hdr (mkRef clsAxis 0), 15, 0, 0, [(0, 0)], by decide +kernel⟩,
    ⟨structStale, loading0, [], by decide +kernel⟩,
    ⟨structLoading, loading0, [], by decide +kernel⟩⟩

/-- `Obligations.CapacityAndStructureCommands`, k = 10, 11, 12, 13, 14. -/
theorem test_witness_CapacityAndStructureCommands_2 :
      (∃ (s : State) (h : Hdr),
        (s.handleBusy (refIndex h.obj % 4) = false) ∧
        ((s.struct? (refIndex h.obj % 4)).isSome = true)) ∧
      (∃ (s : State) (h : Hdr) (g : Word) (x : Struct),
        (s.struct? (refIndex h.obj % 4) = some x) ∧
        (x.generation = g)) ∧
      (∃ (s : State) (h : Hdr) (g : Word) (x : Struct),
        (s.struct? (refIndex h.obj % 4) = some x) ∧
        (x.generation ≠ g)) ∧
      (∃ (s : State) (h : Hdr) (g : Word) (x : Struct) (n off : Word),
        (s.struct? (refIndex h.obj % 4) = some x) ∧
        (x.generation = g) ∧
        (s.winOk (BitVec.toNat off) (16 * BitVec.toNat n) = true) ∧
        (((updEntries (s.winRead (BitVec.toNat off) (16 * BitVec.toNat n)) (BitVec.toNat n)).any fun e =>
            decide (e.res ≠ 0) || decide (updLimit x e.kind ≤ e.index)) =
          true)) ∧
      (∃ (s : State) (h : Hdr) (g : Word) (x : Struct) (n off : Word),
        (s.struct? (refIndex h.obj % 4) = some x) ∧
        (x.generation = g) ∧
        (s.winOk (BitVec.toNat off) (16 * BitVec.toNat n) = true) ∧
        (((updEntries (s.winRead (BitVec.toNat off) (16 * BitVec.toNat n)) (BitVec.toNat n)).any fun e =>
            decide (e.res ≠ 0) || decide (updLimit x e.kind ≤ e.index)) =
          false) ∧
        (((updEntries (s.winRead (BitVec.toNat off) (16 * BitVec.toNat n)) (BitVec.toNat n)).any fun e =>
            f64IsNan e.value || decide (e.kind ≤ 3) && !f64Finite e.value) =
          false) ∧
        (boundsOk x.vars
            (List.foldl applyUpd x.vals (updEntries (s.winRead (BitVec.toNat off) (16 * BitVec.toNat n)) (BitVec.toNat n))) =
          true)) :=
  ⟨⟨resident, hdr (mkRef clsStruct 0), by decide +kernel⟩,
    ⟨resident, hdr (mkRef clsStruct 0), 1, struct0, by decide +kernel⟩,
    ⟨resident, hdr (mkRef clsStruct 0), 2, struct0, by decide +kernel⟩,
    ⟨resident, hdr (mkRef clsStruct 0), 1, struct0, 2, 0x80000, by decide +kernel⟩,
    ⟨resident, hdr (mkRef clsStruct 0), 1, struct0, 1, 0x80000, by decide +kernel⟩⟩

/-- `Obligations.RecorderWritesAndReads`, k = 1, 2, 3, 4, 5. -/
theorem test_witness_RecorderWritesAndReads :
      (∃ (s : State) (code : Nat) (obj cyc : Word) (args : List Word) (time : List Byte) (st : Bool) (rest : List QEv),
        (cellsWf s.host.window = true) ∧
        (s.host.suspended = false) ∧
        (s.recd.queue = QEv.ev code obj args cyc time st :: rest) ∧
        ((s.lim code).suppressing = false) ∧
        ((s.lim code).burst = 0 ∨ token ≤ (s.lim code).level)) ∧
      (∃ (s : State) (code : Nat) (obj cyc : Word) (args : List Word) (time : List Byte) (st : Bool) (rest : List QEv),
        (cellsWf s.host.window = true) ∧
        (s.host.suspended = false) ∧
        (s.recd.queue = QEv.ev code obj args cyc time st :: rest) ∧
        ((s.lim code).suppressing = false) ∧
        ((s.lim code).burst ≠ 0) ∧
        ((s.lim code).level < token)) ∧
      (∃ (s : State) (fromSeq : Word64) (off : Word) (n : Word16),
        (recReadForm (BitVec.toNat off) (BitVec.toNat n) = true) ∧
        (cellsWf s.host.window = true) ∧
        ((BitVec.toNat fromSeq).max s.recOldest ≠ 0) ∧
        (s.copyRange ((BitVec.toNat fromSeq).max s.recOldest) ((BitVec.toNat fromSeq + BitVec.toNat n - 1).min s.recd.seq)
          ≠ [])) ∧
      (∃ (s : State) (fromSeq : Word64) (off : Word) (n : Word16),
        (recReadForm (BitVec.toNat off) (BitVec.toNat n) = true) ∧
        (cellsWf s.host.window = true) ∧
        ((BitVec.toNat fromSeq + BitVec.toNat n - 1).min s.recd.seq < (BitVec.toNat fromSeq).max s.recOldest ∨
          s.copyRange ((BitVec.toNat fromSeq).max s.recOldest) ((BitVec.toNat fromSeq + BitVec.toNat n - 1).min s.recd.seq)
            = [])) ∧
      (∃ (s : State) (off : Word) (n : Word16) (c : RecCopy) (r : List RecCopy),
        (recReadForm (BitVec.toNat off) (BitVec.toNat n) = true) ∧
        (cellsWf s.host.window = true) ∧
        (s.recd.copies = c :: r)) :=
  ⟨⟨recording, 0x0101, 0, 33, [], List.replicate 8 0, false, [], by decide +kernel⟩,
    ⟨limited, 0x0101, 0, 33, [], List.replicate 8 0, false, [], by decide +kernel⟩,
    ⟨recorded, 2, 0x80000, 1, by decide +kernel⟩,
    ⟨recorded, 3, 0x80000, 1, by decide +kernel⟩,
    ⟨copying, 0x80000, 1, copy0, [], by decide +kernel⟩⟩

/-- `Obligations.CanCommandsAndBitRateDetection`, k = 1, 2, 3, 4, 5, 6, 7, 8. -/
theorem test_witness_CanCommandsAndBitRateDetection_1 :
      (∃ (s : State) (h : Hdr) (m : Word),
        (BitVec.toNat m ≤ 3) ∧
        ((s.canSt (canOf h)).mode ≠ BitVec.toNat m) ∧
        (BitVec.toNat m = 0 ∨ s.canTxdOk (canOf h) = true)) ∧
      (∃ (s : State) (h : Hdr) (m : Word),
        (BitVec.toNat m ≤ 3) ∧
        (BitVec.toNat m ≠ 0) ∧
        ((s.canSt (canOf h)).mode ≠ BitVec.toNat m) ∧
        (s.canTxdOk (canOf h) = false)) ∧
      (∃ (s : State) (h : Hdr) (m : CanMsg),
        ((s.canSt (canOf h)).mode ≠ 0) ∧
        ((s.canSt (canOf h)).mode ≠ 4) ∧
        ((s.canSt (canOf h)).queue.length < 32) ∧
        (canMsgOk m = true) ∧
        (∀ q ∈ (s.canSt (canOf h)).queue, q.msg.tag ≠ m.tag)) ∧
      (∃ (s : State) (h : Hdr),
        ((s.canSt (canOf h)).mode ≠ 0) ∧
        ((s.canSt (canOf h)).mode ≠ 4) ∧
        (32 ≤ (s.canSt (canOf h)).queue.length)) ∧
      (∃ (s : State) (h : Hdr) (tag : Word) (a b : List CanTx) (m : CanTx),
        ((s.canSt (canOf h)).queue = a ++ m :: b) ∧
        (m.msg.tag = tag) ∧
        (m.outcome = none) ∧
        (∀ q ∈ a ++ b, q.msg.tag ≠ tag ∧ q.outcome = none) ∧
        (a ≠ []) ∧
        (s.evFull (canOf h) = false)) ∧
      (∃ (s : State) (h : Hdr) (m : Word),
        (BitVec.toNat m = 1 ∨ BitVec.toNat m = 2) ∧
        ((s.canSt (canOf h)).mode = 0 ∨ (s.canSt (canOf h)).mode = 2)) ∧
      (∃ (s : State) (h : Hdr),
        (s.canSt (canOf h)).busOff = true) ∧
      (∃ (s : State) (k : Fin 4) (a : CanAbd),
        ((s.canSt ↑k).abd = some a) ∧
        (s.abdMet ↑k = true) ∧
        (a.thenMode ≠ 0)) :=
  ⟨⟨canned { mode := 0 }, hdr (mkRef clsCan 3), 3, by decide +kernel⟩,
    ⟨work, hdr (mkRef clsCan 3), 1, by decide +kernel⟩,
    ⟨canned { mode := 1, queue := List.replicate 31 tx1 }, hdr (mkRef clsCan 3), canMsg0, by decide +kernel⟩,
    ⟨canned { mode := 1, queue := List.replicate 32 tx1 }, hdr (mkRef clsCan 3), by decide +kernel⟩,
    ⟨canned { mode := 1, queue := [tx1, tx0, tx2] }, hdr (mkRef clsCan 3), 5, [tx1], [tx2], tx0, by decide +kernel⟩,
    ⟨canned { mode := 2 }, hdr (mkRef clsCan 3), 1, by decide +kernel⟩,
    ⟨canned { mode := 1, busOff := true }, hdr (mkRef clsCan 3), by decide +kernel⟩,
    ⟨canned { mode := 4, abd := some abd0 }, 3, abd0, by decide +kernel⟩⟩

/-- `Obligations.CanCommandsAndBitRateDetection`, k = 9, 10. -/
theorem test_witness_CanCommandsAndBitRateDetection_2 :
      (∃ (s : State) (k : Fin 4) (a : CanAbd),
        ((s.canSt ↑k).abd = some a) ∧
        (s.abdMet ↑k = false) ∧
        (s.canP 41010 ↑k * 1000000 ≤ s.now - a.dwellNs)) ∧
      (∃ (s : State) (k : Fin 4) (a : CanAbd),
        ((s.canSt ↑k).abd = some a) ∧
        (s.abdMet ↑k = false) ∧
        (s.abdTimedOut (↑k) a = true)) :=
  ⟨⟨canLate, 3, { abd0 with frames := 0 }, by decide +kernel⟩,
    ⟨canLate, 3, { abd0 with frames := 0 }, by decide +kernel⟩⟩

/-- `Obligations.CanFramesAreSentAndReceived`, k = 1, 2, 3, 4, 5, 6, 7, 8. -/
theorem test_witness_CanFramesAreSentAndReceived_1 :
      (∃ (s : State) (k : Fin 4) (m : Nat),
        ((s.canSt ↑k).attempt = false) ∧
        ((s.canSt ↑k).pendMode = some m) ∧
        (m ≠ 0) ∧
        ((s.canSt ↑k).abd = none)) ∧
      (∃ (s : State) (k : Fin 4) (m : CanTx) (r : List CanTx),
        (s.canMayStart ↑k = true) ∧
        ((s.canSt ↑k).queue = m :: r) ∧
        (s.evFull ↑k = false)) ∧
      (∃ (s : State) (k : Fin 4) (m : CanTx),
        (cellsWf s.host.window = true) ∧
        ((s.canSt ↑k).attempt = true) ∧
        ((s.canSt ↑k).queue = [m]) ∧
        (m.outcome = none) ∧
        (s.evFull ↑k = false) ∧
        ((s.canSt ↑k).tec ≤ 255)) ∧
      (∃ (s : State) (k : Fin 4) (m : CanTx) (r : List CanTx),
        ((s.canSt ↑k).attempt = true) ∧
        ((s.canSt ↑k).queue = m :: r) ∧
        (m.outcome = none) ∧
        ((s.canSt ↑k).busOff = false)) ∧
      (∃ (s : State) (k : Fin 4),
        ((s.canSt ↑k).busOff = true) ∧
        ((s.canSt ↑k).recovering = true)) ∧
      (∃ (s : State) (k : Fin 4) (f : CanFrame),
        (cellsWf s.host.window = true) ∧
        ((s.canSt ↑k).mode = 2) ∧
        ((s.canFilter (↑k) f).1 = true) ∧
        (s.rxFull ↑k = false)) ∧
      (∃ (s : State) (k : Fin 4) (f : CanFrame),
        (cellsWf s.host.window = true) ∧
        ((s.canSt ↑k).mode = 2) ∧
        ((s.canFilter (↑k) f).1 = true) ∧
        (s.rxFull ↑k = true)) ∧
      (∃ (s : State) (k : Fin 4),
        (cellsWf s.host.window = true) ∧
        ((s.canSt ↑k).mode = 0)) :=
  ⟨⟨canned { pendMode := some 3 }, 3, 3, by decide +kernel⟩,
    ⟨canned { mode := 1, queue := [tx0, tx1] }, 3, tx0, [tx1], by decide +kernel⟩,
    ⟨canned { mode := 1, attempt := true, queue := [tx0], tec := 255 }, 3, tx0, by decide +kernel⟩,
    ⟨canned { mode := 1, attempt := true, queue := [tx0], tec := 250 }, 3, tx0, [], by decide +kernel⟩,
    ⟨canned { mode := 1, busOff := true, recovering := true, tec := 256 }, 3, by decide +kernel⟩,
    ⟨canOpen { mode := 2 }, 3, canFrame0, by decide +kernel⟩,
    ⟨canRxFull, 3, canFrame0, by decide +kernel⟩,
    ⟨canned { mode := 0 }, 3, by decide +kernel⟩⟩

/-- `Obligations.CanFramesAreSentAndReceived`, k = 9, 10, 11, 12, 13. -/
theorem test_witness_CanFramesAreSentAndReceived_2 :
      (∃ (s : State),
        cellsWf s.host.window = true) ∧
      (∃ (s : State) (k : Fin 4) (e : RxError),
        (cellsWf s.host.window = true) ∧
        ((s.canSt ↑k).mode = 1) ∧
        ((s.canSt ↑k).busOff = false) ∧
        ((s.canSt ↑k).tec ≤ 255) ∧
        (e = RxError.recessiveRes → s.canP 40964 ↑k = 0)) ∧
      (∃ (s : State) (k : Fin 4),
        (cellsWf s.host.window = true) ∧
        ((s.canSt ↑k).mode = 1) ∧
        (s.canP 40964 ↑k = 1)) ∧
      (∃ (s : State) (k : Fin 4) (ns : Nat),
        (cellsWf s.host.window = true) ∧
        ((s.canSt ↑k).mode = 3) ∧
        (s.canP 41040 ↑k = 1) ∧
        (s.canP 41046 ↑k ≤ ns)) ∧
      (∃ (s : State) (k : Fin 4) (v : Word),
        (cellsWf s.host.window = true) ∧
        (cntSub (BitVec.toNat v) (s.canCount (↑k) 4) ≤ cntSub (s.canCount (↑k) 0) (s.canCount (↑k) 4)) ∧
        (BitVec.toNat v ≠ s.canCount (↑k) 4)) :=
  ⟨⟨work, by decide +kernel⟩,
    ⟨{ canned { mode := 1, recCnt := 127 } with par := { vals := [(0xA004 * 65536 + 3, 0)] } }, 3, .recessiveRes,
      by decide +kernel⟩,
    ⟨canProt, 3, by decide +kernel⟩,
    ⟨canSleep, 3, 5000, by decide +kernel⟩,
    ⟨canRxFull, 3, 64, by decide +kernel⟩⟩

/-- `Obligations.LaneArithmeticSaturatesOrWraps`, k = 1, 8, 9, 11, 12. -/
theorem test_witness_LaneArithmeticSaturatesOrWraps :
      (∃ (s : State) (p : Fin 17),
        Fetches (s.pair ↑p) 1) ∧
      (∃ (s : State) (p : Fin 17) (imm : LImm),
        Fetches (s.pair ↑p)
          (match imm with
          | LImm.short v => 1
          | LImm.long v => 2)) ∧
      (∃ (s : State) (p : Fin 17) (rd rs rt : Fin 16),
        (Fetches (s.pair ↑p) 1) ∧
        (↑rd % 2 = 0 ∧ ↑rs % 2 = 0 ∧ ↑rt % 2 = 0)) ∧
      (∃ (s : State) (p : Fin 17) (rd rs rt : Fin 16) (a : Nat),
        (Fetches (s.pair ↑p) 1) ∧
        (¬(↑rd % 2 = 0 ∧ ↑rs % 2 = 0 ∧ ↑rt % 2 = 0)) ∧
        ((s.pair ↑p).regs.user = true) ∧
        ((s.pair ↑p).userAxis = some a)) ∧
      (∃ (s : State) (p : Fin 17) (rd rs rt : Fin 16),
        (Fetches (s.pair ↑p) 1) ∧
        (¬(↑rd % 2 = 0 ∧ ↑rs % 2 = 0 ∧ ↑rt % 2 = 0)) ∧
        ((s.pair ↑p).regs.user = false) ∧
        ((s.pair ↑p).working = true)) :=
  ⟨⟨codedRes wraps, 16, by decide +kernel⟩,
    ⟨codedRes wraps, 16, .long 0xFFFFFFFF, by decide +kernel⟩,
    ⟨codedRes wraps, 16, 14, 0, 2, by decide +kernel⟩,
    ⟨coded userRegs, 0, 13, 0, 2, 0, by decide +kernel⟩,
    ⟨coded fwRegs, 0, 14, 1, 2, by decide +kernel⟩⟩

/-- `Obligations.LaneLogicAndComparisons`, k = 1, 12. -/
theorem test_witness_LaneLogicAndComparisons :
      (∃ (s : State) (p : Fin 17),
        Fetches (s.pair ↑p) 1) ∧
      (∃ (s : State) (p : Fin 17) (imm : LImm),
        Fetches (s.pair ↑p)
          (match imm with
          | LImm.short v => 1
          | LImm.long v => 2)) :=
  ⟨⟨codedRes wraps, 16, by decide +kernel⟩,
    ⟨coded fwRegs, 0, .long 0x80000000, by decide +kernel⟩⟩

/-- `Obligations.LaneMultiplierAndAccumulators`, k = 1, 2, 3, 4, 5. -/
theorem test_witness_LaneMultiplierAndAccumulators :
      (∃ (s : State) (p : Fin 17) (sb : Bool) (an : Fin 4) (o1 o2 : MOperand) (v1 : Int) (b1 : Option Nat) (y : PairSt) (v2
        : Int) (b2 : Option Nat) (z : PairSt) (i : Instr) (k : MacKind) (v : Int),
        (Fetches (s.pair ↑p) 1) ∧
        (operand32 { pair := ↑p, rd := (s.pair ↑p).regs, rep := false } o1
            { (s.pair ↑p) with regs := (s.pair ↑p).regs.commitPend } =
          Except.ok (v1, b1, y)) ∧
        (operand32 { pair := ↑p, rd := (s.pair ↑p).regs, rep := false } o2 y = Except.ok (v2, b2, z)) ∧
        (busesOk [b1, b2] = true) ∧
        ((i, k) ∈
          [(Instr.mac p sb an o1 o2, MacKind.mac), (Instr.msu p sb an o1 o2, MacKind.msu),
            (Instr.mpy p sb an o1 o2, MacKind.mpy), (Instr.mpyn p sb an o1 o2, MacKind.mpyn)]) ∧
        ((k, v) ∈
          [(MacKind.mac,
              (cellRead (s.pair ↑p).regs.a ↑an).toInt +
                if BitVec.getLsbD (s.pair ↑p).regs.mode 2 = true then 2 * (v1 * v2) else v1 * v2),
            (MacKind.msu,
              (cellRead (s.pair ↑p).regs.a ↑an).toInt -
                if BitVec.getLsbD (s.pair ↑p).regs.mode 2 = true then 2 * (v1 * v2) else v1 * v2),
            (MacKind.mpy, if BitVec.getLsbD (s.pair ↑p).regs.mode 2 = true then 2 * (v1 * v2) else v1 * v2),
            (MacKind.mpyn, -if BitVec.getLsbD (s.pair ↑p).regs.mode 2 = true then 2 * (v1 * v2) else v1 * v2)])) ∧
      (∃ (s : State) (p : Fin 17) (an am : Fin 4) (o1 o2 o3 o4 : MOperand) (v1 : Int) (b1 : Option Nat) (y1 : PairSt) (v2 :
        Int) (b2 : Option Nat) (y2 : PairSt) (v3 : Int) (b3 : Option Nat) (y3 : PairSt) (v4 : Int) (b4 : Option Nat) (y4 :
          PairSt) (k1 k2 : MacKind) (v u : Int),
        (an ≠ am) ∧
        (Fetches (s.pair ↑p) 2) ∧
        (operand32 { pair := ↑p, rd := (s.pair ↑p).regs, rep := false } o1
            { (s.pair ↑p) with regs := (s.pair ↑p).regs.commitPend } =
          Except.ok (v1, b1, y1)) ∧
        (operand32 { pair := ↑p, rd := (s.pair ↑p).regs, rep := false } o2 y1 = Except.ok (v2, b2, y2)) ∧
        (operand32 { pair := ↑p, rd := (s.pair ↑p).regs, rep := false } o3 y2 = Except.ok (v3, b3, y3)) ∧
        (operand32 { pair := ↑p, rd := (s.pair ↑p).regs, rep := false } o4 y3 = Except.ok (v4, b4, y4)) ∧
        (busesOk [b1, b2, b3, b4] = true) ∧
        ((k1, v) ∈
          [(MacKind.mac,
              (cellRead (s.pair ↑p).regs.a ↑an).toInt +
                if BitVec.getLsbD (s.pair ↑p).regs.mode 2 = true then 2 * (v1 * v2) else v1 * v2),
            (MacKind.msu,
              (cellRead (s.pair ↑p).regs.a ↑an).toInt -
                if BitVec.getLsbD (s.pair ↑p).regs.mode 2 = true then 2 * (v1 * v2) else v1 * v2),
            (MacKind.mpy, if BitVec.getLsbD (s.pair ↑p).regs.mode 2 = true then 2 * (v1 * v2) else v1 * v2),
            (MacKind.mpyn, -if BitVec.getLsbD (s.pair ↑p).regs.mode 2 = true then 2 * (v1 * v2) else v1 * v2)]) ∧
        ((k2, u) ∈
          [(MacKind.mac,
              (cellRead (s.pair ↑p).regs.a ↑am).toInt +
                if BitVec.getLsbD (s.pair ↑p).regs.mode 2 = true then 2 * (v3 * v4) else v3 * v4),
            (MacKind.msu,
              (cellRead (s.pair ↑p).regs.a ↑am).toInt -
                if BitVec.getLsbD (s.pair ↑p).regs.mode 2 = true then 2 * (v3 * v4) else v3 * v4),
            (MacKind.mpy, if BitVec.getLsbD (s.pair ↑p).regs.mode 2 = true then 2 * (v3 * v4) else v3 * v4),
            (MacKind.mpyn, -if BitVec.getLsbD (s.pair ↑p).regs.mode 2 = true then 2 * (v3 * v4) else v3 * v4)])) ∧
      (∃ (s : State) (p : Fin 17) (sb : Bool) (an : Fin 4) (o1 o2 : MOperand) (xr xi : Int) (b1 : Option Nat) (y : PairSt)
        (yr yi : Int) (b2 : Option Nat) (z : PairSt) (k : MacKind) (v u : Int) (i : Instr),
        (↑an % 2 = 0) ∧
        (Fetches (s.pair ↑p) 1) ∧
        (operandC { pair := ↑p, rd := (s.pair ↑p).regs, rep := false } o1
            { (s.pair ↑p) with regs := (s.pair ↑p).regs.commitPend } =
          Except.ok (xr, xi, b1, y)) ∧
        (operandC { pair := ↑p, rd := (s.pair ↑p).regs, rep := false } o2 y = Except.ok (yr, yi, b2, z)) ∧
        (busesOk [b1, b2] = true) ∧
        ((k, v) ∈
          [(MacKind.mac,
              (cellRead (s.pair ↑p).regs.a ↑an).toInt +
                if BitVec.getLsbD (s.pair ↑p).regs.mode 2 = true then 2 * (xr * yr - xi * yi) else xr * yr - xi * yi),
            (MacKind.msu,
              (cellRead (s.pair ↑p).regs.a ↑an).toInt -
                if BitVec.getLsbD (s.pair ↑p).regs.mode 2 = true then 2 * (xr * yr - xi * yi) else xr * yr - xi * yi),
            (MacKind.mpy,
            if BitVec.getLsbD (s.pair ↑p).regs.mode 2 = true then 2 * (xr * yr - xi * yi) else xr * yr - xi * yi),
            (MacKind.mpyn,
              -if BitVec.getLsbD (s.pair ↑p).regs.mode 2 = true then 2 * (xr * yr - xi * yi) else xr * yr - xi * yi)]) ∧
        ((k, u) ∈
          [(MacKind.mac,
              (cellRead (s.pair ↑p).regs.a (↑an + 1)).toInt +
                if BitVec.getLsbD (s.pair ↑p).regs.mode 2 = true then 2 * (xr * yi + xi * yr) else xr * yi + xi * yr),
            (MacKind.msu,
              (cellRead (s.pair ↑p).regs.a (↑an + 1)).toInt -
                if BitVec.getLsbD (s.pair ↑p).regs.mode 2 = true then 2 * (xr * yi + xi * yr) else xr * yi + xi * yr),
            (MacKind.mpy,
            if BitVec.getLsbD (s.pair ↑p).regs.mode 2 = true then 2 * (xr * yi + xi * yr) else xr * yi + xi * yr),
            (MacKind.mpyn,
              -if BitVec.getLsbD (s.pair ↑p).regs.mode 2 = true then 2 * (xr * yi + xi * yr) else xr * yi + xi * yr)]) ∧
        ((i, k) ∈
          [(Instr.cmac p sb an o1 o2, MacKind.mac), (Instr.cmsu p sb an o1 o2, MacKind.msu),
            (Instr.cmpy p sb an o1 o2, MacKind.mpy), (Instr.cmpyn p sb an o1 o2, MacKind.mpyn)])) ∧
      (∃ (s : State) (p : Fin 17) (sb : Bool) (an : Fin 4) (o1 o2 : MOperand) (xr xi : Int) (b1 : Option Nat) (y : PairSt)
        (yr yi : Int) (b2 : Option Nat) (z : PairSt) (k : MacKind) (v u : Int) (i : Instr),
        (↑an % 2 = 0) ∧
        (Fetches (s.pair ↑p) 1) ∧
        (operandC { pair := ↑p, rd := (s.pair ↑p).regs, rep := false } o1
            { (s.pair ↑p) with regs := (s.pair ↑p).regs.commitPend } =
          Except.ok (xr, xi, b1, y)) ∧
        (operandC { pair := ↑p, rd := (s.pair ↑p).regs, rep := false } o2 y = Except.ok (yr, yi, b2, z)) ∧
        (busesOk [b1, b2] = true) ∧
        ((k, v) ∈
          [(MacKind.mac,
              (cellRead (s.pair ↑p).regs.a ↑an).toInt +
                if BitVec.getLsbD (s.pair ↑p).regs.mode 2 = true then 2 * (xr * yr + xi * yi) else xr * yr + xi * yi),
            (MacKind.msu,
              (cellRead (s.pair ↑p).regs.a ↑an).toInt -
                if BitVec.getLsbD (s.pair ↑p).regs.mode 2 = true then 2 * (xr * yr + xi * yi) else xr * yr + xi * yi),
            (MacKind.mpy,
            if BitVec.getLsbD (s.pair ↑p).regs.mode 2 = true then 2 * (xr * yr + xi * yi) else xr * yr + xi * yi),
            (MacKind.mpyn,
              -if BitVec.getLsbD (s.pair ↑p).regs.mode 2 = true then 2 * (xr * yr + xi * yi) else xr * yr + xi * yi)]) ∧
        ((k, u) ∈
          [(MacKind.mac,
              (cellRead (s.pair ↑p).regs.a (↑an + 1)).toInt +
                if BitVec.getLsbD (s.pair ↑p).regs.mode 2 = true then 2 * (xi * yr - xr * yi) else xi * yr - xr * yi),
            (MacKind.msu,
              (cellRead (s.pair ↑p).regs.a (↑an + 1)).toInt -
                if BitVec.getLsbD (s.pair ↑p).regs.mode 2 = true then 2 * (xi * yr - xr * yi) else xi * yr - xr * yi),
            (MacKind.mpy,
            if BitVec.getLsbD (s.pair ↑p).regs.mode 2 = true then 2 * (xi * yr - xr * yi) else xi * yr - xr * yi),
            (MacKind.mpyn,
              -if BitVec.getLsbD (s.pair ↑p).regs.mode 2 = true then 2 * (xi * yr - xr * yi) else xi * yr - xr * yi)]) ∧
        ((i, k) ∈
          [(Instr.cmacc p sb an o1 o2, MacKind.mac), (Instr.cmsuc p sb an o1 o2, MacKind.msu),
            (Instr.cmpyc p sb an o1 o2, MacKind.mpy), (Instr.cmpync p sb an o1 o2, MacKind.mpyn)])) ∧
      (∃ (s : State) (p : Fin 17),
        Fetches (s.pair ↑p) 1) :=
  ⟨⟨codedRes wraps, 16, false, 0, .reg 0, .reg 2, 2147483647, none, ((codedRes wraps).pair 16), -2147483648, none,
    ((codedRes wraps).pair 16), .mpyn 16 false 0 (.reg 0) (.reg 2), .mpyn, -(2 * (2147483647 * -2147483648) : Int),
      by decide +kernel, by decide +kernel, by decide +kernel, by decide +kernel, by decide +kernel, by decide +kernel⟩,
    ⟨codedRes wraps, 16, 0, 1, .reg 0, .reg 2, .reg 2, .reg 3, 2147483647, none, ((codedRes wraps).pair 16), -2147483648,
      none, ((codedRes wraps).pair 16), -2147483648, none, ((codedRes wraps).pair 16), 35, none, ((codedRes wraps).pair 16),
        .msu, .mac, (2^79-1 : Int) - 2 * (2147483647 * -2147483648), (3 : Int) + 2 * (-2147483648 * 35), by decide +kernel,
          by decide +kernel, by decide +kernel, by decide +kernel, by decide +kernel, by decide +kernel, by decide +kernel,
            by decide +kernel, by decide +kernel⟩,
    ⟨codedRes wraps, 16, true, 0, .reg 0, .reg 2, 2147483647, 1, none, ((codedRes wraps).pair 16), -2147483648, 35, none,
      ((codedRes wraps).pair 16), .mpyn, 9223372032559808582, -146028887994, .cmpyn 16 true 0 (.reg 0) (.reg 2),
        by decide +kernel, by decide +kernel, by decide +kernel, by decide +kernel, by decide +kernel, by decide +kernel,
          by decide +kernel, by decide +kernel⟩,
    ⟨codedRes wraps, 16, true, 0, .reg 0, .reg 2, 2147483647, 1, none, ((codedRes wraps).pair 16), -2147483648, 35, none,
      ((codedRes wraps).pair 16), .mpyn, 9223372032559808442, 154618822586, .cmpync 16 true 0 (.reg 0) (.reg 2),
        by decide +kernel, by decide +kernel, by decide +kernel, by decide +kernel, by decide +kernel, by decide +kernel,
          by decide +kernel, by decide +kernel⟩,
    ⟨codedRes wraps, 16, by decide +kernel⟩⟩

/-- `Obligations.LaneMovesAndControlRegisters`, k = 1, 2, 3, 8, 9, 10. -/
theorem test_witness_LaneMovesAndControlRegisters :
      (∃ (s : State) (p : Fin 17) (sb : Bool) (an : Fin 4) (d : Fin 16) (i : Instr) (n bits : Nat),
        (Fetches (s.pair ↑p) 1) ∧
        ((i, n, bits) ∈ [(Instr.mvad p sb d an, 32, 32), (Instr.mvad64 p sb d an, 0, 64)]) ∧
        (bits = 64 → ↑d % 2 = 0) ∧
        (BitVec.getLsbD (s.pair ↑p).regs.commitPend.mode 0 = false)) ∧
      (∃ (s : State) (p : Fin 17) (sb : Bool) (an : Fin 4) (d : Fin 16) (i : Instr) (n bits req sh : Nat),
        (Fetches (s.pair ↑p) 1) ∧
        ((i, n, bits) ∈ [(Instr.mvad p sb d an, 32, 32), (Instr.mvad64 p sb d an, 0, 64)]) ∧
        (bits = 64 → ↑d % 2 = 0) ∧
        (BitVec.getLsbD (s.pair ↑p).regs.commitPend.mode 0 = true) ∧
        (req ≤ 16) ∧
        (outside bits (rounded (BitVec.getLsbD (s.pair ↑p).regs.mode 1) (cellRead (s.pair ↑p).regs.a ↑an).toInt (n + req)) =
            false ∨
          req = 16) ∧
        (∀ k < req,
          outside bits (rounded (BitVec.getLsbD (s.pair ↑p).regs.mode 1) (cellRead (s.pair ↑p).regs.a ↑an).toInt (n + k)) =
            true) ∧
        (sh = max req (BitVec.toNat (s.pair ↑p).regs.bexp % 32))) ∧
      (∃ (s : State) (p : Fin 17),
        Fetches (s.pair ↑p) 1) ∧
      (∃ (s : State) (p : Fin 17) (imm : Word16) (i m : Fin 8) (k : Instr) (j : Int) (q : Nat),
        (Fetches (s.pair ↑p) 1) ∧
        ((k, j) ∈ [(Instr.modp p i m, (cellRead (s.pair ↑p).regs.m ↑m).toInt), (Instr.modi p i imm, BitVec.toInt imm)]) ∧
        ((s.pair ↑p).regs.reach (↑i) j = some q)) ∧
      (∃ (s : State) (p : Fin 17) (imm : Word16) (i m : Fin 8) (k : Instr) (j : Int) (a : Nat),
        (Fetches (s.pair ↑p) 1) ∧
        ((k, j) ∈ [(Instr.modp p i m, (cellRead (s.pair ↑p).regs.m ↑m).toInt), (Instr.modi p i imm, BitVec.toInt imm)]) ∧
        ((s.pair ↑p).regs.reach (↑i) j = none) ∧
        ((s.pair ↑p).regs.user = true) ∧
        ((s.pair ↑p).userAxis = some a)) ∧
      (∃ (s : State) (p : Fin 17) (imm : Word16) (i m : Fin 8) (k : Instr) (j : Int),
        (Fetches (s.pair ↑p) 1) ∧
        ((k, j) ∈ [(Instr.modp p i m, (cellRead (s.pair ↑p).regs.m ↑m).toInt), (Instr.modi p i imm, BitVec.toInt imm)]) ∧
        ((s.pair ↑p).regs.reach (↑i) j = none) ∧
        ((s.pair ↑p).regs.user = false) ∧
        ((s.pair ↑p).working = true)) :=
  ⟨⟨codedRes wraps, 16, false, 0, 14, .mvad64 16 false 14 0, 0, 64, by decide +kernel⟩,
    ⟨coded userRegs, 0, false, 0, 14, .mvad64 0 false 14 0, 0, 64, 16, 16, by decide +kernel⟩,
    ⟨codedRes wraps, 16, by decide +kernel⟩,
    ⟨codedRes wraps, 16, 0xFFF0, 6, 1, .modi 16 6 0xFFF0, -16, 0xB0FF, by decide +kernel⟩,
    ⟨coded userRegs, 0, 17, 6, 0, .modi 0 6 17, 17, 0, by decide +kernel⟩,
    ⟨coded fwRegs, 0, 17, 6, 0, .modp 0 6 0, 300, by decide +kernel⟩⟩

/-- `Obligations.LaneLoadsAndStores`, k = 1, 2, 3, 4, 5, 6, 7, 9. -/
theorem test_witness_LaneLoadsAndStores_1 :
      (∃ (s : State) (p : Fin 17) (d : Fin 16) (e : Desc) (i : Instr) (a : Nat),
        (Fetches (s.pair ↑p) 1) ∧
        ((match e.mode with
          | DescMode.plain => some ((s.pair ↑p).regs.addr ↑e.ptr, (s.pair ↑p).regs.addr ↑e.ptr)
          | DescMode.postMod k =>
            Option.map (fun q => ((s.pair ↑p).regs.addr ↑e.ptr, q))
              ((s.pair ↑p).regs.reach (↑e.ptr) (cellRead (s.pair ↑p).regs.m ↑k).toInt)
          | DescMode.postConst k =>
            Option.map (fun q => ((s.pair ↑p).regs.addr ↑e.ptr, q))
              ((s.pair ↑p).regs.reach (↑e.ptr) (if ↑k < 4 then ↑↑k - 4 else ↑↑k - 3))
          | DescMode.offset k => Option.map (fun q => (q,
            (s.pair ↑p).regs.addr ↑e.ptr)) ((s.pair ↑p).regs.reach ↑e.ptr ↑↑k)) =
          none) ∧
        (i ∈ [Instr.ld p d e, Instr.st p d e]) ∧
        ((s.pair ↑p).regs.user = true) ∧
        ((s.pair ↑p).userAxis = some a)) ∧
      (∃ (s : State) (p : Fin 17) (d : Fin 16) (e : Desc) (i : Instr),
        (Fetches (s.pair ↑p) 1) ∧
        ((match e.mode with
          | DescMode.plain => some ((s.pair ↑p).regs.addr ↑e.ptr, (s.pair ↑p).regs.addr ↑e.ptr)
          | DescMode.postMod k =>
            Option.map (fun q => ((s.pair ↑p).regs.addr ↑e.ptr, q))
              ((s.pair ↑p).regs.reach (↑e.ptr) (cellRead (s.pair ↑p).regs.m ↑k).toInt)
          | DescMode.postConst k =>
            Option.map (fun q => ((s.pair ↑p).regs.addr ↑e.ptr, q))
              ((s.pair ↑p).regs.reach (↑e.ptr) (if ↑k < 4 then ↑↑k - 4 else ↑↑k - 3))
          | DescMode.offset k => Option.map (fun q => (q,
            (s.pair ↑p).regs.addr ↑e.ptr)) ((s.pair ↑p).regs.reach ↑e.ptr ↑↑k)) =
          none) ∧
        (i ∈ [Instr.ld p d e, Instr.st p d e]) ∧
        ((s.pair ↑p).regs.user = false) ∧
        ((s.pair ↑p).working = true)) ∧
      (∃ (s : State) (p : Fin 17) (d : Fin 16) (e : Desc) (a q : Nat) (i : Instr) (a2 : Nat),
        (Fetches (s.pair ↑p) 1) ∧
        ((match e.mode with
          | DescMode.plain => some ((s.pair ↑p).regs.addr ↑e.ptr, (s.pair ↑p).regs.addr ↑e.ptr)
          | DescMode.postMod k =>
            Option.map (fun q => ((s.pair ↑p).regs.addr ↑e.ptr, q))
              ((s.pair ↑p).regs.reach (↑e.ptr) (cellRead (s.pair ↑p).regs.m ↑k).toInt)
          | DescMode.postConst k =>
            Option.map (fun q => ((s.pair ↑p).regs.addr ↑e.ptr, q))
              ((s.pair ↑p).regs.reach (↑e.ptr) (if ↑k < 4 then ↑↑k - 4 else ↑↑k - 3))
          | DescMode.offset k => Option.map (fun q => (q,
            (s.pair ↑p).regs.addr ↑e.ptr)) ((s.pair ↑p).regs.reach ↑e.ptr ↑↑k)) =
          some (a, q)) ∧
        (region (s.pair ↑p).regs.user false ((s.pair ↑p).regs.space ↑e.ptr) a = Region.unmapped) ∧
        (i ∈ [Instr.ld p d e, Instr.st p d e]) ∧
        ((s.pair ↑p).regs.user = true) ∧
        ((s.pair ↑p).userAxis = some a2)) ∧
      (∃ (s : State) (p : Fin 17) (d : Fin 16) (e : Desc) (a q : Nat) (i : Instr),
        (Fetches (s.pair ↑p) 1) ∧
        ((match e.mode with
          | DescMode.plain => some ((s.pair ↑p).regs.addr ↑e.ptr, (s.pair ↑p).regs.addr ↑e.ptr)
          | DescMode.postMod k =>
            Option.map (fun q => ((s.pair ↑p).regs.addr ↑e.ptr, q))
              ((s.pair ↑p).regs.reach (↑e.ptr) (cellRead (s.pair ↑p).regs.m ↑k).toInt)
          | DescMode.postConst k =>
            Option.map (fun q => ((s.pair ↑p).regs.addr ↑e.ptr, q))
              ((s.pair ↑p).regs.reach (↑e.ptr) (if ↑k < 4 then ↑↑k - 4 else ↑↑k - 3))
          | DescMode.offset k => Option.map (fun q => (q,
            (s.pair ↑p).regs.addr ↑e.ptr)) ((s.pair ↑p).regs.reach ↑e.ptr ↑↑k)) =
          some (a, q)) ∧
        (region (s.pair ↑p).regs.user false ((s.pair ↑p).regs.space ↑e.ptr) a = Region.unmapped) ∧
        (i ∈ [Instr.ld p d e, Instr.st p d e]) ∧
        ((s.pair ↑p).regs.user = false) ∧
        ((s.pair ↑p).working = true)) ∧
      (∃ (s : State) (p : Fin 17) (e : Desc) (a q : Nat),
        (Fetches (s.pair ↑p) 1) ∧
        ((match e.mode with
          | DescMode.plain => some ((s.pair ↑p).regs.addr ↑e.ptr, (s.pair ↑p).regs.addr ↑e.ptr)
          | DescMode.postMod k =>
            Option.map (fun q => ((s.pair ↑p).regs.addr ↑e.ptr, q))
              ((s.pair ↑p).regs.reach (↑e.ptr) (cellRead (s.pair ↑p).regs.m ↑k).toInt)
          | DescMode.postConst k =>
            Option.map (fun q => ((s.pair ↑p).regs.addr ↑e.ptr, q))
              ((s.pair ↑p).regs.reach (↑e.ptr) (if ↑k < 4 then ↑↑k - 4 else ↑↑k - 3))
          | DescMode.offset k => Option.map (fun q => (q,
            (s.pair ↑p).regs.addr ↑e.ptr)) ((s.pair ↑p).regs.reach ↑e.ptr ↑↑k)) =
          some (a, q)) ∧
        (region (s.pair ↑p).regs.user false ((s.pair ↑p).regs.space ↑e.ptr) a = Region.foreign) ∧
        ((s.pair ↑p).regs.user = false) ∧
        ((s.pair ↑p).working = true)) ∧
      (∃ (s : State) (p : Fin 17) (e : Desc) (a q : Nat),
        (Fetches (s.pair ↑p) 1) ∧
        ((match e.mode with
          | DescMode.plain => some ((s.pair ↑p).regs.addr ↑e.ptr, (s.pair ↑p).regs.addr ↑e.ptr)
          | DescMode.postMod k =>
            Option.map (fun q => ((s.pair ↑p).regs.addr ↑e.ptr, q))
              ((s.pair ↑p).regs.reach (↑e.ptr) (cellRead (s.pair ↑p).regs.m ↑k).toInt)
          | DescMode.postConst k =>
            Option.map (fun q => ((s.pair ↑p).regs.addr ↑e.ptr, q))
              ((s.pair ↑p).regs.reach (↑e.ptr) (if ↑k < 4 then ↑↑k - 4 else ↑↑k - 3))
          | DescMode.offset k => Option.map (fun q => (q,
            (s.pair ↑p).regs.addr ↑e.ptr)) ((s.pair ↑p).regs.reach ↑e.ptr ↑↑k)) =
          some (a, q)) ∧
        (region (s.pair ↑p).regs.user false ((s.pair ↑p).regs.space ↑e.ptr) a = Region.foreign)) ∧
      (∃ (s : State) (p : Fin 17) (e : Desc) (a q : Nat),
        (Fetches (s.pair ↑p) 1) ∧
        ((match e.mode with
          | DescMode.plain => some ((s.pair ↑p).regs.addr ↑e.ptr, (s.pair ↑p).regs.addr ↑e.ptr)
          | DescMode.postMod k =>
            Option.map (fun q => ((s.pair ↑p).regs.addr ↑e.ptr, q))
              ((s.pair ↑p).regs.reach (↑e.ptr) (cellRead (s.pair ↑p).regs.m ↑k).toInt)
          | DescMode.postConst k =>
            Option.map (fun q => ((s.pair ↑p).regs.addr ↑e.ptr, q))
              ((s.pair ↑p).regs.reach (↑e.ptr) (if ↑k < 4 then ↑↑k - 4 else ↑↑k - 3))
          | DescMode.offset k => Option.map (fun q => (q,
            (s.pair ↑p).regs.addr ↑e.ptr)) ((s.pair ↑p).regs.reach ↑e.ptr ↑↑k)) =
          some (a, q)) ∧
        (region (s.pair ↑p).regs.user false ((s.pair ↑p).regs.space ↑e.ptr) a = Region.own)) ∧
      (∃ (s : State) (p : Fin 17) (d : Fin 16) (e : Desc) (a q : Nat),
        (Fetches (s.pair ↑p) 1) ∧
        ((match e.mode with
          | DescMode.plain => some ((s.pair ↑p).regs.addr ↑e.ptr, (s.pair ↑p).regs.addr ↑e.ptr)
          | DescMode.postMod k =>
            Option.map (fun q => ((s.pair ↑p).regs.addr ↑e.ptr, q))
              ((s.pair ↑p).regs.reach (↑e.ptr) (cellRead (s.pair ↑p).regs.m ↑k).toInt)
          | DescMode.postConst k =>
            Option.map (fun q => ((s.pair ↑p).regs.addr ↑e.ptr, q))
              ((s.pair ↑p).regs.reach (↑e.ptr) (if ↑k < 4 then ↑↑k - 4 else ↑↑k - 3))
          | DescMode.offset k => Option.map (fun q => (q,
            (s.pair ↑p).regs.addr ↑e.ptr)) ((s.pair ↑p).regs.reach ↑e.ptr ↑↑k)) =
          some (a, q)) ∧
        (region (s.pair ↑p).regs.user false ((s.pair ↑p).regs.space ↑e.ptr) a = Region.own) ∧
        (region (s.pair ↑p).regs.user false ((s.pair ↑p).regs.space ↑e.ptr) (a + 1) = Region.own) ∧
        (a % 2 = 0) ∧
        (↑d % 2 = 0)) :=
  ⟨⟨coded userRegs, 0, 2, ⟨6, .postMod 0⟩, .ld 0 2 ⟨6, .postMod 0⟩, 0, by decide +kernel⟩,
    ⟨coded fwRegs, 0, 2, ⟨6, .postMod 0⟩, .st 0 2 ⟨6, .postMod 0⟩, by decide +kernel⟩,
    ⟨coded userRegs, 0, 2, ⟨0, .plain⟩, 0x100, 0x100, .st 0 2 ⟨0, .plain⟩, 0, by decide +kernel⟩,
    ⟨coded fwRegs, 0, 2, ⟨3, .plain⟩, 0xFFFF, 0xFFFF, .ld 0 2 ⟨3, .plain⟩, by decide +kernel⟩,
    ⟨coded fwRegs, 0, ⟨2, .postConst 7⟩, 0x500, 0x504, by decide +kernel⟩,
    ⟨coded fwRegs, 0, ⟨2, .postConst 0⟩, 0x500, 0x4FC, by decide +kernel⟩,
    ⟨codedRes wraps, 16, ⟨4, .offset 7⟩, 0xB007, 0xB000, by decide +kernel⟩,
    ⟨codedRes wraps, 16, 2, ⟨4, .plain⟩, 0xB000, 0xB000, by decide +kernel⟩⟩

/-- `Obligations.LaneLoadsAndStores`, k = 11, 12, 15, 16, 17. -/
theorem test_witness_LaneLoadsAndStores_2 :
      (∃ (s : State) (p : Fin 17) (d : Fin 16) (e : Desc) (a q a2 : Nat),
        (Fetches (s.pair ↑p) 1) ∧
        ((match e.mode with
          | DescMode.plain => some ((s.pair ↑p).regs.addr ↑e.ptr, (s.pair ↑p).regs.addr ↑e.ptr)
          | DescMode.postMod k =>
            Option.map (fun q => ((s.pair ↑p).regs.addr ↑e.ptr, q))
              ((s.pair ↑p).regs.reach (↑e.ptr) (cellRead (s.pair ↑p).regs.m ↑k).toInt)
          | DescMode.postConst k =>
            Option.map (fun q => ((s.pair ↑p).regs.addr ↑e.ptr, q))
              ((s.pair ↑p).regs.reach (↑e.ptr) (if ↑k < 4 then ↑↑k - 4 else ↑↑k - 3))
          | DescMode.offset k => Option.map (fun q => (q,
            (s.pair ↑p).regs.addr ↑e.ptr)) ((s.pair ↑p).regs.reach ↑e.ptr ↑↑k)) =
          some (a, q)) ∧
        (a % 2 = 1 ∧ ↑d % 2 = 0) ∧
        ((s.pair ↑p).regs.user = true) ∧
        ((s.pair ↑p).userAxis = some a2)) ∧
      (∃ (s : State) (p : Fin 17) (d : Fin 16) (e : Desc) (a q : Nat),
        (Fetches (s.pair ↑p) 1) ∧
        ((match e.mode with
          | DescMode.plain => some ((s.pair ↑p).regs.addr ↑e.ptr, (s.pair ↑p).regs.addr ↑e.ptr)
          | DescMode.postMod k =>
            Option.map (fun q => ((s.pair ↑p).regs.addr ↑e.ptr, q))
              ((s.pair ↑p).regs.reach (↑e.ptr) (cellRead (s.pair ↑p).regs.m ↑k).toInt)
          | DescMode.postConst k =>
            Option.map (fun q => ((s.pair ↑p).regs.addr ↑e.ptr, q))
              ((s.pair ↑p).regs.reach (↑e.ptr) (if ↑k < 4 then ↑↑k - 4 else ↑↑k - 3))
          | DescMode.offset k => Option.map (fun q => (q,
            (s.pair ↑p).regs.addr ↑e.ptr)) ((s.pair ↑p).regs.reach ↑e.ptr ↑↑k)) =
          some (a, q)) ∧
        (a % 2 = 1 ∧ ↑d % 2 = 0) ∧
        ((s.pair ↑p).regs.user = false) ∧
        ((s.pair ↑p).working = true)) ∧
      (∃ (s : State) (p : Fin 17) (d d2 : Fin 16) (e e2 : Desc) (a q a2 q2 : Nat),
        (Fetches (s.pair ↑p) 1) ∧
        ((match e.mode with
          | DescMode.plain => some ((s.pair ↑p).regs.addr ↑e.ptr, (s.pair ↑p).regs.addr ↑e.ptr)
          | DescMode.postMod k =>
            Option.map (fun q => ((s.pair ↑p).regs.addr ↑e.ptr, q))
              ((s.pair ↑p).regs.reach (↑e.ptr) (cellRead (s.pair ↑p).regs.m ↑k).toInt)
          | DescMode.postConst k =>
            Option.map (fun q => ((s.pair ↑p).regs.addr ↑e.ptr, q))
              ((s.pair ↑p).regs.reach (↑e.ptr) (if ↑k < 4 then ↑↑k - 4 else ↑↑k - 3))
          | DescMode.offset k => Option.map (fun q => (q,
            (s.pair ↑p).regs.addr ↑e.ptr)) ((s.pair ↑p).regs.reach ↑e.ptr ↑↑k)) =
          some (a, q)) ∧
        ((match e2.mode with
          | DescMode.plain => some ((s.pair ↑p).regs.addr ↑e2.ptr, (s.pair ↑p).regs.addr ↑e2.ptr)
          | DescMode.postMod k =>
            Option.map (fun q => ((s.pair ↑p).regs.addr ↑e2.ptr, q))
              ((s.pair ↑p).regs.reach (↑e2.ptr) (cellRead (s.pair ↑p).regs.m ↑k).toInt)
          | DescMode.postConst k =>
            Option.map (fun q => ((s.pair ↑p).regs.addr ↑e2.ptr, q))
              ((s.pair ↑p).regs.reach (↑e2.ptr) (if ↑k < 4 then ↑↑k - 4 else ↑↑k - 3))
          | DescMode.offset k =>
            Option.map (fun q => (q, (s.pair ↑p).regs.addr ↑e2.ptr)) ((s.pair ↑p).regs.reach ↑e2.ptr ↑↑k)) =
          some (a2, q2)) ∧
        (region (s.pair ↑p).regs.user false ((s.pair ↑p).regs.space ↑e.ptr) a = Region.own) ∧
        (region (s.pair ↑p).regs.user false ((s.pair ↑p).regs.space ↑e2.ptr) a2 = Region.own) ∧
        (d ≠ d2) ∧
        ((s.pair ↑p).regs.space ↑e.ptr ≠ (s.pair ↑p).regs.space ↑e2.ptr)) ∧
      (∃ (s : State) (p : Fin 17) (d d2 : Fin 16) (e e2 : Desc) (a q a2 q2 a3 : Nat),
        (Fetches (s.pair ↑p) 1) ∧
        ((match e.mode with
          | DescMode.plain => some ((s.pair ↑p).regs.addr ↑e.ptr, (s.pair ↑p).regs.addr ↑e.ptr)
          | DescMode.postMod k =>
            Option.map (fun q => ((s.pair ↑p).regs.addr ↑e.ptr, q))
              ((s.pair ↑p).regs.reach (↑e.ptr) (cellRead (s.pair ↑p).regs.m ↑k).toInt)
          | DescMode.postConst k =>
            Option.map (fun q => ((s.pair ↑p).regs.addr ↑e.ptr, q))
              ((s.pair ↑p).regs.reach (↑e.ptr) (if ↑k < 4 then ↑↑k - 4 else ↑↑k - 3))
          | DescMode.offset k => Option.map (fun q => (q,
            (s.pair ↑p).regs.addr ↑e.ptr)) ((s.pair ↑p).regs.reach ↑e.ptr ↑↑k)) =
          some (a, q)) ∧
        ((match e2.mode with
          | DescMode.plain => some ((s.pair ↑p).regs.addr ↑e2.ptr, (s.pair ↑p).regs.addr ↑e2.ptr)
          | DescMode.postMod k =>
            Option.map (fun q => ((s.pair ↑p).regs.addr ↑e2.ptr, q))
              ((s.pair ↑p).regs.reach (↑e2.ptr) (cellRead (s.pair ↑p).regs.m ↑k).toInt)
          | DescMode.postConst k =>
            Option.map (fun q => ((s.pair ↑p).regs.addr ↑e2.ptr, q))
              ((s.pair ↑p).regs.reach (↑e2.ptr) (if ↑k < 4 then ↑↑k - 4 else ↑↑k - 3))
          | DescMode.offset k =>
            Option.map (fun q => (q, (s.pair ↑p).regs.addr ↑e2.ptr)) ((s.pair ↑p).regs.reach ↑e2.ptr ↑↑k)) =
          some (a2, q2)) ∧
        (region (s.pair ↑p).regs.user false ((s.pair ↑p).regs.space ↑e.ptr) a = Region.own) ∧
        (region (s.pair ↑p).regs.user false ((s.pair ↑p).regs.space ↑e2.ptr) a2 = Region.own) ∧
        (d ≠ d2) ∧
        ((s.pair ↑p).regs.space ↑e.ptr = (s.pair ↑p).regs.space ↑e2.ptr) ∧
        ((s.pair ↑p).regs.user = true) ∧
        ((s.pair ↑p).userAxis = some a3)) ∧
      (∃ (s : State) (p : Fin 17) (d d2 : Fin 16) (e e2 : Desc) (a q a2 q2 : Nat),
        (Fetches (s.pair ↑p) 1) ∧
        ((match e.mode with
          | DescMode.plain => some ((s.pair ↑p).regs.addr ↑e.ptr, (s.pair ↑p).regs.addr ↑e.ptr)
          | DescMode.postMod k =>
            Option.map (fun q => ((s.pair ↑p).regs.addr ↑e.ptr, q))
              ((s.pair ↑p).regs.reach (↑e.ptr) (cellRead (s.pair ↑p).regs.m ↑k).toInt)
          | DescMode.postConst k =>
            Option.map (fun q => ((s.pair ↑p).regs.addr ↑e.ptr, q))
              ((s.pair ↑p).regs.reach (↑e.ptr) (if ↑k < 4 then ↑↑k - 4 else ↑↑k - 3))
          | DescMode.offset k => Option.map (fun q => (q,
            (s.pair ↑p).regs.addr ↑e.ptr)) ((s.pair ↑p).regs.reach ↑e.ptr ↑↑k)) =
          some (a, q)) ∧
        ((match e2.mode with
          | DescMode.plain => some ((s.pair ↑p).regs.addr ↑e2.ptr, (s.pair ↑p).regs.addr ↑e2.ptr)
          | DescMode.postMod k =>
            Option.map (fun q => ((s.pair ↑p).regs.addr ↑e2.ptr, q))
              ((s.pair ↑p).regs.reach (↑e2.ptr) (cellRead (s.pair ↑p).regs.m ↑k).toInt)
          | DescMode.postConst k =>
            Option.map (fun q => ((s.pair ↑p).regs.addr ↑e2.ptr, q))
              ((s.pair ↑p).regs.reach (↑e2.ptr) (if ↑k < 4 then ↑↑k - 4 else ↑↑k - 3))
          | DescMode.offset k =>
            Option.map (fun q => (q, (s.pair ↑p).regs.addr ↑e2.ptr)) ((s.pair ↑p).regs.reach ↑e2.ptr ↑↑k)) =
          some (a2, q2)) ∧
        (region (s.pair ↑p).regs.user false ((s.pair ↑p).regs.space ↑e.ptr) a = Region.own) ∧
        (region (s.pair ↑p).regs.user false ((s.pair ↑p).regs.space ↑e2.ptr) a2 = Region.own) ∧
        (d ≠ d2) ∧
        ((s.pair ↑p).regs.space ↑e.ptr = (s.pair ↑p).regs.space ↑e2.ptr) ∧
        ((s.pair ↑p).regs.user = false) ∧
        ((s.pair ↑p).working = true)) :=
  ⟨⟨coded userRegs, 0, 2, ⟨5, .plain⟩, 0xB101, 0xB101, 0, by decide +kernel⟩,
    ⟨coded fwRegs, 0, 2, ⟨5, .plain⟩, 0xB101, 0xB101, by decide +kernel⟩,
    ⟨codedRes wraps, 16, 2, 4, ⟨4, .plain⟩, ⟨5, .plain⟩, 0xB000, 0xB000, 0xB101, 0xB101, by decide +kernel⟩,
    ⟨coded userRegs, 0, 2, 4, ⟨6, .plain⟩, ⟨5, .plain⟩, 0xB0FF, 0xB0FF, 0xB101, 0xB101, 0, by decide +kernel⟩,
    ⟨coded fwRegs, 0, 2, 4, ⟨6, .plain⟩, ⟨5, .plain⟩, 0xB0FF, 0xB0FF, 0xB101, 0xB101, by decide +kernel⟩⟩

/-- `Obligations.CircularAddressing`, k = 1, 2, 3, 4, 5, 6. -/
theorem test_witness_CircularAddressing :
      (∃ (s : State) (p : Fin 17) (i : Fin 8),
        (Fetches (s.pair ↑p) 1) ∧
        (((cellRead (s.pair ↑p).regs.l ↑i).toNat : Int) = 0)) ∧
      (∃ (s : State) (p : Fin 17) (i : Fin 8) (imm : Word16),
        (Fetches (s.pair ↑p) 1) ∧
        (0 < ((cellRead (s.pair ↑p).regs.l ↑i).toNat : Int)) ∧
        (((cellRead (s.pair ↑p).regs.b ↑i).toNat : Int) ≤ ((s.pair ↑p).regs.addr ↑i : Int) + BitVec.toInt imm) ∧
        (((s.pair ↑p).regs.addr ↑i : Int) + BitVec.toInt imm <
          ((cellRead (s.pair ↑p).regs.b ↑i).toNat : Int) + ((cellRead (s.pair ↑p).regs.l ↑i).toNat : Int))) ∧
      (∃ (s : State) (p : Fin 17) (i : Fin 8) (imm : Word16),
        (Fetches (s.pair ↑p) 1) ∧
        (0 < ((cellRead (s.pair ↑p).regs.l ↑i).toNat : Int)) ∧
        (((cellRead (s.pair ↑p).regs.b ↑i).toNat : Int) + ((cellRead (s.pair ↑p).regs.l ↑i).toNat : Int) ≤
          ((s.pair ↑p).regs.addr ↑i : Int) + BitVec.toInt imm) ∧
        (((s.pair ↑p).regs.addr ↑i : Int) + BitVec.toInt imm <
          ((cellRead (s.pair ↑p).regs.b ↑i).toNat : Int) + 2 * ((cellRead (s.pair ↑p).regs.l ↑i).toNat : Int))) ∧
      (∃ (s : State) (p : Fin 17) (i : Fin 8) (imm : Word16),
        (Fetches (s.pair ↑p) 1) ∧
        (0 < ((cellRead (s.pair ↑p).regs.l ↑i).toNat : Int)) ∧
        (((cellRead (s.pair ↑p).regs.b ↑i).toNat : Int) - ((cellRead (s.pair ↑p).regs.l ↑i).toNat : Int) ≤
          ((s.pair ↑p).regs.addr ↑i : Int) + BitVec.toInt imm) ∧
        (((s.pair ↑p).regs.addr ↑i : Int) + BitVec.toInt imm < ((cellRead (s.pair ↑p).regs.b ↑i).toNat : Int))) ∧
      (∃ (s : State) (p : Fin 17) (i : Fin 8) (imm : Word16) (a : Nat),
        (Fetches (s.pair ↑p) 1) ∧
        (0 < ((cellRead (s.pair ↑p).regs.l ↑i).toNat : Int)) ∧
        (((s.pair ↑p).regs.addr ↑i : Int) + BitVec.toInt imm <
            ((cellRead (s.pair ↑p).regs.b ↑i).toNat : Int) - ((cellRead (s.pair ↑p).regs.l ↑i).toNat : Int) ∨
          ((cellRead (s.pair ↑p).regs.b ↑i).toNat : Int) + 2 * ((cellRead (s.pair ↑p).regs.l ↑i).toNat : Int) ≤
            ((s.pair ↑p).regs.addr ↑i : Int) + BitVec.toInt imm) ∧
        ((s.pair ↑p).regs.user = true) ∧
        ((s.pair ↑p).userAxis = some a)) ∧
      (∃ (s : State) (p : Fin 17) (i : Fin 8) (imm : Word16),
        (Fetches (s.pair ↑p) 1) ∧
        (0 < ((cellRead (s.pair ↑p).regs.l ↑i).toNat : Int)) ∧
        (((s.pair ↑p).regs.addr ↑i : Int) + BitVec.toInt imm <
            ((cellRead (s.pair ↑p).regs.b ↑i).toNat : Int) - ((cellRead (s.pair ↑p).regs.l ↑i).toNat : Int) ∨
          ((cellRead (s.pair ↑p).regs.b ↑i).toNat : Int) + 2 * ((cellRead (s.pair ↑p).regs.l ↑i).toNat : Int) ≤
            ((s.pair ↑p).regs.addr ↑i : Int) + BitVec.toInt imm) ∧
        ((s.pair ↑p).regs.user = false) ∧
        ((s.pair ↑p).working = true)) :=
  ⟨⟨coded fwRegs, 0, 3, by decide +kernel⟩,
    ⟨coded fwRegs, 0, 6, 0, by decide +kernel⟩,
    ⟨coded fwRegs, 0, 6, 1, by decide +kernel⟩,
    ⟨codedRes wraps, 16, 6, 0xFFE1, by decide +kernel⟩,
    ⟨coded userRegs, 0, 6, 17, 0, by decide +kernel⟩,
    ⟨coded fwRegs, 0, 6, 0xFFE0, by decide +kernel⟩⟩

/-- `Obligations.LaneFlow`, k = 1, 3, 5, 6, 7, 8, 9, 10. -/
theorem test_witness_LaneFlow_1 :
      (∃ (s : State) (p : Fin 17),
        Fetches (s.pair ↑p) 1) ∧
      (∃ (s : State) (p : Fin 17) (c : Cond),
        (Fetches (s.pair ↑p) 1) ∧
        ((match c with
          | Cond.always => true
          | Cond.eq => BitVec.getLsbD (s.pair ↑p).regs.flags 0
          | Cond.ne => !BitVec.getLsbD (s.pair ↑p).regs.flags 0
          | Cond.lt => BitVec.getLsbD (s.pair ↑p).regs.flags 1 != BitVec.getLsbD (s.pair ↑p).regs.flags 2
          | Cond.ge => BitVec.getLsbD (s.pair ↑p).regs.flags 1 == BitVec.getLsbD (s.pair ↑p).regs.flags 2
          | Cond.gt =>
            !BitVec.getLsbD (s.pair ↑p).regs.flags 0 &&
              BitVec.getLsbD (s.pair ↑p).regs.flags 1 == BitVec.getLsbD (s.pair ↑p).regs.flags 2
          | Cond.le =>
            BitVec.getLsbD (s.pair ↑p).regs.flags 0 ||
              BitVec.getLsbD (s.pair ↑p).regs.flags 1 != BitVec.getLsbD (s.pair ↑p).regs.flags 2
          | Cond.mi => BitVec.getLsbD (s.pair ↑p).regs.flags 1
          | Cond.pl => !BitVec.getLsbD (s.pair ↑p).regs.flags 1
          | Cond.vs => BitVec.getLsbD (s.pair ↑p).regs.flags 2
          | Cond.vc => !BitVec.getLsbD (s.pair ↑p).regs.flags 2
          | Cond.cs => BitVec.getLsbD (s.pair ↑p).regs.flags 3
          | Cond.cc => !BitVec.getLsbD (s.pair ↑p).regs.flags 3) =
          false)) ∧
      (∃ (s : State) (p : Fin 17) (c : Cond),
        (Fetches (s.pair ↑p) 1) ∧
        ((match c with
          | Cond.always => true
          | Cond.eq => BitVec.getLsbD (s.pair ↑p).regs.flags 0
          | Cond.ne => !BitVec.getLsbD (s.pair ↑p).regs.flags 0
          | Cond.lt => BitVec.getLsbD (s.pair ↑p).regs.flags 1 != BitVec.getLsbD (s.pair ↑p).regs.flags 2
          | Cond.ge => BitVec.getLsbD (s.pair ↑p).regs.flags 1 == BitVec.getLsbD (s.pair ↑p).regs.flags 2
          | Cond.gt =>
            !BitVec.getLsbD (s.pair ↑p).regs.flags 0 &&
              BitVec.getLsbD (s.pair ↑p).regs.flags 1 == BitVec.getLsbD (s.pair ↑p).regs.flags 2
          | Cond.le =>
            BitVec.getLsbD (s.pair ↑p).regs.flags 0 ||
              BitVec.getLsbD (s.pair ↑p).regs.flags 1 != BitVec.getLsbD (s.pair ↑p).regs.flags 2
          | Cond.mi => BitVec.getLsbD (s.pair ↑p).regs.flags 1
          | Cond.pl => !BitVec.getLsbD (s.pair ↑p).regs.flags 1
          | Cond.vs => BitVec.getLsbD (s.pair ↑p).regs.flags 2
          | Cond.vc => !BitVec.getLsbD (s.pair ↑p).regs.flags 2
          | Cond.cs => BitVec.getLsbD (s.pair ↑p).regs.flags 3
          | Cond.cc => !BitVec.getLsbD (s.pair ↑p).regs.flags 3) =
          true) ∧
        ((s.pair ↑p).regs.stack.length < 8)) ∧
      (∃ (s : State) (p : Fin 17) (c : Cond) (a : Nat),
        (Fetches (s.pair ↑p) 1) ∧
        ((match c with
          | Cond.always => true
          | Cond.eq => BitVec.getLsbD (s.pair ↑p).regs.flags 0
          | Cond.ne => !BitVec.getLsbD (s.pair ↑p).regs.flags 0
          | Cond.lt => BitVec.getLsbD (s.pair ↑p).regs.flags 1 != BitVec.getLsbD (s.pair ↑p).regs.flags 2
          | Cond.ge => BitVec.getLsbD (s.pair ↑p).regs.flags 1 == BitVec.getLsbD (s.pair ↑p).regs.flags 2
          | Cond.gt =>
            !BitVec.getLsbD (s.pair ↑p).regs.flags 0 &&
              BitVec.getLsbD (s.pair ↑p).regs.flags 1 == BitVec.getLsbD (s.pair ↑p).regs.flags 2
          | Cond.le =>
            BitVec.getLsbD (s.pair ↑p).regs.flags 0 ||
              BitVec.getLsbD (s.pair ↑p).regs.flags 1 != BitVec.getLsbD (s.pair ↑p).regs.flags 2
          | Cond.mi => BitVec.getLsbD (s.pair ↑p).regs.flags 1
          | Cond.pl => !BitVec.getLsbD (s.pair ↑p).regs.flags 1
          | Cond.vs => BitVec.getLsbD (s.pair ↑p).regs.flags 2
          | Cond.vc => !BitVec.getLsbD (s.pair ↑p).regs.flags 2
          | Cond.cs => BitVec.getLsbD (s.pair ↑p).regs.flags 3
          | Cond.cc => !BitVec.getLsbD (s.pair ↑p).regs.flags 3) =
          true) ∧
        (8 ≤ (s.pair ↑p).regs.stack.length) ∧
        ((s.pair ↑p).regs.user = true) ∧
        ((s.pair ↑p).userAxis = some a)) ∧
      (∃ (s : State) (p : Fin 17) (c : Cond),
        (Fetches (s.pair ↑p) 1) ∧
        ((match c with
          | Cond.always => true
          | Cond.eq => BitVec.getLsbD (s.pair ↑p).regs.flags 0
          | Cond.ne => !BitVec.getLsbD (s.pair ↑p).regs.flags 0
          | Cond.lt => BitVec.getLsbD (s.pair ↑p).regs.flags 1 != BitVec.getLsbD (s.pair ↑p).regs.flags 2
          | Cond.ge => BitVec.getLsbD (s.pair ↑p).regs.flags 1 == BitVec.getLsbD (s.pair ↑p).regs.flags 2
          | Cond.gt =>
            !BitVec.getLsbD (s.pair ↑p).regs.flags 0 &&
              BitVec.getLsbD (s.pair ↑p).regs.flags 1 == BitVec.getLsbD (s.pair ↑p).regs.flags 2
          | Cond.le =>
            BitVec.getLsbD (s.pair ↑p).regs.flags 0 ||
              BitVec.getLsbD (s.pair ↑p).regs.flags 1 != BitVec.getLsbD (s.pair ↑p).regs.flags 2
          | Cond.mi => BitVec.getLsbD (s.pair ↑p).regs.flags 1
          | Cond.pl => !BitVec.getLsbD (s.pair ↑p).regs.flags 1
          | Cond.vs => BitVec.getLsbD (s.pair ↑p).regs.flags 2
          | Cond.vc => !BitVec.getLsbD (s.pair ↑p).regs.flags 2
          | Cond.cs => BitVec.getLsbD (s.pair ↑p).regs.flags 3
          | Cond.cc => !BitVec.getLsbD (s.pair ↑p).regs.flags 3) =
          true) ∧
        (8 ≤ (s.pair ↑p).regs.stack.length) ∧
        ((s.pair ↑p).regs.user = false) ∧
        ((s.pair ↑p).working = true)) ∧
      (∃ (s : State) (p : Fin 17) (c : Cond) (a : Nat) (st : List Nat),
        (Fetches (s.pair ↑p) 1) ∧
        ((match c with
          | Cond.always => true
          | Cond.eq => BitVec.getLsbD (s.pair ↑p).regs.flags 0
          | Cond.ne => !BitVec.getLsbD (s.pair ↑p).regs.flags 0
          | Cond.lt => BitVec.getLsbD (s.pair ↑p).regs.flags 1 != BitVec.getLsbD (s.pair ↑p).regs.flags 2
          | Cond.ge => BitVec.getLsbD (s.pair ↑p).regs.flags 1 == BitVec.getLsbD (s.pair ↑p).regs.flags 2
          | Cond.gt =>
            !BitVec.getLsbD (s.pair ↑p).regs.flags 0 &&
              BitVec.getLsbD (s.pair ↑p).regs.flags 1 == BitVec.getLsbD (s.pair ↑p).regs.flags 2
          | Cond.le =>
            BitVec.getLsbD (s.pair ↑p).regs.flags 0 ||
              BitVec.getLsbD (s.pair ↑p).regs.flags 1 != BitVec.getLsbD (s.pair ↑p).regs.flags 2
          | Cond.mi => BitVec.getLsbD (s.pair ↑p).regs.flags 1
          | Cond.pl => !BitVec.getLsbD (s.pair ↑p).regs.flags 1
          | Cond.vs => BitVec.getLsbD (s.pair ↑p).regs.flags 2
          | Cond.vc => !BitVec.getLsbD (s.pair ↑p).regs.flags 2
          | Cond.cs => BitVec.getLsbD (s.pair ↑p).regs.flags 3
          | Cond.cc => !BitVec.getLsbD (s.pair ↑p).regs.flags 3) =
          true) ∧
        ((s.pair ↑p).regs.stack = a :: st)) ∧
      (∃ (s : State) (p : Fin 17) (c : Cond) (a : Nat),
        (Fetches (s.pair ↑p) 1) ∧
        ((match c with
          | Cond.always => true
          | Cond.eq => BitVec.getLsbD (s.pair ↑p).regs.flags 0
          | Cond.ne => !BitVec.getLsbD (s.pair ↑p).regs.flags 0
          | Cond.lt => BitVec.getLsbD (s.pair ↑p).regs.flags 1 != BitVec.getLsbD (s.pair ↑p).regs.flags 2
          | Cond.ge => BitVec.getLsbD (s.pair ↑p).regs.flags 1 == BitVec.getLsbD (s.pair ↑p).regs.flags 2
          | Cond.gt =>
            !BitVec.getLsbD (s.pair ↑p).regs.flags 0 &&
              BitVec.getLsbD (s.pair ↑p).regs.flags 1 == BitVec.getLsbD (s.pair ↑p).regs.flags 2
          | Cond.le =>
            BitVec.getLsbD (s.pair ↑p).regs.flags 0 ||
              BitVec.getLsbD (s.pair ↑p).regs.flags 1 != BitVec.getLsbD (s.pair ↑p).regs.flags 2
          | Cond.mi => BitVec.getLsbD (s.pair ↑p).regs.flags 1
          | Cond.pl => !BitVec.getLsbD (s.pair ↑p).regs.flags 1
          | Cond.vs => BitVec.getLsbD (s.pair ↑p).regs.flags 2
          | Cond.vc => !BitVec.getLsbD (s.pair ↑p).regs.flags 2
          | Cond.cs => BitVec.getLsbD (s.pair ↑p).regs.flags 3
          | Cond.cc => !BitVec.getLsbD (s.pair ↑p).regs.flags 3) =
          true) ∧
        ((s.pair ↑p).regs.stack = []) ∧
        ((s.pair ↑p).regs.user = true) ∧
        ((s.pair ↑p).userAxis = some a)) ∧
      (∃ (s : State) (p : Fin 17) (c : Cond),
        (Fetches (s.pair ↑p) 1) ∧
        ((match c with
          | Cond.always => true
          | Cond.eq => BitVec.getLsbD (s.pair ↑p).regs.flags 0
          | Cond.ne => !BitVec.getLsbD (s.pair ↑p).regs.flags 0
          | Cond.lt => BitVec.getLsbD (s.pair ↑p).regs.flags 1 != BitVec.getLsbD (s.pair ↑p).regs.flags 2
          | Cond.ge => BitVec.getLsbD (s.pair ↑p).regs.flags 1 == BitVec.getLsbD (s.pair ↑p).regs.flags 2
          | Cond.gt =>
            !BitVec.getLsbD (s.pair ↑p).regs.flags 0 &&
              BitVec.getLsbD (s.pair ↑p).regs.flags 1 == BitVec.getLsbD (s.pair ↑p).regs.flags 2
          | Cond.le =>
            BitVec.getLsbD (s.pair ↑p).regs.flags 0 ||
              BitVec.getLsbD (s.pair ↑p).regs.flags 1 != BitVec.getLsbD (s.pair ↑p).regs.flags 2
          | Cond.mi => BitVec.getLsbD (s.pair ↑p).regs.flags 1
          | Cond.pl => !BitVec.getLsbD (s.pair ↑p).regs.flags 1
          | Cond.vs => BitVec.getLsbD (s.pair ↑p).regs.flags 2
          | Cond.vc => !BitVec.getLsbD (s.pair ↑p).regs.flags 2
          | Cond.cs => BitVec.getLsbD (s.pair ↑p).regs.flags 3
          | Cond.cc => !BitVec.getLsbD (s.pair ↑p).regs.flags 3) =
          true) ∧
        ((s.pair ↑p).regs.stack = []) ∧
        ((s.pair ↑p).regs.user = false) ∧
        ((s.pair ↑p).working = true)) :=
  ⟨⟨codedRes wraps, 16, by decide +kernel⟩,
    ⟨codedRes wraps, 16, .eq, by decide +kernel⟩,
    ⟨codedRes wraps, 16, .ne, by decide +kernel⟩,
    ⟨coded loopedUser, 0, .always, 0, by decide +kernel⟩,
    ⟨coded looped, 0, .always, by decide +kernel⟩,
    ⟨coded looped, 0, .pl, 0x200, List.replicate 7 0x200, by decide +kernel⟩,
    ⟨coded userRegs, 0, .always, 0, by decide +kernel⟩,
    ⟨coded fwRegs, 0, .always, by decide +kernel⟩⟩

/-- `Obligations.LaneFlow`, k = 11, 12, 13, 14, 15, 17, 18. -/
theorem test_witness_LaneFlow_2 :
      (∃ (s : State) (p : Fin 17) (n : BitVec 11),
        (Fetches (s.pair ↑p) 1) ∧
        (1 ≤ n.toNat) ∧
        (n.toNat ≤ 1024)) ∧
      (∃ (s : State) (p : Fin 17) (n : BitVec 11) (a : Nat),
        (Fetches (s.pair ↑p) 1) ∧
        (n.toNat = 0 ∨ 1024 < n.toNat) ∧
        ((s.pair ↑p).regs.user = true) ∧
        ((s.pair ↑p).userAxis = some a)) ∧
      (∃ (s : State) (p : Fin 17) (n : BitVec 11),
        (Fetches (s.pair ↑p) 1) ∧
        (n.toNat = 0 ∨ 1024 < n.toNat) ∧
        ((s.pair ↑p).regs.user = false) ∧
        ((s.pair ↑p).working = true)) ∧
      (∃ (s : State) (p : Fin 17),
        (Fetches (s.pair ↑p) 1) ∧
        ((s.pair ↑p).regs.user = false)) ∧
      (∃ (s : State) (p : Fin 17) (a : Nat),
        (Fetches (s.pair ↑p) 1) ∧
        ((s.pair ↑p).regs.user = true) ∧
        ((s.pair ↑p).userAxis = some a)) ∧
      (∃ (s : State) (p : Fin 17),
        (Fetches (s.pair ↑p) 1) ∧
        ((s.pair ↑p).regs.user = false) ∧
        ((s.pair ↑p).working = true)) ∧
      (∃ (s : State) (p : Fin 17) (k : Nat),
        ((s.pair ↑p).issues = true) ∧
        ((s.pair ↑p).events = []) ∧
        ((s.pair ↑p).regs.pc < 32768) ∧
        ((s.pair ↑p).regs.rpt = some k) ∧
        (1 ≤ k) ∧
        (k ≤ 1024) ∧
        ((s.pair ↑p).regs.user = false) ∧
        (BitVec.getLsbD (s.pair ↑p).regs.mode 0 = false) ∧
        (cellsWf (s.pair ↑p).regs.d = true) ∧
        ((s.pair ↑p).regs.pendC = [])) :=
  ⟨⟨codedRes wraps, 16, 1024, by decide +kernel⟩,
    ⟨coded userRegs, 0, 1025, 0, by decide +kernel⟩,
    ⟨coded fwRegs, 0, 0, by decide +kernel⟩,
    ⟨coded fwRegs, 0, by decide +kernel⟩,
    ⟨coded userRegs, 0, 0, by decide +kernel⟩,
    ⟨coded fwRegs, 0, by decide +kernel⟩,
    ⟨coded repeating, 0, 1024, by decide +kernel⟩⟩

/-- `Obligations.PortsAndComparesFollowTheirEdges`, k = 1, 2, 3, 4, 5, 6, 7, 8. -/
theorem test_witness_PortsAndComparesFollowTheirEdges_1 :
      (∃ (s : State) (p : Fin 16) (a b : Bool) (run : Nat),
        (s.portMode ↑p = pmQuad) ∧
        (a ≠ (s.port ↑p).aF) ∧
        (b = (s.port ↑p).bF) ∧
        (s.pU 16386 (s.portIx ↑p) ≤ run)) ∧
      (∃ (s : State) (p : Fin 16) (run run2 : Nat),
        (s.portMode ↑p = pmQuad) ∧
        (run < s.pU 16386 (s.portIx ↑p)) ∧
        (run2 < s.pU 16386 (s.portIx ↑p))) ∧
      (∃ (s : State) (p : Fin 16) (a b : Bool) (run : Nat),
        (s.portMode ↑p = pmQuad) ∧
        (a = (s.port ↑p).aF) ∧
        (b ≠ (s.port ↑p).bF) ∧
        (s.pU 16386 (s.portIx ↑p) ≤ run)) ∧
      (∃ (s : State) (p : Fin 16) (a b : Bool) (run run2 n : Nat),
        (s.portMode ↑p = pmQuad) ∧
        (a ≠ (s.port ↑p).aF) ∧
        (b ≠ (s.port ↑p).bF) ∧
        (s.pU 16386 (s.portIx ↑p) ≤ run2) ∧
        (run2 < run) ∧
        ((run - s.pU 16386 (s.portIx ↑p)) * 5 ≤ n)) ∧
      (∃ (s : State) (p : Fin 16) (a b : Bool) (run : Nat),
        (s.portMode ↑p = pmQuad) ∧
        (a ≠ (s.port ↑p).aF) ∧
        (b ≠ (s.port ↑p).bF) ∧
        (s.pU 16386 (s.portIx ↑p) ≤ run) ∧
        (s.pU 16391 (s.portIx ↑p) = 0) ∧
        (¬(s.pU 16387 (s.portIx ↑p) = 1 ∧
            (s.port ↑p).dirKnown = true ∧
              0 < (s.port ↑p).interval ∧ (s.port ↑p).interval < max 80 (20 * (s.pU 16386 (s.portIx ↑p) + 1))))) ∧
      (∃ (s : State) (p : Fin 16) (a b : Bool) (run : Nat),
        (s.portMode ↑p = pmQuad) ∧
        (a ≠ (s.port ↑p).aF) ∧
        (b ≠ (s.port ↑p).bF) ∧
        (s.pU 16386 (s.portIx ↑p) ≤ run) ∧
        (s.pU 16387 (s.portIx ↑p) = 1 ∧
          (s.port ↑p).dirKnown = true ∧
            0 < (s.port ↑p).interval ∧ (s.port ↑p).interval < max 80 (20 * (s.pU 16386 (s.portIx ↑p) + 1)))) ∧
      (∃ (s : State) (p : Fin 16) (a b : Bool) (run n : Nat),
        (s.portMode ↑p = pmPulse) ∧
        (a ≠ (s.port ↑p).aF) ∧
        (b = (s.port ↑p).bF) ∧
        (s.pU 16386 (s.portIx ↑p) ≤ run) ∧
        ((s.port ↑p).bEdgeNs = 0 ∨
          (s.pU 16386 (s.portIx ↑p) + 1) * 5 ≤ s.now + (n - (run - s.pU 16386 (s.portIx ↑p)) * 5) - (s.port ↑p).bEdgeNs)) ∧
      (∃ (s : State) (p : Fin 16) (run n : Nat),
        (s.portMode ↑p = pmQuad ∨ s.portMode ↑p = pmPulse) ∧
        (s.pU 16388 (s.portIx ↑p) = 1 → (s.port ↑p).aF = true ∧ (s.port ↑p).bF = true) ∧
        (s.pU 16386 (s.portIx ↑p) ≤ run) ∧
        ((s.port ↑p).zEdgeNs = 0 ∨
          s.pU 16386 (s.portIx ↑p) * 10 ≤ s.now + (n - (run - s.pU 16386 (s.portIx ↑p)) * 5) - (s.port ↑p).zEdgeNs)) :=
  ⟨⟨ported pmQuad { count := -1, aF := true } [(0x4002, 3)], 15, false, false, 3, by decide +kernel⟩,
    ⟨ported pmQuad { count := -1, aF := true } [(0x4002, 3)], 15, 2, 2, by decide +kernel⟩,
    ⟨ported pmQuad { count := -1, aF := true } [(0x4002, 3)], 15, true, true, 3, by decide +kernel⟩,
    ⟨ported pmQuad {} [(0x4002, 3)], 15, true, true, 4, 3, 400, by decide +kernel⟩,
    ⟨ported pmQuad {} [(0x4007, 0), (0x4003, 0)], 15, true, true, 20, by decide +kernel⟩,
    ⟨ported pmQuad { dirKnown := true, interval := 79 } [(0x4003, 1), (0x4002, 3)], 15, true, true, 3, by decide +kernel⟩,
    ⟨ported pmPulse { bF := true, bEdgeNs := 3125000 } [(0x4002, 3)], 15, true, true, 3, 20, by decide +kernel⟩,
    ⟨ported pmPulse { latch := some (3, ⟨0, 5⟩), zEdgeNs := 3124990, idxNew := true } [(0x4002, 3)], 15, 3, 20,
      by decide +kernel⟩⟩

/-- `Obligations.PortsAndComparesFollowTheirEdges`, k = 9, 10, 11, 12, 13, 14, 15, 16. -/
theorem test_witness_PortsAndComparesFollowTheirEdges_2 :
      (∃ (s : State) (p : Fin 16) (run n : Nat),
        (s.portMode ↑p = pmQuad ∨ s.portMode ↑p = pmPulse) ∧
        (s.pU 16388 (s.portIx ↑p) = 1 → (s.port ↑p).aF = true ∧ (s.port ↑p).bF = true) ∧
        (run < s.pU 16386 (s.portIx ↑p) ∨
          (s.port ↑p).zEdgeNs ≠ 0 ∧
            s.now + (n - (run - s.pU 16386 (s.portIx ↑p)) * 5) - (s.port ↑p).zEdgeNs < s.pU 16386 (s.portIx ↑p) * 10)) ∧
      (∃ (s : State) (p : Fin 16) (w : SsiWord),
        (s.portMode ↑p = pmSsi) ∧
        (w.idleHighAtT0 = false)) ∧
      (∃ (s : State) (p : Fin 16) (w : SsiWord),
        (s.portMode ↑p = pmSsi) ∧
        (w.idleHighAtT0 = true) ∧
        ((s.port ↑p).badNext = false) ∧
        (s.pU 16402 (s.portIx ↑p) ≠ 0) ∧
        (s.pU 16403 (s.portIx ↑p) ≠ 0 →
          ((w.bits.toNat %
                    2 ^
                      ((s.pU 16401 (s.portIx ↑p) + if s.pU 16403 (s.portIx ↑p) = 0 then 0 else 1) +
                        if s.pU 16404 (s.portIx ↑p) = 0 then 0
                        else if s.pU 16404 (s.portIx ↑p) = 3 then s.pU 16405 (s.portIx ↑p) else 1) /
                  2 ^
                    if s.pU 16404 (s.portIx ↑p) = 0 then 0
                    else if s.pU 16404 (s.portIx ↑p) = 3 then s.pU 16405 (s.portIx ↑p) else 1) %
                2 =
              1 ↔
            s.pU 16403 (s.portIx ↑p) ≠ 1)) ∧
        (s.pU 16404 (s.portIx ↑p) = 0) ∧
        (w.highAfterTimeout = true)) ∧
      (∃ (s : State) (p : Fin 16) (w : SsiWord),
        (s.portMode ↑p = pmSsi) ∧
        (w.idleHighAtT0 = true) ∧
        ((s.port ↑p).badNext = false) ∧
        (s.pU 16402 (s.portIx ↑p) ≠ 0) ∧
        (s.pU 16403 (s.portIx ↑p) ≠ 0 →
          ((w.bits.toNat %
                    2 ^
                      ((s.pU 16401 (s.portIx ↑p) + if s.pU 16403 (s.portIx ↑p) = 0 then 0 else 1) +
                        if s.pU 16404 (s.portIx ↑p) = 0 then 0
                        else if s.pU 16404 (s.portIx ↑p) = 3 then s.pU 16405 (s.portIx ↑p) else 1) /
                  2 ^
                    if s.pU 16404 (s.portIx ↑p) = 0 then 0
                    else if s.pU 16404 (s.portIx ↑p) = 3 then s.pU 16405 (s.portIx ↑p) else 1) %
                2 =
              1 ↔
            s.pU 16403 (s.portIx ↑p) ≠ 1)) ∧
        (s.pU 16404 (s.portIx ↑p) = 0) ∧
        (w.highAfterTimeout = false)) ∧
      (∃ (s : State) (p : Fin 16) (r : OchreResp) (w : BitVec 64),
        (s.portMode ↑p = pmOchre) ∧
        (r.start ≤ 2000) ∧
        (ochreRateOk r.bitPs = true) ∧
        (r.line.length * r.bitPs ≤ 12000000) ∧
        (r.line =
          [false, false, false, true, true, true] ++
              List.flatMap (fun k => [!w.getLsbD (63 - k), w.getLsbD (63 - k)]) (upTo 64) ++
            [true, true]) ∧
        (crcNorm 16 4129 65535 (ochreBytes w.toNat) = w.toNat % 2 ^ 16) ∧
        (w.getLsbD 23 = false) ∧
        (w.getLsbD 22 = false) ∧
        ((s.port ↑p).request ≠ 60)) ∧
      (∃ (s : State) (p : Fin 16) (r : OchreResp) (w : BitVec 64),
        (s.portMode ↑p = pmOchre) ∧
        (r.start ≤ 2000) ∧
        (ochreRateOk r.bitPs = true) ∧
        (r.line.length * r.bitPs ≤ 12000000) ∧
        (r.line =
          [false, false, false, true, true, true] ++
              List.flatMap (fun k => [!w.getLsbD (63 - k), w.getLsbD (63 - k)]) (upTo 64) ++
            [true, true]) ∧
        (crcNorm 16 4129 65535 (ochreBytes w.toNat) = w.toNat % 2 ^ 16) ∧
        (w.getLsbD 23 = false) ∧
        (w.getLsbD 22 = false) ∧
        ((s.port ↑p).request = 60)) ∧
      (∃ (s : State) (p : Fin 16) (r : OchreResp) (w : BitVec 64),
        (s.portMode ↑p = pmOchre) ∧
        (r.start ≤ 2000) ∧
        (ochreRateOk r.bitPs = true) ∧
        (r.line.length * r.bitPs ≤ 12000000) ∧
        (r.line =
          [false, false, false, true, true, true] ++
              List.flatMap (fun k => [!w.getLsbD (63 - k), w.getLsbD (63 - k)]) (upTo 64) ++
            [true, true]) ∧
        (crcNorm 16 4129 65535 (ochreBytes w.toNat) = w.toNat % 2 ^ 16) ∧
        (w.getLsbD 23 = true) ∧
        (w.getLsbD 22 = false) ∧
        ((s.port ↑p).request ≠ 60)) ∧
      (∃ (s : State) (p : Fin 16) (r : OchreResp) (w : BitVec 64),
        (s.portMode ↑p = pmOchre) ∧
        (r.start ≤ 2000) ∧
        (ochreRateOk r.bitPs = true) ∧
        (r.line.length * r.bitPs ≤ 12000000) ∧
        (r.line =
          [false, false, false, true, true, true] ++
              List.flatMap (fun k => [!w.getLsbD (63 - k), w.getLsbD (63 - k)]) (upTo 64) ++
            [true, true]) ∧
        (¬crcNorm 16 4129 65535 (ochreBytes w.toNat) = w.toNat % 2 ^ 16) ∧
        ((s.port ↑p).request ≠ 60)) :=
  ⟨⟨ported pmPulse {} [(0x4002, 3)], 15, 2, 20, by decide +kernel⟩,
    ⟨ported pmSsi {} [], 15, { ssi0 with idleHighAtT0 := false }, by decide +kernel⟩,
    ⟨ported pmSsi {} [(0x4011, 12), (0x4012, 12)], 15, ssi0, by decide +kernel⟩,
    ⟨ported pmSsi {} [(0x4011, 12), (0x4012, 12)], 15, { ssi0 with highAfterTimeout := false }, by decide +kernel⟩,
    ⟨ported pmOchre { warn := true } [], 15, ochreOf (ochreWordOf 5), ochreWordOf 5, by decide +kernel⟩,
    ⟨ported pmOchre { request := 0x3C, identLeft := 1 } [], 15, ochreOf (ochreWordOf 5), ochreWordOf 5, by decide +kernel⟩,
    ⟨ported pmOchre {} [], 15, ochreOf (ochreWordOf 0x83), ochreWordOf 0x83, by decide +kernel⟩,
    ⟨ported pmOchre {} [], 15, ochreOf (ochreWordOf 1 + 1), ochreWordOf 1 + 1, by decide +kernel⟩⟩

/-- `Obligations.PortsAndComparesFollowTheirEdges`, k = 17, 18, 19, 20, 21, 22, 23, 24. -/
theorem test_witness_PortsAndComparesFollowTheirEdges_3 :
      (∃ (s : State) (p : Fin 16),
        (s.portMode ↑p = pmOchre) ∧
        ((s.port ↑p).request ≠ 60)) ∧
      (∃ (s : State) (p : Fin 16),
        s.portMode ↑p = pmOchre) ∧
      (∃ (s : State) (p : Fin 16) (c : Instr),
        (s.portMode ↑p = pmOff) ∧
        (c ∈ [Instr.ochreNoResponse p, Instr.ochreRequest p])) ∧
      (∃ (s : State) (p : Fin 16) (a b : Bool) (run run2 n : Nat) (c : Instr),
        (s.portMode ↑p = pmOff) ∧
        (c ∈ [Instr.quadEdge p a b ⟨run, run2, n⟩, Instr.pulseStep p a b ⟨run, run2, n⟩, Instr.portIndexEvent p ⟨run, n⟩])) ∧
      (∃ (s : State) (k : Fin 16) (e : Int),
        (s.cmpMode ↑k ≠ 0) ∧
        (refClass (s.cmpSrc ↑k) = clsPort) ∧
        (s.cmpEntry (↑k) (s.cmp ↑k).ptr (s.cmp ↑k).k = some e) ∧
        (¬if s.pU 16450 (s.cmpIx ↑k) = 1 then (s.port (refIndex (s.cmpSrc ↑k) % 16)).count ≤ e
          else e ≤ (s.port (refIndex (s.cmpSrc ↑k) % 16)).count)) ∧
      (∃ (s : State) (k : Fin 16) (e : Int),
        (s.cmpMode ↑k ≠ 0) ∧
        (refClass (s.cmpSrc ↑k) = clsPort) ∧
        (s.cmpEntry (↑k) (s.cmp ↑k).ptr (s.cmp ↑k).k = some e) ∧
        (if s.pU 16450 (s.cmpIx ↑k) = 1 then (s.port (refIndex (s.cmpSrc ↑k) % 16)).count ≤ e
        else e ≤ (s.port (refIndex (s.cmpSrc ↑k) % 16)).count) ∧
        (s.cmpMode ↑k = 1 → (s.cmp ↑k).list.getLast? ≠ some e)) ∧
      (∃ (s : State) (k : Fin 16) (e : Int),
        (s.cmpMode ↑k ≠ 0) ∧
        (refClass (s.cmpSrc ↑k) = clsPort) ∧
        (s.cmpEntry (↑k) (s.cmp ↑k).ptr (s.cmp ↑k).k = some e) ∧
        (if s.pU 16450 (s.cmpIx ↑k) = 1 then (s.port (refIndex (s.cmpSrc ↑k) % 16)).count ≤ e
        else e ≤ (s.port (refIndex (s.cmpSrc ↑k) % 16)).count) ∧
        (s.cmpMode ↑k = 1) ∧
        ((s.cmp ↑k).list.getLast? = some e) ∧
        ((s.cmp ↑k).active = false)) ∧
      (∃ (s : State) (k : Fin 16) (n at_ : Nat) (e : Int) (rest : List (Nat × Int)),
        (s.cmpMode ↑k ≠ 0) ∧
        ((s.cmp ↑k).armedFires = (at_, e) :: rest) ∧
        (s.cmpMode ↑k = 1 → (s.cmp ↑k).list.getLast? ≠ some e) ∧
        (at_ ≤ s.now + n)) :=
  ⟨⟨ported pmOchre {} [], 15, by decide +kernel⟩,
    ⟨ported pmOchre {} [], 15, by decide +kernel⟩,
    ⟨ported pmOff {} [], 15, .ochreRequest 15, by decide +kernel⟩,
    ⟨ported pmOff {} [], 15, true, true, 0, 0, 20, .quadEdge 15 true true ⟨0, 0, 20⟩, by decide +kernel⟩,
    ⟨compared 1 { list := [8] }, 15, 8, by decide +kernel⟩,
    ⟨compared 2 { list := [7] }, 15, 7, by decide +kernel⟩,
    ⟨compared 1 { list := [7] }, 15, 7, by decide +kernel⟩,
    ⟨compared 1 { list := [7, 9], armedFires := [(3125005, 7)] }, 15, 5, 3125005, 7, [], by decide +kernel⟩⟩

/-- `Obligations.PortsAndComparesFollowTheirEdges`, k = 25, 26, 27. -/
theorem test_witness_PortsAndComparesFollowTheirEdges_4 :
      (∃ (s : State) (k : Fin 16) (n at_ : Nat) (e : Int) (rest : List (Nat × Int)),
        (s.cmpMode ↑k ≠ 0) ∧
        ((s.cmp ↑k).armedFires = (at_, e) :: rest) ∧
        (s.cmpMode ↑k = 1 → (s.cmp ↑k).list.getLast? ≠ some e) ∧
        (s.now + n < at_)) ∧
      (∃ (s : State) (k : Fin 16) (n : Nat),
        (s.cmpMode ↑k ≠ 0) ∧
        ((s.cmp ↑k).active = true) ∧
        ((s.cmp ↑k).pulseEnd ≤ s.now + n)) ∧
      (∃ (s : State) (k : Fin 16) (n : Nat),
        (s.cmpMode ↑k ≠ 0) ∧
        (s.now + n < (s.cmp ↑k).pulseEnd)) :=
  ⟨⟨compared 1 { list := [7, 9], armedFires := [(3125006, 7)] }, 15, 5, 3125006, 7, [], by decide +kernel⟩,
    ⟨compared 1 { active := true, pulseEnd := 3125005 }, 15, 5, by decide +kernel⟩,
    ⟨compared 1 { active := true, pulseEnd := 3125006 }, 15, 5, by decide +kernel⟩⟩

/-- `Obligations.SafetyInputsAndTestPulses`, k = 1, 2, 3, 4, 5, 6, 7, 8. -/
theorem test_witness_SafetyInputsAndTestPulses_1 :
      (∃ (s : State) (i : Fin 32) (c : Chan) (r : InputRec) (n : Nat) (level : Bool),
        (s.inputRec ↑i = some r) ∧
        ((match c with
            | Chan.A => (s.input ↑i).maskA
            | Chan.B => (s.input ↑i).maskB) =
            true ∨
          (level =
              match c with
              | Chan.A => (s.input ↑i).aQ
              | Chan.B => (s.input ↑i).bQ) ∨
            s.islandAlive
                  (match c with
                  | Chan.A => Island.madder
                  | Chan.B => Island.woad) =
                false ∨
              (s.now + n -
                        match c with
                        | Chan.A => (s.input ↑i).qualA
                        | Chan.B => (s.input ↑i).qualB) +
                      20 +
                    r.filter * 20 / 10000 <
                  r.filter * 20 ∨
                (s.now + n -
                        match c with
                        | Chan.A => (s.input ↑i).openA
                        | Chan.B => (s.input ↑i).openB) +
                      20 +
                    r.filter * 20 / 10000 <
                  r.filter * 20)) ∧
      (∃ (s : State) (i : Fin 32) (c : Chan) (r : InputRec) (n : Nat) (level : Bool),
        (s.inputRec ↑i = some r) ∧
        ((match c with
            | Chan.A => (s.input ↑i).maskA
            | Chan.B => (s.input ↑i).maskB) =
            false ∧
          (r.filter * 20 ≤
              s.now + n -
                match c with
                | Chan.A => (s.input ↑i).qualA
                | Chan.B => (s.input ↑i).qualB) ∧
            r.filter * 20 ≤
              s.now + n -
                match c with
                | Chan.A => (s.input ↑i).openA
                | Chan.B => (s.input ↑i).openB) ∧
        (level ≠
          match c with
          | Chan.A => (s.input ↑i).aQ
          | Chan.B => (s.input ↑i).bQ) ∧
        (s.chanAlive c = true) ∧
        (match c with
        | Chan.A => level = false
        | Chan.B => level = r.antival)) ∧
      (∃ (s : State) (i : Fin 32) (c : Chan) (r : InputRec) (n : Nat) (level : Bool),
        (s.inputRec ↑i = some r) ∧
        ((match c with
            | Chan.A => (s.input ↑i).maskA
            | Chan.B => (s.input ↑i).maskB) =
            false ∧
          (r.filter * 20 ≤
              s.now + n -
                match c with
                | Chan.A => (s.input ↑i).qualA
                | Chan.B => (s.input ↑i).qualB) ∧
            r.filter * 20 ≤
              s.now + n -
                match c with
                | Chan.A => (s.input ↑i).openA
                | Chan.B => (s.input ↑i).openB) ∧
        (level ≠
          match c with
          | Chan.A => (s.input ↑i).aQ
          | Chan.B => (s.input ↑i).bQ) ∧
        (s.chanAlive Chan.A = true) ∧
        (s.chanAlive Chan.B = true) ∧
        ((s.input ↑i).discFault = false) ∧
        ((s.input ↑i).tpFault = false) ∧
        (match c with
        | Chan.A => level = true ∧ (s.input ↑i).bDem r.antival = false
        | Chan.B => level ≠ r.antival ∧ (s.input ↑i).aDem = false) ∧
        (s.now + n < (s.input ↑i).runStart.getD (s.now + n) + discNs r)) ∧
      (∃ (s : State) (i : Fin 32) (r : InputRec) (n start : Nat),
        (s.inputRec ↑i = some r) ∧
        ((s.input ↑i).runStart = some start) ∧
        ((s.input ↑i).discFault = false) ∧
        ((s.indications ↑i).1 ≠ (s.indications ↑i).2) ∧
        (start + discNs r ≤ s.now + n)) ∧
      (∃ (s : State) (i : Fin 32) (r : InputRec) (n : Nat) (tp : Fin 8) (y : TestRec),
        (s.inputRec ↑i = some r) ∧
        (s.testRec ↑tp = some y) ∧
        (s.islandAlive (tpIsland ↑tp) = true) ∧
        (r ∈ s.safety.img.inputs) ∧
        (((s.timeAt n).sec * 1000000000 + (s.timeAt n).ns) % (y.period * 1000000) = y.tp * (y.period * 125000))) ∧
      (∃ (s : State) (i : Fin 32) (r : InputRec) (n : Nat) (tp : Fin 8) (y : TestRec),
        (s.inputRec ↑i = some r) ∧
        (s.testRec ↑tp = some y) ∧
        (s.islandAlive (tpIsland ↑tp) = true) ∧
        (r ∈ s.safety.img.inputs) ∧
        (¬((s.timeAt n).sec * 1000000000 + (s.timeAt n).ns) % (y.period * 1000000) = y.tp * (y.period * 125000))) ∧
      (∃ (s : State) (i : Fin 32) (r : InputRec),
        (s.inputRec ↑i = some r) ∧
        (r ∈ s.safety.img.inputs)) ∧
      (∃ (s : State) (i : Fin 32) (r : InputRec) (n : Nat) (tp : Fin 8) (y : TestRec),
        (s.inputRec ↑i = some r) ∧
        (s.testRec ↑tp = some y) ∧
        ((s.tp ↑tp).low = true) ∧
        (s.now + n - (s.tp ↑tp).startNs + 20 + (y.width + y.tail) * 1000 / 10000 < (y.width + y.tail) * 1000)) :=
  ⟨⟨sensing { aQ := true, qualA := 3124900 }, 31, .A, safeIn, 5, false, by decide +kernel⟩,
    ⟨sensing { bQ := false }, 31, .B, safeIn, 5, true, by decide +kernel⟩,
    ⟨sensing { aQ := true, bQ := true }, 31, .B, safeIn, 5, false, by decide +kernel⟩,
    ⟨sensing { runStart := some 2125005 }, 31, safeIn, 5, 2125005, by decide +kernel⟩,
    ⟨onPulse, 31, safeIn, 5, 7, ⟨7, 100, 100, 0, 0⟩, by decide +kernel⟩,
    ⟨sensing { aQ := true }, 31, safeIn, 5, 7, ⟨7, 100, 100, 0, 0⟩, by decide +kernel⟩,
    ⟨sensing { aQ := true }, 31, safeIn, by decide +kernel⟩,
    ⟨pulsing 3025036, 31, safeIn, 5, 7, ⟨7, 100, 100, 0, 0⟩, by decide +kernel⟩⟩

/-- `Obligations.SafetyInputsAndTestPulses`, k = 9, 10. -/
theorem test_witness_SafetyInputsAndTestPulses_2 :
      (∃ (s : State) (i : Fin 32) (r : InputRec) (n : Nat) (tp : Fin 8),
        (s.inputRec ↑i = some r) ∧
        ((s.tp ↑tp).low = true) ∧
        (∀ (y : TestRec), s.testRec ↑tp = some y → (y.width + y.tail) * 1000 ≤ s.now + n - (s.tp ↑tp).startNs) ∧
        (r ∈ s.safety.img.inputs)) ∧
      (∃ (s : State) (i : Fin 32) (r : InputRec) (n : Nat) (tp : Fin 8) (o : PulseObs) (k : Nat),
        (s.inputRec ↑i = some r) ∧
        ((s.tp ↑tp).low = true) ∧
        (∀ (y : TestRec), s.testRec ↑tp = some y → (y.width + y.tail) * 1000 ≤ s.now + n - (s.tp ↑tp).startNs) ∧
        (r ∈ s.safety.img.inputs) ∧
        (o.input = i) ∧
        (s.chanAlive o.chan = true) ∧
        ((match o.chan with
              | Chan.A => (s.tp ↑tp).beforeA
              | Chan.B => (s.tp ↑tp).beforeB).contains
            ↑i =
          true) ∧
        (k = 1 ∧
            (match o.chan with
              | Chan.A => r.tpA = ↑tp
              | Chan.B => r.tpB = ↑tp) ∧
              o.anyHigh = true ∨
          k = 2 ∧
            (match o.chan with
              | Chan.A => r.tpA ≠ ↑tp ∧ (s.input ↑i).aQ = true
              | Chan.B => r.tpB ≠ ↑tp ∧ (s.input ↑i).bQ = true) ∧
              o.allLow = true)) :=
  ⟨⟨pulsing 3025005, 31, safeIn, 5, 7, by decide +kernel⟩,
    ⟨pulsing 3025005, 31, safeIn, 5, 7, ⟨31, .A, true, false⟩, 1, by decide +kernel⟩⟩

/-- `Obligations.ChannelFaultsAndLostIslands`, k = 2, 3, 4, 5, 6, 7, 8, 9. -/
theorem test_witness_ChannelFaultsAndLostIslands :
      (∃ (s : State) (item : CcItem),
        (item ≠ CcItem.pin) ∧
        (s.ccCount (ccCode item) = 3) ∧
        (s.safety.degraded = none) ∧
        (s.safety.degPending = none)) ∧
      (∃ (s : State) (item : CcItem),
        (item ≠ CcItem.pin) ∧
        (s.ccCount (ccCode item) = 3) ∧
        (s.safety.degraded ≠ none)) ∧
      (∃ (s : State) (item : CcItem),
        (item ≠ CcItem.pin) ∧
        (s.ccCount (ccCode item) < 3)) ∧
      (∃ (s : State) (e : Island) (z : Fin 16),
        ((match e with
          | Island.madder => (s.zone ↑z).stuckA
          | Island.woad => (s.zone ↑z).stuckB) =
          none) ∧
        (s.islandAlive e = true) ∧
        (s.safety.degraded = none) ∧
        (s.safety.degPending = none)) ∧
      (∃ (s : State) (e : Island),
        (match e with
          | Island.madder => s.safety.madderAlive
          | Island.woad => s.safety.woadAlive) =
          true) ∧
      (∃ (s : State) (e : Island) (ns : Nat),
        ((match e with
          | Island.madder => s.safety.madderAlive
          | Island.woad => s.safety.woadAlive) =
          true) ∧
        (1000 < ns) ∧
        (s.power.reset = false)) ∧
      (∃ (s : State) (d : Degraded),
        (s.safety.degraded = some d) ∧
        (d.expired = false) ∧
        (s.pU 28691 s.dev * 1000000 ≤ (s.tick.no - d.entry) * s.P)) ∧
      (∃ (s : State) (e : Island) (temp : Int),
        (1200 ≤ temp) ∧
        ((match e with
          | Island.madder => s.health.tripM
          | Island.woad => s.health.tripW) =
          false)) :=
  ⟨⟨counted, .inputs, by decide +kernel⟩,
    ⟨degradedCell, .inputs, by decide +kernel⟩,
    ⟨work, .crystal, by decide +kernel⟩,
    ⟨work, .woad, 0, by decide +kernel⟩,
    ⟨work, .madder, by decide +kernel⟩,
    ⟨work, .madder, 1001, by decide +kernel⟩,
    ⟨degradedLong, { attributed := none, entry := 99 }, by decide +kernel⟩,
    ⟨work, .woad, 1200, by decide +kernel⟩⟩

/-- `Obligations.MonitoringEndsInSto`, k = 1, 2, 3, 4, 7, 8, 9, 10. -/
theorem test_witness_MonitoringEndsInSto_1 :
      (∃ (s : State) (e : Island) (id : Nat) (r : Ss1Req) (b v env : Nat),
        (s.ss1Req id = some r) ∧
        (r.id = id) ∧
        (s.ss1Above e r = some (b, v, env)) ∧
        (s.islandDecides e = true)) ∧
      (∃ (s : State) (e : Island) (id : Nat) (r : Ss1Req),
        (s.ss1Req id = some r) ∧
        (r.id = id) ∧
        (r.t0 < s.tick.no) ∧
        (s.islandDecides e = true) ∧
        (∀ b ∈ s.coveredAxes r, s.islandSpeed e b ≤ s.pU 28677 b)) ∧
      (∃ (s : State) (id : Nat) (r : Ss1Req),
        (s.ss1Req id = some r) ∧
        (r.id = id) ∧
        (r.t0 < s.tick.no) ∧
        (∀ b ∈ s.coveredAxes r,
          ∀ (m : Ss1Mon), tblGet none s.safety.mon b = some m → s.pU 28676 b * 1000000 ≤ (s.tick.no - m.t0) * s.P)) ∧
      (∃ (s : State) (id : Nat) (r : Ss1Req),
        (s.ss1Req id = some r) ∧
        (r.id = id) ∧
        (s.tick.no ≤ r.t0)) ∧
      (∃ (s : State),
        (∀ (b : Nat), s.slsMonitored (mkRef clsGroup b) = []) ∧
        (∀ (b : Nat), s.slsMonitored (mkRef clsAxis b) = [])) ∧
      (∃ (s : State) (g b v : Nat) (x : SlsRec),
        (∀ arm ∈ s.armList, arm ∈ s.groupsBelow (mkRef clsGroup g) → s.armSlsBreach arm = none) ∧
        (s.localAxes (mkRef clsGroup g) = [b]) ∧
        (s.axisSlsBreach b = some v) ∧
        (s.slsWorst (mkRef clsAxis b) = some x) ∧
        ((s.localAxes (mkRef clsGroup x.group)).all s.stopStands = false)) ∧
      (∃ (s : State) (g arm c v : Nat),
        (arm < 65536) ∧
        (∀ b ∈ s.localAxes (mkRef clsGroup g), s.axisSlsBreach b = none) ∧
        (s.armList = [arm]) ∧
        (arm ∈ s.groupsBelow (mkRef clsGroup g)) ∧
        (s.armSlsBreach arm = some (c, v)) ∧
        ((match s.slsWorst (mkRef clsGroup arm) with
              | some x => s.localAxes (mkRef clsGroup x.group)
              | none => s.localAxes (mkRef clsGroup arm)).all
            s.stopStands =
          false)) ∧
      (∃ (s : State) (a : Nat),
        (s.axisReleasable a = true) ∧
        ((s.axisSto a).needReset = false) ∧
        (s.pU 28692 s.dev = 1)) :=
  ⟨⟨under 99 1000000, .madder, 1, ss1Of 99, 0, 1000000, 3277, by decide +kernel⟩,
    ⟨under 99 0, .madder, 1, ss1Of 99, by decide +kernel⟩,
    ⟨underLong, 1, ss1Of 99, by decide +kernel⟩,
    ⟨under 100 0, 1, ss1Of 100, by decide +kernel⟩,
    ⟨run, fun _ => rfl, fun _ => rfl⟩,
    ⟨axisSpeeding, 1, 0, 1000000000, ⟨1, none, 1000⟩, by decide +kernel⟩,
    ⟨speeding, 1, 1, 0, 6283185, by decide +kernel⟩,
    ⟨axisStopped, 0, by decide +kernel⟩⟩

/-- `Obligations.MonitoringEndsInSto`, k = 11, 12, 13, 14. -/
theorem test_witness_MonitoringEndsInSto_2 :
      (∃ (s : State) (a : Nat),
        s.axisReleasable a = false ∨ (s.axisSto a).needReset = true) ∧
      (∃ (s : State) (z : Fin 16) (r : ZoneRec),
        (s.zoneRec ↑z = some r) ∧
        (r.auto = true) ∧
        (s.zoneReleasable ↑z = true)) ∧
      (∃ (s : State) (z : Fin 16) (r : ZoneRec),
        (s.zoneRec ↑z = some r) ∧
        (r.auto = false ∨ s.zoneReleasable ↑z = false)) ∧
      (∃ (s : State) (z : Fin 16) (r : ZoneRec),
        (s.zoneRec ↑z = some r) ∧
        (s.zoneSto ↑z = false) ∧
        ((s.zone ↑z).testDue = false) ∧
        (s.pU 28694 s.dev ≤ (s.now - (s.zone ↑z).lastSto) / 3600000000000)) :=
  ⟨⟨work, 0, by decide +kernel⟩,
    ⟨autoZone, 0, ⟨0, true, [mkRef clsGroup 1]⟩, by decide +kernel⟩,
    ⟨work, 0, ⟨0, false, [mkRef clsGroup 1]⟩, by decide +kernel⟩,
    ⟨untested, 0, ⟨0, false, [mkRef clsGroup 1]⟩, by decide +kernel⟩⟩

/-- `Obligations.NodesJoinAndLeave`, k = 1, 2, 3, 4, 5, 6, 7, 8. -/
theorem test_witness_NodesJoinAndLeave_1 :
      (∃ (s : State) (n : Fin 64) (k : Fin 4) (f : Frame) (start : Int),
        (s.tick.selide = true) ∧
        (s.joinStart ↑k ≠ 0) ∧
        (s.selide.joinOpen = true) ∧
        ((s.trunk ↑k).sched = 0) ∧
        (s.frameOk (↑k) 1 f = true) ∧
        (BitVec.toNat f.hdr.ftype = ftJoin) ∧
        (f.payload.length = 24) ∧
        (Option.any (fun r => decide (r.role = 2)) (s.strunk ↑k) = false) ∧
        (s.nodeAt (↑k) (BitVec.toNat f.hdr.node) = some ↑n) ∧
        (s.joinReason (↑k) (some ↑n) f.payload start = 0)) ∧
      (∃ (s : State) (k : Fin 4) (f : Frame) (start : Int) (j : Option Nat),
        (s.tick.selide = true) ∧
        (s.joinStart ↑k ≠ 0) ∧
        (s.selide.joinOpen = true) ∧
        ((s.trunk ↑k).sched = 0) ∧
        (s.frameOk (↑k) 1 f = true) ∧
        (BitVec.toNat f.hdr.ftype = ftJoin) ∧
        (f.payload.length = 24) ∧
        (Option.any (fun r => decide (r.role = 2)) (s.strunk ↑k) = false) ∧
        (s.nodeAt (↑k) (BitVec.toNat f.hdr.node) = j) ∧
        (s.joinReason (↑k) j f.payload start ≠ 0)) ∧
      (∃ (s : State) (k : Fin 4),
        s.selide.joinOpen = false ∨ s.tick.selide = false ∨ (s.trunk ↑k).sched ≠ 0) ∧
      (∃ (s : State) (n : Fin 64),
        ((s.node ↑n).state = 1) ∧
        ((s.node ↑n).validData = true)) ∧
      (∃ (s : State) (n : Fin 64) (k : Fin 4) (f : Frame) (start : Int) (r : SlotRec),
        (s.tick.selide = true) ∧
        (s.frameOk (↑k) (essentialChan (s.trunk ↑k).sched) f = true) ∧
        (s.nodeAt (↑k) (BitVec.toNat f.hdr.node) = some ↑n) ∧
        ((s.node ↑n).slot (s.trunk ↑k).sched (essentialChan (s.trunk ↑k).sched) 0 (BitVec.toNat f.hdr.slot) = some r) ∧
        ((start - ↑r.start).natAbs ≤ 50) ∧
        (↑(s.slotBounds r.trunk r).1 ≤ start) ∧
        (start + ↑(frameNs f.payload.length f.sub.isSome) ≤ ↑(s.slotBounds r.trunk r).2) ∧
        (BitVec.toNat f.hdr.ftype = ftLeave) ∧
        ((s.node ↑n).present = true) ∧
        (fieldAt f.payload 0 4 = (s.localNode ↑n).elim 0 fun y => y.nserial)) ∧
      (∃ (s : State) (n : Fin 64),
        (64 ≤ s.silentTicks ↑n) ∧
        ((s.node ↑n).present = true) ∧
        ((s.node ↑n).mute = false) ∧
        ((s.node ↑n).leaving = false)) ∧
      (∃ (s : State) (n : Fin 64),
        (3 ≤ (s.node ↑n).violations) ∧
        ((s.node ↑n).present = true) ∧
        ((s.node ↑n).mute = false)) ∧
      (∃ (s : State) (h : Hdr),
        (s.selide.startPending = some h) ∧
        (s.tick.selide = true) ∧
        (s.firstMissing = none)) :=
  ⟨⟨onNode {} {}, 5, 3, frameOf ftJoin 0 1 joinBytes, 1050, by decide +kernel⟩,
    ⟨onNode joinedNode {}, 3, frameOf ftJoin 0 1 joinBytes, 1050, some 5, by decide +kernel⟩,
    ⟨onNode {} { sched := 2 }, 3, by decide +kernel⟩,
    ⟨onNode { state := 1, validData := true, slots := [slotUp] } {}, 5, by decide +kernel⟩,
    ⟨onNode joinedNode {}, 5, 3, frameOf ftLeave 1 0 (bytesLE 4 3), 1950, slotUp, by decide +kernel⟩,
    ⟨onNode { joinedNode with silent := 64 } {}, 5, by decide +kernel⟩,
    ⟨onNode { joinedNode with violations := 3 } {}, 5, by decide +kernel⟩,
    ⟨bringing joinedNode 3125000, hdr 0, by decide +kernel⟩⟩

/-- `Obligations.NodesJoinAndLeave`, k = 9, 10, 11, 12, 13. -/
theorem test_witness_NodesJoinAndLeave_2 :
      (∃ (s : State) (h : Hdr) (m : Nat),
        (s.selide.startPending = some h) ∧
        (s.tick.selide = true) ∧
        (s.firstMissing = some m)) ∧
      (∃ (s : State) (h : Hdr) (m : Nat),
        (s.selide.startPending = some h) ∧
        (s.tick.selide = true) ∧
        (s.firstMissing = some m) ∧
        (s.selide.startNs + s.pU 32771 s.dev * 1000000 ≤ s.now + s.P)) ∧
      (∃ (s : State) (n : Fin 64),
        ((s.node ↑n).staleCnt = 3) ∧
        ((s.node ↑n).stale = true)) ∧
      (∃ (s : State) (n : Fin 64) (e : Island),
        (4 ≤ ((s.node ↑n).subAt e).missing) ∧
        (((s.node ↑n).subAt e).timedOut = false)) ∧
      (∃ (s : State) (n : Fin 64) (ch : Fin 16),
        (tblGet 0 (s.node ↑n).stoSince ↑ch = s.tick.no + 1) ∧
        ((s.node ↑n).subM.valid = true ∨ (s.node ↑n).subW.valid = true) ∧
        (bitN (BitVec.toNat (s.node ↑n).stoAct) ↑ch = false) ∧
        (∃ a ∈ s.nodeAxes ↑n, Option.any (fun r => decide (r.chan = ↑ch)) (s.axisRec a) = true)) :=
  ⟨⟨bringing {} 3125000, hdr 0, 5, by decide +kernel⟩,
    ⟨bringing {} (10 ^ 12), hdr 0, 5, by decide +kernel⟩,
    ⟨onNode { joinedNode with stale := true, staleCnt := 3 } {}, 5, by decide +kernel⟩,
    ⟨onNode { joinedNode with subM := { missing := 4 } } {}, 5, .madder, by decide +kernel⟩,
    ⟨onNode { joinedNode with stoSince := [(0, 101)], subW := { valid := true } } {}, 5, 0, by decide +kernel⟩⟩

/-- `Obligations.BusFramesAndChannels`, k = 1, 2, 3, 4, 5, 6, 7, 8. -/
theorem test_witness_BusFramesAndChannels_1 :
      (∃ (s : State) (k : Fin 4) (c : Chan) (f : Frame),
        (s.tick.selide = true) ∧
        (s.frameOk (↑k) (chanNo c) f = false) ∧
        ((s.trunk ↑k).sched = 0)) ∧
      (∃ (s : State) (k : Fin 4) (c : Chan) (f : Frame) (start : Int) (n : Nat) (r : SlotRec),
        (s.tick.selide = true) ∧
        (s.frameOk (↑k) (chanNo c) f = true) ∧
        ((s.trunk ↑k).sched = 0) ∧
        (s.nodeAt (↑k) (BitVec.toNat f.hdr.node) = some n) ∧
        ((s.node n).slot 0 (chanNo c) 0 (BitVec.toNat f.hdr.slot) = some r) ∧
        ((s.node n).present = true) ∧
        ((s.node n).mute = false) ∧
        ((s.node n).activeFrom ≤ s.tick.no) ∧
        (↑(s.slotBounds r.trunk r).1 ≤ start ∧
          start + ↑(frameNs f.payload.length f.sub.isSome) ≤ ↑(s.slotBounds r.trunk r).2) ∧
        ((start - ↑r.start).natAbs ≤ 50) ∧
        (BitVec.toNat f.hdr.ftype = ftData) ∧
        (c = Chan.A)) ∧
      (∃ (s : State) (k : Fin 4) (c : Chan) (f : Frame) (start : Int) (n : Nat) (r : SlotRec),
        (s.tick.selide = true) ∧
        (s.frameOk (↑k) (chanNo c) f = true) ∧
        ((s.trunk ↑k).sched = 0) ∧
        (s.nodeAt (↑k) (BitVec.toNat f.hdr.node) = some n) ∧
        ((s.node n).slot 0 (chanNo c) 0 (BitVec.toNat f.hdr.slot) = some r) ∧
        ((s.node n).present = true) ∧
        ((s.node n).mute = false) ∧
        ((s.node n).activeFrom ≤ s.tick.no) ∧
        (¬(↑(s.slotBounds r.trunk r).1 ≤ start ∧
          start + ↑(frameNs f.payload.length f.sub.isSome) ≤ ↑(s.slotBounds r.trunk r).2))) ∧
      (∃ (s : State) (k : Fin 4) (f : Frame) (n : Nat),
        (s.tick.selide = true) ∧
        (s.frameOk (↑k) 1 f = true) ∧
        (s.nodeAt (↑k) (BitVec.toNat f.hdr.node) = some n) ∧
        ((s.node n).present = true) ∧
        ((s.node n).mute = false) ∧
        ((s.trunk ↑k).sched = 0) ∧
        (((s.node n).slot 0 1 0 (BitVec.toNat f.hdr.slot)).isSome = true) ∧
        (BitVec.toNat f.hdr.ftype = ftExt)) ∧
      (∃ (s : State) (k : Fin 4) (f : Frame),
        (s.tick.selide = true) ∧
        (s.frameOk (↑k) 1 f = false)) ∧
      (∃ (s : State),
        s.tick.selide = false ∨ s.tick.latched = false ∨ s.tick.downDone = true) ∧
      (∃ (s : State),
        (s.tick.selide = true) ∧
        (s.tick.latched = true) ∧
        (s.tick.downDone = false) ∧
        ((List.map (fun p => p.1) s.selide.nodes).Nodup)) ∧
      (∃ (s : State),
        s.tick.selide = true) :=
  ⟨⟨onNode joinedNode {}, 3, .B, frameOf ftData 1 0 (List.replicate 12 0), by decide +kernel⟩,
    ⟨onNode joinedNode {}, 3, .A, frameOf ftData 1 0 (List.replicate 12 0), 2050, 5, slotUp, by decide +kernel⟩,
    ⟨onNode joinedNode {}, 3, .A, frameOf ftData 1 0 (List.replicate 12 0), 21600, 5, slotUp, by decide +kernel⟩,
    ⟨onNode joinedNode {}, 3, frameOf ftExt 2 1 [1, 2, 3], 5, by decide +kernel⟩,
    ⟨onNode joinedNode {}, 3, frameOf ftData 1 0 (List.replicate 12 0), by decide +kernel⟩,
    ⟨onNode joinedNode {}, by decide +kernel⟩,
    ⟨{ onNode joinedNode {} with tick := { work.tick with latched := true } }, by decide +kernel⟩,
    ⟨onNode joinedNode {}, by decide +kernel⟩⟩

/-- `Obligations.BusFramesAndChannels`, k = 9, 10, 11, 14, 15, 16, 17, 18. -/
theorem test_witness_BusFramesAndChannels_2 :
      (∃ (s : State) (k : Fin 4) (f : Frame) (y : CycleStart),
        (s.tick.selide = true) ∧
        (cycleStartOf (↑k) s.dev f = some y) ∧
        ((s.trunk ↑k).master = true) ∧
        ((s.trunk ↑k).followed = false) ∧
        (y.serial ≠ s.power.fuses.serial) ∧
        (masterKey (BitVec.toNat y.prio) y.serial < masterKey (s.devRec.elim 0 fun d => d.priority) s.power.fuses.serial)) ∧
      (∃ (s : State) (k : Fin 4) (f : Frame) (y : CycleStart),
        (s.tick.selide = true) ∧
        (cycleStartOf (↑k) s.dev f = some y) ∧
        ((s.trunk ↑k).master = true) ∧
        ((s.trunk ↑k).followed = false) ∧
        (y.serial ≠ s.power.fuses.serial) ∧
        (masterKey (s.devRec.elim 0 fun d => d.priority) s.power.fuses.serial ≤ masterKey (BitVec.toNat y.prio) y.serial)) ∧
      (∃ (s : State) (k : Fin 4) (f : Frame),
        (s.tick.selide = true) ∧
        ((s.trunk ↑k).master = true) ∧
        (cycleStartOf (↑k) s.dev f = none)) ∧
      (∃ (s : State) (k : Fin 4),
        s.isLinkTrunk ↑k = true) ∧
      (∃ (s : State) (k : Fin 4) (c : Chan),
        (s.tick.selide = true) ∧
        (s.isLinkTrunk ↑k = false) ∧
        ((if c = Chan.A then (s.trunk ↑k).aLost else (s.trunk ↑k).bLost) = false) ∧
        (0 < s.lossCause (↑k) (chanNo c)) ∧
        ((s.trunk ↑k).schedNext = 0)) ∧
      (∃ (s : State) (k : Fin 4) (c : Chan),
        (s.tick.selide = true) ∧
        (s.isLinkTrunk ↑k = false) ∧
        ((if c = Chan.A then (s.trunk ↑k).aLost else (s.trunk ↑k).bLost) = false) ∧
        (s.lossCause (↑k) (chanNo c) = 0)) ∧
      (∃ (s : State) (k : Fin 4),
        ((s.trunk ↑k).lostChan.isSome = true) ∧
        (32 ≤ (s.trunk ↑k).nullRun)) ∧
      (∃ (s : State) (k : Fin 4),
        ((s.trunk ↑k).lostChan.isSome = true) ∧
        ((s.trunk ↑k).nullRun < 31)) :=
  ⟨⟨leading {}, 3, cycleFrame { cycleStart0 with prio := 4 } 3, { cycleStart0 with prio := 4 }, by decide +kernel⟩,
    ⟨leading {}, 3, cycleFrame { cycleStart0 with prio := 5 } 3, { cycleStart0 with prio := 5 }, by decide +kernel⟩,
    ⟨leading {}, 3, frameOf ftData 1 0 (List.replicate 12 0), by decide +kernel⟩,
    ⟨leading {}, 3, by decide +kernel⟩,
    ⟨onNode joinedNode { lockB := false }, 3, .B, by decide +kernel⟩,
    ⟨onNode joinedNode { lockA := false }, 3, .B, by decide +kernel⟩,
    ⟨onNode joinedNode { sched := 2, schedNext := 2, aLost := true, nullRun := 32 }, 3, by decide +kernel⟩,
    ⟨onNode joinedNode { sched := 2, schedNext := 2, aLost := true, nullRun := 30 }, 3, by decide +kernel⟩⟩

/-- `Obligations.BusFramesAndChannels`, k = 19. -/
theorem test_witness_BusFramesAndChannels_3 :
      (∃ (s : State) (k : Fin 4),
        ((s.trunk ↑k).lostChan.isSome = true) ∧
        ((s.trunk ↑k).expired = false) ∧
        ((s.trunk ↑k).lostNs + s.pU 32769 s.dev * 1000000 ≤ s.now + s.P)) :=
  ⟨{ onNode joinedNode { sched := 2, schedNext := 2, aLost := true } with tick := { work.tick with t0Ns := 10 ^ 14 } }, 3,
    by decide +kernel⟩

/-- `Obligations.CellLinkExchangesItsRecords`, k = 1, 2, 3, 4, 5, 6, 7, 8. -/
theorem test_witness_CellLinkExchangesItsRecords_1 :
      (∃ (s : State) (f : Frame) (start : Int) (k : Nat) (x : SubFrame),
        ((s.linkRx k).frame ≠ some f) ∧
        (s.isLeader = true → (s.linkRx k).mute = false) ∧
        (s.linkOk (!s.isLeader) f = true) ∧
        (BitVec.toNat f.hdr.ftype = ftLink) ∧
        (f.sub = some x) ∧
        (∀ (e : Island),
          s.subCause e (if s.isMember = true then 1 else 0) (s.linkSerial k) ((s.linkRx k).subAt e) x f.payload = 0) ∧
        (s.isLeader = false ∨
          ∃ q,
            List.find?
                  (fun q =>
                    decide (q.owner = mkRef clsDevice k) && decide (q.dir = 0) && decide (q.slot = BitVec.toNat f.hdr.slot))
                  s.selide.sched.slots =
                some q ∧
              ↑(s.slotBounds q.trunk q).1 ≤ start ∧
            start + ↑(frameNs f.payload.length true) ≤ ↑(s.slotBounds q.trunk q).2)) ∧
      (∃ (s : State) (d : Fin 8) (r : CapRel) (f : Frame) (start : Int),
        (s.linkArrives (if s.isLeader = true then ↑d else 0) f start).1 = true ∧ capRelBytes r ∈ linkRecs f.payload) ∧
      (∃ (s : State) (d : Fin 8) (r : CapRel) (f : Frame) (start : Int),
        capRelBytes r ∉ linkRecs f.payload ∨
          (s.linkArrives (if s.isLeader = true then ↑d else 0) f start).1 = false ∧
            ((s.linkArrives (if s.isLeader = true then ↑d else 0) f start).2.linkRx
                  (if s.isLeader = true then ↑d else 0)).frame ≠
              some f) ∧
      (∃ (s : State) (d : Fin 8) (r : CapRel) (f : Frame) (start : Int),
        (capRelBytes r ∈ linkRecs f.payload) ∧
        ((s.linkArrives (if s.isLeader = true then ↑d else 0) f start).1 = false) ∧
        (((s.linkArrives (if s.isLeader = true then ↑d else 0) f start).2.linkRx (if s.isLeader = true then ↑d else
          0)).frame =
          some f)) ∧
      (∃ (s : State) (d : Fin 8) (g : GStat) (f : Frame) (start : Int),
        (s.linkArrives (if s.isLeader = true then ↑d else 0) f start).1 = true ∧ gstatOf g ∈ linkRecs f.payload) ∧
      (∃ (s : State) (d : Fin 8) (g : GStat) (f : Frame) (start : Int),
        ¬((s.linkArrives (if s.isLeader = true then ↑d else 0) f start).1 = true ∧ gstatOf g ∈ linkRecs f.payload)) ∧
      (∃ (s : State) (d : Fin 8) (grp : Word16) (w : Word) (f : Frame) (start : Int),
        (s.linkArrives (if s.isLeader = true then ↑d else 0) f start).1 = true ∧
          sigmaBytes (BitVec.toNat grp) (BitVec.toNat w) ∈ linkRecs f.payload) ∧
      (∃ (s : State) (d : Fin 8) (grp : Word16) (w : Word) (f : Frame) (start : Int),
        ¬((s.linkArrives (if s.isLeader = true then ↑d else 0) f start).1 = true ∧
            sigmaBytes (BitVec.toNat grp) (BitVec.toNat w) ∈ linkRecs f.payload)) :=
  ⟨⟨member { joined := true }, fromLeader (capRelBytes capRel0), 2000, 0, ((fromLeader (capRelBytes capRel0)).sub.getD ⟨0,
    0, 0, 0, 0⟩), by decide +kernel, by decide +kernel, by decide +kernel, by decide +kernel, by decide +kernel,
      fun e => by cases e <;> decide +kernel, Or.inl (by decide +kernel)⟩,
    ⟨member { joined := true }, 1, capRel0, fromLeader (capRelBytes capRel0), 2000, by decide +kernel⟩,
    ⟨member { joined := true }, 1, capRel0, fromLeader [], 2000, by decide +kernel⟩,
    ⟨member { joined := true, rx := [(0, { frame := some (keptFrame (capRelBytes capRel0)), subM := { valid := true } })] },
      1, capRel0, keptFrame (capRelBytes capRel0), 2000, by decide +kernel⟩,
    ⟨member { joined := true }, 1, ⟨256, 2, 0, 0⟩, fromLeader (gstatOf ⟨256, 2, 0, 0⟩), 2000, by decide +kernel⟩,
    ⟨member { joined := true }, 1, ⟨256, 2, 0, 0⟩, fromLeader [], 2000, by decide +kernel⟩,
    ⟨member { joined := true }, 1, 256, 65536, fromLeader (sigmaBytes 256 65536), 2000, by decide +kernel⟩,
    ⟨member { joined := true }, 1, 256, 65536, fromLeader [], 2000, by decide +kernel⟩⟩

/-- `Obligations.CellLinkExchangesItsRecords`, k = 9, 10, 11, 12, 13, 14, 15, 16. -/
theorem test_witness_CellLinkExchangesItsRecords_2 :
      (∃ (s : State) (seq : Word16) (w : Word) (f : Frame) (start : Int) (desc : List Byte) (h : Hdr) (c : Instr),
        (s.linkedMember = true) ∧
        (s.memberCmd (descriptorOf desc) = some (h, c)) ∧
        ((s.linkArrives 0 f start).1 = true ∧ cmdBytes (BitVec.toNat seq) (BitVec.toNat w) desc ∈ linkRecs f.payload)) ∧
      (∃ (s : State) (seq : Word16) (f : Frame) (start : Int) (go : Word),
        (s.isMember = true) ∧
        ((s.linkArrives 0 f start).1 = true ∧ cmdgoBytes (BitVec.toNat seq) (BitVec.toNat go) ∈ linkRecs f.payload)) ∧
      (∃ (s : State) (d : Fin 8) (seq : Word16) (w obj : Word) (f : Frame) (start : Int) (c : LinkCmdSt) (h : Hdr),
        (s.isLeader = true) ∧
        (List.find? (fun c => c.hdr.isSome && decide (c.seq = BitVec.toNat seq)) s.link.cmds = some c) ∧
        (c.hdr = some h) ∧
        (c.goSent = none) ∧
        (↑d ∈ c.waiting) ∧
        ((s.linkArrives (↑d) f start).1 = true ∧
          cmdackBytes (BitVec.toNat seq) (BitVec.toNat w) (BitVec.toNat obj) ∈ linkRecs f.payload)) ∧
      (∃ (s : State),
        (s.isMember = true) ∧
        (s.link.lost = false) ∧
        (4 ≤ s.link.missed)) ∧
      (∃ (s : State) (f : Frame) (c : CycleStart),
        (s.isMember = true) ∧
        (cycleStartOf s.linkTrunk (s.dev - 1) f = some c)) ∧
      (∃ (s : State) (f : Frame),
        (s.isMember = true) ∧
        (cycleStartOf s.linkTrunk (s.dev - 1) f = none)) ∧
      (∃ (s : State) (f : Frame),
        (s.isMember = true) ∧
        (s.link.locked = true) ∧
        (s.linkOk true f = true) ∧
        (s.grantsUs f = true) ∧
        (s.link.joinTick = some s.tick.no)) ∧
      (∃ (s : State) (f : Frame),
        (s.isMember = true) ∧
        (s.link.locked = true) ∧
        (s.linkOk true f = true) ∧
        (s.grantsUs f = false ∨ s.link.joinTick ≠ some s.tick.no)) :=
  ⟨⟨member
    { joined := true, rx := [(0, { frame := some (keptFrame (cmdBytes 7 65536 identifyBytes)), subM := { valid := true }, subW := { valid := true } })] }, 7, 65536, keptFrame (cmdBytes 7 65536 identifyBytes), 2000, identifyBytes, ⟨0, 9, 0⟩, .identify ⟨0, 9, 0⟩, by decide +kernel, by decide +kernel, by decide +kernel⟩,
    ⟨member { joined := true, cmds := [{ linkCmd0 with hdr := none }] }, 7, fromLeader (cmdgoBytes 7 0), 2000, 0,
      by decide +kernel⟩,
    ⟨leading { cmds := [linkCmd0] }, 1, 7, 16, 0, fromMember (cmdackBytes 7 16 0), 2000, linkCmd0, hdr 0, by decide +kernel⟩,
    ⟨member { joined := true, missed := 4 }, by decide +kernel⟩,
    ⟨member { locked := true, lost := true }, cycleFrame cycleStart0, cycleStart0, by decide +kernel⟩,
    ⟨member {}, fromLeader [], by decide +kernel⟩,
    ⟨member { locked := true, joinTick := some 100, lost := true }, framed ftGrant 0 0 0x28 33 (grantBytes0 1) none,
      by decide +kernel⟩,
    ⟨member { locked := true }, framed ftGrant 0 0 0x28 33 (grantBytes0 2) none, by decide +kernel⟩⟩

/-- `Obligations.BridgeTransparentClockAndPps`, k = 1, 2, 3, 4, 5, 6, 7, 8. -/
theorem test_witness_BridgeTransparentClockAndPps_1 :
      (∃ (s : State) (p : Fin 2) (f : EthFrame),
        ((s.eth ↑p).up = true) ∧
        ((s.eth (otherPort ↑p)).up = true) ∧
        (groupAddr f.src = false) ∧
        (List.find? (fun k => decide (k.1 = f.dst.toNat)) s.time.fdb = none) ∧
        (f.dst.toNat < 1652522221568 ∨ 1652522221583 < f.dst.toNat)) ∧
      (∃ (s : State) (p : Fin 2),
        (s.eth ↑p).up = false) ∧
      (∃ (s : State) (m : PtpHdr) (kind : PtpEventKind),
        ((s.eth ↑m.port).up = true) ∧
        ((s.eth (otherPort ↑m.port)).up = true) ∧
        (isPeer kind = false ∨ s.p2p = false) ∧
        (m.transport = Transport.udp6)) ∧
      (∃ (s : State) (m : PtpHdr) (kind : PtpEventKind),
        ((s.eth ↑m.port).up = true) ∧
        ((s.eth (otherPort ↑m.port)).up = true) ∧
        (isPeer kind = false ∨ s.p2p = false) ∧
        (m.transport ≠ Transport.udp6) ∧
        (¬(kind = PtpEventKind.sync ∧ m.twoStep = true))) ∧
      (∃ (s : State) (m : PtpHdr) (kind : PtpEventKind),
        ((s.eth ↑m.port).up = true) ∧
        ((s.eth (otherPort ↑m.port)).up = true) ∧
        (isPeer kind = false ∨ s.p2p = false) ∧
        (m.transport ≠ Transport.udp6) ∧
        (kind = PtpEventKind.sync) ∧
        (m.twoStep = true)) ∧
      (∃ (s : State) (m : PtpHdr) (n : Nat) (h : HeldRes),
        ((s.eth ↑m.port).up = true) ∧
        ((s.eth (otherPort ↑m.port)).up = true) ∧
        (m.transport ≠ Transport.udp6) ∧
        (s.domOf m = none) ∧
        (List.find? (heldFor m (s.now + n)) s.time.held = some h)) ∧
      (∃ (s : State) (m : PtpHdr) (n : Nat),
        ((s.eth ↑m.port).up = true) ∧
        ((s.eth (otherPort ↑m.port)).up = true) ∧
        (m.transport ≠ Transport.udp6) ∧
        (s.domOf m = none) ∧
        (List.find? (heldFor m (s.now + n)) s.time.held = none)) ∧
      (∃ (s : State) (m : PtpHdr),
        ((s.eth ↑m.port).up = true) ∧
        ((s.eth (otherPort ↑m.port)).up = true) ∧
        (m.transport = Transport.udp6) ∧
        (s.domOf m = none)) :=
  ⟨⟨timed {}, 1, frame0, by decide +kernel⟩,
    ⟨work, 1, by decide +kernel⟩,
    ⟨timed {}, { ptp0 with transport := .udp6 }, .sync, by decide +kernel⟩,
    ⟨timed {}, { ptp0 with transport := .udp4 }, .delayReq, by decide +kernel⟩,
    ⟨timed {}, ptp0, .sync, by decide +kernel⟩,
    ⟨timed { held := [held0] }, { ptp0 with domain := 77 }, 5, held0, by decide +kernel⟩,
    ⟨timed { held := [held0] }, { ptp0 with domain := 77, seq := 6 }, 5, by decide +kernel⟩,
    ⟨timed {}, { ptp0 with domain := 77, transport := .udp6 }, by decide +kernel⟩⟩

/-- `Obligations.BridgeTransparentClockAndPps`, k = 10, 11, 12, 13, 14, 15, 16, 17. -/
theorem test_witness_BridgeTransparentClockAndPps_2 :
      (∃ (s : State) (m : PtpHdr),
        (s.ptpTaken m = true) ∧
        (s.p2p = true)) ∧
      (∃ (s : State) (p : Fin 2),
        (s.eth ↑p).up = false ∨ s.reqDue ↑p = false) ∧
      (∃ (s : State) (p : Fin 2),
        ((s.eth ↑p).up = true) ∧
        (s.reqDue ↑p = true) ∧
        (s.p2p = true)) ∧
      (∃ (s : State) (p : Fin 2),
        ((s.eth ↑p).up = true) ∧
        (s.reqDue ↑p = true) ∧
        (s.p2p = false)) ∧
      (∃ (s : State) (m : PtpHdr),
        (s.p2p = true) ∧
        (s.ptpTaken m = true) ∧
        ((s.eth ↑m.port).pdelayOut = true) ∧
        ((s.eth ↑m.port).pdelaySeq = BitVec.toNat m.seq)) ∧
      (∃ (s : State) (m : PtpHdr) (dm : Nat) (y : Int × Int),
        (s.p2p = false) ∧
        (s.domOf m = some dm) ∧
        (s.fromMaster dm m = true) ∧
        ((s.dom dm).delayOut = true) ∧
        ((s.dom dm).delaySeq = BitVec.toNat m.seq) ∧
        ((s.dom dm).lastSync = some y)) ∧
      (∃ (s : State) (p : Fin 2),
        (s.power.reset = false) ∧
        ((s.eth ↑p).up = false)) ∧
      (∃ (s : State) (p : Fin 2),
        (s.power.reset = false) ∧
        ((s.eth ↑p).up = true)) :=
  ⟨⟨timed {}, ptp0, by decide +kernel⟩,
    ⟨work, 1, by decide +kernel⟩,
    ⟨timed {}, 1, by decide +kernel⟩,
    ⟨{ timed {} with par := { vals := [(0x9001 * 65536, 1)] } }, 1, by decide +kernel⟩,
    ⟨{ work with time := { eth := [(1, { up := true, pdelayOut := true, pdelaySeq := 5 })] } }, ptp0, by decide +kernel⟩,
    ⟨{ timed { domains := [(0, { state := 1, master := some 9, port := 1, delayOut := true, delaySeq := 5, lastSync := some (100, 105) })] } with par := { vals := [(0x9001 * 65536, 1)] } }, ptp0, 0, (100, 105), by decide +kernel⟩,
    ⟨work, 1, by decide +kernel⟩,
    ⟨timed {}, 1, by decide +kernel⟩⟩

/-- `Obligations.BridgeTransparentClockAndPps`, k = 18, 19, 20. -/
theorem test_witness_BridgeTransparentClockAndPps_3 :
      (∃ (s : State),
        (s.time.ns = 0) ∧
        (s.pU 36874 s.dev = 1 → s.time.source = 1 ∨ s.time.source = 3) ∧
        (s.pU 36874 s.dev ≠ 0)) ∧
      (∃ (s : State),
        s.pU 36874 s.dev = 0) ∧
      (∃ (s : State),
        (s.time.ppsHigh = true) ∧
        (s.time.ppsEndNs ≤ s.now + s.P)) :=
  ⟨⟨{ work with time := { source := 1 } }, by decide +kernel⟩,
    ⟨{ work with par := { vals := [(0x900A * 65536, 0)] } }, by decide +kernel⟩,
    ⟨timed { ppsHigh := true, ppsEndNs := 3156250 }, by decide +kernel⟩⟩

/-- `Obligations.DomainsServoAndLeapSeconds`, k = 1, 2, 3, 4, 5, 6, 7, 8. -/
theorem test_witness_DomainsServoAndLeapSeconds_1 :
      (∃ (s : State) (m : PtpHdr) (d : Fin 2),
        (s.domOf m = some ↑d) ∧
        (s.fromMaster (↑d) m = true) ∧
        (m.twoStep = true)) ∧
      (∃ (s : State) (m : PtpHdr) (d : Fin 2),
        (s.domOf m = some ↑d) ∧
        (s.fromMaster (↑d) m = true) ∧
        (m.twoStep = false)) ∧
      (∃ (s : State) (m : PtpHdr),
        s.domOf m = none) ∧
      (∃ (s : State) (m : PtpHdr) (d : Fin 2),
        (s.domOf m = some ↑d) ∧
        ((s.dom ↑d).best = []) ∧
        ((s.dom ↑d).state = 0)) ∧
      (∃ (s : State) (d : Fin 2),
        ((s.dom ↑d).state = 1 ∨ (s.dom ↑d).state = 2) ∧
        ((s.dom ↑d).timeoutNs ≤ s.now + s.P)) ∧
      (∃ (s : State) (d : Fin 2),
        s.now + s.P < (s.dom ↑d).timeoutNs) ∧
      (∃ (s : State),
        (s.time.slewing = true) ∧
        (absQ s.time.remaining ≤ ↑(s.domP 36883 s.time.sel))) ∧
      (∃ (s : State),
        (s.time.slewing = true) ∧
        (↑(s.domP 36883 s.time.sel) < absQ s.time.remaining)) :=
  ⟨⟨timed { domains := [(0, { state := 1, master := some 9, port := 1 })] }, ptp0, 0, by decide +kernel⟩,
    ⟨timed { domains := [(0, { state := 2, master := some 9, port := 1 })] }, { ptp0 with twoStep := false }, 0,
      by decide +kernel⟩,
    ⟨timed {}, { ptp0 with domain := 99 }, by decide +kernel⟩,
    ⟨timed {}, ptp0, 0, by decide +kernel⟩,
    ⟨timed { domains := [(0, { state := 1, timeoutNs := 3156250 })] }, 0, by decide +kernel⟩,
    ⟨timed { domains := [(0, { state := 1, timeoutNs := 3156251 })] }, 0, by decide +kernel⟩,
    ⟨timed { slewing := true, remaining := 1 }, by decide +kernel⟩,
    ⟨timed { slewing := true, remaining := 10 ^ 9 }, by decide +kernel⟩⟩

/-- `Obligations.DomainsServoAndLeapSeconds`, k = 9, 10. -/
theorem test_witness_DomainsServoAndLeapSeconds_2 :
      (∃ (s : State) (u : Nat),
        (s.utcStart = some u) ∧
        (s.time.leap61 = true) ∧
        (s.time.leapSec = false) ∧
        (u % 86400 = 0) ∧
        (firstOfMonth u = true)) ∧
      (∃ (s : State) (u : Nat),
        (s.utcStart = some u) ∧
        (s.time.leap61 = false) ∧
        (s.time.leap59 = true) ∧
        (u % 86400 = 86399) ∧
        (firstOfMonth (u + 1) = true)) :=
  ⟨⟨timed { sec := 37 + 86400 * 31, utcValid := true, leap61 := true }, 2678400, by decide +kernel⟩,
    ⟨timed { sec := 37 + 86400 * 31 - 1, utcValid := true, leap59 := true }, 2678399, by decide +kernel⟩⟩

/-- `Obligations.EnginesPublishAndStop`, k = 1, 2, 3, 4, 5, 6, 7, 8. -/
theorem test_witness_EnginesPublishAndStop_1 :
      (∃ (s : State) (e : Island),
        (s.tick.selide = true ∧ s.islandAlive e = true) ∧
        (s.sep.kin.loaded = true)) ∧
      (∃ (s : State) (e : Island),
        (s.tick.selide = true ∧ s.islandAlive e = true) ∧
        (s.tick.intakeDone = true) ∧
        ((s.eng e).published = false)) ∧
      (∃ (s : State) (e : Island),
        (s.tick.selide = true ∧ s.islandAlive e = true) ∧
        ((s.eng e).published = false) ∧
        ((s.eng e).late = false)) ∧
      (∃ (s : State) (e : Island),
        ¬(s.tick.selide = true ∧ s.islandAlive e = true)) ∧
      (∃ (s : State) (e : Island),
        ¬(s.tick.selide = true ∧ s.islandAlive e = true) ∨ s.tick.intakeDone = false ∨ (s.eng e).published = true) ∧
      (∃ (s : State) (e : Island),
        ¬(s.tick.selide = true ∧ s.islandAlive e = true) ∨ s.sep.kin.loaded = false) ∧
      (∃ (s : State) (q : Fin 32) (r : PersonRec),
        (s.personRec (s.dev * 32 + ↑q) = some r) ∧
        (∃ e,
          (s.person e (s.dev * 32 + ↑q)).lost = false ∧
            ((s.person e (s.dev * 32 + ↑q)).fault = true ∨ 3 ≤ (s.person e (s.dev * 32 + ↑q)).stale))) ∧
      (∃ (s : State) (q : Fin 32) (r : PersonRec),
        (s.personRec (s.dev * 32 + ↑q) = some r) ∧
        (∀ (e : Island),
          (s.person e (s.dev * 32 + ↑q)).lost = true ∨
            (s.person e (s.dev * 32 + ↑q)).fault = false ∧ (s.person e (s.dev * 32 + ↑q)).stale < 3)) :=
  ⟨⟨withEng {}, .madder, by decide +kernel⟩,
    ⟨{ withEng {} with tick := { work.tick with intakeDone := true } }, .madder, by decide +kernel⟩,
    ⟨withEng {}, .madder, by decide +kernel⟩,
    ⟨run, .woad, by decide +kernel⟩,
    ⟨run, .woad, by decide +kernel⟩,
    ⟨run, .woad, by decide +kernel⟩,
    ⟨withEng { m := { persons := [(31, { stale := 3 })] } }, 31, ⟨31, 0, 0, 0, 0, 0⟩, by decide +kernel, ⟨.madder,
      by decide +kernel⟩⟩,
    ⟨withEng { m := { persons := [(31, { stale := 2 })] } }, 31, ⟨31, 0, 0, 0, 0, 0⟩, by decide +kernel,
      fun e => by cases e <;> decide +kernel⟩⟩

/-- `Obligations.EnginesPublishAndStop`, k = 9, 10, 11, 12, 13. -/
theorem test_witness_EnginesPublishAndStop_2 :
      (∃ (s : State) (d : Fin 8),
        0 <
          (List.filter
              (fun c => decide ((s.relay Island.madder c.index).stale = 3) || decide ((s.relay Island.woad c.index).stale =
            3))
              (s.foreignCaps ↑d)).length) ∧
      (∃ (s : State) (d : Fin 8),
        (List.filter
              (fun c => decide ((s.relay Island.madder c.index).stale = 3) || decide ((s.relay Island.woad c.index).stale =
            3))
              (s.foreignCaps ↑d)).length =
          0) ∧
      (∃ (s : State),
        (s.sep.disCount = 3) ∧
        (s.sep.taken = false) ∧
        (s.safety.degraded = none) ∧
        (s.safety.degPending = none)) ∧
      (∃ (s : State),
        s.sep.disCount < 3) ∧
      (∃ (s : State),
        s.safety.directed = true) :=
  ⟨⟨relayed 3, 1, by decide +kernel⟩,
    ⟨relayed 4, 1, by decide +kernel⟩,
    ⟨withEng { disCount := 3 }, by decide +kernel⟩,
    ⟨withEng { disCount := 2 }, by decide +kernel⟩,
    ⟨directing, by decide +kernel⟩⟩

/-- `Obligations.SolvesRunToTheirOutcome`, k = 1, 2, 3, 4, 5, 6, 7, 8. -/
theorem test_witness_SolvesRunToTheirOutcome_1 :
      (∃ (s : State) (k : Nat) (x : Struct),
        (s.health.warmDamaged = false) ∧
        (s.solver.selected = some k) ∧
        (s.struct? k = some x) ∧
        (s.boundary = false ∨ s.pU 24577 s.dev ≠ 1 ∨ s.solver.due = true)) ∧
      (∃ (s : State) (k : Nat) (x : Struct),
        (s.health.warmDamaged = false) ∧
        (s.solver.selected = some k) ∧
        (s.struct? k = some x) ∧
        (s.boundary = true) ∧
        (s.pU 24577 s.dev = 1) ∧
        (s.solver.due = false) ∧
        (s.solver.solve = none) ∧
        (s.rowEngines = [] ∨ s.solver.vplanOk = false)) ∧
      (∃ (s : State) (k : Nat) (x : Struct),
        (s.health.warmDamaged = false) ∧
        (s.solver.selected = some k) ∧
        (s.struct? k = some x) ∧
        (s.boundary = true) ∧
        (s.pU 24577 s.dev = 1) ∧
        (s.solver.due = false) ∧
        (s.solver.solve = none) ∧
        (s.rowEngines ≠ []) ∧
        (s.solver.vplanOk = true) ∧
        (x.damaged = false)) ∧
      (∃ (s : State),
        (s.health.warmDamaged = false) ∧
        (s.solver.selected = none)) ∧
      (∃ (s : State) (n : Nat) (x : Solve),
        (s.health.warmDamaged = false) ∧
        (s.solver.solve = some x) ∧
        (x.factored = false) ∧
        (s.now + n - x.boundaryNs + 20000 ≤ x.deadline) ∧
        (x.inertiaOk (s.pF 24581) x.rho = false)) ∧
      (∃ (s : State) (n : Nat) (x : Solve),
        (s.health.warmDamaged = false) ∧
        (s.solver.solve = some x) ∧
        (x.factored = false) ∧
        (s.now + n - x.boundaryNs + 20000 ≤ x.deadline) ∧
        (x.inertiaOk (s.pF 24581) x.rho = true) ∧
        (finite64 [x.cur.r] = true) ∧
        (x.cur.r ≤ 1)) ∧
      (∃ (s : State) (n : Nat) (x : Solve),
        (s.health.warmDamaged = false) ∧
        (s.solver.solve = some x) ∧
        (x.factored = false) ∧
        (s.now + n - x.boundaryNs + 20000 ≤ x.deadline) ∧
        (x.inertiaOk (s.pF 24581) x.rho = true) ∧
        (finite64 [x.cur.r] = true) ∧
        (1 < x.cur.r)) ∧
      (∃ (s : State) (n : Nat) (x : Solve),
        (s.health.warmDamaged = false) ∧
        (s.solver.solve = some x) ∧
        (x.factored = false) ∧
        (x.deadline < s.now + n - x.boundaryNs + 20000)) :=
  ⟨⟨{ solverOn {} with tick := work.tick }, 3, struct0, by decide +kernel⟩,
    ⟨solverOn {}, 3, struct0, by decide +kernel⟩,
    ⟨{ solverOn { vplanOk := true } with sep := { m := { published := true, rowsOk := true } } }, 3, struct0,
      by decide +kernel⟩,
    ⟨work, by decide +kernel⟩,
    ⟨solving { solve0 with image := struct1 }, 0, { solve0 with image := struct1 }, by decide +kernel⟩,
    ⟨solving { solve0 with cur := { r := 1 } }, 0, { solve0 with cur := { r := 1 } }, by decide +kernel⟩,
    ⟨solving { solve0 with cur := { r := 2 } }, 0, { solve0 with cur := { r := 2 } }, by decide +kernel⟩,
    ⟨solving { solve0 with deadline := 19999 }, 0, { solve0 with deadline := 19999 }, by decide +kernel⟩⟩

/-- `Obligations.SolvesRunToTheirOutcome`, k = 9, 10, 11, 12, 13, 14, 15, 16. -/
theorem test_witness_SolvesRunToTheirOutcome_2 :
      (∃ (s : State) (x : Solve),
        (s.health.warmDamaged = false) ∧
        (s.solver.solve = some x) ∧
        (x.factored = false) ∧
        (x.boundaryNs + x.deadline ≤ s.now + s.P + 20000)) ∧
      (∃ (s : State) (n : Nat) (x : Solve),
        (s.health.warmDamaged = false) ∧
        (s.solver.solve = some x) ∧
        (x.factored = true) ∧
        (s.now + n - x.boundaryNs ≤ x.deadline) ∧
        (s.pU 24587 s.dev = 0) ∧
        (s.nextIter x = none)) ∧
      (∃ (s : State) (n : Nat) (x : Solve) (v z y : List ℚ),
        (s.health.warmDamaged = false) ∧
        (s.solver.solve = some x) ∧
        (x.factored = true) ∧
        (s.now + n - x.boundaryNs ≤ x.deadline) ∧
        (s.pU 24587 s.dev = 0) ∧
        (s.nextIter x = some (v, z, y)) ∧
        (finite64 (v ++ z ++ y) = false)) ∧
      (∃ (s : State) (n : Nat) (x : Solve) (v z y : List ℚ),
        (s.health.warmDamaged = false) ∧
        (s.solver.solve = some x) ∧
        (x.factored = true) ∧
        (s.now + n - x.boundaryNs ≤ x.deadline) ∧
        (s.pU 24587 s.dev = 0) ∧
        (s.nextIter x = some (v, z, y)) ∧
        (finite64 (v ++ z ++ y) = true) ∧
        ((s.evalIter x (List.map round64 v) (List.map round64 z) (List.map round64 y)).r ≤ 1)) ∧
      (∃ (s : State) (n : Nat) (x : Solve) (v z y : List ℚ),
        (s.health.warmDamaged = false) ∧
        (s.solver.solve = some x) ∧
        (x.factored = true) ∧
        (s.now + n - x.boundaryNs ≤ x.deadline) ∧
        (s.pU 24587 s.dev = 0) ∧
        (s.nextIter x = some (v, z, y)) ∧
        (finite64 (v ++ z ++ y) = true) ∧
        (1 < (s.evalIter x (List.map round64 v) (List.map round64 z) (List.map round64 y)).r)) ∧
      (∃ (s : State) (x : Solve),
        (s.health.warmDamaged = false) ∧
        (s.solver.solve = some x) ∧
        (x.factored = true) ∧
        (x.boundaryNs + x.deadline ≤ s.now + s.P)) ∧
      (∃ (s : State) (n : Nat) (x : Solve) (r : ℚ),
        (s.health.warmDamaged = false) ∧
        (s.solver.solve = some x) ∧
        (x.newRho = some r) ∧
        (s.now + n - x.boundaryNs ≤ x.deadline) ∧
        (x.inertiaOk (s.pF 24581) r = true)) ∧
      (∃ (s : State) (n : Nat) (x : Solve) (r : ℚ),
        (s.health.warmDamaged = false) ∧
        (s.solver.solve = some x) ∧
        (x.newRho = some r) ∧
        (s.now + n - x.boundaryNs ≤ x.deadline) ∧
        (x.inertiaOk (s.pF 24581) r = false)) :=
  ⟨⟨solving { solve0 with deadline := 51250 }, { solve0 with deadline := 51250 }, by decide +kernel⟩,
    ⟨solvingFixed { solve0 with image := struct1, factored := true, cur := { x := [0] } }, 0,
      { solve0 with image := struct1, factored := true, cur := { x := [0] } }, by decide +kernel⟩,
    ⟨solvingFixed { solve0 with factored := true, cur := { x := [10 ^ 400] } }, 0,
      { solve0 with factored := true, cur := { x := [10 ^ 400] } },
        ((State.nextIter (solvingFixed { solve0 with factored := true, cur := { x := [10 ^ 400] } })
          { solve0 with factored := true, cur := { x := [10 ^ 400] } }).getD ([], [], [])).1,
            ((State.nextIter (solvingFixed { solve0 with factored := true, cur := { x := [10 ^ 400] } })
            { solve0 with factored := true, cur := { x := [10 ^ 400] } }).getD ([], [], [])).2.1,
            ((State.nextIter (solvingFixed { solve0 with factored := true, cur := { x := [10 ^ 400] } })
            { solve0 with factored := true, cur := { x := [10 ^ 400] } }).getD ([], [], [])).2.2, by decide +kernel⟩,
    ⟨solvingFixed { solve0 with factored := true, cur := { x := [0] } }, 0,
      { solve0 with factored := true, cur := { x := [0] } }, [0], [], [], by decide +kernel⟩,
    ⟨solvingFixed { solve0 with image := struct2, factored := true, cur := { x := [0] } }, 0,
      { solve0 with image := struct2, factored := true, cur := { x := [0] } },
        ((State.nextIter (solvingFixed { solve0 with image := struct2, factored := true, cur := { x := [0] } })
          { solve0 with image := struct2, factored := true, cur := { x := [0] } }).getD ([], [], [])).1,
            ((State.nextIter (solvingFixed { solve0 with image := struct2, factored := true, cur := { x := [0] } })
            { solve0 with image := struct2, factored := true, cur := { x := [0] } }).getD ([], [], [])).2.1,
            ((State.nextIter (solvingFixed { solve0 with image := struct2, factored := true, cur := { x := [0] } })
            { solve0 with image := struct2, factored := true, cur := { x := [0] } }).getD ([], [], [])).2.2,
            by decide +kernel⟩,
    ⟨solving { solve0 with deadline := 31250, factored := true, cur := { x := [0] } },
      { solve0 with deadline := 31250, factored := true, cur := { x := [0] } }, by decide +kernel⟩,
    ⟨solving { solve0 with newRho := some 2 }, 0, { solve0 with newRho := some 2 }, 2, by decide +kernel⟩,
    ⟨solving { solve0 with image := struct1, newRho := some 2 }, 0, { solve0 with image := struct1, newRho := some 2 }, 2,
      by decide +kernel⟩⟩

/-- `Obligations.SolvesRunToTheirOutcome`, k = 17. -/
theorem test_witness_SolvesRunToTheirOutcome_3 :
      (∃ (s : State) (n : Nat) (c : Instr),
        (s.health.warmDamaged = false) ∧
        (s.solver.solve = none) ∧
        (c ∈
          [Instr.solveFactorDone n, Instr.solveIteration n, Instr.rhoRefactorDone n, Instr.deadlineInFactor,
            Instr.deadlineIter])) :=
  ⟨solverOn {}, 0, .solveIteration 0, by decide +kernel⟩

/-- `Obligations.SegmentsStartAndEnd`, k = 1, 2, 3, 4, 5, 6, 7, 8. -/
theorem test_witness_SegmentsStartAndEnd_1 :
      (∃ (s : State) (q : Word),
        s.startDue q = false) ∧
      (∃ (s : State) (q : Word) (g : Seg) (r : List Seg),
        ((s.queue q).segs = g :: r) ∧
        (s.startDue q = true) ∧
        (s.overBudget (s.startCost g) = true) ∧
        (g.homing = false)) ∧
      (∃ (s : State) (q : Word) (g : Seg) (r : List Seg),
        ((s.queue q).segs = g :: r) ∧
        (s.startDue q = true) ∧
        (s.overBudget (s.startCost g) = false) ∧
        (canPay s.supply.levels (List.flatMap (fun y => List.map (fun p => p.1) y.costs) s.supply.reqs) (s.startCost g) =
          false)) ∧
      (∃ (s : State) (q : Word) (g : Seg) (r : List Seg),
        ((s.queue q).segs = g :: r) ∧
        (s.startDue q = true) ∧
        (s.overBudget (s.startCost g) = false) ∧
        (canPay s.supply.levels (List.flatMap (fun y => List.map (fun p => p.1) y.costs) s.supply.reqs) (s.startCost g) =
          true) ∧
        (s.segValid g (s.startsOf g) = true) ∧
        ((s.planSeg g (s.startsOf g) (s.queue q).tau).dist ≠ 0)) ∧
      (∃ (s : State) (q : Word) (g : Seg) (r : List Seg),
        ((s.queue q).segs = g :: r) ∧
        (s.startDue q = true) ∧
        (s.overBudget (s.startCost g) = false) ∧
        (canPay s.supply.levels (List.flatMap (fun y => List.map (fun p => p.1) y.costs) s.supply.reqs) (s.startCost g) =
          true) ∧
        (s.segValid g (s.startsOf g) = false) ∧
        (g.homing = false)) ∧
      (∃ (s : State) (q : Word) (g : Seg) (r : List Seg),
        ((s.queue q).segs = g :: r) ∧
        (s.startDue q = true) ∧
        (s.overBudget (s.startCost g) = false) ∧
        (canPay s.supply.levels (List.flatMap (fun y => List.map (fun p => p.1) y.costs) s.supply.reqs) (s.startCost g) =
          true) ∧
        ((s.planSeg g (s.startsOf g) (s.queue q).tau).dist = 0) ∧
        (r = []) ∧
        (g.homing = false)) ∧
      (∃ (s : State) (q : Word) (c : Instr),
        (s.segOver q = false) ∧
        (c ∈ [Instr.segEnd q, Instr.queueAtRest q])) ∧
      (∃ (s : State) (q : Word) (g : Seg) (r : List Seg) (p : Plan),
        ((s.queue q).segs = g :: r) ∧
        ((s.queue q).plan = some p) ∧
        (s.segOver q = true) ∧
        (g.homing = false) ∧
        ((s.queue q).halting = false) ∧
        ((p.blend.getD (blendOk (s.queue q).segs) && blendOk (s.queue q).segs && s.health.supLost.isNone) = false)) :=
  ⟨⟨bound, mkRef clsGroup 1, by decide +kernel⟩,
    ⟨{ supplied [(0, 10 ^ 9)] { segs := [seg0], endedTick := some 99 } with par := { vals := [(0x3041 * 65536, 101)] } },
      mkRef clsGroup 1, seg0, [], by decide +kernel⟩,
    ⟨supplied [(0, 10 * 65536 - 1)] { segs := [seg0], endedTick := some 99 }, mkRef clsGroup 1, seg0, [], by decide +kernel⟩,
    ⟨supplied [(0, 10 * 65536)] { segs := [seg0], endedTick := some 99 }, mkRef clsGroup 1, seg0, [], by decide +kernel⟩,
    ⟨supplied [(0, 10 * 65536)] { segs := [{ seg0 with vStop := 2 ^ 31 }], endedTick := some 99 }, mkRef clsGroup 1,
      { seg0 with vStop := 2 ^ 31 }, [], by decide +kernel⟩,
    ⟨supplied [] { segs := [{ seg0 with targets := [0] }], endedTick := some 99 }, mkRef clsGroup 1,
      { seg0 with targets := [0] }, [], by decide +kernel⟩,
    ⟨bound, mkRef clsGroup 1, .queueAtRest (mkRef clsGroup 1), by decide +kernel⟩,
    ⟨supplied [] { segs := [seg0], plan := some plan0, tau := 1 }, mkRef clsGroup 1, seg0, [], plan0, by decide +kernel⟩⟩

/-- `Obligations.SegmentsStartAndEnd`, k = 9, 10. -/
theorem test_witness_SegmentsStartAndEnd_2 :
      (∃ (s : State) (q : Word) (g : Seg) (r : List Seg) (p : Plan),
        ((s.queue q).segs = g :: r) ∧
        ((s.queue q).plan = some p) ∧
        (s.segOver q = true) ∧
        (g.homing = false) ∧
        ((s.queue q).halting = false) ∧
        ((p.blend.getD (blendOk (s.queue q).segs) && blendOk (s.queue q).segs && s.health.supLost.isNone) = true)) ∧
      (∃ (s : State) (q : Word) (g : Seg) (r : List Seg) (p : Plan),
        ((s.queue q).segs = g :: r) ∧
        ((s.queue q).plan = some p) ∧
        (s.segOver q = true) ∧
        (g.homing = false) ∧
        ((s.queue q).halting = true)) :=
  ⟨⟨supplied [] { segs := [seg0, { seg0 with segId := 6 }], plan := some plan0, tau := 1 }, mkRef clsGroup 1, seg0,
    [{ seg0 with segId := 6 }], plan0, by decide +kernel⟩,
    ⟨supplied [] { segs := [seg0], plan := some plan0, tau := 1, halting := true }, mkRef clsGroup 1, seg0, [], plan0,
      by decide +kernel⟩⟩

/-- `Obligations.SupplyServesInArrivalOrder`, k = 1, 2, 3, 4, 5, 6, 7, 8. -/
theorem test_witness_SupplyServesInArrivalOrder :
      (∃ (s : State),
        ∀ y ∈ s.supply.reqs, s.waitedTooLong y = false ∧ canPay s.supply.levels [] y.costs = false) ∧
      (∃ (s : State) (r r2 : SupReq),
        (s.supply.reqs = [r, r2]) ∧
        (s.waitedTooLong r = false) ∧
        (s.waitedTooLong r2 = false) ∧
        (canPay s.supply.levels [] r.costs = false) ∧
        (∃ d c c2, (d, c) ∈ r.costs ∧ (d, c2) ∈ r2.costs)) ∧
      (∃ (s : State) (c : Instr),
        (∀ y ∈ s.supply.reqs, s.heldBack y = true) ∧
        (c ∈ [Instr.supplyRelease, Instr.startDeferred])) ∧
      (∃ (s : State) (r : SupReq) (h : Hdr) (n : Nat),
        (s.supply.reqs = [r]) ∧
        (s.heldBack r = false) ∧
        (r.kind = ReqKind.wake h n) ∧
        (s.waitedTooLong r = false) ∧
        (canPay s.supply.levels [] r.costs = true)) ∧
      (∃ (s : State) (r : SupReq) (h : Hdr) (axes : List Nat),
        (s.supply.reqs = [r]) ∧
        (s.heldBack r = false) ∧
        (r.kind = ReqKind.enable h axes) ∧
        (s.waitedTooLong r = false) ∧
        (canPay s.supply.levels [] r.costs = true) ∧
        (∀ a ∈ axes, s.enableCheck a = stOk) ∧
        (∃ a ∈ axes, (s.axis a).psEn = false)) ∧
      (∃ (s : State),
        ∀ y ∈ s.supply.reqs, s.waitedTooLong y = false) ∧
      (∃ (s : State) (r : SupReq) (h : Hdr) (axes : List Nat) (d c : Nat) (l : List (Nat × Nat)),
        (s.supply.reqs = [r]) ∧
        (s.heldBack r = false) ∧
        (r.kind = ReqKind.enable h axes) ∧
        (s.waitedTooLong r = true) ∧
        (r.costs = (d, c) :: l) ∧
        (tblGet 0 s.supply.levels d < c * 65536)) ∧
      (∃ (s : State) (r : SupReq) (q : Word) (g : Seg) (l : List Seg),
        (s.supply.reqs = [r]) ∧
        (s.heldBack r = false) ∧
        (r.kind = ReqKind.start q) ∧
        ((s.queue q).segs = g :: l) ∧
        (g.homing = false) ∧
        (s.waitedTooLong r = true)) :=
  ⟨⟨asking [enableReq 100] 655359 100, by decide +kernel⟩,
    ⟨asking [enableReq 100, wakeReq 100] 655359 100, enableReq 100, wakeReq 100, by decide +kernel, by decide +kernel,
      by decide +kernel, by decide +kernel, ⟨0, 10, 10, by decide +kernel⟩⟩,
    ⟨{ asking [enableReq 100] 655360 100 with host := { suspended := true } }, .supplyRelease, by decide +kernel⟩,
    ⟨asking [wakeReq 100] 655360 100, wakeReq 100, hdr 0, 63, by decide +kernel⟩,
    ⟨asking [enableReq 100] 655360 100, enableReq 100, hdr 0, [0], by decide +kernel⟩,
    ⟨asking [enableReq 100] 655360 100, by decide +kernel⟩,
    ⟨asking [enableReq 100] 655359 (10 ^ 9), enableReq 100, hdr 0, [0], 0, 10, [], by decide +kernel⟩,
    ⟨{ bound with supply := { reqs := [waitingReq 100] }, tick := { work.tick with no := 10 ^ 9 } }, waitingReq 100,
      mkRef clsGroup 1, seg0, [], by decide +kernel⟩⟩

/-- `Obligations.LoopsCloseAndAlign`, k = 1, 2, 3, 4, 5, 6, 7, 8. -/
theorem test_witness_LoopsCloseAndAlign_1 :
      (∃ (s : State) (a : Nat),
        s.closeDue a = false) ∧
      (∃ (s : State) (a : Nat),
        (s.closeDue a = true) ∧
        (s.holding a = false)) ∧
      (∃ (s : State) (a : Nat),
        (s.closeDue a = true) ∧
        (s.holding a = true)) ∧
      (∃ (s : State) (a : Nat),
        ((s.axis a).softStart = true) ∧
        (s.pU 4129 a * 1000000 ≤ (s.tick.no - (s.axis a).softT0) * s.P)) ∧
      (∃ (s : State) (a : Nat),
        (s.axis a).softStart = false ∨ (s.tick.no - (s.axis a).softT0) * s.P < s.pU 4129 a * 1000000) ∧
      (∃ (s : State) (a : Nat),
        (s.axis a).softStart = true ∧ (s.axis a).softRamp = true ∧ (s.axis a).lp.posRef = (s.axis a).softTarget) ∧
      (∃ (s : State) (a : Nat),
        ¬((s.axis a).softStart = true ∧ (s.axis a).softRamp = true ∧ (s.axis a).lp.posRef = (s.axis a).softTarget)) ∧
      (∃ (s : State) (a : Nat),
        ((s.axis a).softStart = true) ∧
        (¬((s.axis a).softStart = true ∧ (s.axis a).softRamp = true ∧ (s.axis a).lp.posRef = (s.axis a).softTarget)) ∧
        (s.pU 4130 a * 1000000 ≤ (s.tick.no - (s.axis a).softT0) * s.P)) :=
  ⟨⟨calm, 0, by decide +kernel⟩,
    ⟨sampled { psEn := true, commValid := true, fb := { started := true, psOnPrev := true } } false, 0, by decide +kernel⟩,
    ⟨sampled { psEn := true, commValid := true, fb := { started := true, psOnPrev := true } } true, 0, by decide +kernel⟩,
    ⟨axed { softStart := true, softT0 := 0 } true 1280, 0, by decide +kernel⟩,
    ⟨axed { softStart := true, softT0 := 0 } true 1279, 0, by decide +kernel⟩,
    ⟨axed { softStart := true, softRamp := true } true 1280, 0, by decide +kernel⟩,
    ⟨axed { softStart := true } true 1280, 0, by decide +kernel⟩,
    ⟨axed { softStart := true } true 64000, 0, by decide +kernel⟩⟩

/-- `Obligations.LoopsCloseAndAlign`, k = 9, 10, 11, 12, 13, 14, 15, 16. -/
theorem test_witness_LoopsCloseAndAlign_2 :
      (∃ (s : State) (a : Nat),
        (s.axis a).softStart = false ∨
          (s.axis a).softStart = true ∧ (s.axis a).softRamp = true ∧ (s.axis a).lp.posRef = (s.axis a).softTarget ∨
            (s.tick.no - (s.axis a).softT0) * s.P < s.pU 4130 a * 1000000) ∧
      (∃ (s : State) (a n : Nat),
        ((s.axis a).psOff = some n) ∧
        (n ≤ s.tick.no)) ∧
      (∃ (s : State) (a : Nat),
        ∀ (n : Nat), (s.axis a).psOff = some n → s.tick.no < n) ∧
      (∃ (s : State) (a : Nat),
        (s.axis a).align = none) ∧
      (∃ (s : State) (a : Nat) (g : AlignSt),
        ((s.axis a).align = some g) ∧
        (g.second = false) ∧
        (s.pU 4109 a * 500000 ≤ s.now - g.start)) ∧
      (∃ (s : State) (a : Nat) (g : AlignSt),
        ((s.axis a).align = some g) ∧
        (s.now - g.start < if g.second = true then 2 * (s.pU 4109 a * 500000) else s.pU 4109 a * 500000)) ∧
      (∃ (s : State) (a : Nat) (g : AlignSt),
        ((s.axis a).align = some g) ∧
        (g.second = true) ∧
        (2 * (s.pU 4109 a * 500000) ≤ s.now - g.start) ∧
        (4 * (4 * (s.pU 4105 a : Int) * ((s.axis a).lp.posFb - g.p1) - 2 ^ 32).natAbs ≤ 2 ^ 32)) ∧
      (∃ (s : State) (a : Nat) (g : AlignSt),
        ((s.axis a).align = some g) ∧
        (g.second = true) ∧
        (2 * (s.pU 4109 a * 500000) ≤ s.now - g.start) ∧
        (2 ^ 32 < 4 * (4 * (s.pU 4105 a : Int) * ((s.axis a).lp.posFb - g.p1) - 2 ^ 32).natAbs)) :=
  ⟨⟨axed { softStart := true } true 63999, 0, by decide +kernel⟩,
    ⟨axed { psOff := some 100, psEn := true } true 100, 0, 100, by decide +kernel⟩,
    ⟨axed { psOff := some 101, psEn := true } true 100, 0, by decide +kernel⟩,
    ⟨calm, 0, by decide +kernel⟩,
    ⟨axed { align := some { start := 0 } } false 4800, 0, { start := 0 }, by decide +kernel⟩,
    ⟨axed { align := some { start := 0 } } false 4799, 0, { start := 0 }, by decide +kernel⟩,
    ⟨axed { align := some { start := 0, second := true }, lp := { posFb := 268435456 } } false 9600, 0,
      { start := 0, second := true }, by decide +kernel⟩,
    ⟨axed { align := some { start := 0, second := true }, lp := { posFb := 0 } } false 9600, 0,
      { start := 0, second := true }, by decide +kernel⟩⟩

/-- `Obligations.HomingSearchesFollowTheirSteps`, k = 1, 2, 3, 4, 5, 6, 7, 8. -/
theorem test_witness_HomingSearchesFollowTheirSteps_1 :
      (∃ (s : State),
        (∀ w ∈ s.homeRoots, s.stageDue w = false) ∨ s.health.supLost.isSome = true) ∧
      (∃ (s : State) (a : Nat) (r : HomeRun) (k : Nat),
        (s.health.supLost = none) ∧
        (List.filter s.stageDue s.homeRoots = [r.root]) ∧
        (s.homeWaiting r.root = [(k, a)]) ∧
        ((s.axis a).home.run = some r) ∧
        (s.homeMethod a = 4)) ∧
      (∃ (s : State) (a : Nat) (r : HomeRun) (k : Nat),
        (s.health.supLost = none) ∧
        (List.filter s.stageDue s.homeRoots = [r.root]) ∧
        (s.homeWaiting r.root = [(k, a)]) ∧
        ((s.axis a).home.run = some r) ∧
        (s.homeMethod a ≠ 4) ∧
        (∀ (y : AxisRec), s.axisRec a = some y → 8 ≤ y.supply) ∧
        (-2 ^ 62 < (s.axis a).lp.hold) ∧
        ((s.axis a).lp.hold < 2 ^ 62)) ∧
      (∃ (s : State) (a : Nat),
        ¬((s.homeInput a).cand ≠ (s.homeInput a).level ∧
          Nat.max 1 (ticksOf s.P (s.pU 12313 a * 1000)) ≤ (s.homeInput a).run)) ∧
      (∃ (s : State) (a : Nat),
        (s.homeInput a).cand ≠ (s.homeInput a).level ∧ Nat.max 1 (ticksOf s.P (s.pU 12313 a * 1000)) ≤ (s.homeInput a).run) ∧
      (∃ (s : State) (a : Nat) (r : HomeRun),
        ((s.homeInput a).cand ≠ (s.homeInput a).level ∧
          Nat.max 1 (ticksOf s.P (s.pU 12313 a * 1000)) ≤ (s.homeInput a).run) ∧
        ((s.axis a).home.run = some r) ∧
        (r.next.isSome = true ∨ r.pEv.isSome = true ∨ r.ending = true)) ∧
      (∃ (s : State) (a : Nat) (r : HomeRun),
        ((s.homeInput a).cand ≠ (s.homeInput a).level ∧
          Nat.max 1 (ticksOf s.P (s.pU 12313 a * 1000)) ≤ (s.homeInput a).run) ∧
        ((s.axis a).home.run = some r) ∧
        (r.next = none) ∧
        (r.pEv = none) ∧
        (r.ending = false) ∧
        ((s.axis a).home.state = 1) ∧
        ((s.axis a).home.reversed = false) ∧
        ((s.homeInput a).cand = true)) ∧
      (∃ (s : State) (a : Nat) (r : HomeRun),
        ((s.homeInput a).cand ≠ (s.homeInput a).level ∧
          Nat.max 1 (ticksOf s.P (s.pU 12313 a * 1000)) ≤ (s.homeInput a).run) ∧
        ((s.axis a).home.run = some r) ∧
        (r.next = none) ∧
        (r.pEv = none) ∧
        (r.ending = false) ∧
        ((s.axis a).home.state = 1) ∧
        ((s.axis a).home.reversed = true) ∧
        ((s.homeInput a).cand = true)) :=
  ⟨⟨calm, Or.inl fun w h => of_decide_eq_true (List.all_eq_true.1
    (show (calm.homeRoots.all fun w => decide (calm.stageDue w = false)) = true by decide +kernel) w h)⟩,
    ⟨homingBy 4 { run := some waiting0 }, 0, waiting0, 0, by decide +kernel⟩,
    ⟨homing { run := some waiting0 }, 0, waiting0, 0, by decide +kernel⟩,
    ⟨homing { swHome := { cand := true, run := 0 } }, 0, by decide +kernel⟩,
    ⟨homing { swHome := switched true }, 0, by decide +kernel⟩,
    ⟨homing { run := some { begun with ending := true }, swHome := switched true }, 0, { begun with ending := true },
      by decide +kernel⟩,
    ⟨homingBy 0 { run := some { begun with seenActive := false }, state := 1, reversed := false, swHome := switched true },
      0, { begun with seenActive := false }, by decide +kernel⟩,
    ⟨homingBy 0 { run := some { begun with seenActive := false }, state := 1, reversed := true, swHome := switched true },
      0, { begun with seenActive := false }, by decide +kernel⟩⟩

/-- `Obligations.HomingSearchesFollowTheirSteps`, k = 9, 10, 11, 12. -/
theorem test_witness_HomingSearchesFollowTheirSteps_2 :
      (∃ (s : State) (a : Nat) (r : HomeRun),
        ((s.homeInput a).cand ≠ (s.homeInput a).level ∧
          Nat.max 1 (ticksOf s.P (s.pU 12313 a * 1000)) ≤ (s.homeInput a).run) ∧
        ((s.axis a).home.run = some r) ∧
        (r.next = none) ∧
        (r.pEv = none) ∧
        (r.ending = false) ∧
        ((s.axis a).home.state = 1) ∧
        ((s.axis a).home.reversed = true) ∧
        (r.seenActive = true) ∧
        ((s.homeInput a).cand = false)) ∧
      (∃ (s : State) (a : Nat) (r : HomeRun),
        ((s.homeInput a).cand ≠ (s.homeInput a).level ∧
          Nat.max 1 (ticksOf s.P (s.pU 12313 a * 1000)) ≤ (s.homeInput a).run) ∧
        ((s.axis a).home.run = some r) ∧
        (r.next = none) ∧
        (r.pEv = none) ∧
        (r.ending = false) ∧
        ((s.axis a).home.state = 2) ∧
        ((s.homeInput a).cand = false)) ∧
      (∃ (s : State) (a : Nat) (r : HomeRun),
        ((s.homeInput a).cand ≠ (s.homeInput a).level ∧
          Nat.max 1 (ticksOf s.P (s.pU 12313 a * 1000)) ≤ (s.homeInput a).run) ∧
        ((s.axis a).home.run = some r) ∧
        (r.next = none) ∧
        (r.pEv = none) ∧
        (r.ending = false) ∧
        ((s.axis a).home.state = 3) ∧
        ((s.homeInput a).cand = true) ∧
        (s.homeMethod a = 0)) ∧
      (∃ (s : State) (a : Nat) (r : HomeRun),
        ((s.homeInput a).cand ≠ (s.homeInput a).level ∧
          Nat.max 1 (ticksOf s.P (s.pU 12313 a * 1000)) ≤ (s.homeInput a).run) ∧
        ((s.axis a).home.run = some r) ∧
        (r.next = none) ∧
        (r.pEv = none) ∧
        (r.ending = false) ∧
        ((s.axis a).home.state = 3) ∧
        ((s.homeInput a).cand = true) ∧
        (s.homeMethod a = 1)) :=
  ⟨⟨homingBy 0 { run := some { begun with seenActive := true }, state := 1, reversed := true, swHome := switched false }, 0,
    { begun with seenActive := true }, by decide +kernel⟩,
    ⟨homingBy 0 { run := some { begun with seenActive := false }, state := 2, reversed := false, swHome := switched false },
      0, { begun with seenActive := false }, by decide +kernel⟩,
    ⟨homingBy 0 { run := some { begun with seenActive := false }, state := 3, reversed := false, swHome := switched true },
      0, { begun with seenActive := false }, by decide +kernel⟩,
    ⟨homingBy 1 { run := some { begun with seenActive := false }, state := 3, reversed := false, swHome := switched true },
      0, { begun with seenActive := false }, by decide +kernel⟩⟩

/-- `Obligations.HomingRunsEnd`, k = 1, 2, 3, 4, 5, 6, 7, 8. -/
theorem test_witness_HomingRunsEnd_1 :
      (∃ (s : State) (a : Nat) (c : Instr),
        ((s.axis a).home.run = none) ∧
        (c ∈ [Instr.homeDone a, Instr.homeChatter a, Instr.homeStallConfirmed a, Instr.homeTimeout a])) ∧
      (∃ (s : State) (a : Nat),
        s.limitTrip a = none) ∧
      (∃ (s : State) (a : Nat) (r : HomeRun),
        ((s.axis a).home.run = some r) ∧
        (9 ≤ (s.axis a).home.rejected)) ∧
      (∃ (s : State) (a : Nat) (r : HomeRun),
        ((s.axis a).home.run = some r) ∧
        ((s.axis a).home.rejected < 9)) ∧
      (∃ (s : State) (a : Nat) (r : HomeRun),
        ((s.axis a).home.run = some r) ∧
        (r.started = true ∧ (s.axis a).home.homed = false ∧ s.pU 12316 a * 1000000 < s.now - r.stageStart)) ∧
      (∃ (s : State) (a : Nat) (r : HomeRun),
        ((s.axis a).home.run = some r) ∧
        (¬(r.started = true ∧ (s.axis a).home.homed = false ∧ s.pU 12316 a * 1000000 < s.now - r.stageStart))) ∧
      (∃ (s : State) (a : Nat) (r : HomeRun) (bit : Nat),
        ((s.axis a).home.run = some r) ∧
        (s.limitTrip a = some bit) ∧
        (r.started = false)) ∧
      (∃ (s : State) (a : Nat) (r : HomeRun) (bit : Nat),
        ((s.axis a).home.run = some r) ∧
        (s.limitTrip a = some bit) ∧
        (r.started = true) ∧
        (r.pEv.isSome = true ∨ r.ending = true)) :=
  ⟨⟨calm, 0, .homeTimeout 0, by decide +kernel⟩,
    ⟨calm, 0, by decide +kernel⟩,
    ⟨homing { run := some begun, rejected := 9 }, 0, begun, by decide +kernel⟩,
    ⟨homing { run := some begun, rejected := 8 }, 0, begun, by decide +kernel⟩,
    ⟨axed { home := { run := some begun } } false (10 ^ 9), 0, begun, by decide +kernel⟩,
    ⟨axed { home := { run := some begun } } false 100, 0, begun, by decide +kernel⟩,
    ⟨homing { run := some homeRun0, swPos := switched true }, 0, homeRun0, 40, by decide +kernel⟩,
    ⟨homing { run := some { begun with ending := true }, swPos := switched true }, 0, { begun with ending := true }, 40,
      by decide +kernel⟩⟩

/-- `Obligations.HomingRunsEnd`, k = 9, 10, 11, 12, 13, 14. -/
theorem test_witness_HomingRunsEnd_2 :
      (∃ (s : State) (a : Nat) (r : HomeRun) (bit : Nat),
        ((s.axis a).home.run = some r) ∧
        (s.limitTrip a = some bit) ∧
        (r.started = true) ∧
        (r.pEv = none) ∧
        (r.ending = false) ∧
        (s.pU 12312 a = 1) ∧
        ((s.axis a).home.reversed = false)) ∧
      (∃ (s : State) (a : Nat) (r : HomeRun) (bit : Nat),
        ((s.axis a).home.run = some r) ∧
        (s.limitTrip a = some bit) ∧
        (r.started = true) ∧
        (r.pEv = none) ∧
        (r.ending = false) ∧
        (s.pU 12312 a ≠ 1 ∨ (s.axis a).home.reversed = true)) ∧
      (∃ (s : State) (a : Nat) (r : HomeRun),
        ((s.axis a).home.run = some r) ∧
        (s.stallHeld a = false)) ∧
      (∃ (s : State) (a : Nat) (r : HomeRun),
        ((s.axis a).home.run = some r) ∧
        (s.stallHeld a = true) ∧
        (∀ (y : AxisRec), s.axisRec a = some y → 8 ≤ y.supply)) ∧
      (∃ (s : State) (a : Nat) (r : HomeRun),
        ((s.axis a).home.run = some r) ∧
        (s.homeDue a = false)) ∧
      (∃ (s : State) (a : Nat) (r : HomeRun) (p : Int),
        ((s.axis a).home.run = some r) ∧
        (r.pEv = some p) ∧
        (r.evTick < s.tick.no)) :=
  ⟨⟨limitRev { run := some begun, state := 1, swNeg := switched true }, 0, begun, 41, by decide +kernel⟩,
    ⟨homing { run := some begun, state := 1, swNeg := switched true }, 0, begun, 41, by decide +kernel⟩,
    ⟨homing { run := some begun, state := 1 }, 0, begun, by decide +kernel⟩,
    ⟨stalled, 0, stallRun0, by decide +kernel⟩,
    ⟨homing { run := some { begun with pEv := some 5, evTick := 100 } }, 0, { begun with pEv := some 5, evTick := 100 },
      by decide +kernel⟩,
    ⟨homing { run := some { begun with pEv := some 5, evTick := 99 } }, 0, { begun with pEv := some 5, evTick := 99 }, 5,
      by decide +kernel⟩⟩

/-- `Obligations.TickEdgesActInOrder`, k = 1, 2, 3, 4. -/
theorem test_witness_TickEdgesActInOrder :
      (∃ (s : State) (c : Instr),
        (s.ticking = false) ∧
        (c ∈ [Instr.tickEdge, Instr.firstSelideTick])) ∧
      (∃ (s : State),
        s.firstSelideDue = false) ∧
      (∃ (s : State),
        (s.ticking = true) ∧
        (s.firstSelideDue = false)) ∧
      (∃ (s : State) (c : Instr),
        (s.ticking = true) ∧
        (s.firstSelideDue = true) ∧
        (c ∈ [Instr.tickEdge, Instr.firstSelideTick])) :=
  ⟨⟨rom, .tickEdge, by decide +kernel⟩,
    ⟨work, by decide +kernel⟩,
    ⟨{ work with tick := { work.tick with cycle := 31 } }, by decide +kernel⟩,
    ⟨{ work with tick := { work.tick with selide := false }, selide := { work.selide with started := true } }, .tickEdge,
      by decide +kernel⟩⟩

/-- `Obligations.TheDeadlineLatchSubstitutes`, k = 1, 2, 3, 4, 5, 6. -/
theorem test_witness_TheDeadlineLatchSubstitutes :
      (∃ (s : State),
        s.tick.running = false ∨ s.tick.latched = true) ∧
      (∃ (s : State),
        (s.tick.running = true) ∧
        (s.tick.latched = false)) ∧
      (∃ (s : State) (l slot a : Nat),
        (s.tick.running = true) ∧
        (s.tick.latched = false) ∧
        (l < 17) ∧
        (List.filter (fun e => decide (e.2 = a)) (s.logLane l).held = [(slot, a)]) ∧
        (∀ k < 17, k ≠ l → ∀ e ∈ (s.logLane k).held, e.2 ≠ a) ∧
        (s.axisAbsent a = false) ∧
        (s.captures l slot = true)) ∧
      (∃ (s : State) (l slot a : Nat),
        (s.tick.running = true) ∧
        (s.tick.latched = false) ∧
        (l < 17) ∧
        (List.filter (fun e => decide (e.2 = a)) (s.logLane l).held = [(slot, a)]) ∧
        (∀ k < 17, k ≠ l → ∀ e ∈ (s.logLane k).held, e.2 ≠ a) ∧
        (s.axisAbsent a = false) ∧
        (s.captures l slot = false)) ∧
      (∃ (s : State) (l : Nat),
        (s.tick.running = true) ∧
        (s.tick.latched = false) ∧
        (l < 17) ∧
        (∀ (k : Nat), k ≠ l → (s.logLane k).held = [] ∧ s.lostDue k = []) ∧
        ((List.filter (fun e => !s.axisAbsent e.2 && (List.map (fun e => e.2) (s.slotsDue l)).contains e.2 && !s.captures l
          e.1)
                (s.logLane l).held).length +
            (s.lostDue l).length ≠
          0)) ∧
      (∃ (s : State) (l : Nat),
        (s.tick.running = true) ∧
        (s.tick.latched = false) ∧
        (l < 17) ∧
        (∀ (k : Nat), k ≠ l → (s.logLane k).held = [] ∧ s.lostDue k = []) ∧
        ((List.filter (fun e => !s.axisAbsent e.2 && (List.map (fun e => e.2) (s.slotsDue l)).contains e.2 && !s.captures l
          e.1)
                (s.logLane l).held).length +
            (s.lostDue l).length =
          0)) :=
  ⟨⟨{ work with tick := { work.tick with latched := true } }, by decide +kernel⟩,
    ⟨work, by decide +kernel⟩,
    ⟨capturing, 0, 0, 0, by decide +kernel⟩,
    ⟨laned {}, 0, 0, 0, by decide +kernel⟩,
    ⟨laned {}, 0, by decide +kernel, by decide +kernel, by decide +kernel,
      fun k h => by cases k with | zero => exact absurd rfl h | succ k => exact ⟨rfl, rfl⟩, by decide +kernel⟩,
    ⟨capturing, 0, by decide +kernel, by decide +kernel, by decide +kernel,
      fun k h => by cases k with | zero => exact absurd rfl h | succ k => exact ⟨rfl, rfl⟩, by decide +kernel⟩⟩

/-- `Obligations.IntakeCutoffAndTelemetry`, k = 1, 2, 3, 4, 5, 6, 7, 8. -/
theorem test_witness_IntakeCutoffAndTelemetry :
      (∃ (s : State),
        (cellsWf s.host.window = true) ∧
        (s.ticking = false ∨ s.tick.cutoff = true)) ∧
      (∃ (s : State),
        (cellsWf s.host.window = true) ∧
        (s.ticking = true) ∧
        (s.tick.cutoff = false)) ∧
      (∃ (s : State),
        (cellsWf s.host.window = true) ∧
        (s.tick.selide = false ∨ s.tick.intakeDone = true)) ∧
      (∃ (s : State),
        (cellsWf s.host.window = true) ∧
        (s.tick.selide = true) ∧
        (s.tick.intakeDone = false)) ∧
      (∃ (s : State),
        (cellsWf s.host.window = true) ∧
        (s.fwAlive = false)) ∧
      (∃ (s : State),
        (cellsWf s.host.window = true) ∧
        (s.fwAlive = true) ∧
        (s.host.suspended = true)) ∧
      (∃ (s : State),
        (cellsWf s.host.window = true) ∧
        (s.fwAlive = true) ∧
        (s.host.suspended = false)) ∧
      (∃ (s : State),
        cellsWf s.host.window = true) :=
  ⟨⟨rom, by decide +kernel⟩,
    ⟨work, by decide +kernel⟩,
    ⟨rom, by decide +kernel⟩,
    ⟨onNode joinedNode {}, by decide +kernel⟩,
    ⟨rom, by decide +kernel⟩,
    ⟨{ work with host := { suspended := true } }, by decide +kernel⟩,
    ⟨work, by decide +kernel⟩,
    ⟨work, by decide +kernel⟩⟩

/-- `Obligations.LanePassesRunOncePerTick`, k = 1, 2, 3, 4, 5, 6, 7, 8. -/
theorem test_witness_LanePassesRunOncePerTick_1 :
      (∃ (s : State) (l : Fin 17) (n finish : Nat) (c : Instr),
        (s.pairOf ↑l = none) ∧
        (c ∈
          [Instr.laneEventDeadline l, Instr.laneEventSlack l, Instr.laneEventPass l 0 n finish,
            Instr.laneEventPass l 1 n finish])) ∧
      (∃ (s : State) (l : Fin 17) (n finish p : Nat) (c : Instr),
        (s.pairOf ↑l = some p) ∧
        (s.inTakeover ↑l = true ∨ s.tick.latched = true) ∧
        (c ∈ [Instr.laneEventPass l 0 n finish, Instr.laneEventPass l 1 n finish])) ∧
      (∃ (s : State) (l : Fin 17) (p : Nat),
        (s.pairOf ↑l = some p) ∧
        (s.inTakeover ↑l = false) ∧
        (s.tick.latched = false) ∧
        (s.tick.intakeDone = false ∨ (s.logLane ↑l).pass1 = true)) ∧
      (∃ (s : State) (l : Fin 17) (p : Nat),
        (s.pairOf ↑l = some p) ∧
        (s.inTakeover ↑l = false) ∧
        (s.tick.latched = false) ∧
        (s.tick.intakeDone = true) ∧
        ((s.logLane ↑l).pass1 = false)) ∧
      (∃ (s : State) (l : Fin 17) (p : Nat),
        (s.pairOf ↑l = some p) ∧
        (s.inTakeover ↑l = false) ∧
        (s.tick.latched = false) ∧
        ((s.logLane ↑l).pass1 = false ∨
          (s.logLane ↑l).pass2 = true ∨
            ¬∀ (e : Island), (s.eng e).published = true ∨ (s.eng e).late = true ∨ s.islandAlive e = false)) ∧
      (∃ (s : State) (l : Fin 17) (p : Nat),
        (s.pairOf ↑l = some p) ∧
        (s.inTakeover ↑l = false) ∧
        (s.tick.latched = false) ∧
        ((s.logLane ↑l).pass1 = true) ∧
        ((s.logLane ↑l).pass2 = false) ∧
        (∀ (e : Island), (s.eng e).published = true ∨ (s.eng e).late = true ∨ s.islandAlive e = false)) ∧
      (∃ (s : State) (l : Fin 17) (p : Nat),
        s.pairOf ↑l = some p) ∧
      (∃ (s : State) (l : Fin 17) (p : Nat),
        (s.pairOf ↑l = some p) ∧
        (s.laneSlack ↑l = true)) :=
  ⟨⟨lost {}, 0, 5, 20000, .laneEventPass 0 1 5 20000, by decide +kernel⟩,
    ⟨laned (taken (some 16) 100), 0, 5, 20000, 0, .laneEventPass 0 0 5 20000, by decide +kernel⟩,
    ⟨laned {}, 0, 0, by decide +kernel⟩,
    ⟨intaken {}, 0, 0, by decide +kernel⟩,
    ⟨intaken {}, 0, 0, by decide +kernel, by decide +kernel, by decide +kernel, Or.inl (by decide +kernel)⟩,
    ⟨engined { pass1 := true }, 0, 0, by decide +kernel, by decide +kernel, by decide +kernel, by decide +kernel,
      by decide +kernel, fun e => by cases e <;> decide +kernel⟩,
    ⟨intaken { pass1 := true }, 0, 0, by decide +kernel⟩,
    ⟨intaken { pass1 := true, pass2 := true }, 0, 0, by decide +kernel⟩⟩

/-- `Obligations.LanePassesRunOncePerTick`, k = 9, 10, 11. -/
theorem test_witness_LanePassesRunOncePerTick_2 :
      (∃ (s : State) (l : Fin 17) (p : Nat),
        (s.pairOf ↑l = some p) ∧
        (s.laneSlack ↑l = false)) ∧
      (∃ (s : State) (l : Fin 17) (p a k : Nat),
        (s.pairOf ↑l = some p) ∧
        (s.laneOf a = some (↑l, k)) ∧
        (s.userEntry (↑l) k a p = none)) ∧
      (∃ (s : State) (l : Fin 17) (p a k : Nat) (e : KEntry),
        (s.pairOf ↑l = some p) ∧
        (s.laneOf a = some (↑l, k)) ∧
        (s.userEntry (↑l) k a p = some e)) :=
  ⟨⟨intaken {}, 0, 0, by decide +kernel⟩,
    ⟨laned { skipFrom := some 0 }, 0, 0, 0, 0, by decide +kernel⟩,
    ⟨userBound, 0, 0, 0, 0, ⟨1, 64, 3000, 100⟩, by decide +kernel⟩⟩

/-- `Obligations.FeedbackAndIndexFaults`, k = 1, 2, 3, 4, 5, 6, 7, 8. -/
theorem test_witness_FeedbackAndIndexFaults_1 :
      (∃ (s : State) (a : Nat),
        (s.axis a).lp.plausRun = 3) ∧
      (∃ (s : State) (a : Nat),
        (s.axis a).lp.plausRun ≠ 3) ∧
      (∃ (s : State) (a : Nat),
        (3 ≤ (s.axis a).fb.consec) ∧
        ((s.axis a).fb.faulted = false)) ∧
      (∃ (s : State) (a : Nat),
        (s.axis a).fb.consec < 3 ∨ (s.axis a).fb.faulted = true) ∧
      (∃ (s : State) (a : Nat),
        (s.axis a).fb.idx = none ∨ s.pU 12322 a ≠ 1 ∨ (s.axis a).home.homed = false) ∧
      (∃ (s : State) (a : Nat) (c : Int),
        ((s.axis a).fb.idx = some c) ∧
        (s.pU 12322 a = 1) ∧
        ((s.axis a).home.homed = true) ∧
        ((s.axis a).home.cH = none)) ∧
      (∃ (s : State) (a : Nat) (c cH : Int),
        ((s.axis a).fb.idx = some c) ∧
        (s.pU 12322 a = 1) ∧
        ((s.axis a).home.homed = true) ∧
        ((s.axis a).home.cH = some cH) ∧
        ((if
                ↑(Nat.max 1 (if s.pU 12321 a = 0 then s.pU 16432 a else s.pU 12321 a)) <
                  2 *
                    ((c + (s.axis a).home.idxCorr - cH) %
                      ↑(Nat.max 1 (if s.pU 12321 a = 0 then s.pU 16432 a else s.pU 12321 a))) then
              (c + (s.axis a).home.idxCorr - cH) % ↑(Nat.max 1 (if s.pU 12321 a = 0 then s.pU 16432 a else s.pU 12321 a)) -
                ↑(Nat.max 1 (if s.pU 12321 a = 0 then s.pU 16432 a else s.pU 12321 a))
            else
              (c + (s.axis a).home.idxCorr - cH) %
                ↑(Nat.max 1 (if s.pU 12321 a = 0 then s.pU 16432 a else s.pU 12321 a))).natAbs ≤
          s.pU 12320 a)) ∧
      (∃ (s : State) (a : Nat) (c cH : Int),
        ((s.axis a).fb.idx = some c) ∧
        (s.pU 12322 a = 1) ∧
        ((s.axis a).home.homed = true) ∧
        ((s.axis a).home.cH = some cH) ∧
        (s.pU 12320 a <
          (if
                ↑(Nat.max 1 (if s.pU 12321 a = 0 then s.pU 16432 a else s.pU 12321 a)) <
                  2 *
                    ((c + (s.axis a).home.idxCorr - cH) %
                      ↑(Nat.max 1 (if s.pU 12321 a = 0 then s.pU 16432 a else s.pU 12321 a))) then
              (c + (s.axis a).home.idxCorr - cH) % ↑(Nat.max 1 (if s.pU 12321 a = 0 then s.pU 16432 a else s.pU 12321 a)) -
                ↑(Nat.max 1 (if s.pU 12321 a = 0 then s.pU 16432 a else s.pU 12321 a))
            else
              (c + (s.axis a).home.idxCorr - cH) %
                ↑(Nat.max 1 (if s.pU 12321 a = 0 then s.pU 16432 a else s.pU 12321 a))).natAbs)) :=
  ⟨⟨axed { closed := true, lp := { plausRun := 3 } } false 100, 0, by decide +kernel⟩,
    ⟨axed { closed := true, lp := { plausRun := 4 } } false 100, 0, by decide +kernel⟩,
    ⟨axed { closed := true, fb := { consec := 3 } } false 100, 0, by decide +kernel⟩,
    ⟨axed { closed := true, fb := { consec := 2 } } false 100, 0, by decide +kernel⟩,
    ⟨calm, 0, by decide +kernel⟩,
    ⟨indexed 5 { homed := true }, 0, 5, by decide +kernel⟩,
    ⟨indexed 4091 { homed := true, cH := some 5 }, 0, 4091, 5, by decide +kernel⟩,
    ⟨indexed 4090 { homed := true, cH := some 5, idxMiss := 3 }, 0, 4090, 5, by decide +kernel⟩⟩

/-- `Obligations.FeedbackAndIndexFaults`, k = 9, 10. -/
theorem test_witness_FeedbackAndIndexFaults_2 :
      (∃ (s : State) (a : Nat),
        (s.axis a).home.homed = false ∨ (s.axis a).home.idxMiss ≠ 3) ∧
      (∃ (s : State) (a : Nat),
        ((s.axis a).home.homed = true) ∧
        ((s.axis a).home.idxMiss = 3)) :=
  ⟨⟨indexed 5 { homed := true, idxMiss := 2 }, 0, by decide +kernel⟩,
    ⟨indexed 5 { homed := true, idxMiss := 3 }, 0, by decide +kernel⟩⟩

/-- `Obligations.LanesDegradeAndFail`, k = 1, 2, 3, 4, 5, 6, 7, 8. -/
theorem test_witness_LanesDegradeAndFail_1 :
      (∃ (s : State) (l : Fin 17),
        (s.logLane ↑l).degraded = false ∧
          (s.logLane ↑l).enterAt = none ∧
            s.tick.no ∈ (s.logLane ↑l).overruns ∧
              3 ≤ (List.filter (fun k => decide (s.tick.no < k + 32)) (s.logLane ↑l).overruns).length) ∧
      (∃ (s : State) (l : Fin 17),
        ¬((s.logLane ↑l).degraded = false ∧
            (s.logLane ↑l).enterAt = none ∧
              s.tick.no ∈ (s.logLane ↑l).overruns ∧
                3 ≤ (List.filter (fun k => decide (s.tick.no < k + 32)) (s.logLane ↑l).overruns).length)) ∧
      (∃ (s : State) (l : Fin 17),
        (s.logLane ↑l).degraded = true ∧
          (s.logLane ↑l).expiredSs1 = false ∧
            (s.pU 17 s.dev * 1000000 ≤ s.now - (s.logLane ↑l).degNs ∨
              3 ≤ (List.filter (fun k => decide (s.tick.no < k + 32)) (s.logLane ↑l).overruns).length)) ∧
      (∃ (s : State) (l : Fin 17),
        ¬((s.logLane ↑l).degraded = true ∧
            (s.logLane ↑l).expiredSs1 = false ∧
              (s.pU 17 s.dev * 1000000 ≤ s.now - (s.logLane ↑l).degNs ∨
                3 ≤ (List.filter (fun k => decide (s.tick.no < k + 32)) (s.logLane ↑l).overruns).length))) ∧
      (∃ (s : State) (l : Fin 17),
        (s.logLane ↑l).wide = true ∧
          (s.logLane ↑l).expiredSs1 = false ∧
            s.allByChoice ↑l = false ∧ s.pU 49155 s.dev * 1000000 ≤ s.now - (s.logLane ↑l).degNs) ∧
      (∃ (s : State) (l : Fin 17),
        ¬((s.logLane ↑l).wide = true ∧
            (s.logLane ↑l).expiredSs1 = false ∧
              s.allByChoice ↑l = false ∧ s.pU 49155 s.dev * 1000000 ≤ s.now - (s.logLane ↑l).degNs)) ∧
      (∃ (s : State) (p : Fin 17),
        (s.pair ↑p).working = false) ∧
      (∃ (s : State) (p : Fin 17),
        ((s.pair ↑p).working = true) ∧
        ((s.pair ↑p).reserve = true ∨ (s.pair ↑p).lane = none)) :=
  ⟨⟨laned { over3 with overruns := [69, 99, 100] }, 0, by decide +kernel⟩,
    ⟨laned { over3 with overruns := [68, 99, 100] }, 0, by decide +kernel⟩,
    ⟨laned { over3 with degraded := true, degNs := 3125000 }, 0, by decide +kernel⟩,
    ⟨laned { degraded := true, degNs := 3125000 }, 0, by decide +kernel⟩,
    ⟨late { wide := true }, 0, by decide +kernel⟩,
    ⟨laned { wide := true, degNs := 3125000 }, 0, by decide +kernel⟩,
    ⟨lost {}, 0, by decide +kernel⟩,
    ⟨laned {}, 16, by decide +kernel⟩⟩

/-- `Obligations.LanesDegradeAndFail`, k = 9, 10, 11, 13. -/
theorem test_witness_LanesDegradeAndFail_2 :
      (∃ (s : State) (p : Fin 17) (l : Nat),
        ((s.pair ↑p).working = true) ∧
        ((s.pair ↑p).reserve = false) ∧
        ((s.pair ↑p).lane = some l) ∧
        (s.health.moving = []) ∧
        ((s.logLane l).loss.isSome = true)) ∧
      (∃ (s : State) (p : Fin 17) (l : Nat),
        ((s.pair ↑p).working = true) ∧
        ((s.pair ↑p).reserve = false) ∧
        ((s.pair ↑p).lane = some l) ∧
        (s.health.moving = []) ∧
        ((s.logLane l).loss = none)) ∧
      (∃ (s : State),
        s.reserve = none) ∧
      (∃ (s : State) (q : Nat),
        s.reserve = some q) :=
  ⟨⟨laned { loss := some loss0 }, 0, 0, by decide +kernel⟩,
    ⟨work, 0, 0, by decide +kernel⟩,
    ⟨work, by decide +kernel⟩,
    ⟨laned {}, 16, by decide +kernel⟩⟩

/-- `Obligations.LanesAreTakenOverLostAndRehomed`, k = 1, 2, 3, 4, 5, 7, 8, 9. -/
theorem test_witness_LanesAreTakenOverLostAndRehomed_1 :
      (∃ (s : State) (l : Fin 17) (c : Instr),
        ((s.logLane ↑l).takeover = none) ∧
        (c ∈ [Instr.laneTakeover l, Instr.laneLost l])) ∧
      (∃ (s : State) (l : Fin 17) (e : Takeover) (q : Nat),
        ((s.logLane ↑l).takeover = some e) ∧
        (e.pair = some q)) ∧
      (∃ (s : State) (l : Fin 17) (e : Takeover) (q : Nat),
        ((s.logLane ↑l).takeover = some e) ∧
        (e.pair = some q) ∧
        (s.tick.no < e.firstTick ∨ (s.pair q).state ≠ lpTest)) ∧
      (∃ (s : State) (l : Fin 17) (e : Takeover) (q : Nat),
        ((s.logLane ↑l).takeover = some e) ∧
        (e.pair = some q) ∧
        (e.firstTick ≤ s.tick.no) ∧
        ((s.pair q).state = lpTest)) ∧
      (∃ (s : State) (l : Fin 17) (e : Takeover),
        ((s.logLane ↑l).takeover = some e) ∧
        (e.pair = none)) ∧
      (∃ (s : State) (l : Fin 17) (e : Takeover) (m : PlanMove) (k k' : Nat),
        ((s.logLane ↑l).takeover = some e) ∧
        (e.pair = none) ∧
        ((s.logLane ↑l).plan = [m]) ∧
        (m.full = true) ∧
        ((s.logLane ↑l).planHost = none) ∧
        (m.lane ≠ ↑l) ∧
        (s.laneOf m.axis = some (↑l, k)) ∧
        (s.slotFor m = some k')) ∧
      (∃ (s : State) (p : Fin 17),
        (s.pair ↑p).state ≠ lpRecover) ∧
      (∃ (s : State) (p : Fin 17),
        ((s.pair ↑p).state = lpRecover) ∧
        ((s.pair ↑p).fails < s.pU 64 s.dev)) :=
  ⟨⟨work, 0, .laneLost 0, by decide +kernel⟩,
    ⟨laned (taken (some 16) 100), 0, { failed := 0, pair := some 16, failNs := 0, firstTick := 100, prevStart := false },
      16, by decide +kernel⟩,
    ⟨laned (taken (some 16) 101), 0, { failed := 0, pair := some 16, failNs := 0, firstTick := 101, prevStart := false },
      16, by decide +kernel⟩,
    ⟨laned (taken (some 16) 100), 0, { failed := 0, pair := some 16, failNs := 0, firstTick := 100, prevStart := false },
      16, by decide +kernel⟩,
    ⟨lost (taken none 100), 0, { failed := 0, pair := none, failNs := 0, firstTick := 100, prevStart := false },
      by decide +kernel⟩,
    ⟨lost { taken none 100 with plan := [move1] }, 0,
      { failed := 0, pair := none, failNs := 0, firstTick := 100, prevStart := false }, move1, 0, 0, by decide +kernel⟩,
    ⟨work, 0, by decide +kernel⟩,
    ⟨recovering 0, 0, by decide +kernel⟩⟩

/-- `Obligations.LanesAreTakenOverLostAndRehomed`, k = 10, 11, 12, 13, 14. -/
theorem test_witness_LanesAreTakenOverLostAndRehomed_2 :
      (∃ (s : State) (p : Fin 17) (ok : Bool),
        ((s.pair ↑p).state = lpRecover) ∧
        (ok = false ∨ s.pU 64 s.dev ≤ (s.pair ↑p).fails)) ∧
      (∃ (s : State) (l : Fin 17),
        (s.logLane ↑l).loss = none ∨ s.reserve = none ∨ s.boundary = false ∨ s.tick.intakeDone = true) ∧
      (∃ (s : State) (l : Fin 17) (y : LaneLoss) (q : Nat),
        ((s.logLane ↑l).loss = some y) ∧
        (s.reserve = some q) ∧
        (s.boundary = true) ∧
        (s.tick.intakeDone = false)) ∧
      (∃ (s : State) (l : Fin 17) (y : LaneLoss) (q : Nat),
        ((s.logLane ↑l).loss = some y) ∧
        (s.reserve = some q) ∧
        (s.boundary = true) ∧
        (s.tick.intakeDone = false) ∧
        (y.moves = []) ∧
        (s.pairOf ↑l = none) ∧
        (s.health.moving = [])) ∧
      (∃ (s : State) (l : Fin 17) (y : LaneLoss) (q : Nat) (m : PlanMove) (k l2 k2 : Nat),
        ((s.logLane ↑l).loss = some y) ∧
        (s.reserve = some q) ∧
        (s.boundary = true) ∧
        (s.tick.intakeDone = false) ∧
        (y.moves = [(m, k)]) ∧
        (s.laneOf m.axis = some (l2, k2))) :=
  ⟨⟨recovering 1000, 0, true, by decide +kernel⟩,
    ⟨work, 0, by decide +kernel⟩,
    ⟨rehoming loss0, 0, loss0, 16, by decide +kernel⟩,
    ⟨rehoming loss0, 0, loss0, 16, by decide +kernel⟩,
    ⟨rehoming { loss0 with moves := [(move1, 0)] }, 0, { loss0 with moves := [(move1, 0)] }, 16, move1, 0, 0, 0,
      by decide +kernel⟩⟩

/-- `Obligations.SupervisorTakesOverOrIsLost`, k = 1, 2, 3, 5, 6, 7, 8, 9. -/
theorem test_witness_SupervisorTakesOverOrIsLost_1 :
      (∃ (s : State) (c : SupLossCause) (i : Instr),
        (s.fwAlive = false) ∧
        (i ∈ [Instr.supervisorLockstepMismatch, Instr.supervisorLoss c])) ∧
      (∃ (s : State),
        (s.fwAlive = true) ∧
        (s.host.standby = true ∧ s.host.supSingle = false ∧ s.host.suspended = false)) ∧
      (∃ (s : State),
        (s.fwAlive = true) ∧
        (¬(s.host.standby = true ∧ s.host.supSingle = false ∧ s.host.suspended = false))) ∧
      (∃ (s : State),
        (s.fwAlive = true) ∧
        (s.host.supSingle = true)) ∧
      (∃ (s : State),
        (s.fwAlive = true) ∧
        (s.host.supSingle = false)) ∧
      (∃ (s : State),
        (s.fwAlive = true) ∧
        (2 ≤ s.host.hbAge)) ∧
      (∃ (s : State),
        (s.fwAlive = true) ∧
        (s.host.hbAge < 2)) ∧
      (∃ (s : State),
        (s.host.suspended = true) ∧
        (s.health.supLost = none) ∧
        (cellsWf s.host.window = true)) :=
  ⟨⟨lostSup 5, .heartbeatStall, .supervisorLoss .heartbeatStall, by decide +kernel⟩,
    ⟨standby {}, by decide +kernel⟩,
    ⟨{ work with host := { standby := false } }, by decide +kernel⟩,
    ⟨{ work with host := { supSingle := true } }, by decide +kernel⟩,
    ⟨work, by decide +kernel⟩,
    ⟨{ work with host := { hbAge := 2 } }, by decide +kernel⟩,
    ⟨{ work with host := { hbAge := 1 } }, by decide +kernel⟩,
    ⟨standby { suspended := true }, by decide +kernel⟩⟩

/-- `Obligations.SupervisorTakesOverOrIsLost`, k = 10, 11, 12, 13, 14, 15. -/
theorem test_witness_SupervisorTakesOverOrIsLost_2 :
      (∃ (s : State),
        s.host.suspended = false ∨ s.health.supLost.isSome = true) ∧
      (∃ (s : State) (a b : Bool),
        (s.host.supSingle = true) ∧
        (s.host.suspended = false) ∧
        ((a || b) = true)) ∧
      (∃ (s : State),
        (s.host.supSingle = true) ∧
        (s.host.suspended = false)) ∧
      (∃ (s : State),
        s.host.supSingle = false ∨ s.host.suspended = true) ∧
      (∃ (s : State) (t0 : Nat),
        (s.health.supLost = some t0) ∧
        (s.health.supStopped = false) ∧
        (t0 + 100000000 ≤ s.now)) ∧
      (∃ (s : State),
        s.health.supLost = none ∨ s.health.supStopped = true ∨ ∃ t0, s.health.supLost = some t0 ∧ s.now < t0 + 100000000) :=
  ⟨⟨work, by decide +kernel⟩,
    ⟨{ work with host := { supSingle := true } }, true, true, by decide +kernel⟩,
    ⟨{ work with host := { supSingle := true } }, by decide +kernel⟩,
    ⟨work, by decide +kernel⟩,
    ⟨{ lostSup 3125000 with tick := { work.tick with t0Ns := 103125000 } }, 3125000, by decide +kernel⟩,
    ⟨work, by decide +kernel⟩⟩

/-- `Obligations.MemoryErrorsActOnTheirMemory`, k = 2, 4, 5, 6, 11, 12. -/
theorem test_witness_MemoryErrorsActOnTheirMemory :
      (∃ (s : State),
        (s.fwAlive = true) ∧
        (s.host.standby = true) ∧
        (s.host.supSingle = false) ∧
        (s.host.suspended = false)) ∧
      (∃ (s : State) (k : Fin 4) (x : Struct),
        s.struct? ↑k = some x) ∧
      (∃ (s : State),
        s.solver.solve.isSome = true) ∧
      (∃ (s : State),
        s.solver.solve = none) ∧
      (∃ (s : State) (p : Fin 17),
        ((s.pair ↑p).working = true) ∧
        ((s.pair ↑p).reserve = true) ∧
        (∀ k < 17, (s.logLane k).takeover = none ∧ (s.logLane k).loss = none)) ∧
      (∃ (s : State) (address : Nat) (p : Fin 17) (k : Nat) (x : Takeover) (e : Nat × Nat),
        (k < 17) ∧
        ((s.logLane k).takeover = some x) ∧
        (x.failed = ↑p) ∧
        (∀ j < 17, j ≠ k → (s.logLane j).takeover = none) ∧
        (s.userModule.copyRegion
            (fun n => (List.find? (fun y => decide (y.1 = n)) (s.logLane k).held).elim 0 fun y => s.lastBank y.2) address =
          some e)) :=
  ⟨⟨standby {}, by decide +kernel⟩,
    ⟨resident, 0, struct0, by decide +kernel⟩,
    ⟨solving solve0, by decide +kernel⟩,
    ⟨work, by decide +kernel⟩,
    ⟨laned {}, 16, by decide +kernel⟩,
    ⟨laned (taken none 100), 24, 0, 0, { failed := 0, pair := none, failNs := 0, firstTick := 100, prevStart := false },
      (64, 3), by decide +kernel⟩⟩

/-- `Obligations.MarginsClocksAndTemperature`, k = 2, 3, 4, 5, 6, 7, 9, 10. -/
theorem test_witness_MarginsClocksAndTemperature_1 :
      (∃ (s : State) (d : Fin 5),
        ¬((∃ n, (s.clk ↑d).ready = some n ∧ n ≤ s.tick.no) ∧ s.boundary = true ∧ s.stepBlocked = false)) ∧
      (∃ (s : State) (d : Fin 5),
        (∃ n, (s.clk ↑d).ready = some n ∧ n ≤ s.tick.no) ∧ s.boundary = true ∧ s.stepBlocked = false) ∧
      (∃ (s : State) (d : Fin 5),
        ¬∃ t0,
            (s.clk ↑d).dueNs = some t0 ∧
              (s.clk ↑d).pending = true ∧
                (s.clk ↑d).forcing = false ∧
                  (s.pU 49153 s.dev * 3600000000000 ≤ s.now - t0 ∨ (s.clk ↑d).margin < s.pU 49154 s.dev)) ∧
      (∃ (s : State) (d : Fin 5),
        ∃ t0,
          (s.clk ↑d).dueNs = some t0 ∧
            (s.clk ↑d).pending = true ∧
              (s.clk ↑d).forcing = false ∧
                (s.pU 49153 s.dev * 3600000000000 ≤ s.now - t0 ∨ (s.clk ↑d).margin < s.pU 49154 s.dev)) ∧
      (∃ (s : State) (d : Fin 5),
        (∃ t0,
          (s.clk ↑d).dueNs = some t0 ∧
            (s.clk ↑d).pending = true ∧
              (s.clk ↑d).forcing = false ∧
                (s.pU 49153 s.dev * 3600000000000 ≤ s.now - t0 ∨ (s.clk ↑d).margin < s.pU 49154 s.dev)) ∧
        (↑d ≠ 1)) ∧
      (∃ (s : State) (d : Fin 5) (l g : Nat),
        (∃ t0,
          (s.clk ↑d).dueNs = some t0 ∧
            (s.clk ↑d).pending = true ∧
              (s.clk ↑d).forcing = false ∧
                (s.pU 49153 s.dev * 3600000000000 ≤ s.now - t0 ∨ (s.clk ↑d).margin < s.pU 49154 s.dev)) ∧
        (↑d = 1) ∧
        (s.laneMisfit ((s.clk ↑d).steps + 1) = some l) ∧
        (s.heaviestGroup l = some g)) ∧
      (∃ (s : State) (temp : Int),
        (s.health.thermalArmed = true) ∧
        (1100 < temp)) ∧
      (∃ (s : State) (temp : Int),
        s.health.thermalArmed = false ∨ temp ≤ 1100) :=
  ⟨⟨work, 1, by decide +kernel⟩,
    ⟨clocked { ready := some 100, pending := true } 0, 0, by decide +kernel⟩,
    ⟨work, 1, by decide +kernel⟩,
    ⟨crowded, 1, by decide +kernel⟩,
    ⟨clocked { dueNs := some 0, pending := true } 0, 0, by decide +kernel⟩,
    ⟨crowded, 1, 0, 1, by decide +kernel⟩,
    ⟨work, 1101, by decide +kernel⟩,
    ⟨work, 1100, by decide +kernel⟩⟩

/-- `Obligations.MarginsClocksAndTemperature`, k = 11, 12, 13, 14. -/
theorem test_witness_MarginsClocksAndTemperature_2 :
      (∃ (s : State) (u : CalUnit) (n : Nat),
        ∃ k c, u = CalUnit.selide k c ∧ s.channelInUse (↑k) (chanNo c) n = true) ∧
      (∃ (s : State) (u : CalUnit) (n : Nat),
        ¬∃ k c, u = CalUnit.selide k c ∧ s.channelInUse (↑k) (chanNo c) n = true) ∧
      (∃ (s : State),
        s.power.reset = false) ∧
      (∃ (s : State),
        s.power.reset = true) :=
  ⟨⟨onNode joinedNode {}, .selide 3 .A, 2500, ⟨3, .A, rfl, by decide +kernel⟩⟩,
    ⟨work, .pll, 5000, by rintro ⟨_, _, h, _⟩; cases h⟩,
    ⟨run, by decide +kernel⟩,
    ⟨.reset, by decide +kernel⟩⟩

/-! ### A structure that STRUCT_LOAD takes (`Obligations.CapacityAndStructureCommands`, k = 7) -/


theorem cellRead_cellsAt_below (l : List Byte) : ∀ off a, a < off → cellRead (cellsAt off l) a = 0 := by
  induction l with
  | nil => intros; rfl
  | cons b r ih =>
    intro off a h
    have := ih (off + 1) a (by omega)
    unfold cellsAt
    split
    · exact this
    · simp only [cellRead]; rw [if_neg (by omega)]; exact this

theorem readCells_congr {w : Nat} (m m' : Cells w) : ∀ n off, (∀ a, off ≤ a → cellRead m a = cellRead m' a) →
    readCells m off n = readCells m' off n := by
  intro n
  induction n with
  | zero => intros; rfl
  | succ n ih =>
    intro off h
    simp only [readCells]
    rw [h off (by omega), ih (off + 1) fun a ha => h a (by omega)]

/-- What was laid down is read back. -/
theorem readCells_cellsAt (l : List Byte) : ∀ off, readCells (cellsAt off l) off l.length = l := by
  induction l with
  | nil => intros; rfl
  | cons b r ih =>
    intro off
    simp only [List.length_cons, readCells]
    have hb : cellRead (cellsAt off (b :: r)) off = b := by
      unfold cellsAt
      split
      · rename_i h; rw [cellRead_cellsAt_below _ _ _ (by omega), h]
      · simp [cellRead]
    have hr : readCells (cellsAt off (b :: r)) (off + 1) r.length = readCells (cellsAt (off + 1) r) (off + 1) r.length := by
      apply readCells_congr
      intro a ha
      have e : cellsAt off (b :: r) = if b = 0 then cellsAt (off + 1) r else (off, b) :: cellsAt (off + 1) r := rfl
      rw [e]
      split
      · rfl
      · rw [cellRead, if_neg (by omega)]
    rw [hb, hr, ih]

/-! A header that `imgOf` writes passes the checks of R32. -/

theorem crcStepR_lt (k : Nat) : ∀ c, c < 2 ^ 32 → crcStepR 0xEDB88320 k c < 2 ^ 32 := by
  induction k with
  | zero => intro c h; exact h
  | succ k ih =>
    intro c h
    apply ih
    split
    · exact Nat.xor_lt_two_pow (by omega) (by decide)
    · omega

theorem crcRefl_lt (l : List Byte) : ∀ c, c < 2 ^ 32 → crcRefl 0xEDB88320 c l < 2 ^ 32 := by
  induction l with
  | nil => intro c h; exact h
  | cons b r ih => intro c h; exact ih _ (crcStepR_lt _ _ (Nat.xor_lt_two_pow h (by have := b.isLt; omega)))

theorem crc32_lt (l : List Byte) : crc32 l < 2 ^ 32 := Nat.xor_lt_two_pow (crcRefl_lt l _ (by decide)) (by decide)

theorem leNat_bytesLE4 (c : Nat) (h : c < 2 ^ 32) : leNat (bytesLE 4 c) = c := by
  simp only [bytesLE, leNat, BitVec.toNat_ofNat]; omega

theorem length_bytesLE (n : Nat) : ∀ v, (bytesLE n v).length = n := by
  induction n with
  | zero => intro v; rfl
  | succ n ih => intro v; simp only [bytesLE, List.length_cons, ih]

theorem length_imgOf (kind : Nat) (body : List Byte) : (imgOf kind body).length = 32 + body.length := by
  simp only [imgOf, List.length_append, length_bytesLE, List.length_replicate, List.length_cons, List.length_nil]

theorem header_imgOf (body : List Byte) (hb : body.length % 4 = 0) (hl : body.length < 2 ^ 24) :
    imageHeaderError 0 (imgOf 5 body) (imgOf 5 body).length = 0 := by
  have h1 : fieldAt (imgOf 5 body) 8 4 = leNat (bytesLE 4 (32 + body.length)) := rfl
  have h2 : fieldAt (imgOf 5 body) 20 4 =
      leNat (bytesLE 4 (crc32 ((imgOf 5 body).take 20 ++ [0, 0, 0, 0] ++ (imgOf 5 body).drop 24))) := rfl
  rw [leNat_bytesLE4 _ (by omega)] at h1
  rw [leNat_bytesLE4 _ (crc32_lt _)] at h2
  have h0 : fieldAt (imgOf 5 body) 0 4 = 0x4643425A := (rfl : _ = leNat (bytesLE 4 0x4643425A)).trans (by decide)
  have hk : imageKind (imgOf 5 body) = 5 := rfl
  have h3 : fieldAt (imgOf 5 body) 13 3 = 0 := rfl
  have h4 : fieldAt (imgOf 5 body) 24 8 = 0 := (rfl : _ = leNat (List.replicate 8 0)).trans (by decide)
  have h5 : fieldAt (imgOf 5 body) 12 1 = 0xFF := rfl
  have h6 : fieldAt (imgOf 5 body) 6 2 = 3 := rfl
  have hL := length_imgOf 5 body
  unfold imageHeaderError
  rw [if_neg, if_neg, if_neg]
  · simp [h6]
  · simp [hk, h3, h4, h5]
  · simp only [hL, h0, h1, ← h2]; omega

/-! The entries of a word list that stand between two parts of a body. -/

theorem fieldAt_append (a l : List Byte) (off n : Nat) : fieldAt (a ++ l) (a.length + off) n = fieldAt l off n := by
  simp only [fieldAt, slice, List.drop_length_add_append]

theorem words_read (c : List Byte) : ∀ (l : List Nat) (a : List Byte), (∀ x ∈ l, x < 2 ^ 32) →
    (List.range l.length).map (fun j => fieldAt (a ++ (l.flatMap (bytesLE 4) ++ c)) (a.length + 4 * j) 4) = l := by
  intro l
  induction l with
  | nil => intros; rfl
  | cons x r ih =>
    intro a h
    rw [List.length_cons, List.range_succ_eq_map, List.map_cons, List.map_map]
    have e1 : fieldAt (a ++ ((x :: r).flatMap (bytesLE 4) ++ c)) (a.length + 4 * 0) 4 = x := by
      rw [fieldAt_append]
      exact (rfl : _ = leNat (bytesLE 4 x)).trans (leNat_bytesLE4 x (h x (List.mem_cons_self ..)))
    have e2 := ih (a ++ bytesLE 4 x) fun y hy => h y (List.mem_cons_of_mem _ hy)
    rw [e1]
    congr 1
    refine Eq.trans (List.map_congr_left fun j _ => ?_) e2
    simp only [Function.comp_apply, List.flatMap_cons, List.append_assoc, List.length_append, length_bytesLE]
    congr 1; omega

/-! A pattern in which every place has one later neighbour fills nothing. -/

theorem foldl_star (sets : Array (List Nat)) (h : ∀ k, (dedup (sortNat (sets.getD k []))).length ≤ 1) (l : List Nat) :
    ∀ m, (l.foldl (fun (st : Array (List Nat) × Nat) k =>
      let later := dedup (sortNat (st.1.getD k []))
      match later with
      | [] => st
      | j :: r => (st.1.modify j (fun l => r ++ l), st.2 + r.length + 1)) (sets, m)).2 ≤ m + l.length := by
  induction l with
  | nil => intro m; simp
  | cons k r ih =>
    intro m
    rw [List.foldl_cons]
    have hk := h k
    match hd : dedup (sortNat (sets.getD k [])), hk with
    | [], _ =>
      exact Nat.le_trans (ih m) (by simp)
    | [j], _ =>
      simp only [List.nil_append, List.length_nil, Nat.add_zero]
      have : sets.modify j (fun l => l) = sets := by
        apply Array.ext <;> simp [Array.getElem_modify]
      rw [this]
      exact Nat.le_trans (ih (m + 1)) (by simp only [List.length_cons]; omega)
    | _ :: _ :: _, hk => simp at hk

theorem mem_insertNat (a x : Nat) (l : List Nat) (h : x ∈ insertNat a l) : x = a ∨ x ∈ l := by
  induction l with
  | nil => simpa [insertNat] using h
  | cons b r ih =>
    unfold insertNat at h
    split at h
    · simpa using h
    · rcases List.mem_cons.1 h with rfl | h
      · simp
      · rcases ih h with h | h <;> simp [h]

theorem mem_sortNat (x : Nat) (l : List Nat) (h : x ∈ sortNat l) : x ∈ l := by
  induction l with
  | nil => exact h
  | cons a r ih => rcases mem_insertNat a x _ h with rfl | h
                   · exact List.mem_cons_self ..
                   · exact List.mem_cons_of_mem _ (ih h)

theorem dedup_one (n : Nat) (l : List Nat) (h : ∀ x ∈ l, x = n) : (dedup l).length ≤ 1 := by
  induction l with
  | nil => simp [dedup]
  | cons a r ih =>
    have ha : a = n := h a (by simp)
    have hs : ∀ x ∈ dedup r, x = n := by
      have : ∀ l : List Nat, ∀ x ∈ dedup l, x ∈ l := by
        intro l
        induction l with
        | nil => simp [dedup]
        | cons a r ih => intro x hx; simp only [dedup, List.mem_cons, List.mem_filter] at hx ⊢; rcases hx with h | h
                         · exact .inl h
                         · exact .inr (ih x h.1)
      exact fun x hx => h x (List.mem_cons_of_mem _ (this r x hx))
    have : (dedup r).filter (· ≠ a) = [] := by
      rw [List.filter_eq_nil_iff]; intro x hx; simp [hs x hx, ha]
    rw [dedup, this]; exact Nat.le_refl 1

theorem sets_star (place : Nat → Nat) (n : Nat) (edges : List (Nat × Nat))
    (h : ∀ e ∈ edges, Nat.max (place e.1) (place e.2) = n) : ∀ (a : Array (List Nat)), (∀ k, ∀ x ∈ a.getD k [], x = n) →
    ∀ k, ∀ x ∈ (edges.foldl (fun (a : Array (List Nat)) e =>
      a.modify (Nat.min (place e.1) (place e.2)) fun l => Nat.max (place e.1) (place e.2) :: l) a).getD k [], x = n := by
  induction edges with
  | nil => intro a ha; exact ha
  | cons e r ih =>
    intro a ha
    rw [List.foldl_cons]
    apply ih fun e he => h e (List.mem_cons_of_mem _ he)
    intro k x hx
    have he := h e (List.mem_cons_self ..)
    rw [he] at hx
    have hg := ha k
    simp only [Array.getD_eq_getD_getElem?, Array.getElem?_modify] at hx hg
    split at hx
    · cases hq : a[k]? with
      | none => simp [hq] at hx
      | some l =>
        simp only [hq, Option.map_some, Option.getD_some, List.mem_cons] at hx hg
        rcases hx with h | h
        · exact h
        · exact hg x h
    · exact hg x hx

theorem place_le (n : Nat) (l : List (Nat × Nat)) (h : ∀ p ∈ l, p.2 ≤ n) : ∀ a : Array Nat, (∀ j, a.getD j 0 ≤ n) →
    ∀ j, (l.foldl (fun (a : Array Nat) p => a.setIfInBounds p.1 p.2) a).getD j 0 ≤ n := by
  induction l with
  | nil => intro a ha; exact ha
  | cons p r ih =>
    intro a ha
    rw [List.foldl_cons]
    apply ih fun q hq => h q (List.mem_cons_of_mem _ hq)
    intro j
    have hp := h p (List.mem_cons_self ..)
    have hj := ha j
    simp only [Array.getD_eq_getD_getElem?, Array.getElem?_setIfInBounds] at hj ⊢
    split
    · split <;> simp [hp]
    · exact hj

theorem size_place (l : List (Nat × Nat)) : ∀ a : Array Nat,
    (l.foldl (fun (a : Array Nat) p => a.setIfInBounds p.1 p.2) a).size = a.size := by
  induction l with
  | nil => intro a; rfl
  | cons p r ih => intro a; rw [List.foldl_cons, ih]; simp

theorem nnzL_star (s : State) (x : Struct) (hp : x.perm = List.range' 1 2049 ++ [0]) (he : ∀ e ∈ s.kktEdges x, e.1 = 0) :
    s.nnzL x ≤ 2050 := by
  let z := (x.perm.zip (upTo x.perm.length))
  let a := z.foldl (fun (a : Array Nat) p => a.setIfInBounds p.1 p.2) (Array.replicate x.perm.length 0)
  have hn : x.perm.length = 2050 := by rw [hp]; simp
  have hle : ∀ j, a.getD j 0 ≤ 2049 := by
    apply place_le
    · intro p hq
      have := (List.of_mem_zip hq).2
      rw [hn, upTo, List.mem_range] at this
      omega
    · intro j; simp only [Array.getD_eq_getD_getElem?, Array.getElem?_replicate]; split <;> simp
  have h0 : a.getD 0 0 = 2049 := by
    have hz : z = (List.range' 1 2049).zip (List.range 2049) ++ [(0, 2049)] := by
      show x.perm.zip (List.range x.perm.length) = _
      rw [hn, hp, List.range_succ, List.zip_append (by simp)]; rfl
    show Array.getD (z.foldl _ _) 0 0 = _
    rw [hz, List.foldl_append, List.foldl_cons, List.foldl_nil]
    simp only [Array.getD_eq_getD_getElem?, Array.getElem?_setIfInBounds, size_place, Array.size_replicate, hn]
    simp
  have hs := sets_star (fun j => a.getD j 0) 2049 (s.kktEdges x)
    (fun e h => by rw [he e h, h0]; exact Nat.max_eq_left (hle _))
    (Array.replicate x.perm.length []) (fun k y hy => by
      simp only [Array.getD_eq_getD_getElem?, Array.getElem?_replicate] at hy; split at hy <;> simp at hy)
  have := foldl_star _ (fun k => dedup_one 2049 _ fun y hy => hs k y (mem_sortNat y _ hy)) (upTo x.perm.length) 0
  refine Nat.le_trans this ?_
  simp [upTo, hn]

theorem structOk_perm (s : State) (x : StructImg) (h : s.structOk { x with st := { x.st with perm := [] } } = true)
    (ha : (x.st.perm.all fun k => decide (k < x.orderK)) = true) (hn : noDup x.st.perm = true) : s.structOk x = true := by
  unfold State.structOk at h ⊢
  simp only [Bool.and_eq_true] at h ⊢
  exact ⟨⟨h.1.1, ha⟩, hn⟩

/-- A record at the head of a body is parsed. -/
theorem parseRecs_imgRec (n type : Nat) (obj : Word) (body rest : List Byte) (ht : type < 2 ^ 16) (hb : body.length % 4 = 0)
    (hl : body.length < 2 ^ 15) :
    parseRecs (n + 1) (imgRec type obj body ++ rest) = (parseRecs n rest).map fun r => ⟨type, obj, body⟩ :: r := by
  have le2 : ∀ v, v < 2 ^ 16 → leNat (bytesLE 2 v) = v := by
    intro v h; simp only [bytesLE, leNat, BitVec.toNat_ofNat]; omega
  have e0 : fieldAt (imgRec type obj body ++ rest) 0 2 = type := (rfl : _ = leNat (bytesLE 2 type)).trans (le2 _ ht)
  have e2 : fieldAt (imgRec type obj body ++ rest) 2 2 = 8 + body.length :=
    (rfl : _ = leNat (bytesLE 2 (8 + body.length))).trans (le2 _ (by omega))
  have e4 : fieldAt (imgRec type obj body ++ rest) 4 4 = obj.toNat :=
    (rfl : _ = leNat (bytesLE 4 obj.toNat)).trans (leNat_bytesLE4 _ obj.isLt)
  have hL : (imgRec type obj body).length = 8 + body.length := by
    simp only [imgRec, List.length_append, length_bytesLE]
  have es : slice (imgRec type obj body ++ rest) 8 (8 + body.length - 8) = body := by
    show (body ++ rest).take (8 + body.length - 8) = body
    rw [Nat.add_sub_cancel_left, List.take_left]
  have ed : (imgRec type obj body ++ rest).drop (8 + body.length) = rest := by rw [← hL, List.drop_left]
  have hne : (imgRec type obj body ++ rest).isEmpty = false := rfl
  rw [parseRecs]
  simp only [e0, e2, e4, es, ed, hne, List.length_append, hL, BitVec.ofNat_toNat, BitVec.setWidth_eq]
  rw [if_neg (by decide), if_neg (by omega)]

/-! An image of a structure: one SIGMA variable, one block of every pair row. -/

def structHead : List Byte := bytesLE 2 1 ++ List.replicate 10 0 ++ bytesLE 2 1 ++ List.replicate 10 0
def structVar : List Byte := bytesLE 4 0 ++ [1, 0, 0, 0] ++ bytesLE 8 0 ++ bytesLE 8 0x3FF0000000000000 ++ bytesLE 8 0
def structBlock : List Byte := bytesLE 4 0xFFFFFFFF ++ bytesLE 2 2048 ++ List.replicate 10 0
def structOrder : List Nat := List.range' 1 2049 ++ [0]
def structOrderB : List Byte := bytesLE 4 2050 ++ bytesLE 4 0 ++ (structOrder.flatMap (bytesLE 4) ++ bytesLE 4 0)
def structRecs : List ImgRec :=
  [⟨0x0201, mkRef clsStruct 0, structHead⟩, ⟨0x0202, mkRef clsGroup 1, structVar⟩, ⟨0x0205, mkRef clsGroup 1, structBlock⟩,
   ⟨0x0206, mkRef clsStruct 0, structOrderB⟩]
def structBody : List Byte :=
  imgRec 0x0201 (mkRef clsStruct 0) structHead ++ (imgRec 0x0202 (mkRef clsGroup 1) structVar ++
    (imgRec 0x0205 (mkRef clsGroup 1) structBlock ++ (imgRec 0x0206 (mkRef clsStruct 0) structOrderB ++ [])))
def structFull : List Byte := imgOf 5 structBody
def structPlain : StructImg :=
  { handle := mkRef clsStruct 0, head := structHead, reserved := true, orderObj := mkRef clsStruct 0, orderK := 2050
    entryObjs := [], armObjs := [mkRef clsGroup 1]
    st := { generation := 1, vars := [⟨0, 1, mkRef clsGroup 1⟩], pents := [], rows := [], blocks := [⟨1, none, 2048⟩], perm := []
            vals := { q := [0], lb := [0], ub := [0x3FF0000000000000] } } }
def structParsed : StructImg := { structPlain with st := { structPlain.st with perm := structOrder } }

theorem length_structOrderB : structOrderB.length = 8212 := by
  have : ∀ l : List Nat, (l.flatMap (bytesLE 4)).length = 4 * l.length := by
    intro l; induction l with
    | nil => rfl
    | cons a r ih => rw [List.flatMap_cons, List.length_append, length_bytesLE, ih, List.length_cons]; omega
  simp only [structOrderB, List.length_append, length_bytesLE, this, structOrder, List.length_range', List.length_singleton]

theorem perm_parseStruct (gen : Word) (rs : List ImgRec) (r : ImgRec) (h : recsOf rs 0x0206 = [r]) :
    (parseStruct gen rs).st.perm = (upTo (fieldAt r.body 0 4)).map fun j => fieldAt r.body (8 + 4 * j) 4 := by
  have e : (parseStruct gen rs).st.perm = (upTo (fieldAt ((recsOf rs 0x0206).headD ⟨0, 0, []⟩).body 0 4)).map fun j =>
    fieldAt ((recsOf rs 0x0206).headD ⟨0, 0, []⟩).body (8 + 4 * j) 4 := rfl
  rw [e, h]; rfl

theorem structPerm : (parseStruct 1 structRecs).st.perm = structOrder := by
  rw [perm_parseStruct 1 structRecs ⟨0x0206, mkRef clsStruct 0, structOrderB⟩ rfl]
  have hk : fieldAt structOrderB 0 4 = structOrder.length := by
    rw [show structOrder.length = 2050 by simp only [structOrder, List.length_append, List.length_range', List.length_singleton]]
    exact (rfl : _ = leNat (bytesLE 4 2050)).trans (by decide)
  have h := words_read (bytesLE 4 0) structOrder (bytesLE 4 2050 ++ bytesLE 4 0) (by
    intro x hx; simp only [structOrder, List.mem_append, List.mem_range'_1, List.mem_singleton] at hx; omega)
  rw [hk, upTo]
  rw [show (bytesLE 4 2050 ++ bytesLE 4 0).length = 8 by simp only [List.length_append, length_bytesLE]] at h
  exact h

theorem parseStruct_structRecs : parseStruct 1 structRecs = structParsed := by
  have h : { parseStruct 1 structRecs with st := { (parseStruct 1 structRecs).st with perm := [] } } = structPlain := by decide +kernel
  have hp := structPerm
  unfold structParsed
  rw [← hp, ← h]

theorem noDup_of (l : List Nat) (h : l.Nodup) : noDup l = true := by
  induction l with
  | nil => rfl
  | cons a r ih => rw [List.nodup_cons] at h; simp [noDup, h.1, ih h.2]

theorem length_structBody : structBody.length = 8316 := by
  simp only [structBody, imgRec, List.length_append, length_bytesLE, length_structOrderB, List.length_nil]
  decide

theorem structFull_recs : imageRecs structFull = some structRecs := by
  show parseRecs (structFull.length / 8 + 1) structBody = _
  rw [structFull, length_imgOf, length_structBody]
  rw [structBody, parseRecs_imgRec _ _ _ _ _ (by decide) (by decide) (by decide),
    parseRecs_imgRec _ _ _ _ _ (by decide) (by decide) (by decide),
    parseRecs_imgRec _ _ _ _ _ (by decide) (by decide) (by decide),
    parseRecs_imgRec _ _ _ _ _ (by decide) (by rw [length_structOrderB]) (by rw [length_structOrderB]; decide)]
  rfl

/-- The image lies in the window of a device that may load it. -/
def structState : State := holding work structFull

theorem structFull_ok : structState.structOk structParsed = true := by
  apply structOk_perm
  · decide +kernel
  · rw [List.all_eq_true]; intro k hk
    simp only [structParsed, structOrder, List.mem_append, List.mem_range'_1, List.mem_singleton] at hk
    exact decide_eq_true (show k < 2050 by omega)
  · apply noDup_of
    show structOrder.Nodup
    rw [structOrder, List.nodup_append]
    refine ⟨List.nodup_range', by simp, ?_⟩
    intro a ha b hb; simp only [List.mem_range'_1, List.mem_singleton] at ha hb; omega

theorem mem_pairCols (c : List Nat) (h : c ∈ structState.pairCols structParsed.st) : c = [0] := by
  have e : structState.blockCols structParsed.st ⟨1, none, 2048⟩ = [0] := by decide +kernel
  simp only [State.pairCols, List.mem_flatMap] at h
  obtain ⟨b, hb, hc⟩ := h
  rw [List.mem_singleton.1 hb, e] at hc
  exact List.eq_of_mem_replicate hc

theorem length_pairCols : (structState.pairCols structParsed.st).length = 2048 := by
  rw [State.pairCols, List.length_flatMap]
  show ([⟨1, none, 2048⟩].map fun b : BlockRec => (List.replicate b.count (structState.blockCols structParsed.st b)).length).sum = 2048
  simp only [List.map_cons, List.map_nil, List.length_replicate, List.sum_cons, List.sum_nil, Nat.add_zero]

theorem kktEdges_first (s : State) (x : Struct) (hp : x.pents = []) (hr : x.rows = []) (hv : x.vars.length = 1)
    (hc : ∀ c ∈ s.pairCols x, c = [0]) (e : Nat × Nat) (he : e ∈ s.kktEdges x) : e.1 = 0 := by
  simp only [State.kktEdges, hp, hr, hv, List.filter_nil, List.nil_append, List.map_nil, List.mem_flatMap, List.mem_map] at he
  obtain ⟨r, h1, c, h2, rfl⟩ := he
  have := (List.of_mem_zip h1).1
  rcases List.mem_append.1 this with h | h
  · rw [hc _ h] at h2; exact List.mem_singleton.1 h2
  · simp only [upTo, List.mem_map, List.mem_range] at h
    obtain ⟨v, hv, h⟩ := h
    rw [← h] at h2
    have := List.mem_singleton.1 h2
    show c = 0
    omega

theorem foldl_ones (l : List (List Nat)) (h : ∀ c ∈ l, c = [0]) : ∀ m, l.foldl (fun n c => n + c.length) m = m + l.length := by
  induction l with
  | nil => intro m; rfl
  | cons a r ih =>
    intro m
    rw [List.foldl_cons, ih fun c hc => h c (List.mem_cons_of_mem _ hc), h a (List.mem_cons_self ..), List.length_cons]
    show m + 1 + r.length = m + (r.length + 1)
    omega

theorem structParsed_perm : structParsed.st.perm = structOrder := rfl
theorem structOrder_eq : structOrder = List.range' 1 2049 ++ [0] := rfl

theorem structFull_nnzL : structState.nnzL structParsed.st ≤ 2050 :=
  nnzL_star structState structParsed.st (structParsed_perm.trans structOrder_eq) (kktEdges_first structState structParsed.st rfl rfl rfl mem_pairCols)

theorem structFull_nnzK : structState.nnzK structParsed.st = 2049 := by
  have h := foldl_ones _ mem_pairCols (0 + 0 + 1)
  rw [length_pairCols] at h
  have e := foldl_ones _ mem_pairCols 0
  rw [length_pairCols] at e
  rw [State.nnzK, e, show structParsed.st.pents = [] from rfl, show structParsed.st.vals.a = [] from rfl,
    show structParsed.st.vars = [⟨0, 1, mkRef clsGroup 1⟩] from rfl]
  simp only [List.length_nil, List.length_singleton]

theorem structState_poolUsed : structState.poolUsed (some 0) = 0 := by decide +kernel

theorem structFits_of (s : State) (h : Nat) (x : Struct) (hv : x.vars.length = 1) (hr : x.rows.length = 0) (hk : s.nnzK x = 2049)
    (hl : s.nnzL x ≤ 2050) (hu : s.poolUsed (some h) = 0) : s.structFits h x = true := by
  simp only [State.structFits, hk, hv, hr, hu, structFootprint, poolSize, Bool.and_eq_true, decide_eq_true_eq]
  omega

theorem structFull_fits : structState.structFits 0 structParsed.st = true :=
  structFits_of _ _ _ rfl rfl structFull_nnzK structFull_nnzL structState_poolUsed

theorem structState_read : structState.winRead (0x80000#32).toNat (8348#32).toNat = structFull := by
  have hl : structFull.length = 8348 := by rw [structFull, length_imgOf, length_structBody]
  have h := readCells_cellsAt structFull 0x80000
  rw [hl] at h
  exact h

theorem structFull_gen : imageGen structFull = 1 := by
  have h : fieldAt structFull 16 4 = 1 := (rfl : _ = leNat (bytesLE 4 1)).trans (by decide)
  rw [imageGen, h]; rfl

theorem structFull_header : imageHeaderError structState.dev structFull (8348#32).toNat = 0 := by
  have h := header_imgOf structBody (by rw [length_structBody]) (by rw [length_structBody]; decide)
  rw [length_imgOf, length_structBody] at h
  exact h

/-- R189, R191: a structure that STRUCT_LOAD takes. -/
theorem test_witness_struct_load :
    ∃ (s : State) (h : Hdr) (off : Word) (len : Word) (rs : List ImgRec),
      (s.handleBusy (refIndex h.obj % 4) = false) ∧
      (s.winOk (BitVec.toNat off) (BitVec.toNat len) = true) ∧
      (imageHeaderError s.dev (s.winRead (BitVec.toNat off) (BitVec.toNat len)) (BitVec.toNat len) = 0) ∧
      (imageKind (s.winRead (BitVec.toNat off) (BitVec.toNat len)) = 5) ∧
      (s.cell.loaded = true) ∧
      (imageRecs (s.winRead (BitVec.toNat off) (BitVec.toNat len)) = some rs) ∧
      (structForm rs = true) ∧
      ((structObjects (parseStruct (imageGen (s.winRead (BitVec.toNat off) (BitVec.toNat len))) rs)).all s.objOk = true) ∧
      (s.structOk (parseStruct (imageGen (s.winRead (BitVec.toNat off) (BitVec.toNat len))) rs) = true) ∧
      ((parseStruct (imageGen (s.winRead (BitVec.toNat off) (BitVec.toNat len))) rs).handle = h.obj) ∧
      (tblGet 0 s.solver.highGen (refIndex h.obj % 4) ≤
        BitVec.toNat (imageGen (s.winRead (BitVec.toNat off) (BitVec.toNat len)))) ∧
      (s.structFits (refIndex h.obj % 4) (parseStruct (imageGen (s.winRead (BitVec.toNat off) (BitVec.toNat len))) rs).st =
        true) := by
  refine ⟨structState, hdr (mkRef clsStruct 0), 0x80000#32, 8348#32, structRecs, ?_⟩
  rw [structState_read, structFull_gen, parseStruct_structRecs]
  exact ⟨by decide +kernel, by decide +kernel, structFull_header, rfl, by decide +kernel, structFull_recs, by decide +kernel,
    by decide +kernel, structFull_ok, by decide +kernel, by decide +kernel, structFull_fits⟩

end Sys2Proof.Tests
end

/-! ### Completions of a command (R421, R422) -/

namespace Sys2Proof.Machine
open Sys2Proof.Claims

variable (s : State)

/-- No command in flight dates from before a host reset (R425). -/
def State.NoOrphan (s : State) : Prop := ∀ e ∈ s.host.inflight, e.orphan = false

/-- A completion changes nothing outside the host interface. -/
theorem State.complete_frame (op : Nat) (h : Hdr) (status : Nat) (obj : Word) (result : Nat) :
    { s.complete op h status obj result with host := s.host } = s := by
  unfold State.complete; dsimp only; split <;> rfl

theorem State.done_frame (op : Nat) (h : Hdr) (status : Nat) : { s.done op h status with host := s.host } = s :=
  s.complete_frame op h status h.obj 0

/-- The completion that `complete` leaves ready on the command's ring. -/
theorem State.complete_mem (op : Nat) (h : Hdr) (status : Nat) (obj : Word) (result : Nat) (ho : s.NoOrphan) :
    ∃ c ∈ ((s.complete op h status obj result).ring h.ring.val).ready,
      c.tag = h.tag ∧ c.status = BitVec.ofNat 32 status ∧ c.cycle = s.tick.cycle ∧ c.obj = obj := by
  have hall : s.host.inflight.all (fun e => !e.orphan) = true :=
    List.all_eq_true.mpr fun e he => by simp [ho e he]
  rw [s.complete_ready op h status obj result hall]
  exact ⟨_, List.mem_append_right _ (List.mem_singleton_self _), rfl, rfl, rfl, rfl⟩

/-- A completion leaves no command behind that dates from before a host reset. -/
theorem State.complete_noOrphan (op : Nat) (h : Hdr) (status : Nat) (obj : Word) (result : Nat) (ho : s.NoOrphan) :
    (s.complete op h status obj result).NoOrphan := by
  have hsub : ∀ e ∈ (s.complete op h status obj result).host.inflight, ∃ d ∈ s.host.inflight, e.orphan = d.orphan := by
    unfold State.complete
    dsimp only
    split
    · intro e he
      exact ⟨e, List.mem_of_mem_filter he, rfl⟩
    · intro e he
      obtain ⟨d, hd, rfl⟩ := List.mem_map.mp he
      exact ⟨d, hd, by split <;> rfl⟩
  intro e he
  obtain ⟨d, hd, hed⟩ := hsub e he
  exact hed.trans (ho d hd)

theorem State.done_noOrphan (op : Nat) (h : Hdr) (status : Nat) (ho : s.NoOrphan) : (s.done op h status).NoOrphan :=
  s.complete_noOrphan op h status h.obj 0 ho

/-- A command that ends by `done` in a state of the same tick is answered. -/
theorem State.answered_done {s t : State} (op : Nat) (h : Hdr) (status : Nat) (ho : s.NoOrphan → t.NoOrphan)
    (hc : t.tick.cycle = s.tick.cycle) : Answered s (t.done op h status) h status := by
  intro hs
  obtain ⟨c, hmem, htag, hst, hcyc, -⟩ := t.complete_mem op h status h.obj 0 (ho hs)
  exact ⟨c, hmem, htag, hst, hcyc.trans hc⟩

/-- A command that only completes is answered. -/
theorem State.answered_done_self (op : Nat) (h : Hdr) (status : Nat) : Answered s (s.done op h status) h status :=
  State.answered_done op h status id rfl

theorem State.answeredFor_complete (op : Nat) (h : Hdr) (status : Nat) (obj : Word) :
    AnsweredFor s (s.complete op h status obj 0) h status obj :=
  fun hs => s.complete_mem op h status obj 0 hs

/-- A command that does nothing but complete. -/
theorem completes_done {s : State} {c : Instr} {op : Nat} {h : Hdr} {status : Nat}
    (hc : exec c s = .next (s.done op h status)) :
    Completes c s fun t => Answered s t h status ∧ { t with host := s.host } = s :=
  ⟨_, hc, s.answered_done_self op h status, s.done_frame op h status⟩

/-! ### Commands on several axes (R20) -/

theorem State.onAxes_refused {op : Nat} {h : Hdr} {check : Nat → Nat} {act : List Nat → State} {a : Nat}
    (hf : (s.localAxes h.obj).find? (fun a => check a ≠ stOk) = some a) :
    s.onAxes op h check act = s.complete op h (check a) (mkRef clsAxis a) 0 := by
  have hne : (s.localAxes h.obj).isEmpty = false := by
    cases hl : s.localAxes h.obj with
    | nil => rw [hl] at hf; cases hf
    | cons b l => rfl
  simp only [State.onAxes, hne, hf, Bool.false_eq_true, if_false]

theorem State.onAxes_none {op : Nat} {h : Hdr} {check : Nat → Nat} {act : List Nat → State}
    (he : s.localAxes h.obj = []) : s.onAxes op h check act = s.done op h stNoEffect := by
  simp [State.onAxes, he]

/-- The first axis that refuses answers for all, and nothing else happens. -/
theorem completes_refused {s : State} {c : Instr} {op : Nat} {h : Hdr} {check : Nat → Nat} {act : List Nat → State}
    {a : Nat} (hf : (s.localAxes h.obj).find? (fun a => check a ≠ stOk) = some a)
    (hc : exec c s = .next (s.onAxes op h check act)) :
    Completes c s fun t => AnsweredFor s t h (check a) (mkRef clsAxis a) ∧ { t with host := s.host } = s := by
  rw [s.onAxes_refused hf] at hc
  exact ⟨_, hc, s.answeredFor_complete op h _ _, s.complete_frame ..⟩

/-- A command whose object has no axis here has no effect. -/
theorem completes_onAxes_none {s : State} {c : Instr} {op : Nat} {h : Hdr} {check : Nat → Nat} {act : List Nat → State}
    (he : s.localAxes h.obj = []) (hc : exec c s = .next (s.onAxes op h check act)) :
    Completes c s fun t => Answered s t h stNoEffect ∧ { t with host := s.host } = s :=
  completes_done (hc.trans (congrArg _ (s.onAxes_none he)))

theorem State.axisEnableOp_none {h : Hdr} (he : s.localAxes h.obj = []) :
    s.axisEnableOp h = s.done 0x0105 h stNoEffect := by
  simp [State.axisEnableOp, he]

/-- Settles O20: each command runs its checks through `onAxes`, which stops at the first axis that refuses. -/
theorem oneRefusingAxisRefusesForAll : Obligations.OneRefusingAxisRefusesForAll := by
  unfold Obligations.OneRefusingAxisRefusesForAll
  intro s h a
  refine ⟨fun c check hmem hf => ?_, fun x hf => completes_refused hf rfl, fun c hmem he => ?_⟩
  · simp only [List.mem_cons, Prod.mk.injEq, List.not_mem_nil, or_false] at hmem
    obtain ⟨rfl, rfl⟩ | ⟨rfl, rfl⟩ | ⟨rfl, rfl⟩ | ⟨rfl, rfl⟩ := hmem
    · exact completes_refused hf rfl
    · exact completes_refused hf rfl
    · exact completes_refused hf rfl
    · exact completes_refused hf rfl
  · simp only [List.mem_cons, List.not_mem_nil, or_false] at hmem
    obtain rfl | rfl | rfl | rfl | rfl := hmem
    · exact completes_onAxes_none he rfl
    · exact completes_onAxes_none he rfl
    · exact completes_done (congrArg _ (s.axisEnableOp_none he))
    · exact completes_onAxes_none he rfl
    · exact completes_onAxes_none he rfl

end Sys2Proof.Machine

/-! ### Keyed tables and folds -/

namespace Sys2Proof.Machine
open Sys2Proof.Claims

variable (s : State)

/-- The keys of a table after a write. -/
theorem tblSet_any_key {α : Type} (t : Tbl α) (k j : Nat) (v : α) :
    (tblSet t k v).any (fun x => x.1 = j) = (decide (k = j) || t.any fun x => x.1 = j) := by
  induction t with
  | nil => simp [tblSet]
  | cons x r ih =>
    obtain ⟨i, w⟩ := x
    unfold tblSet
    split
    · simp
    · split
      · subst_vars; simp
      · simp [ih, Bool.or_left_comm]

/-- The keys of a table that a fold writes, where an element passes the test. -/
theorem foldl_tblSet_any_key {α β : Type} (l : List β) (key : β → Nat) (p : β → Bool) (v : β → α) (t : Tbl α) (k : Nat) :
    ((l.foldl (fun t x => if p x then tblSet t (key x) (v x) else t) t).any fun x => x.1 = k) = true ↔
      (t.any fun x => x.1 = k) = true ∨ ∃ x ∈ l, key x = k ∧ p x = true := by
  induction l generalizing t with
  | nil => simp
  | cons a l ih =>
    rw [List.foldl_cons, ih]
    by_cases hp : p a = true
    · simp only [hp, if_true, tblSet_any_key, Bool.or_eq_true, decide_eq_true_eq, List.mem_cons, exists_eq_or_imp]
      tauto
    · simp [hp]

/-- A table of one entry for each element, keyed by the element. -/
theorem tblGet_map_self {α : Type} (d : α) (f : Nat → α) {l : List Nat} {k : Nat} (hk : k ∈ l) :
    tblGet d (l.map fun g => (g, f g)) k = f k := by
  induction l with
  | nil => cases hk
  | cons a l ih =>
    by_cases ha : a = k
    · simp [tblGet, ha]
    · simp [tblGet, ha, ih ((List.mem_cons.mp hk).resolve_left fun h => ha h.symm)]

theorem foldl_natMin_le_init (l : List Nat) (a : Nat) : l.foldl Nat.min a ≤ a := by
  induction l generalizing a with
  | nil => exact Nat.le_refl a
  | cons b l ih => exact (ih _).trans (Nat.min_le_left a b)

theorem foldl_natMin_le_mem {l : List Nat} {b : Nat} (a : Nat) (hb : b ∈ l) : l.foldl Nat.min a ≤ b := by
  induction l generalizing a with
  | nil => cases hb
  | cons c l ih =>
    obtain rfl | hb := List.mem_cons.mp hb
    · exact (foldl_natMin_le_init l _).trans (Nat.min_le_right a b)
    · exact ih _ hb

theorem minL_le_mem {l : List Nat} {b : Nat} (d : Nat) (hb : b ∈ l) : minL d l ≤ b := by
  cases l with
  | nil => cases hb
  | cons a l =>
    obtain rfl | hb := List.mem_cons.mp hb
    · exact foldl_natMin_le_init l b
    · exact foldl_natMin_le_mem a hb

/-- What one round of a fold establishes, and every round keeps, holds after the fold. -/
theorem State.forEach_establishes {α : Type} (P Q : State → Prop) {l : List α} {f : State → α → State} {a : α} (ha : a ∈ l)
    (hs : P s) (hP : ∀ t b, P t → P (f t b)) (ha' : ∀ t, P t → Q (f t a)) (hQ : ∀ t b, P t → Q t → Q (f t b)) :
    Q (s.forEach l f) := by
  induction l generalizing s with
  | nil => cases ha
  | cons b l ih =>
    rw [State.forEach_cons]
    by_cases hb : a ∈ l
    · exact ih _ hb (hP s b hs)
    · obtain rfl : a = b := (List.mem_cons.mp ha).resolve_right hb
      exact ((f s a).forEach_invariant (fun t => P t ∧ Q t) l f ⟨hP s a hs, ha' s hs⟩
        fun t c _ ht => ⟨hP t c ht.1, hQ t c ht.1 ht.2⟩).2

/-! ### The recorder's queue (R456) -/

/-- The event is a record, no count of losses. -/
def QEv.IsEv : QEv → Prop
  | .ev .. => True
  | .lost .. => False

theorem pushLost_keeps {c : Word} {time : List Byte} {l : List QEv} {q : QEv} (hq : q ∈ l) (he : q.IsEv) :
    q ∈ pushLost c time l := by
  induction l with
  | nil => cases hq
  | cons x r ih =>
    cases x with
    | ev code obj args cyc stamp b =>
      unfold pushLost
      exact (List.mem_cons.mp hq).elim (fun h => h ▸ List.mem_cons_self) fun h => List.mem_cons_of_mem _ (ih h)
    | lost n f t =>
      have hr : q ∈ r := (List.mem_cons.mp hq).resolve_left fun h => by rw [h] at he; exact he
      cases r with
      | nil => cases hr
      | cons y r => exact List.mem_cons_of_mem _ (ih hr)

/-- An event in the queue stays there when another arrives. -/
theorem State.emit_keeps {code : Nat} {obj : Word} {args : List Nat} {q : QEv} (hq : q ∈ s.recd.queue) (he : q.IsEv) :
    q ∈ (s.emit code obj args).recd.queue := by
  unfold State.emit State.emitAt State.modRec
  dsimp only
  split
  · exact List.mem_append_left _ hq
  · exact pushLost_keeps hq he

/-- An event that arrives is recorded. -/
theorem State.records_emit (code : Nat) (obj : Word) (args : List Nat) : Records s (s.emit code obj args) code obj args := by
  intro hq
  rw [State.emit, s.emitAt_queue code obj args none hq]
  exact List.mem_append_right _ (List.mem_singleton_self _)

/-- An event adds at most one entry to the queue. -/
theorem State.queuedEvents_emit (code : Nat) (obj : Word) (args : List Nat) (h : queuedEvents s.recd.queue < 1024) :
    queuedEvents (s.emit code obj args).recd.queue = queuedEvents s.recd.queue + 1 := by
  rw [State.emit, s.emitAt_queue code obj args none h]
  simp [queuedEvents]

/-! ### What an engine's accessors leave -/

theorem otherIsland_ne (e : Island) : otherIsland e ≠ e := by cases e <;> decide

end Sys2Proof.Machine

/-! ### The predicted pass (R160) -/

namespace Sys2Proof.Machine
open Sys2Proof.Claims

variable (s : State)

/-- A pair of the list stands at one place only. -/
theorem State.pairList_unique {k : Nat} {p q : Pair} (hp : (k, p) ∈ s.pairList) (hq : (k, q) ∈ s.pairList) : p = q := by
  have key : ∀ {r : Pair}, (k, r) ∈ s.pairList → s.sep.kin.pairs[k]? = some r := by
    intro r hr
    obtain ⟨i, hi⟩ := List.mem_iff_getElem?.mp hr
    obtain ⟨h1, h2⟩ := List.getElem?_zip_eq_some.mp hi
    obtain ⟨_, h1⟩ := List.getElem?_eq_some_iff.mp h1
    obtain rfl : i = k := (List.getElem_range _).symm.trans h1
    exact h2
  exact Option.some.inj ((key hp).symm.trans (key hq))

/-- The pass replaces the predicted ends and distances of its engine. -/
theorem State.predictedPass_shape (e : Island) : ∃ ends, s.predictedPass e =
    s.modEng e fun x => { x with
      pred := ends
      dHat := s.pairList.foldl (fun t p =>
        if s.bodyPresent e (.cap p.2.a) && s.bodyPresent e p.2.b then
          tblSet t p.1 (segDist (tblGet ((0, 0, 0), (0, 0, 0)) ends p.2.a)
            (tblGet ((0, 0, 0), (0, 0, 0)) ends (bodyKey p.2.b)))
        else t) [] } := ⟨_, rfl⟩

/-- A distance is kept for exactly the pairs whose bodies are present. -/
theorem State.predictedPass_dHat (e : Island) {k : Nat} {p : Pair} (hp : (k, p) ∈ s.pairList) :
    ((((s.predictedPass e).eng e).dHat.any fun x => x.1 = k) = true) ↔
      s.bodyPresent e (.cap p.a) = true ∧ s.bodyPresent e p.b = true := by
  obtain ⟨ends, h⟩ := s.predictedPass_shape e
  rw [h, State.modEng_eng, foldl_tblSet_any_key]
  simp only [List.any_nil, Bool.false_eq_true, false_or, Bool.and_eq_true]
  constructor
  · rintro ⟨⟨j, q⟩, hq, rfl, hb⟩
    rwa [s.pairList_unique hp hq]
  · exact fun hb => ⟨(k, p), hp, rfl, hb⟩

theorem State.predictedPass_eng_other (e : Island) : (s.predictedPass e).eng (otherIsland e) = s.eng (otherIsland e) :=
  s.modEng_eng_other _ (otherIsland_ne e)

theorem State.predictedPass_eng (e : Island) :
    ({ (s.predictedPass e).eng e with pred := (s.eng e).pred, dHat := (s.eng e).dHat } : Eng) = s.eng e := by
  cases e <;> rfl

theorem State.predictedPass_frame (e : Island) : { s.predictedPass e with sep := s.sep } = s := by cases e <;> rfl

/-! ### What an engine publishes for an arm (R167) -/

/-- κ is 0 under a stop demand. -/
theorem State.armResult_kappa_of_stop {e : Island} {res : List PairRes} {br : List (Nat × Nat × CapRec × Rat)} {g : Nat}
    (h : (s.armResult e res br g).stop = true) : (s.armResult e res br g).kappa = 0 := by
  unfold State.armResult at h ⊢
  dsimp only at h ⊢
  split at h
  · cases h
  · rename_i hout
    rw [if_neg hout]
    obtain hr | hp := Bool.or_eq_true_iff.mp h
    · exact if_pos hr
    · obtain ⟨p, hmem, hst⟩ := List.any_eq_true.mp hp
      have hz : s.pairKappa p g = 0 := if_pos (of_decide_eq_true hst)
      have hraw := minL_le_mem 65536 (List.mem_map_of_mem (f := fun p => s.pairKappa p g) hmem)
      dsimp only
      split
      · rfl
      · exact Nat.le_zero.mp ((Nat.min_le_left _ _).trans (hz ▸ hraw))

/-- κ of an armed arm that is present rises by at most its ramp. -/
theorem State.armResult_kappa_le {e : Island} {res : List PairRes} {br : List (Nat × Nat × CapRec × Rat)} {g : Nat}
    (hout : s.armOut g = false) (hnew : (s.armSt g).isNew = false) :
    (s.armResult e res br g).kappa ≤ ((s.eng e).arm g).kappa + s.pU 0x5008 s.dev := by
  unfold State.armResult
  simp only [hout, hnew, Bool.or_self, Bool.false_eq_true, if_false]
  split
  · exact Nat.zero_le _
  · exact (Nat.min_le_right _ _).trans (Nat.min_le_right _ _)

/-! ### Stages of the bound pass -/

/-- `t` is `s` with combined pair states and records of its own. -/
def State.PairsRecorded (s t : State) : Prop := ∃ ps rc, t = { s with sep := { s.sep with pairSt := ps }, recd := rc }

theorem State.PairsRecorded.trans {s t u : State} (h : s.PairsRecorded t) (h' : t.PairsRecorded u) : s.PairsRecorded u := by
  obtain ⟨ps, rc, rfl⟩ := h
  obtain ⟨ps', rc', rfl⟩ := h'
  exact ⟨ps', rc', rfl⟩

theorem State.PairsRecorded.refl : s.PairsRecorded s := ⟨_, _, rfl⟩

theorem State.pairsRecorded_emit (code : Nat) (obj : Word) (args : List Nat) : s.PairsRecorded (s.emit code obj args) :=
  ⟨_, _, rfl⟩

theorem State.pairsRecorded_pairEvent (e : Island) (p : PairRes) : s.PairsRecorded (s.pairEvent e p) := by
  unfold State.pairEvent
  extract_lets used o now u arms a b um
  have hu : s.PairsRecorded u := ⟨_, _, rfl⟩
  split
  · exact .refl s
  · split
    · exact hu.trans (u.pairsRecorded_emit ..)
    · split
      · exact hu.trans (u.pairsRecorded_emit ..)
      · exact hu.trans (u.pairsRecorded_emit ..)

theorem State.pairsRecorded_reachRecords (e : Island) (br : List (Nat × Nat × CapRec × Rat)) :
    s.PairsRecorded (s.reachRecords e br) := by
  refine s.forEach_invariant s.PairsRecorded br _ (.refl s) fun u b _ hu => hu.trans ?_
  split
  · exact .refl u
  · exact u.pairsRecorded_emit ..

/-- The stop demands of an engine in use request SS1 (Table 8.2). -/
def State.boundDemands (s : State) (e : Island) : State :=
  s.forEach s.armList fun u g => if (u.enginesUsed.contains e) && ((u.eng e).arm g).stop then u.demandSs1 g else u

/-- What follows the publication: the demands, the pairs' views, and the comparison once both engines have published. -/
def State.boundEnd (s : State) (e : Island) : State :=
  if ((s.boundDemands e).viewWrite e).sep.m.published && ((s.boundDemands e).viewWrite e).sep.w.published then
    ((s.boundDemands e).viewWrite e).sepCompare
  else (s.boundDemands e).viewWrite e

/-- The state in which an engine has published what its bound pass found. -/
def State.publishes (s : State) (e : Island) (x : Eng) (ps : Tbl Nat) (rc : RecSt) (pm fr : Nat) : State :=
  { (s.modEng e fun _ => x).modSep (fun y => { y with pairSt := ps, publishMax := pm }) with recd := rc, free := fr }

/-- What a bound pass publishes. -/
structure Eng.Published (x : Eng) (s : State) (e : Island) (n : Nat) : Prop where
  published : x.published = decide (n ≤ 19000)
  publish : x.publish = n
  joints : x.joints = (s.eng e).joints
  arms : ∃ res br, x.arms = s.armList.map fun g => (g, s.armResult e res br g)

theorem State.boundPass_shape (e : Island) (n : Nat) :
    ∃ x ps rc pm fr, x.Published s e n ∧ s.boundPass e n = (s.publishes e x ps rc pm fr).boundEnd e := by
  unfold State.boundPass
  extract_lets pos ends res br sel extra told rows arms t1 t2 t3
  have h1 : s.PairsRecorded t1 :=
    s.forEach_invariant s.PairsRecorded res _ (.refl s) fun u p _ hu => hu.trans (u.pairsRecorded_pairEvent e p)
  have h2 : s.PairsRecorded t2 := h1.trans (t1.pairsRecorded_reachRecords e br)
  have h3 : s.PairsRecorded t3 := by
    simp only [t3]
    split
    · exact h2.trans (t2.pairsRecorded_emit ..)
    · exact h2
  obtain ⟨ps, rc, h⟩ := h3
  clear_value t3
  subst h
  refine ⟨{ s.eng e with
    pairs := (res.filter fun p => p.state ≠ 0).map fun p => (p.idx, p.state), arms := arms
    published := decide (n ≤ 19000), publish := n, rows := rows, rowsOk := s.boundary, rowsCut := decide (0 < extra) },
    ps, rc, Nat.max s.sep.publishMax n, s.free + 5 * s.sep.kin.pairs.length + 1027, ⟨rfl, rfl, rfl, res, br, rfl⟩, ?_⟩
  cases e <;> rfl

end Sys2Proof.Machine

/-! ### The bound pass (R14, R165 to R167, R170) -/

namespace Sys2Proof.Machine
open Sys2Proof.Claims

variable (s : State)

/-- `t` is `s` with further SS1 requests. -/
def State.Requests (s t : State) : Prop :=
  ∃ rs n, t = { s with safety := { s.safety with reqs := s.safety.reqs ++ rs, nextReq := n } }

theorem State.Requests.refl : s.Requests s := ⟨[], s.safety.nextReq, by rw [List.append_nil]⟩

theorem State.Requests.trans {s t u : State} (h : s.Requests t) (h' : t.Requests u) : s.Requests u := by
  obtain ⟨rs, n, rfl⟩ := h
  obtain ⟨rs', n', rfl⟩ := h'
  exact ⟨rs ++ rs', n', by rw [← List.append_assoc]⟩

theorem State.Requests.mem {s t : State} (h : s.Requests t) {r : Ss1Req} (hr : r ∈ s.safety.reqs) : r ∈ t.safety.reqs := by
  obtain ⟨rs, n, rfl⟩ := h
  exact List.mem_append_left _ hr

/-- A stop demand of the arm waits to begin. -/
def State.DemandWaits (s : State) (g : Nat) : Prop :=
  ∃ r ∈ s.safety.reqs, r.obj = mkRef clsGroup g ∧ r.fromDemand = true ∧ r.begun = false

theorem State.requests_demandSs1 (g : Nat) : s.Requests (s.demandSs1 g) := by
  unfold State.demandSs1
  extract_lets axes obj needed waiting
  split
  · exact ⟨_, _, rfl⟩
  · exact .refl s

/-- Armed, with an axis of the arm that neither stands in STO nor is under SS1, the demand requests SS1, unless one waits. -/
theorem State.demandWaits_demandSs1 {g : Nat} (harm : s.safety.armed = true)
    (hax : ∃ a ∈ s.armJoints g, s.inSto a = false ∧ s.underSs1 a = false) : (s.demandSs1 g).DemandWaits g := by
  have hneed : ((s.armJoints g).any fun a => !s.inSto a && !s.underSs1 a) = true := by
    obtain ⟨a, ha, hsto, hss1⟩ := hax
    exact List.any_eq_true.mpr ⟨a, ha, by rw [hsto, hss1]; rfl⟩
  unfold State.demandSs1
  simp only [harm, hneed, Bool.true_and]
  split
  · exact ⟨_, List.mem_append_right _ (List.mem_singleton_self _), rfl, rfl, rfl⟩
  · rename_i hw
    rw [Bool.not_eq_true, Bool.not_eq_false', List.any_eq_true] at hw
    obtain ⟨r, hr, hb⟩ := hw
    simp only [Bool.and_eq_true, decide_eq_true_eq, Bool.not_eq_true'] at hb
    exact ⟨r, hr, hb.1.1, hb.1.2, hb.2⟩

theorem State.requests_boundDemands (e : Island) : s.Requests (s.boundDemands e) := by
  refine s.forEach_invariant s.Requests _ _ (.refl s) fun u g _ hu => ?_
  split
  · exact hu.trans (u.requests_demandSs1 g)
  · exact hu

/-- After the demands of an engine in use, each of its stop demands that an axis needs waits to begin. -/
theorem State.demandWaits_boundDemands {e : Island} {g : Nat} (hg : g ∈ s.armList) (hstop : ((s.eng e).arm g).stop = true)
    (hused : e ∈ s.enginesUsed) (harm : s.safety.armed = true)
    (hax : ∃ a ∈ s.armJoints g, s.inSto a = false ∧ s.underSs1 a = false) : (s.boundDemands e).DemandWaits g := by
  have step : ∀ u k, s.Requests u →
      u.Requests (if (u.enginesUsed.contains e) && ((u.eng e).arm k).stop then u.demandSs1 k else u) := by
    intro u k _
    split
    · exact u.requests_demandSs1 k
    · exact .refl u
  refine s.forEach_establishes s.Requests (fun u => u.DemandWaits g) hg (.refl s)
    (fun u k hu => hu.trans (step u k hu)) ?_ fun u k hu ⟨r, hr, hd⟩ => ⟨r, (step u k hu).mem hr, hd⟩
  rintro u ⟨rs, n, rfl⟩
  have hcond : (s.enginesUsed.contains e && ((s.eng e).arm g).stop) = true := by
    rw [hstop, List.contains_iff_mem.mpr hused]; rfl
  exact (if_pos hcond).symm ▸ State.demandWaits_demandSs1 _ harm hax

/-- `t` is `s` with other values in regions that another block writes into the pairs (R302). -/
def State.ExtWritten (s t : State) : Prop :=
  ∃ ps fr, t = { s with lanes := { s.lanes with pairs := ps }, free := fr } ∧
    ∀ p, { t.pair p with ext := (s.pair p).ext } = s.pair p

theorem State.extWritten_extWrite (pick : PairSt → Bool) (f : Nat → Nat → ExtWrites → ExtWrites) :
    s.ExtWritten (s.extWrite pick f) := by
  have hfold : s.ExtWritten (s.forEach (pairNos.filter fun p => pick (s.pair p)) fun u p =>
      u.modPair p fun x => { x with ext := f (s.free + 1) p x.ext }) := by
    refine s.forEach_invariant s.ExtWritten _ _ ⟨s.lanes.pairs, s.free, rfl, fun _ => rfl⟩ fun u p _ hu => ?_
    obtain ⟨ps, fr, rfl, hext⟩ := hu
    refine ⟨_, fr, rfl, fun k => ?_⟩
    rw [State.modPair_pair]
    split
    · subst_vars; exact hext _
    · exact hext k
  obtain ⟨ps, fr, h, hext⟩ := hfold
  exact ⟨ps, s.free + 1, congrArg (fun u : State => { u with free := s.free + 1 }) h, hext⟩

/-- `t` is `s` with the comparison of its engines done, or left as it stands. -/
def State.Compared (s t : State) : Prop :=
  ∃ c d k tk lm lw rc, t =
    { s with
      sep := { s.sep with compared := c, disagree := d, disCount := k, taken := tk, lateM := lm, lateW := lw }, recd := rc }

theorem State.Compared.refl : s.Compared s := ⟨_, _, _, _, _, _, _, rfl⟩

theorem State.compared_sepCompare : s.Compared s.sepCompare := by
  unfold State.sepCompare
  extract_lets late bad dis t g m w
  split
  · exact .refl s
  · split
    · exact ⟨_, _, _, _, _, _, _, rfl⟩
    · exact ⟨_, _, _, _, _, _, _, rfl⟩

/-- What follows a publication: requests, the pairs' views, the comparison; nothing else. -/
theorem State.boundEnd_shape (e : Island) :
    ∃ v, s.Requests (s.boundDemands e) ∧ (s.boundDemands e).ExtWritten v ∧ v.Compared (s.boundEnd e) := by
  refine ⟨(s.boundDemands e).viewWrite e, s.requests_boundDemands e, State.extWritten_extWrite _ _ _, ?_⟩
  unfold State.boundEnd
  split
  · exact State.compared_sepCompare _
  · exact .refl _

/-! What a publication leaves of the state. -/

section
variable (e : Island) (x : Eng) (ps : Tbl Nat) (rc : RecSt) (pm fr : Nat)

theorem State.publishes_eng : (s.publishes e x ps rc pm fr).eng e = x := by cases e <;> rfl

theorem State.publishes_eng_other :
    (s.publishes e x ps rc pm fr).eng (otherIsland e) = s.eng (otherIsland e) := by cases e <;> rfl

theorem State.publishes_armList : (s.publishes e x ps rc pm fr).armList = s.armList := by cases e <;> rfl

theorem State.publishes_enginesUsed : (s.publishes e x ps rc pm fr).enginesUsed = s.enginesUsed := by cases e <;> rfl

theorem State.publishes_armJoints (g : Nat) : (s.publishes e x ps rc pm fr).armJoints g = s.armJoints g := by
  cases e <;> rfl

theorem State.publishes_inSto (a : Nat) : (s.publishes e x ps rc pm fr).inSto a = s.inSto a := by cases e <;> rfl

theorem State.publishes_safety : (s.publishes e x ps rc pm fr).safety = s.safety := by cases e <;> rfl

theorem State.publishes_pair (p : Nat) : (s.publishes e x ps rc pm fr).pair p = s.pair p := by cases e <;> rfl

end

/-- The published result of an arm is what the pass finds for it. -/
theorem Eng.Published.arm_eq {x : Eng} {e : Island} {n : Nat} (h : x.Published s e n) :
    ∃ res br, ∀ g ∈ s.armList, x.arm g = s.armResult e res br g := by
  obtain ⟨res, br, harms⟩ := h.arms
  exact ⟨res, br, fun g hg => by rw [Eng.arm, harms, tblGet_map_self _ _ hg]⟩

/-- The engines after what follows a publication. -/
theorem State.boundEnd_eng (e i : Island) : (s.boundEnd e).eng i = s.eng i := by
  obtain ⟨v, ⟨rs, m, hu⟩, ⟨ps, fr, hv, -⟩, c, d, k, tk, lm, lw, rc, ht⟩ := s.boundEnd_shape e
  rw [ht, hv, hu]
  cases i <;> rfl

theorem State.boundEnd_pair (e : Island) (p : Nat) : { (s.boundEnd e).pair p with ext := (s.pair p).ext } = s.pair p := by
  obtain ⟨v, ⟨rs, m, hu⟩, ⟨ps, fr, hv, hext⟩, c, d, k, tk, lm, lw, rc, ht⟩ := s.boundEnd_shape e
  have hp := hext p
  rw [hv, hu] at hp
  rw [ht, hv, hu]
  exact hp

theorem State.boundEnd_frame (e : Island) :
    { s.boundEnd e with
      sep := s.sep, recd := s.recd, free := s.free, lanes := { (s.boundEnd e).lanes with pairs := s.lanes.pairs }
      safety := { (s.boundEnd e).safety with reqs := s.safety.reqs, nextReq := s.safety.nextReq } } = s := by
  obtain ⟨v, ⟨rs, m, hu⟩, ⟨ps, fr, hv, -⟩, c, d, k, tk, lm, lw, rc, ht⟩ := s.boundEnd_shape e
  rw [ht, hv, hu]

theorem State.boundEnd_reqs (e : Island) : (s.boundEnd e).safety.reqs = (s.boundDemands e).safety.reqs := by
  obtain ⟨v, -, ⟨ps, fr, hv, -⟩, c, d, k, tk, lm, lw, rc, ht⟩ := s.boundEnd_shape e
  rw [ht, hv]

end Sys2Proof.Machine

/-! ### Passes as commands (R44, R160, R167) -/

namespace Sys2Proof.Machine
open Sys2Proof.Claims

variable (s : State)

/-- A command that leaves the state as it is. -/
theorem completes_self {s : State} {c : Instr} (h : exec c s = .next s) : Completes c s fun t => t = s := ⟨s, h, rfl⟩

/-- The engine's island is alive and ticks are sent. -/
def State.EngineOn (s : State) (e : Island) : Prop := s.tick.selide = true ∧ s.islandAlive e = true

theorem State.exec_predictedPass {e : Island} (hon : s.EngineOn e) (hk : s.sep.kin.loaded = true) :
    exec (.enginePredictedPass e) s = .next (s.predictedPass e) :=
  congrArg Host.Outcome.next (if_pos (by rw [hon.1, hon.2, hk]; rfl))

theorem State.exec_predictedPass_idle {e : Island} (h : ¬s.EngineOn e ∨ s.sep.kin.loaded = false) :
    exec (.enginePredictedPass e) s = .next s := by
  refine congrArg Host.Outcome.next (if_neg fun hc => ?_)
  simp only [Bool.and_eq_true] at hc
  exact h.elim (fun hn => hn ⟨hc.1.1, hc.2⟩) fun hk => Bool.false_ne_true (hk.symm.trans hc.1.2)

theorem State.exec_boundPass {e : Island} {n : Nat} (hon : s.EngineOn e) (hi : s.tick.intakeDone = true)
    (hp : (s.eng e).published = false) : exec (.engineBoundPass e n) s = .next (s.boundPass e n) :=
  congrArg Host.Outcome.next (if_pos (by rw [hon.1, hon.2, hi, hp]; rfl))

theorem State.exec_boundPass_idle {e : Island} {n : Nat}
    (h : ¬s.EngineOn e ∨ s.tick.intakeDone = false ∨ (s.eng e).published = true) :
    exec (.engineBoundPass e n) s = .next s := by
  refine congrArg Host.Outcome.next (if_neg fun hc => ?_)
  simp only [Bool.and_eq_true, Bool.not_eq_true'] at hc
  obtain ⟨⟨⟨hs, hi⟩, ha⟩, hp⟩ := hc
  obtain hn | hn | hn := h
  · exact hn ⟨hs, ha⟩
  · exact Bool.false_ne_true (hn.symm.trans hi)
  · exact Bool.false_ne_true (hp.symm.trans hn)

/-- The bound pass leaves of the state all but the engines' results, records, free values, the pairs' views and requests. -/
theorem State.boundPass_frame (e : Island) (n : Nat) :
    { s.boundPass e n with
      sep := s.sep, recd := s.recd, free := s.free, lanes := { (s.boundPass e n).lanes with pairs := s.lanes.pairs }
      safety := { (s.boundPass e n).safety with reqs := s.safety.reqs, nextReq := s.safety.nextReq } } = s := by
  obtain ⟨x, ps, rc, pm, fr, -, h⟩ := s.boundPass_shape e n
  have hf := (s.publishes e x ps rc pm fr).boundEnd_frame e
  rw [h]
  cases e
  · exact congrArg (fun u : State => { u with sep := s.sep, recd := s.recd, free := s.free }) hf
  · exact congrArg (fun u : State => { u with sep := s.sep, recd := s.recd, free := s.free }) hf

theorem State.boundPass_pair (e : Island) (n p : Nat) :
    { (s.boundPass e n).pair p with ext := (s.pair p).ext } = s.pair p := by
  obtain ⟨x, ps, rc, pm, fr, -, h⟩ := s.boundPass_shape e n
  have hp := (s.publishes e x ps rc pm fr).boundEnd_pair e p
  rwa [s.publishes_pair, ← h] at hp

theorem State.boundPass_eng_other (e : Island) (n : Nat) :
    (s.boundPass e n).eng (otherIsland e) = s.eng (otherIsland e) := by
  obtain ⟨x, ps, rc, pm, fr, -, h⟩ := s.boundPass_shape e n
  rw [h, State.boundEnd_eng, State.publishes_eng_other]

/-- What the engine holds after its bound pass, and the requests for the stop demands that it publishes. -/
theorem State.boundPass_eng (e : Island) (n : Nat) :
    ((s.boundPass e n).eng e).Published s e n ∧
      (e ∈ s.enginesUsed → s.safety.armed = true → ∀ g ∈ s.armList, (((s.boundPass e n).eng e).arm g).stop = true →
        (∃ a ∈ s.armJoints g, s.inSto a = false ∧ s.underSs1 a = false) → (s.boundPass e n).DemandWaits g) := by
  obtain ⟨x, ps, rc, pm, fr, hx, h⟩ := s.boundPass_shape e n
  have heng : (s.boundPass e n).eng e = x := by rw [h, State.boundEnd_eng, State.publishes_eng]
  rw [heng]
  refine ⟨hx, fun hused harm g hg hstop hax => ?_⟩
  rw [State.DemandWaits, h, State.boundEnd_reqs]
  refine State.demandWaits_boundDemands _ ?_ ?_ ?_ ?_ ?_
  · rwa [State.publishes_armList]
  · rwa [State.publishes_eng]
  · rwa [State.publishes_enginesUsed]
  · rwa [State.publishes_safety]
  · simpa only [State.publishes_armJoints, State.publishes_inSto, State.underSs1, State.publishes_safety] using hax

/-! ### Late engines (R44) and the comparison (R170) -/

theorem State.Compared.eng {s t : State} (h : s.Compared t) (i : Island) : t.eng i = s.eng i := by
  obtain ⟨c, d, k, tk, lm, lw, rc, rfl⟩ := h
  cases i <;> rfl

theorem State.Compared.frame {s t : State} (h : s.Compared t) (y : SepSt) (r : RecSt) :
    { t with sep := y, recd := r } = { s with sep := y, recd := r } := by
  obtain ⟨c, d, k, tk, lm, lw, rc, rfl⟩ := h
  rfl

/-- A record stays in the queue over the comparison. -/
theorem State.sepCompare_keeps {q : QEv} (hq : q ∈ s.recd.queue) (he : q.IsEv) : q ∈ s.sepCompare.recd.queue := by
  unfold State.sepCompare
  extract_lets late bad dis t g m w
  split
  · exact hq
  · split
    · exact t.emit_keeps hq he
    · exact hq

/-- The comparison of a tick counts a late engine as a disagreement (R170). -/
theorem State.sepCompare_late (hc : s.sep.compared = false) (hl : (s.sep.m.late || s.sep.w.late) = true) :
    s.sepCompare.sep.disagree = true ∧ s.sepCompare.sep.disCount = Nat.min 3 (s.sep.disCount + 1) ∧
      s.sepCompare.sep.lateM = (if s.sep.m.published then 0 else s.sep.lateM + 1) ∧
      s.sepCompare.sep.lateW = (if s.sep.w.published then 0 else s.sep.lateW + 1) := by
  unfold State.sepCompare
  simp only [hc, hl, Bool.true_or, Bool.false_eq_true, if_false, if_true, Bool.true_and]
  split
  · exact ⟨rfl, rfl, rfl, rfl⟩
  · exact ⟨rfl, rfl, rfl, rfl⟩

/-- The engine's lateness is noted and recorded, before the comparison. -/
def State.noteLate (s : State) (e : Island) (n : Nat) : State :=
  (s.modEng e fun x => { x with late := true }).emit evEngineLate s.devRef [islandCode e, n]

theorem State.exec_engineLate {e : Island} {n : Nat} (hon : s.EngineOn e) (hp : (s.eng e).published = false)
    (hl : (s.eng e).late = false) : exec (.engineLate e n) s = .next (s.noteLate e n).sepCompare :=
  congrArg Host.Outcome.next (if_pos (by rw [hon.1, hon.2, hp, hl]; rfl))

theorem State.exec_engineLate_idle {e : Island} {n : Nat} (h : ¬s.EngineOn e) : exec (.engineLate e n) s = .next s := by
  refine congrArg Host.Outcome.next (if_neg fun hc => ?_)
  simp only [Bool.and_eq_true] at hc
  exact h ⟨hc.1.1.1, hc.1.1.2⟩

theorem State.noteLate_eng (e : Island) (n : Nat) : ((s.noteLate e n).eng e).late = true := by cases e <;> rfl

theorem State.noteLate_eng_other (e : Island) (n : Nat) :
    (s.noteLate e n).eng (otherIsland e) = s.eng (otherIsland e) := by cases e <;> rfl

theorem State.noteLate_records (e : Island) (n : Nat) :
    Records s (s.noteLate e n) evEngineLate s.devRef [islandCode e, n] := by
  cases e <;> exact State.records_emit _ _ _ _

theorem State.noteLate_frame (e : Island) (n : Nat) : { s.noteLate e n with sep := s.sep, recd := s.recd } = s := by
  cases e <;> rfl

theorem State.noteLate_late (e : Island) (n : Nat) :
    ((s.noteLate e n).sep.m.late || (s.noteLate e n).sep.w.late) = true := by
  cases e
  · rfl
  · exact Bool.or_true _

/-- A late engine is noted, recorded and counted as a disagreement. -/
theorem State.completes_engineLate {e : Island} {n : Nat} (hon : s.EngineOn e) (hp : (s.eng e).published = false)
    (hl : (s.eng e).late = false) : Completes (.engineLate e n) s fun t =>
      (t.eng e).late = true ∧ Records s t evEngineLate s.devRef [islandCode e, n] ∧
      t.eng (otherIsland e) = s.eng (otherIsland e) ∧
      (s.sep.compared = false → t.sep.disagree = true ∧ t.sep.disCount = Nat.min 3 (s.sep.disCount + 1) ∧
        t.sep.lateM = (if s.sep.m.published then 0 else s.sep.lateM + 1) ∧
        t.sep.lateW = (if s.sep.w.published then 0 else s.sep.lateW + 1)) ∧
      { t with sep := s.sep, recd := s.recd } = s := by
  have hcmp := (s.noteLate e n).compared_sepCompare
  refine ⟨_, s.exec_engineLate hon hp hl, ?_, ?_, ?_, fun hc => ?_, ?_⟩
  · rw [hcmp.eng, s.noteLate_eng]
  · exact fun hq => State.sepCompare_keeps _ (s.noteLate_records e n hq) trivial
  · rw [hcmp.eng, s.noteLate_eng_other]
  · have key := (s.noteLate e n).sepCompare_late
    cases e
    · exact key hc (s.noteLate_late .madder n)
    · exact key hc (s.noteLate_late .woad n)
  · rw [hcmp.frame, s.noteLate_frame]

end Sys2Proof.Machine

/-! ### Lost persons (R155) and stale relays (R174) -/

namespace Sys2Proof.Machine
open Sys2Proof.Claims

variable (s : State)

theorem State.modPerson_person_other {e d : Island} (a b : Nat) (f : PersonSt → PersonSt) (h : d ≠ e) :
    (s.modPerson e a f).person d b = s.person d b := by
  rw [State.person, State.modPerson, s.modEng_eng_other _ h]; rfl

/-- `t` is `s` with other persons at its engines. -/
def State.PersonsOnly (s t : State) : Prop :=
  ∃ pm pw, t = { s with sep := { s.sep with m := { s.sep.m with persons := pm }, w := { s.sep.w with persons := pw } } }

/-- The person becomes lost to the engines of the list. -/
def State.markLost (s : State) (l : List Island) (i : Nat) : State :=
  s.forEach l fun t e => t.modPerson e i fun x => { x with lost := true }

theorem State.personsOnly_markLost (l : List Island) (i : Nat) : s.PersonsOnly (s.markLost l i) := by
  refine s.forEach_invariant s.PersonsOnly l _ ⟨_, _, rfl⟩ fun t e _ ht => ?_
  obtain ⟨pm, pw, rfl⟩ := ht
  cases e <;> exact ⟨_, _, rfl⟩

theorem State.markLost_person (l : List Island) (i : Nat) (e : Island) :
    (s.markLost l i).person e i = { s.person e i with lost := (s.person e i).lost || decide (e ∈ l) } := by
  induction l generalizing s with
  | nil => simp [State.markLost]
  | cons d l ih =>
    have hstep : s.markLost (d :: l) i = (s.modPerson d i fun x => { x with lost := true }).markLost l i := rfl
    rw [hstep, ih]
    by_cases hd : e = d
    · subst hd; simp
    · simp [s.modPerson_person_other i i _ hd, hd]

/-- The engines that find a person newly lost. -/
def State.losers (s : State) (i : Nat) : List Island := [Island.madder, .woad].filter fun e => (s.person e i).newlyLost

theorem State.mem_losers {i : Nat} {e : Island} : e ∈ s.losers i ↔ (s.person e i).newlyLost = true := by
  cases e <;> simp [State.losers]

theorem PersonSt.newlyLost_iff {x : PersonSt} : x.newlyLost = true ↔ x.lost = false ∧ (x.fault = true ∨ 3 ≤ x.stale) := by
  simp [PersonSt.newlyLost]

theorem PersonSt.lost_or_newlyLost (x : PersonSt) :
    (x.lost || x.newlyLost) = (x.lost || x.fault || decide (3 ≤ x.stale)) := by
  unfold PersonSt.newlyLost
  cases x.lost <;> simp

/-- The record of a lost person names its node and the worse of the causes. -/
def State.personRecord (s : State) (i : Nat) (r : PersonRec) (t : State) : State :=
  t.emit evPersonLost (mkRef clsPerson i)
    [(mkRef clsNode r.node).toNat, if (s.losers i).any fun e => (s.person e i).fault then 1 else 2]

theorem State.exec_personLost {q : Fin 32} {r : PersonRec} (hr : s.personRec (s.dev * 32 + q.val) = some r) :
    let i := s.dev * 32 + q.val
    exec (.personLost q) s = .next (if s.losers i = [] then s
      else if (s.person .madder i).lost || (s.person .woad i).lost then s.markLost (s.losers i) i
      else s.personRecord i r (s.markLost (s.losers i) i)) := by
  refine congrArg Host.Outcome.next ?_
  simp only [hr, List.isEmpty_iff]
  rfl

/-- The cause of a record is a fault where an engine that did not hold the person lost has one. -/
theorem State.losers_any_fault {i : Nat} (hl : ∀ e, (s.person e i).lost = false) :
    ((s.losers i).any fun e => (s.person e i).fault) = ((s.person .madder i).fault || (s.person .woad i).fault) := by
  have key : ∀ e, ((s.person e i).newlyLost && (s.person e i).fault) = (s.person e i).fault := by
    intro e
    unfold PersonSt.newlyLost
    rw [hl e]
    cases (s.person e i).fault <;> simp
  rw [State.losers, List.any_filter]
  simp [key]

theorem State.completes_personLost {q : Fin 32} {r : PersonRec} (hr : s.personRec (s.dev * 32 + q.val) = some r)
    (hn : s.losers (s.dev * 32 + q.val) ≠ []) :
    let i := s.dev * 32 + q.val
    Completes (.personLost q) s fun t =>
      (∀ e, t.person e i =
          { s.person e i with
            lost := (s.person e i).lost || (s.person e i).fault || decide (3 ≤ (s.person e i).stale) } ∧
        { t.eng e with persons := (s.eng e).persons } = s.eng e) ∧
      ((∀ e, (s.person e i).lost = false) → Records s t evPersonLost (mkRef clsPerson i)
        [(mkRef clsNode r.node).toNat, if (s.person .madder i).fault || (s.person .woad i).fault then 1 else 2]) ∧
      { t with recd := s.recd, sep := { t.sep with m := s.sep.m, w := s.sep.w } } = s := by
  intro i
  have hperson : ∀ e, (s.markLost (s.losers i) i).person e i =
      { s.person e i with
        lost := (s.person e i).lost || (s.person e i).fault || decide (3 ≤ (s.person e i).stale) } := by
    intro e
    rw [s.markLost_person, ← PersonSt.lost_or_newlyLost]
    simp only [s.mem_losers, Bool.decide_eq_true]
  obtain ⟨pm, pw, h⟩ := s.personsOnly_markLost (s.losers i) i
  have hexec := (s.exec_personLost hr).trans (congrArg Host.Outcome.next (if_neg hn))
  by_cases hlost : ((s.person .madder i).lost || (s.person .woad i).lost) = true
  · refine ⟨_, hexec.trans (congrArg _ (if_pos hlost)), fun e => ⟨hperson e, ?_⟩, fun hl => ?_, ?_⟩
    · rw [h]; cases e <;> rfl
    · rw [hl, hl] at hlost; cases hlost
    · rw [h]
  · refine ⟨_, hexec.trans (congrArg _ (if_neg hlost)), fun e => ⟨?_, ?_⟩, fun hl => ?_, ?_⟩
    · rw [← hperson e]; cases e <;> rfl
    · rw [State.personRecord, h]; cases e <;> rfl
    · rw [State.personRecord, s.losers_any_fault hl, h]
      exact State.records_emit _ _ _ _
    · rw [State.personRecord, h]; rfl

/-! ### Channel faults of the engines (R170, R171) -/

/-- A first channel fault waits for the next tick. -/
theorem State.channelFault_first {a : Option Island} (hd : s.safety.degraded = none) (hp : s.safety.degPending = none) :
    s.channelFault a = s.modSafety fun x => { x with degPending := some a } := by
  rw [State.channelFault, hd, hp]; rfl

/-- The engine at fault by three late ticks in a row of it alone (R170). -/
def State.lateIsland (s : State) : Option Island :=
  if 3 ≤ s.sep.lateM ∧ s.sep.lateW < 3 then some .madder else if 3 ≤ s.sep.lateW ∧ s.sep.lateM < 3 then some .woad else none

/-- The fault is taken and recorded. -/
def State.takeSepFault (s : State) (a : Option Island) : State :=
  (s.modSep fun x => { x with
    taken := true, chFault := some { attributed := a, pending := a.isNone, tick := s.tick.no } }).emit evSepChannelFault
    s.devRef [attrCode a, if a.isSome then 2 else 1]

theorem State.sepChannelFaultOp_eq : s.sepChannelFaultOp = (s.takeSepFault s.lateIsland).channelFault s.lateIsland := by
  have h : (if (decide (3 ≤ s.sep.lateM) && !decide (3 ≤ s.sep.lateW)) = true then some Island.madder
      else if (decide (3 ≤ s.sep.lateW) && !decide (3 ≤ s.sep.lateM)) = true then some .woad else none) = s.lateIsland := by
    simp only [State.lateIsland, Bool.and_eq_true, decide_eq_true_eq, Bool.not_eq_true', decide_eq_false_iff_not, not_le]
  unfold State.sepChannelFaultOp
  simp only [h]
  rfl

theorem attrCode_eq (a : Option Island) : attrCode a = a.elim 3 islandCode := by cases a <;> rfl

theorem State.exec_sepChannelFault (hc : s.sep.disCount = 3) (ht : s.sep.taken = false) (hd : s.safety.degraded = none)
    (hp : s.safety.degPending = none) : exec .sepChannelFault s =
      .next ((s.takeSepFault s.lateIsland).modSafety fun x => { x with degPending := some s.lateIsland }) := by
  have h1 : exec .sepChannelFault s = .next s.sepChannelFaultOp :=
    congrArg Host.Outcome.next (if_pos ⟨hc, by rw [ht]; rfl⟩)
  rw [h1, s.sepChannelFaultOp_eq]
  exact congrArg Host.Outcome.next (State.channelFault_first _ hd hp)

theorem State.exec_sepChannelFault_idle (h : s.sep.disCount < 3) : exec .sepChannelFault s = .next s :=
  congrArg Host.Outcome.next (if_neg fun hc => absurd hc.1 (Nat.ne_of_lt h))

/-- The pending faults have their verdict. -/
def State.closeVerdict (s : State) : State :=
  (s.modSafety fun x => { x with directed := false }).modSep fun x =>
    { x with chFault := x.chFault.map fun f => { f with pending := false } }

/-- The state that the verdict of both engines leaves, before the pending faults are closed. -/
def State.verdict (s : State) : Bool → Bool → State
  | true, true => s
  | false, true => s.verdictAttributes .madder
  | true, false => s.verdictAttributes .woad
  | false, false => (s.noteAllStopped.modSep fun x => { x with bothFailed := true }).ss1AllZones 5 (s.tick.no + 1)

theorem State.exec_sepDirectedVerdict (hd : s.safety.directed = true) (m w : Bool) :
    exec (.sepDirectedVerdict m w) s = .next (s.verdict m w).closeVerdict := by
  have h : exec (.sepDirectedVerdict m w) s =
      .next (if (s.safety.directed || (s.sep.chFault.map fun f => f.pending).getD false) = true then
        (s.verdict m w).closeVerdict else s) := by
    cases m <;> cases w <;> rfl
  rw [h, hd, Bool.true_or, if_pos rfl]

/-- A pending fault of the engines is recorded again with its attribution (R171). -/
def State.recordSepVerdict (s : State) (e : Island) : State :=
  if (s.sep.chFault.map fun f => f.pending).getD false then s.emit evSepChannelFault s.devRef [islandCode e, 1] else s

theorem State.recordSepVerdict_shape (e : Island) : ∃ rc, s.recordSepVerdict e = { s with recd := rc } ∧
    (queuedEvents s.recd.queue + 1 < 1024 → queuedEvents rc.queue < 1024) := by
  unfold State.recordSepVerdict
  split
  · exact ⟨_, rfl, fun hq => (s.queuedEvents_emit _ _ _ (Nat.lt_of_succ_lt hq)).trans_lt hq⟩
  · exact ⟨s.recd, rfl, Nat.lt_of_succ_lt⟩

theorem State.verdictAttributes_eq (e : Island) (hd : s.safety.directed = true) : s.verdictAttributes e =
    (((s.recordSepVerdict e).emit evSafeChannelFault s.devRef [islandCode e, s.safety.directedItem]).attributeFault
      e).modSep fun x => { x with chFault := x.chFault.map fun f => { f with attributed := some e } } := by
  unfold State.verdictAttributes
  simp only [hd, if_true]
  rfl

/-- Setting a directed test that is already awaited changes nothing. -/
theorem State.set_directed (hd : s.safety.directed = true) : { s with safety := { s.safety with directed := true } } = s := by
  rw [← hd]

/-- A verdict against one engine attributes the fault to it and records it. -/
theorem State.verdictAttributes_shape (e : Island) (hd : s.safety.directed = true) : ∃ rc cf,
    RecordsWithin 1 s { s with recd := rc } evSafeChannelFault s.devRef [islandCode e, s.safety.directedItem] ∧
      s.verdictAttributes e =
        { s with
          recd := rc, safety := { s.safety with degPending := some (some e) }, sep := { s.sep with chFault := cf } } := by
  obtain ⟨rc, h, hq⟩ := s.recordSepVerdict_shape e
  rw [s.verdictAttributes_eq e hd, h]
  exact ⟨_, _, fun h1 => State.records_emit { s with recd := rc } _ _ _ (hq h1), rfl⟩

/-- A verdict for both engines ends the directed test. -/
theorem State.completes_verdict_passed (hd : s.safety.directed = true) : Completes (.sepDirectedVerdict true true) s fun t =>
    t.safety.directed = false ∧
      { t with safety := { t.safety with directed := true }, sep := { t.sep with chFault := s.sep.chFault } } = s :=
  ⟨_, s.exec_sepDirectedVerdict hd true true, rfl, s.set_directed hd⟩

theorem State.completes_verdict_attributed (e : Island) (hd : s.safety.directed = true) :
    Completes (.sepDirectedVerdict (decide (e ≠ .madder)) (decide (e ≠ .woad))) s fun t => t.safety.directed = false ∧
      t.safety.degPending = some (some e) ∧
      RecordsWithin 1 s t evSafeChannelFault s.devRef [islandCode e, s.safety.directedItem] ∧
      { t with recd := s.recd, sep := { t.sep with chFault := s.sep.chFault }
               safety := { t.safety with directed := true, degPending := s.safety.degPending } } = s := by
  obtain ⟨rc, cf, hrec, h⟩ := s.verdictAttributes_shape e hd
  have hv : s.verdict (decide (e ≠ .madder)) (decide (e ≠ .woad)) = s.verdictAttributes e := by cases e <;> rfl
  refine ⟨_, s.exec_sepDirectedVerdict hd _ _, ?_⟩
  rw [hv, h]
  exact ⟨rfl, rfl, hrec, s.set_directed hd⟩

/-- A verdict against both engines requests a stop of every zone (R171). -/
theorem State.verdict_failed_shape : ∃ r hl, r.scope = .zones s.zoneList ∧ r.t0 = s.tick.no + 1 ∧
    s.verdict false false =
      { s with
        health := hl, sep := { s.sep with bothFailed := true }
        safety := { s.safety with reqs := s.safety.reqs ++ [r], nextReq := s.safety.nextReq + 1 } } :=
  ⟨_, _, rfl, rfl, rfl⟩

theorem State.completes_verdict_failed (hd : s.safety.directed = true) :
    Completes (.sepDirectedVerdict false false) s fun t => t.sep.bothFailed = true ∧ t.safety.directed = false ∧
      (∃ r, t.safety.reqs = s.safety.reqs ++ [r] ∧ r.scope = .zones s.zoneList ∧ r.t0 = s.tick.no + 1) ∧
      { t with health := s.health, sep := { t.sep with bothFailed := s.sep.bothFailed, chFault := s.sep.chFault }
               safety := { t.safety with directed := true, reqs := s.safety.reqs, nextReq := s.safety.nextReq } } = s := by
  obtain ⟨r, hl, hscope, ht0, h⟩ := s.verdict_failed_shape
  refine ⟨_, s.exec_sepDirectedVerdict hd false false, ?_⟩
  rw [h]
  exact ⟨rfl, rfl, ⟨r, rfl, hscope, ht0⟩, s.set_directed hd⟩

/-- Settles O44: each engine command is its guard and its operation; the operations' shapes say what they leave. -/
theorem enginesPublishAndStop : Obligations.EnginesPublishAndStop := by
  unfold Obligations.EnginesPublishAndStop
  intro s e n q d on other i p engs
  refine ⟨fun hon hk => ?_, fun hon hi hp => ?_, fun hon hp hl => s.completes_engineLate hon hp hl,
    fun hon => completes_self (s.exec_engineLate_idle hon), fun h => completes_self (s.exec_boundPass_idle h),
    fun h => completes_self (s.exec_predictedPass_idle h), fun r hr => ⟨fun ⟨e, hl, hf⟩ => ?_, fun h => ?_⟩, ?_,
    fun hc ht hd hp => ?_, fun h => completes_self (s.exec_sepChannelFault_idle h), fun hd => ?_⟩
  · exact ⟨_, s.exec_predictedPass hon hk, s.predictedPass_eng_other e, fun k pr hpr => s.predictedPass_dHat e hpr,
      s.predictedPass_eng e, s.predictedPass_frame e⟩
  · obtain ⟨heng, hreq⟩ := s.boundPass_eng e n
    obtain ⟨res, br, harm⟩ := heng.arm_eq
    refine ⟨_, s.exec_boundPass hon hi hp, s.boundPass_eng_other e n, heng.published, heng.publish, heng.joints,
      fun g hg => ⟨fun hs => ?_, fun hout hnew => ?_, fun hs hu ha hax => hreq hu ha g hg hs hax⟩,
      s.boundPass_pair e n, s.boundPass_frame e n⟩
    · rw [harm g hg] at hs ⊢
      exact s.armResult_kappa_of_stop hs
    · rw [harm g hg]
      exact s.armResult_kappa_le hout hnew
  · refine s.completes_personLost hr (List.ne_nil_of_mem ((s.mem_losers (e := e)).mpr ?_))
    exact PersonSt.newlyLost_iff.mpr ⟨hl, hf⟩
  · have hnone : s.losers i = [] := by
      refine List.eq_nil_iff_forall_not_mem.mpr fun e he => ?_
      obtain ⟨hl, hf⟩ := PersonSt.newlyLost_iff.mp (s.mem_losers.mp he)
      obtain hlost | ⟨hfault, hstale⟩ := h e
      · exact Bool.false_ne_true (hl.symm.trans hlost)
      · exact hf.elim (fun hf => Bool.false_ne_true (hfault.symm.trans hf)) (Nat.not_le_of_lt hstale)
    exact completes_self ((s.exec_personLost hr).trans (congrArg _ (if_pos hnone)))
  · intro k
    have hk : ((s.foreignCaps d.val).filter fun c =>
        [Island.madder, .woad].any fun e => decide ((s.relay e c.index).stale = 3)).length = k := by
      simp only [List.any_cons, List.any_nil, Bool.or_false, k]
    have hexec : exec (.relayStale d) s = .next (if 0 < k then s.emit evRelayStale (mkRef clsDevice d.val) [k] else s) := by
      rw [← hk]; rfl
    refine ⟨fun hpos => ⟨_, hexec.trans (congrArg _ (if_pos hpos)), s.records_emit _ _ _, rfl⟩, fun hz => ?_⟩
    exact completes_self (hexec.trans (congrArg _ (if_neg (by omega))))
  · refine ⟨_, s.exec_sepChannelFault hc ht hd hp, rfl, rfl, rfl, ?_, ?_⟩
    · rw [← attrCode_eq]
      exact State.records_emit _ _ _ _
    · rw [← hp]; rfl
  · exact ⟨s.completes_verdict_passed hd, s.completes_verdict_attributed e hd, s.completes_verdict_failed hd⟩

end Sys2Proof.Machine

/-! ### Stops (R101, R212, R215, R219): what they leave -/

namespace Sys2Proof.Machine
open Sys2Proof.Claims

variable (s : State)

/-- The qualified levels of an input, and when they last changed. -/
def InputSt.levels (x : InputSt) : Bool × Bool × Nat × Nat := (x.aQ, x.bQ, x.qualA, x.qualB)

/-- What a stop leaves of the safety functions: the image, arming, the test pulses and the inputs' levels. -/
structure SafetySt.StopKeeps (x y : SafetySt) : Prop where
  img : y.img = x.img
  armed : y.armed = x.armed
  tps : y.tps = x.tps
  levels : ∀ i, (tblGet ({} : InputSt) y.inputs i).levels = (tblGet ({} : InputSt) x.inputs i).levels

theorem SafetySt.StopKeeps.refl (x : SafetySt) : x.StopKeeps x := ⟨rfl, rfl, rfl, fun _ => rfl⟩

theorem SafetySt.StopKeeps.trans {x y z : SafetySt} (h : x.StopKeeps y) (h' : y.StopKeeps z) : x.StopKeeps z :=
  ⟨h'.img.trans h.img, h'.armed.trans h.armed, h'.tps.trans h.tps, fun i => (h'.levels i).trans (h.levels i)⟩

/-- `t` comes from `s` by stops: axes, queues, supply, zones and records have changed, causes may have set, and no command of
the host has been accepted or completed. -/
def State.Stops (s t : State) : Prop :=
  ∃ sf ax qs sp rc hs,
    t = { s with safety := sf, axes := ax, queues := qs, supply := sp, recd := rc, host := hs } ∧
      s.safety.StopKeeps sf ∧ hs.rings = s.host.rings ∧ hs.inflight = s.host.inflight

theorem State.Stops.refl : s.Stops s := ⟨_, _, _, _, _, _, rfl, .refl _, rfl, rfl⟩

theorem State.Stops.trans {s t u : State} (h : s.Stops t) (h' : t.Stops u) : s.Stops u := by
  obtain ⟨sf, ax, qs, sp, rc, hs, rfl, hk, hr, hi⟩ := h
  obtain ⟨sf', ax', qs', sp', rc', hs', rfl, hk', hr', hi'⟩ := h'
  exact ⟨sf', ax', qs', sp', rc', hs', rfl, hk.trans hk', hr'.trans hr, hi'.trans hi⟩

/-- A fold of stops is a stop. -/
theorem State.stops_forEach {α : Type} (l : List α) {f : State → α → State} (h : ∀ (t : State) (a : α), t.Stops (f t a)) :
    s.Stops (s.forEach l f) :=
  s.forEach_invariant s.Stops l f (.refl s) fun t a _ ht => ht.trans (h t a)

/-! #### Accessors -/

theorem State.stops_modAxis (a : Nat) (f : Axis → Axis) : s.Stops (s.modAxis a f) :=
  ⟨_, _, _, _, _, _, rfl, .refl _, rfl, rfl⟩

theorem State.stops_modQueue (q : Word) (f : Queue → Queue) : s.Stops (s.modQueue q f) :=
  ⟨_, _, _, _, _, _, rfl, .refl _, rfl, rfl⟩

theorem State.stops_modSupply (f : SupplySt → SupplySt) : s.Stops (s.modSupply f) :=
  ⟨_, _, _, _, _, _, rfl, .refl _, rfl, rfl⟩

theorem State.stops_modRec (f : RecSt → RecSt) : s.Stops (s.modRec f) := ⟨_, _, _, _, _, _, rfl, .refl _, rfl, rfl⟩

theorem State.stops_emit (code : Nat) (obj : Word) (args : List Nat) : s.Stops (s.emit code obj args) :=
  ⟨_, _, _, _, _, _, rfl, .refl _, rfl, rfl⟩

theorem State.stops_modSafety {f : SafetySt → SafetySt} (h : s.safety.StopKeeps (f s.safety)) : s.Stops (s.modSafety f) :=
  ⟨_, _, _, _, _, _, rfl, h, rfl, rfl⟩

theorem State.stops_modZone (z : Nat) (f : ZoneSt → ZoneSt) : s.Stops (s.modZone z f) :=
  s.stops_modSafety ⟨rfl, rfl, rfl, fun _ => rfl⟩

theorem State.stops_modAxisSto (a : Nat) (f : AxisSto → AxisSto) : s.Stops (s.modAxisSto a f) :=
  s.stops_modSafety ⟨rfl, rfl, rfl, fun _ => rfl⟩

theorem State.stops_modSls (k : Nat) (f : SlsSt → SlsSt) : s.Stops (s.modSls k f) :=
  s.stops_modSafety ⟨rfl, rfl, rfl, fun _ => rfl⟩

/-- A change of an input that keeps its levels. -/
theorem State.stops_modInput (i : Nat) {f : InputSt → InputSt} (h : ∀ x, (f x).levels = x.levels) :
    s.Stops (s.modInput i f) := by
  refine s.stops_modSafety ⟨rfl, rfl, rfl, fun k => ?_⟩
  rw [tblGet_tblMod]
  split
  · subst_vars; exact h _
  · rfl

theorem State.stops_raiseIrq (k : Nat) : s.Stops (s.raiseIrq k) := by
  have hv : ∀ t : State, ∃ hs, t.raiseVector k = { t with host := hs } ∧ hs.rings = t.host.rings ∧
      hs.inflight = t.host.inflight := by
    intro t
    unfold State.raiseVector
    extract_lets e
    split
    · exact ⟨_, rfl, rfl, rfl⟩
    · exact ⟨_, rfl, rfl, rfl⟩
  unfold State.raiseIrq
  extract_lets t
  split
  · exact .refl s
  · split
    · obtain ⟨hs, h, hr, hi⟩ := hv t
      rw [h]
      exact ⟨_, _, _, _, _, _, rfl, .refl _, hr, hi⟩
    · exact ⟨_, _, _, _, _, _, rfl, .refl _, rfl, rfl⟩

/-! #### Queues and homing runs -/

theorem State.stops_outcome (q : Word) (g : Seg) (oc : Nat) : s.Stops (s.outcome q g oc) := by
  unfold State.outcome
  extract_lets t
  have ht : s.Stops t := s.stops_modQueue ..
  split
  · exact .refl s
  · split
    · exact ht.trans (t.stops_emit ..)
    · exact ht

theorem State.stops_outcomes (q : Word) (l : List Seg) (oc : Nat) : s.Stops (s.outcomes q l oc) :=
  s.stops_forEach l fun t g => t.stops_outcome q g oc

theorem State.stops_settleQueue (q : Word) : s.Stops (s.settleQueue q) := by
  unfold State.settleQueue
  extract_lets x
  split
  · exact (s.stops_forEach _ fun t a => t.stops_modAxis a _).trans (State.stops_modQueue _ _ _)
  · exact .refl s

theorem State.stops_releaseAxes (q : Word) (axes : List Nat) : s.Stops (s.releaseAxes q axes) :=
  ((s.stops_forEach axes fun t a => t.stops_modAxis a _).trans (State.stops_modQueue _ _ _)).trans
    (State.stops_settleQueue _ q)

theorem State.stops_dropQueue (q : Word) (oc : Nat) : s.Stops (s.dropQueue q oc) := by
  unfold State.dropQueue
  extract_lets x t u
  have ht : s.Stops t := s.stops_modQueue ..
  have hu : s.Stops u := by
    simp only [u]
    split
    · exact ht
    · exact (ht.trans (t.stops_outcome ..)).trans (State.stops_outcomes _ ..)
  exact (hu.trans (u.stops_releaseAxes ..)).trans (State.stops_modSupply _ _)

theorem State.stops_recordKept (q : Word) (g : Seg) (p p' : Plan) : s.Stops (s.recordKept q g p p') := by
  unfold State.recordKept
  split
  · exact s.stops_emit ..
  · exact .refl s

theorem State.stops_markKept (axes : List Nat) (k : Bool) : s.Stops (s.markKept axes k) :=
  s.stops_forEach axes fun t a => t.stops_modAxis a _

theorem State.stops_stopQueue (q : Word) (covered : List Nat) : s.Stops (s.stopQueue q covered) := by
  unfold State.stopQueue
  extract_lets x
  split
  · refine (s.stops_forEach _ fun t e => ?_).trans (State.stops_dropQueue _ ..)
    split
    · exact .refl t
    · exact t.stops_modAxis ..
  · exact s.stops_dropQueue ..

theorem State.stops_brakeQueue (halt : Bool) (q : Word) : s.Stops (s.brakeQueue halt q) := by
  unfold State.brakeQueue
  extract_lets x
  split
  · rename_i g rest p _ _
    extract_lets t p1 u v
    have hu : s.Stops u := (s.stops_outcomes ..).trans (t.stops_recordKept ..)
    have hv : s.Stops v := by
      simp only [v]
      split
      · exact hu.trans (u.stops_markKept ..)
      · exact hu
    exact hv.trans (v.stops_modQueue ..)
  · exact s.stops_dropQueue ..
  · exact .refl s

theorem State.stops_homeBrake (a : Nat) : s.Stops (s.homeBrake a) := by
  unfold State.homeBrake
  extract_lets q
  split
  · exact s.stops_brakeQueue ..
  · exact .refl s

theorem State.stops_homeFail (a : Nat) : s.Stops (s.homeFail a) := by
  unfold State.homeFail
  split
  · exact .refl s
  · refine s.stops_forEach _ fun t b => ?_
    extract_lets u
    split
    · exact t.stops_homeBrake b
    · exact (t.stops_homeBrake b).trans (u.stops_modAxis ..)

/-! #### Axes and zones into STO -/

theorem State.stops_stopAxisQueues (a : Nat) (covered : List Nat) : s.Stops (s.stopAxisQueues a covered) := by
  unfold State.stopAxisQueues
  extract_lets t
  have ht : s.Stops t := by
    simp only [t]
    split
    · exact s.stops_stopQueue ..
    · exact .refl s
  exact ht.trans (t.stops_homeFail a)

theorem State.stops_axisIntoSto (a : Nat) : s.Stops (s.axisIntoSto a) := by
  unfold State.axisIntoSto
  extract_lets t
  exact ((s.stops_stopAxisQueues a [a]).trans (State.stops_modAxis _ ..)).trans
    (t.stops_modSafety ⟨rfl, rfl, rfl, fun _ => rfl⟩)

theorem State.stops_resetNeeded (r : Ss1Req) : s.Stops (s.resetNeeded r) := by
  unfold State.resetNeeded
  split
  · exact s.stops_forEach _ fun t a => t.stops_modAxisSto a _
  · exact .refl s

theorem State.stops_pruneSs1 : s.Stops s.pruneSs1 :=
  (s.stops_modSafety ⟨rfl, rfl, rfl, fun _ => rfl⟩).trans (State.stops_forEach _ _ State.stops_resetNeeded)

theorem State.stops_zoneIntoSto (z cause : Nat) (input : Option Nat) (late : Bool) (f : ZoneSt → ZoneSt) :
    s.Stops (s.zoneIntoSto z cause input late f) :=
  ((((s.stops_modZone z _).trans (State.stops_emit _ ..)).trans (State.stops_raiseIrq _ 7)).trans
    (State.stops_forEach _ _ State.stops_axisIntoSto)).trans (State.stops_pruneSs1 _)

theorem State.stops_stopZoneBy (z cause : Nat) (input : Option Nat) (late : Bool) (f : ZoneSt → ZoneSt) :
    s.Stops (s.stopZoneBy z cause input late f) := by
  unfold State.stopZoneBy
  split
  · exact .refl s
  · split
    · exact s.stops_modZone ..
    · exact s.stops_zoneIntoSto ..

theorem State.stops_stopAllZones (cause : Nat) : s.Stops (s.stopAllZones cause) :=
  s.stops_forEach _ fun t z => t.stops_stopZoneBy z cause none false _

/-! #### Inputs acting (R227, R234) -/

theorem State.stops_refreshSls (t : Nat) : s.Stops (s.refreshSls t) := by
  refine s.stops_forEach _ fun u p => ?_
  extract_lets on
  split
  · exact .refl u
  · exact u.stops_modSls ..

theorem State.stops_matrixSto (i t : Nat) : s.Stops (s.matrixSto i t) := by
  unfold State.matrixSto
  extract_lets p own
  split
  · exact s.stops_forEach _ fun u z => u.stops_stopZoneBy ..
  · exact .refl s

theorem State.stops_inputActs (i t : Nat) : s.Stops (s.inputActs i t) := by
  unfold State.inputActs
  extract_lets p u v w
  have hu : s.Stops u := s.stops_modInput i fun _ => rfl
  have hv : s.Stops v := by
    simp only [v]
    split
    · exact hu.trans (u.stops_modRec _)
    · exact hu
  have hw : s.Stops w := by
    simp only [w]
    split
    · exact hv.trans (v.stops_matrixSto i t)
    · exact hv
  exact hw.trans (w.stops_refreshSls t)

theorem State.stops_inputsAct : s.Stops s.inputsAct := s.stops_forEach _ fun t r => t.stops_inputActs r.input 0

end Sys2Proof.Machine

/-! ### IMAGE_LOAD (R32 to R34, R442) -/

namespace Sys2Proof.Machine
open Sys2Proof.Claims

variable (s : State)

/-! #### Form and dispatch -/

/-- What the kind of an image that has passed its header asks for. -/
def State.loadKind (s : State) (h : Hdr) (gen : Word) (img : List Byte) (rs : List ImgRec) : Nat → State
  | 1 => s.loadCell h gen rs
  | 2 => s.loadSchedule h gen rs
  | 3 => s.loadKinematics h gen img rs
  | 4 => s.loadSafety h gen img rs
  | 6 => s.loadParamset h gen rs
  | _ => s.loadKernel h gen rs

/-- The device index for which the header of an image is judged (R32). -/
def State.imageDev (s : State) (img : List Byte) : Nat := if imageKind img = 1 then s.indexIn img else s.dev

section
variable {s : State} {h : Hdr} {off len : Word} (hwin : s.winOk off.toNat len.toNat = true)
include hwin

theorem State.not_outside_of_winOk : ¬winBytes < off.toNat + len.toNat := by
  simp only [State.winOk, Bool.and_eq_true, decide_eq_true_eq] at hwin
  exact Nat.not_lt.mpr hwin.1

/-- A header that fails answers its status. -/
theorem State.exec_imageLoad_header
    (he : imageHeaderError (s.imageDev (s.winRead off.toNat len.toNat)) (s.winRead off.toNat len.toNat) len.toNat ≠ 0) :
    exec (.imageLoad h off len) s = .next (s.done opImageLoad h
      (imageHeaderError (s.imageDev (s.winRead off.toNat len.toNat)) (s.winRead off.toNat len.toNat) len.toNat)) := by
  refine congrArg Host.Outcome.next ?_
  unfold State.imageLoadOp
  simp only [State.not_outside_of_winOk hwin, hwin, if_false, Bool.not_true, Bool.false_eq_true]
  exact if_pos he

/-- A STRUCT image is none that IMAGE_LOAD takes. -/
theorem State.exec_imageLoad_struct
    (he : imageHeaderError (s.imageDev (s.winRead off.toNat len.toNat)) (s.winRead off.toNat len.toNat) len.toNat = 0)
    (hk : imageKind (s.winRead off.toNat len.toNat) = 5) :
    exec (.imageLoad h off len) s = .next (s.done opImageLoad h stArg) := by
  refine congrArg Host.Outcome.next ?_
  unfold State.imageLoadOp
  simp only [State.not_outside_of_winOk hwin, hwin, if_false, Bool.not_true, Bool.false_eq_true]
  exact (if_neg (not_not.mpr he)).trans (if_pos hk)

/-- An image that passes its header and whose records fill it is loaded as its kind asks for. -/
theorem State.exec_imageLoad_kind {rs : List ImgRec} {k : Nat} (hrs : imageRecs (s.winRead off.toNat len.toNat) = some rs)
    (he : imageHeaderError (s.imageDev (s.winRead off.toNat len.toNat)) (s.winRead off.toNat len.toNat) len.toNat = 0)
    (hk : imageKind (s.winRead off.toNat len.toNat) = k) (h5 : k ≠ 5) (hcell : k = 1 ∨ s.cell.loaded = true) :
    exec (.imageLoad h off len) s =
      .next (s.loadKind h (imageGen (s.winRead off.toNat len.toNat)) (s.winRead off.toNat len.toNat) rs k) := by
  have hc : ¬(imageKind (s.winRead off.toNat len.toNat) ≠ 1 ∧ (!s.cell.loaded) = true) := by
    rintro ⟨h1, h2⟩
    exact hcell.elim (fun hk1 => h1 (hk.trans hk1)) fun hl => by rw [hl] at h2; cases h2
  refine congrArg Host.Outcome.next ?_
  unfold State.imageLoadOp
  simp only [State.not_outside_of_winOk hwin, hwin, if_false, Bool.not_true, Bool.false_eq_true]
  refine (if_neg (not_not.mpr he)).trans ((if_neg (hk ▸ h5)).trans ((if_neg hc).trans ?_))
  rw [hrs]
  subst hk
  rfl

end

/-! #### Images other than CELL -/

/-- An accepted SCHEDULE takes its place (R275). -/
theorem State.loadSchedule_accepted {h : Hdr} {gen : Word} {rs : List ImgRec} (hform : scheduleForm rs = true)
    (hobj : s.recObjects rs = true)
    (hcls : ∀ r ∈ rs, (r.rtype = 0x0402 → refClass r.obj = clsNode ∨ refClass r.obj = clsDevice) ∧
      (r.rtype = 0x0401 → refClass r.obj = clsDevice))
    (hok : s.scheduleOk (scheduleOf gen rs) = true) (hslots : s.personSlotsOk (scheduleOf gen rs) s.sep.kin = true)
    (hfits : s.relayFits (scheduleOf gen rs) s.sep.kin = true) :
    s.loadSchedule h gen rs = (s.modSelide fun x => { x with sched := scheduleOf gen rs }).done opImageLoad h stOk := by
  have hslot : ((recsOf rs 0x0402).all fun r => refClass r.obj = clsNode || refClass r.obj = clsDevice) = true := by
    simp only [recsOf, List.all_eq_true, List.mem_filter, decide_eq_true_eq, Bool.or_eq_true]
    exact fun r hr => (hcls r hr.1).1 hr.2
  have htrunk : ((recsOf rs 0x0401).all fun r => refClass r.obj = clsDevice) = true := by
    simp only [recsOf, List.all_eq_true, List.mem_filter, decide_eq_true_eq]
    exact fun r hr => (hcls r hr.1).2 hr.2
  unfold State.loadSchedule
  simp only [hform, hobj, hslot, htrunk, hok, hslots, hfits, Bool.and_self, firstFail, if_true, ne_eq, not_true, if_false]

/-- An accepted KINEMATICS image takes its place, with its pair list (R153, R156). -/
theorem State.loadKinematics_accepted {h : Hdr} {gen : Word} {img : List Byte} {rs : List ImgRec} (hform : kinForm rs = true)
    (hobj : s.kinObjects rs = true) (harms : s.armsOk (kinOf gen img rs) = true) (hok : s.kinOk rs (kinOf gen img rs) = true)
    (hzones : s.armsInZones (kinOf gen img rs) s.safety.img = true)
    (hslots : s.personSlotsOk s.selide.sched (kinOf gen img rs) = true) (hcaps : (kinOf gen img rs).caps.length ≤ 1024)
    (hpersons : (kinOf gen img rs).persons.length ≤ 32) (hpairs : pairCount (kinOf gen img rs) ≤ 131072)
    (hfits : s.relayFits s.selide.sched (kinOf gen img rs) = true) (harmed : s.safety.armed = false) :
    s.loadKinematics h gen img rs =
      ((s.modSolver fun y => { y with kinLoads := y.kinLoads + 1 }).modSep fun x => { x with
        kin := { kinOf gen img rs with pairs := pairsOf (kinOf gen img rs) }, m := x.m.jointsOnly, w := x.w.jointsOnly
        pairSt := [], disagree := false, disCount := 0, taken := false, latchV := [] }).done opImageLoad h stOk := by
  unfold State.loadKinematics
  simp only [hform, hobj, harms, hok, hzones, hslots, hcaps, hpersons, hpairs, hfits, harmed, Bool.and_self, Bool.not_false,
    decide_true, firstFail, if_true, ne_eq, not_true, if_false]

/-- The state in which the inputs of an accepted SAFETY image begin. -/
def State.placeSafety (s : State) (x : SafeImg) : State :=
  s.modSafety fun y => { y with img := x, inputs := [], tps := [], sls := [] }

/-- An accepted SAFETY image takes its place, and its inputs begin (R242). -/
theorem State.loadSafety_accepted {h : Hdr} {gen : Word} {img : List Byte} {rs : List ImgRec} (hform : safetyForm rs = true)
    (hobj : s.safetyObjects rs (safetyOf gen img rs) = true) (hok : s.safetyOk (safetyOf gen img rs) = true)
    (harmed : s.safety.armed = false) (hstraps : s.strapsOk (safetyOf gen img rs) = true) :
    s.loadSafety h gen img rs = (s.placeSafety (safetyOf gen img rs)).inputsBegin.done opImageLoad h stOk := by
  unfold State.loadSafety
  simp only [hform, hobj, hok, harmed, hstraps, Bool.not_false, firstFail, if_true, ne_eq, not_true, if_false]
  rfl

/-- An accepted PARAMSET is staged (R439). -/
theorem State.loadParamset_accepted {h : Hdr} {gen : Word} {rs : List ImgRec} (hform : paramsetForm rs = true)
    (hobj : s.recObjects rs = true) : s.loadParamset h gen rs =
      { s.begin h with
        par := { s.par with sets := s.par.sets ++ [{ hdr := h, generation := gen, records := pvaluesOf rs }] } } := by
  unfold State.loadParamset
  simp only [hform, hobj, firstFail, if_true, ne_eq, not_true, if_false]

theorem State.loadKernel_accepted {h : Hdr} {gen : Word} {rs : List ImgRec} (hst : s.kernelStatus rs = 0) :
    s.loadKernel h gen rs = s.acceptKernel h gen rs := by
  unfold State.loadKernel
  simp only [hst, ne_eq, not_true, if_false]

/-! #### Inputs of a SAFETY image that begin -/

/-- `t` is `s` with inputs whose levels are low, of which those that have begun changed at `s.now`. -/
def State.InputsBeginning (s t : State) : Prop :=
  ∃ ip rc, t = { s with safety := { s.safety with inputs := ip }, recd := rc } ∧
    ∀ i, (tblGet ({} : InputSt) ip i).aQ = false ∧ (tblGet ({} : InputSt) ip i).bQ = false

/-- One input begins. -/
def State.inputBegin (s : State) (i : Nat) : State :=
  (s.modRec fun x => { x with siPairs := tblSet x.siPairs i none }).modInput i fun x => { x with
    qualA := s.now, qualB := s.now, runStart := if (s.indications i).1 = (s.indications i).2 then none else some s.now
    aFirst := (s.indications i).1 }

theorem State.inputsBegin_eq :
    s.inputsBegin = (s.forEach s.safety.img.inputs fun u r => u.inputBegin r.input).inputsAct := rfl

theorem State.inputsBeginning_inputBegin {s t : State} (i : Nat) (h : s.InputsBeginning t) :
    s.InputsBeginning (t.inputBegin i) := by
  obtain ⟨ip, rc, rfl, hl⟩ := h
  refine ⟨_, _, rfl, fun k => ?_⟩
  rw [tblGet_tblMod]
  split
  · exact hl i
  · exact hl k

/-- The levels of an input that has begun. -/
theorem State.inputBegin_levels {s t : State} (i : Nat) (h : s.InputsBeginning t) :
    ((t.inputBegin i).input i).levels = (false, false, s.now, s.now) := by
  obtain ⟨ip, rc, rfl, hl⟩ := h
  rw [State.inputBegin, State.modInput_input, if_pos rfl]
  exact congrArg₂ (fun a b => (a, b, s.now, s.now)) (hl i).1 (hl i).2

/-- An input that has begun keeps its levels while others begin. -/
theorem State.inputBegin_keeps {s t : State} (i k : Nat) (h : s.InputsBeginning t)
    (hk : (t.input k).levels = (false, false, s.now, s.now)) :
    ((t.inputBegin i).input k).levels = (false, false, s.now, s.now) := by
  by_cases hik : k = i
  · subst hik; exact State.inputBegin_levels k h
  · rw [State.inputBegin, State.modInput_input, if_neg hik]
    exact hk

/-- After the beginning every input of the image stands low since `s.now`. -/
theorem State.inputsBegin_spec (hempty : s.safety.inputs = []) : ∃ u, s.InputsBeginning u ∧ u.Stops s.inputsBegin ∧
    ∀ r ∈ s.safety.img.inputs, (s.inputsBegin.input r.input).levels = (false, false, s.now, s.now) := by
  have h0 : s.InputsBeginning s := ⟨s.safety.inputs, s.recd, rfl, fun i => by rw [hempty]; exact ⟨rfl, rfl⟩⟩
  have hu := s.forEach_invariant s.InputsBeginning s.safety.img.inputs (fun u r => u.inputBegin r.input) h0
    fun t r _ ht => State.inputsBeginning_inputBegin r.input ht
  have hstop := State.stops_inputsAct (s.forEach s.safety.img.inputs fun u r => u.inputBegin r.input)
  rw [← s.inputsBegin_eq] at hstop
  refine ⟨_, hu, hstop, fun r hr => ?_⟩
  have hr' := s.forEach_establishes s.InputsBeginning (fun t => (t.input r.input).levels = (false, false, s.now, s.now)) hr h0
    (fun t b ht => State.inputsBeginning_inputBegin b.input ht) (fun t ht => State.inputBegin_levels r.input ht)
    fun t b ht hl => State.inputBegin_keeps b.input r.input ht hl
  obtain ⟨sf, ax, qs, sp, rc, hs, h, hkeep, -, -⟩ := hstop
  rw [h]
  exact (hkeep.levels r.input).trans hr'

end Sys2Proof.Machine

/-! ### A new CELL image (R33) -/

namespace Sys2Proof.Machine
open Sys2Proof.Claims

variable (s : State)

/-- `t` is `s` with commands of the host completed; none of them dates from before a host reset. -/
def State.HostOnly (s t : State) : Prop := ∃ hs, t = { s with host := hs } ∧ (s.NoOrphan → t.NoOrphan)

theorem State.HostOnly.refl : s.HostOnly s := ⟨s.host, rfl, id⟩

theorem State.HostOnly.trans {s t u : State} (h : s.HostOnly t) (h' : t.HostOnly u) : s.HostOnly u := by
  obtain ⟨hs, rfl, ho⟩ := h
  obtain ⟨hs', rfl, ho'⟩ := h'
  exact ⟨hs', rfl, ho' ∘ ho⟩

theorem State.hostOnly_done (op : Nat) (h : Hdr) (status : Nat) : s.HostOnly (s.done op h status) := by
  refine ⟨(s.done op h status).host, ?_, s.done_noOrphan op h status⟩
  exact congrArg (fun u : State => { u with host := (s.done op h status).host }) (s.done_frame op h status)

theorem State.hostOnly_forEach {α : Type} (l : List α) {f : State → α → State} (h : ∀ (t : State) (a : α), t.HostOnly (f t a)) :
    s.HostOnly (s.forEach l f) :=
  s.forEach_invariant s.HostOnly l f (.refl s) fun t a _ ht => ht.trans (h t a)

/-- The requests that leave the supply's queues complete their commands. -/
theorem State.dropSupply_shape : ∃ u, s.HostOnly u ∧ s.dropSupply = u.modSupply fun x => { x with reqs := [] } := by
  refine ⟨_, s.hostOnly_forEach s.supply.reqs fun t r => ?_, rfl⟩
  split
  · exact t.hostOnly_done ..
  · exact t.hostOnly_done ..
  · exact .refl t

/-- What a new CELL discards: the images, with what rests on them. -/
structure State.Discarded (s t : State) : Prop where
  sched : t.selide.sched.loaded = false
  kin : t.sep.kin.loaded = false
  safety : t.safety.img.loaded = false
  armed : t.safety.armed = false
  structs : t.solver.structs = []
  kernel : t.lanes.kernel = none
  par : t.par = { s.par with sets := [] }
  selected : t.solver.selected = s.solver.selected
  warmVec : t.solver.warmVec = s.solver.warmVec
  tick : t.tick = s.tick
  time : t.time = s.time
  can : t.can = s.can
  queues : s.safety.armed = false → t.queues = s.queues
  noOrphan : s.NoOrphan → t.NoOrphan

/-- The parts of the state that no image rests on stay as they are. -/
theorem State.Discarded.of_stops {s t u : State} (h : s.HostOnly t) (hu : t.Stops u) (hq : s.safety.armed = false → u.queues = s.queues)
    {sep : SepSt} {saf : SafetySt} {sel : SelideSt} {lns : LanesSt} {sol : SolverSt} {hlt : HealthSt}
    (hsep : sep.kin.loaded = false) (himg : saf.img.loaded = false) (harm : saf.armed = false)
    (hsel : sel.sched.loaded = false) (hlns : lns.kernel = none) (hst : sol.structs = [])
    (hsol : sol.selected = u.solver.selected ∧ sol.warmVec = u.solver.warmVec) :
    s.Discarded { u with
      sep := sep, solver := sol, safety := saf, selide := sel, lanes := lns, health := hlt
      par := { u.par with sets := [] } } := by
  obtain ⟨hs, rfl, ho⟩ := h
  obtain ⟨sf, ax, qs, sp, rc, hs', rfl, -, -, hi⟩ := hu
  exact ⟨hsel, hsep, himg, harm, hst, hlns, rfl, hsol.1, hsol.2, rfl, rfl, rfl, hq,
    fun hn e he => ho hn e (hi ▸ he)⟩

theorem State.discarded_discardImages : s.Discarded s.discardImages := by
  unfold State.discardImages
  extract_lets loads kern sets t u sep saf sel lns sol hlt par
  have ht : s.HostOnly t := s.hostOnly_forEach _ fun v p => v.hostOnly_done ..
  have hu : t.Stops u := by
    simp only [u]
    split
    · exact (t.stops_emit ..).trans (State.stops_stopAllZones _ 6)
    · exact .refl t
  have hq : s.safety.armed = false → u.queues = s.queues := by
    intro ha
    obtain ⟨hs, h, -⟩ := ht
    simp only [u, h, ha, Bool.false_eq_true, if_false]
  exact .of_stops ht hu hq rfl rfl rfl rfl rfl rfl ⟨rfl, rfl⟩

/-- The object model, the supply and the host interface have no part in what is discarded. -/
theorem State.Discarded.update {s t : State} (h : s.Discarded t) (c : Cell) (sp : SupplySt) (hs : HostIf)
    (ho : t.NoOrphan → ∀ e ∈ hs.inflight, e.orphan = false) : s.Discarded { t with cell := c, supply := sp, host := hs } :=
  ⟨h.sched, h.kin, h.safety, h.armed, h.structs, h.kernel, h.par, h.selected, h.warmVec, h.tick, h.time, h.can, h.queues,
    fun hn => ho (h.noOrphan hn)⟩

theorem State.Discarded.dropSupply {s t : State} (h : s.Discarded t) : s.Discarded t.dropSupply := by
  obtain ⟨u, ⟨hs, rfl, ho⟩, heq⟩ := t.dropSupply_shape
  rw [heq]
  exact h.update t.cell { t.supply with reqs := [] } hs ho

theorem State.discarded_acceptCell (c : Cell) : s.Discarded (s.acceptCell c) := by
  have h := s.discarded_discardImages.dropSupply
  unfold State.acceptCell
  generalize s.discardImages.dropSupply = t at h ⊢
  exact h.update c _ _ id

theorem State.acceptCell_cell (c : Cell) : (s.acceptCell c).cell = c := rfl

theorem State.loadCell_accepted {h : Hdr} {gen : Word} {rs : List ImgRec} (hst : (s.checkCell gen rs).1 = 0) :
    s.loadCell h gen rs = (s.acceptCell (s.checkCell gen rs).2).done opImageLoad h stOk := by
  unfold State.loadCell
  simp only [hst, ne_eq, not_true, if_false]

/-! ### A module of user kernels becomes active (R330) -/

/-- `t` is `s` with other words in the memories of its pairs. -/
def State.PairsLoaded (s t : State) : Prop :=
  ∃ ps, t = { s with lanes := { s.lanes with pairs := ps } } ∧ ∀ p, (t.pair p).state = (s.pair p).state ∧
    (t.pair p).lane = (s.pair p).lane ∧ (t.pair p).regs = { (s.pair p).regs with cache := (t.pair p).regs.cache }

theorem State.PairsLoaded.refl : s.PairsLoaded s := ⟨_, rfl, fun _ => ⟨rfl, rfl, rfl⟩⟩

theorem State.PairsLoaded.trans {s t u : State} (h : s.PairsLoaded t) (h' : t.PairsLoaded u) : s.PairsLoaded u := by
  obtain ⟨ps, rfl, hp⟩ := h
  obtain ⟨ps', rfl, hp'⟩ := h'
  refine ⟨ps', rfl, fun p => ?_⟩
  obtain ⟨hst, hl, hr⟩ := hp p
  obtain ⟨hst', hl', hr'⟩ := hp' p
  refine ⟨hst'.trans hst, hl'.trans hl, ?_⟩
  rw [hr', hr]

theorem State.pairsLoaded_forEach {α : Type} (l : List α) {f : State → α → State}
    (h : ∀ (t : State) (a : α), t.PairsLoaded (f t a)) : s.PairsLoaded (s.forEach l f) :=
  s.forEach_invariant s.PairsLoaded l f (.refl s) fun t a _ ht => ht.trans (h t a)

/-- A change of a pair's memories. -/
theorem State.pairsLoaded_modPair (p : Nat) {f : PairSt → PairSt} (hs : ∀ x, (f x).state = x.state)
    (hl : ∀ x, (f x).lane = x.lane) (hr : ∀ x, (f x).regs = { x.regs with cache := (f x).regs.cache }) :
    s.PairsLoaded (s.modPair p f) := by
  refine ⟨_, rfl, fun k => ?_⟩
  rw [State.modPair_pair]
  split
  · subst_vars; exact ⟨hs _, hl _, hr _⟩
  · exact ⟨rfl, rfl, rfl⟩

/-- `t` is `s` with axes that differ in whether their user stage is disabled. -/
def State.UsersEnabled (s t : State) : Prop :=
  ∃ ax, t = { s with axes := ax } ∧ ∀ a, t.axis a = { s.axis a with userDisabled := (t.axis a).userDisabled }

/-- The user stage of an axis is no longer disabled. -/
def State.enableUser (s : State) (a : Nat) : State := s.modAxis a fun x => { x with userDisabled := false }

theorem State.usersEnabled_enableUser {s t : State} (a : Nat) (h : s.UsersEnabled t) : s.UsersEnabled (t.enableUser a) := by
  obtain ⟨ax, rfl, ha⟩ := h
  refine ⟨_, rfl, fun b => ?_⟩
  rw [State.enableUser, State.modAxis_axis]
  split
  · subst_vars
    exact congrArg (fun x : Axis => { x with userDisabled := false }) (ha _)
  · exact ha b

theorem State.usersEnabled_forEach (l : List Nat) :
    s.UsersEnabled (s.forEach l State.enableUser) ∧ ∀ a ∈ l, ((s.forEach l State.enableUser).axis a).userDisabled = false := by
  have h0 : s.UsersEnabled s := ⟨_, rfl, fun _ => rfl⟩
  refine ⟨s.forEach_invariant s.UsersEnabled l _ h0 fun t a _ ht => State.usersEnabled_enableUser a ht, fun a ha => ?_⟩
  refine s.forEach_establishes s.UsersEnabled (fun t => (t.axis a).userDisabled = false) ha h0
    (fun t b ht => State.usersEnabled_enableUser b ht) (fun t _ => ?_) fun t b _ hf => ?_
  · rw [State.enableUser, State.modAxis_axis, if_pos rfl]
  · rw [State.enableUser, State.modAxis_axis]
    split
    · rfl
    · exact hf

/-- The lanes once a module is active. -/
def LanesSt.activated (x : LanesSt) (k : KernelLoad) : LanesSt :=
  { x with
    kernel := if k.image.entries.isEmpty then none else some k.image, loads := x.loads.filter (· ≠ k), disabled := [], aborts := [] }

/-- Activation fills memories, replaces the module, enables the user stages, records and completes. -/
theorem State.activateKernel_shape (k : KernelLoad) : ∃ u v, s.PairsLoaded u ∧
    (u.modLanes fun x => x.activated k).UsersEnabled v ∧ (∀ a ∈ s.axisList, (v.axis a).userDisabled = false) ∧
    s.activateKernel k = (v.emit evKernelActive s.devRef
      [s.tick.cycle.toNat, k.image.entries.length, k.image.binds.length]).done 0x0201 k.hdr stOk := by
  unfold State.activateKernel
  extract_lets m t u v w
  have ht : s.PairsLoaded t := s.pairsLoaded_forEach _ fun x p =>
    x.pairsLoaded_modPair p (fun _ => rfl) (fun _ => rfl) fun _ => rfl
  have hu : s.PairsLoaded u := by
    refine ht.trans (t.pairsLoaded_forEach _ fun x l => ?_)
    split
    · exact x.pairsLoaded_forEach _ fun y e => y.pairsLoaded_modPair _ (fun _ => rfl) (fun _ => rfl) fun _ => rfl
    · exact .refl x
  have hw : v.UsersEnabled w ∧ ∀ a ∈ v.axisList, (w.axis a).userDisabled = false := v.usersEnabled_forEach v.axisList
  refine ⟨u, w, hu, hw.1, ?_, ?_⟩
  · obtain ⟨ps, h, -⟩ := hu
    have hl : v.axisList = s.axisList := by simp only [v, h]; rfl
    exact hl ▸ hw.2
  · obtain ⟨ps, h, -⟩ := hu
    obtain ⟨ax, h', -⟩ := hw.1
    have hd : w.devRef = s.devRef := by rw [h']; simp only [v, h]; rfl
    have hc : w.tick = s.tick := by rw [h']; simp only [v, h]; rfl
    rw [hd, hc]

end Sys2Proof.Machine

/-! ### Images and kernel modules as commands (R32 to R34, R330, R442) -/

namespace Sys2Proof.Machine
open Sys2Proof.Claims

variable {s : State} {c : Instr} {h : Hdr}

/-- A completion has no part in what a new CELL discards. -/
theorem State.Discarded.done {s t : State} (hd : s.Discarded t) (op : Nat) (h : Hdr) (status : Nat) :
    s.Discarded (t.done op h status) := by
  obtain ⟨hs, heq, ho⟩ := t.hostOnly_done op h status
  rw [heq] at ho ⊢
  exact hd.update t.cell t.supply hs ho

/-- An accepted CELL image takes its place and discards what rests on the one before (R33). -/
theorem completes_loadCell {gen : Word} {rs : List ImgRec} (hst : (s.checkCell gen rs).1 = 0)
    (hc : exec c s = .next (s.loadCell h gen rs)) : Completes c s fun t =>
      Answered s t h stOk ∧ t.cell = (s.checkCell gen rs).2 ∧ s.Discarded t := by
  have hd := s.discarded_acceptCell (s.checkCell gen rs).2
  rw [s.loadCell_accepted hst] at hc
  refine ⟨_, hc, State.answered_done opImageLoad h stOk hd.noOrphan (congrArg TickSt.cycle hd.tick), ?_, hd.done ..⟩
  rw [State.done_cell, State.acceptCell_cell]

theorem completes_loadSchedule {x : Schedule}
    (hc : exec c s = .next ((s.modSelide fun y => { y with sched := x }).done opImageLoad h stOk)) :
    Completes c s fun t => Answered s t h stOk ∧ t.selide.sched = x ∧
      { t with selide := { t.selide with sched := s.selide.sched }, host := s.host } = s := by
  refine ⟨_, hc, State.answered_done opImageLoad h stOk id rfl, ?_, ?_⟩
  · rw [State.done_selide]; rfl
  · exact congrArg (fun u : State => { u with selide := { u.selide with sched := s.selide.sched }, host := s.host })
      (State.done_frame _ opImageLoad h stOk)

theorem completes_loadKinematics {f : SepSt → SepSt} {k : Kin} (hk : (f s.sep).kin = k)
    (hc : exec c s = .next (((s.modSolver fun y => { y with kinLoads := y.kinLoads + 1 }).modSep f).done opImageLoad h stOk)) :
    Completes c s fun t => Answered s t h stOk ∧ t.sep.kin = k ∧
      t.solver = { s.solver with kinLoads := s.solver.kinLoads + 1 } ∧
      { t with sep := s.sep, solver := s.solver, host := s.host } = s := by
  refine ⟨_, hc, State.answered_done opImageLoad h stOk id rfl, ?_, ?_, ?_⟩
  · rw [State.done_sep]; exact hk
  · rw [State.done_solver]; rfl
  · exact congrArg (fun u : State => { u with sep := s.sep, solver := s.solver, host := s.host })
      (State.done_frame _ opImageLoad h stOk)

/-- What an accepted SAFETY image leaves, its inputs having begun. -/
theorem State.placeSafety_begun (s : State) (x : SafeImg) : ∃ sf ax qs sp rc hs, (s.placeSafety x).inputsBegin =
      { s with safety := sf, axes := ax, queues := qs, supply := sp, recd := rc, host := hs } ∧
    sf.img = x ∧ sf.armed = s.safety.armed ∧ sf.tps = [] ∧ hs.inflight = s.host.inflight ∧
    ∀ r ∈ x.inputs, (tblGet ({} : InputSt) sf.inputs r.input).levels = (false, false, s.now, s.now) := by
  obtain ⟨u, ⟨ip, rc, rfl, -⟩, ⟨sf, ax, qs, sp, rc', hs, heq, hkeep, -, hi⟩, hlev⟩ := (s.placeSafety x).inputsBegin_spec rfl
  rw [heq] at hlev ⊢
  exact ⟨sf, ax, qs, sp, rc', hs, rfl, hkeep.img, hkeep.armed, hkeep.tps, hi, hlev⟩

theorem completes_loadSafety {x : SafeImg} (harmed : s.safety.armed = false)
    (hc : exec c s = .next ((s.placeSafety x).inputsBegin.done opImageLoad h stOk)) :
    Completes c s fun t => Answered s t h stOk ∧ t.safety.img = x ∧ t.safety.armed = false ∧ t.safety.tps = [] ∧
      (∀ r ∈ x.inputs, (t.input r.input).aQ = false ∧ (t.input r.input).bQ = false ∧
        (t.input r.input).qualA = s.now ∧ (t.input r.input).qualB = s.now) ∧
      { t with safety := s.safety, axes := s.axes, queues := s.queues, supply := s.supply, host := s.host, recd := s.recd } = s := by
  obtain ⟨sf, ax, qs, sp, rc, hs, heq, himg, harm, htps, hi, hlev⟩ := s.placeSafety_begun x
  rw [heq] at hc
  refine ⟨_, hc, State.answered_done opImageLoad h stOk (fun ho e he => ho e (hi ▸ he)) rfl, ?_, ?_, ?_, fun r hr => ?_, ?_⟩
  · rw [State.done_safety]; exact himg
  · rw [State.done_safety]; exact harm.trans harmed
  · rw [State.done_safety]; exact htps
  · rw [State.input, State.done_safety]
    simpa only [InputSt.levels, Prod.mk.injEq] using hlev r hr
  · exact congrArg (fun u : State => { u with
      safety := s.safety, axes := s.axes, queues := s.queues, supply := s.supply, host := s.host, recd := s.recd })
      (State.done_frame _ opImageLoad h stOk)

/-! #### KERNEL_ACTIVE -/

theorem State.exec_kernelActive_nil (hl : s.lanes.loads = []) : exec .kernelActive s = .next s := by
  have h : execKernelActive s = .next s := by simp only [execKernelActive, hl]
  exact h

theorem State.exec_kernelActive_cons {k : KernelLoad} {r : List KernelLoad} (hl : s.lanes.loads = k :: r) :
    exec .kernelActive s = .next (if k.suspended && s.boundary && decide (2 ≤ s.kernelBoundaries k) then s.activateKernel k
      else s) := by
  have h : execKernelActive s = .next (if k.suspended && s.boundary && decide (2 ≤ s.kernelBoundaries k) then
      s.activateKernel k else s) := by
    simp only [execKernelActive, hl]
  exact h

/-- A module that becomes active takes the lanes' places, enables every user stage, completes and is recorded. -/
theorem completes_activateKernel {k : KernelLoad} {r : List KernelLoad} (hl : s.lanes.loads = k :: r)
    (hc : exec c s = .next (s.activateKernel k)) : Completes c s fun t =>
      t.lanes.loads = r.filter (fun y => y ≠ k) ∧
      t.lanes.kernel = (if k.image.entries = [] then none else some k.image) ∧ t.lanes.disabled = [] ∧ t.lanes.aborts = [] ∧
      t.lanes.log = s.lanes.log ∧
      (∀ p, (t.pair p).state = (s.pair p).state ∧ (t.pair p).lane = (s.pair p).lane ∧
        (t.pair p).regs = { (s.pair p).regs with cache := (t.pair p).regs.cache }) ∧
      (∀ a, t.axis a = { s.axis a with userDisabled := (t.axis a).userDisabled }) ∧
      (∀ a ∈ s.axisList, (t.axis a).userDisabled = false) ∧ Answered s t k.hdr stOk ∧
      Records s t evKernelActive s.devRef [s.tick.cycle.toNat, k.image.entries.length, k.image.binds.length] ∧
      { t with host := s.host, axes := s.axes, lanes := s.lanes, recd := s.recd } = s := by
  obtain ⟨_, v, ⟨ps, rfl, hp⟩, ⟨ax, rfl, ha⟩, hen, heq⟩ := s.activateKernel_shape k
  rw [heq] at hc
  refine ⟨_, hc, ?_, ?_, ?_, ?_, ?_, fun p => ?_, fun a => ?_, fun a hmem => ?_,
    State.answered_done 0x0201 k.hdr stOk id rfl, ?_, ?_⟩
  · rw [State.done_lanes]
    exact (congrArg (List.filter (· ≠ k)) hl).trans (List.filter_cons_of_neg (by simp))
  · rw [State.done_lanes]
    simp only [← List.isEmpty_iff]
    rfl
  · rw [State.done_lanes]; rfl
  · rw [State.done_lanes]; rfl
  · rw [State.done_lanes]; rfl
  · rw [State.pair, State.done_lanes]; exact hp p
  · rw [State.axis, State.done_axes]; exact ha a
  · rw [State.axis, State.done_axes]; exact hen a hmem
  · intro hq
    rw [State.done_recd]
    exact State.records_emit _ _ _ _ hq
  · exact congrArg (fun u : State => { u with host := s.host, axes := s.axes, lanes := s.lanes, recd := s.recd })
      (State.done_frame _ 0x0201 k.hdr stOk)

/-- Settles O17: the dispatch on an image's kind, then what each accepted image changes; the activation of a module. -/
theorem imagesAndKernelModules : Obligations.ImagesAndKernelModules := by
  unfold Obligations.ImagesAndKernelModules
  constructor
  · intro s h off len rs img gen hwin hrs
    refine ⟨fun he => ?_, fun he => ⟨fun hk hst => ?_, fun hl _ => ?_⟩⟩
    · exact completes_done (State.exec_imageLoad_header hwin he)
    · obtain ⟨t, ht, hans, hcell, hd⟩ := completes_loadCell hst
        (State.exec_imageLoad_kind hwin hrs he hk (by decide) (.inl rfl) : exec (.imageLoad h off len) s = _)
      exact ⟨t, ht, hans, hcell, hd.sched, hd.kin, hd.safety, hd.armed, hd.structs, hd.kernel, hd.par, hd.selected, hd.warmVec,
        hd.tick, hd.time, hd.can, hd.queues⟩
    · have hexec : ∀ k, imageKind img = k → k ≠ 5 → exec (.imageLoad h off len) s = .next (s.loadKind h gen img rs k) :=
        fun k hk h5 => State.exec_imageLoad_kind hwin hrs he hk h5 (.inr hl)
      refine ⟨fun hk hform hobj hcls hok hslots hfits => ?_, fun hk hform hobj hok harmed hstraps => ?_,
        fun hk hform hobj harms hok hzones hslots hcaps hpersons hpairs hfits harmed => ?_, fun hk hform hobj => ?_,
        fun hk hst => ?_, fun hk => completes_done (State.exec_imageLoad_struct hwin he hk)⟩
      · exact completes_loadSchedule ((hexec 2 hk (by decide)).trans
          (congrArg _ (s.loadSchedule_accepted hform hobj hcls hok hslots hfits)))
      · exact completes_loadSafety harmed ((hexec 4 hk (by decide)).trans
          (congrArg _ (s.loadSafety_accepted hform hobj hok harmed hstraps)))
      · exact completes_loadKinematics rfl ((hexec 3 hk (by decide)).trans (congrArg _
          (s.loadKinematics_accepted hform hobj harms hok hzones hslots hcaps hpersons hpairs hfits harmed)))
      · exact ⟨_, (hexec 6 hk (by decide)).trans (congrArg _ (s.loadParamset_accepted hform hobj)), rfl, rfl, rfl, rfl⟩
      · exact ⟨_, (hexec 7 hk (by decide)).trans (congrArg _ (s.loadKernel_accepted hst)), rfl, rfl, rfl⟩
  · intro s
    refine ⟨fun hl => completes_self (State.exec_kernelActive_nil hl), fun k r hl => ⟨fun hn => ?_, fun hs hb h2 => ?_⟩⟩
    · refine completes_self ((State.exec_kernelActive_cons hl).trans (congrArg _ (if_neg fun hc => ?_)))
      simp only [Bool.and_eq_true, decide_eq_true_eq] at hc
      obtain hn | hn | hn := hn
      · exact Bool.false_ne_true (hn.symm.trans hc.1.1)
      · exact Bool.false_ne_true (hn.symm.trans hc.1.2)
      · exact absurd hc.2 (Nat.not_le_of_lt hn)
    · refine completes_activateKernel hl ((State.exec_kernelActive_cons hl).trans (congrArg _ (if_pos ?_)))
      rw [hs, hb, decide_eq_true h2]
      rfl

end Sys2Proof.Machine

/-! ### Tick edges (R37, R38, R46, R440) -/

namespace Sys2Proof.Machine
open Sys2Proof.Claims

/-- A fold whose every round leaves the state as it is. -/
theorem State.forEach_self {α : Type} {s : State} {l : List α} {f : State → α → State} (h : ∀ a ∈ l, f s a = s) :
    s.forEach l f = s :=
  s.forEach_invariant (fun t => t = s) l f rfl fun _ a ha ht => ht.symm ▸ h a ha

/-- The leader of a cell of two devices after a supervisor loss: no image but CELL, no axis, no command in flight. -/
def leaderAlone : State :=
  { cell := { devs := [⟨0, 0, 0, 0⟩, ⟨1, 1, 0, 0⟩] }, tick := { running := true, no := 1 }, health := { supLost := some 0 } }

/-- That device with another host interface, device time and tick. -/
def leaderAt (h : HostIf) (x : TimeSt) (k : TickSt) : State := { leaderAlone with host := h, time := x, tick := k }

/-- A read of SCALE_LENGTH of axis 512, which lies on the other device, waits for the end of the tick. -/
def farReadWaits : State :=
  leaderAt { reads := [({ ring := 0, tag := 1, obj := mkRef clsAxis 512 }, 0x1002, false)] } {} leaderAlone.tick

/-- The answer, at the next edge, draws a free value for the axis of the other device (R440). -/
theorem farReadWaits_tickEdge_free : farReadWaits.tickEdge.free = 1 := by decide +kernel

section
variable (h : HostIf) (x : TimeSt) (k : TickSt)

theorem leaderAt_noPorts : (upTo 16).filter (fun p => (leaderAt h x k).portMode p ≠ pmOff) = [] := by
  show (upTo 16).filter (fun p => leaderAlone.portMode p ≠ pmOff) = []
  decide +kernel

theorem leaderAt_lanesWork : (leaderAt h x k).finishMoves.quietTick.clearPasses.lanesBack.nextReserve.lossTick = leaderAt h x k := by
  have hback : (leaderAt h x k).lanesBack = leaderAt h x k := State.forEach_self fun _ _ => rfl
  have hloss : (leaderAt h x k).lossTick = leaderAt h x k := State.forEach_self fun _ _ => rfl
  have hpasses : (leaderAt h x k).finishMoves.quietTick.clearPasses = leaderAt h x k := rfl
  have hreserve : (leaderAt h x k).nextReserve = leaderAt h x k := rfl
  rw [hpasses, hback, hreserve, hloss]

theorem leaderAt_portTick : (leaderAt h x k).portTick.indexShifts = leaderAt h x k := by
  rw [State.portTick, leaderAt_noPorts, State.forEach_nil]
  rfl

/-- No second begins at an edge away from its start. -/
theorem leaderAt_leapTick (hx : x.ns ≠ 0) : (leaderAt h x k).leapTick = leaderAt h x k := by
  have hu : (leaderAt h x k).utcStart = none := if_neg fun hc => hx hc.1
  rw [State.leapTick, hu]

theorem leaderAt_busWork :
    (leaderAt h x k).trunkTick.nodeTick.linkTick.relayTick.enterDegradedLanes.safetyTick.availTick.recTick.copyTick =
      leaderAt h x k := by
  have hdeg : (leaderAt h x k).enterDegradedLanes = leaderAt h x k := State.forEach_self fun _ _ => rfl
  calc (leaderAt h x k).trunkTick.nodeTick.linkTick.relayTick.enterDegradedLanes.safetyTick.availTick.recTick.copyTick
      = (leaderAt h x k).enterDegradedLanes.safetyTick.availTick.recTick.copyTick := rfl
    _ = leaderAt h x k := congrArg (fun t : State => t.safetyTick.availTick.recTick.copyTick) hdeg

/-- The work of an edge changes only the device time of the idle device. -/
theorem leaderAt_edgeWork (hx : x.ns ≠ 0) : ∃ y, (leaderAt h x k).edgeWork = leaderAt h y k := by
  refine ⟨{ x with left := [(0, x.waiting 0), (1, x.waiting 1)], egress := [] }, ?_⟩
  unfold State.edgeWork
  rw [leaderAt_lanesWork, leaderAt_portTick, leaderAt_leapTick h x k hx]
  exact leaderAt_busWork ..

/-- What ends a tick edge draws no free value on the idle device. -/
theorem leaderAt_sends_free : (leaderAt h x k).step5.ppsTick.sendCycleStarts.memberSends.free = 0 := by
  have hsend : ∀ y, (leaderAt h y k).sendCycleStarts.memberSends = leaderAt h y k := by
    intro y
    have hstarts : (leaderAt h y k).sendCycleStarts = leaderAt h y k := by
      unfold State.sendCycleStarts
      split
      · rfl
      · rfl
    rw [hstarts]
    rfl
  have hpps : ∃ y, (leaderAt h x k).step5.ppsTick = leaderAt h y k := by
    show ∃ y, (leaderAt h x k).ppsTick = leaderAt h y k
    unfold State.ppsTick
    split
    · exact ⟨x, rfl⟩
    · exact ⟨_, rfl⟩
  obtain ⟨y, hy⟩ := hpps
  rw [hy, hsend]
  rfl

end

/-- Refutes O51: the frame of the edge leaves no room for the free values of the reads that it answers. A leader's PARAM_READ of
an axis of another device draws one (log entry 60), and after the supervisor loss nothing else in the tick does. -/
theorem not_tickEdgesActInOrder : ¬ Obligations.TickEdgesActInOrder := by
  unfold Obligations.TickEdgesActInOrder
  intro hall
  obtain ⟨-, -, hedge⟩ := hall farReadWaits
  obtain ⟨hplain, -⟩ := hedge (by decide +kernel)
  obtain ⟨t, ht, u, ⟨-, hns, -, -, -, hcycle, -, -, -, -, -, hu⟩, -, hlost⟩ := hplain (by decide +kernel)
  obtain rfl : farReadWaits.tickEdge = t := by
    have hexec : exec .tickEdge farReadWaits = .next farReadWaits.tickEdge :=
      congrArg Host.Outcome.next (if_pos (by decide +kernel))
    exact Host.Outcome.next.inj (hexec.symm.trans ht)
  obtain ⟨h, x, k, rfl⟩ : ∃ h x k, u = leaderAt h x k :=
    ⟨u.host, u.time, u.tick,
      congrArg (fun v : State => { v with host := u.host, time := u.time, tick := u.tick }) hu⟩
  have hx : x.ns ≠ 0 := by
    rw [show x.ns = _ from hns]
    decide +kernel
  have hb : (leaderAt h x k).boundary = false := by
    unfold State.boundary
    rw [show (leaderAt h x k).tick.cycle = _ from hcycle]
    decide +kernel
  obtain ⟨y, hw⟩ := leaderAt_edgeWork h x k hx
  rw [hw] at hlost
  have hby : (leaderAt h y k).boundary = false := hb
  have hstep : (leaderAt h y k).step5.boundary = false := hb
  have hend := hlost (Bool.or_true _)
  simp only [hby, hstep, Bool.false_eq_true, if_false] at hend
  have hfree := congrArg State.free hend
  rw [farReadWaits_tickEdge_free, leaderAt_sends_free] at hfree
  exact absurd hfree (by decide)

end Sys2Proof.Machine

/-! ### Lanes degrade (R49, R53, R467) -/

namespace Sys2Proof.Machine
open Sys2Proof.Claims

theorem mem_dedup {a : Nat} {l : List Nat} : a ∈ dedup l ↔ a ∈ l := by
  induction l with
  | nil => rfl
  | cons b l ih =>
    rw [dedup, List.mem_cons, List.mem_cons, List.mem_filter, ih, decide_eq_true_eq]
    by_cases h : a = b
    · simp only [h, true_or]
    · simp only [h, false_or, ne_eq, not_false_eq_true, and_true]

variable (s : State)

theorem State.exec_laneDegraded (l : Fin 17) : exec (.laneDegraded l) s =
    .next (if (s.logLane l.val).degraded = false ∧ (s.logLane l.val).enterAt = none ∧
        s.tick.no ∈ (s.logLane l.val).overruns ∧ 3 ≤ (recentOverruns (s.logLane l.val).overruns s.tick.no).length then
      (s.modLogLane l.val fun y => { y with enterAt := some (s.tick.no + 1) }).emit evLaneDegraded s.devRef
        [l.val, (s.tick.cycle + 1).toNat]
    else s) := by
  refine congrArg Host.Outcome.next (if_congr ?_ rfl rfl)
  simp only [Bool.and_eq_true, Bool.not_eq_true', Option.isNone_iff_eq_none, List.contains_iff_mem, decide_eq_true_eq, and_assoc]

/-- The third overrun within 32 ticks is recorded, and degraded mode begins at the next tick (R49). -/
theorem State.completes_laneDegraded {l : Fin 17}
    (h : (s.logLane l.val).degraded = false ∧ (s.logLane l.val).enterAt = none ∧
        s.tick.no ∈ (s.logLane l.val).overruns ∧ 3 ≤ (recentOverruns (s.logLane l.val).overruns s.tick.no).length) :
    Completes (.laneDegraded l) s fun t =>
      t.logLane l.val = { s.logLane l.val with enterAt := some (s.tick.no + 1) } ∧
        (∀ k, k ≠ l.val → t.logLane k = s.logLane k) ∧
        Records s t evLaneDegraded s.devRef [l.val, (s.tick.cycle + 1).toNat] ∧
        { t with recd := s.recd, lanes := { t.lanes with log := s.lanes.log } } = s := by
  refine ⟨_, (s.exec_laneDegraded l).trans (congrArg _ (if_pos h)), ?_, fun k hk => ?_, State.records_emit _ _ _ _, rfl⟩
  · exact (s.modLogLane_logLane ..).trans (if_pos rfl)
  · exact (s.modLogLane_logLane ..).trans (if_neg hk)

/-- The lane's axes and their arms stop by SS1, and the expiry is recorded (R53, R467). -/
def State.expireLane (s : State) (l ev : Nat) : State :=
  ((s.stopLane l).1.modLogLane l fun y => { y with expiredSs1 := true }).emit ev s.devRef [l, (s.stopLane l).2]

/-- The request that stops a lane's axes. -/
def State.laneStop (s : State) (l : Nat) : Ss1Req :=
  { id := s.safety.nextReq, scope := .axis, obj := s.devRef, t0 := s.tick.no + 1, cause := 0, fromDemand := false
    axes := dedup (s.laneAxes l ++ (s.laneAxes l).flatMap s.armAxes) }

theorem State.stopLane_eq (l : Nat) : s.stopLane l =
    ({ s with
      safety := { s.safety with reqs := s.safety.reqs ++ [s.laneStop l], nextReq := s.safety.nextReq + 1 }
      health := { s.health with faultStop := dedup (s.health.faultStop ++ (s.laneStop l).axes) } },
      (s.laneStop l).axes.length) := rfl

theorem State.mem_laneStop (l a : Nat) :
    a ∈ (s.laneStop l).axes ↔ a ∈ s.laneAxes l ∨ ∃ b ∈ s.laneAxes l, a ∈ s.armAxes b := by
  rw [State.laneStop, mem_dedup, List.mem_append, List.mem_flatMap]

/-- An expired lane's axes and their arms are requested to stop from the next tick (R53, R467). -/
theorem State.completes_expireLane {c : Instr} {l ev : Nat} (hc : exec c s = .next (s.expireLane l ev)) :
    Completes c s fun t =>
      t.logLane l = { s.logLane l with expiredSs1 := true } ∧ (∀ k, k ≠ l → t.logLane k = s.logLane k) ∧
      (∃ r, t.safety.reqs = s.safety.reqs ++ [r] ∧
        (∀ a, a ∈ r.axes ↔ a ∈ s.laneAxes l ∨ ∃ b ∈ s.laneAxes l, a ∈ s.armAxes b) ∧
        r.t0 = s.tick.no + 1 ∧ r.begun = false ∧ (∀ a ∈ r.axes, a ∈ t.health.faultStop) ∧
        Records s t ev s.devRef [l, r.axes.length]) ∧
      { t with
        recd := s.recd, lanes := { t.lanes with log := s.lanes.log }
        health := { t.health with faultStop := s.health.faultStop }
        safety := { t.safety with reqs := s.safety.reqs, nextReq := s.safety.nextReq } } = s := by
  rw [State.expireLane, s.stopLane_eq] at hc
  refine ⟨_, hc, ?_, fun k hk => ?_, ⟨s.laneStop l, rfl, s.mem_laneStop l, rfl, rfl, fun a ha => ?_, ?_⟩, rfl⟩
  · exact (State.modLogLane_logLane ..).trans (if_pos rfl)
  · exact (State.modLogLane_logLane ..).trans (if_neg hk)
  · exact mem_dedup.mpr (List.mem_append_right _ ha)
  · exact State.records_emit _ _ _ _

theorem State.exec_degradedExpired (l : Fin 17) : exec (.degradedExpired l) s =
    .next (if (s.logLane l.val).degraded = true ∧ (s.logLane l.val).expiredSs1 = false ∧
        (s.pU 0x0011 s.dev * 1000000 ≤ s.now - (s.logLane l.val).degNs ∨
          3 ≤ (recentOverruns (s.logLane l.val).overruns s.tick.no).length) then
      s.expireLane l.val evDegradedExpired else s) := by
  refine congrArg Host.Outcome.next (if_congr ?_ rfl rfl)
  simp only [Bool.and_eq_true, Bool.or_eq_true, Bool.not_eq_true', decide_eq_true_eq, and_assoc]

theorem State.exec_laneLossExpired (l : Fin 17) : exec (.laneLossExpired l) s =
    .next (if (s.logLane l.val).wide = true ∧ (s.logLane l.val).expiredSs1 = false ∧ s.allByChoice l.val = false ∧
        s.pU 0xC003 s.dev * 1000000 ≤ s.now - (s.logLane l.val).degNs then
      s.expireLane l.val evLaneLossExpired else s) := by
  refine congrArg Host.Outcome.next (if_congr ?_ rfl rfl)
  simp only [Bool.and_eq_true, Bool.not_eq_true', decide_eq_true_eq, and_assoc]

/-! ### Pairs fail (R332 to R334) -/

theorem incSat_eight (c : Nat) : incSat 8 c = min 255 (c + 1) := by
  unfold incSat
  split <;> omega

/-- Pair `q` has failed, as R332 has it: it is in RECOVER, and the record names the lane and the cause. -/
def State.Failed (s t : State) (q lane code : Nat) : Prop :=
  (t.pair q).state = lpRecover ∧ (t.pair q).lane = none ∧ (t.pair q).reserve = false ∧
  (t.pair q).fails = min 255 ((s.pair q).fails + 1) ∧ (t.pair q).recovering = true ∧ (t.pair q).failTick = s.tick.no ∧
  (t.pair q).events = [] ∧ (t.pair q).xMem = (s.pair q).xMem ∧ (t.pair q).yMem = (s.pair q).yMem ∧
  (∀ k, k ≠ q → t.pair k = s.pair k) ∧ Records s t evLaneFailed s.devRef [q, lane, code] ∧
  t.host.irqStatus.getLsbD 14 = true ∧ { t with host := s.host, recd := s.recd, lanes := s.lanes, health := s.health } = s

/-- A pair that fails in tick `no`. -/
def PairSt.recovers (y : PairSt) (no : Nat) : PairSt :=
  { (y.enter lpRecover) with
    lane := none, reserve := false, fails := incSat 8 y.fails, recovering := true, failTick := no, events := [] }

/-- The pair enters RECOVER and counts, with its record and its cause. -/
def State.recoverPair (s : State) (p lane code : Nat) : State :=
  ((s.modPair p fun y => y.recovers s.tick.no).emit evLaneFailed s.devRef [p, lane, code]).raiseIrq 14

theorem State.raiseIrq_eq (k : Nat) : s.raiseIrq k = { s with host := (s.raiseIrq k).host } := by
  unfold State.raiseIrq State.raiseVector
  dsimp only
  repeat' split
  all_goals rfl

/-- The cause that is raised is set. -/
theorem State.raiseIrq_getLsbD {k : Nat} (hk : k < 32) : (s.raiseIrq k).host.irqStatus.getLsbD k = true := by
  rw [s.raiseIrq_irqStatus k, BitVec.getLsbD_or, BitVec.getLsbD_ofNat, Nat.testBit_two_pow_self, decide_eq_true hk]
  simp

theorem State.recoverPair_lanes (p lane code : Nat) :
    (s.recoverPair p lane code).lanes = (s.modPair p fun y => y.recovers s.tick.no).lanes := State.raiseIrq_lanes _ 14

theorem State.recoverPair_pair (p lane code k : Nat) :
    (s.recoverPair p lane code).pair k = if k = p then (s.pair p).recovers s.tick.no else s.pair k := by
  rw [State.pair, s.recoverPair_lanes]
  exact s.modPair_pair ..

theorem State.recoverPair_frame (p lane code : Nat) :
    { s.recoverPair p lane code with host := s.host, recd := s.recd, lanes := s.lanes } = s := by
  rw [State.recoverPair, State.raiseIrq_eq]
  rfl

theorem State.failed_recoverPair (p lane code : Nat) : s.Failed (s.recoverPair p lane code) p lane code := by
  have hp : (s.recoverPair p lane code).pair p = (s.pair p).recovers s.tick.no :=
    (s.recoverPair_pair ..).trans (if_pos rfl)
  unfold State.Failed
  rw [hp]
  refine ⟨rfl, rfl, rfl, incSat_eight _, rfl, rfl, rfl, rfl, rfl, fun k hk => (s.recoverPair_pair ..).trans (if_neg hk),
    fun hq => ?_, State.raiseIrq_getLsbD _ (by decide),
    congrArg (fun t : State => { t with health := s.health }) (s.recoverPair_frame ..)⟩
  rw [State.recoverPair, State.raiseIrq_recd]
  exact State.records_emit _ _ _ _ hq

theorem State.recoverPair_health (p lane code : Nat) : (s.recoverPair p lane code).health = s.health :=
  State.raiseIrq_health _ 14

/-- What the lane of the pair holds has no part in it. -/
theorem State.Failed.modLogLane {s t : State} {q lane code : Nat} (h : s.Failed t q lane code) (l : Nat)
    (f : LogLane → LogLane) : s.Failed ((t.stopLaneSweeps l).modLogLane l f) q lane code := h

/-- The reserve fails, or a pair without a lane. -/
theorem State.pairFails_idle {p : Nat} {cause : LaneCause} {t : Nat} (hw : (s.pair p).working = true)
    (hl : (s.pair p).reserve = true ∨ (s.pair p).lane = none) :
    s.pairFails p cause t = s.recoverPair p 0xFF (laneCauseCode cause) := by
  have hnone : (if (s.pair p).reserve then none else (s.pair p).lane) = none := by
    obtain h | h := hl
    · exact if_pos h
    · rw [h, ite_self]
  unfold State.pairFails
  simp only [hw, hnone, Bool.not_true, Bool.false_eq_true, if_false]
  rfl

/-- With no axis on its way, no move is cancelled (R472). -/
theorem State.cancelled_of_still {l : Nat} (hm : s.health.moving = []) : s.cancelled l = s := by
  have hs : s = { s with health := { s.health with moving := [] } } := by rw [← hm]
  have hc : s.cancelMoves l = s :=
    calc s.cancelMoves l = State.cancelMoves { s with health := { s.health with moving := [] } } l :=
          congrArg (fun t : State => t.cancelMoves l) hs
      _ = { s with health := { s.health with moving := [] } } := rfl
      _ = s := hs.symm
  unfold State.cancelled
  rw [hc]
  exact if_pos rfl

/-- The wait of lane `l`, whose pair `p` fails at offset `t`, for the reserve or for its prepared placement (R332, R334). -/
def State.takeoverOf (s : State) (p l t : Nat) : Takeover :=
  let first := firstTickAfter s.P s.tick.no t (if (s.logLane l).wide && s.reserve.isSome then 16000 else 8000)
  { failed := p, pair := s.reserve, failNs := s.now + t, firstTick := first
    prevStart := decide ((s.pair p).state = lpStart), extrapolated := latchesBetween s.P s.tick.no t first }

/-- A pair fails that serves a lane. -/
theorem State.pairFails_lane {p l : Nat} {cause : LaneCause} {t : Nat} (hw : (s.pair p).working = true)
    (hr : (s.pair p).reserve = false) (hl : (s.pair p).lane = some l) (hm : s.health.moving = []) :
    s.pairFails p cause t = if (s.logLane l).loss.isSome then s.recoverPair p l (laneCauseCode cause) else
      ((s.recoverPair p l (laneCauseCode cause)).stopLaneSweeps l).modLogLane l fun y =>
        { y.uncount s.tick.no with takeover := some (s.takeoverOf p l t) } := by
  unfold State.pairFails
  simp only [hw, hr, hl, s.cancelled_of_still hm, Bool.not_true, Bool.false_eq_true, if_false]
  rfl

theorem mem_uncount (x : LogLane) (no : Nat) : no ∉ (x.uncount no).overruns := by
  intro h
  exact of_decide_eq_true (List.mem_filter.mp h).2 rfl

theorem State.P_pos : 0 < s.P := by
  unfold State.P
  split
  · split <;> decide
  · decide

/-- The first tick whose 12,000 ns offset lies at least `delay` behind offset `t` of tick `no`. -/
theorem firstTickAfter_spec {P : Nat} (hP : 0 < P) (no t delay : Nat) :
    no ≤ firstTickAfter P no t delay ∧ t + delay ≤ 12000 + (firstTickAfter P no t delay - no) * P ∧
      (no < firstTickAfter P no t delay → 12000 + (firstTickAfter P no t delay - 1 - no) * P < t + delay) := by
  unfold firstTickAfter
  generalize hn : (t + delay - 12000 + P - 1) / P = n
  have hlow : n * P ≤ t + delay - 12000 + P - 1 := hn ▸ Nat.div_mul_le_self ..
  have hhigh : t + delay - 12000 + P - 1 < (n + 1) * P := by
    rw [← hn, Nat.mul_comm]
    exact Nat.lt_mul_div_succ _ hP
  rw [Nat.add_mul, Nat.one_mul] at hhigh
  refine ⟨Nat.le_add_right .., ?_, fun hlt => ?_⟩
  · rw [Nat.add_sub_cancel_left]
    omega
  · obtain ⟨m, rfl⟩ : ∃ m, n = m + 1 := ⟨n - 1, by omega⟩
    have hm : no + (m + 1) - 1 - no = m := by omega
    rw [hm]
    rw [Nat.add_mul, Nat.one_mul] at hlow
    omega

/-- The wait ends 8 µs after the failure at the earliest, on the reserve of a lane of 64 slots after 16 µs (R334). -/
theorem State.takeoverOf_firstTick (p l t : Nat) :
    let first := (s.takeoverOf p l t).firstTick
    let due := t + (if (s.logLane l).wide = true ∧ s.reserve.isSome = true then 16000 else 8000)
    s.tick.no ≤ first ∧ due ≤ 12000 + (first - s.tick.no) * s.P ∧
      (s.tick.no < first → 12000 + (first - 1 - s.tick.no) * s.P < due) := by
  have hdelay : (if (s.logLane l).wide && s.reserve.isSome then 16000 else 8000) =
      if (s.logLane l).wide = true ∧ s.reserve.isSome = true then 16000 else 8000 :=
    if_congr (by rw [Bool.and_eq_true]) rfl rfl
  rw [← hdelay]
  exact firstTickAfter_spec s.P_pos ..

theorem State.exec_laneFailed_of_idle {p : Fin 17} {cause : LaneCause} {t : Nat} (hw : (s.pair p.val).working = false) :
    exec (.laneFailed p cause t) s = .next s := by
  have h : s.pairFails p.val cause t = s := by
    unfold State.pairFails
    simp only [hw, Bool.not_false, if_true]
  exact congrArg Host.Outcome.next h

/-- A pair that serves no lane fails (R332, R333). -/
theorem State.completes_pairFails_idle {c : Instr} {p t : Nat} {cause : LaneCause}
    (hc : exec c s = .next (s.pairFails p cause t)) (hw : (s.pair p).working = true)
    (hl : (s.pair p).reserve = true ∨ (s.pair p).lane = none) : Completes c s fun t =>
      s.Failed t p 0xFF (laneCauseCode cause) ∧ t.lanes.log = s.lanes.log ∧ t.lanes.sweeps = s.lanes.sweeps ∧
        t.health = s.health := by
  rw [s.pairFails_idle hw hl] at hc
  refine ⟨_, hc, s.failed_recoverPair .., ?_, ?_, ?_⟩
  · rw [s.recoverPair_lanes]; rfl
  · rw [s.recoverPair_lanes]; rfl
  · exact s.recoverPair_health ..

/-- A pair fails that was to take back a lost lane; the lane stays lost (R468). -/
theorem State.completes_laneFailed_lost {p : Fin 17} {cause : LaneCause} {at' l : Nat} (hw : (s.pair p.val).working = true)
    (hr : (s.pair p.val).reserve = false) (hl : (s.pair p.val).lane = some l) (hm : s.health.moving = [])
    (hloss : (s.logLane l).loss.isSome = true) : Completes (.laneFailed p cause at') s fun t =>
      s.Failed t p.val l (laneCauseCode cause) ∧ t.lanes.log = s.lanes.log ∧ t.lanes.sweeps = s.lanes.sweeps ∧
        t.health = s.health := by
  have hc : exec (.laneFailed p cause at') s = .next (s.pairFails p.val cause at') := rfl
  rw [s.pairFails_lane hw hr hl hm, if_pos hloss] at hc
  refine ⟨_, hc, s.failed_recoverPair .., ?_, ?_, ?_⟩
  · rw [s.recoverPair_lanes]; rfl
  · rw [s.recoverPair_lanes]; rfl
  · exact s.recoverPair_health ..

/-- A pair fails; its lane waits for the reserve, or for the placement prepared (R332, R334). -/
theorem State.completes_laneFailed_waits {p : Fin 17} {cause : LaneCause} {at' l : Nat} (hw : (s.pair p.val).working = true)
    (hr : (s.pair p.val).reserve = false) (hl : (s.pair p.val).lane = some l) (hm : s.health.moving = [])
    (hloss : (s.logLane l).loss = none) : Completes (.laneFailed p cause at') s fun t =>
      s.Failed t p.val l (laneCauseCode cause) ∧ t.health = s.health ∧ (∀ k, k ≠ l → t.logLane k = s.logLane k) ∧
        t.logLane l = { (s.logLane l).uncount s.tick.no with takeover := some (s.takeoverOf p.val l at') } := by
  have hc : exec (.laneFailed p cause at') s = .next (s.pairFails p.val cause at') := rfl
  rw [s.pairFails_lane hw hr hl hm, hloss, Option.isSome_none, if_neg Bool.false_ne_true] at hc
  have hlog : ∀ k, (s.recoverPair p.val l (laneCauseCode cause)).logLane k = s.logLane k := by
    intro k
    rw [State.logLane, s.recoverPair_lanes]
    rfl
  have hfail := s.failed_recoverPair p.val l (laneCauseCode cause)
  have hhealth := s.recoverPair_health p.val l (laneCauseCode cause)
  generalize s.recoverPair p.val l (laneCauseCode cause) = u at hc hlog hfail hhealth
  have hsweeps : ∀ k, (u.stopLaneSweeps l).logLane k = s.logLane k := hlog
  refine ⟨_, hc, hfail.modLogLane .., hhealth, fun k hk => ?_, ?_⟩
  · rw [State.modLogLane_logLane, if_neg hk, hsweeps]
  · rw [State.modLogLane_logLane, if_pos rfl, hsweeps]

theorem State.reserve_spec {q : Nat} (h : s.reserve = some q) : (s.pair q).reserve = true ∧ (s.pair q).working = true := by
  have hq := List.find?_some h
  simp only [Bool.and_eq_true, decide_eq_true_eq] at hq
  obtain ⟨⟨hres, hst⟩, -⟩ := hq
  refine ⟨hres, ?_⟩
  rw [PairSt.working, hst]
  decide

theorem State.exec_reserveSelfTest (b : Bool) : exec (.reserveSelfTest b) s =
    .next (s.reserve.elim s fun p => if b then s else s.pairFails p .selfTest 0) := by
  have h : execReserveSelfTest b s = .next (s.reserve.elim s fun p => if b then s else s.pairFails p .selfTest 0) := by
    unfold execReserveSelfTest
    cases s.reserve <;> rfl
  exact h

/-- Settles O56: the guards of the lane events, what an expiry stops, and what the failure of a pair leaves to its lane. -/
theorem lanesDegradeAndFail : Obligations.LanesDegradeAndFail := by
  unfold Obligations.LanesDegradeAndFail
  constructor
  · intro s l
    refine ⟨fun h => s.completes_laneDegraded h, fun h => ?_, ⟨fun h => ?_, fun h => ?_⟩, fun h => ?_, fun h => ?_⟩
    · exact completes_self ((s.exec_laneDegraded l).trans (congrArg _ (if_neg h)))
    · exact s.completes_expireLane ((s.exec_degradedExpired l).trans (congrArg _ (if_pos h)))
    · exact completes_self ((s.exec_degradedExpired l).trans (congrArg _ (if_neg h)))
    · exact s.completes_expireLane ((s.exec_laneLossExpired l).trans (congrArg _ (if_pos h)))
    · exact completes_self ((s.exec_laneLossExpired l).trans (congrArg _ (if_neg h)))
  · intro s p cause at'
    refine ⟨fun hw => completes_self (s.exec_laneFailed_of_idle hw), fun hw hl => s.completes_pairFails_idle rfl hw hl,
      fun l hw hr hl hm hloss => s.completes_laneFailed_lost hw hr hl hm hloss, fun l hw hr hl hm hloss => ?_,
      fun hn b => ?_, ?_, fun q hq => ?_⟩
    · obtain ⟨t, ht, hfail, hhealth, hother, hlane⟩ := s.completes_laneFailed_waits (at' := at') hw hr hl hm hloss
      refine ⟨t, ht, hfail, hhealth, hother, s.takeoverOf p.val l at', hlane, ?_, rfl, rfl, rfl, rfl, ?_⟩
      · rw [hlane]
        exact mem_uncount _ _
      · exact s.takeoverOf_firstTick p.val l at'
    · exact completes_self ((s.exec_reserveSelfTest b).trans (by rw [hn]; rfl))
    · exact completes_self ((s.exec_reserveSelfTest true).trans (by cases s.reserve <;> rfl))
    · obtain ⟨hres, hwork⟩ := s.reserve_spec hq
      obtain ⟨t, ht, hfail, hlog, -⟩ := s.completes_pairFails_idle (c := .reserveSelfTest false) (cause := .selfTest) (t := 0)
        ((s.exec_reserveSelfTest false).trans (by rw [hq]; rfl)) hwork (.inl hres)
      exact ⟨t, ht, hfail, hlog⟩

end Sys2Proof.Machine

/-! ### Passes of a lane (R41, R303) -/

namespace Sys2Proof.Machine
open Sys2Proof.Claims

/-- Lane 0 on pair 0 is to run pass 2 on axis 0 in cycle 0; the pair's X memory is out of the order of its addresses. -/
def passTwoDue : State :=
  { cell := { axes := [⟨0, mkRef clsPort 0, 0, 0, 0, false⟩] }
    tick := { running := true, intakeDone := true }
    axes := [(0, { lp := { pass1Done := true } })]
    sep := { m := { late := true }, w := { late := true } }
    lanes := { pairs := [(0, { state := lpRun, lane := some 0, xMem := [(0xFFFF, 1), (doneAddr 0, 5)] })]
               log := [(0, { slots := [(0, some 0)], pass1 := true })] } }

/-- The DONE word of the cycle, 0, does not reach its place behind an address above it. -/
theorem passTwoDue_done : cellRead ((passTwoDue.laneEventPassOp 0 true 0 0).pair 0).xMem (doneAddr 0) = 5 := by
  decide +kernel

/-- Refutes O54: the DONE word of a slot that pass 2 has finished need not stand where the pair's X memory is not in its canonical
form. No step leaves such a memory (R301), but the statement does not ask for the form. -/
theorem not_lanePassesRunOncePerTick : ¬ Obligations.LanePassesRunOncePerTick := by
  unfold Obligations.LanePassesRunOncePerTick
  intro hall
  obtain ⟨-, hpair⟩ := hall passTwoDue 0 0 0
  obtain ⟨-, hpasses, -⟩ := hpair 0 (by decide +kernel)
  obtain ⟨-, -, -, hsecond⟩ := hpasses (by decide +kernel) rfl
  obtain ⟨t, ht, -, -, -, ⟨hdone, -⟩, -⟩ := hsecond rfl rfl fun e => .inr (.inl (by cases e <;> rfl))
  obtain rfl : passTwoDue.laneEventPassOp 0 true 0 0 = t := Host.Outcome.next.inj ht
  have hword : 5 = passTwoDue.doneWord := passTwoDue_done.symm.trans (hdone rfl (0, 0) (by decide +kernel))
  exact absurd hword (by decide +kernel)

end Sys2Proof.Machine

/-! ### The deadline latch (R47, R48, R59, R466) -/

namespace Sys2Proof.Machine
open Sys2Proof.Claims

/-- A write leaves the words at other addresses, whatever the order of the memory. -/
theorem cellRead_cellWrite_other {w : Nat} (m : Cells w) {a b : Nat} (v : BitVec w) (h : b ≠ a) :
    cellRead (cellWrite m a v) b = cellRead m b := by
  induction m with
  | nil =>
    unfold cellWrite
    split
    · rfl
    · exact if_neg h.symm
  | cons e r ih =>
    obtain ⟨j, u⟩ := e
    unfold cellWrite
    split
    · split
      · rfl
      · exact if_neg h.symm
    · split
      · subst_vars
        have hr : cellRead ((j, u) :: r) b = cellRead r b := if_neg h.symm
        split
        · exact hr.symm
        · rw [hr, cellRead, if_neg h.symm]
      · rw [cellRead, cellRead, ih]

/-- A search of a table finds what it found before a key was set whose entry, old or new, is none of its hits. -/
theorem findSome?_tblSet {α β : Type} (g : Nat × α → Option β) (d : α) (t : Tbl α) {k : Nat} {v : α}
    (hnew : g (k, v) = none) (hold : g (k, tblGet d t k) = none) : (tblSet t k v).findSome? g = t.findSome? g := by
  induction t with
  | nil => simp [tblSet, hnew]
  | cons e r ih =>
    obtain ⟨i, w⟩ := e
    unfold tblSet
    split
    · rw [List.findSome?_cons, hnew]
    · split
      · subst_vars
        have hw : g (i, w) = none := by simpa [tblGet] using hold
        rw [List.findSome?_cons, List.findSome?_cons, hnew, hw]
      · have hr : tblGet d ((i, w) :: r) k = tblGet d r k := by rw [tblGet, if_neg (by omega)]
        rw [List.findSome?_cons, List.findSome?_cons, ih (hr ▸ hold)]

variable (s : State)

/-- One round of a fold turns what the rounds before it keep into what those after it keep. -/
theorem State.forEach_once {α : Type} {P Q : State → Prop} {l : List α} {f : State → α → State} {p : α → Bool} {a : α}
    (h : l.filter p = [a]) (hs : P s) (hP : ∀ t, ∀ b ∈ l, p b = false → P t → P (f t b)) (ha : ∀ t, P t → Q (f t a))
    (hQ : ∀ t, ∀ b ∈ l, p b = false → Q t → Q (f t b)) : Q (s.forEach l f) := by
  induction l generalizing s with
  | nil => cases h
  | cons b l ih =>
    rw [State.forEach_cons]
    cases hb : p b with
    | false =>
      rw [List.filter_cons_of_neg (by simp [hb])] at h
      exact ih _ h (hP s b (List.mem_cons_self ..) hb hs) (fun t c hc => hP t c (List.mem_cons_of_mem _ hc))
        fun t c hc => hQ t c (List.mem_cons_of_mem _ hc)
    | true =>
      rw [List.filter_cons_of_pos hb] at h
      obtain ⟨rfl, hrest⟩ := List.cons.inj h
      refine (f s b).forEach_invariant Q l f (ha s hs) fun t c hc ht => hQ t c (List.mem_cons_of_mem _ hc) ?_ ht
      exact Bool.not_eq_true _ ▸ List.filter_eq_nil_iff.mp hrest c hc

/-! #### What the latch leaves -/

/-- What the latch reads of a lane. -/
def LogLane.SameLane (x y : LogLane) : Prop :=
  y.slots = x.slots ∧ y.wide = x.wide ∧ y.degraded = x.degraded ∧ y.loss = x.loss ∧ y.takeover = x.takeover ∧ y.finish = x.finish

/-- What the latch reads of a pair: whom it serves, and the DONE words. -/
def PairSt.SameDone (x y : PairSt) : Prop :=
  y.lane = x.lane ∧ y.state = x.state ∧ ∀ k, cellRead y.xMem (doneAddr k) = cellRead x.xMem (doneAddr k)

/-- `t` is `s` with axes that the latch has set, control blocks written and overruns counted. -/
def State.Latching (s t : State) : Prop :=
  ∃ ax ps lg rc, t = { s with axes := ax, lanes := { s.lanes with pairs := ps, log := lg }, recd := rc } ∧
    (∀ p, (s.pair p).SameDone (t.pair p)) ∧ ∀ k, (s.logLane k).SameLane (t.logLane k)

theorem State.Latching.refl : s.Latching s := ⟨_, _, _, _, rfl, fun _ => ⟨rfl, rfl, fun _ => rfl⟩, fun _ => ⟨rfl, rfl, rfl, rfl, rfl, rfl⟩⟩

theorem PairSt.SameDone.trans {x y z : PairSt} (h : x.SameDone y) (h' : y.SameDone z) : x.SameDone z := by
  obtain ⟨hl, hs, hd⟩ := h
  obtain ⟨hl', hs', hd'⟩ := h'
  exact ⟨hl'.trans hl, hs'.trans hs, fun k => (hd' k).trans (hd k)⟩

theorem LogLane.SameLane.trans {x y z : LogLane} (h : x.SameLane y) (h' : y.SameLane z) : x.SameLane z := by
  obtain ⟨hs, hw, hd, hl, ht, hf⟩ := h
  obtain ⟨hs', hw', hd', hl', ht', hf'⟩ := h'
  exact ⟨hs'.trans hs, hw'.trans hw, hd'.trans hd, hl'.trans hl, ht'.trans ht, hf'.trans hf⟩

theorem State.Latching.trans {s t u : State} (h : s.Latching t) (h' : t.Latching u) : s.Latching u := by
  obtain ⟨ax, ps, lg, rc, rfl, hp, hk⟩ := h
  obtain ⟨ax', ps', lg', rc', rfl, hp', hk'⟩ := h'
  exact ⟨ax', ps', lg', rc', rfl, fun p => (hp p).trans (hp' p), fun k => (hk k).trans (hk' k)⟩

theorem State.latching_modAxis (a : Nat) (f : Axis → Axis) : s.Latching (s.modAxis a f) :=
  ⟨_, _, _, _, rfl, fun _ => ⟨rfl, rfl, fun _ => rfl⟩, fun _ => ⟨rfl, rfl, rfl, rfl, rfl, rfl⟩⟩

theorem State.latching_emit (code : Nat) (obj : Word) (args : List Nat) : s.Latching (s.emit code obj args) :=
  ⟨_, _, _, _, rfl, fun _ => ⟨rfl, rfl, fun _ => rfl⟩, fun _ => ⟨rfl, rfl, rfl, rfl, rfl, rfl⟩⟩

/-- The control block lies below the DONE words (R303). -/
theorem PairSt.sameDone_writeCtl (x : PairSt) (slot : Nat) (lp : LoopSt) : x.SameDone (x.writeCtl slot lp) := by
  refine ⟨rfl, rfl, fun k => ?_⟩
  have hfold : ∀ (l : List (Nat × Word)) (m : Cells 32),
      cellRead (l.foldl (fun m e => cellWrite m (Config.ctlAddr slot e.1 % 1024) e.2) m) (doneAddr k) = cellRead m (doneAddr k) := by
    intro l
    induction l with
    | nil => exact fun _ => rfl
    | cons e l ih =>
      intro m
      have hne : doneAddr k ≠ Config.ctlAddr slot e.1 % 1024 := by
        have hlt := Nat.mod_lt (Config.ctlAddr slot e.1) (show 0 < 1024 by decide)
        unfold doneAddr
        omega
      rw [List.foldl_cons, ih, cellRead_cellWrite_other _ _ hne]
  exact hfold _ _

theorem State.latching_modPair (p : Nat) {f : PairSt → PairSt} (h : ∀ x : PairSt, x.SameDone (f x)) : s.Latching (s.modPair p f) := by
  refine ⟨_, _, _, _, rfl, fun k => ?_, fun _ => ⟨rfl, rfl, rfl, rfl, rfl, rfl⟩⟩
  rw [State.modPair_pair]
  split
  · subst_vars; exact h _
  · exact ⟨rfl, rfl, fun _ => rfl⟩

theorem State.latching_modLogLane (l : Nat) {f : LogLane → LogLane} (h : ∀ x : LogLane, x.SameLane (f x)) :
    s.Latching (s.modLogLane l f) := by
  refine ⟨_, _, _, _, rfl, fun _ => ⟨rfl, rfl, fun _ => rfl⟩, fun k => ?_⟩
  rw [State.modLogLane_logLane]
  split
  · subst_vars; exact h _
  · exact ⟨rfl, rfl, rfl, rfl, rfl, rfl⟩

theorem State.latching_latchSlot (l : Nat) (e : Nat × Nat) (o : Bool) : s.Latching (s.latchSlot l e o) := by
  unfold State.latchSlot
  extract_lets t
  have ht : s.Latching t := s.latching_modAxis ..
  split
  · exact ht.trans (t.latching_modPair _ fun x => x.sameDone_writeCtl ..)
  · exact ht

/-! #### What the latch reads -/

section
variable {s} {t : State} (h : s.Latching t)
include h

theorem State.Latching.tick : t.tick = s.tick := by obtain ⟨_, _, _, _, rfl, -⟩ := h; rfl
theorem State.Latching.P : t.P = s.P := by obtain ⟨_, _, _, _, rfl, -⟩ := h; rfl
theorem State.Latching.axisAbsent (a : Nat) : t.axisAbsent a = s.axisAbsent a := by obtain ⟨_, _, _, _, rfl, -⟩ := h; rfl
theorem State.Latching.health : t.health = s.health := by obtain ⟨_, _, _, _, rfl, -⟩ := h; rfl

theorem State.Latching.held (k : Nat) : (t.logLane k).held = (s.logLane k).held := by
  obtain ⟨_, _, _, _, -, -, hk⟩ := h
  rw [LogLane.held, (hk k).1]
  rfl

theorem State.Latching.pairOf (l : Nat) : t.pairOf l = s.pairOf l := by
  obtain ⟨_, _, _, _, -, hp, -⟩ := h
  simp only [State.pairOf, PairSt.working, fun p => (hp p).1, fun p => (hp p).2.1]

theorem State.Latching.captures (l slot : Nat) : t.captures l slot = s.captures l slot := by
  have hw : t.doneWord = s.doneWord := by rw [State.doneWord, h.tick]; rfl
  rw [State.captures, h.pairOf, hw]
  obtain ⟨_, _, _, _, -, hp, -⟩ := h
  simp only [fun p => (hp p).2.2 slot]
  rfl

theorem State.Latching.lostMoves (l : Nat) : t.lostMoves l = s.lostMoves l := by
  rw [State.lostMoves, h.tick]
  obtain ⟨_, _, _, _, -, -, hk⟩ := h
  rw [(hk l).2.2.2.1]
  rfl

theorem State.Latching.lostPending (a : Nat) : t.lostPending a = s.lostPending a := by
  simp only [State.lostPending, h.lostMoves]

theorem State.Latching.parityDue (slot : Nat) : t.parityDue slot = s.parityDue slot := by
  rw [State.parityDue, h.tick]
  rfl

theorem State.Latching.lostDue (l : Nat) : t.lostDue l = s.lostDue l := by
  simp only [State.lostDue, h.lostMoves, h.axisAbsent, h.health, h.parityDue]
  obtain ⟨_, _, _, _, -, -, hk⟩ := h
  rw [(hk l).2.2.2.1]

/-- The lane that serves the axis and what is known of it decide on half rate. -/
theorem State.Latching.axisHalf {a : Nat} (hl : t.laneOf a = s.laneOf a) : t.axisHalf a = s.axisHalf a := by
  unfold State.axisHalf
  rw [h.health, hl]
  obtain ⟨_, _, _, _, -, -, hk⟩ := h
  simp only [fun k => (hk k).2.1, fun k => (hk k).2.2.1]

end

/-- The axis is due in a slot of the lane. -/
theorem State.slotsDue_contains (l a : Nat) : ((s.slotsDue l).map fun e => e.2).contains a =
    (s.logLane l).held.any fun e => decide (e.2 = a) &&
      (!s.axisAbsent a && (!s.axisHalf a || s.parityDue e.1) && !s.lostPending a) := by
  rw [Bool.eq_iff_iff]
  simp only [List.contains_iff_mem, List.mem_map, State.slotsDue, List.mem_filter, List.any_eq_true, Bool.and_eq_true,
    decide_eq_true_eq]
  constructor
  · rintro ⟨e, ⟨hm, hc⟩, rfl⟩
    exact ⟨e, hm, rfl, hc⟩
  · rintro ⟨e, hm, rfl, hc⟩
    exact ⟨e, ⟨hm, hc⟩, rfl⟩

theorem State.Latching.due {s t : State} (h : s.Latching t) {l a : Nat} (hl : t.laneOf a = s.laneOf a) :
    ((t.slotsDue l).map fun e => e.2).contains a = ((s.slotsDue l).map fun e => e.2).contains a := by
  simp only [State.slotsDue_contains, h.held, h.axisAbsent, h.axisHalf hl, h.parityDue, h.lostPending]

/-! #### One lane -/

theorem State.latchSlot_log (l : Nat) (e : Nat × Nat) (o : Bool) : (s.latchSlot l e o).lanes.log = s.lanes.log := by
  unfold State.latchSlot
  dsimp only
  split
  · rfl
  · rfl

theorem State.latchSlot_recd (l : Nat) (e : Nat × Nat) (o : Bool) : (s.latchSlot l e o).recd = s.recd := by
  unfold State.latchSlot
  dsimp only
  split
  · rfl
  · rfl

theorem State.latchSlot_axis (l : Nat) (e : Nat × Nat) (o : Bool) (b : Nat) : (s.latchSlot l e o).axis b =
    if b = e.2 then (s.axis e.2).latch s.P o (s.captures l e.1) s.tick.cycle else s.axis b := by
  have h : (s.latchSlot l e o).axes = (s.modAxis e.2 fun y => y.latch s.P o (s.captures l e.1) s.tick.cycle).axes := by
    unfold State.latchSlot
    dsimp only
    split
    · rfl
    · rfl
  rw [State.axis, h]
  exact s.modAxis_axis ..

/-- The slots of the lane whose axes are present. -/
def State.heldHere (s : State) (l : Nat) : List (Nat × Nat) := (s.logLane l).held.filter fun e => !s.axisAbsent e.2

/-- The axis counts as overrun where its lane does not capture it. -/
def State.overDue (s : State) (l a : Nat) : Bool :=
  ((s.slotsDue l).map fun e => e.2).contains a || ((laneNos.flatMap s.lostDue).map fun e => e.2).contains a

/-- The slots of the lane are captured or substituted. -/
def State.latchSlots (s : State) (l : Nat) : State :=
  s.forEach (s.heldHere l) fun u e => u.latchSlot l e (s.overDue l e.2)

/-- The slots of the lane that were due and are not captured. -/
def State.missed (s : State) (l : Nat) : List (Nat × Nat) :=
  (s.heldHere l).filter fun e => ((s.slotsDue l).map fun e => e.2).contains e.2 && !s.captures l e.1

/-- The latch of a lane sets its axes, records the overruns and counts its own. -/
theorem State.latchLane_eq (l : Nat) : s.latchLane l =
    let n := (s.missed l).length + (s.lostDue l).length
    let t := s.latchSlots l
    let u := if n = 0 then t else t.emit evOverrun t.devRef [l, n, (s.logLane l).finish]
    if (s.missed l).isEmpty ∨ s.inTakeover l ∨ !s.served l then u
    else u.modLogLane l fun y => { y with overruns := recentOverruns (y.overruns ++ [s.tick.no]) s.tick.no } := rfl

theorem State.latching_latchSlots (l : Nat) : s.Latching (s.latchSlots l) :=
  s.forEach_invariant s.Latching _ _ (.refl s) fun t e _ ht => ht.trans (t.latching_latchSlot l e _)

theorem State.latchSlots_log (l : Nat) : (s.latchSlots l).lanes.log = s.lanes.log :=
  s.forEach_keeps (fun t => t.lanes.log) _ _ fun t e _ => t.latchSlot_log l e _

theorem State.latchSlots_recd (l : Nat) : (s.latchSlots l).recd = s.recd :=
  s.forEach_keeps State.recd _ _ fun t e _ => t.latchSlot_recd l e _

/-- What follows the slots leaves the axes. -/
theorem State.latchLane_axes (l : Nat) : (s.latchLane l).axes = (s.latchSlots l).axes := by
  rw [s.latchLane_eq]
  dsimp only
  split
  · split <;> rfl
  · split <;> rfl

theorem State.latching_latchLane (l : Nat) : s.Latching (s.latchLane l) := by
  rw [s.latchLane_eq]
  extract_lets n t u
  have ht : s.Latching t := s.latching_latchSlots l
  have hu : s.Latching u := by
    simp only [u]
    split
    · exact ht
    · exact ht.trans (t.latching_emit ..)
  split
  · exact hu
  · exact hu.trans (u.latching_modLogLane l fun _ => ⟨rfl, rfl, rfl, rfl, rfl, rfl⟩)

/-- A lane that holds no slot of the axis leaves it. -/
theorem State.latchLane_axis_other {l a : Nat} (h : ∀ e ∈ (s.logLane l).held, e.2 ≠ a) :
    (s.latchLane l).axis a = s.axis a := by
  have hs : (s.latchSlots l).axis a = s.axis a := by
    refine s.forEach_keeps (fun t => t.axis a) _ _ fun t e he => ?_
    rw [State.latchSlot_axis, if_neg (h e (List.mem_of_mem_filter he)).symm]
  rw [State.axis, s.latchLane_axes]
  exact hs

/-- The one slot of an axis sets it. -/
theorem State.latchLane_axis {l slot a : Nat} (h : ((s.logLane l).held.filter fun e => e.2 = a) = [(slot, a)])
    (hp : s.axisAbsent a = false) :
    (s.latchLane l).axis a = (s.axis a).latch s.P (s.overDue l a) (s.captures l slot) s.tick.cycle := by
  have hone : ((s.heldHere l).filter fun e => e.2 = a) = [(slot, a)] := by
    rw [State.heldHere, List.filter_comm, h, List.filter_cons_of_pos (by simp [hp]), List.filter_nil]
  have hs : (s.latchSlots l).axis a = (s.axis a).latch s.P (s.overDue l a) (s.captures l slot) s.tick.cycle := by
    refine s.forEach_once (P := fun t => s.Latching t ∧ t.axis a = s.axis a)
      (Q := fun t => t.axis a = (s.axis a).latch s.P (s.overDue l a) (s.captures l slot) s.tick.cycle) hone ⟨.refl s, rfl⟩
      (fun t e _ he ht => ⟨ht.1.trans (t.latching_latchSlot ..), ?_⟩) (fun t ht => ?_) fun t e _ he ht => ?_
    · rw [State.latchSlot_axis, if_neg fun h => of_decide_eq_false he h.symm, ht.2]
    · obtain ⟨hl, hax⟩ := ht
      rw [State.latchSlot_axis, if_pos rfl, hax, hl.P, hl.captures, hl.tick]
    · rw [State.latchSlot_axis, if_neg fun h => of_decide_eq_false he h.symm, ht]
  rw [State.axis, s.latchLane_axes]
  exact hs

/-- A change of lane `l` that keeps its slots, none of which holds the axis, does not change which lane serves it. -/
theorem State.modLogLane_laneOf {l a : Nat} {f : LogLane → LogLane} (h : ∀ e ∈ (s.logLane l).held, e.2 ≠ a)
    (hf : ∀ x, (f x).slots = x.slots) : (s.modLogLane l f).laneOf a = s.laneOf a := by
  have hnone : ((s.logLane l).slots.find? fun e => e.2 = some a) = none := by
    refine List.find?_eq_none.mpr fun e he hc => ?_
    refine h (e.1, a) (List.mem_filterMap.mpr ⟨e, he, ?_⟩) rfl
    rw [of_decide_eq_true hc]
    rfl
  refine findSome?_tblSet _ {} _ ?_ ?_
  · show (((f (s.logLane l)).slots.find? fun e => e.2 = some a).map _) = none
    rw [hf, hnone]
    rfl
  · show ((s.logLane l).slots.find? fun e => e.2 = some a).map _ = none
    rw [hnone]
    rfl

theorem State.laneOf_congr {s t : State} (h : t.lanes.log = s.lanes.log) (a : Nat) : t.laneOf a = s.laneOf a := by
  rw [State.laneOf, h]
  rfl

/-- A lane that holds no slot of the axis does not become the one that serves it. -/
theorem State.latchLane_laneOf {l a : Nat} (h : ∀ e ∈ (s.logLane l).held, e.2 ≠ a) :
    (s.latchLane l).laneOf a = s.laneOf a := by
  have hslots : (s.latchSlots l).laneOf a = s.laneOf a := State.laneOf_congr (s.latchSlots_log l) a
  have hheld : ∀ e ∈ ((s.latchSlots l).logLane l).held, e.2 ≠ a := by rwa [(s.latching_latchSlots l).held]
  rw [s.latchLane_eq]
  extract_lets n t u
  have hu : u.laneOf a = s.laneOf a ∧ ∀ e ∈ (u.logLane l).held, e.2 ≠ a := by
    simp only [u]
    split
    · exact ⟨hslots, hheld⟩
    · exact ⟨hslots, hheld⟩
  split
  · exact hu.1
  · refine (u.modLogLane_laneOf hu.2 ?_).trans hu.1
    exact fun _ => rfl

/-! #### All lanes -/

/-- The latch of every lane. -/
def State.latchLanes (s : State) : State := s.forEach laneNos State.latchLane

theorem State.latching_latchLanes : s.Latching s.latchLanes :=
  s.forEach_invariant s.Latching _ _ (.refl s) fun t l _ ht => ht.trans (t.latching_latchLane l)

theorem laneNos_filter {l : Nat} (hl : l < 17) : (laneNos.filter fun k => decide (k = l)) = [l] := by
  have h : ∀ l : Fin 17, (laneNos.filter fun k => decide (k = l.val)) = [l.val] := by decide
  exact h ⟨l, hl⟩

theorem lt_of_mem_laneNos {k : Nat} (hk : k ∈ laneNos) : k < 17 := by
  have h : ∀ k ∈ laneNos, k < 17 := by decide
  exact h k hk

/-- An axis that one slot of one lane holds is set by the latch of that slot. -/
theorem State.latchLanes_axis {l slot a : Nat} (hl : l < 17)
    (hheld : ((s.logLane l).held.filter fun e => e.2 = a) = [(slot, a)])
    (hother : ∀ k, k < 17 → k ≠ l → ∀ e ∈ (s.logLane k).held, e.2 ≠ a) (hp : s.axisAbsent a = false) :
    s.latchLanes.axis a = (s.axis a).latch s.P (s.overDue l a) (s.captures l slot) s.tick.cycle := by
  have hfree : ∀ t : State, s.Latching t → ∀ k ∈ laneNos, decide (k = l) = false → ∀ e ∈ (t.logLane k).held, e.2 ≠ a := by
    intro t ht k hk hkl
    rw [ht.held]
    exact hother k (lt_of_mem_laneNos hk) (of_decide_eq_false hkl)
  refine (s.forEach_once (P := fun t => s.Latching t ∧ t.axis a = s.axis a ∧ t.laneOf a = s.laneOf a)
    (Q := fun t => s.Latching t ∧ t.axis a = (s.axis a).latch s.P (s.overDue l a) (s.captures l slot) s.tick.cycle)
    (laneNos_filter hl) ⟨.refl s, rfl, rfl⟩ (fun t k hk hkl ht => ?_) (fun t ht => ?_) fun t k hk hkl ht => ?_).2
  · obtain ⟨hlat, hax, hlane⟩ := ht
    have hno := hfree t hlat k hk hkl
    exact ⟨hlat.trans (t.latching_latchLane k), (t.latchLane_axis_other hno).trans hax, (t.latchLane_laneOf hno).trans hlane⟩
  · obtain ⟨hlat, hax, hlane⟩ := ht
    have hover : t.overDue l a = s.overDue l a := by
      rw [State.overDue, hlat.due hlane, show t.lostDue = s.lostDue from funext hlat.lostDue]
      rfl
    refine ⟨hlat.trans (t.latching_latchLane l), ?_⟩
    rw [t.latchLane_axis ((hlat.held l).symm ▸ hheld) ((hlat.axisAbsent a).trans hp), hax, hlat.P, hover, hlat.captures, hlat.tick]
  · obtain ⟨hlat, hax⟩ := ht
    exact ⟨hlat.trans (t.latching_latchLane k), (t.latchLane_axis_other (hfree t hlat k hk hkl)).trans hax⟩

/-- A lane without axes, of which none is to come to another lane, takes no part in the latch. -/
theorem State.latchLane_empty {l : Nat} (hh : (s.logLane l).held = []) (hd : s.lostDue l = []) : s.latchLane l = s := by
  have hhere : s.heldHere l = [] := by rw [State.heldHere, hh, List.filter_nil]
  have hmiss : s.missed l = [] := by rw [State.missed, hhere, List.filter_nil]
  have hslots : s.latchSlots l = s := by rw [State.latchSlots, hhere, State.forEach_nil]
  rw [s.latchLane_eq]
  simp only [hmiss, hd, hslots, List.length_nil, Nat.add_zero, if_true, List.isEmpty_nil, true_or]

/-- Where one lane alone has axes, the latch is that lane's. -/
theorem State.latchLanes_of_one {l : Nat} (hl : l < 17)
    (h : ∀ k, k ≠ l → (s.logLane k).held = [] ∧ s.lostDue k = []) : s.latchLanes = s.latchLane l := by
  have hlat := s.latching_latchLane l
  refine s.forEach_once (P := fun t => t = s) (Q := fun t => t = s.latchLane l) (laneNos_filter hl) rfl
    (fun t k _ hkl ht => ?_) (fun t ht => ht ▸ rfl) fun t k _ hkl ht => ?_
  · obtain ⟨hh, hd⟩ := h k (of_decide_eq_false hkl)
    rw [ht, s.latchLane_empty hh hd]
  · obtain ⟨hh, hd⟩ := h k (of_decide_eq_false hkl)
    rw [ht, State.latchLane_empty _ ((hlat.held k).trans hh) ((hlat.lostDue k).trans hd)]

/-- The overruns of a lane are recorded, and count with it while a pair serves it (R48, R49). -/
theorem State.latchLane_overruns {l : Nat} (hn : (s.missed l).length + (s.lostDue l).length ≠ 0) :
    Records s (s.latchLane l) evOverrun s.devRef [l, (s.missed l).length + (s.lostDue l).length, (s.logLane l).finish] ∧
      (s.missed l ≠ [] → s.served l = true → s.inTakeover l = false →
        s.tick.no ∈ ((s.latchLane l).logLane l).overruns) := by
  obtain ⟨ax, ps, lg, rc, ht, -⟩ := s.latching_latchSlots l
  have hrc : rc = s.recd := by
    have := s.latchSlots_recd l
    rwa [ht] at this
  rw [s.latchLane_eq]
  simp only [if_neg hn, ht, hrc]
  constructor
  · split
    · exact State.records_emit _ _ _ _
    · exact State.records_emit _ _ _ _
  · intro hm hs hto
    have hc : ¬((s.missed l).isEmpty = true ∨ s.inTakeover l = true ∨ (!s.served l) = true) := by
      rw [hs, hto, List.isEmpty_iff]
      simp [hm]
    rw [if_neg hc, State.modLogLane_logLane, if_pos rfl]
    exact List.mem_filter.mpr ⟨List.mem_append_right _ (List.mem_singleton_self _), by simp⟩

theorem State.latchLane_onTime {l : Nat} (hn : (s.missed l).length + (s.lostDue l).length = 0) :
    (s.latchLane l).recd = s.recd ∧ (s.latchLane l).lanes.log = s.lanes.log := by
  have hm : s.missed l = [] := List.eq_nil_of_length_eq_zero (Nat.eq_zero_of_add_eq_zero_right hn)
  have hd : s.lostDue l = [] := List.eq_nil_of_length_eq_zero (Nat.eq_zero_of_add_eq_zero_left hn)
  rw [s.latchLane_eq]
  simp only [hm, hd, List.length_nil, Nat.add_zero, if_true, List.isEmpty_nil, true_or]
  exact ⟨s.latchSlots_recd l, s.latchSlots_log l⟩

/-! #### The event -/

/-- The predicted fires of the compares are captured, or dropped. -/
def State.latchCmps (s : State) : State :=
  s.forEach (upTo 16) fun u k =>
    u.cmpLatch k (refClass (u.cmpSrc k) = clsAxis && !(u.axis (refIndex (u.cmpSrc k))).lp.extrap)

theorem State.latchCmps_shape : ∃ cm, s.latchCmps = { s with cmps := cm } := by
  refine s.forEach_invariant (fun t => ∃ cm, t = { s with cmps := cm }) _ _ ⟨_, rfl⟩ fun t k _ ht => ?_
  obtain ⟨cm, rfl⟩ := ht
  exact ⟨_, rfl⟩

theorem State.deadlineLatch_shape : ∃ cm v, s.deadlineLatch =
    { s.latchLanes with
      cmps := cm, sep := { s.latchLanes.sep with latchV := v }, tick := { s.latchLanes.tick with latched := true } } := by
  have hlatch : ∃ v, s.deadlineLatch =
      (s.latchLanes.latchCmps.modSep fun x => { x with latchV := v }).modTick fun x => { x with latched := true } := by
    unfold State.deadlineLatch State.latchCmps State.latchLanes
    exact ⟨_, rfl⟩
  obtain ⟨v, hv⟩ := hlatch
  obtain ⟨cm, hcm⟩ := s.latchLanes.latchCmps_shape
  rw [hcm] at hv
  generalize s.latchLanes = u at hv ⊢
  exact ⟨cm, v, hv⟩

theorem State.exec_deadlineLatch (hr : s.tick.running = true) (hl : s.tick.latched = false) :
    exec .deadlineLatch s = .next s.deadlineLatch :=
  congrArg Host.Outcome.next (if_pos (by rw [hr, hl]; rfl))

theorem State.exec_deadlineLatch_idle (h : s.tick.running = false ∨ s.tick.latched = true) :
    exec .deadlineLatch s = .next s := by
  refine congrArg Host.Outcome.next (if_neg fun hc => ?_)
  simp only [Bool.and_eq_true, Bool.not_eq_true'] at hc
  obtain h | h := h
  · exact Bool.false_ne_true (h.symm.trans hc.1)
  · exact Bool.false_ne_true (hc.2.symm.trans h)

/-- The event sets what the latch of the lanes leaves, and nothing else but compares, the engines' references and the mark. -/
theorem State.completes_deadlineLatch {Q : State → Prop} (hr : s.tick.running = true) (hl : s.tick.latched = false)
    (h : ∀ u, s.latchLanes = u → ∀ cm v,
      Q { u with cmps := cm, sep := { u.sep with latchV := v }, tick := { u.tick with latched := true } }) :
    Completes .deadlineLatch s Q := by
  obtain ⟨cm, v, heq⟩ := s.deadlineLatch_shape
  exact ⟨_, s.exec_deadlineLatch hr hl, heq ▸ h _ rfl cm v⟩

theorem coe_uns (n : Nat) (v : Int) : (uns n v : Int) = v % 2 ^ n := by
  rw [uns, BitVec.toNat_ofInt]
  have hpos : (0 : Int) < ((2 ^ n : Nat) : Int) := by positivity
  rw [Int.toNat_of_nonneg (Int.emod_nonneg _ hpos.ne')]
  push_cast
  rfl

theorem sext_uns (n : Nat) (v : Int) : sext n (uns n v) = (BitVec.ofInt n v).toInt := by
  rw [sext, uns, BitVec.ofNat_toNat, BitVec.setWidth_eq]

/-- The values that the latch lays in the place of a computation that is not there (R47). -/
theorem LoopSt.latch_substituted (z : LoopSt) (P : Nat) (o : Bool) :
    let y := z.latch P o false
    let step := (BitVec.ofInt 16 ((z.addrPrev : Int) - z.addrPrev2)).toInt
    (y.addr : Int) = ((z.addrPrev : Int) + step) % 65536 ∧ y.ampl = z.ampl ∧
      y.posRef = satS 64 (z.posRefPrev + rnd ((z.vRefPrev : Rat) * kT P)) ∧ y.vRef = z.vRefPrev ∧ y.extrap = true ∧ y.win = 15 ∧
      y.posFb = z.posFb ∧ y.iPid = z.iPid ∧ y.overrun = o ∧
      y.addrPrev = y.addr ∧ y.addrPrev2 = z.addrPrev ∧ y.posRefPrev = y.posRef ∧ y.vRefPrev = y.vRef := by
  refine ⟨?_, rfl, rfl, rfl, rfl, rfl, rfl, rfl, rfl, rfl, rfl, rfl, rfl⟩
  rw [← sext_uns]
  exact coe_uns 16 _

theorem Axis.latch_captured_lp (x : Axis) (P : Nat) (o : Bool) (c : Word) : (x.latch P o true c).lp =
    { x.lp with
      addr := x.lp.addrW, ampl := x.lp.amplW, extrap := false, overrun := false, addrPrev2 := x.lp.addrPrev
      addrPrev := x.lp.addrW, posRefPrev2 := x.lp.posRefPrev, posRefPrev := x.lp.posRef, vRefPrev := x.lp.vRef
      pass1Done := false, last := c } := rfl

/-- An axis that is not captured goes on from the kernel before this tick's computation (R59). -/
theorem Axis.latch_substituted_lp (x : Axis) (P : Nat) (o : Bool) (c : Word) :
    (x.latch P o false c).lp = (x.bak.elim x.lp x.lp.undo).latch P o false := by
  unfold Axis.latch
  cases x.bak <;> rfl

theorem State.overDue_eq (l a : Nat) :
    s.overDue l a = ((s.slotsDue l ++ laneNos.flatMap s.lostDue).map fun e => e.2).contains a := by
  rw [List.map_append, List.contains_append]
  rfl

theorem State.missed_eq (l : Nat) : s.missed l = (s.logLane l).held.filter fun e =>
    !s.axisAbsent e.2 && ((s.slotsDue l).map fun e => e.2).contains e.2 && !s.captures l e.1 := by
  rw [State.missed, State.heldHere, List.filter_filter]
  refine List.filter_congr fun e _ => ?_
  rw [Bool.and_comm, Bool.and_assoc]

/-- Settles O52: the latch of a lane reads nothing that the latch of another changes; the axis's own slot sets it. -/
theorem theDeadlineLatchSubstitutes : Obligations.TheDeadlineLatchSubstitutes := by
  unfold Obligations.TheDeadlineLatchSubstitutes
  intro s
  refine ⟨fun h => completes_self (s.exec_deadlineLatch_idle h), fun hr hlt => ⟨?_, fun l slot a hl hheld hother hp => ?_,
    fun l hl hone => ?_⟩⟩
  · refine s.completes_deadlineLatch hr hlt fun u hu cm v => ?_
    obtain ⟨ax, ps, lg, rc, rfl, -⟩ := hu ▸ s.latching_latchLanes
    exact ⟨rfl, rfl⟩
  · have hax := s.latchLanes_axis hl hheld hother hp
    refine ⟨fun hc => s.completes_deadlineLatch hr hlt fun u hu cm v => ?_,
      fun hc => s.completes_deadlineLatch hr hlt fun u hu cm v => ?_⟩
    · rw [hu, hc] at hax
      exact (congrArg Axis.lp hax).trans (Axis.latch_captured_lp ..)
    · rw [hu, hc, s.overDue_eq] at hax
      have hsub := LoopSt.latch_substituted ((s.axis a).bak.elim (s.axis a).lp (s.axis a).lp.undo) s.P
        (((s.slotsDue l ++ laneNos.flatMap s.lostDue).map fun e => e.2).contains a)
      rw [← (congrArg Axis.lp hax).trans (Axis.latch_substituted_lp ..)] at hsub
      exact hsub
  · have hlanes := s.latchLanes_of_one hl hone
    have hover := s.latchLane_overruns (l := l)
    have htime := s.latchLane_onTime (l := l)
    rw [← hlanes] at hover htime
    rw [← s.missed_eq]
    refine ⟨fun hn => s.completes_deadlineLatch hr hlt fun u hu cm v => ?_,
      fun hn => s.completes_deadlineLatch hr hlt fun u hu cm v => ?_⟩
    · rw [hu] at hover
      exact hover hn
    · rw [hu] at htime
      obtain ⟨hrec, hlog⟩ := htime hn
      exact ⟨hrec, congrArg (fun t => (tblGet ({} : LogLane) t l).overruns) hlog⟩

end Sys2Proof.Machine

/-! ### Bytes of the host window (R402, R405) -/

namespace Sys2Proof.Machine
open Sys2Proof.Claims

section
variable {w : Nat}

theorem readCells_congr {m m' : Cells w} {off n : Nat} (h : ∀ a, off ≤ a → a < off + n → cellRead m' a = cellRead m a) :
    readCells m' off n = readCells m off n := by
  induction n generalizing off with
  | zero => rfl
  | succ n ih =>
    rw [readCells, readCells, h off (Nat.le_refl _) (by omega), ih fun a h1 h2 => h a (by omega) (by omega)]

theorem readCells_eq_zero {m : Cells w} {off n : Nat} (h : ∀ a, off ≤ a → a < off + n → cellRead m a = 0) :
    readCells m off n = List.replicate n 0 := by
  induction n generalizing off with
  | zero => rfl
  | succ n ih =>
    rw [readCells, List.replicate_succ, h off (Nat.le_refl _) (by omega), ih fun a h1 h2 => h a (by omega) (by omega)]

/-- A write leaves what lies beside it. -/
theorem readCells_writeCells_other {m : Cells w} (hm : cellsWf m = true) {off o n : Nat} (l : List (BitVec w))
    (h : o + n ≤ off ∨ off + l.length ≤ o) : readCells (writeCells m off l) o n = readCells m o n :=
  readCells_congr fun a h1 h2 => cellRead_writeCells_other hm off l (by omega)

theorem cellsFrom_filter {m : Cells w} {lo : Nat} (q : Nat × BitVec w → Bool) (hm : cellsFrom lo m = true) :
    cellsFrom lo (m.filter q) = true := by
  induction m generalizing lo with
  | nil => rfl
  | cons e r ih =>
    obtain ⟨j, v⟩ := e
    simp only [cellsFrom, Bool.and_eq_true, decide_eq_true_eq] at hm
    obtain ⟨⟨hlo, hv⟩, hr⟩ := hm
    rw [List.filter_cons]
    split
    · simp only [cellsFrom, Bool.and_eq_true, decide_eq_true_eq]
      exact ⟨⟨hlo, hv⟩, ih hr⟩
    · exact cellsFrom_mono (by omega) (ih hr)

/-- An address that a filter drops reads as 0. -/
theorem cellRead_filter_of_dropped {m : Cells w} {q : Nat × BitVec w → Bool} {a : Nat} (h : ∀ v, q (a, v) = false) :
    cellRead (m.filter q) a = 0 := by
  induction m with
  | nil => rfl
  | cons e r ih =>
    obtain ⟨j, v⟩ := e
    rw [List.filter_cons]
    split
    · rename_i hq
      have hja : j ≠ a := fun hja => Bool.false_ne_true ((h v).symm.trans (hja ▸ hq))
      rw [cellRead, if_neg hja, ih]
    · exact ih

end

theorem bytesLE_length (n v : Nat) : (bytesLE n v).length = n := by
  induction n generalizing v with
  | zero => rfl
  | succ n ih => rw [bytesLE, List.length_cons, ih]

variable (s : State)

/-- What one round of a fold establishes, and every round keeps, holds after the fold; a round may use that its element is in
the list. -/
theorem State.forEach_sets {α : Type} (P Q : State → Prop) {l : List α} {f : State → α → State} {a : α} (ha : a ∈ l)
    (hs : P s) (hP : ∀ t, ∀ b ∈ l, P t → P (f t b)) (ha' : ∀ t, P t → Q (f t a)) (hQ : ∀ t, ∀ b ∈ l, P t → Q t → Q (f t b)) :
    Q (s.forEach l f) := by
  have h := s.forEach_establishes P Q (List.mem_attach l ⟨a, ha⟩) hs (f := fun t b => f t b.1) (fun t b => hP t b.1 b.2) ha'
    fun t b => hQ t b.1 b.2
  rwa [State.forEach, List.foldl_attach] at h

/-! ### The status blocks (R406) -/

/-- `t` is `s` with another window. -/
def State.WindowOnly (s t : State) : Prop := ∃ w, t = { s with host := { s.host with window := w } }

theorem State.WindowOnly.refl : s.WindowOnly s := ⟨_, rfl⟩

theorem State.WindowOnly.winWrite {s t : State} (h : s.WindowOnly t) (off : Nat) (l : List Byte) :
    s.WindowOnly (t.winWrite off l) := by
  obtain ⟨w, rfl⟩ := h
  exact ⟨_, rfl⟩

theorem State.windowOnly_forEach {s t : State} (h : s.WindowOnly t) {l : List Nat} {off : Nat → Nat} {b : Nat → List Byte} :
    s.WindowOnly (t.forEach l fun u a => u.winWrite (off a) (b a)) :=
  t.forEach_invariant s.WindowOnly l _ h fun _ a _ hu => hu.winWrite (off a) (b a)

theorem State.axisEntry_length (a : Nat) : (s.axisEntry a).length = 32 := by
  simp only [State.axisEntry, List.length_append, bytesLE_length]

/-- The byte lies in neither status block. -/
def outsideBlocks (c : Nat × Byte) : Bool :=
  decide (c.1 < axisBlock) || (decide (0xD000 ≤ c.1) && decide (c.1 < groupBlock)) || decide (groupBlock + 32768 ≤ c.1)

/-- Both status blocks are cleared. -/
def State.clearBlocks (s : State) : State := s.modHost fun x => { x with window := x.window.filter outsideBlocks }

/-- The axis entries are written. -/
def State.writeAxes (s t : State) : State :=
  t.forEach s.axisList fun u a => u.winWrite (axisBlock + 32 * (a % 512)) (s.axisEntry a)

/-- The group entries are written, at the leader with those of the other devices. -/
def State.writeGroups (s t : State) : State :=
  let u := t.forEach s.ownGroups fun u g => u.winWrite (groupBlock + 16 * g) (s.groupEntry g)
  if s.isLeader then
    u.forEach s.remoteGroups fun u g => u.winWrite (groupBlock + 16 * g) (s.remoteEntry (s.remoteGroup g))
  else u

/-- The window is in canonical form and reads so in the axis block. -/
def State.AxisBlockReads (k : Nat) (l : List Byte) (t : State) : Prop :=
  cellsWf t.host.window = true ∧ t.winRead (axisBlock + 32 * k) 32 = l

/-- A write beside an axis entry leaves it. -/
theorem State.AxisBlockReads.winWrite {k off : Nat} {l b : List Byte} {t : State} (h : t.AxisBlockReads k l)
    (hd : off + b.length ≤ axisBlock + 32 * k ∨ axisBlock + 32 * k + 32 ≤ off) : (t.winWrite off b).AxisBlockReads k l :=
  ⟨cellsWf_writeCells off b h.1, (readCells_writeCells_other h.1 b hd.symm).trans h.2⟩

/-- The clearing leaves 0 in an entry of the axis block. -/
theorem State.clearBlocks_reads {k : Nat} (hk : k < 512) (hw : cellsWf s.host.window = true) :
    s.clearBlocks.AxisBlockReads k (List.replicate 32 0) := by
  refine ⟨cellsFrom_filter _ hw, readCells_eq_zero fun a h1 h2 => cellRead_filter_of_dropped fun v => ?_⟩
  unfold outsideBlocks axisBlock groupBlock at *
  simp only [Bool.or_eq_false_iff, Bool.and_eq_false_iff, decide_eq_false_iff_not]
  omega

/-- The entries of other axes leave an entry. -/
theorem State.AxisBlockReads.writeAxes {k : Nat} {l : List Byte} {t : State} (h : t.AxisBlockReads k l)
    (hk : ∀ a ∈ s.axisList, a % 512 ≠ k) : (s.writeAxes t).AxisBlockReads k l := by
  refine t.forEach_invariant (State.AxisBlockReads k l) _ _ h fun u a ha hu => hu.winWrite ?_
  have hne := hk a ha
  rw [s.axisEntry_length]
  omega

theorem mem_of_mem_insertNat {a b : Nat} {l : List Nat} (h : b ∈ insertNat a l) : b = a ∨ b ∈ l := by
  induction l with
  | nil => exact .inl (List.mem_singleton.mp h)
  | cons c l ih =>
    unfold insertNat at h
    split at h
    · exact List.mem_cons.mp h
    · obtain rfl | h := List.mem_cons.mp h
      · exact .inr (List.mem_cons_self ..)
      · exact (ih h).imp_right (List.mem_cons_of_mem _)

theorem mem_of_mem_sortNat {b : Nat} {l : List Nat} (h : b ∈ sortNat l) : b ∈ l := by
  induction l with
  | nil => exact h
  | cons a l ih =>
    obtain rfl | h := mem_of_mem_insertNat h
    · exact List.mem_cons_self ..
    · exact List.mem_cons_of_mem _ (ih h)

theorem State.mem_axisList {a : Nat} (h : a ∈ s.axisList) : a / 512 = s.dev := by
  obtain ⟨r, hr, rfl⟩ := List.mem_map.mp (mem_of_mem_sortNat h)
  exact of_decide_eq_true (List.mem_filter.mp hr).2

theorem State.winRead_winWrite {off n : Nat} {l : List Byte} (hl : l.length = n) (hw : cellsWf s.host.window = true) :
    (s.winWrite off l).winRead off n = l :=
  hl ▸ s.winWrite_read off l hw

theorem State.winWrite_wf (off : Nat) (l : List Byte) (hw : cellsWf s.host.window = true) :
    cellsWf (s.winWrite off l).host.window = true := cellsWf_writeCells off l hw

theorem State.axisBlockReads_winWrite (k : Nat) {l : List Byte} (hl : l.length = 32) (hw : cellsWf s.host.window = true) :
    (s.winWrite (axisBlock + 32 * k) l).AxisBlockReads k l := ⟨s.winWrite_wf _ _ hw, s.winRead_winWrite hl hw⟩

/-- The entry of an axis is written. -/
theorem State.writeAxes_reads {a : Nat} {t : State} (ha : a ∈ s.axisList) (hw : cellsWf t.host.window = true) :
    (s.writeAxes t).AxisBlockReads (a % 512) (s.axisEntry a) := by
  have hread : ∀ u : State, cellsWf u.host.window = true →
      (u.winWrite (axisBlock + 32 * (a % 512)) (s.axisEntry a)).AxisBlockReads (a % 512) (s.axisEntry a) := by
    exact fun u hu => u.axisBlockReads_winWrite _ (s.axisEntry_length a) hu
  refine t.forEach_sets (fun u => cellsWf u.host.window = true) (State.AxisBlockReads (a % 512) (s.axisEntry a)) ha hw
    (fun u b _ hu => u.winWrite_wf _ _ hu) hread fun u b hb hu hq => ?_
  by_cases hab : b = a
  · subst hab
    exact hread u hu
  · refine hq.winWrite ?_
    have hd := s.mem_axisList ha
    have hd' := s.mem_axisList hb
    rw [s.axisEntry_length]
    omega

/-- The group block lies above the axis block. -/
theorem State.AxisBlockReads.writeGroups {k : Nat} {l : List Byte} {t : State} (h : t.AxisBlockReads k l) (hk : k < 512) :
    (s.writeGroups t).AxisBlockReads k l := by
  have hfold : ∀ (gs : List Nat) (b : Nat → List Byte) (u : State), u.AxisBlockReads k l →
      (u.forEach gs fun v g => v.winWrite (groupBlock + 16 * g) (b g)).AxisBlockReads k l := by
    intro gs b u hu
    refine u.forEach_invariant (State.AxisBlockReads k l) gs _ hu fun v g _ hv => hv.winWrite (.inr ?_)
    unfold groupBlock axisBlock
    omega
  unfold State.writeGroups
  extract_lets u
  have hu := hfold s.ownGroups s.groupEntry t h
  split
  · exact hfold _ _ _ hu
  · exact hu

theorem State.statusBlocks_eq : s.statusBlocks = s.writeGroups (s.writeAxes s.clearBlocks) := rfl

/-- What the axis block reads after the status blocks. -/
theorem State.statusBlocks_reads (hw : cellsWf s.host.window = true) :
    (∀ a ∈ s.axisList, s.statusBlocks.winRead (axisBlock + 32 * (a % 512)) 32 = s.axisEntry a) ∧
      ∀ k, k < 512 → (∀ a ∈ s.axisList, a % 512 ≠ k) →
        s.statusBlocks.winRead (axisBlock + 32 * k) 32 = List.replicate 32 0 := by
  rw [s.statusBlocks_eq]
  refine ⟨fun a ha => ?_, fun k hk hno => ?_⟩
  · have hwf : cellsWf s.clearBlocks.host.window = true := cellsFrom_filter _ hw
    exact ((s.writeAxes_reads ha hwf).writeGroups s (Nat.mod_lt _ (by decide))).2
  · exact (((s.clearBlocks_reads hk hw).writeAxes s hno).writeGroups s hk).2

theorem State.windowOnly_statusBlocks : s.WindowOnly s.statusBlocks := by
  rw [s.statusBlocks_eq]
  have hclear : s.WindowOnly s.clearBlocks := ⟨_, rfl⟩
  have hown : s.WindowOnly ((s.writeAxes s.clearBlocks).forEach s.ownGroups fun u g =>
      u.winWrite (groupBlock + 16 * g) (s.groupEntry g)) := s.windowOnly_forEach (s.windowOnly_forEach hclear)
  unfold State.writeGroups
  extract_lets u
  split
  · exact s.windowOnly_forEach hown
  · exact hown

/-! ### The shadow cut-off (R45, R440) -/

/-- `t` is `s` with statuses decided and free values drawn; the window and the reads that wait are as they were. -/
def State.Answers (s t : State) : Prop :=
  ∃ hs fr, t = { s with host := hs, free := fr } ∧ hs.window = s.host.window ∧ hs.reads = s.host.reads

theorem State.Answers.refl : s.Answers s := ⟨_, _, rfl, rfl, rfl⟩

theorem State.Answers.trans {s t u : State} (h : s.Answers t) (h' : t.Answers u) : s.Answers u := by
  obtain ⟨hs, fr, rfl, hw, hr⟩ := h
  obtain ⟨hs', fr', rfl, hw', hr'⟩ := h'
  exact ⟨hs', fr', rfl, hw'.trans hw, hr'.trans hr⟩

theorem State.answers_complete (op : Nat) (h : Hdr) (status : Nat) (obj : Word) (result : Nat) :
    s.Answers (s.complete op h status obj result) := by
  have hh := s.complete_host op h status obj result
  refine ⟨(s.complete op h status obj result).host, s.free, ?_, (congrArg HostIf.window hh :), (congrArg HostIf.reads hh :)⟩
  exact congrArg (fun t : State => { t with host := (s.complete op h status obj result).host })
    (s.complete_frame op h status obj result)

theorem State.answers_paramReadNow (h : Hdr) (num : Nat) (staged : Bool) : s.Answers (s.paramReadNow h num staged) := by
  unfold State.paramReadNow
  split
  · exact s.answers_complete ..
  · extract_lets targets far
    split
    · exact s.answers_complete ..
    · split
      · exact s.answers_complete ..
      · split
        · exact s.answers_complete ..
        · split
          · exact s.answers_complete ..
          · split
            · exact s.answers_complete ..
            · exact State.Answers.trans ⟨_, _, rfl, rfl, rfl⟩ (State.answers_complete _ ..)

theorem State.answers_forEach {α : Type} (l : List α) {f : State → α → State} (h : ∀ (t : State) (a : α), t.Answers (f t a)) :
    s.Answers (s.forEach l f) :=
  s.forEach_invariant s.Answers l f (.refl s) fun t a _ ht => ht.trans (h t a)

/-- The reads that wait are answered, and none is left. -/
theorem State.answerReads_shape : ∃ hs fr, s.answerReads = { s with host := hs, free := fr } ∧
    hs.window = s.host.window ∧ hs.reads = [] := by
  obtain ⟨hs, fr, h, hw, hr⟩ := (s.modHost fun x => { x with reads := [] }).answers_forEach s.host.reads
    fun t e => t.answers_paramReadNow e.1 e.2.1.toNat e.2.2
  exact ⟨hs, fr, h, hw, hr⟩

/-- The cut-off of the tick: the pairs' views of the shadow values, the answers, and the status blocks. -/
theorem State.exec_shadowCutoff (ht : s.ticking = true) (hc : s.tick.cutoff = false) : exec .shadowCutoff s =
    .next (s.modTick fun x => { x with cutoff := true }).shadowWrite.answerReads.statusBlocks :=
  congrArg Host.Outcome.next (if_pos (by rw [ht, hc]; rfl))

theorem State.exec_shadowCutoff_idle (h : s.ticking = false ∨ s.tick.cutoff = true) : exec .shadowCutoff s = .next s := by
  refine congrArg Host.Outcome.next (if_neg fun hc => ?_)
  simp only [Bool.and_eq_true, Bool.not_eq_true'] at hc
  obtain h | h := h
  · exact Bool.false_ne_true (h.symm.trans hc.1)
  · exact Bool.false_ne_true (hc.2.symm.trans h)

theorem State.completes_shadowCutoff (hw : cellsWf s.host.window = true) (ht : s.ticking = true) (hc : s.tick.cutoff = false) :
    Completes .shadowCutoff s fun t => t.tick = { s.tick with cutoff := true } ∧ t.host.reads = [] ∧
      (∀ a ∈ s.axisList, a / 512 = s.dev → t.winRead (0x9000 + 32 * (a % 512)) 32 = s.axisEntry a) ∧
      (∀ k, k < 512 → (∀ a ∈ s.axisList, a % 512 ≠ k) → t.winRead (0x9000 + 32 * k) 32 = List.replicate 32 0) ∧
      (∀ p, { t.pair p with ext := (s.pair p).ext } = s.pair p) ∧
      { t with tick := s.tick, host := s.host, lanes := { t.lanes with pairs := s.lanes.pairs }, free := s.free } = s := by
  obtain ⟨ps, fr, hs, hp⟩ := State.extWritten_extWrite (s.modTick fun x => { x with cutoff := true }) (fun _ => true)
    fun n _ e => { e with shadow := n }
  obtain ⟨ho, fr', ha, hwin, hreads⟩ := (s.modTick fun x => { x with cutoff := true }).shadowWrite.answerReads_shape
  have hshadow : (s.modTick fun x => { x with cutoff := true }).shadowWrite =
    { s with tick := { s.tick with cutoff := true }, lanes := { s.lanes with pairs := ps }, free := fr } := hs
  rw [hs] at hp
  rw [hshadow] at ha hwin
  have hexec := s.exec_shadowCutoff ht hc
  rw [hshadow, ha] at hexec
  obtain ⟨haxis, hempty⟩ := State.statusBlocks_reads { s with
    tick := { s.tick with cutoff := true }, lanes := { s.lanes with pairs := ps }, host := ho, free := fr' } (hwin.symm ▸ hw)
  obtain ⟨w, hstat⟩ := State.windowOnly_statusBlocks { s with
    tick := { s.tick with cutoff := true }, lanes := { s.lanes with pairs := ps }, host := ho, free := fr' }
  refine ⟨_, hexec, ?_, ?_, fun a hal hdev => ?_, fun k hk hno => ?_, fun p => ?_, ?_⟩
  · rw [hstat]
  · rw [hstat]; exact hreads
  · exact haxis a hal
  · exact hempty k hk hno
  · rw [hstat]; exact hp p
  · rw [hstat]

end Sys2Proof.Machine

/-! ### The telemetry record and late tasks (R406, R408) -/

namespace Sys2Proof.Machine
open Sys2Proof.Claims

variable (s : State)

theorem State.telemetryBytes_length (r : TelemetryIn) : (s.telemetryBytes r).length = 40 := by
  simp only [State.telemetryBytes, List.length_append, bytesLE_length, List.length_cons, List.length_nil]

/-- Of the host interface the record carries its own number only. -/
theorem State.telemetryBytes_host (r : TelemetryIn) {x : HostIf} (h : x.telemSeq = s.host.telemSeq) :
    State.telemetryBytes { s with host := x } r = s.telemetryBytes r := by
  unfold State.telemetryBytes
  dsimp only
  rw [h]
  rfl

/-- What an interval leaves that ends with the sensors read. -/
def State.intervalEnds (s : State) (r : TelemetryIn) : State := s.closeInterval.readSensors r

theorem State.intervalEnds_frame (r : TelemetryIn) :
    { s.intervalEnds r with
      host := s.host, tick := s.tick, health := s.health
      sep := { (s.intervalEnds r).sep with publishPub := s.sep.publishPub, publishMax := s.sep.publishMax } } = s := rfl

theorem State.exec_telemetryWrite (r : TelemetryIn) (hf : s.fwAlive = true) : exec (.telemetryWrite r) s =
    .next (if s.host.suspended then s.modHost fun x => { x with telemDue := some r } else s.telemetryOp r) :=
  congrArg Host.Outcome.next (if_neg (by rw [hf]; decide))

/-- A write of the window with a cause that it raises. -/
theorem State.winWrite_raiseIrq (off : Nat) (l : List Byte) {k : Nat} (hk : k < 32) : ∃ x : HostIf,
    (s.winWrite off l).raiseIrq k = { s with host := x } ∧ x.telemSeq = s.host.telemSeq ∧ x.tempMax = s.host.tempMax ∧
      x.irqStatus.getLsbD k = true ∧ x.window = writeCells s.host.window off l := by
  have hh := (s.winWrite off l).raiseIrq_host k
  exact ⟨_, (s.winWrite off l).raiseIrq_eq k, (congrArg HostIf.telemSeq hh :), (congrArg HostIf.tempMax hh :),
    State.raiseIrq_getLsbD _ hk, (congrArg HostIf.window hh :)⟩

theorem State.telemetryOp_eq (r : TelemetryIn) : ∃ x : HostIf, s.telemetryOp r = { s.intervalEnds r with host := x } ∧
    x.telemSeq = s.host.telemSeq + 1 ∧ x.tempMax = BitVec.ofInt 16 r.tempNow ∧ x.irqStatus.getLsbD 6 = true ∧
    x.window = writeCells s.host.window 0x100 ((s.intervalEnds r).telemetryBytes r) :=
  (s.intervalEnds r).winWrite_raiseIrq 0x100 ((s.intervalEnds r).telemetryBytes r) (by decide)

/-- The record of the interval that ends is written, and the next interval begins. -/
theorem State.completes_telemetryWrite {r : TelemetryIn} (hw : cellsWf s.host.window = true) (hf : s.fwAlive = true)
    (hs : s.host.suspended = false) : Completes (.telemetryWrite r) s fun t =>
      t.host.telemSeq = s.host.telemSeq + 1 ∧ t.winRead 0x100 40 = t.telemetryBytes r ∧ t.host.irqStatus.getLsbD 6 = true ∧
      t.tick = { s.tick with
        finishPub := s.tick.finishMax, slackPub := s.tick.slackMin.getD s.P, finishMax := 0, slackMin := none } ∧
      t.sep.publishPub = s.sep.publishMax ∧ t.sep.publishMax = 0 ∧ t.host.tempMax = BitVec.ofInt 16 r.tempNow ∧
      (∀ off, off < 0x100 ∨ 0x128 ≤ off → cellRead t.host.window off = cellRead s.host.window off) ∧
      { t with host := s.host, tick := s.tick, sep := { t.sep with publishPub := s.sep.publishPub, publishMax := s.sep.publishMax }
               health := s.health } = s := by
  obtain ⟨x, heq, hseq, htemp, hirq, hwin⟩ := s.telemetryOp_eq r
  have hlen := (s.intervalEnds r).telemetryBytes_length r
  have hbytes : State.telemetryBytes { s.intervalEnds r with host := x } r = (s.intervalEnds r).telemetryBytes r :=
    (s.intervalEnds r).telemetryBytes_host r hseq
  have hexec := s.exec_telemetryWrite r hf
  rw [hs, if_neg Bool.false_ne_true, heq] at hexec
  refine ⟨_, hexec, hseq, ?_, hirq, rfl, rfl, rfl, htemp, fun off hoff => ?_, s.intervalEnds_frame r⟩
  · rw [hbytes, State.winRead]
    generalize (s.intervalEnds r).telemetryBytes r = l at hwin hlen
    rw [hwin, ← hlen]
    exact readCells_writeCells hw 0x100 l
  · generalize (s.intervalEnds r).telemetryBytes r = l at hwin hlen
    show cellRead x.window off = _
    rw [hwin]
    exact cellRead_writeCells_other hw 0x100 l (by omega)

/-- A late task is recorded, and its delay kept. -/
theorem State.completes_backgroundLate (b : BgTask) (n : Nat) : Completes (.backgroundLate b n) s fun t =>
    Records s t evBackgroundLate s.devRef [taskCode b, n] ∧
      t.health.lateTasks = (taskCode b, n) :: s.health.lateTasks.filter (fun p => p.1 ≠ taskCode b) ∧
      { t with recd := s.recd, health := { t.health with lateTasks := s.health.lateTasks } } = s :=
  ⟨_, rfl, State.records_emit _ _ _ _, rfl, rfl⟩

end Sys2Proof.Machine

/-! ### The intake: what its parts leave (R41, R43, R129, R135 to R138, R154, R235, R266) -/

namespace Sys2Proof.Machine
open Sys2Proof.Claims

variable (s : State)

/-- `t` is `s` with samples taken: axes, engines and records have changed. -/
def State.Samples (s t : State) : Prop := ∃ ax se rc, t = { s with axes := ax, sep := se, recd := rc }

theorem State.Samples.refl : s.Samples s := ⟨_, _, _, rfl⟩

theorem State.Samples.trans {s t u : State} (h : s.Samples t) (h' : t.Samples u) : s.Samples u := by
  obtain ⟨ax, se, rc, rfl⟩ := h
  obtain ⟨ax', se', rc', rfl⟩ := h'
  exact ⟨ax', se', rc', rfl⟩

theorem State.samples_modAxis (a : Nat) (f : Axis → Axis) : s.Samples (s.modAxis a f) := ⟨_, _, _, rfl⟩

theorem State.samples_emit (code : Nat) (obj : Word) (args : List Nat) : s.Samples (s.emit code obj args) := ⟨_, _, _, rfl⟩

theorem State.samples_modEng (e : Island) (f : Eng → Eng) : s.Samples (s.modEng e f) := by cases e <;> exact ⟨_, _, _, rfl⟩

/-- An operation that acts only under a condition. -/
theorem State.Samples.ite {s t u : State} {b : Bool} (ht : b = true → s.Samples t) (hu : b = false → s.Samples u) :
    s.Samples (if b then t else u) := by
  cases b
  · exact hu rfl
  · exact ht rfl

/-! #### Samples at the lanes and at the engines -/

theorem State.samples_invalidSample (a cause T : Nat) : s.Samples (s.invalidSample a cause T) :=
  (s.samples_modAxis a _).trans (State.samples_emit _ _ _ _)

theorem State.samples_takeSample (a : Nat) (c : Option Nat) (cause T : Nat) : s.Samples (s.takeSample a c cause T) := by
  cases c with
  | none => exact s.samples_invalidSample ..
  | some c =>
    unfold State.takeSample
    dsimp only
    split
    · exact s.samples_modAxis ..
    · split
      · exact s.samples_invalidSample ..
      · exact s.samples_modAxis ..

theorem State.samples_laneSample (a : Nat) (c : Option Nat) (cause : Nat) : s.Samples (s.laneSample a c cause) := by
  unfold State.laneSample
  split
  · exact s.samples_takeSample ..
  · exact s.samples_modAxis ..

theorem State.samples_engineSample (e : Island) (a : Nat) (c : Option Nat) : s.Samples (s.engineSample e a c) := by
  unfold State.engineSample
  exact s.samples_modEng ..

theorem State.samples_nodeEngineSamples (a n ch : Nat) : s.Samples (s.nodeEngineSamples a n ch) :=
  (s.samples_engineSample .madder a _).trans (State.samples_engineSample _ .woad a _)

theorem State.samples_takeLoad (a : Nat) (c : Option Nat) : s.Samples (s.takeLoad a c) := by
  cases c with
  | none => exact s.samples_modAxis ..
  | some c =>
    unfold State.takeLoad
    dsimp only
    split
    · exact s.samples_modAxis ..
    · exact s.samples_modAxis ..

theorem State.samples_commLost (a cause : Nat) : s.Samples (s.commLost a cause) := by
  unfold State.commLost
  split
  · exact (s.samples_modAxis a _).trans (State.samples_emit _ _ _ _)
  · exact .refl s

theorem State.samples_powerDown (a : Nat) : s.Samples (s.powerDown a) := by
  unfold State.powerDown
  extract_lets t u
  have ht : s.Samples t := by
    simp only [t]
    split
    · exact s.samples_modAxis ..
    · exact .refl s
  split
  · exact ht
  · have hu : s.Samples u := ht.trans (t.samples_commLost a 1)
    split
    · exact hu.trans (u.samples_modAxis ..)
    · exact hu

theorem State.samples_nodeIndex (a : Nat) (w : BitVec 96) : s.Samples (s.nodeIndex a w) := by
  unfold State.nodeIndex
  dsimp only
  split
  · exact .refl s
  · split
    · exact s.samples_emit ..
    · exact s.samples_modAxis ..

theorem State.samples_freshWord (a : Nat) (w : BitVec 96) : s.Samples (s.freshWord a w) := by
  unfold State.freshWord
  extract_lets v on c t1 t2 t3 t4
  have h1 : s.Samples t1 := s.samples_modAxis ..
  have h2 : s.Samples t2 := h1.trans (.ite (fun _ => t1.samples_commLost a 2) fun _ => .refl t1)
  have h3 : s.Samples t3 := h2.trans (.ite (fun _ => t2.samples_powerDown a) fun _ => .refl t2)
  have h4 : s.Samples t4 := h3.trans (t3.samples_laneSample a c 8)
  exact h4.trans (.ite (fun _ => t4.samples_nodeIndex a w) fun _ => .refl t4)

theorem State.samples_nodeAxisIntake (a n ch : Nat) : s.Samples (s.nodeAxisIntake a n ch) := by
  unfold State.nodeAxisIntake
  extract_lets x t1 t2 t3
  have h1 : s.Samples t1 := s.samples_modAxis ..
  have h2 : s.Samples t2 := h1.trans (t1.samples_nodeEngineSamples ..)
  have h3 : s.Samples t3 := h2.trans (.ite (fun _ => t2.samples_laneSample a none 9) fun _ => t2.samples_freshWord a _)
  split
  · exact .refl s
  · exact h3.trans (t3.samples_takeLoad ..)

theorem State.samples_portIndex (a p : Nat) : s.Samples (s.portIndex a p) := by
  unfold State.portIndex
  split
  · exact s.samples_modAxis ..
  · exact .refl s

theorem State.samples_portAxisIntake (a p : Nat) : s.Samples (s.portAxisIntake a p) := by
  unfold State.portAxisIntake
  extract_lets c t1 t2 ok t3
  have h1 : s.Samples t1 := s.samples_modAxis ..
  have h2 : s.Samples t2 :=
    ((h1.trans (t1.samples_engineSample ..)).trans (State.samples_engineSample _ ..)).trans (State.samples_laneSample _ ..)
  have h3 : s.Samples t3 := h2.trans (.ite (fun _ => t2.samples_modAxis ..) fun _ => .refl t2)
  exact h3.trans (.ite (fun _ => t3.samples_portIndex a p) fun _ => .refl t3)

theorem State.samples_staleReport (e : Island) (i : Nat) : s.Samples (s.staleReport e i) := by
  unfold State.staleReport State.modPerson
  exact s.samples_modEng ..

theorem State.samples_takeReport (e : Island) (i : Nat) (rep : Option (List Byte)) : s.Samples (s.takeReport e i rep) := by
  cases rep with
  | none => exact s.samples_staleReport e i
  | some b =>
    unfold State.takeReport State.modPerson
    exact .ite (fun _ => s.samples_modEng ..) fun _ => s.samples_staleReport e i

theorem State.samples_personIntake (r : PersonRec) : s.Samples (s.personIntake r) :=
  (s.samples_takeReport ..).trans (State.samples_takeReport _ ..)

/-! #### Stops that the intake brings -/

theorem State.stops_requestSs1 (axes : List Nat) (scope : Ss1Scope) (obj : Word) (cause t0 : Nat) (d : Bool) :
    s.Stops (s.requestSs1 axes scope obj cause t0 d) := s.stops_modSafety ⟨rfl, rfl, rfl, fun _ => rfl⟩

theorem State.stops_startSs1Axis (t0 : Nat) (covered : List Nat) (a : Nat) : s.Stops (s.startSs1Axis t0 covered a) := by
  unfold State.startSs1Axis
  extract_lets t u
  split
  · exact .refl s
  · exact ((s.stops_stopAxisQueues ..).trans (t.stops_modAxis ..)).trans
      (u.stops_modSafety ⟨rfl, rfl, rfl, fun _ => rfl⟩)

theorem State.stops_beginSs1 (r : Ss1Req) : s.Stops (s.beginSs1 r) := by
  unfold State.beginSs1
  extract_lets t u
  have ht : s.Stops t := s.stops_modSafety ⟨rfl, rfl, rfl, fun _ => rfl⟩
  have hu : s.Stops u := by
    simp only [u]
    split
    · refine ht.trans (t.stops_forEach _ fun v z => ?_)
      split
      · exact .refl v
      · exact ((v.stops_modZone ..).trans (State.stops_emit _ ..)).trans (State.stops_raiseIrq _ 7)
    · exact ht
  exact (hu.trans (u.stops_forEach _ fun v a => v.stops_startSs1Axis ..)).trans (State.stops_pruneSs1 _)

theorem State.stops_beginDueSs1 : s.Stops s.beginDueSs1 := s.stops_forEach _ fun t r => t.stops_beginSs1 r

theorem State.stops_ss1PlaneRead : s.Stops s.ss1PlaneRead := by
  refine s.stops_forEach _ fun u r => ?_
  extract_lets busy zs v
  have hv : u.Stops v := u.stops_forEach _ fun w z => w.stops_modZone ..
  clear_value v zs
  split
  · exact .refl u
  · split
    · exact .refl u
    · exact (hv.trans (v.stops_requestSs1 ..)).trans (State.stops_beginDueSs1 _)

theorem State.stops_captureV0 : s.Stops s.captureV0 := s.stops_modSafety ⟨rfl, rfl, rfl, fun _ => rfl⟩

theorem State.stops_firstIndex (a : Nat) : s.Stops (s.firstIndex a) := by
  unfold State.firstIndex
  dsimp only
  split
  · split
    · exact s.stops_modAxis ..
    · exact .refl s
  · exact .refl s

theorem State.stops_homeIntake (a : Nat) : s.Stops (s.homeIntake a) := by
  unfold State.homeIntake
  extract_lets t x
  have ht : s.Stops t := s.stops_modAxis ..
  split
  · exact ht.trans (t.stops_firstIndex a)
  · split
    · exact ht.trans (t.stops_firstIndex a)
    · split
      · exact ht.trans (t.stops_modAxis ..)
      · split
        · split
          · exact ((ht.trans (t.stops_modAxis ..)).trans (State.stops_modAxis _ ..)).trans (State.stops_homeBrake _ a)
          · exact ht
        · exact ht

/-! #### The intake of the axes, ports and persons -/

/-- `t` is `s` with samples taken and stops begun; the ports are as `ports` has them. -/
def State.Takes (s t : State) : Prop :=
  ∃ ax qs sp po se sf rc hs, t =
    { s with axes := ax, queues := qs, supply := sp, ports := po, sep := se, safety := sf, recd := rc, host := hs }

theorem State.Takes.refl : s.Takes s := ⟨_, _, _, _, _, _, _, _, rfl⟩

theorem State.Takes.trans {s t u : State} (h : s.Takes t) (h' : t.Takes u) : s.Takes u := by
  obtain ⟨ax, qs, sp, po, se, sf, rc, hs, rfl⟩ := h
  obtain ⟨ax', qs', sp', po', se', sf', rc', hs', rfl⟩ := h'
  exact ⟨ax', qs', sp', po', se', sf', rc', hs', rfl⟩

/-- A part of the intake that leaves the ports. -/
def State.TakesBeside (s t : State) : Prop := s.Takes t ∧ t.ports = s.ports

theorem State.TakesBeside.trans {s t u : State} (h : s.TakesBeside t) (h' : t.TakesBeside u) : s.TakesBeside u :=
  ⟨h.1.trans h'.1, h'.2.trans h.2⟩

theorem State.Samples.beside {s t : State} (h : s.Samples t) : s.TakesBeside t := by
  obtain ⟨ax, se, rc, rfl⟩ := h
  exact ⟨⟨_, _, _, _, _, _, _, _, rfl⟩, rfl⟩

theorem State.Stops.beside {s t : State} (h : s.Stops t) : s.TakesBeside t := by
  obtain ⟨sf, ax, qs, sp, rc, hs, rfl, -⟩ := h
  exact ⟨⟨_, _, _, _, _, _, _, _, rfl⟩, rfl⟩

theorem State.takesBeside_forEach {α : Type} (l : List α) {f : State → α → State}
    (h : ∀ (t : State) (a : α), t.TakesBeside (f t a)) : s.TakesBeside (s.forEach l f) :=
  s.forEach_invariant s.TakesBeside l f ⟨.refl s, rfl⟩ fun t a _ ht => ht.trans (h t a)

/-- Whether the intake takes a count from the port (R119, R131). -/
def State.portSkipped (s : State) (p : Nat) : Bool :=
  s.portMode p = pmOff || (s.portMode p = pmOchre && (s.port p).request = 0x3C) ||
    !(if s.ssiAged p then (s.port p).heldBegun else (s.port p).begun)

/-- A port changes at the intake by its own part only. -/
theorem State.portIntake_shape (p : Nat) : s.portIntake p = s ∨ ∃ t f, s.Samples t ∧ s.portIntake p = t.modPort p f := by
  by_cases hskip : s.portSkipped p = true
  · exact .inl (if_pos hskip)
  · refine .inr ⟨s.forEach (s.portAxes p) fun u a => u.portAxisIntake a p, _, ?_, if_neg hskip⟩
    exact s.forEach_invariant s.Samples _ _ (.refl s) fun u a _ hu => hu.trans (u.samples_portAxisIntake a p)

theorem State.takes_portIntake (p : Nat) : s.Takes (s.portIntake p) ∧ ∀ k, k ≠ p → (s.portIntake p).port k = s.port k := by
  obtain h | ⟨t, f, ht, h⟩ := s.portIntake_shape p
  · rw [h]
    exact ⟨.refl s, fun _ _ => rfl⟩
  · obtain ⟨ax, se, rc, rfl⟩ := ht
    rw [h]
    exact ⟨⟨_, _, _, _, _, _, _, _, rfl⟩, fun k hk => (State.modPort_port ..).trans (if_neg hk)⟩

/-- A port that no axis reads: its latch clears, and it is stale without a count. -/
theorem State.portIntake_port {p : Nat} (hax : s.portAxes p = []) (hskip : s.portSkipped p = false) :
    ((s.portIntake p).port p).latch = none ∧ ((s.portIntake p).port p).stale = (s.portCount p).isNone ∧
      ((s.portIntake p).port p).count = (s.port p).count := by
  have h : s.portIntake p = s.modPort p fun y => { y with
      latch := none, stale := (s.portCount p).isNone, consec := if (s.portCount p).isNone then incSat 16 y.consec else 0 } := by
    refine (if_neg (show ¬s.portSkipped p = true by rw [hskip]; decide)).trans ?_
    simp [hax]
  rw [h, State.modPort_port, if_pos rfl]
  exact ⟨rfl, rfl, rfl⟩

theorem State.takes_ports (l : List Nat) : s.Takes (s.forEach l State.portIntake) :=
  s.forEach_invariant s.Takes l _ (.refl s) fun t p _ ht => ht.trans (t.takes_portIntake p).1

/-- What follows the ports leaves them. -/
theorem State.takesBeside_afterPorts (l : List PersonRec) :
    let t := (s.forEach l State.personIntake).ss1PlaneRead.captureV0
    s.TakesBeside (t.forEach (t.axisList.filter fun a => !t.axisAbsent a) State.homeIntake) := by
  extract_lets t
  have ht : s.TakesBeside t :=
    ((s.takesBeside_forEach l fun u r => (u.samples_personIntake r).beside).trans (State.stops_ss1PlaneRead _).beside).trans
      (State.stops_captureV0 _).beside
  exact ht.trans (t.takesBeside_forEach _ fun u a => (u.stops_homeIntake a).beside)

theorem State.Takes.portSkipped {s t : State} (h : s.Takes t) {p : Nat} (hp : t.port p = s.port p) :
    t.portSkipped p = s.portSkipped p ∧ t.portCount p = s.portCount p ∧ t.portAxes p = s.portAxes p := by
  obtain ⟨ax, qs, sp, po, se, sf, rc, hs, rfl⟩ := h
  unfold State.portSkipped State.portCount
  rw [hp]
  exact ⟨rfl, rfl, rfl⟩

/-- What the intake does to a port that no axis reads. -/
def State.PortRead (s t : State) (p : Nat) : Prop :=
  (t.port p).latch = none ∧ (t.port p).stale = (s.portCount p).isNone ∧ (t.port p).count = (s.port p).count

theorem upTo_filter {p : Nat} (hp : p < 16) : ((upTo 16).filter fun k => decide (k = p)) = [p] := by
  have h : ∀ p : Fin 16, ((upTo 16).filter fun k => decide (k = p.val)) = [p.val] := by decide
  exact h ⟨p, hp⟩

theorem State.ports_portRead {p : Nat} (hp : p < 16) (hax : s.portAxes p = []) (hskip : s.portSkipped p = false) :
    s.PortRead (s.forEach (upTo 16) State.portIntake) p := by
  refine (s.forEach_once (P := fun t => s.Takes t ∧ t.port p = s.port p) (Q := fun t => s.PortRead t p) (upTo_filter hp)
    ⟨.refl s, rfl⟩ (fun t k _ hk ht => ?_) (fun t ht => ?_) fun t k _ hk ht => ?_)
  · obtain ⟨htakes, hother⟩ := t.takes_portIntake k
    exact ⟨ht.1.trans htakes, (hother p fun h => of_decide_eq_false hk h.symm).trans ht.2⟩
  · obtain ⟨htakes, hport⟩ := ht
    obtain ⟨hs, hc, ha⟩ := htakes.portSkipped hport
    obtain ⟨hl, hst, hcnt⟩ := t.portIntake_port (ha.trans hax) (hs.trans hskip)
    exact ⟨hl, hst.trans (by rw [hc]), hcnt.trans (by rw [hport])⟩
  · have hsame := (t.takes_portIntake k).2 p fun h => of_decide_eq_false hk h.symm
    unfold State.PortRead at ht ⊢
    rwa [hsame]

/-- After the nodes the intake leaves all but samples and stops, and reads a port that no axis reads; the pairs' view follows. -/
theorem State.intakeOp_spec : ∃ v, s.finishMoves.nodeIntake.Takes v ∧
    (∀ p, p < 16 → s.finishMoves.nodeIntake.portAxes p = [] → s.finishMoves.nodeIntake.portSkipped p = false →
      s.finishMoves.nodeIntake.PortRead v p) ∧
    s.intakeOp = v.intakeWrite.modTick fun x => { x with intakeDone := true } := by
  unfold State.intakeOp
  extract_lets t0 t1 t2 t3 t4 t5
  have h1 : t0.TakesBeside t1 := by
    refine t0.takesBeside_forEach _ fun u a => ?_
    split
    · exact (u.samples_nodeAxisIntake ..).beside
    · exact (State.Samples.refl u).beside
  have h2 : t1.Takes t2 := t1.takes_ports _
  have h3 : t2.TakesBeside t5 := t2.takesBeside_afterPorts t2.sep.kin.persons
  refine ⟨t5, (h1.1.trans h2).trans h3.1, fun p hp hax hskip => ?_, rfl⟩
  have hport : t1.port p = t0.port p := by rw [State.port, h1.2]; rfl
  obtain ⟨hs, hc, ha⟩ := h1.1.portSkipped hport
  obtain ⟨hl, hst, hcnt⟩ := t1.ports_portRead hp (ha.trans hax) (hs.trans hskip)
  have hend : t5.port p = t2.port p := by rw [State.port, h3.2]; rfl
  unfold State.PortRead
  rw [hend]
  exact ⟨hl, hst.trans (by rw [hc]), hcnt.trans (by rw [hport])⟩

/-! #### The intake of the nodes -/

/-- `t` is `s` with the moves of this boundary ended: records, completions, lanes. -/
def State.MovesEnd (s t : State) : Prop :=
  ∃ hl ln rc hs, t = { s with health := hl, lanes := ln, recd := rc, host := hs }

theorem State.MovesEnd.trans {s t u : State} (h : s.MovesEnd t) (h' : t.MovesEnd u) : s.MovesEnd u := by
  obtain ⟨hl, ln, rc, hs, rfl⟩ := h
  obtain ⟨hl', ln', rc', hs', rfl⟩ := h'
  exact ⟨hl', ln', rc', hs', rfl⟩

theorem State.movesEnd_forEach {α : Type} (l : List α) {f : State → α → State} (h : ∀ (t : State) (a : α), t.MovesEnd (f t a)) :
    s.MovesEnd (s.forEach l f) :=
  s.forEach_invariant s.MovesEnd l f ⟨_, _, _, _, rfl⟩ fun t a _ ht => ht.trans (h t a)

theorem State.movesEnd_done (op : Nat) (h : Hdr) (status : Nat) : s.MovesEnd (s.done op h status) :=
  ⟨s.health, s.lanes, s.recd, (s.done op h status).host,
    congrArg (fun t : State => { t with host := (s.done op h status).host }) (s.done_frame op h status)⟩

theorem State.movesEnd_endLoss (l : Nat) : s.MovesEnd (s.endLoss l) := by
  unfold State.endLoss
  extract_lets p host t u
  have ht : s.MovesEnd t := ⟨_, _, _, _, rfl⟩
  have hu : s.MovesEnd u := by
    simp only [u]
    clear_value host t
    cases host with
    | none => exact ht
    | some h => exact ht.trans ⟨_, _, _, _, rfl⟩
  exact hu.trans ⟨_, _, _, _, rfl⟩

theorem State.movesEnd_finishMoves : s.MovesEnd s.finishMoves := by
  unfold State.finishMoves
  extract_lets ms t u lanes v
  have ht : s.MovesEnd t := ⟨_, _, _, _, rfl⟩
  have hu : s.MovesEnd u := ht.trans (t.movesEnd_forEach ms fun x m => by
    have he : x.MovesEnd (x.emit evAxisMigrated (mkRef clsAxis m.axis) [m.fromLane, m.toLane]) := ⟨_, _, _, _, rfl⟩
    split
    · exact he.trans (State.movesEnd_done _ ..)
    · exact he)
  have hv : s.MovesEnd v := hu.trans (u.movesEnd_forEach _ fun x l => ⟨_, _, _, _, rfl⟩)
  exact hv.trans (v.movesEnd_forEach _ State.movesEnd_endLoss)

/-- Why a node's data of this tick is not taken whole: 0 where it is (R266, R271). -/
def NodeSt.staleReason (x : NodeSt) : Nat :=
  if x.buf.isNone then (if x.nullFrame then 2 else 1) else if x.subM.valid && x.subW.valid then 0 else 3

/-- What the intake finds of one node. -/
def State.takeNode (s : State) (n : Nat) : State :=
  if !(s.node n).present || s.tick.no < (s.node n).activeFrom then s
  else s.modNode n fun y => { y with
    stale := decide ((s.node n).staleReason ≠ 0), staleCause := (s.node n).staleReason
    staleCnt := if decide ((s.node n).staleReason ≠ 0) then (if y.staleCnt = 4 then 4 else y.staleCnt + 1) else 0
    staleTicks := if decide ((s.node n).staleReason ≠ 0) then incSat 32 y.staleTicks else y.staleTicks
    subM := { y.subM with missing := if y.subM.valid then 0 else y.subM.missing + 1 }
    subW := { y.subW with missing := if y.subW.valid then 0 else y.subW.missing + 1 } }

theorem State.nodeIntake_eq : s.nodeIntake = s.forEach (s.selide.nodes.map fun p => p.1) State.takeNode := rfl

/-- A node changes only at its own turn. -/
theorem State.takeNode_shape (n : Nat) : ∃ f, s.takeNode n = s.modNode n f ∨ s.takeNode n = s := by
  unfold State.takeNode
  split
  · exact ⟨id, .inr rfl⟩
  · exact ⟨_, .inl rfl⟩

theorem State.takeNode_other {n k : Nat} (h : k ≠ n) : (s.takeNode n).node k = s.node k := by
  obtain ⟨f, hf | hf⟩ := s.takeNode_shape n
  · rw [hf, State.modNode_node, if_neg h]
  · rw [hf]

/-- `t` is `s` with other nodes. -/
def State.NodesOnly (s t : State) : Prop := ∃ se, t = { s with selide := se }

theorem State.nodesOnly_takeNode {s t : State} (h : s.NodesOnly t) (n : Nat) : s.NodesOnly (t.takeNode n) := by
  obtain ⟨se, rfl⟩ := h
  obtain ⟨f, hf | hf⟩ := State.takeNode_shape { s with selide := se } n
  · rw [hf]
    exact ⟨_, rfl⟩
  · rw [hf]
    exact ⟨_, rfl⟩

theorem State.nodesOnly_nodeIntake : s.NodesOnly s.nodeIntake :=
  s.forEach_invariant s.NodesOnly _ _ ⟨_, rfl⟩ fun _ n _ ht => State.nodesOnly_takeNode ht n

/-- A present node of the table is stale exactly for a reason (R266). -/
theorem State.nodeIntake_node {k : Nat} (hone : (s.selide.nodes.filter fun e => e.1 = k).length = 1)
    (hpres : (s.node k).present = true) (hact : (s.node k).activeFrom ≤ s.tick.no) :
    (s.nodeIntake.node k).stale = decide ((s.node k).staleReason ≠ 0) ∧
      (s.nodeIntake.node k).staleCause = (s.node k).staleReason := by
  have hkeys : ((s.selide.nodes.map fun p => p.1).filter fun n => decide (n = k)) = [k] := by
    rw [List.filter_map]
    obtain ⟨e, he⟩ := List.length_eq_one_iff.mp hone
    have hek : e.1 = k := by
      have hmem : e ∈ s.selide.nodes.filter fun e => e.1 = k := he ▸ List.mem_singleton_self _
      exact of_decide_eq_true (List.mem_filter.mp hmem).2
    show (s.selide.nodes.filter fun e => e.1 = k).map (fun p => p.1) = [k]
    rw [he, List.map_singleton, hek]
  rw [s.nodeIntake_eq]
  refine s.forEach_once (P := fun t => s.NodesOnly t ∧ t.node k = s.node k)
    (Q := fun t => (t.node k).stale = decide ((s.node k).staleReason ≠ 0) ∧ (t.node k).staleCause = (s.node k).staleReason)
    hkeys ⟨⟨_, rfl⟩, rfl⟩ (fun t n _ hn ht => ?_) (fun _ ht => ?_) fun t n _ hn ht => ?_
  · exact ⟨State.nodesOnly_takeNode ht.1 n, (t.takeNode_other fun h => of_decide_eq_false hn h.symm).trans ht.2⟩
  · obtain ⟨⟨se, rfl⟩, hnode⟩ := ht
    unfold State.takeNode
    rw [hnode, hpres, if_neg (by simpa using hact), State.modNode_node, if_pos rfl]
    exact ⟨rfl, rfl⟩
  · rwa [t.takeNode_other fun h => of_decide_eq_false hn h.symm]

/-! #### The intake -/

theorem State.exec_intake (hs : s.tick.selide = true) (hi : s.tick.intakeDone = false) : exec .intake s = .next s.intakeOp :=
  congrArg Host.Outcome.next (if_pos (by rw [hs, hi]; rfl))

theorem State.exec_intake_idle (h : s.tick.selide = false ∨ s.tick.intakeDone = true) : exec .intake s = .next s := by
  refine congrArg Host.Outcome.next (if_neg fun hc => ?_)
  simp only [Bool.and_eq_true, Bool.not_eq_true'] at hc
  obtain h | h := h
  · exact Bool.false_ne_true (h.symm.trans hc.1)
  · exact Bool.false_ne_true (hc.2.symm.trans h)

/-- What the intake finds of a node: stale without its data, or without a valid word for each engine (R266). -/
def State.NodeRead (s t : State) (k : Nat) : Prop :=
  ((s.node k).buf = none → (t.node k).stale = true ∧ (t.node k).staleCause = if (s.node k).nullFrame then 2 else 1) ∧
    ((s.node k).buf ≠ none → (t.node k).stale = !((s.node k).subM.valid && (s.node k).subW.valid))

theorem NodeSt.staleReason_of_none {x : NodeSt} (h : x.buf = none) : x.staleReason = if x.nullFrame then 2 else 1 := by
  unfold NodeSt.staleReason
  rw [h, Option.isNone_none, if_pos rfl]

theorem NodeSt.staleReason_of_some {x : NodeSt} (h : x.buf ≠ none) :
    decide (x.staleReason ≠ 0) = !(x.subM.valid && x.subW.valid) := by
  obtain ⟨d, hd⟩ := Option.ne_none_iff_exists'.mp h
  unfold NodeSt.staleReason
  rw [hd, Option.isNone_some, if_neg Bool.false_ne_true]
  cases x.subM.valid && x.subW.valid <;> rfl

theorem State.nodeIntake_nodeRead {k : Nat} (hone : (s.selide.nodes.filter fun e => e.1 = k).length = 1)
    (hpres : (s.node k).present = true) (hact : (s.node k).activeFrom ≤ s.tick.no) : s.NodeRead s.nodeIntake k := by
  obtain ⟨hst, hcause⟩ := s.nodeIntake_node hone hpres hact
  refine ⟨fun hb => ?_, fun hb => hst.trans (NodeSt.staleReason_of_some hb)⟩
  rw [hst, hcause, NodeSt.staleReason_of_none hb]
  cases (s.node k).nullFrame <;> exact ⟨rfl, rfl⟩

/-- The parts of the intake, one after the other, each with what it changes. -/
theorem State.intakeOp_shape {v : State} (hv : s.finishMoves.nodeIntake.Takes v) :
    let t := v.intakeWrite.modTick fun x => { x with intakeDone := true }
    t.tick = { s.tick with intakeDone := true } ∧ t.node = s.finishMoves.nodeIntake.node ∧ t.port = v.port ∧
    { t with
      tick := s.tick, host := s.host, axes := s.axes, queues := s.queues, supply := s.supply, ports := s.ports, sep := s.sep
      safety := s.safety, selide := s.selide, lanes := s.lanes, recd := s.recd, health := s.health, free := s.free } = s := by
  obtain ⟨_, _, _, _, hm⟩ := s.movesEnd_finishMoves
  obtain ⟨_, hn⟩ := s.finishMoves.nodesOnly_nodeIntake
  obtain ⟨_, _, _, _, _, _, _, _, ht⟩ := hv
  obtain ⟨_, _, hw, -⟩ : v.ExtWritten v.intakeWrite := State.extWritten_extWrite ..
  rw [hw, ht, hn, hm]
  exact ⟨rfl, rfl, rfl, rfl⟩

/-- A port that takes a count is not skipped. -/
theorem State.portSkipped_eq_false {p : Nat} (hoff : s.portMode p ≠ pmOff) (hoch : s.portMode p ≠ pmOchre)
    (hbeg : (if s.ssiAged p then (s.port p).heldBegun else (s.port p).begun) = true) : s.portSkipped p = false := by
  unfold State.portSkipped
  rw [hbeg, decide_eq_false hoff, decide_eq_false hoch]
  rfl

theorem State.completes_intake (hs : s.tick.selide = true) (hi : s.tick.intakeDone = false) : Completes .intake s fun t =>
    t.tick = { s.tick with intakeDone := true } ∧
      (∀ k, (s.selide.nodes.filter fun e => e.1 = k).length = 1 → (s.node k).present = true → (s.node k).activeFrom ≤ s.tick.no →
        s.NodeRead t k) ∧
      (∀ p, p < 16 → s.portMode p ≠ pmOff → s.portMode p ≠ pmOchre → s.portAxes p = [] →
        (if s.ssiAged p then (s.port p).heldBegun else (s.port p).begun) = true → s.PortRead t p) ∧
      { t with tick := s.tick, host := s.host, axes := s.axes, queues := s.queues, supply := s.supply, ports := s.ports, sep := s.sep
               safety := s.safety, selide := s.selide, lanes := s.lanes, recd := s.recd, health := s.health, free := s.free } = s := by
  obtain ⟨v, hv, hread, heq⟩ := s.intakeOp_spec
  obtain ⟨htick, hnode, hport, hframe⟩ := s.intakeOp_shape hv
  obtain ⟨hl, ln, rc, ho, hm⟩ := s.movesEnd_finishMoves
  refine ⟨_, (s.exec_intake hs hi).trans (congrArg Host.Outcome.next heq), htick, fun k hone hpres hact => ?_,
    fun p hp hoff hoch hax hbeg => ?_, hframe⟩
  · have hk := s.finishMoves.nodeIntake_nodeRead (k := k)
    unfold State.NodeRead
    rw [hnode]
    rw [hm] at hk ⊢
    exact hk hone hpres hact
  · obtain ⟨se, hn⟩ := s.finishMoves.nodesOnly_nodeIntake
    have hp := hread p hp
    unfold State.PortRead
    rw [hport]
    rw [hn, hm] at hp
    exact hp hax (s.portSkipped_eq_false hoff hoch hbeg)

/-! ### O53 -/

/-- Settles O53: each event's own lemma gives its clause. -/
theorem intakeCutoffAndTelemetry : Obligations.IntakeCutoffAndTelemetry := by
  unfold Obligations.IntakeCutoffAndTelemetry
  intro s r b n hw
  refine ⟨fun h => completes_self (s.exec_shadowCutoff_idle h), s.completes_shadowCutoff hw,
    fun h => completes_self (s.exec_intake_idle h), s.completes_intake, fun hf => completes_self ?_, fun hf hs => ?_,
    s.completes_telemetryWrite hw, s.completes_backgroundLate b n⟩
  · exact congrArg Host.Outcome.next (if_pos (by rw [hf]; rfl))
  · exact ⟨_, s.exec_telemetryWrite r hf, if_pos hs⟩

end Sys2Proof.Machine

/-! ### Feedback faults (R66, R82, R136) -/

namespace Sys2Proof.Machine
open Sys2Proof.Claims

variable (s : State)

theorem State.modAxis_axis_self (a : Nat) (f : Axis → Axis) : (s.modAxis a f).axis a = f (s.axis a) :=
  (s.modAxis_axis a a f).trans (if_pos rfl)

theorem State.modAxis_axis_other {a b : Nat} (f : Axis → Axis) (h : b ≠ a) : (s.modAxis a f).axis b = s.axis b :=
  (s.modAxis_axis a b f).trans (if_neg h)

@[simp] theorem State.emit_axis (code : Nat) (obj : Word) (args : List Nat) (b : Nat) :
    (s.emit code obj args).axis b = s.axis b := rfl

theorem State.commLost_axis_self (a cause : Nat) : (s.commLost a cause).axis a = { s.axis a with commValid := false } := by
  unfold State.commLost
  by_cases h : (s.axis a).commValid = true
  · rw [if_pos h, State.emit_axis, s.modAxis_axis_self]
  · rw [if_neg h, ← Bool.eq_false_iff.mpr h]

theorem State.commLost_axis_other {a b : Nat} (cause : Nat) (hb : b ≠ a) : (s.commLost a cause).axis b = s.axis b := by
  unfold State.commLost
  split
  · rw [State.emit_axis, s.modAxis_axis_other _ hb]
  · rfl

theorem State.commLost_frame (a cause : Nat) : ∃ ax rc, s.commLost a cause = { s with axes := ax, recd := rc } := by
  unfold State.commLost
  split
  · exact ⟨_, _, rfl⟩
  · exact ⟨_, _, rfl⟩

theorem State.queuedEvents_commLost (a cause : Nat) (h : queuedEvents s.recd.queue < 1024) :
    queuedEvents (s.commLost a cause).recd.queue ≤ queuedEvents s.recd.queue + 1 := by
  unfold State.commLost
  split
  · exact (State.queuedEvents_emit (s.modAxis a _) _ _ _ h).le
  · exact Nat.le_succ _

/-- FAULT and HOMED at a feedback fault, before COMM_VALID (R136). -/
def State.feedbackLatched (s : State) (a : Nat) : State :=
  (s.latchFault a).modAxis a fun x => { x with fb := { x.fb with fault := true }, home := { x.home with homed := false } }

theorem State.feedbackLatched_axis_self (a : Nat) : (s.feedbackLatched a).axis a =
    { s.axis a with
      fault := true, fb := { (s.axis a).fb with fault := true }, home := { (s.axis a).home with homed := false } } := by
  simp [State.feedbackLatched, State.latchFault]

theorem State.feedbackLatched_axis_other {a b : Nat} (hb : b ≠ a) : (s.feedbackLatched a).axis b = s.axis b := by
  simp [State.feedbackLatched, State.latchFault, hb]

/-- The state of a feedback fault before SS1 and its record: an absolute source keeps COMM_VALID (R82, R136). -/
def State.feedbackLost (s : State) (a : Nat) : State :=
  if s.sourceAbsolute a then s.feedbackLatched a else (s.feedbackLatched a).commLost a 2

theorem State.feedbackLost_axis_self (a : Nat) : (s.feedbackLost a).axis a =
    { s.axis a with
      fault := true, fb := { (s.axis a).fb with fault := true }, home := { (s.axis a).home with homed := false }
      commValid := (s.axis a).commValid && s.sourceAbsolute a } := by
  unfold State.feedbackLost
  split
  case isTrue h => rw [h, Bool.and_true, s.feedbackLatched_axis_self]
  case isFalse h => rw [Bool.eq_false_iff.mpr h, Bool.and_false, State.commLost_axis_self, s.feedbackLatched_axis_self]

theorem State.feedbackLost_axis_other {a b : Nat} (hb : b ≠ a) : (s.feedbackLost a).axis b = s.axis b := by
  unfold State.feedbackLost
  split
  · exact s.feedbackLatched_axis_other hb
  · exact (State.commLost_axis_other _ 2 hb).trans (s.feedbackLatched_axis_other hb)

theorem State.feedbackLost_frame (a : Nat) : ∃ ax rc, s.feedbackLost a = { s with axes := ax, recd := rc } := by
  unfold State.feedbackLost
  split
  · exact ⟨_, _, rfl⟩
  · obtain ⟨ax, rc, h⟩ := (s.feedbackLatched a).commLost_frame a 2
    exact ⟨ax, rc, h⟩

/-- At most the record of COMM_VALID lost comes before the record of the fault. -/
theorem State.queuedEvents_feedbackLost (a : Nat) (h : queuedEvents s.recd.queue < 1024) :
    queuedEvents (s.feedbackLost a).recd.queue ≤ queuedEvents s.recd.queue + 1 := by
  unfold State.feedbackLost
  split
  · exact Nat.le_succ _
  · exact (s.feedbackLatched a).queuedEvents_commLost a 2 h

theorem State.feedbackFault_eq (a code : Nat) (args : List Nat) :
    s.feedbackFault a code args = ((s.feedbackLost a).faultSs1 a).emit code (mkRef clsAxis a) args := rfl

/-- `t` comes from `s` by a feedback fault of axis `a` with its record `ev`: FAULT, HOMED cleared, COMM_VALID cleared on an
incremental source, SS1 of the axis's arm from the next tick (R136). -/
def State.FeedbackFaulted (s t : State) (a ev : Nat) (args : List Nat) : Prop :=
  (t.axis a).fault = true ∧ (t.axis a).home = { (s.axis a).home with homed := false } ∧
  (t.axis a).commValid = ((s.axis a).commValid && s.sourceAbsolute a) ∧
  (∃ r, t.safety.reqs = s.safety.reqs ++ [r] ∧ r.axes = s.armAxes a ∧ r.t0 = s.tick.no + 1 ∧ r.begun = false) ∧
  RecordsWithin 1 s t ev (mkRef clsAxis a) args ∧ (∀ b, b ≠ a → t.axis b = s.axis b) ∧
  { t with
    axes := s.axes, recd := s.recd
    safety := { t.safety with reqs := s.safety.reqs, nextReq := s.safety.nextReq } } = s

theorem State.feedbackFault_axis_self (a code : Nat) (args : List Nat) :
    (s.feedbackFault a code args).axis a = (s.feedbackLost a).axis a := rfl

theorem State.feedbackFaulted_feedbackFault (a code : Nat) (args : List Nat) :
    s.FeedbackFaulted (s.feedbackFault a code args) a code args := by
  have hself := s.feedbackLost_axis_self a
  refine ⟨congrArg Axis.fault hself, congrArg Axis.home hself, congrArg Axis.commValid hself, ?_, fun hq => ?_,
    fun b hb => s.feedbackLost_axis_other hb, ?_⟩
  · obtain ⟨ax, rc, h⟩ := s.feedbackLost_frame a
    rw [s.feedbackFault_eq, h]
    exact ⟨_, rfl, rfl, rfl, rfl⟩
  · have hroom := (s.queuedEvents_feedbackLost a (Nat.lt_of_succ_lt hq)).trans_lt hq
    have hrec := ((s.feedbackLost a).faultSs1 a).records_emit code (mkRef clsAxis a) args hroom
    obtain ⟨ax, rc, h⟩ := s.feedbackLost_frame a
    rw [s.feedbackFault_eq]
    rw [h] at hrec ⊢
    exact hrec
  · obtain ⟨ax, rc, h⟩ := s.feedbackLost_frame a
    rw [s.feedbackFault_eq, h]
    rfl

/-- A feedback fault just after an update of the axis that leaves HOMED, COMM_VALID and the node word. -/
theorem State.FeedbackFaulted.of_modAxis {s t : State} {a ev : Nat} {args : List Nat} {f : Axis → Axis}
    (h : (s.modAxis a f).FeedbackFaulted t a ev args) (hhome : (f (s.axis a)).home = (s.axis a).home)
    (hcomm : (f (s.axis a)).commValid = (s.axis a).commValid) (hword : (f (s.axis a)).fb.word = (s.axis a).fb.word) :
    s.FeedbackFaulted t a ev args := by
  obtain ⟨hfault, hh, hc, hreq, hrec, hothers, hframe⟩ := h
  have habs : (s.modAxis a f).sourceAbsolute a = s.sourceAbsolute a := by
    unfold State.sourceAbsolute
    rw [s.modAxis_axis_self, hword]
    rfl
  rw [s.modAxis_axis_self, hhome] at hh
  rw [s.modAxis_axis_self, hcomm, habs] at hc
  exact ⟨hfault, hh, hc, hreq, hrec, fun b hb => (hothers b hb).trans (s.modAxis_axis_other f hb),
    congrArg (fun v : State => { v with axes := s.axes }) hframe⟩

/-! #### The third in a row (R66, R136) -/

theorem State.completes_plausFault {a : Nat} (h : (s.axis a).lp.plausRun = 3) : Completes (.plausFault a) s fun t =>
    (t.axis a).lp.plausRun = 4 ∧
      s.FeedbackFaulted t a evPlausFault [argI (satS 32 (s.loadPos a - (s.axis a).lp.posFb))] := by
  let u := s.modAxis a fun y => { y with lp := { y.lp with plausRun := 4 } }
  refine ⟨_, congrArg Host.Outcome.next (if_pos h), ?_, (u.feedbackFaulted_feedbackFault ..).of_modAxis rfl rfl rfl⟩
  rw [State.feedbackFault_axis_self, State.feedbackLost_axis_self, s.modAxis_axis_self]

theorem State.completes_encFault {a : Nat} (hc : 3 ≤ (s.axis a).fb.consec) (hf : (s.axis a).fb.faulted = false) :
    Completes (.encFault a) s fun t => (t.axis a).fb = { (s.axis a).fb with faulted := true, fault := true } ∧
      s.FeedbackFaulted t a evEncFault [1] := by
  let u := s.modAxis a fun x => { x with fb := { x.fb with faulted := true } }
  refine ⟨_, congrArg Host.Outcome.next (if_pos ?_), ?_, (u.feedbackFaulted_feedbackFault ..).of_modAxis rfl rfl rfl⟩
  · simp only [hc, hf, decide_true, Bool.not_false, Bool.and_true]
  · rw [State.feedbackFault_axis_self, State.feedbackLost_axis_self, s.modAxis_axis_self]

theorem State.exec_encFault_idle {a : Nat} (h : (s.axis a).fb.consec < 3 ∨ (s.axis a).fb.faulted = true) :
    exec (.encFault a) s = .next s := by
  refine congrArg Host.Outcome.next (if_neg fun hc => ?_)
  simp only [Bool.and_eq_true, decide_eq_true_eq, Bool.not_eq_true'] at hc
  exact h.elim (Nat.not_lt.mpr hc.1) fun hf => Bool.false_ne_true (hc.2.symm.trans hf)

/-! #### Index checking (R110) -/

/-- IDX_PERIOD of an axis, or one turn of its feedback in counts (R110). -/
def State.indexPeriod (s : State) (a : Nat) : Int := Nat.max 1 (if s.pU 0x3021 a = 0 then s.pU 0x4030 a else s.pU 0x3021 a)

/-- The deviation of an index at `c` from the first one at `cH`, less the corrections made since (R110). -/
def State.indexDev (s : State) (a : Nat) (c cH : Int) : Int := devOf (c + (s.axis a).home.idxCorr) cH (s.indexPeriod a)

theorem State.exec_indexCheck {a : Nat} {c : Int} (hi : (s.axis a).fb.idx = some c) (hon : s.pU 0x3022 a = 1)
    (hh : (s.axis a).home.homed = true) : exec (.indexCheck a) s = .next (s.indexCheckOp a c) := by
  show execIndexCheck a s = _
  unfold execIndexCheck
  dsimp only
  rw [hi]
  exact congrArg Host.Outcome.next (if_pos ⟨hon, hh⟩)

theorem State.exec_indexCheck_idle {a : Nat}
    (h : (s.axis a).fb.idx = none ∨ s.pU 0x3022 a ≠ 1 ∨ (s.axis a).home.homed = false) :
    exec (.indexCheck a) s = .next s := by
  show execIndexCheck a s = _
  unfold execIndexCheck
  dsimp only
  split
  case h_1 c hi =>
    refine congrArg Host.Outcome.next (if_neg fun hc => ?_)
    obtain hn | hoff | hh := h
    · exact Option.some_ne_none c (hi.symm.trans hn)
    · exact hoff hc.1
    · exact Bool.false_ne_true (hh.symm.trans hc.2)
  case h_2 => rfl

/-- The index has been taken from the axis. -/
def State.indexTaken (s : State) (a : Nat) : State := s.modAxis a fun x => { x with fb := { x.fb with idx := none } }

theorem State.indexCheckOp_first {a : Nat} {c : Int} (hc : (s.axis a).home.cH = none) :
    s.indexCheckOp a c = s.indexTaken a := by
  unfold State.indexCheckOp
  dsimp only
  rw [hc]
  rfl

theorem State.indexCheckOp_near {a : Nat} {c cH : Int} (hc : (s.axis a).home.cH = some cH)
    (hd : (s.indexDev a c cH).natAbs ≤ s.pU 0x3020 a) :
    s.indexCheckOp a c =
      ((s.indexTaken a).modHome a fun x => { x with idxDev := s.indexDev a c cH }).modHome a fun x =>
        { x with idxMiss := 0, idxShift := -s.indexDev a c cH } := by
  unfold State.indexCheckOp
  dsimp only
  rw [hc]
  exact if_pos hd

theorem State.indexCheckOp_far {a : Nat} {c cH : Int} (hc : (s.axis a).home.cH = some cH)
    (hd : s.pU 0x3020 a < (s.indexDev a c cH).natAbs) :
    s.indexCheckOp a c =
      (((s.indexTaken a).modHome a fun x => { x with idxDev := s.indexDev a c cH }).modHome a fun x =>
        { x with idxMiss := min 3 ((s.axis a).home.idxMiss + 1) }).emit evIdxMismatch (mkRef clsAxis a)
          [argI (s.indexDev a c cH), min 3 ((s.axis a).home.idxMiss + 1)] := by
  unfold State.indexCheckOp
  dsimp only
  rw [hc]
  exact if_neg (Nat.not_le.mpr hd)

/-- An index of an axis that has none to hold it against. -/
theorem State.completes_indexCheck_first {a : Nat} {c : Int} (hi : (s.axis a).fb.idx = some c) (hon : s.pU 0x3022 a = 1)
    (hh : (s.axis a).home.homed = true) (hc : (s.axis a).home.cH = none) : Completes (.indexCheck a) s fun t =>
      t.axis a = { s.axis a with fb := { (s.axis a).fb with idx := none } } ∧ (∀ b, b ≠ a → t.axis b = s.axis b) ∧
        { t with axes := s.axes } = s := by
  exact ⟨_, (s.exec_indexCheck hi hon hh).trans (congrArg _ (s.indexCheckOp_first hc)), s.modAxis_axis_self a _,
    fun b hb => s.modAxis_axis_other _ hb, rfl⟩

/-- A small deviation is to be corrected in the next tick (R110). -/
theorem State.completes_indexCheck_near {a : Nat} {c cH : Int} (hi : (s.axis a).fb.idx = some c) (hon : s.pU 0x3022 a = 1)
    (hh : (s.axis a).home.homed = true) (hc : (s.axis a).home.cH = some cH)
    (hd : (s.indexDev a c cH).natAbs ≤ s.pU 0x3020 a) : Completes (.indexCheck a) s fun t =>
      t.axis a = { s.axis a with
        fb := { (s.axis a).fb with idx := none }
        home := { (s.axis a).home with idxDev := s.indexDev a c cH, idxMiss := 0, idxShift := -s.indexDev a c cH } } ∧
        (∀ b, b ≠ a → t.axis b = s.axis b) ∧ { t with axes := s.axes } = s := by
  refine ⟨_, (s.exec_indexCheck hi hon hh).trans (congrArg _ (s.indexCheckOp_near hc hd)), ?_, fun b hb => ?_, rfl⟩
  · simp [State.modHome, State.indexTaken]
  · simp [State.modHome, State.indexTaken, hb]

/-- A larger deviation counts and is recorded (R110). -/
theorem State.completes_indexCheck_far {a : Nat} {c cH : Int} (hi : (s.axis a).fb.idx = some c) (hon : s.pU 0x3022 a = 1)
    (hh : (s.axis a).home.homed = true) (hc : (s.axis a).home.cH = some cH)
    (hd : s.pU 0x3020 a < (s.indexDev a c cH).natAbs) : Completes (.indexCheck a) s fun t =>
      t.axis a = { s.axis a with
        fb := { (s.axis a).fb with idx := none }
        home := { (s.axis a).home with idxDev := s.indexDev a c cH, idxMiss := min 3 ((s.axis a).home.idxMiss + 1) } } ∧
        Records s t evIdxMismatch (mkRef clsAxis a)
          [argI (s.indexDev a c cH), min 3 ((s.axis a).home.idxMiss + 1)] ∧
        (∀ b, b ≠ a → t.axis b = s.axis b) ∧ { t with axes := s.axes, recd := s.recd } = s := by
  refine ⟨_, (s.exec_indexCheck hi hon hh).trans (congrArg _ (s.indexCheckOp_far hc hd)), ?_,
    State.records_emit _ _ _ _, fun b hb => ?_, rfl⟩
  · simp [State.modHome, State.indexTaken]
  · simp [State.modHome, State.indexTaken, hb]

theorem State.exec_idxFault_idle {a : Nat} (h : (s.axis a).home.homed = false ∨ (s.axis a).home.idxMiss ≠ 3) :
    exec (.idxFault a) s = .next s := by
  refine congrArg Host.Outcome.next (if_neg fun hc => ?_)
  simp only [Bool.and_eq_true, decide_eq_true_eq] at hc
  exact h.elim (fun hh => Bool.false_ne_true (hh.symm.trans hc.1)) fun hm => hm hc.2

/-- The third deviation in a row is a feedback fault (R110, R136). -/
theorem State.completes_idxFault {a : Nat} (hh : (s.axis a).home.homed = true) (hm : (s.axis a).home.idxMiss = 3) :
    Completes (.idxFault a) s fun t => s.FeedbackFaulted t a evIdxFault [argI (s.axis a).home.idxDev] := by
  refine ⟨_, congrArg Host.Outcome.next (if_pos ?_), s.feedbackFaulted_feedbackFault ..⟩
  simp only [hh, hm, decide_true, Bool.and_true]

/-- Settles O55: the three faults are one operation, `feedbackFault`; an index check has an outcome for each deviation. -/
theorem feedbackAndIndexFaults : Obligations.FeedbackAndIndexFaults := by
  unfold Obligations.FeedbackAndIndexFaults
  refine ⟨fun s a => ?_, fun s a => ?_⟩
  · exact ⟨s.completes_plausFault, fun h => completes_self (congrArg Host.Outcome.next (if_neg h)),
      s.completes_encFault, fun h => completes_self (s.exec_encFault_idle h)⟩
  · refine ⟨fun h => completes_self (s.exec_indexCheck_idle h), fun c hi hon hh => ?_,
      fun h => completes_self (s.exec_idxFault_idle h), s.completes_idxFault⟩
    exact ⟨s.completes_indexCheck_first hi hon hh, fun cH hc =>
      ⟨s.completes_indexCheck_near hi hon hh hc, s.completes_indexCheck_far hi hon hh hc⟩⟩

end Sys2Proof.Machine

/-! ### Closing through a soft start (R81) -/

namespace Sys2Proof.Machine
open Sys2Proof.Claims

variable (s : State)

theorem State.exec_loopClose {a : Nat} (h : s.closeDue a = true) : exec (.loopClose a) s = .next (s.closeLoop a) :=
  congrArg Host.Outcome.next (if_pos h)

/-- The origin of a PULSE source is no part of the PID terms. -/
theorem State.pulseOrigin_iPid (a : Nat) : ((s.pulseOrigin a).axis a).lp.iPid = (s.axis a).lp.iPid := by
  unfold State.pulseOrigin
  split
  · rw [s.modAxis_axis_self]
  · rfl

/-- With no error to begin with, a soft start presets i_pid to the hold torque as an accumulator holds it (R81, R311). -/
theorem State.closeLoop_holding_iPid {a : Nat} (hh : s.holding a = true) (hp : s.closePos a = (s.axis a).fb.posNew) :
    ((s.closeLoop a).axis a).lp.iPid = acc80 (tq ((s.axis a).uHold.getD (s.pI 0x1020 a))) := by
  have he : satS 32 ((s.axis a).fb.posNew - s.closePos a) = 0 := by
    rw [hp, Int.sub_self]
    rfl
  rw [State.closeLoop, if_pos hh, State.pulseOrigin_iPid, State.closeHolding, State.modAxis_axis_self, State.closeOnRef,
    State.modAxis_axis_self]
  simp only [Axis.closeOn, he, pTerm, Int.mul_zero, Int.zero_mul, Int.sub_zero]

/-- Load-holding axis 0, at the position where it closes in this tick, with a hold torque of 2³¹. -/
def heavyLoadCloses : State :=
  { power := { phase := 4 }
    cell := { axes := [⟨0, mkRef clsPort 0, 0, 0, 0, true⟩] }
    tick := { intakeDone := true }
    axes := [(0, { psEn := true, commValid := true, uHold := some (2 ^ 31) })]
    safety := { img := { zones := [⟨0, false, [mkRef clsAxis 0]⟩] }, armed := true, zones := [(0, { runM := true, runW := true })] } }

/-- Refutes O48: the statement asks for i_pid = u_hold whatever u_hold is, while i_pid saturates at 80 bits (R311), which a torque
of 2³¹ is the first to reach. No step leaves such a u_hold, the mean of u_out in Q1.15 (R81), but the statement does not ask for the
format. -/
theorem not_loopsCloseAndAlign : ¬ Obligations.LoopsCloseAndAlign := by
  unfold Obligations.LoopsCloseAndAlign
  intro hall
  obtain ⟨-, -, hholding, -⟩ := hall heavyLoadCloses 0
  have hdue : heavyLoadCloses.closeDue 0 = true := by decide +kernel
  have hhold : heavyLoadCloses.holding 0 = true := by decide +kernel
  have hpos : heavyLoadCloses.closePos 0 = (heavyLoadCloses.axis 0).fb.posNew := by decide +kernel
  obtain ⟨t, ht, -, -, -, -, -, -, -, hpreset, -⟩ := hholding hdue hhold
  obtain rfl : heavyLoadCloses.closeLoop 0 = t :=
    Host.Outcome.next.inj ((heavyLoadCloses.exec_loopClose hdue).symm.trans ht)
  have hsat : acc80 (tq (2 ^ 31)) = tq (2 ^ 31) :=
    (heavyLoadCloses.closeLoop_holding_iPid hhold hpos).symm.trans (hpreset hpos)
  exact absurd hsat (by decide +kernel)

end Sys2Proof.Machine

/-! ### Motion: what an operation on one queue leaves (R92 to R101, R112) -/

namespace Sys2Proof.Machine
open Sys2Proof.Claims

variable (s : State)

/-- `t` comes from `s` by motion: axes, queues, supply and records have changed, and no record is lost. -/
structure State.Moves (s t : State) : Prop where
  frame : { t with axes := s.axes, queues := s.queues, supply := s.supply, recd := s.recd } = s
  events : ∀ e ∈ s.recd.queue, e.IsEv → e ∈ t.recd.queue

/-- `t` comes from `s` by motion of queue `q` alone, and homing goes on as it was. -/
structure State.Runs (q : Word) (s t : State) : Prop extends State.Moves s t where
  others : ∀ k : Word, k ≠ q → t.queue k = s.queue k
  home : ∀ a, (t.axis a).home = (s.axis a).home

/-- `t` comes from `s` by motion that comes to its end: an empty queue stays empty, nothing is paid and no request joins. -/
structure State.Stills (s t : State) : Prop extends State.Moves s t where
  levels : t.supply.levels = s.supply.levels
  reqs : ∀ r ∈ t.supply.reqs, r ∈ s.supply.reqs
  empty : ∀ k : Word, (s.queue k).segs = [] → (t.queue k).segs = []

/-- The motion of queue `q` alone comes to its end. -/
structure State.Brakes (q : Word) (s t : State) : Prop extends State.Runs q s t, State.Stills s t

theorem State.Moves.refl : s.Moves s := ⟨rfl, fun _ he _ => he⟩

theorem State.Moves.trans {s t u : State} (h : s.Moves t) (h' : t.Moves u) : s.Moves u :=
  ⟨(congrArg (fun v : State => { v with axes := s.axes, queues := s.queues, supply := s.supply, recd := s.recd }) h'.frame).trans
    h.frame, fun e he hev => h'.events e (h.events e he hev) hev⟩

theorem State.Runs.refl (q : Word) : s.Runs q s := ⟨.refl s, fun _ _ => rfl, fun _ => rfl⟩

theorem State.Runs.trans {q : Word} {s t u : State} (h : s.Runs q t) (h' : t.Runs q u) : s.Runs q u :=
  ⟨h.toMoves.trans h'.toMoves, fun k hk => (h'.others k hk).trans (h.others k hk), fun a => (h'.home a).trans (h.home a)⟩

theorem State.Stills.refl : s.Stills s := ⟨.refl s, rfl, fun _ hr => hr, fun _ hk => hk⟩

theorem State.Stills.trans {s t u : State} (h : s.Stills t) (h' : t.Stills u) : s.Stills u :=
  ⟨h.toMoves.trans h'.toMoves, h'.levels.trans h.levels, fun r hr => h.reqs r (h'.reqs r hr),
    fun k hk => h'.empty k (h.empty k hk)⟩

theorem State.Brakes.refl (q : Word) : s.Brakes q s := ⟨.refl s q, rfl, fun _ hr => hr, fun _ hk => hk⟩

theorem State.Brakes.trans {q : Word} {s t u : State} (h : s.Brakes q t) (h' : t.Brakes q u) : s.Brakes q u :=
  ⟨h.toRuns.trans h'.toRuns, (h.toStills.trans h'.toStills).levels, (h.toStills.trans h'.toStills).reqs,
    (h.toStills.trans h'.toStills).empty⟩

theorem State.moves_forEach {α : Type} (l : List α) {f : State → α → State} (h : ∀ (t : State) (a : α), t.Moves (f t a)) :
    s.Moves (s.forEach l f) := s.forEach_invariant s.Moves l f (.refl s) fun t a _ ht => ht.trans (h t a)

theorem State.stills_forEach {α : Type} (l : List α) {f : State → α → State} (h : ∀ (t : State) (a : α), t.Stills (f t a)) :
    s.Stills (s.forEach l f) := s.forEach_invariant s.Stills l f (.refl s) fun t a _ ht => ht.trans (h t a)

theorem State.brakes_forEach {α : Type} (q : Word) (l : List α) {f : State → α → State}
    (h : ∀ (t : State) (a : α), t.Brakes q (f t a)) : s.Brakes q (s.forEach l f) :=
  s.forEach_invariant (s.Brakes q) l f (.refl s q) fun t a _ ht => ht.trans (h t a)

/-! #### What motion leaves -/

section
variable {s} {t : State} (h : s.Moves t)
include h

theorem State.Moves.host : t.host = s.host := (congrArg State.host h.frame :)
theorem State.Moves.tick : t.tick = s.tick := (congrArg State.tick h.frame :)
theorem State.Moves.health : t.health = s.health := (congrArg State.health h.frame :)
theorem State.Moves.par : t.par = s.par := (congrArg State.par h.frame :)
theorem State.Moves.cell : t.cell = s.cell := (congrArg State.cell h.frame :)

theorem State.Moves.noOrphan (ho : s.NoOrphan) : t.NoOrphan := fun e he => ho e (h.host ▸ he)

theorem State.Moves.answered_done (op : Nat) (c : Hdr) (status : Nat) : Answered s (t.done op c status) c status :=
  State.answered_done op c status h.noOrphan (congrArg TickSt.cycle h.tick)

/-- An event that was recorded on the way stays recorded. -/
theorem State.Moves.records {r : State} {code : Nat} {obj : Word} {args : List Nat} (hr : Records r s code obj args) :
    Records r t code obj args := fun hq => h.events _ (hr hq) trivial

/-- An event after motion that has recorded none. -/
theorem State.Moves.records_after {r : State} {code : Nat} {obj : Word} {args : List Nat} (hrecd : t.recd = s.recd)
    (hr : Records t r code obj args) : Records s r code obj args := by
  obtain ⟨hf, -⟩ := h
  rw [← hrecd] at hf
  exact (congrArg (fun v : State => Records v r code obj args) hf :) ▸ hr

theorem State.Moves.frame_supply (hs : t.supply = s.supply) :
    { t with axes := s.axes, queues := s.queues, recd := s.recd } = s := by
  obtain ⟨hf, -⟩ := h
  rw [← hs] at hf
  exact hf
end

/-! #### Accessors -/

theorem State.modQueue_queue_self (q : Word) (f : Queue → Queue) : (s.modQueue q f).queue q = f (s.queue q) :=
  (s.modQueue_queue q q f).trans (if_pos rfl)

theorem State.modQueue_queue_other {q k : Word} (f : Queue → Queue) (h : k ≠ q) : (s.modQueue q f).queue k = s.queue k :=
  (s.modQueue_queue q k f).trans (if_neg fun he => h (BitVec.eq_of_toNat_eq he))

theorem State.modAxis_home {f : Axis → Axis} (h : ∀ x, (f x).home = x.home) (a b : Nat) :
    ((s.modAxis a f).axis b).home = (s.axis b).home := by
  rw [s.modAxis_axis]
  split
  · subst_vars; exact h _
  · rfl

theorem State.moves_modAxis (a : Nat) (f : Axis → Axis) : s.Moves (s.modAxis a f) := ⟨rfl, fun _ he _ => he⟩

/-- A change of an axis that homing does not see. -/
theorem State.brakes_modAxis (q : Word) (a : Nat) {f : Axis → Axis} (h : ∀ x, (f x).home = x.home) :
    s.Brakes q (s.modAxis a f) :=
  ⟨⟨s.moves_modAxis a f, fun _ _ => rfl, fun b => s.modAxis_home h a b⟩, rfl, fun _ hr => hr, fun _ hk => hk⟩

theorem State.stills_modAxis (a : Nat) (f : Axis → Axis) : s.Stills (s.modAxis a f) :=
  ⟨s.moves_modAxis a f, rfl, fun _ hr => hr, fun _ hk => hk⟩

theorem State.runs_modQueue (q : Word) (f : Queue → Queue) : s.Runs q (s.modQueue q f) :=
  ⟨⟨rfl, fun _ he _ => he⟩, fun _ hk => s.modQueue_queue_other f hk, fun _ => rfl⟩

/-- A change of a queue that leaves it empty where it was. -/
theorem State.brakes_modQueue (q : Word) {f : Queue → Queue} (h : ∀ x, x.segs = [] → (f x).segs = []) :
    s.Brakes q (s.modQueue q f) := by
  refine ⟨s.runs_modQueue q f, rfl, fun _ hr => hr, fun k hk => ?_⟩
  by_cases hkq : k = q
  · subst hkq
    rw [s.modQueue_queue_self]
    exact h _ hk
  · rw [s.modQueue_queue_other f hkq]
    exact hk

theorem State.brakes_emit (q : Word) (code : Nat) (obj : Word) (args : List Nat) : s.Brakes q (s.emit code obj args) :=
  ⟨⟨⟨rfl, fun _ he hev => s.emit_keeps he hev⟩, fun _ _ => rfl, fun _ => rfl⟩, rfl, fun _ hr => hr, fun _ hk => hk⟩

theorem State.runs_modSupply (q : Word) (f : SupplySt → SupplySt) : s.Runs q (s.modSupply f) :=
  ⟨⟨rfl, fun _ he _ => he⟩, fun _ _ => rfl, fun _ => rfl⟩

/-! #### Ends of motion -/

theorem State.brakes_outcome (q : Word) (g : Seg) (oc : Nat) : s.Brakes q (s.outcome q g oc) := by
  unfold State.outcome
  extract_lets t
  have ht : s.Brakes q t := s.brakes_modQueue q fun _ hx => hx
  split
  · exact .refl s q
  · split
    · exact ht.trans (t.brakes_emit ..)
    · exact ht

theorem State.brakes_outcomes (q : Word) (l : List Seg) (oc : Nat) : s.Brakes q (s.outcomes q l oc) :=
  s.brakes_forEach q l fun t g => t.brakes_outcome q g oc

/-- The axes of a queue at rest hold where the nullspace offset has left them (R93). -/
def State.foldOffs (s : State) (axes : List Nat) : State :=
  s.forEach axes fun t a => t.modAxis a fun y => { y with lp := y.lp.foldOff }

theorem State.settleQueue_cases (q : Word) : s.settleQueue q = s ∨
    s.settleQueue q = (s.foldOffs (s.queue q).drove).modQueue q fun y => { y with drove := [] } := by
  unfold State.settleQueue
  extract_lets x
  split
  · exact .inr rfl
  · exact .inl rfl

/-- Axes that were bound to a queue are free. -/
def State.unbind (s : State) (q : Word) (axes : List Nat) : State :=
  s.forEach axes fun t a => t.modAxis a fun x => if x.bound = some q then { x with bound := none } else x

theorem State.releaseAxes_eq (q : Word) (axes : List Nat) : s.releaseAxes q axes =
    ((s.unbind q axes).modQueue q fun y => { y with drove := dedup (y.drove ++ axes) }).settleQueue q := rfl

theorem State.brakes_foldOffs (q : Word) (axes : List Nat) : s.Brakes q (s.foldOffs axes) :=
  s.brakes_forEach q axes fun t a => t.brakes_modAxis q a fun _ => rfl

theorem State.brakes_settleQueue (q : Word) : s.Brakes q (s.settleQueue q) := by
  obtain h | h := s.settleQueue_cases q
  · rw [h]
    exact .refl s q
  · rw [h]
    exact (s.brakes_foldOffs q _).trans (State.brakes_modQueue _ q fun _ hx => hx)

theorem State.brakes_unbind (q : Word) (axes : List Nat) : s.Brakes q (s.unbind q axes) :=
  s.brakes_forEach q axes fun t a => t.brakes_modAxis q a fun x => by split <;> rfl

theorem State.brakes_releaseAxes (q : Word) (axes : List Nat) : s.Brakes q (s.releaseAxes q axes) := by
  rw [s.releaseAxes_eq]
  refine ((s.brakes_unbind q axes).trans (State.brakes_modQueue _ q ?_)).trans (State.brakes_settleQueue _ q)
  exact fun _ hx => hx

theorem State.brakes_dropReqs (q : Word) (p : SupReq → Bool) :
    s.Brakes q (s.modSupply fun y => { y with reqs := y.reqs.filter p }) :=
  ⟨s.runs_modSupply q _, rfl, fun _ hr => (List.mem_filter.mp hr).1, fun _ hk => hk⟩

/-- A queue without its segments, before their outcomes. -/
def State.emptyQueue (s : State) (q : Word) : State :=
  s.modQueue q fun y => { y with segs := [], plan := none, waiting := false, halting := false }

/-- The outcomes of the segments that a queue drops. -/
def State.dropOutcomes (s : State) (q : Word) (oc : Nat) : List Seg → State
  | [] => s
  | g :: r => (s.outcome q g oc).outcomes q r ocFlushed

theorem State.dropQueue_eq (q : Word) (oc : Nat) :
    s.dropQueue q oc = (((s.emptyQueue q).dropOutcomes q oc (s.queue q).segs).releaseAxes q (s.boundAxes q)).modSupply fun y =>
      { y with reqs := y.reqs.filter fun r => r.kind ≠ .start q } := by
  unfold State.dropQueue
  dsimp only
  generalize (s.queue q).segs = l
  cases l with
  | nil => rfl
  | cons g r => rfl

theorem State.brakes_dropOutcomes (q : Word) (oc : Nat) (l : List Seg) : s.Brakes q (s.dropOutcomes q oc l) := by
  cases l with
  | nil => exact .refl s q
  | cons g r => exact (s.brakes_outcome q g oc).trans (State.brakes_outcomes _ q r _)

theorem State.brakes_dropQueue_emptied (q : Word) (oc : Nat) : (s.emptyQueue q).Brakes q (s.dropQueue q oc) := by
  rw [s.dropQueue_eq]
  exact ((State.brakes_dropOutcomes _ q oc _).trans (State.brakes_releaseAxes _ q _)).trans (State.brakes_dropReqs _ q _)

theorem State.brakes_dropQueue (q : Word) (oc : Nat) : s.Brakes q (s.dropQueue q oc) :=
  (s.brakes_modQueue q fun _ _ => rfl).trans (s.brakes_dropQueue_emptied q oc)

theorem State.brakes_recordKept (q : Word) (g : Seg) (p p' : Plan) : s.Brakes q (s.recordKept q g p p') := by
  unfold State.recordKept
  split
  · exact s.brakes_emit q ..
  · exact .refl s q

theorem State.brakes_markKept (q : Word) (axes : List Nat) (k : Bool) : s.Brakes q (s.markKept axes k) :=
  s.brakes_forEach q axes fun t a => t.brakes_modAxis q a fun _ => rfl

theorem State.brakes_brakeQueue (halt : Bool) (q : Word) : s.Brakes q (s.brakeQueue halt q) := by
  unfold State.brakeQueue
  extract_lets x
  split
  · rename_i g rest p hsegs _
    extract_lets t p1 u v
    have hu : s.Brakes q u := (s.brakes_outcomes ..).trans (t.brakes_recordKept ..)
    have hv : s.Brakes q v := by
      simp only [v]
      split
      · exact hu.trans (u.brakes_markKept ..)
      · exact hu
    refine ⟨hv.toRuns.trans (v.runs_modQueue q _), hv.levels, hv.reqs, fun k hk => ?_⟩
    by_cases hkq : k = q
    · subst hkq
      rw [show (s.queue k).segs = g :: rest from hsegs] at hk
      cases hk
    · rw [v.modQueue_queue_other _ hkq, hv.others k hkq]
      exact hk
  · exact s.brakes_dropQueue ..
  · exact .refl s q

theorem State.brakes_homeBrake (a : Nat) : s.Brakes (mkRef clsAxis a) (s.homeBrake a) := by
  unfold State.homeBrake
  extract_lets q
  split
  · exact s.brakes_brakeQueue ..
  · exact .refl s q

theorem State.stills_homeFail (a : Nat) : s.Stills (s.homeFail a) := by
  unfold State.homeFail
  split
  · exact .refl s
  · refine s.stills_forEach _ fun t b => ?_
    extract_lets u
    have hu : t.Stills u := (t.brakes_homeBrake b).toStills
    split
    · exact hu
    · exact hu.trans (u.stills_modAxis ..)

theorem State.brakes_holdEnd (q : Word) (g : Seg) (p : Plan) (tau : Rat) : s.Brakes q (s.holdEnd g p tau) :=
  s.brakes_forEach q _ fun t e => t.brakes_modAxis q e.1 fun _ => rfl

/-! #### Starts -/

theorem State.runs_retireHead (q : Word) (g : Seg) (rest : List Seg) (oc : Nat) : s.Runs q (s.retireHead q g rest oc) :=
  (s.runs_modQueue q _).trans (State.brakes_outcome _ q g oc).toRuns

theorem State.runs_beginSegments (n : Nat) (q : Word) (tau0 : Rat) : s.Runs q (State.beginSegments n s q tau0) := by
  induction n generalizing s with
  | zero => exact .refl s q
  | succ n ih =>
    unfold State.beginSegments
    split
    case h_1 => exact .refl s q
    case h_2 g rest _ =>
      extract_lets starts t p u v
      have ht : s.Runs q t := s.runs_modQueue q _
      have hu : s.Runs q u := (ht.trans (t.runs_modQueue q _)).trans (State.brakes_markKept _ q ..).toRuns
      have hv : s.Runs q v := hu.trans (u.runs_retireHead ..)
      split
      · split
        · exact hu
        · split
          · exact hv.trans (ih v)
          · split
            · exact hv.trans (v.brakes_releaseAxes ..).toRuns
            · exact hv
      · exact ht.trans (t.brakes_dropQueue ..).toRuns

theorem State.runs_beginSegment (q : Word) (tau0 : Rat) : s.Runs q (s.beginSegment q tau0) := s.runs_beginSegments _ q tau0

theorem State.runs_joinStart (q : Word) (costs : List (Nat × Nat)) : s.Runs q (s.joinSupply (.start q) costs) := by
  unfold State.joinSupply
  extract_lets r blocked
  split
  · exact (s.runs_modSupply q _).trans (State.runs_beginSegment _ q _)
  · exact s.runs_modSupply q _

theorem State.moves_tryStart (q : Word) : s.Moves (s.tryStart q) := by
  unfold State.tryStart
  split
  · exact .refl s
  · extract_lets costs
    split
    · exact (s.brakes_dropQueue ..).toMoves.trans (State.moves_forEach _ _ fun t b => (t.stills_homeFail b).toMoves)
    · exact ((s.runs_modQueue q _).trans (State.runs_joinStart _ q costs)).toMoves

theorem State.runs_endOne (q : Word) : s.Runs q (s.endOne q) := by
  unfold State.endOne
  extract_lets x
  split
  · extract_lets blend excess t
    have ht : s.Runs q t := (s.brakes_holdEnd q ..).toRuns.trans (State.runs_retireHead _ ..)
    split
    · exact ht.trans (t.runs_beginSegment ..)
    · split
      · exact ht.trans (t.brakes_releaseAxes ..).toRuns
      · exact ht
  · exact .refl s q

theorem State.runs_endSegments (n : Nat) (q : Word) : s.Runs q (State.endSegments n s q) := by
  induction n generalizing s with
  | zero => exact .refl s q
  | succ n ih =>
    unfold State.endSegments
    split
    · exact (s.runs_endOne q).trans (ih _)
    · exact .refl s q

end Sys2Proof.Machine

/-! ### Queues and axes after an operation (R92 to R95, R112) -/

namespace Sys2Proof.Machine
open Sys2Proof.Claims

variable (s : State)

/-! #### Axes of a fold -/

/-- What the round of one element establishes, and the rounds of the other elements keep, holds after the fold. -/
theorem State.forEach_reaches {α : Type} (Q : State → Prop) {l : List α} {f : State → α → State} {a : α} (ha : a ∈ l)
    (h : ∀ t, Q (f t a)) (hQ : ∀ t, ∀ b ∈ l, Q t → Q (f t b)) : Q (s.forEach l f) := by
  induction l generalizing s with
  | nil => cases ha
  | cons b l ih =>
    rw [State.forEach_cons]
    by_cases hb : a ∈ l
    · exact ih _ hb fun t c hc => hQ t c (List.mem_cons_of_mem _ hc)
    · obtain rfl : a = b := (List.mem_cons.mp ha).resolve_right hb
      exact (f s a).forEach_invariant Q l f (h s) fun t c hc => hQ t c (List.mem_cons_of_mem _ hc)

/-- A fold of one update for each axis leaves the others. -/
theorem State.forEach_modAxis_other (l : List Nat) (f : Nat → Axis → Axis) {b : Nat} (hb : b ∉ l) :
    (s.forEach l fun t a => t.modAxis a (f a)).axis b = s.axis b :=
  s.forEach_keeps (fun t => t.axis b) l _ fun t _ ha => t.modAxis_axis_other _ fun he => hb (he ▸ ha)

/-- A fold of one update for each axis leaves an axis of the list as that update does. -/
theorem State.forEach_modAxis_mem (P : Axis → Prop) {l : List Nat} (f : Nat → Axis → Axis) {b : Nat} (hb : b ∈ l)
    (h : ∀ x, P (f b x)) : P ((s.forEach l fun t a => t.modAxis a (f a)).axis b) := by
  refine s.forEach_reaches (fun t => P (t.axis b)) hb (fun t => ?_) fun t a _ ht => ?_
  · rw [t.modAxis_axis_self]
    exact h _
  · rw [t.modAxis_axis]
    split
    · subst_vars; exact h _
    · exact ht

/-- A fold of an update that nothing is gained by repeating. -/
theorem State.forEach_modAxis_self {l : List Nat} (f : Nat → Axis → Axis) {b : Nat} (hb : b ∈ l)
    (h : ∀ x, f b (f b x) = f b x) : (s.forEach l fun t a => t.modAxis a (f a)).axis b = f b (s.axis b) := by
  have hinv := s.forEach_invariant (fun t => f b (t.axis b) = f b (s.axis b)) l (fun t a => t.modAxis a (f a)) rfl
    fun t a _ ht => by
      rw [t.modAxis_axis]
      split
      · subst_vars; exact (h _).trans ht
      · exact ht
  exact (s.forEach_modAxis_mem (fun y => f b y = y) f hb h).symm.trans hinv

theorem State.forEach_modAxis_frame {α : Type} (l : List α) (k : α → Nat) (f : α → Axis → Axis) :
    { s.forEach l fun t a => t.modAxis (k a) (f a) with axes := s.axes } = s :=
  s.forEach_keeps (fun t : State => { t with axes := s.axes }) l (fun t a => t.modAxis (k a) (f a)) fun _ _ _ => rfl

/-! #### Bound axes -/

/-- A key reads the table's default, or an entry of the table. -/
theorem tblGet_default_or_mem {α : Type} (d : α) (t : Tbl α) (k : Nat) : tblGet d t k = d ∨ (k, tblGet d t k) ∈ t := by
  induction t with
  | nil => exact .inl rfl
  | cons e r ih =>
    obtain ⟨j, v⟩ := e
    unfold tblGet
    split
    · subst_vars; exact .inr List.mem_cons_self
    · exact ih.imp_right (List.mem_cons_of_mem _)

theorem State.mem_boundAxes {q : Word} {a : Nat} (h : (s.axis a).bound = some q) : a ∈ s.boundAxes q := by
  have hmem : (a, s.axis a) ∈ s.axes := by
    refine (tblGet_default_or_mem {} s.axes a).resolve_left fun hd => ?_
    rw [show s.axis a = {} from hd] at h
    cases h
  exact List.mem_map.mpr ⟨_, List.mem_filter.mpr ⟨hmem, decide_eq_true h⟩, rfl⟩

theorem State.foldOffs_frame (axes : List Nat) : { s.foldOffs axes with axes := s.axes } = s :=
  s.forEach_modAxis_frame axes id fun _ y => { y with lp := y.lp.foldOff }

theorem State.foldOffs_bound (axes : List Nat) (a : Nat) : ((s.foldOffs axes).axis a).bound = (s.axis a).bound := by
  refine s.forEach_keeps (fun t => (t.axis a).bound) axes _ fun t b _ => ?_
  rw [t.modAxis_axis]
  split
  · subst_vars; rfl
  · rfl

theorem State.settleQueue_bound (q : Word) (a : Nat) : ((s.settleQueue q).axis a).bound = (s.axis a).bound := by
  obtain h | h := s.settleQueue_cases q
  · rw [h]
  · rw [h]
    exact s.foldOffs_bound _ a

theorem State.unbind_frame (q : Word) (axes : List Nat) : { s.unbind q axes with axes := s.axes } = s :=
  s.forEach_modAxis_frame axes id fun _ x => if x.bound = some q then { x with bound := none } else x

theorem State.unbind_bound {q : Word} {axes : List Nat} (h : ∀ a, (s.axis a).bound = some q → a ∈ axes) (a : Nat) :
    ((s.unbind q axes).axis a).bound ≠ some q := by
  let f : Nat → Axis → Axis := fun _ x => if x.bound = some q then { x with bound := none } else x
  by_cases ha : a ∈ axes
  · refine s.forEach_modAxis_mem (fun x => x.bound ≠ some q) f ha fun x => ?_
    by_cases hx : x.bound = some q
    · simp [f, hx]
    · simp [f, hx]
  · rw [show (s.unbind q axes).axis a = s.axis a from s.forEach_modAxis_other axes f ha]
    exact fun hq => ha (h a hq)

/-- A queue that releases every axis bound to it has none bound. -/
theorem State.releaseAxes_unbound {q : Word} {axes : List Nat} (h : ∀ a, (s.axis a).bound = some q → a ∈ axes) (a : Nat) :
    ((s.releaseAxes q axes).axis a).bound ≠ some q := by
  rw [s.releaseAxes_eq, State.settleQueue_bound]
  exact s.unbind_bound h a

/-! #### Outcomes -/

theorem State.outcome_axes (q : Word) (g : Seg) (oc : Nat) : (s.outcome q g oc).axes = s.axes := by
  unfold State.outcome
  dsimp only
  split
  · rfl
  · split <;> rfl

theorem State.outcome_supply (q : Word) (g : Seg) (oc : Nat) : (s.outcome q g oc).supply = s.supply := by
  unfold State.outcome
  dsimp only
  split
  · rfl
  · split <;> rfl

/-- The outcome of a segment that a host has named, before its record (R96). -/
def State.noteOutcome (s : State) (q : Word) (g : Seg) (oc : Nat) : State :=
  s.modQueue q fun x => { x with lastOutcome := oc, lastSegId := g.segId }

theorem State.outcome_eq (q : Word) {g : Seg} (oc : Nat) (hg : g.homing = false) : s.outcome q g oc =
    if oc ≠ ocComplete ∨ g.notify = true then (s.noteOutcome q g oc).emit evSegEnd q [g.segId.toNat, oc]
    else s.noteOutcome q g oc := by
  unfold State.outcome
  dsimp only
  rw [hg, if_neg Bool.false_ne_true]
  rfl

theorem State.outcome_queue (q : Word) {g : Seg} (oc : Nat) (hg : g.homing = false) :
    (s.outcome q g oc).queue q = { s.queue q with lastOutcome := oc, lastSegId := g.segId } := by
  have hq : (s.noteOutcome q g oc).queue q = { s.queue q with lastOutcome := oc, lastSegId := g.segId } :=
    s.modQueue_queue_self q _
  rw [s.outcome_eq q oc hg]
  split
  · exact hq
  · exact hq

/-- An outcome other than COMPLETE, or one with NOTIFY, is recorded (R96). -/
theorem State.records_outcome (q : Word) {g : Seg} {oc : Nat} (hg : g.homing = false) (h : oc ≠ ocComplete ∨ g.notify = true) :
    Records s (s.outcome q g oc) evSegEnd q [g.segId.toNat, oc] := by
  rw [s.outcome_eq q oc hg, if_pos h]
  exact (s.noteOutcome q g oc).records_emit evSegEnd q [g.segId.toNat, oc]

theorem State.dropOutcomes_axes (q : Word) (oc : Nat) (l : List Seg) : (s.dropOutcomes q oc l).axes = s.axes := by
  cases l with
  | nil => rfl
  | cons g r =>
    exact (State.forEach_keeps _ (fun t => t.axes) r _ fun t g _ => t.outcome_axes q g _).trans (s.outcome_axes q g oc)

/-! #### A queue that drops its segments -/

theorem State.dropQueue_segs (q : Word) (oc : Nat) : ((s.dropQueue q oc).queue q).segs = [] :=
  (s.brakes_dropQueue_emptied q oc).empty q (congrArg Queue.segs (s.modQueue_queue_self q _))

theorem State.dropQueue_unbound (q : Word) (oc a : Nat) : ((s.dropQueue q oc).axis a).bound ≠ some q := by
  rw [s.dropQueue_eq]
  refine State.releaseAxes_unbound _ (fun b hb => s.mem_boundAxes ?_) a
  rw [← hb]
  exact congrArg (fun x : Tbl Axis => (tblGet {} x b).bound) (State.dropOutcomes_axes (s.emptyQueue q) q oc _).symm

/-- The segment at the head of a queue that is dropped gets its outcome. -/
theorem State.records_dropQueue {q : Word} {g : Seg} {r : List Seg} {oc : Nat} (hs : (s.queue q).segs = g :: r)
    (hg : g.homing = false) (hoc : oc ≠ ocComplete) : Records s (s.dropQueue q oc) evSegEnd q [g.segId.toNat, oc] := by
  have hhead : Records s ((s.emptyQueue q).outcome q g oc) evSegEnd q [g.segId.toNat, oc] :=
    (s.emptyQueue q).records_outcome q hg (.inl hoc)
  rw [s.dropQueue_eq, hs]
  exact (((State.brakes_outcomes _ q r ocFlushed).trans (State.brakes_releaseAxes _ q _)).trans
    (State.brakes_dropReqs _ q _)).toMoves.records hhead

/-! #### A queue that is released -/

theorem State.foldOffs_supply (axes : List Nat) : (s.foldOffs axes).supply = s.supply :=
  (congrArg State.supply (s.foldOffs_frame axes) :)

theorem State.foldOffs_queue (axes : List Nat) (q : Word) : (s.foldOffs axes).queue q = s.queue q :=
  (congrArg (fun t : State => t.queue q) (s.foldOffs_frame axes) :)

theorem State.unbind_queue (q : Word) (axes : List Nat) : (s.unbind q axes).queue q = s.queue q :=
  (congrArg (fun t : State => t.queue q) (s.unbind_frame q axes) :)

theorem State.settleQueue_supply (q : Word) : (s.settleQueue q).supply = s.supply := by
  obtain h | h := s.settleQueue_cases q
  · rw [h]
  · rw [h, State.modQueue_supply, s.foldOffs_supply]

theorem State.settleQueue_queue (q : Word) : ∃ d, (s.settleQueue q).queue q = { s.queue q with drove := d } := by
  obtain h | h := s.settleQueue_cases q
  · exact ⟨(s.queue q).drove, congrArg (fun t : State => t.queue q) h⟩
  · rw [h, State.modQueue_queue_self, s.foldOffs_queue]
    exact ⟨[], rfl⟩

theorem State.releaseAxes_supply (q : Word) (axes : List Nat) : (s.releaseAxes q axes).supply = s.supply := by
  rw [s.releaseAxes_eq, State.settleQueue_supply]
  exact (congrArg State.supply (s.unbind_frame q axes) :)

/-- A queue that releases its axes keeps everything but the list of axes it drove. -/
theorem State.releaseAxes_queue (q : Word) (axes : List Nat) :
    ∃ d, (s.releaseAxes q axes).queue q = { s.queue q with drove := d } := by
  rw [s.releaseAxes_eq]
  obtain ⟨d, hd⟩ := State.settleQueue_queue ((s.unbind q axes).modQueue q fun y => { y with drove := dedup (y.drove ++ axes) }) q
  rw [State.modQueue_queue_self, s.unbind_queue] at hd
  exact ⟨d, hd⟩

/-! #### DEC_KEPT and holding -/

theorem State.markKept_frame (axes : List Nat) (k : Bool) : { s.markKept axes k with axes := s.axes } = s :=
  s.forEach_modAxis_frame axes id fun _ x => { x with decKept := k }

theorem State.markKept_axis_mem {axes : List Nat} {a : Nat} (k : Bool) (ha : a ∈ axes) :
    (s.markKept axes k).axis a = { s.axis a with decKept := k } :=
  s.forEach_modAxis_self (fun _ x => { x with decKept := k }) ha fun _ => rfl

theorem State.markKept_axis_other {axes : List Nat} {a : Nat} (k : Bool) (ha : a ∉ axes) :
    (s.markKept axes k).axis a = s.axis a := s.forEach_modAxis_other axes (fun _ x => { x with decKept := k }) ha

theorem State.markKept_axis (axes : List Nat) (k : Bool) (a : Nat) :
    (s.markKept axes k).axis a = { s.axis a with decKept := ((s.markKept axes k).axis a).decKept } := by
  by_cases ha : a ∈ axes
  · rw [s.markKept_axis_mem k ha]
  · rw [s.markKept_axis_other k ha]

theorem State.holdEnd_frame (g : Seg) (p : Plan) (tau : Rat) : { s.holdEnd g p tau with axes := s.axes } = s :=
  s.forEach_modAxis_frame _ Prod.fst fun e x =>
    x.modLp fun l => { l with hold := (p.axisRef g e.2 tau).1, pProf := (p.axisRef g e.2 tau).1 }

/-- The axis at a place of a segment holds the position where its profile ended. -/
theorem State.holdEnd_hold {g : Seg} {k a : Nat} (p : Plan) (tau : Rat) (hn : g.axes.Nodup) (hk : g.axes[k]? = some a) :
    ((s.holdEnd g p tau).axis a).lp.hold = (p.axisRef g k tau).1 := by
  obtain ⟨hlt, hget⟩ := List.getElem?_eq_some_iff.mp hk
  have hplace : ∀ e ∈ g.axes.zip (upTo g.axes.length), g.axes[e.2]? = some e.1 := by
    intro e he
    obtain ⟨i, hi, rfl⟩ := List.getElem_of_mem he
    simp [upTo]
  have hmem : (a, k) ∈ g.axes.zip (upTo g.axes.length) := by
    refine List.mem_of_getElem? (i := k) ?_
    simp [upTo, hlt, hget]
  refine s.forEach_reaches (fun t => (t.axis a).lp.hold = (p.axisRef g k tau).1) hmem (fun t => ?_) fun t e he ht => ?_
  · rw [t.modAxis_axis_self]
    rfl
  · rw [t.modAxis_axis]
    split
    case isTrue hea =>
      have hidx : e.2 = k := by
        obtain ⟨hlt2, hget2⟩ := List.getElem?_eq_some_iff.mp (hplace e he)
        exact (hn.getElem_inj_iff).mp ((hget2.trans hea.symm).trans hget.symm)
      rw [← hidx]
      rfl
    case isFalse => exact ht

end Sys2Proof.Machine

/-! ### Segments start and end (R94, R95, R112) -/

namespace Sys2Proof.Machine
open Sys2Proof.Claims

variable (s : State)

/-! #### What a plan depends on -/

section
variable {s} {t : State} (h : s.Moves t)
include h

theorem State.Moves.segValid (g : Seg) (starts : List Int) : t.segValid g starts = s.segValid g starts :=
  (congrArg (fun v : State => v.segValid g starts) h.frame :)

theorem State.Moves.planSeg (g : Seg) (starts : List Int) (tau0 : Rat) : t.planSeg g starts tau0 = s.planSeg g starts tau0 :=
  (congrArg (fun v : State => v.planSeg g starts tau0) h.frame :)
end

/-! #### The segment at the head of a queue begins -/

/-- The segment at the head of a queue becomes active with its clock at `tau0` (R94). -/
def State.startedWith (s : State) (q : Word) (g : Seg) (tau0 : Rat) : State :=
  ((s.modQueue q fun x => { x with waiting := false }).modQueue q fun x =>
    { x with plan := some (s.planSeg g (s.startsOf g) tau0), endedTick := none }).markKept g.axes false

section
variable {s} {q : Word} {g : Seg} {r : List Seg} (hs : (s.queue q).segs = g :: r) (tau0 : Rat)
include hs

theorem State.beginSegments_succ (n : Nat) : State.beginSegments (n + 1) s q tau0 =
    if s.segValid g (s.startsOf g) then
      if (s.planSeg g (s.startsOf g) tau0).dist ≠ 0 then s.startedWith q g tau0
      else
        let v := (s.startedWith q g tau0).retireHead q g r ocComplete
        if blendOk (g :: r) && s.health.supLost.isNone then State.beginSegments n v q tau0
        else if r.isEmpty then v.releaseAxes q (v.boundAxes q)
        else v
    else (s.modQueue q fun x => { x with waiting := false }).dropQueue q ocRefused := by
  rw [State.beginSegments]
  split
  case h_1 h => rw [hs] at h; cases h
  case h_2 g' r' h =>
    obtain ⟨rfl, rfl⟩ := List.cons.inj (hs.symm.trans h)
    rfl

theorem State.beginSegment_started (hv : s.segValid g (s.startsOf g) = true)
    (hd : (s.planSeg g (s.startsOf g) tau0).dist ≠ 0) : s.beginSegment q tau0 = s.startedWith q g tau0 := by
  rw [State.beginSegment, s.beginSegments_succ hs, if_pos hv, if_pos hd]

theorem State.beginSegment_refused (hv : s.segValid g (s.startsOf g) = false) :
    s.beginSegment q tau0 = (s.modQueue q fun x => { x with waiting := false }).dropQueue q ocRefused := by
  rw [State.beginSegment, s.beginSegments_succ hs, hv, if_neg Bool.false_ne_true]
end

/-- A segment without a distance is valid (R88, R89). -/
theorem State.segValid_of_dist_eq_zero {g : Seg} {starts : List Int} {tau0 : Rat} (hd : (s.planSeg g starts tau0).dist = 0) :
    s.segValid g starts = true := by
  have hl : (s.segLimits g starts).dist = 0 := hd
  unfold State.segValid
  dsimp only
  rw [hl]
  rfl

/-- The last segment of a queue, without a distance, is COMPLETE at once, and the queue releases its axes. -/
theorem State.beginSegment_last {q : Word} {g : Seg} {tau0 : Rat} (hs : (s.queue q).segs = [g])
    (hd : (s.planSeg g (s.startsOf g) tau0).dist = 0) :
    let v := (s.startedWith q g tau0).retireHead q g [] ocComplete
    s.beginSegment q tau0 = v.releaseAxes q (v.boundAxes q) := by
  intro v
  rw [State.beginSegment, s.beginSegments_succ hs, if_pos (s.segValid_of_dist_eq_zero hd), if_neg (not_not.mpr hd)]
  rfl

theorem State.startedWith_queue (q : Word) (g : Seg) (tau0 : Rat) : (s.startedWith q g tau0).queue q =
    { s.queue q with waiting := false, plan := some (s.planSeg g (s.startsOf g) tau0), endedTick := none } := by
  have hk := fun t : State => (congrArg (fun v : State => v.queue q) (t.markKept_frame g.axes false) :)
  refine (hk _).trans ?_
  rw [State.modQueue_queue_self, State.modQueue_queue_self]

theorem State.startedWith_frame (q : Word) (g : Seg) (tau0 : Rat) :
    { s.startedWith q g tau0 with axes := s.axes, queues := s.queues } = s :=
  (congrArg (fun v : State => { v with axes := s.axes, queues := s.queues })
    (State.markKept_frame ((s.modQueue q fun x => { x with waiting := false }).modQueue q fun x =>
      { x with plan := some (s.planSeg g (s.startsOf g) tau0), endedTick := none }) g.axes false) :)

theorem State.startedWith_axis (q : Word) (g : Seg) (tau0 : Rat) (a : Nat) : (s.startedWith q g tau0).axis a =
    { s.axis a with decKept := ((s.startedWith q g tau0).axis a).decKept } := State.markKept_axis _ g.axes false a

theorem State.startedWith_decKept (q : Word) {g : Seg} (tau0 : Rat) {a : Nat} (ha : a ∈ g.axes) :
    ((s.startedWith q g tau0).axis a).decKept = false :=
  (congrArg Axis.decKept (State.markKept_axis_mem _ false ha) :)

theorem State.runs_startedWith (q : Word) (g : Seg) (tau0 : Rat) : s.Runs q (s.startedWith q g tau0) :=
  ((s.runs_modQueue q _).trans (State.runs_modQueue _ q _)).trans (State.brakes_markKept _ q ..).toRuns

/-! #### The segment at the head of a queue leaves it -/

theorem State.retireHead_queue (q : Word) {g : Seg} (rest : List Seg) (oc : Nat) (hg : g.homing = false) :
    (s.retireHead q g rest oc).queue q = { s.queue q with
      segs := rest, plan := none, halting := false, endedTick := some s.tick.no, lastOutcome := oc, lastSegId := g.segId } := by
  rw [State.retireHead, State.outcome_queue _ q oc hg, State.modQueue_queue_self]

theorem State.retireHead_axes (q : Word) (g : Seg) (rest : List Seg) (oc : Nat) :
    (s.retireHead q g rest oc).axes = s.axes := State.outcome_axes _ q g oc

theorem State.retireHead_supply (q : Word) (g : Seg) (rest : List Seg) (oc : Nat) :
    (s.retireHead q g rest oc).supply = s.supply := State.outcome_supply _ q g oc

theorem State.records_retireHead (q : Word) {g : Seg} (rest : List Seg) {oc : Nat} (hg : g.homing = false)
    (h : oc ≠ ocComplete ∨ g.notify = true) : Records s (s.retireHead q g rest oc) evSegEnd q [g.segId.toNat, oc] := by
  let t := s.modQueue q fun y => { y with segs := rest, plan := none, halting := false, endedTick := some s.tick.no }
  exact (t.records_outcome q hg h : Records t _ _ _ _)

/-! #### A start from rest (R94, R112) -/

/-- The cost of a start is paid: the queue's request no longer waits. -/
def State.startPaid (s : State) (q : Word) (costs : List (Nat × Nat)) : State :=
  (s.modQueue q fun x => { x with waiting := true }).modSupply fun x => { x with levels := payAll s.supply.levels costs }

theorem State.runs_startPaid (q : Word) (costs : List (Nat × Nat)) : s.Runs q (s.startPaid q costs) :=
  (s.runs_modQueue q _).trans (State.runs_modSupply _ q _)

theorem State.startPaid_queue (q : Word) (costs : List (Nat × Nat)) :
    (s.startPaid q costs).queue q = { s.queue q with waiting := true } := 
  s.modQueue_queue_self q fun x => { x with waiting := true }

/-- The domains of the requests that wait. -/
def State.waitingDomains (s : State) : List Nat := s.supply.reqs.flatMap fun y => y.costs.map fun p => p.1

section
variable {s} {q : Word} {g : Seg} {r : List Seg} (hs : (s.queue q).segs = g :: r)
include hs

theorem State.tryStart_eq : s.tryStart q =
    if s.overBudget (s.startCost g) then (s.dropQueue q ocDeferred).forEach (if g.homing then g.axes else []) State.homeFail
    else (s.modQueue q fun x => { x with waiting := true }).joinSupply (.start q) (s.startCost g) := by
  rw [State.tryStart]
  split
  case h_1 h => rw [hs] at h; cases h
  case h_2 g' r' h =>
    obtain ⟨rfl, rfl⟩ := List.cons.inj (hs.symm.trans h)
    rfl

theorem State.tryStart_over (ho : s.overBudget (s.startCost g) = true) (hg : g.homing = false) :
    s.tryStart q = s.dropQueue q ocDeferred := by
  rw [State.tryStart_eq hs, if_pos ho, hg]
  rfl

theorem State.tryStart_pays (ho : s.overBudget (s.startCost g) = false)
    (hp : canPay s.supply.levels s.waitingDomains (s.startCost g) = true) :
    s.tryStart q = (s.startPaid q (s.startCost g)).beginSegment q (s.queue q).tau := by
  rw [State.tryStart_eq hs, ho, if_neg Bool.false_ne_true]
  refine (if_pos hp).trans ?_
  show (s.startPaid q (s.startCost g)).beginSegment q ((s.startPaid q (s.startCost g)).queue q).tau = _
  rw [s.startPaid_queue]

theorem State.tryStart_waits (ho : s.overBudget (s.startCost g) = false)
    (hp : canPay s.supply.levels s.waitingDomains (s.startCost g) = false) :
    s.tryStart q = (s.modQueue q fun x => { x with waiting := true }).modSupply fun x =>
      { x with reqs := x.reqs ++ [{ kind := .start q, costs := s.startCost g, joined := s.tick.no }] } := by
  rw [State.tryStart_eq hs, ho, if_neg Bool.false_ne_true]
  exact if_neg (hp ▸ Bool.false_ne_true)
end

/-! #### A segment that has reached its end (R94, R95) -/

/-- The segment at the head of a queue has ended: its axes hold where it did, and it has its outcome. -/
def State.retired (s : State) (q : Word) (g : Seg) (p : Plan) (rest : List Seg) (oc : Nat) : State :=
  (s.holdEnd g p (s.queue q).tau).retireHead q g rest oc

/-- Whether the active segment of a queue blends into the next (R95); after a supervisor loss none does (R470). -/
def State.blends (s : State) (q : Word) (p : Plan) : Bool :=
  p.blend.getD (blendOk (s.queue q).segs) && blendOk (s.queue q).segs && s.health.supLost.isNone

section
variable {s} {q : Word} {g : Seg} {r : List Seg} {p : Plan} (hs : (s.queue q).segs = g :: r) (hp : (s.queue q).plan = some p)
include hs hp

theorem State.endOne_eq : s.endOne q =
    let t := s.retired q g p r (if (s.queue q).halting then ocHalted else ocComplete)
    if p.blend.getD (blendOk (s.queue q).segs) && blendOk (s.queue q).segs && !(s.queue q).halting && s.health.supLost.isNone then
      t.beginSegment q ((s.queue q).tau - ((s.queue q).tau - p.tau0 - p.tEnd))
    else if r.isEmpty then t.releaseAxes q (t.boundAxes q)
    else t := by
  rw [State.endOne]
  extract_lets x
  split
  case h_1 g' r' p' h h' =>
    obtain ⟨rfl, rfl⟩ := List.cons.inj (hs.symm.trans h)
    obtain rfl := Option.some.inj (hp.symm.trans h')
    rfl
  case h_2 h => exact (h g r p hs hp).elim

/-- A segment that a HALT or its own end stops, and that blends into no other. -/
theorem State.endOne_stops (hb : s.blends q p = false ∨ (s.queue q).halting = true) : s.endOne q =
    let t := s.retired q g p r (if (s.queue q).halting then ocHalted else ocComplete)
    if r.isEmpty then t.releaseAxes q (t.boundAxes q) else t := by
  rw [State.endOne_eq hs hp]
  refine if_neg fun hc => ?_
  simp only [Bool.and_eq_true, Bool.not_eq_true'] at hc
  obtain ⟨⟨hblend, hhalt⟩, hsup⟩ := hc
  obtain hb | hb := hb
  · have hblends : s.blends q p = true := by
      rw [State.blends, Bool.and_eq_true, Bool.and_eq_true]
      exact ⟨hblend, hsup⟩
    exact Bool.false_ne_true (hb.symm.trans hblends)
  · exact Bool.false_ne_true (hhalt.symm.trans hb)

/-- The next segment begins where this one's time has run out. -/
theorem State.endOne_blends (hb : s.blends q p = true) (hh : (s.queue q).halting = false) :
    s.endOne q = (s.retired q g p r ocComplete).beginSegment q (p.tau0 + p.tEnd) := by
  rw [State.endOne_eq hs hp, hh, show (s.queue q).tau - ((s.queue q).tau - p.tau0 - p.tEnd) = p.tau0 + p.tEnd by ring]
  rw [State.blends, Bool.and_eq_true] at hb
  refine if_pos ?_
  rw [Bool.not_false, Bool.and_true, Bool.and_eq_true]
  exact hb
end

theorem State.endSegments_of_not_over (n : Nat) {q : Word} (h : s.segOver q = false) : State.endSegments n s q = s := by
  cases n with
  | zero => rfl
  | succ n => rw [State.endSegments, h, if_neg Bool.false_ne_true]

theorem State.endSegment_eq {q : Word} {g : Seg} {r : List Seg} (hs : (s.queue q).segs = g :: r) (ho : s.segOver q = true) :
    s.endSegment q = State.endSegments r.length (s.endOne q) q := by
  rw [State.endSegment, hs, List.length_cons, State.endSegments, if_pos ho]

theorem State.segOver_of_plan_none {q : Word} (h : (s.queue q).plan = none) : s.segOver q = false := by
  rw [State.segOver, h]

theorem State.segOver_of_plan_some {q : Word} {p : Plan} (h : (s.queue q).plan = some p) :
    s.segOver q = p.over (s.queue q).tau := by
  rw [State.segOver, h]

theorem State.holdEnd_queue (g : Seg) (p : Plan) (tau : Rat) (q : Word) : (s.holdEnd g p tau).queue q = s.queue q :=
  (congrArg (fun v : State => v.queue q) (s.holdEnd_frame g p tau) :)

theorem State.runs_retired (q : Word) (g : Seg) (p : Plan) (r : List Seg) (oc : Nat) : s.Runs q (s.retired q g p r oc) :=
  (s.brakes_holdEnd q ..).toRuns.trans (State.runs_retireHead _ ..)

theorem State.retired_queue (q : Word) {g : Seg} (p : Plan) (r : List Seg) (oc : Nat) (hg : g.homing = false) :
    (s.retired q g p r oc).queue q = { s.queue q with
      segs := r, plan := none, halting := false, endedTick := some s.tick.no, lastOutcome := oc, lastSegId := g.segId } := by
  rw [State.retired, State.retireHead_queue _ q r oc hg, s.holdEnd_queue,
    show (s.holdEnd g p (s.queue q).tau).tick = s.tick from (s.brakes_holdEnd q ..).toMoves.tick]

theorem State.retired_supply (q : Word) (g : Seg) (p : Plan) (r : List Seg) (oc : Nat) :
    (s.retired q g p r oc).supply = s.supply :=
  (State.retireHead_supply _ q g r oc).trans (congrArg State.supply (s.holdEnd_frame g p _) :)

theorem State.retired_hold (q : Word) {g : Seg} (p : Plan) (r : List Seg) (oc : Nat) {k a : Nat} (hn : g.axes.Nodup)
    (hk : g.axes[k]? = some a) : ((s.retired q g p r oc).axis a).lp.hold = (p.axisRef g k (s.queue q).tau).1 := by
  refine Eq.trans ?_ (s.holdEnd_hold p (s.queue q).tau hn hk)
  exact congrArg (fun x : Tbl Axis => (tblGet {} x a).lp.hold) (State.retireHead_axes _ q g r oc)

theorem State.records_retired (q : Word) {g : Seg} (p : Plan) (r : List Seg) {oc : Nat} (hg : g.homing = false)
    (h : oc ≠ ocComplete ∨ g.notify = true) : Records s (s.retired q g p r oc) evSegEnd q [g.segId.toNat, oc] := by
  exact (s.brakes_holdEnd q g p _).toMoves.records_after (congrArg State.recd (s.holdEnd_frame g p _) :)
    (State.records_retireHead _ q r hg h)

end Sys2Proof.Machine

/-! ### SEGMENT_START, SEG_END, QUEUE_AT_REST (R94, R95, R112) -/

namespace Sys2Proof.Machine
open Sys2Proof.Claims

variable (s : State)

/-! #### SEGMENT_START -/

theorem State.exec_segmentStart {q : Word} (h : s.startDue q = true) : exec (.segmentStart q) s = .next (s.tryStart q) :=
  congrArg Host.Outcome.next (if_pos h)

theorem State.exec_segmentStart_idle {q : Word} (h : s.startDue q = false) : exec (.segmentStart q) s = .next s :=
  congrArg Host.Outcome.next (if_neg (h ▸ Bool.false_ne_true))

section
variable {s} {q : Word} {g : Seg} {r : List Seg} (hs : (s.queue q).segs = g :: r) (hd : s.startDue q = true)
include hs hd

/-- A start above a budget is DEFERRED, and the queue drops its segments (R112). -/
theorem State.completes_segmentStart_over (ho : s.overBudget (s.startCost g) = true) (hg : g.homing = false) :
    Completes (.segmentStart q) s fun t => (t.queue q).segs = [] ∧ (∀ a, (t.axis a).bound ≠ some q) ∧
      Records s t evSegEnd q [g.segId.toNat, ocDeferred] ∧
      { t with axes := s.axes, queues := s.queues, supply := s.supply, recd := s.recd } = s :=
  ⟨_, (s.exec_segmentStart hd).trans (congrArg _ (s.tryStart_over hs ho hg)), s.dropQueue_segs q _,
    s.dropQueue_unbound q _, s.records_dropQueue hs hg (by decide), (s.brakes_dropQueue q _).toMoves.frame⟩

/-- A start that its domains cannot pay yet waits for them (R112, R113). -/
theorem State.completes_segmentStart_waits (ho : s.overBudget (s.startCost g) = false)
    (hp : canPay s.supply.levels s.waitingDomains (s.startCost g) = false) :
    Completes (.segmentStart q) s fun t => t.queue q = { s.queue q with waiting := true } ∧
      (∀ k : Word, k ≠ q → t.queue k = s.queue k) ∧
      t.supply = { s.supply with
        reqs := s.supply.reqs ++ [{ kind := .start q, costs := s.startCost g, joined := s.tick.no }] } ∧
      { t with queues := s.queues, supply := s.supply } = s :=
  ⟨_, (s.exec_segmentStart hd).trans (congrArg _ (s.tryStart_waits hs ho hp)),
    s.modQueue_queue_self q fun x => { x with waiting := true },
    fun _ hk => s.modQueue_queue_other (fun x => { x with waiting := true }) hk, rfl, rfl⟩

section
variable (ho : s.overBudget (s.startCost g) = false) (hp : canPay s.supply.levels s.waitingDomains (s.startCost g) = true)
include ho hp

/-- A start that is paid begins the segment. -/
theorem State.exec_segmentStart_pays : exec (.segmentStart q) s =
    .next ((s.startPaid q (s.startCost g)).beginSegment q (s.queue q).tau) :=
  (s.exec_segmentStart hd).trans (congrArg _ (s.tryStart_pays hs ho hp))

omit hd ho hp in
theorem State.startPaid_segs (costs : List (Nat × Nat)) : ((s.startPaid q costs).queue q).segs = g :: r := by
  rw [s.startPaid_queue]
  exact hs

theorem State.completes_segmentStart_starts (hv : s.segValid g (s.startsOf g) = true)
    (hdist : (s.planSeg g (s.startsOf g) (s.queue q).tau).dist ≠ 0) :
    Completes (.segmentStart q) s fun t =>
      t.queue q = { s.queue q with
        waiting := false, plan := some (s.planSeg g (s.startsOf g) (s.queue q).tau), endedTick := none } ∧
      (∀ k : Word, k ≠ q → t.queue k = s.queue k) ∧
      t.supply = { s.supply with levels := payAll s.supply.levels (s.startCost g) } ∧
      (∀ a, t.axis a = { s.axis a with decKept := (t.axis a).decKept }) ∧ (∀ a ∈ g.axes, (t.axis a).decKept = false) ∧
      { t with queues := s.queues, supply := s.supply, axes := s.axes } = s := by
  let u := s.startPaid q (s.startCost g)
  have hframe := u.startedWith_frame q g (s.queue q).tau
  refine ⟨u.startedWith q g (s.queue q).tau, (State.exec_segmentStart_pays hs hd ho hp).trans
    (congrArg _ (State.beginSegment_started (State.startPaid_segs hs _) _ hv hdist)), ?_,
    ((s.runs_startPaid q _).trans (u.runs_startedWith q g _)).others, (congrArg State.supply hframe :),
    u.startedWith_axis q g _, fun a ha => u.startedWith_decKept q _ ha, ?_⟩
  · rw [u.startedWith_queue, s.startPaid_queue]
    rfl
  · exact (congrArg (fun v : State => { v with queues := s.queues, supply := s.supply, axes := s.axes }) hframe :)

/-- A plan that fails R88 at its start is REFUSED. -/
theorem State.completes_segmentStart_refused (hv : s.segValid g (s.startsOf g) = false) (hg : g.homing = false) :
    Completes (.segmentStart q) s fun t => (t.queue q).segs = [] ∧ Records s t evSegEnd q [g.segId.toNat, ocRefused] := by
  let u := (s.startPaid q (s.startCost g)).modQueue q fun x => { x with waiting := false }
  have hsegs : (u.queue q).segs = g :: r := by
    rw [State.modQueue_queue_self]
    exact State.startPaid_segs hs _
  exact ⟨_, (State.exec_segmentStart_pays hs hd ho hp).trans
    (congrArg _ (State.beginSegment_refused (State.startPaid_segs hs _) _ hv)), u.dropQueue_segs q _,
    u.records_dropQueue hsegs hg (by decide)⟩

/-- A last segment without a distance is COMPLETE in the tick of its start (R89). -/
theorem State.completes_segmentStart_short (hdist : (s.planSeg g (s.startsOf g) (s.queue q).tau).dist = 0) (hr : r = [])
    (hg : g.homing = false) :
    Completes (.segmentStart q) s fun t => (t.queue q).segs = [] ∧ (t.queue q).plan = none ∧
      (t.queue q).lastOutcome = ocComplete ∧ (t.queue q).lastSegId = g.segId ∧
      (g.notify = true → Records s t evSegEnd q [g.segId.toNat, ocComplete]) := by
  subst hr
  let u := s.startPaid q (s.startCost g)
  let w := u.startedWith q g (s.queue q).tau
  let v := w.retireHead q g [] ocComplete
  obtain ⟨d, hrel⟩ := v.releaseAxes_queue q (v.boundAxes q)
  have hv := w.retireHead_queue q [] ocComplete hg
  refine ⟨v.releaseAxes q (v.boundAxes q), (State.exec_segmentStart_pays hs hd ho hp).trans
    (congrArg _ (u.beginSegment_last (State.startPaid_segs hs _) hdist)), ?_, ?_, ?_, ?_, fun hn => ?_⟩
  · rw [hrel, hv]
  · rw [hrel, hv]
  · rw [hrel, hv]
  · rw [hrel, hv]
  · have hw : s.Moves w := ((s.runs_startPaid q _).trans (u.runs_startedWith q g _)).toMoves
    have hrec : Records w v evSegEnd q [g.segId.toNat, ocComplete] := w.records_retireHead q [] hg (.inr hn)
    exact (v.brakes_releaseAxes q _).toMoves.records
      (hw.records_after (congrArg State.recd (u.startedWith_frame q g (s.queue q).tau) :) hrec)
end
end

/-! #### SEG_END and QUEUE_AT_REST -/

theorem State.exec_segEnd {q : Word} (ho : s.segOver q = true) (hh : (s.queue q).halting = false) :
    exec (.segEnd q) s = .next (s.endSegment q) :=
  congrArg Host.Outcome.next (if_pos (by rw [ho, hh]; rfl))

theorem State.exec_queueAtRest {q : Word} (ho : s.segOver q = true) (hh : (s.queue q).halting = true) :
    exec (.queueAtRest q) s = .next (s.endSegment q) :=
  congrArg Host.Outcome.next (if_pos (by rw [ho, hh]; rfl))

theorem State.exec_segEnd_idle {q : Word} (ho : s.segOver q = false) {c : Instr}
    (hc : c ∈ [Instr.segEnd q, .queueAtRest q]) : exec c s = .next s := by
  have hno (b : Bool) : ¬(s.segOver q && b) = true := by
    rw [ho]
    exact Bool.false_ne_true
  simp only [List.mem_cons, List.not_mem_nil, or_false] at hc
  obtain rfl | rfl := hc
  · exact congrArg Host.Outcome.next (if_neg (hno _))
  · exact congrArg Host.Outcome.next (if_neg (hno _))

/-- `t` comes from `s` by the end of segment `g` of queue `q` with an outcome; the segments `r` wait behind it. -/
def State.SegEnded (s t : State) (q : Word) (g : Seg) (p : Plan) (r : List Seg) (oc : Nat) : Prop :=
  (t.queue q).segs = r ∧ (t.queue q).plan = none ∧ (t.queue q).halting = false ∧
  (t.queue q).lastOutcome = oc ∧ (t.queue q).lastSegId = g.segId ∧ (t.queue q).endedTick = some s.tick.no ∧
  ((oc ≠ ocComplete ∨ g.notify = true) → Records s t evSegEnd q [g.segId.toNat, oc]) ∧
  (r = [] → ∀ a, (t.axis a).bound ≠ some q) ∧
  (r ≠ [] → g.axes.Nodup → ∀ k a, g.axes[k]? = some a → (t.axis a).lp.hold = (p.axisRef g k (s.queue q).tau).1) ∧
  (∀ k : Word, k ≠ q → t.queue k = s.queue k) ∧ { t with axes := s.axes, queues := s.queues, recd := s.recd } = s

/-- A retired segment has ended once its queue, if empty, has released its axes. -/
theorem State.segEnded_retired (q : Word) {g : Seg} (p : Plan) (r : List Seg) (oc : Nat) (hg : g.homing = false) :
    s.SegEnded (let t := s.retired q g p r oc
      if r.isEmpty then t.releaseAxes q (t.boundAxes q) else t) q g p r oc := by
  let t := s.retired q g p r oc
  have hq := s.retired_queue q p r oc hg
  have ht := s.runs_retired q g p r oc
  have hsup := s.retired_supply q g p r oc
  have hrec := s.records_retired q p r (oc := oc) hg
  cases r with
  | nil =>
    obtain ⟨d, hrel⟩ := t.releaseAxes_queue q (t.boundAxes q)
    rw [hq] at hrel
    have hu := ht.trans (t.brakes_releaseAxes q (t.boundAxes q)).toRuns
    exact ⟨congrArg Queue.segs hrel, congrArg Queue.plan hrel, congrArg Queue.halting hrel, congrArg Queue.lastOutcome hrel,
      congrArg Queue.lastSegId hrel, congrArg Queue.endedTick hrel,
      fun h => (t.brakes_releaseAxes q _).toMoves.records (hrec h),
      fun _ => State.releaseAxes_unbound t fun a ha => t.mem_boundAxes ha, fun h => (h rfl).elim, hu.others,
      hu.toMoves.frame_supply ((t.releaseAxes_supply q _).trans hsup)⟩
  | cons g2 l =>
    exact ⟨congrArg Queue.segs hq, congrArg Queue.plan hq, congrArg Queue.halting hq, congrArg Queue.lastOutcome hq,
      congrArg Queue.lastSegId hq, congrArg Queue.endedTick hq, hrec, (fun h => nomatch h),
      fun _ hn k a hk => s.retired_hold q p _ oc hn hk, ht.others, ht.toMoves.frame_supply hsup⟩

/-- The starts of the segment that a segment blends into are the positions where that one ends. -/
theorem State.startsOf_retired (q : Word) {g g2 : Seg} (p : Plan) (r : List Seg) (oc : Nat) (hax : g.axes = g2.axes) (hn : g.axes.Nodup) :
    (s.retired q g p r oc).startsOf g2 = (upTo g.axes.length).map fun k => (p.axisRef g k (s.queue q).tau).1 := by
  rw [State.startsOf, ← hax]
  refine List.ext_getElem (by simp [upTo]) fun k hk _ => ?_
  rw [List.length_map] at hk
  simpa [upTo] using s.retired_hold q p r oc hn (List.getElem?_eq_getElem hk)

section
variable {s} {q : Word} {g : Seg} {r : List Seg} {p : Plan} (hs : (s.queue q).segs = g :: r) (hp : (s.queue q).plan = some p)
  (ho : s.segOver q = true) (hg : g.homing = false)
include hs hp ho hg

/-- A segment that blends into no other ends, and no further one with it. -/
theorem State.segEnded_endSegment (hb : s.blends q p = false ∨ (s.queue q).halting = true) :
    s.SegEnded (s.endSegment q) q g p r (if (s.queue q).halting then ocHalted else ocComplete) := by
  have hend := s.segEnded_retired q p r (if (s.queue q).halting then ocHalted else ocComplete) hg
  rw [← State.endOne_stops hs hp hb] at hend
  obtain ⟨-, hplan, -⟩ := id hend
  rw [s.endSegment_eq hs ho, State.endSegments_of_not_over _ _ (State.segOver_of_plan_none _ hplan)]
  exact hend

/-- A segment that blends into the next is COMPLETE. -/
theorem State.records_endSegment_blends (hb : s.blends q p = true) (hh : (s.queue q).halting = false) (hn : g.notify = true) :
    Records s (s.endSegment q) evSegEnd q [g.segId.toNat, ocComplete] := by
  rw [s.endSegment_eq hs ho, State.endOne_blends hs hp hb hh]
  exact ((State.runs_beginSegment _ q _).trans (State.runs_endSegments _ _ q)).toMoves.records
    (s.records_retired q p r hg (.inr hn))

/-- The segment that the active one blends into goes on from the positions and the time where that one ends (R95). -/
theorem State.endSegment_blends {g2 : Seg} {l : List Seg} (hb : s.blends q p = true) (hh : (s.queue q).halting = false)
    (hr : r = g2 :: l) (hn : g.axes.Nodup) :
    let starts := (upTo g.axes.length).map fun k => (p.axisRef g k (s.queue q).tau).1
    let p2 := s.planSeg g2 starts (p.tau0 + p.tEnd)
    s.segValid g2 starts = true → p2.dist ≠ 0 → p2.over (s.queue q).tau = false →
      ((s.endSegment q).queue q).segs = r ∧ ((s.endSegment q).queue q).plan = some p2 := by
  intro starts p2 hv hdist hover
  let t := s.retired q g p r ocComplete
  have ht : s.Moves t := (s.runs_retired q g p r ocComplete).toMoves
  have hq : t.queue q = _ := s.retired_queue q p r ocComplete hg
  have hax : g.axes = g2.axes := by
    rw [State.blends, Bool.and_eq_true, Bool.and_eq_true, hs, hr] at hb
    obtain ⟨⟨-, hok⟩, -⟩ := hb
    simp only [blendOk, Bool.and_eq_true, decide_eq_true_eq] at hok
    exact hok.1.1
  have hstarts : t.startsOf g2 = starts := s.startsOf_retired q p r ocComplete hax hn
  have hplan : t.planSeg g2 (t.startsOf g2) (p.tau0 + p.tEnd) = p2 := by rw [hstarts, ht.planSeg]
  have hsegs : (t.queue q).segs = g2 :: l := (congrArg Queue.segs hq).trans hr
  have hbegin : s.endOne q = t.startedWith q g2 (p.tau0 + p.tEnd) := by
    rw [State.endOne_blends hs hp hb hh]
    refine State.beginSegment_started hsegs _ ?_ ?_
    · rw [hstarts, ht.segValid]
      exact hv
    · rw [hplan]
      exact hdist
  have hafter := t.startedWith_queue q g2 (p.tau0 + p.tEnd)
  rw [hplan, ← hbegin, hq] at hafter
  have hstop : (s.endOne q).segOver q = false := by
    rw [State.segOver_of_plan_some _ (congrArg Queue.plan hafter), hafter]
    exact hover
  rw [s.endSegment_eq hs ho, State.endSegments_of_not_over _ _ hstop]
  exact ⟨congrArg Queue.segs hafter, congrArg Queue.plan hafter⟩
end

/-- Settles O46: a start pays, waits or drops its queue (`tryStart`); an end retires the segment, and the queue then stops or
blends (`endOne`). -/
theorem segmentsStartAndEnd : Obligations.SegmentsStartAndEnd := by
  unfold Obligations.SegmentsStartAndEnd
  intro s q
  refine ⟨fun h => completes_self (s.exec_segmentStart_idle h), fun g r hs hd => ?_,
    fun h c hc => completes_self (s.exec_segEnd_idle h hc), fun g r p hs hp ho hg => ?_⟩
  · exact ⟨State.completes_segmentStart_over hs hd, State.completes_segmentStart_waits hs hd,
      State.completes_segmentStart_starts hs hd, State.completes_segmentStart_refused hs hd,
      State.completes_segmentStart_short hs hd⟩
  · refine ⟨fun hh hb => ⟨_, s.exec_segEnd ho hh, ?_⟩, fun hh hb => ⟨_, s.exec_segEnd ho hh, ?_⟩,
      fun hh => ⟨_, s.exec_queueAtRest ho hh, ?_⟩⟩
    · have hend := State.segEnded_endSegment hs hp ho hg (.inl hb)
      rw [hh] at hend
      exact hend
    · exact ⟨State.records_endSegment_blends hs hp ho hg hb hh,
        fun g2 l hr hn => State.endSegment_blends hs hp ho hg hb hh hr hn⟩
    · have hend := State.segEnded_endSegment hs hp ho hg (.inr hh)
      rw [hh] at hend
      exact hend

end Sys2Proof.Machine

/-! ### Requests to the supply domains (R113 to R115, R429, R470) -/

namespace Sys2Proof.Machine
open Sys2Proof.Claims

variable (s : State)

/-! #### Requests that stay -/

/-- What cannot be paid with no domain blocked cannot be paid with some blocked. -/
theorem canPay_blocked {levels : Tbl Nat} {costs : List (Nat × Nat)} (blocked : List Nat) (h : canPay levels [] costs = false) :
    canPay levels blocked costs = false := by
  rw [← Bool.not_eq_true] at h ⊢
  refine fun hp => h (List.all_eq_true.mpr fun p hmem => ?_)
  have hone := List.all_eq_true.mp hp p hmem
  simp only [Bool.and_eq_true] at hone ⊢
  exact ⟨rfl, hone.2⟩

/-- A request of a blocked domain is not paid. -/
theorem canPay_of_blocked {levels : Tbl Nat} {costs : List (Nat × Nat)} {blocked : List Nat} {d c : Nat} (hd : (d, c) ∈ costs)
    (hb : d ∈ blocked) : canPay levels blocked costs = false := by
  rw [← Bool.not_eq_true]
  intro hp
  have hone := List.all_eq_true.mp hp _ hd
  simp [hb] at hone

/-- A request stays in its domains' queues: it is held back, or it has neither waited too long nor can be paid. -/
def State.staysBehind (s : State) (blocked : List Nat) (r : SupReq) : Prop :=
  s.heldBack r = true ∨ s.waitedTooLong r = false ∧ canPay s.supply.levels blocked r.costs = false

theorem State.supplyLoop_stays {blocked : List Nat} {r : SupReq} (rest : List SupReq) (hr : r ∈ s.supply.reqs)
    (h : s.staysBehind blocked r) :
    s.supplyLoop (r :: rest) blocked = s.supplyLoop rest (blocked ++ r.costs.map fun p => p.1) := by
  rw [State.supplyLoop, List.contains_iff_mem.mpr hr, if_neg (by decide)]
  obtain hh | ⟨hw, hp⟩ := h
  · rw [hh, if_pos rfl]
  · split
    · rfl
    · rw [hw, if_neg Bool.false_ne_true, hp, if_neg Bool.false_ne_true]

theorem State.supplyLoop_idle (l : List SupReq) (blocked : List Nat) (h : ∀ r ∈ l, s.staysBehind [] r) :
    s.supplyLoop l blocked = s := by
  induction l generalizing blocked with
  | nil => rfl
  | cons r l ih =>
    have ih := fun b => ih b fun y hy => h y (List.mem_cons_of_mem _ hy)
    by_cases hr : r ∈ s.supply.reqs
    · have hstay : s.staysBehind blocked r := (h r List.mem_cons_self).imp_right fun ⟨hw, hp⟩ => ⟨hw, canPay_blocked _ hp⟩
      rw [s.supplyLoop_stays l hr hstay, ih]
    · rw [State.supplyLoop, if_pos (by simpa using hr), ih]

theorem State.dropDeferred_idle (l : List SupReq) (blocked : List Nat)
    (h : ∀ r ∈ l, (s.waitedTooLong r && !s.heldBack r) = false) : s.dropDeferred l blocked = s := by
  induction l generalizing blocked with
  | nil => rfl
  | cons r l ih =>
    have ih := fun b => ih b fun y hy => h y (List.mem_cons_of_mem _ hy)
    rw [State.dropDeferred, h r List.mem_cons_self, if_neg Bool.false_ne_true, ih, ih, ite_self]

/-- A request behind one that stays, of a domain of that one's. -/
theorem State.supplyLoop_headed {r r2 : SupReq} (hreqs : s.supply.reqs = [r, r2]) (hw : s.waitedTooLong r = false)
    (hw2 : s.waitedTooLong r2 = false) (hp : canPay s.supply.levels [] r.costs = false) {d c c2 : Nat}
    (hd : (d, c) ∈ r.costs) (hd2 : (d, c2) ∈ r2.costs) : s.supplyLoop s.supply.reqs [] = s := by
  have hblocked : d ∈ [] ++ r.costs.map fun p => p.1 := List.mem_map_of_mem (f := fun p : Nat × Nat => p.1) hd
  rw [hreqs, s.supplyLoop_stays _ (by simp [hreqs]) (.inr ⟨hw, hp⟩),
    s.supplyLoop_stays _ (by simp [hreqs]) (.inr ⟨hw2, canPay_of_blocked hd2 hblocked⟩)]
  rfl

/-! #### A single request -/

/-- The one request that waits is taken out of its queue, and the levels become `levels`. -/
def State.takeReq (s : State) (levels : Tbl Nat) : State := s.modSupply fun _ => { levels := levels, reqs := [] }

section
variable {s} {r : SupReq} (hreqs : s.supply.reqs = [r]) (hh : s.heldBack r = false)
include hreqs hh

theorem State.exec_supplyRelease_paid (hw : s.waitedTooLong r = false) (hp : canPay s.supply.levels [] r.costs = true) :
    exec .supplyRelease s = .next ((s.takeReq (s.paidLevels r)).releaseReq r) := by
  have htake : (s.modSupply fun x => { x with reqs := x.reqs.erase r, levels := s.paidLevels r }) = s.takeReq (s.paidLevels r) := by
    simp [State.modSupply, State.takeReq, hreqs]
  refine congrArg Host.Outcome.next ?_
  rw [hreqs, State.supplyLoop, hh, hw, hp, htake]
  simp [hreqs, State.supplyLoop]

theorem State.exec_startDeferred_late (hw : s.waitedTooLong r = true) :
    exec .startDeferred s = .next ((s.takeReq s.supply.levels).dropReq [] r) := by
  have htake : (s.modSupply fun x => { x with reqs := x.reqs.erase r }) = s.takeReq s.supply.levels := by
    simp [State.modSupply, State.takeReq, hreqs]
  refine congrArg Host.Outcome.next ?_
  rw [hreqs, State.dropDeferred, hh, hw, htake]
  simp [hreqs, State.dropDeferred]

/-- A node that its domain has paid for wakes (R114, R281). -/
theorem State.completes_supplyRelease_wake {h : Hdr} {n : Nat} (hk : r.kind = .wake h n) (hw : s.waitedTooLong r = false)
    (hp : canPay s.supply.levels [] r.costs = true) : Completes .supplyRelease s fun t =>
      t.supply = { levels := payAll s.supply.levels r.costs, reqs := [] } ∧ t.node n = { s.node n with wake := true } ∧
        Answered s t h stOk ∧ { t with supply := s.supply, selide := s.selide, host := s.host } = s := by
  have hpaid : s.paidLevels r = payAll s.supply.levels r.costs := by
    rw [State.paidLevels, State.refusesReq, hk, if_neg Bool.false_ne_true]
  let u := s.takeReq (payAll s.supply.levels r.costs)
  let v := u.modNode n fun x => { x with wake := true }
  have hexec : exec .supplyRelease s = .next (v.done 0x010A h stOk) := by
    rw [State.exec_supplyRelease_paid hreqs hh hw hp, hpaid, State.releaseReq, hk]
  have hframe := v.done_frame 0x010A h stOk
  refine ⟨_, hexec, v.done_supply .., ?_, State.answered_done _ h stOk id rfl, ?_⟩
  · refine (congrArg (fun y : State => y.node n) hframe :).trans ?_
    exact (u.modNode_node n n _).trans (if_pos rfl)
  · exact (congrArg (fun y : State => { y with supply := s.supply, selide := s.selide, host := s.host }) hframe :)

/-- Axes whose domains have paid are enabled (R114, R443). -/
theorem State.completes_supplyRelease_enable {h : Hdr} {axes : List Nat} (hk : r.kind = .enable h axes)
    (hw : s.waitedTooLong r = false) (hp : canPay s.supply.levels [] r.costs = true)
    (hready : ∀ a ∈ axes, s.enableCheck a = stOk) (hoff : ∃ a ∈ axes, (s.axis a).psEn = false) :
    Completes .supplyRelease s fun t => t.supply = { levels := payAll s.supply.levels r.costs, reqs := [] } ∧
        (∀ a ∈ axes, (t.axis a).psEn = true) ∧ Answered s t h stOk ∧
        { t with supply := s.supply, axes := s.axes, host := s.host } = s := by
  have hpaid : s.paidLevels r = payAll s.supply.levels r.costs := by
    have hnone : (axes.any fun a => s.enableCheck a ≠ stOk) = false := by simpa using hready
    rw [State.paidLevels, State.refusesReq, hk]
    exact if_neg (hnone ▸ Bool.false_ne_true)
  let u := s.takeReq (payAll s.supply.levels r.costs)
  let v := u.enableStages axes
  have hrelease : u.releaseEnable h axes = v.done 0x0105 h stOk := by
    have hready' : ∀ a ∈ axes, u.enableCheck a = stOk := hready
    have hoff' : ∃ a ∈ axes, (u.axis a).psEn = false := hoff
    have hnone : (axes.find? fun a => u.enableCheck a ≠ stOk) = none := by simpa using hready'
    have hall : (axes.all fun a => (u.axis a).psEn) = false := by simpa using hoff'
    rw [State.releaseEnable, hnone]
    exact if_neg (hall ▸ Bool.false_ne_true)
  have hexec : exec .supplyRelease s = .next (v.done 0x0105 h stOk) := by
    rw [State.exec_supplyRelease_paid hreqs hh hw hp, hpaid, State.releaseReq, hk]
    exact congrArg _ hrelease
  have hstages : { v with axes := u.axes } = u :=
    u.forEach_modAxis_frame axes id fun _ x => { x with psEn := true, psOff := none }
  have hframe := v.done_frame 0x0105 h stOk
  refine ⟨_, hexec, (v.done_supply ..).trans (congrArg State.supply hstages :), fun a ha => ?_,
    State.answered_done _ h stOk (fun ho => ?_) (congrArg (fun y : State => y.tick.cycle) hstages :), ?_⟩
  · refine (congrArg (fun y : State => (y.axis a).psEn) hframe :).trans ?_
    exact u.forEach_modAxis_mem (fun y => y.psEn = true) (fun _ x => { x with psEn := true, psOff := none }) ha fun _ => rfl
  · exact (congrArg State.NoOrphan hstages :) ▸ ho
  · exact (congrArg (fun y : State => { y with supply := s.supply, axes := s.axes, host := s.host }) hframe :).trans
      (congrArg (fun y : State => { y with supply := s.supply, host := s.host }) hstages :)

/-- A host's request that has waited too long is DEFERRED, with the first domain that held it up (R115). -/
theorem State.completes_startDeferred_enable {h : Hdr} {axes : List Nat} {d c : Nat} {l : List (Nat × Nat)}
    (hk : r.kind = .enable h axes) (hw : s.waitedTooLong r = true) (hc : r.costs = (d, c) :: l)
    (hlow : tblGet 0 s.supply.levels d < c * 65536) : Completes .startDeferred s fun t =>
      t.supply = { s.supply with reqs := [] } ∧ Answered s t h stDeferred ∧
        Records s t evStartDeferred s.devRef [1, h.obj.toNat, d, (s.tick.no - r.joined) * s.P / 1000000] ∧
        { t with supply := s.supply, recd := s.recd, host := s.host } = s := by
  let u := s.takeReq s.supply.levels
  let v := u.emit evStartDeferred s.devRef [1, h.obj.toNat, d, (s.tick.no - r.joined) * s.P / 1000000]
  have hdrop : u.dropReq [] r = v.done 0x0105 h stDeferred := by
    have hfirst : (r.costs.find? fun p => [].contains p.1 || decide (tblGet 0 u.supply.levels p.1 < p.2 * 65536)) =
        some (d, c) := by
      rw [hc]
      exact List.find?_cons_of_pos (Bool.or_eq_true_iff.mpr (.inr (decide_eq_true hlow)))
    rw [State.dropReq, hfirst, hk]
    rfl
  have hframe := v.done_frame 0x0105 h stDeferred
  refine ⟨_, (State.exec_startDeferred_late hreqs hh hw).trans (congrArg _ hdrop), v.done_supply ..,
    State.answered_done _ h stDeferred id rfl, ?_, ?_⟩
  · have hrec : Records s v _ _ _ := u.records_emit evStartDeferred s.devRef
      [1, h.obj.toNat, d, (s.tick.no - r.joined) * s.P / 1000000]
    intro hq
    rw [v.done_recd]
    exact hrec hq
  · exact (congrArg (fun y : State => { y with supply := s.supply, recd := s.recd, host := s.host }) hframe :)

/-- A start that has waited too long empties its queue (R115). -/
theorem State.completes_startDeferred_start {q : Word} {g : Seg} {l : List Seg} (hk : r.kind = .start q)
    (hs : (s.queue q).segs = g :: l) (hg : g.homing = false) (hw : s.waitedTooLong r = true) :
    Completes .startDeferred s fun t => (t.queue q).segs = [] ∧ t.supply.reqs = [] ∧
        t.supply.levels = s.supply.levels ∧ RecordsWithin 1 s t evSegEnd q [g.segId.toNat, ocDeferred] := by
  let u := s.takeReq s.supply.levels
  obtain ⟨args, l, hdrop⟩ : ∃ args l, u.dropReq [] r =
      ((u.emit evStartDeferred u.devRef args).dropQueue q ocDeferred).forEach l State.homeFail := by
    rw [State.dropReq, hk]
    exact ⟨_, _, rfl⟩
  let v := u.emit evStartDeferred u.devRef args
  let w := v.dropQueue q ocDeferred
  have hfail : w.Stills (w.forEach l State.homeFail) := w.stills_forEach l State.stills_homeFail
  have hstill : v.Stills (w.forEach l State.homeFail) := (v.brakes_dropQueue q ocDeferred).toStills.trans hfail
  refine ⟨_, (State.exec_startDeferred_late hreqs hh hw).trans (congrArg _ hdrop), hfail.empty q (v.dropQueue_segs q _),
    List.eq_nil_iff_forall_not_mem.mpr fun y hy => (List.not_mem_nil (hstill.reqs y hy)), hstill.levels, fun hq => ?_⟩
  have hroom : queuedEvents v.recd.queue < 1024 := by
    have := u.queuedEvents_emit evStartDeferred u.devRef args (Nat.lt_of_succ_lt hq)
    exact this.trans_lt hq
  have hrec : Records v w evSegEnd q [g.segId.toNat, ocDeferred] := v.records_dropQueue hs hg (by decide)
  exact hfail.toMoves.events _ (hrec hroom) trivial
end

/-- Settles O47: the loop of R113 leaves a request that stays (`staysBehind`), and takes a single one that is paid or late. -/
theorem supplyServesInArrivalOrder : Obligations.SupplyServesInArrivalOrder := by
  unfold Obligations.SupplyServesInArrivalOrder
  intro s r r2
  refine ⟨fun h => completes_self (congrArg _ (s.supplyLoop_idle _ _ fun y hy => .inr (h y hy))),
    fun hreqs hw hw2 hp ⟨d, c, c2, hd, hd2⟩ => completes_self (congrArg _ (s.supplyLoop_headed hreqs hw hw2 hp hd hd2)),
    fun hheld c hc => ?_, fun h n hreqs hh => State.completes_supplyRelease_wake hreqs hh,
    fun h axes hreqs hh => State.completes_supplyRelease_enable hreqs hh,
    fun h => completes_self (congrArg _ (s.dropDeferred_idle _ _ fun y hy => by rw [h y hy, Bool.false_and])),
    fun h axes d c l hreqs hh => State.completes_startDeferred_enable hreqs hh,
    fun q g l hreqs hh hk hs hg hw => State.completes_startDeferred_start hreqs hh hk hs hg hw⟩
  simp only [List.mem_cons, List.not_mem_nil, or_false] at hc
  obtain rfl | rfl := hc
  · exact completes_self (congrArg _ (s.supplyLoop_idle _ _ fun y hy => .inl (hheld y hy)))
  · exact completes_self (congrArg _ (s.dropDeferred_idle _ _ fun y hy => by rw [hheld y hy, Bool.not_true, Bool.and_false]))

end Sys2Proof.Machine

/-! ### MOVE (R91 to R93) -/

namespace Sys2Proof.Machine
open Sys2Proof.Claims

variable (s : State)

/-- A command on several axes that no axis refuses acts on all of them. -/
theorem State.onAxes_accepted {op : Nat} {h : Hdr} {check : Nat → Nat} {act : List Nat → State}
    (hne : s.localAxes h.obj ≠ []) (hok : ∀ a ∈ s.localAxes h.obj, check a = stOk) :
    s.onAxes op h check act = act (s.localAxes h.obj) := by
  have hfind : ((s.localAxes h.obj).find? fun a => check a ≠ stOk) = none := by simpa using hok
  have hempty : (s.localAxes h.obj).isEmpty = false := by simpa using hne
  simp only [State.onAxes, hempty, hfind, Bool.false_eq_true, if_false]

/-- The axes of a segment are bound to its queue (R92). -/
def State.bindAxes (s : State) (q : Word) (axes : List Nat) : State :=
  s.forEach axes fun t a => t.modAxis a fun x => { x with bound := some q }

theorem State.bindAxes_frame (q : Word) (axes : List Nat) : { s.bindAxes q axes with axes := s.axes } = s :=
  s.forEach_modAxis_frame axes id fun _ x => { x with bound := some q }

theorem State.bindAxes_axis_mem (q : Word) {axes : List Nat} {a : Nat} (ha : a ∈ axes) :
    (s.bindAxes q axes).axis a = { s.axis a with bound := some q } :=
  s.forEach_modAxis_self (fun _ x => { x with bound := some q }) ha fun _ => rfl

theorem State.bindAxes_axis_other (q : Word) {axes : List Nat} {a : Nat} (ha : a ∉ axes) :
    (s.bindAxes q axes).axis a = s.axis a := s.forEach_modAxis_other axes (fun _ x => { x with bound := some q }) ha

theorem State.brakes_bindAxes (q : Word) (axes : List Nat) : s.Brakes q (s.bindAxes q axes) :=
  s.brakes_forEach q axes fun t a => t.brakes_modAxis q a fun _ => rfl

theorem State.bindAxes_queue (q k : Word) (axes : List Nat) : (s.bindAxes q axes).queue k = s.queue k :=
  (congrArg (fun y : State => y.queue k) (s.bindAxes_frame q axes) :)

theorem State.moves_enqueue (q : Word) (g : Seg) : s.Moves (s.enqueue q g) := by
  unfold State.enqueue
  extract_lets first t u
  have hu : s.Moves u := ((s.runs_modQueue q _).trans (t.brakes_bindAxes q g.axes).toRuns).toMoves
  split
  · exact hu.trans (u.moves_tryStart q)
  · exact hu

/-- A segment joins the end of a queue that is not empty. -/
def State.pushSeg (s : State) (q : Word) (g : Seg) : State := s.modQueue q fun x => { x with segs := x.segs ++ [g] }

theorem State.pushSeg_queue (q : Word) (g : Seg) :
    (s.pushSeg q g).queue q = { s.queue q with segs := (s.queue q).segs ++ [g] } :=
  s.modQueue_queue_self q fun x => { x with segs := x.segs ++ [g] }

/-- A segment that enters a queue which is not empty waits behind the others. -/
theorem State.enqueue_behind {q : Word} (g : Seg) (hne : (s.queue q).segs ≠ []) :
    s.enqueue q g = (s.pushSeg q g).bindAxes q g.axes := by
  have hempty : (s.queue q).segs.isEmpty = false := by simpa using hne
  rw [State.enqueue, hempty]
  rfl

theorem State.done_queue (op : Nat) (h : Hdr) (status : Nat) (q : Word) : (s.done op h status).queue q = s.queue q :=
  congrArg (fun x : Tbl Queue => tblGet ({} : Queue) x q.toNat) (s.done_queues op h status)

theorem State.done_axis (op : Nat) (h : Hdr) (status : Nat) (a : Nat) : (s.done op h status).axis a = s.axis a :=
  congrArg (fun x : Tbl Axis => tblGet ({} : Axis) x a) (s.done_axes op h status)

section
variable {s} {h : Hdr} {m : MoveArgs} (hf : moveFormOk m = true) (hn : (s.axesBelow h.obj).length = m.targets.length)
include hf hn

theorem State.exec_move : exec (.move h m) s = .next (if 32 ≤ (s.queue h.obj).segs.length then s.done 0x0101 h stQueueFull
    else s.onAxes 0x0101 h (s.moveCheck h.obj) fun _ =>
      if s.segValid (s.moveSeg h.obj m) (s.nextStarts h.obj (s.moveSeg h.obj m).axes) then
        (s.enqueue h.obj (s.moveSeg h.obj m)).done 0x0101 h stOk
      else s.done 0x0101 h stProfile) := by
  have htargets : m.targets.length ≠ 0 := by
    have hform := hf
    simp only [moveFormOk, Bool.and_eq_true, decide_eq_true_eq] at hform
    omega
  refine congrArg Host.Outcome.next ?_
  simp only [State.moveOp, hf, hn, htargets, Bool.not_true, Bool.false_eq_true, ne_eq, not_true_eq_false, not_false_eq_true,
    and_false, true_and, if_false]

theorem State.exec_move_accepted (hroom : (s.queue h.obj).segs.length < 32) (hne : s.localAxes h.obj ≠ [])
    (hok : ∀ a ∈ s.localAxes h.obj, s.moveCheck h.obj a = stOk) : exec (.move h m) s =
      .next (if s.segValid (s.moveSeg h.obj m) (s.nextStarts h.obj (s.moveSeg h.obj m).axes) then
        (s.enqueue h.obj (s.moveSeg h.obj m)).done 0x0101 h stOk
      else s.done 0x0101 h stProfile) := by
  rw [State.exec_move hf hn, if_neg (Nat.not_le.mpr hroom), s.onAxes_accepted hne hok]

theorem State.completes_move_full (hfull : 32 ≤ (s.queue h.obj).segs.length) : Completes (.move h m) s fun t =>
    Answered s t h stQueueFull ∧ { t with host := s.host } = s :=
  completes_done ((State.exec_move hf hn).trans (congrArg _ (if_pos hfull)))

variable (hroom : (s.queue h.obj).segs.length < 32) (hne : s.localAxes h.obj ≠ [])
  (hok : ∀ a ∈ s.localAxes h.obj, s.moveCheck h.obj a = stOk)
include hroom hne hok

theorem State.completes_move_profile
    (hv : s.segValid (s.moveSeg h.obj m) (s.nextStarts h.obj (s.moveSeg h.obj m).axes) = false) :
    Completes (.move h m) s fun t => Answered s t h stProfile ∧ { t with host := s.host } = s :=
  completes_done ((State.exec_move_accepted hf hn hroom hne hok).trans (congrArg _ (if_neg (hv ▸ Bool.false_ne_true))))

variable (hv : s.segValid (s.moveSeg h.obj m) (s.nextStarts h.obj (s.moveSeg h.obj m).axes) = true)
include hv

theorem State.completes_move : Completes (.move h m) s fun t => Answered s t h stOk ∧
    { t with host := s.host, axes := s.axes, queues := s.queues, supply := s.supply, recd := s.recd } = s := by
  let u := s.enqueue h.obj (s.moveSeg h.obj m)
  have hu : s.Moves u := s.moves_enqueue ..
  refine ⟨u.done 0x0101 h stOk, (State.exec_move_accepted hf hn hroom hne hok).trans (congrArg _ (if_pos hv)),
    hu.answered_done _ h stOk, ?_⟩
  exact (congrArg (fun v : State => { v with
    host := s.host, axes := s.axes, queues := s.queues, supply := s.supply, recd := s.recd }) (u.done_frame 0x0101 h stOk)).trans
    (congrArg (fun v : State => { v with host := s.host }) hu.frame)

/-- A move that enters a queue which is not empty changes that queue and binds its axes, and nothing more. -/
theorem State.completes_move_behind (hsegs : (s.queue h.obj).segs ≠ []) : Completes (.move h m) s fun t =>
    (t.queue h.obj).segs = (s.queue h.obj).segs ++ [s.moveSeg h.obj m] ∧ (t.queue h.obj).plan = (s.queue h.obj).plan ∧
    (∀ a ∈ (s.moveSeg h.obj m).axes, (t.axis a).bound = some h.obj ∧ { t.axis a with bound := (s.axis a).bound } = s.axis a) ∧
    (∀ a, a ∉ (s.moveSeg h.obj m).axes → t.axis a = s.axis a) ∧
    (∀ q : Word, q ≠ h.obj → t.queue q = s.queue q) ∧ t.supply = s.supply ∧ t.recd = s.recd := by
  have hexec := State.exec_move_accepted hf hn hroom hne hok
  rw [if_pos hv, s.enqueue_behind _ hsegs] at hexec
  generalize s.moveSeg h.obj m = g at hexec ⊢
  have hbind := (s.pushSeg h.obj g).bindAxes_frame h.obj g.axes
  have hqueue : (((s.pushSeg h.obj g).bindAxes h.obj g.axes).done 0x0101 h stOk).queue h.obj =
      { s.queue h.obj with segs := (s.queue h.obj).segs ++ [g] } := by
    rw [State.done_queue, State.bindAxes_queue, s.pushSeg_queue]
  refine ⟨_, hexec, congrArg Queue.segs hqueue, (congrArg Queue.plan hqueue :), fun a ha => ?_, fun a ha => ?_,
    fun q hq => ?_, ?_, ?_⟩
  · rw [State.done_axis, State.bindAxes_axis_mem _ h.obj ha]
    exact ⟨rfl, rfl⟩
  · rw [State.done_axis, State.bindAxes_axis_other _ h.obj ha]
    rfl
  · rw [State.done_queue, State.bindAxes_queue]
    exact s.modQueue_queue_other _ hq
  · rw [State.done_supply]
    exact (congrArg State.supply hbind :)
  · rw [State.done_recd]
    exact (congrArg State.recd hbind :)
end

/-! ### HALT (R99) -/

/-- A list without repeats. -/
theorem nodup_eraseDups {α : Type} [DecidableEq α] (l : List α) : l.eraseDups.Nodup := by
  induction hlen : l.length using Nat.strong_induction_on generalizing l with
  | _ n ih =>
    cases l with
    | nil => exact List.nodup_nil
    | cons a l =>
      rw [List.eraseDups_cons, List.nodup_cons]
      refine ⟨fun ha => ?_, ih _ ?_ _ rfl⟩
      · have hmem := List.mem_eraseDups.mp ha
        simp at hmem
      · exact hlen ▸ Nat.lt_succ_of_le (List.length_filter_le _ l)

theorem filter_eq_singleton {α : Type} [DecidableEq α] {l : List α} {a : α} (hn : l.Nodup) (ha : a ∈ l) :
    (l.filter fun b => decide (b = a)) = [a] := by
  rw [List.filter_eq, List.count_eq_one_of_mem hn ha]
  rfl

/-- What a HALT makes of a queue that holds a segment: the active one is re-planned, the waiting ones are dropped. -/
def Queue.Halted (x y : Queue) : Prop :=
  ∀ g r, x.segs = g :: r →
    (∀ p, x.plan = some p → y.segs = [g] ∧ y.halting = true ∧ y.plan = some (p.halt x.tau)) ∧ (x.plan = none → y.segs = [])

theorem State.haltQueue_halted {q : Word} : (s.queue q).Halted ((s.haltQueue q).queue q) := by
  intro g r hs
  refine ⟨fun p hp => ?_, fun hp => ?_⟩
  · obtain ⟨f, u, hk, hf⟩ : ∃ (f : Queue → Queue) (u : State), s.haltQueue q = u.modQueue q f ∧
        ∀ x, (f x).segs = [g] ∧ (f x).halting = true ∧ (f x).plan = some (p.halt (s.queue q).tau) := by
      rw [State.haltQueue, State.brakeQueue]
      split
      case h_1 g' r' p' h h' =>
        obtain ⟨rfl, rfl⟩ := List.cons.inj (hs.symm.trans h)
        obtain rfl := Option.some.inj (hp.symm.trans h')
        exact ⟨_, _, rfl, fun x => ⟨rfl, Bool.or_true _, rfl⟩⟩
      case h_2 h' => rw [hp] at h'; cases h'
      case h_3 h => rw [hs] at h; cases h
    rw [hk, u.modQueue_queue_self]
    exact hf _
  · have hdrop : s.haltQueue q = s.dropQueue q ocFlushed := by
      rw [State.haltQueue, State.brakeQueue]
      split
      case h_1 h' => rw [hp] at h'; cases h'
      case h_2 => rfl
      case h_3 h => rw [hs] at h; cases h
    rw [hdrop]
    exact s.dropQueue_segs q _

/-- Every queue that drives one of the axes is brought to rest. -/
def State.haltQueues (s : State) (ax : List Nat) : State := s.forEach (s.queuesOf ax) State.haltQueue

theorem State.moves_haltQueues (ax : List Nat) : s.Moves (s.haltQueues ax) :=
  s.moves_forEach _ fun t q => (t.brakes_brakeQueue true q).toMoves

theorem State.haltQueue_other {q k : Word} (hk : k ≠ q) : (s.haltQueue k).queue q = s.queue q :=
  (s.brakes_brakeQueue true k).others q hk.symm

theorem State.haltQueues_halted {ax : List Nat} {q : Word} (hq : q ∈ s.queuesOf ax) :
    (s.queue q).Halted ((s.haltQueues ax).queue q) := by
  have hnodup : (s.queuesOf ax).Nodup := (nodup_eraseDups _).filter _
  refine s.forEach_once (P := fun t => t.queue q = s.queue q) (Q := fun t => (s.queue q).Halted (t.queue q))
    (filter_eq_singleton hnodup hq) rfl (fun t k _ hk ht => ?_) (fun t ht => ?_) fun t k _ hk ht => ?_
  · exact (t.haltQueue_other (of_decide_eq_false hk)).trans ht
  · exact ht ▸ t.haltQueue_halted
  · exact (t.haltQueue_other (of_decide_eq_false hk)).symm ▸ ht

theorem State.haltQueues_other {ax : List Nat} {q : Word} (hq : q ∉ s.queuesOf ax) :
    (s.haltQueues ax).queue q = s.queue q :=
  s.forEach_keeps (fun t => t.queue q) _ _ fun t _ hk => t.haltQueue_other fun he => hq (he ▸ hk)

/-- What a HALT leaves: motion stops, and sweeps learn that they end. -/
theorem State.Moves.halt_frame {s u : State} (hu : s.Moves u) (ax : List Nat) (h : Hdr) (status : Nat) :
    { (u.haltSweeps ax).done 0x0102 h status with
      host := s.host, axes := s.axes, queues := s.queues, supply := s.supply, recd := s.recd
      lanes := { ((u.haltSweeps ax).done 0x0102 h status).lanes with sweeps := s.lanes.sweeps } } = s := by
  have hdone := congrArg (fun y : State => { y with
      host := s.host, axes := s.axes, queues := s.queues, supply := s.supply, recd := s.recd
      lanes := { y.lanes with sweeps := s.lanes.sweeps } }) ((u.haltSweeps ax).done_frame 0x0102 h status)
  exact Eq.trans hdone (congrArg (fun y : State => { y with
    host := s.host, lanes := { y.lanes with sweeps := s.lanes.sweeps } }) hu.frame :)

section
variable {s} {h : Hdr} (hrun : ∀ a ∈ s.localAxes h.obj, (s.axis a).home.run = none)
include hrun

/-- Where nothing homes, a HALT brakes the queues of its axes and ends their sweeps. -/
theorem State.exec_halt : exec (.halt h) s =
    .next (((s.haltQueues (s.localAxes h.obj)).haltSweeps (s.localAxes h.obj)).done 0x0102 h
      (if (s.queuesOf (s.localAxes h.obj)).isEmpty then stNoEffect else stOk)) := by
  have hnone : ((s.localAxes h.obj).filter fun a => (s.axis a).home.run.isSome) = [] :=
    List.filter_eq_nil_iff.mpr fun a ha => by rw [hrun a ha]; exact Bool.false_ne_true
  refine congrArg Host.Outcome.next ?_
  simp only [State.haltOp, hnone, List.any_nil, Bool.not_false, List.filter_true, List.map_nil, List.filter_nil,
    State.forEach_nil, List.isEmpty_nil, Bool.true_and, State.haltQueues]

theorem State.completes_halt (hne : s.queuesOf (s.localAxes h.obj) ≠ []) : Completes (.halt h) s fun t => Answered s t h stOk ∧
    (∀ q ∈ s.queuesOf (s.localAxes h.obj), (s.queue q).Halted (t.queue q)) ∧
    (∀ q : Word, q ∉ s.queuesOf (s.localAxes h.obj) → t.queue q = s.queue q) ∧
    { t with host := s.host, axes := s.axes, queues := s.queues, supply := s.supply, recd := s.recd,
             lanes := { t.lanes with sweeps := s.lanes.sweeps } } = s := by
  have hexec := State.exec_halt hrun
  rw [List.isEmpty_eq_false_iff.mpr hne, if_neg Bool.false_ne_true] at hexec
  have hu := s.moves_haltQueues (s.localAxes h.obj)
  have hhalted := fun q hq => s.haltQueues_halted (ax := s.localAxes h.obj) (q := q) hq
  have hother := fun q hq => s.haltQueues_other (ax := s.localAxes h.obj) (q := q) hq
  generalize s.haltQueues (s.localAxes h.obj) = u at hexec hu hhalted hother
  refine ⟨_, hexec, State.answered_done _ h stOk hu.noOrphan (congrArg TickSt.cycle hu.tick), fun q hq => ?_, fun q hq => ?_,
    hu.halt_frame ..⟩
  · rw [State.done_queue]
    exact hhalted q hq
  · rw [State.done_queue]
    exact hother q hq

theorem State.completes_halt_idle (he : s.queuesOf (s.localAxes h.obj) = []) : Completes (.halt h) s fun t =>
    Answered s t h stNoEffect ∧ t.queues = s.queues ∧ t.axes = s.axes ∧ t.supply = s.supply ∧ t.recd = s.recd := by
  have hexec := State.exec_halt hrun
  rw [State.haltQueues, he, State.forEach_nil] at hexec
  exact ⟨_, hexec, State.answered_done _ h stNoEffect id rfl, State.done_queues _ .., State.done_axes _ .., State.done_supply _ ..,
    State.done_recd _ ..⟩
end

/-- Settles O21: a MOVE is `enqueue`, which starts nothing in a queue that is not empty; a HALT is a fold of `haltQueue` over queues
of which none touches another. -/
theorem moveAndHaltActOnTheirQueues : Obligations.MoveAndHaltActOnTheirQueues := by
  unfold Obligations.MoveAndHaltActOnTheirQueues
  refine ⟨fun s h m hf hn => ⟨State.completes_move_full hf hn, fun hroom hne hok => ?_⟩, fun s h hrun => ?_⟩
  · exact ⟨State.completes_move_profile hf hn hroom hne hok, fun hv =>
      ⟨State.completes_move hf hn hroom hne hok hv, State.completes_move_behind hf hn hroom hne hok hv⟩⟩
  · exact ⟨State.completes_halt hrun, State.completes_halt_idle hrun⟩

end Sys2Proof.Machine

/-! ### HOME (R102) -/

namespace Sys2Proof.Machine
open Sys2Proof.Claims

variable (s : State)

/-- The axis is in the homing run that `w` has started, or that run has failed; HOMED is clear. -/
def HomeSt.Homing (x : HomeSt) (w : Word) : Prop := x.homed = false ∧ ((x.run.map fun r => r.root) = some w ∨ x.failed = true)

/-- `t` comes from `s` by motion that leaves every axis of the run of `w` in it, or failed. -/
structure State.Homes (w : Word) (s t : State) : Prop extends State.Moves s t where
  homing : ∀ a, (s.axis a).home.Homing w → (t.axis a).home.Homing w

theorem State.Homes.refl (w : Word) : s.Homes w s := ⟨.refl s, fun _ ha => ha⟩

theorem State.Homes.trans {w : Word} {s t u : State} (h : s.Homes w t) (h' : t.Homes w u) : s.Homes w u :=
  ⟨h.toMoves.trans h'.toMoves, fun a ha => h'.homing a (h.homing a ha)⟩

theorem State.homes_forEach {α : Type} (w : Word) (l : List α) {f : State → α → State}
    (h : ∀ (t : State) (a : α), t.Homes w (f t a)) : s.Homes w (s.forEach l f) :=
  s.forEach_invariant (s.Homes w) l f (.refl s w) fun t a _ ht => ht.trans (h t a)

theorem State.Runs.homes {q : Word} {s t : State} (h : s.Runs q t) (w : Word) : s.Homes w t :=
  ⟨h.toMoves, fun a ha => (h.home a).symm ▸ ha⟩

theorem State.homes_modAxis (w : Word) (a : Nat) {f : Axis → Axis} (h : ∀ x, x.home.Homing w → (f x).home.Homing w) :
    s.Homes w (s.modAxis a f) := by
  refine ⟨s.moves_modAxis a f, fun b hb => ?_⟩
  rw [s.modAxis_axis]
  split
  · subst_vars; exact h _ hb
  · exact hb

theorem State.homes_modHome (w : Word) (a : Nat) {f : HomeSt → HomeSt} (h : ∀ x, x.Homing w → (f x).Homing w) :
    s.Homes w (s.modHome a f) := s.homes_modAxis w a fun x hx => h x.home hx

/-- A change of the run that keeps the command it belongs to. -/
theorem State.homes_modRun (w : Word) (a : Nat) {f : HomeRun → HomeRun} (h : ∀ r, (f r).root = r.root) :
    s.Homes w (s.modRun a f) := by
  refine s.homes_modHome w a fun x ⟨hx, hrun⟩ => ⟨hx, hrun.imp_left fun hr => ?_⟩
  rw [← hr, Option.map_map]
  exact congrArg (x.run.map ·) (funext h)

theorem State.homes_homeFail (w : Word) (a : Nat) : s.Homes w (s.homeFail a) := by
  unfold State.homeFail
  split
  · exact .refl s w
  · refine s.homes_forEach w _ fun t b => ?_
    extract_lets u
    have hu : t.Homes w u := (t.brakes_homeBrake b).toRuns.homes w
    split
    · exact hu
    · exact hu.trans (u.homes_modAxis w b fun x _ => ⟨rfl, .inr rfl⟩)

theorem State.homes_tryStart (w q : Word) : s.Homes w (s.tryStart q) := by
  unfold State.tryStart
  split
  · exact .refl s w
  · extract_lets costs
    split
    · exact ((s.brakes_dropQueue ..).toRuns.homes w).trans (State.homes_forEach _ w _ fun t b => t.homes_homeFail w b)
    · exact ((s.runs_modQueue q _).trans (State.runs_joinStart _ q costs)).homes w

theorem State.homes_homeSegment (w : Word) (a : Nat) (neg : Bool) (v : Nat) (dist : Int) :
    s.Homes w (s.homeSegment a neg v dist) := by
  unfold State.homeSegment
  extract_lets q g
  refine ((s.homes_modAxis w a ?_).trans ((State.runs_modQueue _ q _).homes w)).trans (State.homes_tryStart _ w q)
  exact fun _ hx => hx

theorem State.homes_enterHome (w : Word) (a st : Nat) : s.Homes w (s.enterHome a st) := by
  unfold State.enterHome
  split
  · exact .refl s w
  · extract_lets lv rev fast slow st' t
    have ht : s.Homes w t := by
      refine (s.homes_modHome w a ?_).trans (State.homes_modRun _ w a ?_)
      · exact fun _ hx => hx
      · exact fun _ => rfl
    clear_value st' t
    split
    · exact ht.trans (t.homes_homeSegment ..)
    · exact ht.trans (t.homes_homeSegment ..)
    · exact ht.trans (t.homes_homeSegment ..)
    · exact ht.trans (t.homes_homeSegment ..)

theorem State.homes_beginMethod (w : Word) (a : Nat) : s.Homes w (s.beginMethod a) := by
  unfold State.beginMethod
  extract_lets t
  have ht : s.Homes w t := s.homes_modRun w a fun _ => rfl
  split
  · exact ht.trans (t.homes_enterHome ..)
  · exact ht.trans (t.homes_enterHome ..)
  · exact ht.trans (t.homes_modHome w a fun _ hx => hx)
  · exact ht.trans (t.homes_enterHome ..)

theorem State.homes_startStage (w root : Word) : s.Homes w (s.startStage root) :=
  s.homes_forEach w _ fun t a => t.homes_beginMethod w a

/-- Every axis of a list waits for its stage of the run of `root`. -/
def State.freshRuns (s : State) (ax : List Nat) (root : Word) : State :=
  s.forEach ax fun t a => t.modAxis a fun x => x.homeFresh root (s.pU 0x301D a)

theorem State.freshRuns_homing {ax : List Nat} (root : Word) {a : Nat} (ha : a ∈ ax) :
    ((s.freshRuns ax root).axis a).home.Homing root :=
  s.forEach_modAxis_mem (fun y => y.home.Homing root) (fun a x => x.homeFresh root (s.pU 0x301D a)) ha
    fun _ => ⟨rfl, .inl rfl⟩

theorem State.moves_freshRuns (ax : List Nat) (root : Word) : s.Moves (s.freshRuns ax root) :=
  s.moves_forEach ax fun t a => t.moves_modAxis a _

/-- Motion and a completion leave all but axes, queues, supply, records and the host interface. -/
theorem State.Moves.done_frame {s u : State} (hu : s.Moves u) (op : Nat) (h : Hdr) (status : Nat) :
    { u.done op h status with host := s.host, axes := s.axes, queues := s.queues, supply := s.supply, recd := s.recd } = s :=
  (congrArg (fun v : State => { v with
    host := s.host, axes := s.axes, queues := s.queues, supply := s.supply, recd := s.recd }) (u.done_frame op h status)).trans
    (congrArg (fun v : State => { v with host := s.host }) hu.frame)

theorem State.completes_home {h : Hdr} (hne : s.localAxes h.obj ≠ []) (hok : ∀ a ∈ s.localAxes h.obj, s.homeCheck a = stOk) :
    Completes (.home h) s fun t => Answered s t h stOk ∧
      (∀ a ∈ s.localAxes h.obj, (t.axis a).home.homed = false ∧
        (((t.axis a).home.run.map fun r => r.root) = some h.obj ∨ (t.axis a).home.failed = true)) ∧
      { t with host := s.host, axes := s.axes, queues := s.queues, supply := s.supply, recd := s.recd } = s := by
  let u := (s.freshRuns (s.localAxes h.obj) h.obj).startStage h.obj
  have hstart : (s.freshRuns (s.localAxes h.obj) h.obj).Homes h.obj u := State.homes_startStage _ h.obj h.obj
  have hu : s.Moves u := (s.moves_freshRuns ..).trans hstart.toMoves
  refine ⟨u.done 0x0103 h stOk, congrArg _ (s.onAxes_accepted hne hok), hu.answered_done 0x0103 h stOk, fun a ha => ?_,
    hu.done_frame ..⟩
  rw [State.done_axis]
  exact hstart.homing a (s.freshRuns_homing h.obj ha)

/-! ### ALIGN (R83) -/

/-- The power stage is enabled and the alignment has begun. -/
def Axis.aligning (x : Axis) (start : Nat) : Axis := { x.opened with psEn := true, align := some { start := start } }

theorem Axis.aligning_aligning (x : Axis) (start : Nat) : (x.aligning start).aligning start = x.aligning start := rfl

/-- A change of axes and a completion leave all but axes and the host interface. -/
theorem State.done_axes_frame {s u : State} (hu : { u with axes := s.axes } = s) (op : Nat) (h : Hdr) (status : Nat) :
    { u.done op h status with host := s.host, axes := s.axes } = s :=
  (congrArg (fun y : State => { y with host := s.host, axes := s.axes }) (u.done_frame op h status)).trans
    (congrArg (fun y : State => { y with host := s.host }) hu)

theorem State.completes_align {h : Hdr} (hne : s.localAxes h.obj ≠ []) (hok : ∀ a ∈ s.localAxes h.obj, s.alignCheck a = stOk) :
    Completes (.align h) s fun t => Answered s t h stOk ∧
      (∀ a ∈ s.localAxes h.obj, (t.axis a).psEn = true ∧ (t.axis a).closed = false ∧ (t.axis a).brakeRel = false ∧
        (t.axis a).align = some { start := s.now } ∧ (t.axis a).home = (s.axis a).home ∧ (t.axis a).fb = (s.axis a).fb) ∧
      (∀ a, a ∉ s.localAxes h.obj → t.axis a = s.axis a) ∧ { t with host := s.host, axes := s.axes } = s := by
  let u := s.forEach (s.localAxes h.obj) fun t a => t.modAxis a fun x => x.aligning s.now
  have hu : s.Moves u := s.moves_forEach _ fun t a => t.moves_modAxis a _
  have hframe : { u with axes := s.axes } = s := s.forEach_modAxis_frame _ id fun _ x => x.aligning s.now
  refine ⟨u.done 0x0104 h stOk, congrArg _ (s.onAxes_accepted hne hok), hu.answered_done 0x0104 h stOk,
    fun a ha => ?_, fun a ha => ?_, State.done_axes_frame hframe ..⟩
  · have haxis : u.axis a = (s.axis a).aligning s.now :=
      s.forEach_modAxis_self (fun _ x => x.aligning s.now) ha fun x => x.aligning_aligning s.now
    rw [State.done_axis, haxis]
    exact ⟨rfl, rfl, rfl, rfl, rfl, rfl⟩
  · rw [State.done_axis]
    exact s.forEach_modAxis_other _ (fun _ x => x.aligning s.now) ha

/-! ### SWEEP (R331) -/

/-- A sweep of an axis waits in its lane. -/
def State.addSweep (s : State) (h : Hdr) (x : SweepArgs) (a : Nat) : State :=
  s.modLanes fun y => { y with sweeps := y.sweeps ++ [{ hdr := h, axis := a, args := x, startTick := s.tick.no }] }

/-- A sweep begins: the pair that serves the axis's lane enters TEST. -/
def State.enterSweep (s : State) (h : Hdr) (x : SweepArgs) (a : Nat) : State :=
  match ((s.addSweep h x a).laneOf a).bind fun p => (s.addSweep h x a).pairOf p.1 with
  | some p => (s.addSweep h x a).modPair p fun y => y.enter lpTest
  | none => s.addSweep h x a

/-- `t` comes from `s` by sweeps that begin: lanes and pairs serve what they served. -/
structure State.Sweeping (s t : State) : Prop where
  frame : { t with lanes := s.lanes } = s
  log : t.lanes.log = s.lanes.log
  kernel : t.lanes.kernel = s.lanes.kernel
  pairs : ∀ l, t.pairOf l = s.pairOf l

theorem State.pairOf_working {l p : Nat} (h : s.pairOf l = some p) : (s.pair p).working = true := by
  have hp := List.find?_some h
  simp only [Bool.and_eq_true] at hp
  exact hp.2

/-- A pair that works goes on serving its lane in TEST. -/
theorem State.pairOf_enterTest {p : Nat} (hp : (s.pair p).working = true) (l : Nat) :
    (s.modPair p fun y => y.enter lpTest).pairOf l = s.pairOf l := by
  unfold State.pairOf
  refine congrArg (fun f => pairNos.find? f) (funext fun k => ?_)
  rw [s.modPair_pair]
  split
  · subst_vars
    rw [hp]
    rfl
  · rfl

theorem State.enterSweep_cases (h : Hdr) (x : SweepArgs) (a : Nat) :
    (∃ l k p, s.laneOf a = some (l, k) ∧ s.pairOf l = some p ∧
      s.enterSweep h x a = (s.addSweep h x a).modPair p fun y => y.enter lpTest) ∨
    ((∀ l k, s.laneOf a = some (l, k) → s.pairOf l = none) ∧ s.enterSweep h x a = s.addSweep h x a) := by
  unfold State.enterSweep
  split
  case h_1 p hp =>
    obtain ⟨⟨l, k⟩, hl, hlp⟩ := Option.bind_eq_some_iff.mp hp
    exact .inl ⟨l, k, p, hl, hlp, rfl⟩
  case h_2 hp => exact .inr ⟨fun l k hl => Option.bind_eq_none_iff.mp hp (l, k) hl, rfl⟩

theorem State.enterSweep_sweeps (h : Hdr) (x : SweepArgs) (a : Nat) : (s.enterSweep h x a).lanes.sweeps =
    s.lanes.sweeps ++ [{ hdr := h, axis := a, args := x, startTick := s.tick.no }] := by
  obtain ⟨l, k, p, -, -, he⟩ | ⟨-, he⟩ := s.enterSweep_cases h x a
  · rw [he]
    rfl
  · rw [he]
    rfl

/-- A pair in TEST stays in TEST. -/
theorem State.enterSweep_keepsTest {h : Hdr} {x : SweepArgs} {a p : Nat} (hp : (s.pair p).state = lpTest) :
    ((s.enterSweep h x a).pair p).state = lpTest := by
  obtain ⟨l, k, q, -, -, he⟩ | ⟨-, he⟩ := s.enterSweep_cases h x a
  · rw [he, State.modPair_pair]
    split
    · rfl
    · exact hp
  · rw [he]
    exact hp

/-- The pair that serves the axis's lane enters TEST. -/
theorem State.enterSweep_test {h : Hdr} {x : SweepArgs} {a l k p : Nat} (hl : s.laneOf a = some (l, k))
    (hp : s.pairOf l = some p) : ((s.enterSweep h x a).pair p).state = lpTest := by
  obtain ⟨l', k', p', hl', hp', he⟩ | ⟨hnone, -⟩ := s.enterSweep_cases h x a
  · obtain ⟨rfl, rfl⟩ := Prod.mk.inj (Option.some.inj (hl'.symm.trans hl))
    obtain rfl := Option.some.inj (hp'.symm.trans hp)
    rw [he, State.modPair_pair, if_pos rfl]
    rfl
  · exact absurd ((hnone l k hl).symm.trans hp) (by simp)

theorem State.Sweeping.refl : s.Sweeping s := ⟨rfl, rfl, rfl, fun _ => rfl⟩

theorem State.Sweeping.tick {s t : State} (h : s.Sweeping t) : t.tick = s.tick := (congrArg State.tick h.frame :)

theorem State.Sweeping.laneOf {s t : State} (h : s.Sweeping t) (a : Nat) : t.laneOf a = s.laneOf a := by
  rw [State.laneOf, h.log, State.laneOf]

theorem State.Sweeping.enterSweep {s t : State} (ht : s.Sweeping t) (h : Hdr) (x : SweepArgs) (a : Nat) :
    s.Sweeping (t.enterSweep h x a) := by
  obtain ⟨l, k, p, -, hp, he⟩ | ⟨-, he⟩ := t.enterSweep_cases h x a
  · rw [he]
    exact ⟨ht.frame, ht.log, ht.kernel, fun l =>
      (State.pairOf_enterTest (t.addSweep h x a) (t.pairOf_working hp) l).trans (ht.pairs l)⟩
  · rw [he]
    exact ⟨ht.frame, ht.log, ht.kernel, ht.pairs⟩

/-- Sweeps of a list of axes begin. -/
def State.enterSweeps (s : State) (h : Hdr) (x : SweepArgs) (ax : List Nat) : State :=
  s.forEach ax fun t a => t.enterSweep h x a

theorem State.sweeping_enterSweeps (h : Hdr) (x : SweepArgs) (ax : List Nat) : s.Sweeping (s.enterSweeps h x ax) :=
  s.forEach_invariant s.Sweeping ax _ (.refl s) fun _ a _ ht => ht.enterSweep h x a

theorem State.enterSweeps_sweeps (h : Hdr) (x : SweepArgs) (ax : List Nat) : (s.enterSweeps h x ax).lanes.sweeps =
    s.lanes.sweeps ++ ax.map fun a => { hdr := h, axis := a, args := x, startTick := s.tick.no } := by
  induction ax generalizing s with
  | nil => exact (List.append_nil _).symm
  | cons a ax ih =>
    have hstep : s.enterSweeps h x (a :: ax) = (s.enterSweep h x a).enterSweeps h x ax := rfl
    rw [hstep, ih, s.enterSweep_sweeps, ((State.Sweeping.refl s).enterSweep h x a).tick, List.append_assoc]
    rfl

theorem State.enterSweeps_test {h : Hdr} {x : SweepArgs} {ax : List Nat} {a l k p : Nat} (ha : a ∈ ax)
    (hl : s.laneOf a = some (l, k)) (hp : s.pairOf l = some p) : ((s.enterSweeps h x ax).pair p).state = lpTest :=
  s.forEach_establishes s.Sweeping (fun t => (t.pair p).state = lpTest) ha (.refl s) (fun _ b ht => ht.enterSweep h x b)
    (fun t ht => t.enterSweep_test ((ht.laneOf a).trans hl) ((ht.pairs l).trans hp)) fun t _ _ hq => t.enterSweep_keepsTest hq

theorem State.completes_sweep {h : Hdr} {x : SweepArgs} (hne : s.localAxes h.obj ≠ [])
    (hok : ∀ a ∈ s.localAxes h.obj, s.sweepCheck x a = stOk) : Completes (.sweep h x) s fun t =>
      t.host.rings = s.host.rings ∧
      t.lanes.sweeps = s.lanes.sweeps ++ (s.localAxes h.obj).map (fun a => { hdr := h, axis := a, args := x, startTick := s.tick.no }) ∧
      (∀ a ∈ s.localAxes h.obj, ∀ l k p, s.laneOf a = some (l, k) → s.pairOf l = some p → (t.pair p).state = lpTest) ∧
      t.lanes.log = s.lanes.log ∧ t.lanes.kernel = s.lanes.kernel ∧ { t with host := s.host, lanes := s.lanes } = s := by
  let u := s.begin h
  have hall := u.sweeping_enterSweeps h x (s.localAxes h.obj)
  exact ⟨u.enterSweeps h x (s.localAxes h.obj), congrArg _ (s.onAxes_accepted hne hok),
    (congrArg (fun y : State => y.host.rings) hall.frame :), u.enterSweeps_sweeps .., fun a ha l k p hl hp =>
    u.enterSweeps_test ha hl hp, hall.log, hall.kernel, (congrArg (fun y : State => { y with host := s.host }) hall.frame :)⟩

/-- The first element that passes one test is the first that passes a second too, where it passes that. -/
theorem find?_and_of_find? {α : Type} {p q : α → Bool} {l : List α} {a : α} (h : l.find? p = some a) (hq : q a = true) :
    (l.find? fun b => p b && q b) = some a := by
  obtain ⟨hp, l1, l2, hl, hbefore⟩ := List.find?_eq_some_iff_append.mp h
  refine List.find?_eq_some_iff_append.mpr ⟨by rw [hp, hq]; rfl, l1, l2, hl, fun b hb => ?_⟩
  have hpb := hbefore b hb
  simp only [Bool.not_eq_true'] at hpb
  rw [hpb]
  rfl

theorem State.exec_sweepEnd {a : Nat} {x : SweepSt} {b : Bool} (hx : s.lanes.sweeps.find? (fun x => x.axis = a) = some x)
    (hb : s.sweepOver x = some b) : exec (.sweepEnd a) s = .next (s.sweepEndOp x b) := by
  have hfind : (s.lanes.sweeps.find? fun x => x.axis = a && (s.sweepOver x).isSome) = some x :=
    find?_and_of_find? hx (by rw [hb]; rfl)
  refine congrArg Host.Outcome.next ?_
  rw [hfind]
  dsimp only
  rw [hb]

/-- The sweep of an axis, once over, is answered and recorded (R331). -/
theorem State.completes_sweepEnd {a : Nat} {x : SweepSt} {b : Bool} (hx : s.lanes.sweeps.find? (fun x => x.axis = a) = some x)
    (hb : s.sweepOver x = some b) : Completes (.sweepEnd a) s fun t => Answered s t x.hdr (if b then stOk else stAborted) ∧
      t.lanes.sweeps = s.lanes.sweeps.filter (fun w => w.axis ≠ x.axis ∨ w.hdr ≠ x.hdr) ∧
      Records s t evSweepEnd (mkRef clsAxis x.axis) [if b then stOk else stAborted, x.samples] ∧
      { t with host := s.host, recd := s.recd, lanes := { t.lanes with sweeps := s.lanes.sweeps } } = s := by
  let st := if b then stOk else stAborted
  let u := s.modLanes fun y => { y with sweeps := y.sweeps.filter fun w => !(w.axis = x.axis && w.hdr = x.hdr) }
  let v := u.emit evSweepEnd (mkRef clsAxis x.axis) [st, x.samples]
  refine ⟨v.done 0x0109 x.hdr st, s.exec_sweepEnd hx hb, State.answered_done _ x.hdr st id rfl, ?_, fun hq => ?_,
    (congrArg (fun y : State => { y with host := s.host, recd := s.recd, lanes := { y.lanes with sweeps := s.lanes.sweeps } })
      (v.done_frame 0x0109 x.hdr st) :)⟩
  · rw [v.done_lanes]
    exact List.filter_congr fun w _ => by simp only [Bool.not_and, Bool.decide_or, ne_eq, decide_not]
  · rw [v.done_recd]
    exact u.records_emit evSweepEnd (mkRef clsAxis x.axis) [st, x.samples] hq

/-! ### CMP_LOAD (R141) -/

/-- The list that a CMP_LOAD reads from the host window. -/
def State.loadedList (s : State) (off : Word) (n : Word16) : List Int :=
  (upTo n.toNat).map fun i => sfieldAt (s.winRead (off.toNat + 8 * i) 8) 0 8

section
variable {s} {h : Hdr} {off : Word} {n : Word16}

theorem State.completes_cmpLoad (ho : strictlyOrdered (s.cmpNeg (refIndex h.obj % 16)) (s.loadedList off n) = true) :
    let k := refIndex h.obj % 16
    let l := s.loadedList off n
    Completes (.cmpLoad h off n) s fun t => Answered s t h stOk ∧ (t.cmp k).list = l ∧
      ((t.cmp k).ptr, (t.cmp k).k) = loadPointer (s.cmpNeg k) (s.cmpPos k) (s.pI 0x4044 (s.cmpIx k)) (s.cmpMode k = 2) l ∧
      (t.cmp k).sched = [] ∧ (t.cmp k).armedFires = [] ∧ (∀ j, j ≠ k → t.cmp j = s.cmp j) ∧
      { t with host := s.host, cmps := s.cmps } = s := by
  intro k l
  let p := loadPointer (s.cmpNeg k) (s.cmpPos k) (s.pI 0x4044 (s.cmpIx k)) (s.cmpMode k = 2) l
  let u := s.modCmp k fun y => { y with
    list := l, ptr := p.1, k := p.2, ended := false, sched := [], armedFires := [], sinceLoad := 0 }
  have hexec : exec (.cmpLoad h off n) s = .next (u.done 0x0108 h stOk) :=
    congrArg Host.Outcome.next (if_neg fun hc => by
      rw [Bool.not_eq_true'] at hc
      exact Bool.false_ne_true (hc.symm.trans ho))
  have hcmp (j : Nat) : (u.done 0x0108 h stOk).cmp j = u.cmp j := (congrArg (fun y : State => y.cmp j) (u.done_frame 0x0108 h stOk) :)
  have hk : (u.done 0x0108 h stOk).cmp k = _ := (hcmp k).trans ((s.modCmp_cmp k k _).trans (if_pos rfl))
  refine ⟨_, hexec, State.answered_done _ h stOk id rfl, ?_⟩
  rw [hk]
  refine ⟨rfl, rfl, rfl, rfl, fun j hj => ?_, ?_⟩
  · exact (hcmp j).trans ((s.modCmp_cmp k j _).trans (if_neg hj))
  · exact (congrArg (fun y : State => { y with host := s.host, cmps := s.cmps }) (u.done_frame 0x0108 h stOk) :)

theorem State.completes_cmpLoad_refused
    (ho : strictlyOrdered (s.cmpNeg (refIndex h.obj % 16)) (s.loadedList off n) = false) :
    Completes (.cmpLoad h off n) s fun t => Answered s t h stArg ∧ { t with host := s.host } = s :=
  completes_done (congrArg Host.Outcome.next (if_pos (by rw [Bool.not_eq_true']; exact ho)))
end

/-- Settles O22: the commands on axes are folds over them; a fresh run stays one, or fails, while its first stage starts (`Homes`). -/
theorem homeAlignSweepAndCompare : Obligations.HomeAlignSweepAndCompare := by
  unfold Obligations.HomeAlignSweepAndCompare
  refine ⟨fun s h hne => ⟨s.completes_home hne, s.completes_align hne, fun x => s.completes_sweep hne⟩,
    fun s h off n => ⟨State.completes_cmpLoad, State.completes_cmpLoad_refused⟩,
    fun s a x b hx hb => s.completes_sweepEnd hx hb⟩

end Sys2Proof.Machine

/-! ### Stages of a homing run (R102, R103) -/

namespace Sys2Proof.Machine
open Sys2Proof.Claims

variable (s : State)

/-! #### The segment of a search -/

/-- The limits of a segment of one axis are that axis's own (R89). -/
theorem State.segLimits_single {g : Seg} {a : Nat} {x y : Int} (ha : g.axes = [a]) (ht : g.targets = [x]) :
    s.segLimits g [y] = { lead := 0, dist := turns (x - y).natAbs, vm := (s.profLimits g a).1,
                          acc := (s.profLimits g a).2.1, dec := (s.profLimits g a).2.2, coLead := false } := by
  have harg : ∀ q : Rat, argMax [q] 0 0 0 = 0 := fun q => by simp [argMax]
  simp [State.segLimits, State.limitsWith, deltasOf, ha, ht, harg, nthD, upTo, List.range_succ]

theorem turns_nonneg (n : Nat) : 0 ≤ turns n := Rat.mkRat_nonneg (Int.natCast_nonneg n) _

theorem turns_ne_zero {n : Nat} (h : n ≠ 0) : turns n ≠ 0 := by
  rw [turns, Ne, Rat.mkRat_eq_zero (by decide)]
  exact_mod_cast h

/-- A plan from rest to rest is valid (R88). -/
theorem planValid_rest {D vm : Rat} (a d : Rat) (hD : 0 ≤ D) (hv : 0 ≤ vm) : planValid D 0 vm 0 a d = true := by
  simp [planValid, hD, hv]

/-- The segment that drives a homing axis over a distance at a homing speed (R102). -/
def State.homeSeg (s : State) (a : Nat) (neg : Bool) (v : Nat) (dist : Int) : Seg :=
  { segId := 0, notify := false, vStart := 0, vStop := 0, axes := [a],
    targets := [satS 64 ((s.axis a).lp.hold + sgnDir neg * dist)], homing := true, vFix := v }

theorem State.segValid_homeSeg (a : Nat) (neg : Bool) (v : Nat) (dist y : Int) :
    s.segValid (s.homeSeg a neg v dist) [y] = true := by
  rw [State.segValid, s.segLimits_single (a := a) rfl rfl, Bool.or_eq_true]
  refine .inr ?_
  have hzero : mkRat (0 : Nat) 65536 = 0 := Rat.zero_mkRat _
  show planValid _ (mkRat (0 : Nat) 65536) _ (mkRat (0 : Nat) 65536) _ _ = true
  rw [hzero]
  exact planValid_rest _ _ (turns_nonneg _) (Rat.mkRat_nonneg (Int.natCast_nonneg v) _)

/-- An axis of a domain without supply limits starts at no cost (R111, Table 4.10). -/
theorem State.startCost_homeSeg {a : Nat} (hsup : ∀ y, s.axisRec a = some y → 8 ≤ y.supply) (neg : Bool) (v : Nat) (dist : Int) :
    s.startCost (s.homeSeg a neg v dist) = [] := by
  have hcost : ∀ delta, s.axisStartCost a delta = none := by
    intro delta
    unfold State.axisStartCost
    split
    case h_1 y hy => rw [decide_eq_true (hsup y hy), Bool.or_true, if_pos rfl]
    case h_2 => rfl
  have hlist : ((s.homeSeg a neg v dist).axes.zip
      (deltasOf (s.startsOf (s.homeSeg a neg v dist)) (s.homeSeg a neg v dist).targets)).filterMap
        (fun p => s.axisStartCost p.1 p.2) = [] := by
    simp [State.homeSeg, State.startsOf, deltasOf, hcost]
  rw [State.startCost, hlist]
  decide

/-- The axis's own queue holds the segment of a search, before it asks to start. -/
def State.searching (s : State) (a : Nat) (g : Seg) : State :=
  (s.modAxis a fun x => { x with bound := some (mkRef clsAxis a) }).modQueue (mkRef clsAxis a) fun x =>
    { x with segs := [g], plan := none, waiting := false, halting := false, endedTick := none }

theorem State.homeSegment_eq (a : Nat) (neg : Bool) (v : Nat) (dist : Int) :
    s.homeSegment a neg v dist = (s.searching a (s.homeSeg a neg v dist)).tryStart (mkRef clsAxis a) := rfl

theorem State.runs_searching (a : Nat) (g : Seg) : s.Runs (mkRef clsAxis a) (s.searching a g) := by
  refine (s.brakes_modAxis _ a ?_).toRuns.trans (State.runs_modQueue _ _ _)
  exact fun _ => rfl

theorem State.searching_queue (a : Nat) (g : Seg) : (s.searching a g).queue (mkRef clsAxis a) =
    { s.queue (mkRef clsAxis a) with segs := [g], plan := none, waiting := false, halting := false, endedTick := none } :=
  State.modQueue_queue_self _ _ _

theorem State.searching_axis (a : Nat) (g : Seg) :
    (s.searching a g).axis a = { s.axis a with bound := some (mkRef clsAxis a) } :=
  s.modAxis_axis_self a fun x => { x with bound := some (mkRef clsAxis a) }

/-- `t` comes from `s` as the axis sets out with segment `g` on its own queue. -/
structure State.SetsOut (s t : State) (a : Nat) (g : Seg) : Prop extends State.Runs (mkRef clsAxis a) s t where
  bound : (t.axis a).bound = some (mkRef clsAxis a)
  segs : (t.queue (mkRef clsAxis a)).segs = [g]
  plan : (t.queue (mkRef clsAxis a)).plan.isSome = true
  alone : ∀ b, b ≠ a → t.axis b = s.axis b
  unpaid : { t with axes := s.axes, queues := s.queues } = s

/-- A search of an axis without supply limits starts at once. -/
theorem State.setsOut_homeSegment {a : Nat} {neg : Bool} {v : Nat} {dist : Int}
    (hsup : ∀ y, s.axisRec a = some y → 8 ≤ y.supply)
    (hdist : satS 64 ((s.axis a).lp.hold + sgnDir neg * dist) ≠ (s.axis a).lp.hold) :
    s.SetsOut (s.homeSegment a neg v dist) a (s.homeSeg a neg v dist) := by
  let g := s.homeSeg a neg v dist
  let q := mkRef clsAxis a
  let w := s.searching a g
  let u := w.startPaid q []
  let tau := (w.queue q).tau
  have hcost : w.startCost g = [] := by
    have hsame : w.startCost g = s.startCost g := by
      rw [State.startCost, State.startsOf]
      show costList (([a].zip (deltasOf [(w.axis a).lp.hold] g.targets)).filterMap _) = _
      rw [s.searching_axis]
      rfl
    rw [hsame]
    exact s.startCost_homeSeg hsup neg v dist
  have hpaid : w.startPaid q (w.startCost g) = u := by rw [hcost]
  have hstarts : u.startsOf g = [(s.axis a).lp.hold] := by
    show [(w.axis a).lp.hold] = _
    rw [s.searching_axis]
  have hsegs : (w.queue q).segs = [g] := congrArg Queue.segs (s.searching_queue a g)
  have htry : w.tryStart q = u.startedWith q g tau := by
    rw [State.tryStart_pays hsegs (by rw [hcost]; rfl) (by rw [hcost]; rfl), hpaid]
    refine State.beginSegment_started (State.startPaid_segs hsegs []) _ ?_ ?_
    · rw [hstarts]
      exact s.segValid_homeSeg a neg v dist _
    · show (u.segLimits g (u.startsOf g)).dist ≠ 0
      rw [hstarts, u.segLimits_single (a := a) rfl rfl]
      refine turns_ne_zero fun h => hdist ?_
      exact sub_eq_zero.mp (Int.natAbs_eq_zero.mp h)
  have hqueue := u.startedWith_queue q g tau
  rw [w.startPaid_queue, s.searching_queue] at hqueue
  rw [s.homeSegment_eq, htry]
  refine ⟨((s.runs_searching a g).trans (w.runs_startPaid q [])).trans (u.runs_startedWith q g tau), ?_,
    congrArg Queue.segs hqueue, ?_, fun b hb => ?_, ?_⟩
  · rw [u.startedWith_axis]
    exact congrArg Axis.bound (s.searching_axis a g)
  · rw [hqueue]
    rfl
  · have hother : (u.startedWith q g tau).axis b = u.axis b :=
      State.markKept_axis_other _ false fun hmem => hb (List.mem_singleton.mp hmem)
    rw [hother]
    exact s.modAxis_axis_other (fun x => { x with bound := some q }) hb
  · exact (congrArg (fun y : State => { y with axes := s.axes, queues := s.queues }) (u.startedWith_frame q g tau) :)

/-! #### The steps of Table 4.6 -/

theorem State.modHome_home (a : Nat) (f : HomeSt → HomeSt) : ((s.modHome a f).axis a).home = f (s.axis a).home :=
  congrArg Axis.home (s.modAxis_axis_self a fun x => { x with home := f x.home })

theorem State.modHome_other {a b : Nat} (f : HomeSt → HomeSt) (h : b ≠ a) : (s.modHome a f).axis b = s.axis b :=
  s.modAxis_axis_other _ h

/-- A change of a run is a change of the run alone. -/
theorem State.modRun_axis {a : Nat} {r : HomeRun} (f : HomeRun → HomeRun) (hr : (s.axis a).home.run = some r) :
    (s.modRun a f).axis a = { s.axis a with home := { (s.axis a).home with run := some (f r) } } := by
  refine (s.modAxis_axis_self a fun x => { x with home := { x.home with run := x.home.run.map f } }).trans ?_
  rw [hr]
  rfl

/-- The axis enters a HOME_STATE, before its segment (Table 4.6). -/
def State.stepEntered (s : State) (a st : Nat) : State :=
  (s.modHome a fun h => { h with state := st }).modRun a fun x =>
    { x with next := none, seenActive := (s.homeInput a).level }

/-- The directions of the first steps of Table 4.6: only a run's first search turns round with the reversal. -/
def HomeRun.neg (r : HomeRun) (st : Nat) (reversed : Bool) : Bool :=
  if st = 1 then r.dirNeg != reversed else if st = 2 then !r.dirNeg else r.dirNeg

/-- A step that a method begins with is a search; state 2 leaves an active switch. -/
theorem State.enterHome_search {a st : Nat} {r : HomeRun} (hr : (s.axis a).home.run = some r) (hst : st ∈ [1, 2, 4, 5])
    (hlv : st = 2 → (s.homeInput a).level = true) : s.enterHome a st =
      (s.stepEntered a st).homeSegment a (r.neg st (s.axis a).home.reversed) (s.pU (if st ≤ 2 then 0x3013 else 0x3014) a)
        searchDist := by
  rw [State.enterHome, hr]
  simp only [List.mem_cons, List.not_mem_nil, or_false] at hst
  obtain rfl | rfl | rfl | rfl := hst
  · rfl
  · simp only [State.stepEntered, hlv rfl]
    rfl
  · rfl
  · rfl

/-- The axis's own method has begun (R103). -/
def State.methodBegun (s : State) (a : Nat) : State :=
  s.modRun a fun r => { r with started := true, stageStart := s.now, dirNeg := decide (s.pU 0x3011 a = 1) }

/-- The first step of the method of an axis, but ABSOLUTE, which has none (Table 4.6). -/
def State.firstStep (s : State) (a : Nat) : Nat :=
  if s.homeMethod a = 2 then 4 else if s.homeMethod a = 3 then 5 else if (s.homeInput a).level then 2 else 1

theorem State.firstStep_mem (a : Nat) : s.firstStep a ∈ [1, 2, 4, 5] := by
  unfold State.firstStep
  split
  · decide
  · split
    · decide
    · split <;> decide

theorem State.level_of_firstStep {a : Nat} (h : s.firstStep a = 2) : (s.homeInput a).level = true := by
  unfold State.firstStep at h
  split at h
  · cases h
  · split at h
    · cases h
    · split at h
      · assumption
      · cases h

theorem State.beginMethod_absolute {a : Nat} (hm : s.homeMethod a = 4) :
    s.beginMethod a = (s.methodBegun a).modHome a fun h => { h with state := 0 } := by
  unfold State.beginMethod
  rw [hm]
  rfl

theorem State.homeInput_methodBegun (a : Nat) : (s.methodBegun a).homeInput a = s.homeInput a := by
  unfold State.homeInput
  rw [State.methodBegun, State.modRun, State.modHome_home]
  rfl

theorem State.beginMethod_search {a : Nat} (hm : s.homeMethod a ≠ 4) :
    s.beginMethod a = (s.methodBegun a).enterHome a (s.firstStep a) := by
  unfold State.beginMethod State.firstStep
  split
  case h_1 h => rw [if_pos h]; rfl
  case h_2 h => rw [if_neg (by rw [h]; decide), if_pos h]; rfl
  case h_3 h => exact (hm h).elim
  case h_4 h2 h3 _ =>
    rw [if_neg h2, if_neg h3, ← s.homeInput_methodBegun]
    rfl

/-! #### HOME_STAGE_START -/

theorem State.exec_homeStageStart (h : s.health.supLost = none) :
    exec .homeStageStart s = .next (s.forEach (s.homeRoots.filter s.stageDue) State.startStage) :=
  congrArg Host.Outcome.next (if_neg (by rw [h]; decide))

theorem State.exec_homeStageStart_idle (h : (∀ w ∈ s.homeRoots, s.stageDue w = false) ∨ s.health.supLost.isSome = true) :
    exec .homeStageStart s = .next s := by
  refine congrArg Host.Outcome.next ?_
  split
  · rfl
  · rename_i hsup
    rw [List.filter_eq_nil_iff.mpr fun w hw => h.resolve_right hsup w hw ▸ Bool.false_ne_true]
    rfl

theorem State.startStage_single {root : Word} {k a : Nat} (hw : s.homeWaiting root = [(k, a)]) :
    s.startStage root = s.beginMethod a := by
  have hmin : minL (2 ^ 16) ([(k, a)].map fun p => p.1) = k := rfl
  rw [State.startStage, hw]
  have hall : [(k, a)].filter (fun p => decide (p.1 = k)) = [(k, a)] := List.filter_cons_of_pos (decide_eq_true rfl)
  rw [hmin, hall]
  rfl

section
variable {s} {a k : Nat} {r : HomeRun} (hsup : s.health.supLost = none) (hroots : s.homeRoots.filter s.stageDue = [r.root])
  (hwait : s.homeWaiting r.root = [(k, a)]) (hr : (s.axis a).home.run = some r)
include hsup hroots hwait hr

omit hr in
theorem State.exec_homeStageStart_single : exec .homeStageStart s = .next (s.beginMethod a) := by
  rw [s.exec_homeStageStart hsup, hroots, State.forEach_cons, State.forEach_nil, s.startStage_single hwait]

/-- The run as its method begins. -/
def State.begunRun (s : State) (a : Nat) (r : HomeRun) : HomeRun :=
  { r with started := true, stageStart := s.now, dirNeg := decide (s.pU 0x3011 a = 1) }

omit hsup hroots hwait in
theorem State.methodBegun_axis : (s.methodBegun a).axis a =
    { s.axis a with home := { (s.axis a).home with run := some (s.begunRun a r) } } := s.modRun_axis _ hr

/-- ABSOLUTE drives nothing: its event is this tick's position (R103). -/
theorem State.completes_homeStageStart_absolute (hm : s.homeMethod a = 4) : Completes .homeStageStart s fun t =>
    t.axis a = { s.axis a with home := { (s.axis a).home with state := 0, run := some (s.begunRun a r) } } ∧
    ((∀ b, b ≠ a → t.axis b = s.axis b) ∧ ∀ q : Word, q ≠ mkRef clsAxis a → t.queue q = s.queue q) ∧
    { t with axes := s.axes } = s := by
  refine ⟨(s.methodBegun a).modHome a fun h => { h with state := 0 }, (State.exec_homeStageStart_single hsup hroots hwait).trans
    (congrArg _ (s.beginMethod_absolute hm)), ?_, ⟨fun b hb => ?_, fun _ _ => rfl⟩, rfl⟩
  · refine (State.modAxis_axis_self _ a _).trans ?_
    rw [State.methodBegun_axis hr]
  · exact (State.modHome_other _ _ hb).trans (s.modHome_other _ hb)

omit hsup hroots hwait hr in
/-- A search reaches 2³⁰ turns from the hold without saturation. -/
theorem search_target {y : Int} (hlo : -(2 ^ 62) < y) (hhi : y < 2 ^ 62) (neg : Bool) :
    satS 64 (y + sgnDir neg * searchDist) = y + (if neg then -(2 ^ 62) else 2 ^ 62) := by
  have hsgn : sgnDir neg * searchDist = if neg then -(2 ^ 62) else 2 ^ 62 := by cases neg <;> rfl
  rw [hsgn, satS, clampI]
  cases neg
  · rw [if_neg (by simp; omega), if_neg (by simp; omega)]
  · rw [if_neg (by simp; omega), if_neg (by simp; omega)]

/-- The search with which the axis's method begins is the segment of its own queue, toward a target 2³⁰ turns away. -/
def State.FirstSearch (s t : State) (a : Nat) (r : HomeRun) (st : Nat) (neg : Bool) : Prop :=
  (t.axis a).home.state = st ∧ (t.axis a).bound = some (mkRef clsAxis a) ∧
  (t.axis a).home.run = some { s.begunRun a r with next := none, seenActive := (s.homeInput a).level } ∧
  ((t.queue (mkRef clsAxis a)).segs.map fun g => (g.axes, g.targets, g.vFix)) =
    [([a], [(s.axis a).lp.hold + (if neg then -(2 ^ 62) else 2 ^ 62)], s.pU (if st ≤ 2 then 0x3013 else 0x3014) a)] ∧
  (t.queue (mkRef clsAxis a)).plan.isSome = true ∧
  ((∀ b, b ≠ a → t.axis b = s.axis b) ∧ ∀ q : Word, q ≠ mkRef clsAxis a → t.queue q = s.queue q) ∧
  { t with axes := s.axes, queues := s.queues } = s

/-- A search starts at once where the axis's supply has no limits. -/
theorem State.completes_homeStageStart_search (hm : s.homeMethod a ≠ 4) (hsupply : ∀ y, s.axisRec a = some y → 8 ≤ y.supply)
    (hlo : -(2 ^ 62) < (s.axis a).lp.hold) (hhi : (s.axis a).lp.hold < 2 ^ 62) : Completes .homeStageStart s fun t =>
      s.FirstSearch t a r (s.firstStep a) ((s.begunRun a r).neg (s.firstStep a) (s.axis a).home.reversed) := by
  let u := s.methodBegun a
  let st := s.firstStep a
  let w := u.stepEntered a st
  let neg := (s.begunRun a r).neg st (s.axis a).home.reversed
  let v := s.pU (if st ≤ 2 then 0x3013 else 0x3014) a
  let run' : HomeRun := { s.begunRun a r with next := none, seenActive := (s.homeInput a).level }
  have hu : u.axis a = { s.axis a with home := { (s.axis a).home with run := some (s.begunRun a r) } } :=
    State.methodBegun_axis hr
  have hw : w.axis a = { s.axis a with home := { (s.axis a).home with state := st, run := some run' } } := by
    have hstate : (u.modHome a fun h => { h with state := st }).axis a =
        { s.axis a with home := { (s.axis a).home with state := st, run := some (s.begunRun a r) } } := by
      refine (u.modAxis_axis_self a _).trans ?_
      rw [hu]
    have hinput : u.homeInput a = s.homeInput a := s.homeInput_methodBegun a
    refine (State.modRun_axis _ _ (congrArg (fun y : Axis => y.home.run) hstate)).trans ?_
    rw [hstate, hinput]
  have hbegin : s.beginMethod a = w.homeSegment a neg v searchDist := by
    have hinput : (u.homeInput a).level = (s.homeInput a).level := congrArg SwitchSt.level (s.homeInput_methodBegun a)
    rw [s.beginMethod_search hm]
    refine (u.enterHome_search (congrArg (fun y : Axis => y.home.run) hu) (s.firstStep_mem a)
      fun h => hinput.trans (s.level_of_firstStep h)).trans ?_
    rw [hu]
    rfl
  have htarget : satS 64 ((w.axis a).lp.hold + sgnDir neg * searchDist) =
      (s.axis a).lp.hold + (if neg then -(2 ^ 62) else 2 ^ 62) := by
    rw [hw]
    exact search_target hlo hhi neg
  have hmoves : satS 64 ((w.axis a).lp.hold + sgnDir neg * searchDist) ≠ (w.axis a).lp.hold := by
    rw [htarget, hw]
    cases neg <;> simp
  obtain ⟨hruns, hbound, hsegs, hplan, halone, hunpaid⟩ :=
    w.setsOut_homeSegment (neg := neg) (v := v) (dist := searchDist) hsupply hmoves
  have hhome := (hruns.home a).trans (congrArg Axis.home hw)
  refine ⟨w.homeSegment a neg v searchDist, (State.exec_homeStageStart_single hsup hroots hwait).trans (congrArg _ hbegin),
    congrArg HomeSt.state hhome, hbound, congrArg HomeSt.run hhome, ?_, hplan, ⟨fun b hb => ?_, hruns.others⟩, ?_⟩
  · rw [hsegs, ← htarget]
    rfl
  · exact (halone b hb).trans ((State.modHome_other _ _ hb).trans ((State.modHome_other _ _ hb).trans (State.modHome_other _ _ hb)))
  · exact (congrArg (fun y : State => { y with axes := s.axes, queues := s.queues }) hunpaid :)

end

end Sys2Proof.Machine

/-! ### The edges of the home switch (R103, R105) -/

namespace Sys2Proof.Machine
open Sys2Proof.Claims

variable (s : State)

theorem SwitchSt.stable_iff (i : SwitchSt) (n : Nat) : i.stable n = true ↔ i.cand ≠ i.level ∧ n ≤ i.run := by
  simp [SwitchSt.stable]

theorem State.moves_modHome (a : Nat) (f : HomeSt → HomeSt) : s.Moves (s.modHome a f) := ⟨rfl, fun _ he _ => he⟩

theorem State.modRun_home {a : Nat} {r : HomeRun} (f : HomeRun → HomeRun) (hr : (s.axis a).home.run = some r) :
    ((s.modRun a f).axis a).home = { (s.axis a).home with run := some (f r) } := congrArg Axis.home (s.modRun_axis f hr)

theorem State.homeTurn_home {a : Nat} {r : HomeRun} (hr : (s.axis a).home.run = some r) (st : Nat) :
    ((s.homeTurn a st).axis a).home = { (s.axis a).home with run := some { r with next := some st } } :=
  ((State.brakes_homeBrake _ a).home a).trans (s.modRun_home _ hr)

theorem State.definingEvent_home {a : Nat} {r : HomeRun} (hr : (s.axis a).home.run = some r) (p : Int) :
    ((s.definingEvent a p).axis a).home = { (s.axis a).home with run := some { r with pEv := some p, evTick := s.tick.no } } :=
  ((State.brakes_homeBrake _ a).home a).trans (s.modRun_home _ hr)

/-! #### An accepted edge -/

/-- `t` comes from `s` by an edge of the home switch of axis `a`: its run and its HOME_STATE alone may have changed. -/
structure State.Edges (a : Nat) (s t : State) : Prop extends State.Moves s t where
  home : ∃ run st, (t.axis a).home = { (s.axis a).home with run := run, state := st }

theorem State.Edges.refl (a : Nat) : s.Edges a s := ⟨.refl s, _, _, rfl⟩

theorem State.Edges.ite {a : Nat} {p : Prop} [Decidable p] {s t u : State} (h : s.Edges a t) (h' : s.Edges a u) :
    s.Edges a (if p then t else u) := by
  split
  · exact h
  · exact h'

theorem State.edges_homeTurn {a : Nat} {r : HomeRun} (hr : (s.axis a).home.run = some r) (st : Nat) :
    s.Edges a (s.homeTurn a st) :=
  ⟨(s.moves_modHome a _).trans (State.brakes_homeBrake _ a).toMoves, _, _, s.homeTurn_home hr st⟩

theorem State.edges_definingEvent {a : Nat} {r : HomeRun} (hr : (s.axis a).home.run = some r) (p : Int) :
    s.Edges a (s.definingEvent a p) :=
  ⟨(s.moves_modHome a _).trans (State.brakes_homeBrake _ a).toMoves, _, _, s.definingEvent_home hr p⟩

theorem State.edges_homeEdge (a : Nat) (active : Bool) (pos : Int) : s.Edges a (s.homeEdge a active pos) := by
  rw [State.homeEdge]
  cases hr : (s.axis a).home.run with
  | none => exact .refl s a
  | some r =>
    have hturn := s.edges_homeTurn hr
    have hseen : s.Edges a (s.modRun a fun x => { x with seenActive := true }) :=
      ⟨s.moves_modHome a _, _, _, s.modRun_home _ hr⟩
    have hindex : s.Edges a (s.modHome a fun x => { x with state := 4 }) :=
      ⟨s.moves_modHome a _, (s.axis a).home.run, 4, s.modHome_home a _⟩
    have hnone := State.Edges.refl s a
    have hevent := s.edges_definingEvent hr pos
    exact hnone.ite (.ite (.ite (hturn 2) hnone) (.ite (.ite hseen (.ite (hturn 3) hnone))
      (.ite (.ite hnone (hturn 3)) (.ite (.ite hindex hevent) hnone))))

section
variable {s} {a : Nat} {r : HomeRun} (hr : (s.axis a).home.run = some r)
include hr

/-- A run that turns, has its event or ends takes no further edge. -/
theorem State.homeEdge_spent (h : r.next.isSome = true ∨ r.pEv.isSome = true ∨ r.ending = true) (active : Bool) (pos : Int) :
    s.homeEdge a active pos = s := by
  have hspent : (r.next.isSome || r.pEv.isSome || r.ending) = true := by
    simpa only [Bool.or_eq_true, or_assoc] using h
  rw [State.homeEdge, hr]
  exact if_pos hspent

variable (hn : r.next = none) (hp : r.pEv = none) (he : r.ending = false)
include hn hp he

/-- Search 1 ends at the active switch. -/
theorem State.homeEdge_found (hst : (s.axis a).home.state = 1) (hrev : (s.axis a).home.reversed = false) (pos : Int) :
    s.homeEdge a true pos = s.homeTurn a 2 := by
  simp [State.homeEdge, hr, hn, hp, he, hst, hrev]

/-- A reversed search 1 passes the active switch. -/
theorem State.homeEdge_passes (hst : (s.axis a).home.state = 1) (hrev : (s.axis a).home.reversed = true) (pos : Int) :
    s.homeEdge a true pos = s.modRun a fun x => { x with seenActive := true } := by
  simp [State.homeEdge, hr, hn, hp, he, hst, hrev]

/-- A reversed search 1 ends past the switch. -/
theorem State.homeEdge_passed (hst : (s.axis a).home.state = 1) (hrev : (s.axis a).home.reversed = true)
    (hseen : r.seenActive = true) (pos : Int) : s.homeEdge a false pos = s.homeTurn a 3 := by
  simp [State.homeEdge, hr, hn, hp, he, hst, hrev, hseen]

/-- The retreat ends where the switch is released. -/
theorem State.homeEdge_left (hst : (s.axis a).home.state = 2) (pos : Int) : s.homeEdge a false pos = s.homeTurn a 3 := by
  simp [State.homeEdge, hr, hn, hp, he, hst]

/-- The slow approach ends at the switch, but goes on to the index where the method asks for it. -/
theorem State.homeEdge_approached (hst : (s.axis a).home.state = 3) (pos : Int) : s.homeEdge a true pos =
    if s.homeMethod a = 1 then s.modHome a fun x => { x with state := 4 } else s.definingEvent a pos := by
  simp [State.homeEdge, hr, hn, hp, he, hst]

end

/-! #### HOME_SWITCH_EDGE -/

/-- The inputs of an axis take the levels that have stayed: the home switch, and limits that are released. -/
def HomeSt.settled (h : HomeSt) (sel n : Nat) : HomeSt :=
  { h with
    swHome := if h.swHome.stable n then h.swHome.accept else h.swHome
    swPos := if h.swPos.stable n ∧ (sel = 1 ∨ !h.swPos.cand) then h.swPos.accept else h.swPos
    swNeg := if h.swNeg.stable n ∧ (sel = 2 ∨ !h.swNeg.cand) then h.swNeg.accept else h.swNeg }

def State.settled (s : State) (a : Nat) : State := s.modHome a fun h => h.settled (s.pU 0x3012 a) (s.debounceTicks a)

theorem State.settled_home (a : Nat) :
    ((s.settled a).axis a).home = (s.axis a).home.settled (s.pU 0x3012 a) (s.debounceTicks a) := s.modHome_home a _

theorem State.acceptEdges_unstable {a : Nat} (h : ¬(s.homeInput a).stable (s.debounceTicks a) = true) :
    s.acceptEdges a = s.settled a := if_neg h

theorem State.acceptEdges_stable {a : Nat} (h : (s.homeInput a).stable (s.debounceTicks a) = true) :
    s.acceptEdges a = (s.settled a).homeEdge a (s.homeInput a).cand (s.homeInput a).firstPos := if_pos h

theorem State.homeInput_swHome {a : Nat} (h1 : s.pU 0x3012 a ≠ 1) (h2 : s.pU 0x3012 a ≠ 2) :
    s.homeInput a = (s.axis a).home.swHome := by
  unfold State.homeInput
  split
  · exact absurd ‹_› h1
  · exact absurd ‹_› h2
  · rfl

theorem State.homeInput_swPos {a : Nat} (h : s.pU 0x3012 a = 1) : s.homeInput a = (s.axis a).home.swPos := by
  rw [State.homeInput, h]
  rfl

theorem State.homeInput_swNeg {a : Nat} (h : s.pU 0x3012 a = 2) : s.homeInput a = (s.axis a).home.swNeg := by
  rw [State.homeInput, h]
  rfl

/-- An edge of an unsettled switch changes nothing of the run. -/
theorem State.completes_homeSwitchEdge_unstable {a : Nat} (h : ¬(s.homeInput a).stable (s.debounceTicks a) = true) :
    Completes (.homeSwitchEdge a) s fun t =>
      (t.axis a).home.run = (s.axis a).home.run ∧ (t.axis a).home.state = (s.axis a).home.state ∧
      (s.pU 0x3012 a ≠ 1 → s.pU 0x3012 a ≠ 2 → (t.axis a).home.swHome = (s.axis a).home.swHome) ∧
      ((∀ b, b ≠ a → t.axis b = s.axis b) ∧ ∀ k : Word, k ≠ mkRef clsAxis a → t.queue k = s.queue k) ∧
      { t with axes := s.axes } = s := by
  have hhome := s.settled_home a
  refine ⟨s.settled a, congrArg Host.Outcome.next (s.acceptEdges_unstable h), (congrArg HomeSt.run hhome :),
    (congrArg HomeSt.state hhome :), fun h1 h2 => ?_, ⟨fun b hb => s.modHome_other _ hb, fun _ _ => rfl⟩, rfl⟩
  rw [s.homeInput_swHome h1 h2] at h
  exact (congrArg HomeSt.swHome hhome).trans (if_neg h)

section
variable {s} {a : Nat} (h : (s.homeInput a).stable (s.debounceTicks a) = true)
include h

/-- The selected input takes its new level. -/
theorem State.completes_homeSwitchEdge_accepts : Completes (.homeSwitchEdge a) s fun t =>
    (s.pU 0x3012 a ≠ 1 → s.pU 0x3012 a ≠ 2 →
      (t.axis a).home.swHome = { (s.axis a).home.swHome with level := (s.homeInput a).cand, run := 0 }) ∧
    (s.pU 0x3012 a = 1 → (t.axis a).home.swPos = { (s.axis a).home.swPos with level := (s.homeInput a).cand, run := 0 }) ∧
    (s.pU 0x3012 a = 2 → (t.axis a).home.swNeg = { (s.axis a).home.swNeg with level := (s.homeInput a).cand, run := 0 }) ∧
    { t with axes := s.axes, queues := s.queues, supply := s.supply, recd := s.recd } = s := by
  obtain ⟨hmoves, run, st, hhome⟩ := (s.settled a).edges_homeEdge a (s.homeInput a).cand (s.homeInput a).firstPos
  rw [s.settled_home] at hhome
  refine ⟨_, congrArg Host.Outcome.next (s.acceptEdges_stable h), fun h1 h2 => ?_, fun h1 => ?_, fun h2 => ?_,
    ((s.moves_modHome a _).trans hmoves).frame⟩
  · have hin := s.homeInput_swHome h1 h2
    have haccept : (s.axis a).home.swHome.accept = { (s.axis a).home.swHome with level := (s.homeInput a).cand, run := 0 } := by
      rw [hin, SwitchSt.accept]
    rw [hin] at h
    exact ((congrArg HomeSt.swHome hhome).trans (if_pos h)).trans haccept
  · have hin := s.homeInput_swPos h1
    have haccept : (s.axis a).home.swPos.accept = { (s.axis a).home.swPos with level := (s.homeInput a).cand, run := 0 } := by
      rw [hin, SwitchSt.accept]
    rw [hin] at h
    exact ((congrArg HomeSt.swPos hhome).trans (if_pos ⟨h, .inl h1⟩)).trans haccept
  · have hin := s.homeInput_swNeg h2
    have haccept : (s.axis a).home.swNeg.accept = { (s.axis a).home.swNeg with level := (s.homeInput a).cand, run := 0 } := by
      rw [hin, SwitchSt.accept]
    rw [hin] at h
    exact ((congrArg HomeSt.swNeg hhome).trans (if_pos ⟨h, .inl h2⟩)).trans haccept

/-- The edge completes with the run and HOME_STATE that it leads to. -/
theorem State.completes_homeSwitchEdge_goes {t : State} {r' : HomeRun} {st : Nat} {active : Bool}
    (hedge : (s.settled a).homeEdge a active (s.homeInput a).firstPos = t) (hact : (s.homeInput a).cand = active)
    (hrun : (t.axis a).home.run = some r') (hst : (t.axis a).home.state = st) :
    Completes (.homeSwitchEdge a) s fun t => (t.axis a).home.run = some r' ∧ (t.axis a).home.state = st :=
  ⟨t, congrArg Host.Outcome.next ((s.acceptEdges_stable h).trans (hact ▸ hedge)), hrun, hst⟩

variable {r : HomeRun} (hr : (s.axis a).home.run = some r)
include hr

omit h in
theorem State.settled_run : ((s.settled a).axis a).home.run = some r := (congrArg HomeSt.run (s.settled_home a)).trans hr

theorem State.completes_homeSwitchEdge_spent (hspent : r.next.isSome = true ∨ r.pEv.isSome = true ∨ r.ending = true) :
    Completes (.homeSwitchEdge a) s fun t => (t.axis a).home.run = some r :=
  ⟨s.settled a, congrArg Host.Outcome.next ((s.acceptEdges_stable h).trans (State.homeEdge_spent (State.settled_run hr) hspent _ _)),
    State.settled_run hr⟩

variable (hn : r.next = none) (hp : r.pEv = none) (he : r.ending = false)
include hn hp he

/-- The steps of Table 4.6 that an edge of the switch ends. -/
theorem State.completes_homeSwitchEdge_steps :
    let i := s.homeInput a
    let x := s.axis a
    let goes := fun (r' : HomeRun) (st : Nat) => Completes (.homeSwitchEdge a) s fun t =>
      (t.axis a).home.run = some r' ∧ (t.axis a).home.state = st
    (x.home.state = 1 → x.home.reversed = false → i.cand = true → goes { r with next := some 2 } 1) ∧
    (x.home.state = 1 → x.home.reversed = true → i.cand = true → goes { r with seenActive := true } 1) ∧
    (x.home.state = 1 → x.home.reversed = true → r.seenActive = true → i.cand = false → goes { r with next := some 3 } 1) ∧
    (x.home.state = 2 → i.cand = false → goes { r with next := some 3 } 2) ∧
    (x.home.state = 3 → i.cand = true → s.homeMethod a = 0 → goes { r with pEv := some i.firstPos, evTick := s.tick.no } 3) ∧
    (x.home.state = 3 → i.cand = true → s.homeMethod a = 1 → goes r 4) := by
  intro i x goes
  let w := s.settled a
  have hw : (w.axis a).home = x.home.settled (s.pU 0x3012 a) (s.debounceTicks a) := s.settled_home a
  have hrun : (w.axis a).home.run = some r := State.settled_run hr
  have hstate : (w.axis a).home.state = x.home.state := (congrArg HomeSt.state hw :)
  have hrev : (w.axis a).home.reversed = x.home.reversed := (congrArg HomeSt.reversed hw :)
  have hturn := w.homeTurn_home hrun
  have turns {st st' : Nat} {active : Bool} (hst : x.home.state = st) (hact : i.cand = active)
      (hedge : w.homeEdge a active i.firstPos = w.homeTurn a st') : goes { r with next := some st' } st :=
    State.completes_homeSwitchEdge_goes h hedge hact (congrArg HomeSt.run (hturn st'))
      ((congrArg HomeSt.state (hturn st')).trans (hstate.trans hst))
  refine ⟨fun hst hre hc => ?_, fun hst hre hc => ?_, fun hst hre hseen hc => ?_, fun hst hc => ?_, fun hst hc hm => ?_,
    fun hst hc hm => ?_⟩
  · exact turns hst hc (State.homeEdge_found hrun hn hp he (hstate.trans hst) (hrev.trans hre) _)
  · have hseen := w.modRun_home (fun y => { y with seenActive := true }) hrun
    exact State.completes_homeSwitchEdge_goes h (State.homeEdge_passes hrun hn hp he (hstate.trans hst) (hrev.trans hre) _) hc
      (congrArg HomeSt.run hseen) ((congrArg HomeSt.state hseen).trans (hstate.trans hst))
  · exact turns hst hc (State.homeEdge_passed hrun hn hp he (hstate.trans hst) (hrev.trans hre) hseen _)
  · exact turns hst hc (State.homeEdge_left hrun hn hp he (hstate.trans hst) _)
  · have hmethod : w.homeMethod a ≠ 1 := fun h1 => absurd (hm.symm.trans h1) (by decide)
    have hevent := w.definingEvent_home hrun i.firstPos
    refine State.completes_homeSwitchEdge_goes h
      ((State.homeEdge_approached hrun hn hp he (hstate.trans hst) _).trans (if_neg hmethod)) hc
      (congrArg HomeSt.run hevent) ((congrArg HomeSt.state hevent).trans (hstate.trans hst))
  · have hmethod : w.homeMethod a = 1 := hm
    have hindex := w.modHome_home a fun y => { y with state := 4 }
    exact State.completes_homeSwitchEdge_goes h
      ((State.homeEdge_approached hrun hn hp he (hstate.trans hst) _).trans (if_pos hmethod)) hc
      ((congrArg HomeSt.run hindex).trans hrun) (congrArg HomeSt.state hindex)

end

/-- Settles O49: a search is a segment of the axis's own queue that pays nothing, and an edge of the switch leaves of the axis's
homing all but the run and HOME_STATE. -/
theorem homingSearchesFollowTheirSteps : Obligations.HomingSearchesFollowTheirSteps := by
  intro s a x q others
  refine ⟨fun h => ⟨s, s.exec_homeStageStart_idle h, rfl⟩, fun r k hsup hroots hwait hr => ⟨fun hm => ?_,
    fun hm hsupply hlo hhi => ?_⟩, fun h => ?_, fun h => ?_⟩
  · exact State.completes_homeStageStart_absolute hsup hroots hwait hr hm
  · exact State.completes_homeStageStart_search hsup hroots hwait hr hm hsupply hlo hhi
  · exact s.completes_homeSwitchEdge_unstable fun hs => h ((SwitchSt.stable_iff _ _).mp hs)
  · have hstable := (SwitchSt.stable_iff _ _).mpr h
    exact ⟨State.completes_homeSwitchEdge_accepts hstable, fun r hr =>
      ⟨State.completes_homeSwitchEdge_spent hstable hr, State.completes_homeSwitchEdge_steps hstable hr⟩⟩

end Sys2Proof.Machine

/-! ### A homing run over a table that lists an axis twice (R104) -/

namespace Sys2Proof.Machine
open Sys2Proof.Claims

/-- Axis 0 is due to be homed in the run of command 7. The table of the axes lists axis 1 twice: its state is the first entry, in
the run of command 8, while a stage of run 7 counts the second. -/
def axisListedTwice : State :=
  { tick := { no := 1 }
    axes := [(0, { home := { run := some { root := 7, stage := 0, started := true, pEv := some 0 } } }),
      (1, { home := { run := some { root := 8, stage := 0 } } }), (1, { home := { run := some { root := 7, stage := 0 } } })] }

/-- Refutes O50: HOME_DONE stamps the waiting axes that the table lists under the run. No operation lists an axis twice, but the
statement asks for no such thing of its state; where axis 1 stands once under run 7 and before it under run 8, its run 8 is
stamped, though the statement keeps every axis of another run. -/
theorem not_homingRunsEnd : ¬ Obligations.HomingRunsEnd := by
  intro hall
  obtain ⟨-, -, hrun⟩ := hall axisListedTwice 0
  obtain ⟨-, -, -, -, -, -, -, hdone⟩ := hrun { root := 7, stage := 0, started := true, pEv := some 0 } rfl
  obtain ⟨t, ht, -, -, -, -, -, -, -, -, -, hother, -⟩ := hdone 0 rfl (by decide)
  have hdue : axisListedTwice.homeDue 0 = true := by decide +kernel
  obtain rfl : axisListedTwice.homeDoneOp 0 = t := Host.Outcome.next.inj ((congrArg Host.Outcome.next (if_pos hdue)).symm.trans ht)
  have hstamped : ((axisListedTwice.homeDoneOp 0).axis 1).home.run = some { root := 8, stage := 0, readyTick := some 1 } := by
    decide +kernel
  have hbefore : (axisListedTwice.axis 1).home.run = some { root := 8, stage := 0 } := rfl
  obtain hsame | ⟨y, hy, hroot, -⟩ := hother 1 (by decide)
  · rw [hsame, hbefore] at hstamped
    exact absurd hstamped (by decide)
  · obtain rfl := Option.some.inj (hbefore.symm.trans hy)
    exact absurd hroot (by decide)

end Sys2Proof.Machine

/-! ### Local ports: accepted levels (R120) -/

namespace Sys2Proof.Machine
open Sys2Proof.Claims

variable (s : State)

/-- The offset of the sample that completes a run of PORT_FILTER samples, for a level that has stood for `run` samples at `n`. -/
def State.acceptedAt (p run n : Nat) : Nat := n - (run - s.pU 0x4002 (s.portIx p)) * 5

theorem incSat_thirtyTwo (c : Nat) : incSat 32 c = min (c + 1) (2 ^ 32 - 1) := by
  unfold incSat
  split <;> omega

theorem runDone_complete {n run : Nat} (t : Nat) (h : n ≤ run) : runDone n run t = some (t - (run - n) * 5) :=
  if_neg (Nat.not_lt.mpr h)

theorem runDone_short {n run : Nat} (t : Nat) (h : run < n) : runDone n run t = none := if_pos h

theorem lineChange_same (n run t : Nat) {old new : Bool} (h : new = old) : lineChange n old new run t = none := if_pos h

theorem lineChange_short {n run : Nat} (t : Nat) (old new : Bool) (h : run < n) : lineChange n old new run t = none := by
  unfold lineChange
  rw [runDone_short t h, ite_self]

theorem lineChange_accepted {n run : Nat} (t : Nat) {old new : Bool} (hne : new ≠ old) (h : n ≤ run) :
    lineChange n old new run t = some (t - (run - n) * 5) :=
  (if_neg hne).trans (runDone_complete t h)

/-! #### The order of the two lines -/

section
variable {s} {p : Nat} {a b : Bool} {run run2 n : Nat} {onA onB both : State → Nat → State}

theorem State.byLines_none (hr : run < s.pU 0x4002 (s.portIx p)) (hr2 : run2 < s.pU 0x4002 (s.portIx p)) :
    s.byLines (s.lineChanges p a b run run2 n) onA onB both = s := by
  unfold State.lineChanges State.byLines
  dsimp only
  rw [lineChange_short n _ a hr, lineChange_short n _ b hr2]

theorem State.byLines_A (ha : a ≠ (s.port p).aF) (hb : b = (s.port p).bF) (hr : s.pU 0x4002 (s.portIx p) ≤ run) :
    s.byLines (s.lineChanges p a b run run2 n) onA onB both = onA s (s.acceptedAt p run n) := by
  unfold State.lineChanges State.byLines
  dsimp only
  rw [lineChange_accepted n ha hr, lineChange_same _ run2 n hb]
  rfl

theorem State.byLines_B (ha : a = (s.port p).aF) (hb : b ≠ (s.port p).bF) (hr : s.pU 0x4002 (s.portIx p) ≤ run2) :
    s.byLines (s.lineChanges p a b run run2 n) onA onB both = onB s (s.acceptedAt p run2 n) := by
  unfold State.lineChanges State.byLines
  dsimp only
  rw [lineChange_same _ run n ha, lineChange_accepted n hb hr]
  rfl

theorem State.byLines_both (ha : a ≠ (s.port p).aF) (hb : b ≠ (s.port p).bF) (hr : s.pU 0x4002 (s.portIx p) ≤ run) :
    s.byLines (s.lineChanges p a b run run n) onA onB both = both s (s.acceptedAt p run n) := by
  unfold State.lineChanges State.byLines
  dsimp only
  rw [lineChange_accepted n ha hr, lineChange_accepted n hb hr]
  exact if_pos rfl

/-- A, which has stood for longer, changes before B. -/
theorem State.byLines_A_then_B (ha : a ≠ (s.port p).aF) (hb : b ≠ (s.port p).bF) (hr2 : s.pU 0x4002 (s.portIx p) ≤ run2)
    (hlt : run2 < run) (hn : (run - s.pU 0x4002 (s.portIx p)) * 5 ≤ n) :
    s.byLines (s.lineChanges p a b run run2 n) onA onB both = onB (onA s (s.acceptedAt p run n)) (s.acceptedAt p run2 n) := by
  have hfirst : s.acceptedAt p run n < s.acceptedAt p run2 n := by
    unfold State.acceptedAt
    omega
  unfold State.lineChanges State.byLines
  dsimp only
  rw [lineChange_accepted n ha (hr2.trans hlt.le), lineChange_accepted n hb hr2]
  exact (if_neg hfirst.ne).trans (if_pos hfirst)

theorem State.byLines_invariant (P : State → Prop) (c : Option Nat × Option Nat) (hs : P s) (hA : ∀ u k, P u → P (onA u k))
    (hB : ∀ u k, P u → P (onB u k)) (hboth : ∀ u k, P u → P (both u k)) : P (s.byLines c onA onB both) := by
  unfold State.byLines
  split
  · split
    · exact hboth _ _ hs
    · split
      · exact hB _ _ (hA _ _ hs)
      · exact hA _ _ (hB _ _ hs)
  · exact hA _ _ hs
  · exact hB _ _ hs
  · exact hs
end

/-! #### What changes one port -/

/-- Port `p` of `t` is `y`, and nothing else distinguishes `t` from `s`. -/
def State.OnlyPort (p : Nat) (t : State) (y : Port) : Prop :=
  t.port p = y ∧ (∀ q, q ≠ p → t.port q = s.port q) ∧ { t with ports := s.ports } = s

theorem State.modPort_port_self (p : Nat) (f : Port → Port) : (s.modPort p f).port p = f (s.port p) :=
  (s.modPort_port p p f).trans (if_pos rfl)

theorem State.modPort_port_other {p q : Nat} (f : Port → Port) (h : q ≠ p) : (s.modPort p f).port q = s.port q :=
  (s.modPort_port p q f).trans (if_neg h)

theorem State.onlyPort_refl (p : Nat) : s.OnlyPort p s (s.port p) := ⟨rfl, fun _ _ => rfl, rfl⟩

section
variable {s} {p : Nat} {t : State} {x : Port}

theorem State.OnlyPort.modPort (h : s.OnlyPort p t x) (f : Port → Port) : s.OnlyPort p (t.modPort p f) (f x) := by
  obtain ⟨hp, hother, hframe⟩ := h
  exact ⟨(t.modPort_port_self p f).trans (congrArg f hp), fun q hq => (t.modPort_port_other f hq).trans (hother q hq), hframe⟩

theorem State.OnlyPort.modPort_eq (h : s.OnlyPort p t x) {f : Port → Port} {y : Port} (hf : f x = y) :
    s.OnlyPort p (t.modPort p f) y := hf ▸ h.modPort f

theorem State.OnlyPort.trans {u : State} {y : Port} (h : s.OnlyPort p t x) (h' : t.OnlyPort p u y) : s.OnlyPort p u y := by
  obtain ⟨-, hother, hframe⟩ := h
  obtain ⟨hp, hother', hframe'⟩ := h'
  exact ⟨hp, fun q hq => (hother' q hq).trans (hother q hq),
    (congrArg (fun v : State => { v with ports := s.ports }) hframe').trans hframe⟩

theorem State.OnlyPort.now (h : s.OnlyPort p t x) : t.now = s.now := (congrArg State.now h.2.2 :)

theorem State.OnlyPort.pU (h : s.OnlyPort p t x) (num idx : Nat) : t.pU num idx = s.pU num idx :=
  (congrArg (fun v : State => v.pU num idx) h.2.2 :)

theorem State.OnlyPort.portIx (h : s.OnlyPort p t x) (q : Nat) : t.portIx q = s.portIx q :=
  (congrArg (fun v : State => v.portIx q) h.2.2 :)

theorem State.OnlyPort.portA (h : s.OnlyPort p t x) (a : Bool) (k : Nat) :
    s.OnlyPort p (t.portA p a k) { x with aF := a, aEdgeNs := s.now + k } := by
  unfold State.portA
  rw [h.now]
  exact h.modPort _

theorem State.OnlyPort.portB (h : s.OnlyPort p t x) (b : Bool) (k : Nat) :
    s.OnlyPort p (t.portB p b k) { x with bF := b, bEdgeNs := s.now + k } := by
  unfold State.portB
  rw [h.now]
  exact h.modPort _
end

/-- A change of a port with an event: the port, the record, and the rest of the state. -/
theorem State.modPort_emit (p : Nat) (f : Port → Port) (code : Nat) (obj : Word) (args : List Nat) :
    let t := (s.modPort p f).emit code obj args
    t.port p = f (s.port p) ∧ Records s t code obj args ∧ { t with ports := s.ports, recd := s.recd } = s :=
  ⟨s.modPort_port_self p f, (s.modPort p f).records_emit code obj args, rfl⟩

end Sys2Proof.Machine

/-! ### QUAD ports (R122 to R124) -/

namespace Sys2Proof.Machine
open Sys2Proof.Claims

variable (s : State)

/-- A port whose newest edge, up or down, came at `ns`. -/
def Port.stepped (x : Port) (up : Bool) (ns : Nat) : Port :=
  { x with
    count := wrapS 64 (x.count + if up then 1 else -1), lastNeg := !up, lastSign := if up then 1 else -1
    dirKnown := decide (x.lastSign = if up then 1 else -1), interval := ns - x.edgeNs, edgeNs := ns }

/-- The quadrature sequence at a change of A. -/
theorem quadSign_A (a b : Bool) : quadSign a b true = if a != b then 1 else -1 := by cases a <;> cases b <;> rfl

/-- The quadrature sequence at a change of B. -/
theorem quadSign_B (a b : Bool) : quadSign a b false = if a == b then 1 else -1 := by cases a <;> cases b <;> rfl

section
variable {s} {p : Nat} {t : State} {x : Port} {a b : Bool} {run run2 n : Nat}

theorem State.OnlyPort.quadStep (h : s.OnlyPort p t x) {isA up : Bool} (hs : quadSign x.aF x.bF isA = if up then 1 else -1)
    (k : Nat) : s.OnlyPort p (t.quadStep p isA k) (x.stepped up (s.now + k)) := by
  have hneg : decide ((if up then (1 : Int) else -1) < 0) = !up := by cases up <;> rfl
  unfold State.quadStep
  rw [h.now]
  refine h.modPort_eq ?_
  dsimp only
  rw [hs, hneg]
  rfl

theorem State.quadEdge_A (ha : a ≠ (s.port p).aF) (hb : b = (s.port p).bF) (hr : s.pU 0x4002 (s.portIx p) ≤ run) :
    let ns := s.now + s.acceptedAt p run n
    s.OnlyPort p (s.quadEdgeOp p a b run run2 n) ({ s.port p with aF := a, aEdgeNs := ns }.stepped (a != b) ns) := by
  unfold State.quadEdgeOp
  rw [State.byLines_A ha hb hr]
  exact ((s.onlyPort_refl p).portA a _).quadStep (hb ▸ quadSign_A a b) _

theorem State.quadEdge_B (ha : a = (s.port p).aF) (hb : b ≠ (s.port p).bF) (hr : s.pU 0x4002 (s.portIx p) ≤ run2) :
    let ns := s.now + s.acceptedAt p run2 n
    s.OnlyPort p (s.quadEdgeOp p a b run run2 n) ({ s.port p with bF := b, bEdgeNs := ns }.stepped (a == b) ns) := by
  unfold State.quadEdgeOp
  rw [State.byLines_B ha hb hr]
  exact ((s.onlyPort_refl p).portB b _).quadStep (ha ▸ quadSign_B a b) _

theorem State.quadEdge_A_then_B (ha : a ≠ (s.port p).aF) (hb : b ≠ (s.port p).bF) (hr2 : s.pU 0x4002 (s.portIx p) ≤ run2)
    (hlt : run2 < run) (hn : (run - s.pU 0x4002 (s.portIx p)) * 5 ≤ n) :
    let ns := s.now + s.acceptedAt p run n
    let ns2 := s.now + s.acceptedAt p run2 n
    s.OnlyPort p (s.quadEdgeOp p a b run run2 n)
      ({ { s.port p with aF := a, aEdgeNs := ns }.stepped (a != (s.port p).bF) ns with bF := b, bEdgeNs := ns2 }.stepped (a == b) ns2) := by
  unfold State.quadEdgeOp
  rw [State.byLines_A_then_B ha hb hr2 hlt hn]
  have hA := ((s.onlyPort_refl p).portA a (s.acceptedAt p run n)).quadStep (quadSign_A a _) (s.acceptedAt p run n)
  exact (hA.portB b _).quadStep (quadSign_B a b) _

/-- A, which changes before B, counts by the old level of B, and B by the new level of A. -/
theorem State.quadEdge_A_then_B_count (ha : a ≠ (s.port p).aF) (hb : b ≠ (s.port p).bF) (hr2 : s.pU 0x4002 (s.portIx p) ≤ run2)
    (hlt : run2 < run) (hn : (run - s.pU 0x4002 (s.portIx p)) * 5 ≤ n) :
    ((s.quadEdgeOp p a b run run2 n).port p).count =
      wrapS 64 (wrapS 64 ((s.port p).count + if a = (s.port p).bF then -1 else 1) + if a = b then 1 else -1) := by
  obtain ⟨hport, -⟩ := State.quadEdge_A_then_B ha hb hr2 hlt hn
  rw [hport]
  unfold Port.stepped
  dsimp only
  rw [← quadSign_A, ← quadSign_B]
  rfl

/-! #### Both lines in one sample (R123, R124) -/

/-- R123: the condition under which a change of both lines is inferred. -/
def State.Infers (s : State) (p : Nat) : Prop :=
  let x := s.port p
  s.pU 0x4003 (s.portIx p) = 1 ∧ x.dirKnown = true ∧ 0 < x.interval ∧
    x.interval < max 80 (20 * (s.pU 0x4002 (s.portIx p) + 1))

theorem inferOk_iff (x : Port) (n : Nat) :
    inferOk x n = true ↔ x.dirKnown = true ∧ 0 < x.interval ∧ x.interval < max 80 (20 * (n + 1)) := by
  unfold inferOk
  rw [Bool.and_eq_true, Bool.and_eq_true, decide_eq_true_iff, decide_eq_true_iff, and_assoc]

theorem State.quadBoth_inferred (hi : s.Infers p) :
    s.OnlyPort p (s.quadBoth p) { s.port p with
      count := wrapS 64 ((s.port p).count + if (s.port p).lastNeg then -2 else 2), inferredTick := true
      inferred := min ((s.port p).inferred + 1) (2 ^ 32 - 1) } := by
  obtain ⟨hmode, hrate⟩ := hi
  unfold State.quadBoth
  rw [if_pos ⟨hmode, (inferOk_iff _ _).mpr hrate⟩]
  refine (s.onlyPort_refl p).modPort_eq ?_
  dsimp only
  rw [incSat_thirtyTwo]

theorem State.quadBoth_illegal (hi : ¬s.Infers p) : s.quadBoth p = s.quadIllegal p :=
  if_neg fun ⟨hmode, hrate⟩ => hi ⟨hmode, (inferOk_iff _ _).mp hrate⟩

/-- The two levels of a sample in which both lines have changed, at `ns`. -/
def Port.bothLines (x : Port) (a b : Bool) (ns : Nat) : Port := { x with aF := a, bF := b, aEdgeNs := ns, bEdgeNs := ns }

/-- The state in which both lines show their new levels. -/
def State.bothLines (s : State) (p : Nat) (a b : Bool) (k : Nat) : State := (s.portA p a k).portB p b k

theorem State.onlyPort_bothLines (s : State) (p : Nat) (a b : Bool) (k : Nat) :
    s.OnlyPort p (s.bothLines p a b k) ((s.port p).bothLines a b (s.now + k)) :=
  ((s.onlyPort_refl p).portA a k).portB b k

theorem State.bothLines_infers {k : Nat} : (s.bothLines p a b k).Infers p ↔ s.Infers p := by
  have h := s.onlyPort_bothLines p a b k
  unfold State.Infers
  rw [h.1, h.pU, h.pU, h.portIx]
  rfl

theorem State.quadEdge_both (ha : a ≠ (s.port p).aF) (hb : b ≠ (s.port p).bF) (hr : s.pU 0x4002 (s.portIx p) ≤ run) :
    s.quadEdgeOp p a b run run n = (s.bothLines p a b (s.acceptedAt p run n)).quadBoth p :=
  State.byLines_both ha hb hr

/-- One more illegal event is held against an axis. -/
def Axis.withIllegal (x : Axis) : Axis := { x with fb := { x.fb with illegal := incSat 32 x.fb.illegal } }

/-- A fold of one update for each axis of a list without repeats. -/
theorem State.forEach_modAxis_nodup (s : State) {l : List Nat} (f : Nat → Axis → Axis) (hl : l.Nodup) {b : Nat} (hb : b ∈ l) :
    (s.forEach l fun t a => t.modAxis a (f a)).axis b = f b (s.axis b) := by
  induction l generalizing s with
  | nil => cases hb
  | cons c l ih =>
    obtain ⟨hc, hl⟩ := List.nodup_cons.mp hl
    rw [State.forEach_cons]
    obtain rfl | hb := List.mem_cons.mp hb
    · rw [State.forEach_modAxis_other _ l f hc, s.modAxis_axis_self]
    · rw [ih _ hl hb, s.modAxis_axis_other _ fun h : b = c => hc (h ▸ hb)]

theorem State.illegalLimit_none (h : s.pU 0x4007 (s.portIx p) = 0) : s.illegalLimit p = s := by
  unfold State.illegalLimit
  dsimp only
  rw [h]
  rfl

/-- The state after an illegal event is counted, on the port and on its axes. -/
def State.illegalCounted (s : State) (p : Nat) : State :=
  (s.modPort p fun x => { x with illegal := incSat 32 x.illegal, illegalTick := true }).forEach (s.portAxes p) fun u a =>
    u.modAxis a Axis.withIllegal

theorem State.illegalCounted_frame (s : State) (p : Nat) :
    { s.illegalCounted p with ports := s.ports, axes := s.axes } = s := by
  have h := (s.modPort p fun x => { x with illegal := incSat 32 x.illegal, illegalTick := true }).forEach_modAxis_frame
    (s.portAxes p) id fun _ => Axis.withIllegal
  exact (congrArg (fun v : State => { v with ports := s.ports }) h :)

theorem State.illegalCounted_port (s : State) (p : Nat) :
    (s.illegalCounted p).port p = { s.port p with illegal := min ((s.port p).illegal + 1) (2 ^ 32 - 1), illegalTick := true } := by
  rw [← incSat_thirtyTwo]
  let t := s.modPort p fun x => { x with illegal := incSat 32 x.illegal, illegalTick := true }
  have haxes : (s.illegalCounted p).port p = t.port p :=
    t.forEach_keeps (fun u => u.port p) (s.portAxes p) (fun u a => u.modAxis a Axis.withIllegal) fun _ _ _ => rfl
  exact haxes.trans (s.modPort_port_self p _)

theorem State.illegalCounted_axis_mem (s : State) (hn : (s.portAxes p).Nodup) {i : Nat} (hi : i ∈ s.portAxes p) :
    (s.illegalCounted p).axis i =
      { s.axis i with fb := { (s.axis i).fb with illegal := min ((s.axis i).fb.illegal + 1) (2 ^ 32 - 1) } } := by
  rw [← incSat_thirtyTwo]
  unfold State.illegalCounted
  exact State.forEach_modAxis_nodup _ (fun _ => Axis.withIllegal) hn hi

theorem State.illegalCounted_axis_other (s : State) {i : Nat} (hi : i ∉ s.portAxes p) :
    (s.illegalCounted p).axis i = s.axis i := by
  unfold State.illegalCounted
  exact State.forEach_modAxis_other _ _ (fun _ => Axis.withIllegal) hi

theorem State.quadIllegal_eq (hl : s.pU 0x4007 (s.portIx p) = 0) :
    s.quadIllegal p = (s.illegalCounted p).emit evQuadIllegal (mkRef clsPort (s.portIx p)) [((s.illegalCounted p).port p).illegal] := by
  refine State.illegalLimit_none (Eq.trans ?_ hl)
  exact (congrArg (fun v : State => v.pU 0x4007 (v.portIx p)) (s.illegalCounted_frame p) :)

/-- An illegal event on a port without a limit: its counts, its record, and the counts of the port's axes. -/
theorem State.quadIllegal_counts (s : State) (hl : s.pU 0x4007 (s.portIx p) = 0) :
    let x := s.port p
    let t := s.quadIllegal p
    t.port p = { x with illegal := min (x.illegal + 1) (2 ^ 32 - 1), illegalTick := true } ∧
    Records s t evQuadIllegal (mkRef clsPort (s.portIx p)) [min (x.illegal + 1) (2 ^ 32 - 1)] ∧
    ((s.portAxes p).Nodup → ∀ i ∈ s.portAxes p, t.axis i = { s.axis i with fb := { (s.axis i).fb with
      illegal := min ((s.axis i).fb.illegal + 1) (2 ^ 32 - 1) } }) ∧
    (∀ i, i ∉ s.portAxes p → t.axis i = s.axis i) ∧
    { t with ports := s.ports, axes := s.axes, recd := s.recd } = s := by
  have hport := s.illegalCounted_port p
  have hframe := s.illegalCounted_frame p
  intro x t
  obtain ht : t = _ := State.quadIllegal_eq hl
  rw [hport] at ht
  rw [ht]
  refine ⟨hport, ?_, fun hn i hi => s.illegalCounted_axis_mem hn hi, fun i hi => s.illegalCounted_axis_other hi, ?_⟩
  · have hrec := (s.illegalCounted p).records_emit evQuadIllegal (mkRef clsPort (s.portIx p)) [min (x.illegal + 1) (2 ^ 32 - 1)]
    exact (congrArg (fun v : State => Records v _ _ _ _) hframe :) ▸ hrec
  · exact (congrArg (fun v : State => { v with recd := s.recd }) hframe :)

theorem State.quadEdge_inferred (ha : a ≠ (s.port p).aF) (hb : b ≠ (s.port p).bF) (hr : s.pU 0x4002 (s.portIx p) ≤ run)
    (hi : s.Infers p) :
    let y := (s.port p).bothLines a b (s.now + s.acceptedAt p run n)
    s.OnlyPort p (s.quadEdgeOp p a b run run n) { y with
      count := wrapS 64 (y.count + if y.lastNeg then -2 else 2), inferredTick := true, inferred := min (y.inferred + 1) (2 ^ 32 - 1) } := by
  have hlines := s.onlyPort_bothLines p a b (s.acceptedAt p run n)
  rw [State.quadEdge_both ha hb hr, ← hlines.1]
  exact hlines.trans (State.quadBoth_inferred (State.bothLines_infers.mpr hi))

theorem State.quadEdge_illegal (ha : a ≠ (s.port p).aF) (hb : b ≠ (s.port p).bF) (hr : s.pU 0x4002 (s.portIx p) ≤ run)
    (hl : s.pU 0x4007 (s.portIx p) = 0) (hi : ¬s.Infers p) :
    let y := (s.port p).bothLines a b (s.now + s.acceptedAt p run n)
    let t := s.quadEdgeOp p a b run run n
    t.port p = { y with illegal := min (y.illegal + 1) (2 ^ 32 - 1), illegalTick := true } ∧
    Records s t evQuadIllegal (mkRef clsPort (s.portIx p)) [min (y.illegal + 1) (2 ^ 32 - 1)] ∧
    ((s.portAxes p).Nodup → ∀ i ∈ s.portAxes p, t.axis i = { s.axis i with fb := { (s.axis i).fb with
      illegal := min ((s.axis i).fb.illegal + 1) (2 ^ 32 - 1) } }) ∧
    (∀ i, i ∉ s.portAxes p → t.axis i = s.axis i) ∧
    { t with ports := s.ports, axes := s.axes, recd := s.recd } = s := by
  obtain ⟨hy, -, hframe⟩ := s.onlyPort_bothLines p a b (s.acceptedAt p run n)
  intro y t
  obtain ht : t = _ := (State.quadEdge_both ha hb hr).trans (State.quadBoth_illegal (mt State.bothLines_infers.mp hi))
  obtain ⟨hport, hrec, haxes, hother, hrest⟩ := (s.bothLines p a b (s.acceptedAt p run n)).quadIllegal_counts hl
  rw [← ht] at hport hrec haxes hother hrest
  rw [hy] at hport hrec
  exact ⟨hport, hrec, haxes, hother, (congrArg (fun v : State => { v with ports := s.ports }) hrest).trans hframe⟩

end

end Sys2Proof.Machine

/-! ### PULSE ports, indices, ports that are off (R119, R125, R126) -/

namespace Sys2Proof.Machine
open Sys2Proof.Claims

variable (s : State)

/-- A PULSE port after an accepted level of A, where B stands at `level`: the step edge that PORT_PULSE_EDGE chooses counts. -/
def Port.pulsed (x : Port) (edge : Nat) (level : Bool) : Port :=
  { x with
    count := if x.aF = true ↔ edge = 0 then wrapS 64 (x.count + if level then 1 else -1) else x.count
    lastNeg := if x.aF = true ↔ edge = 0 then !level else x.lastNeg }

section
variable {s} {p : Nat} {t : State} {x : Port} {a b : Bool} {run run2 n : Nat}

theorem State.OnlyPort.pulseStep (h : s.OnlyPort p t x) {k : Nat}
    (hB : x.bEdgeNs = 0 ∨ (s.pU 0x4002 (s.portIx p) + 1) * 5 ≤ s.now + k - x.bEdgeNs) :
    s.OnlyPort p (t.pulseStep p k) (x.pulsed (s.pU 0x4006 (s.portIx p)) x.bF) := by
  unfold State.pulseStep
  rw [h.now, h.portIx, h.pU, h.pU]
  refine h.modPort_eq ?_
  have hsteady : ¬(x.bEdgeNs ≠ 0 ∧ s.now + k - x.bEdgeNs < (s.pU 0x4002 (s.portIx p) + 1) * 5) := by omega
  have hedge : (x.aF = decide (s.pU 0x4006 (s.portIx p) = 0)) ↔ (x.aF = true ↔ s.pU 0x4006 (s.portIx p) = 0) := by
    rw [Bool.eq_iff_iff, decide_eq_true_iff]
  unfold Port.pulsed
  dsimp only
  rw [if_neg hsteady]
  by_cases hs : x.aF = true ↔ s.pU 0x4006 (s.portIx p) = 0
  · rw [if_pos (hedge.mpr hs), if_pos hs, if_pos hs]
  · rw [if_neg (mt hedge.mp hs), if_neg hs, if_neg hs]

theorem State.pulseStep_A (ha : a ≠ (s.port p).aF) (hb : b = (s.port p).bF) (hr : s.pU 0x4002 (s.portIx p) ≤ run)
    (hB : (s.port p).bEdgeNs = 0 ∨
      (s.pU 0x4002 (s.portIx p) + 1) * 5 ≤ s.now + s.acceptedAt p run n - (s.port p).bEdgeNs) :
    s.OnlyPort p (s.pulseStepOp p a b run run2 n)
      ({ s.port p with aF := a, aEdgeNs := s.now + s.acceptedAt p run n }.pulsed (s.pU 0x4006 (s.portIx p)) b) := by
  subst hb
  unfold State.pulseStepOp
  rw [State.byLines_A ha rfl hr]
  exact ((s.onlyPort_refl p).portA a _).pulseStep hB

/-! #### Index events (R126) -/

/-- A port whose Z has reached its active level at `ns`. -/
def Port.zActive (x : Port) (level : Bool) (ns : Nat) : Port := { x with zF := level, zEdgeNs := ns }

/-- A port at a gated index event that came at `time`. -/
def Port.indexed (x : Port) (time : DevTime) : Port :=
  if x.idxNew then { x with indexExtra := min (x.indexExtra + 1) (2 ^ 32 - 1) }
  else { x with latch := some (x.count, time), idxNew := true }

theorem Port.indexed_again {x : Port} (h : x.idxNew = true) (time : DevTime) :
    x.indexed time = { x with indexExtra := min (x.indexExtra + 1) (2 ^ 32 - 1) } := if_pos h

theorem Port.indexed_first {x : Port} (h : x.idxNew = false) (time : DevTime) :
    x.indexed time = { x with latch := some (x.count, time), idxNew := true } := if_neg (Bool.eq_false_iff.mp h)

/-- An index changes the latch and its two marks at most. -/
theorem Port.indexed_keeps (x : Port) (time : DevTime) :
    x.indexed time = { x with latch := (x.indexed time).latch, idxNew := (x.indexed time).idxNew
                              indexExtra := (x.indexed time).indexExtra } := by
  cases hn : x.idxNew with
  | true => rw [Port.indexed_again hn]
  | false => rw [Port.indexed_first hn]

theorem State.OnlyPort.takeIndex (h : s.OnlyPort p t x) (time : DevTime) :
    s.OnlyPort p (if x.idxNew then t.modPort p fun y => { y with indexExtra := incSat 32 y.indexExtra }
      else t.modPort p fun y => { y with latch := some (y.count, time), idxNew := true }) (x.indexed time) := by
  cases hn : x.idxNew with
  | true =>
    rw [Port.indexed_again hn, ← incSat_thirtyTwo]
    exact h.modPort fun y => { y with indexExtra := incSat 32 y.indexExtra }
  | false =>
    rw [Port.indexed_first hn]
    exact h.modPort fun y => { y with latch := some (y.count, time), idxNew := true }

theorem State.onlyPort_portZ (s : State) (p k : Nat) :
    s.OnlyPort p (s.portZ p k) ((s.port p).zActive (decide (s.pU 0x4005 (s.portIx p) = 0)) (s.now + k)) :=
  (s.onlyPort_refl p).modPort _

theorem State.zAccepted_iff {k : Nat} :
    s.zAccepted p k = true ↔ (s.port p).zEdgeNs = 0 ∨ s.pU 0x4002 (s.portIx p) * 10 ≤ s.now + k - (s.port p).zEdgeNs := by
  unfold State.zAccepted
  rw [Bool.or_eq_true, decide_eq_true_iff, decide_eq_true_iff]

theorem State.portIndexOp_gated (hg : s.pU 0x4004 (s.portIx p) = 1 → (s.port p).aF = true ∧ (s.port p).bF = true) {k : Nat} :
    s.OnlyPort p (s.portIndexOp p k)
      (((s.port p).zActive (decide (s.pU 0x4005 (s.portIx p) = 0)) (s.now + k)).indexed (s.timeAt k)) := by
  have hopen : ¬(s.pU 0x4004 (s.portIx p) = 1 ∧ (!((s.port p).aF && (s.port p).bF)) = true) := by
    rintro ⟨hgate, hlow⟩
    obtain ⟨ha, hb⟩ := hg hgate
    rw [ha, hb] at hlow
    cases hlow
  unfold State.portIndexOp
  dsimp only
  rw [if_neg hopen]
  exact (s.onlyPort_portZ p k).takeIndex (s.timeAt k)

/-- What a gated index event changes: the first of a tick is latched, a later one is counted. -/
theorem State.portIndexOp_follows (hg : s.pU 0x4004 (s.portIx p) = 1 → (s.port p).aF = true ∧ (s.port p).bF = true) (k : Nat) :
    let x := s.port p
    let t := s.portIndexOp p k
    let y := t.port p
    (x.idxNew = false → y.latch = some (x.count, s.timeAt k) ∧ y.idxNew = true ∧ y.indexExtra = x.indexExtra) ∧
    (x.idxNew = true → y.latch = x.latch ∧ y.idxNew = true ∧ y.indexExtra = min (x.indexExtra + 1) (2 ^ 32 - 1)) ∧
    s.OnlyPort p t { x with
      latch := y.latch, idxNew := y.idxNew, indexExtra := y.indexExtra, zEdgeNs := s.now + k
      zF := decide (s.pU 0x4005 (s.portIx p) = 0) } := by
  obtain ⟨hport, hother, hframe⟩ := State.portIndexOp_gated hg (k := k)
  intro x t y
  have hy : y = _ := hport
  let z := x.zActive (decide (s.pU 0x4005 (s.portIx p) = 0)) (s.now + k)
  refine ⟨fun hn => ?_, fun hn => ?_, ?_, hother, hframe⟩
  · rw [hy, Port.indexed_first (x := z) hn]
    exact ⟨rfl, rfl, rfl⟩
  · rw [hy, Port.indexed_again (x := z) hn]
    exact ⟨rfl, hn, rfl⟩
  · rw [hy]
    exact hport.trans (z.indexed_keeps (s.timeAt k))

theorem State.exec_portIndexEvent {p : Fin 16} (hm : s.portMode p.val = pmQuad ∨ s.portMode p.val = pmPulse)
    (hr : s.pU 0x4002 (s.portIx p.val) ≤ run) (hz : s.zAccepted p.val (s.acceptedAt p.val run n) = true) :
    exec (.portIndexEvent p ⟨run, n⟩) s = .next (s.portIndexOp p.val (s.acceptedAt p.val run n)) := by
  show execPortIndexEvent p ⟨run, n⟩ s = _
  unfold execPortIndexEvent
  rw [runDone_complete n hr]
  have hz' : (!s.zAccepted p.val (s.acceptedAt p.val run n)) ≠ true := by rw [hz]; decide
  exact congrArg Host.Outcome.next ((if_neg hz').trans (if_pos hm))

theorem State.exec_portIndexEvent_early {p : Fin 16}
    (h : run < s.pU 0x4002 (s.portIx p.val) ∨ (s.port p.val).zEdgeNs ≠ 0 ∧
      s.now + s.acceptedAt p.val run n - (s.port p.val).zEdgeNs < s.pU 0x4002 (s.portIx p.val) * 10) :
    exec (.portIndexEvent p ⟨run, n⟩) s = .next s := by
  show execPortIndexEvent p ⟨run, n⟩ s = _
  unfold execPortIndexEvent
  by_cases hr : run < s.pU 0x4002 (s.portIx p.val)
  · rw [runDone_short n hr]
  · rw [runDone_complete n (Nat.not_lt.mp hr)]
    have hz : (!s.zAccepted p.val (s.acceptedAt p.val run n)) = true := by
      rw [Bool.not_eq_true', Bool.eq_false_iff, ne_eq, State.zAccepted_iff]
      omega
    exact congrArg Host.Outcome.next (if_pos hz)
end

/-! #### Levels outside QUAD and PULSE -/

/-- Port `p` has taken levels of its lines at most: it has counted and latched nothing. -/
def State.ShowsLevels (p : Nat) (t : State) : Prop :=
  (t.port p).count = (s.port p).count ∧ (t.port p).latch = (s.port p).latch ∧ (∀ q, q ≠ p → t.port q = s.port q) ∧
  { t with ports := s.ports } = s

section
variable {s} {p : Nat} {t : State}

theorem State.showsLevels_refl (s : State) (p : Nat) : s.ShowsLevels p s := ⟨rfl, rfl, fun _ _ => rfl, rfl⟩

theorem State.ShowsLevels.modPort (h : s.ShowsLevels p t) {f : Port → Port} (hc : ∀ x, (f x).count = x.count)
    (hl : ∀ x, (f x).latch = x.latch) : s.ShowsLevels p (t.modPort p f) := by
  obtain ⟨hcount, hlatch, hother, hframe⟩ := h
  have hself := t.modPort_port_self p f
  exact ⟨by rw [hself, hc, hcount], by rw [hself, hl, hlatch], fun q hq => (t.modPort_port_other f hq).trans (hother q hq), hframe⟩

theorem State.showsLevels_portLines (s : State) (p : Nat) (a b : Bool) (run run2 n : Nat) :
    s.ShowsLevels p (s.portLines p a b run run2 n) := by
  have hA (u : State) (k : Nat) (h : s.ShowsLevels p u) : s.ShowsLevels p (u.portA p a k) :=
    h.modPort (fun _ => rfl) fun _ => rfl
  have hB (u : State) (k : Nat) (h : s.ShowsLevels p u) : s.ShowsLevels p (u.portB p b k) :=
    h.modPort (fun _ => rfl) fun _ => rfl
  exact State.byLines_invariant (s.ShowsLevels p) _ (s.showsLevels_refl p) hA hB fun u k h => hB _ k (hA u k h)

theorem State.showsLevels_portZ (s : State) (p k : Nat) : s.ShowsLevels p (s.portZ p k) :=
  (s.showsLevels_refl p).modPort (fun _ => rfl) fun _ => rfl

theorem State.completes_quadEdge_off {p : Fin 16} (hm : s.portMode p.val ≠ pmQuad) (a b : Bool) (x : LineSample) :
    Completes (.quadEdge p a b x) s (s.ShowsLevels p.val) :=
  ⟨_, congrArg Host.Outcome.next (if_neg hm), s.showsLevels_portLines p.val a b x.runA x.runB x.t⟩

theorem State.completes_pulseStep_off {p : Fin 16} (hm : s.portMode p.val ≠ pmPulse) (a b : Bool) (x : LineSample) :
    Completes (.pulseStep p a b x) s (s.ShowsLevels p.val) :=
  ⟨_, congrArg Host.Outcome.next (if_neg hm), s.showsLevels_portLines p.val a b x.runA x.runB x.t⟩

theorem State.completes_portIndexEvent_off {p : Fin 16} (hm : ¬(s.portMode p.val = pmQuad ∨ s.portMode p.val = pmPulse))
    (x : IndexSample) : Completes (.portIndexEvent p x) s (s.ShowsLevels p.val) := by
  refine ⟨_, rfl, ?_⟩
  split
  · exact s.showsLevels_refl p.val
  · split
    · exact s.showsLevels_refl p.val
    · exact s.showsLevels_portZ p.val _
end

end Sys2Proof.Machine

/-! ### SSI ports (R127, R128) -/

namespace Sys2Proof.Machine
open Sys2Proof.Claims

variable (s : State)

section
variable {c : SsiCfg} {poly xor : Nat} {bad : Bool} {w : SsiWord}

theorem ssiCause_not_idle (h : w.idleHighAtT0 = false) : ssiCause c poly xor bad w = 1 := by
  unfold ssiCause
  rw [h]
  rfl

/-- A word without a check field: its error bit is right, and what is left is the line after SSI_TIMEOUT. -/
theorem ssiCause_unchecked (hidle : w.idleHighAtT0 = true)
    (herr : c.err ≠ 0 → (w.bits.toNat % 2 ^ c.w / 2 ^ c.k % 2 = 1 ↔ c.err ≠ 1)) (hcheck : c.check = 0) :
    ssiCause c poly xor false w = if w.highAfterTimeout then 0 else 4 := by
  have hstart : ¬(!w.idleHighAtT0 || false) = true := by rw [hidle]; decide
  have herr' : ¬(c.err ≠ 0 ∧ (w.bits.toNat % 2 ^ c.w / 2 ^ c.k % 2 = 1 ↔ c.err = 1)) := by
    rintro ⟨hne, hiff⟩
    have := herr hne
    tauto
  unfold ssiCause
  dsimp only
  rw [if_neg hstart, if_neg herr', hcheck, if_neg (by omega)]
  cases w.highAfterTimeout <;> rfl
end

/-- A port after a transfer that ended with `cause` and read `v`. -/
def Port.transferred (x : Port) (cause v : Nat) : Port :=
  { x with
    begun := true, sample := if cause = 0 ∨ cause = 4 then some v else none
    badNext := decide (cause = 4), lastCause := if cause = 0 then x.lastCause else cause }

/-- The position that a word carries. -/
def State.ssiValue (p : Nat) (w : SsiWord) : Nat :=
  let c := s.ssiCfg p
  let v := w.bits.toNat % 2 ^ c.w / 2 ^ (c.k + c.e)
  if s.pU 0x4012 (s.portIx p) = 0 then grayToBin c.pos v else v

section
variable {s} {p : Nat} {w : SsiWord} {cause : Nat}

/-- The cause of the word at the port. -/
def State.ssiCauseOf (s : State) (p : Nat) (w : SsiWord) : Nat :=
  ssiCause (s.ssiCfg p) (s.pU 0x4016 (s.portIx p)) (s.pU 0x4017 (s.portIx p)) (s.port p).badNext w

theorem State.ssiOp_valid (h : s.ssiCauseOf p w = 0) :
    s.OnlyPort p (s.ssiOp p w) ((s.port p).transferred 0 (s.ssiValue p w)) := by
  have hop : s.ssiOp p w = s.modPort p fun x => x.transferred (s.ssiCauseOf p w) (s.ssiValue p w) := if_pos h
  rw [hop, h]
  exact (s.onlyPort_refl p).modPort _

theorem State.ssiOp_invalid (h : s.ssiCauseOf p w ≠ 0) :
    let t := s.ssiOp p w
    t.port p = (s.port p).transferred (s.ssiCauseOf p w) (s.ssiValue p w) ∧
    Records s t evSsiError (mkRef clsPort (s.portIx p)) [s.ssiCauseOf p w] ∧ { t with ports := s.ports, recd := s.recd } = s := by
  have hop : s.ssiOp p w = (s.modPort p fun x => x.transferred (s.ssiCauseOf p w) (s.ssiValue p w)).emit evSsiError
    (mkRef clsPort (s.portIx p)) [s.ssiCauseOf p w] := if_neg h
  rw [hop]
  exact s.modPort_emit p _ _ _ _
/-- R128: a transfer that begins while the line is not high. -/
theorem State.ssiOp_not_idle (h : w.idleHighAtT0 = false) :
    let t := s.ssiOp p w
    Records s t evSsiError (mkRef clsPort (s.portIx p)) [1] ∧ (t.port p).sample = none ∧
    { t with ports := s.ports, recd := s.recd } = s := by
  have hcause : s.ssiCauseOf p w = 1 := ssiCause_not_idle h
  obtain ⟨hport, hrec, hframe⟩ := State.ssiOp_invalid (hcause.trans_ne one_ne_zero)
  rw [hcause] at hport hrec
  exact ⟨hrec, congrArg Port.sample hport, hframe⟩

/-- A word without a check field, on a port that is not in GRAY code. -/
theorem State.ssiOp_unchecked (hidle : w.idleHighAtT0 = true) (hbad : (s.port p).badNext = false) (hcode : s.pU 0x4012 (s.portIx p) ≠ 0)
    (herr : (s.ssiCfg p).err ≠ 0 →
      (w.bits.toNat % 2 ^ (s.ssiCfg p).w / 2 ^ (s.ssiCfg p).k % 2 = 1 ↔ (s.ssiCfg p).err ≠ 1))
    (hcheck : (s.ssiCfg p).check = 0) :
    let v := w.bits.toNat % 2 ^ (s.ssiCfg p).w / 2 ^ ((s.ssiCfg p).k + (s.ssiCfg p).e)
    let t := s.ssiOp p w
    (w.highAfterTimeout = true → s.OnlyPort p t { s.port p with begun := true, sample := some v, badNext := false }) ∧
    (w.highAfterTimeout = false →
      t.port p = { s.port p with begun := true, sample := some v, badNext := true, lastCause := 4 } ∧
      Records s t evSsiError (mkRef clsPort (s.portIx p)) [4] ∧ { t with ports := s.ports, recd := s.recd } = s) := by
  have hcause : s.ssiCauseOf p w = if w.highAfterTimeout then 0 else 4 := by
    unfold State.ssiCauseOf
    rw [hbad]
    exact ssiCause_unchecked hidle herr hcheck
  have hvalue : s.ssiValue p w = w.bits.toNat % 2 ^ (s.ssiCfg p).w / 2 ^ ((s.ssiCfg p).k + (s.ssiCfg p).e) := if_neg hcode
  rw [← hvalue]
  refine ⟨fun hhigh => ?_, fun hlow => ?_⟩
  · rw [hhigh] at hcause
    exact State.ssiOp_valid hcause
  · rw [hlow] at hcause
    obtain ⟨hport, hrec, hframe⟩ := State.ssiOp_invalid (s := s) (p := p) (w := w) (by rw [hcause]; decide)
    rw [hcause] at hport hrec
    exact ⟨hport, hrec, hframe⟩
end

end Sys2Proof.Machine

/-! ### OCHRE ports (R130 to R134) -/

namespace Sys2Proof.Machine
open Sys2Proof.Claims

variable (s : State)

theorem bitN_toNat {n : Nat} (w : BitVec n) (k : Nat) : bitN w.toNat k = w.getLsbD k := by
  unfold bitN BitVec.getLsbD
  rw [Nat.testBit_eq_decide_div_mod_eq]

/-- Each transition pair of a line gives its bit. -/
theorem ochreData_pairs (bit : Nat → Bool) (ks : List Nat) (rest : List Bool) (v : Nat) :
    ochreData ks.length ((ks.flatMap fun k => [!bit k, bit k]) ++ rest) v = some (ks.foldl (fun v k => 2 * v + b2n (bit k)) v) := by
  induction ks generalizing v with
  | nil => rfl
  | cons k ks ih =>
    have hne : (!bit k) ≠ bit k := by cases bit k <;> decide
    rw [List.length_cons, List.flatMap_cons, List.foldl_cons, ← ih]
    exact if_neg hne

/-- The first `m` bits of a word of `n` bits, most significant first, are its upper part. -/
theorem foldl_bits {n : Nat} (w : BitVec n) {m : Nat} (hm : m ≤ n) :
    (upTo m).foldl (fun v k => 2 * v + b2n (w.getLsbD (n - 1 - k))) 0 = w.toNat / 2 ^ (n - m) := by
  induction m with
  | zero => exact (Nat.div_eq_of_lt w.isLt).symm
  | succ m ih =>
    have hpow : 2 ^ (n - m) = 2 ^ (n - (m + 1)) * 2 := by rw [← Nat.pow_succ]; congr 1; omega
    have hbit : b2n (w.getLsbD (n - 1 - m)) = w.toNat / 2 ^ (n - (m + 1)) % 2 := by
      rw [← bitN_toNat, show n - 1 - m = n - (m + 1) by omega]
      unfold b2n bitN
      obtain h | h := Nat.mod_two_eq_zero_or_one (w.toNat / 2 ^ (n - (m + 1))) <;> simp [h]
    unfold upTo at ih ⊢
    rw [List.range_succ, List.foldl_append, ih (by omega), List.foldl_cons, List.foldl_nil, hbit, hpow, ← Nat.div_div_eq_div_mul]
    omega

/-- The line of a response that carries the word `w` (R130, R132). -/
def ochreLine (w : BitVec 64) : List Bool :=
  [false, false, false, true, true, true] ++ ((upTo 64).flatMap fun k => [!w.getLsbD (63 - k), w.getLsbD (63 - k)]) ++ [true, true]

theorem ochreWord_line {r : OchreResp} {w : BitVec 64} (hrate : ochreRateOk r.bitPs = true) (hline : r.line = ochreLine w) (slack : Bool) :
    ochreWord r slack = some w.toNat := by
  have hdata : r.line.drop 6 = ((upTo 64).flatMap fun k => [!w.getLsbD (63 - k), w.getLsbD (63 - k)]) ++ [true, true] := by
    rw [hline]; rfl
  unfold ochreWord
  rw [hrate, hdata]
  have hbits := ochreData_pairs (fun k => w.getLsbD (63 - k)) (upTo 64) [true, true] 0
  rw [foldl_bits w (m := 64) le_rfl] at hbits
  exact hbits.trans (congrArg some (Nat.div_one _))

/-- A response in time and form: the cause is the CRC's, or that of ERR. -/
theorem ochreRead_line {r : OchreResp} {w : BitVec 64} (hstart : r.start ≤ 2000) (hrate : ochreRateOk r.bitPs = true)
    (hlen : r.line.length * r.bitPs ≤ 12000000) (hline : r.line = ochreLine w) (slack : Bool) :
    ochreRead r slack =
      (if crcNorm 16 0x1021 0xFFFF (ochreBytes w.toNat) ≠ w.toNat % 2 ^ 16 then 3 else if w.getLsbD 23 then 2 else 0, w.toNat) := by
  have hsync : ¬(2000 < r.start ∨ r.line.take 6 ≠ ochreSync) := by
    rintro (h | h)
    · exact Nat.not_lt.mpr hstart h
    · exact h (by rw [hline]; rfl)
  unfold ochreRead
  rw [if_neg hsync, if_neg (Nat.not_lt.mpr hlen), ochreWord_line hrate hline slack, ← bitN_toNat]

/-- Bit WARN of the status that a word carries (R132). -/
theorem bitN_field_warn (w : BitVec 64) : bitN (field w.toNat 23 16) 6 = w.getLsbD 22 := by
  rw [← bitN_toNat]
  unfold bitN field
  congr 1
  rw [eq_iff_iff]
  norm_num only
  omega

/-- A port after a response with `cause` and the word `w`, to IDENT or to another request. -/
def Port.responded (x : Port) (ident : Prop) [Decidable ident] (cause w : Nat) : Port :=
  { x with
    begun := x.begun || !decide ident, sample := if cause = 0 ∧ !decide ident then some (w / 2 ^ 24) else none
    id := if cause = 0 ∧ ident then BitVec.ofNat 32 (w / 2 ^ 32) else x.id
    lastCause := if cause = 0 then x.lastCause else cause
    warn := if cause = 0 ∨ cause = 2 then bitN (field w 23 16) 6 else x.warn }

section
variable {x : Port} {ident : Prop} [Decidable ident] {cause w : Nat}

theorem Port.responded_sample (hi : ¬ident) (hw : bitN (field w 23 16) 6 = false) :
    x.responded ident 0 w = { x with begun := true, sample := some (w / 2 ^ 24), warn := false } := by
  unfold Port.responded
  simp [hi, hw]

theorem Port.responded_ident (hi : ident) (hw : bitN (field w 23 16) 6 = false) :
    x.responded ident 0 w = { x with sample := none, warn := false, id := BitVec.ofNat 32 (w / 2 ^ 24 / 256) } := by
  unfold Port.responded
  simp [hi, hw, Nat.div_div_eq_div_mul]

theorem Port.responded_err (hi : ¬ident) (hw : bitN (field w 23 16) 6 = false) :
    x.responded ident 2 w = { x with begun := true, sample := none, warn := false, lastCause := 2 } := by
  unfold Port.responded
  simp [hi, hw]

theorem Port.responded_crc (hi : ¬ident) :
    x.responded ident 3 w = { x with begun := true, sample := none, lastCause := 3 } := by
  unfold Port.responded
  simp [hi]
end

section
variable {s} {p : Nat} {r : OchreResp} {cause w : Nat}

/-- The port after a response, before any record. -/
def State.ochreTaken (s : State) (p cause w : Nat) : State :=
  { s with free := s.free + 1 }.modPort p fun x => x.responded ((s.port p).request = 0x3C) cause w

theorem State.ochreTaken_port (s : State) (p cause w : Nat) :
    (s.ochreTaken p cause w).port p = (s.port p).responded ((s.port p).request = 0x3C) cause w :=
  State.modPort_port_self _ p _

/-- A response that brings no new WARN: it changes the port, and an invalid one is recorded. -/
theorem State.ochreOp_eq (h : ochreRead r (bitN (Config.freeWord s.free).toNat 0) = (cause, w))
    (hw : cause = 0 ∨ cause = 2 → bitN (field w 23 16) 6 = false) :
    s.ochreOp p r = if cause = 0 then s.ochreTaken p cause w
      else (s.ochreTaken p cause w).emit evOchreError (mkRef clsPort (s.portIx p)) [cause, field w 23 16] := by
  let u := if cause = 0 then s.ochreTaken p cause w
    else (s.ochreTaken p cause w).emit evOchreError (mkRef clsPort (s.portIx p)) [cause, field w 23 16]
  have hport : u.port p = (s.port p).responded ((s.port p).request = 0x3C) cause w := by
    refine Eq.trans ?_ (s.ochreTaken_port p cause w)
    unfold u
    split <;> rfl
  have hquiet : ¬((u.port p).warn && !(s.port p).warn) = true := by
    rw [hport]
    unfold Port.responded
    dsimp only
    split
    · rw [hw ‹_›, Bool.false_and]
      exact Bool.false_ne_true
    · cases (s.port p).warn <;> decide
  have hop : s.ochreOp p r = if (u.port p).warn && !(s.port p).warn then
      u.emit evOchreError (mkRef clsPort (s.portIx p)) [ochreWarnCause, field w 23 16] else u := by
    unfold State.ochreOp
    rw [h]
    rfl
  exact hop.trans (if_neg hquiet)

theorem State.ochreOp_valid (h : ochreRead r (bitN (Config.freeWord s.free).toNat 0) = (0, w))
    (hw : bitN (field w 23 16) 6 = false) :
    s.OnlyPort p { s.ochreOp p r with free := s.free } ((s.port p).responded ((s.port p).request = 0x3C) 0 w) := by
  rw [State.ochreOp_eq h fun _ => hw]
  exact (s.onlyPort_refl p).modPort fun x => x.responded ((s.port p).request = 0x3C) 0 w

theorem State.ochreOp_invalid (h : ochreRead r (bitN (Config.freeWord s.free).toNat 0) = (cause, w)) (hc : cause ≠ 0)
    (hw : cause = 2 → bitN (field w 23 16) 6 = false) :
    let t := s.ochreOp p r
    t.port p = (s.port p).responded ((s.port p).request = 0x3C) cause w ∧
    Records s t evOchreError (mkRef clsPort (s.portIx p)) [cause, field w 23 16] ∧
    { t with ports := s.ports, recd := s.recd, free := s.free } = s := by
  rw [State.ochreOp_eq h fun h0 => hw (h0.resolve_left hc), if_neg hc]
  exact ⟨s.ochreTaken_port p cause w, (s.ochreTaken p cause w).records_emit _ _ _, rfl⟩

theorem State.completes_ochreRequest {p : Fin 16} (hm : s.portMode p.val = pmOchre) :
    let x := s.port p.val
    let byte : Byte := if 0 < x.identLeft then 0x3C else if x.clearPending then 0x2D else 0x1E
    Completes (.ochreRequest p) s fun t => s.OnlyPort p.val t { x with
      request := byte, driven := ochreFrame 8 byte.toNat, identLeft := x.identLeft - 1
      clearPending := decide (0 < x.identLeft) && x.clearPending } := by
  refine ⟨_, congrArg Host.Outcome.next (if_pos hm), (s.onlyPort_refl p.val).modPort_eq ?_⟩
  have hclear : (if 0 < (s.port p.val).identLeft then (s.port p.val).clearPending else false) =
      (decide (0 < (s.port p.val).identLeft) && (s.port p.val).clearPending) := by
    by_cases h : 0 < (s.port p.val).identLeft <;> simp [h]
  rw [hclear]
  rfl

theorem State.completes_ochreNoResponse {p : Fin 16} (hm : s.portMode p.val = pmOchre) (hr : (s.port p.val).request ≠ 0x3C) :
    Completes (.ochreNoResponse p) s fun t =>
      t.port p.val = { s.port p.val with begun := true, sample := none, lastCause := 5 } ∧
      Records s t evOchreError (mkRef clsPort (s.portIx p.val)) [5, 0] ∧ { t with ports := s.ports, recd := s.recd } = s := by
  obtain ⟨hport, hrec, hframe⟩ := s.modPort_emit p.val
    (fun x => { x with begun := x.begun || x.request ≠ 0x3C, sample := none, lastCause := 5 }) evOchreError
    (mkRef clsPort (s.portIx p.val)) [5, 0]
  refine ⟨_, congrArg Host.Outcome.next (if_pos hm), hport.trans ?_, hrec, hframe⟩
  dsimp only
  rw [decide_eq_true hr, Bool.or_true]
end

end Sys2Proof.Machine

/-! ### Position compare (R142 to R144) -/

namespace Sys2Proof.Machine
open Sys2Proof.Claims

variable (s : State)

theorem State.modCmp_cmp_self (k : Nat) (f : CmpSt → CmpSt) : (s.modCmp k f).cmp k = f (s.cmp k) :=
  (s.modCmp_cmp k k f).trans (if_pos rfl)

theorem State.modCmp_cmp_other {k j : Nat} (f : CmpSt → CmpSt) (h : j ≠ k) : (s.modCmp k f).cmp j = s.cmp j :=
  (s.modCmp_cmp k j f).trans (if_neg h)

/-- An event that arrives with a stamp is recorded with it. -/
theorem State.recordsAt_emitAt (n code : Nat) (obj : Word) (args : List Nat) :
    RecordsAt n s (s.emitAt code obj args (some (s.timeAt n))) code obj args := by
  intro hq
  rw [s.emitAt_queue code obj args _ hq]
  exact List.mem_append_right _ (List.mem_singleton_self _)

/-- The pin of compare unit `k` is driven from `n` on, for CMP_WIDTH truncated to 5 ns; `y` is the unit, but for the fire. -/
def State.fired (k n : Nat) (y : CmpSt) : CmpSt :=
  { y with
    active := true, pulseEnd := s.now + n + s.pU 0x4043 (s.cmpIx k) / 5 * 5, fired := min ((s.cmp k).fired + 1) (2 ^ 32 - 1)
    sinceLoad := min ((s.cmp k).sinceLoad + 1) (2 ^ 32 - 1), lastCycle := s.tick.cycle, lastT := n
    merged := if (s.cmp k).active then min ((s.cmp k).merged + 1) (2 ^ 32 - 1) else (s.cmp k).merged }

/-- Compare unit `k` has fired for the entry `e` at `n`, and is `y` otherwise; a fire within a pulse is recorded as merged. -/
def State.Fires (k n : Nat) (t : State) (e : Int) (y : CmpSt) : Prop :=
  (∀ j, j ≠ k → t.cmp j = s.cmp j) ∧ { t with cmps := s.cmps, recd := s.recd } = s ∧ t.cmp k = s.fired k n y ∧
  ((s.cmp k).active = true → RecordsAt n s t evCmpMerged (mkRef clsCmp (s.cmpIx k)) [uns 64 e % 2 ^ 32, uns 64 e / 2 ^ 32])

section
variable {s} {k n : Nat} {t : State} {e : Int} {y : CmpSt}

/-- What else changes of the unit that has fired. -/
theorem State.Fires.modCmp (h : s.Fires k n t e y) (f : CmpSt → CmpSt) {y' : CmpSt} (hf : f (s.fired k n y) = s.fired k n y') :
    s.Fires k n (t.modCmp k f) e y' := by
  obtain ⟨hother, hframe, hself, hrec⟩ := h
  exact ⟨fun j hj => (t.modCmp_cmp_other f hj).trans (hother j hj), hframe,
    (t.modCmp_cmp_self k f).trans ((congrArg f hself).trans hf), hrec⟩

/-- The state in which the pin of the unit pulses, before any record. -/
def State.cmpPulsed (s : State) (k n : Nat) : State :=
  s.modCmp k fun y => { y with
    active := true, pulseEnd := s.now + n + s.pU 0x4043 (s.cmpIx k) / 5 * 5, fired := incSat 32 y.fired
    sinceLoad := incSat 32 y.sinceLoad, merged := if (s.cmp k).active then incSat 32 y.merged else y.merged
    lastCycle := s.tick.cycle, lastT := n }

theorem State.cmpPulsed_cmp_self (s : State) (k n : Nat) : (s.cmpPulsed k n).cmp k = s.fired k n (s.cmp k) := by
  unfold State.fired
  rw [← incSat_thirtyTwo, ← incSat_thirtyTwo, ← incSat_thirtyTwo]
  exact s.modCmp_cmp_self k _

theorem State.cmpPulsed_cmp_other (s : State) {k j : Nat} (n : Nat) (h : j ≠ k) : (s.cmpPulsed k n).cmp j = s.cmp j :=
  s.modCmp_cmp_other _ h

theorem State.fireCmp_not_last (s : State) (k n : Nat) (e : Int) :
    s.fireCmp k n e false = if (s.cmp k).active then
      (s.cmpPulsed k n).emitAt evCmpMerged (mkRef clsCmp (s.cmpIx k)) (arg64 e) (some (s.timeAt n))
    else s.cmpPulsed k n := rfl

theorem State.fireCmp_fires (s : State) (k n : Nat) (e : Int) : s.Fires k n (s.fireCmp k n e false) e (s.cmp k) := by
  have hself := s.cmpPulsed_cmp_self k n
  have hother (j : Nat) (hj : j ≠ k) := s.cmpPulsed_cmp_other n hj
  rw [s.fireCmp_not_last]
  split
  · exact ⟨hother, rfl, hself, fun _ => (s.cmpPulsed k n).recordsAt_emitAt n evCmpMerged (mkRef clsCmp (s.cmpIx k)) (arg64 e)⟩
  · exact ⟨hother, rfl, hself, fun ha => absurd ha ‹_›⟩

/-- The unit of a ONCE list at its end. -/
def CmpSt.markEnded (y : CmpSt) : CmpSt := { y with ended := true }

/-- A fire outside a pulse that ends a ONCE list. -/
theorem State.fireCmp_last (s : State) (k n : Nat) (e : Int) (ha : (s.cmp k).active = false) :
    s.Fires k n (s.fireCmp k n e true) e (s.cmp k).markEnded ∧
    RecordsAt n s (s.fireCmp k n e true) evCmpEnd (mkRef clsCmp (s.cmpIx k)) [min ((s.cmp k).sinceLoad + 1) (2 ^ 32 - 1)] := by
  have hself := s.cmpPulsed_cmp_self k n
  have hquiet : s.fireCmp k n e false = s.cmpPulsed k n :=
    (s.fireCmp_not_last k n e).trans (if_neg (Bool.eq_false_iff.mp ha))
  have hlast : s.fireCmp k n e true = ((s.fireCmp k n e false).modCmp k CmpSt.markEnded).emitAt evCmpEnd
    (mkRef clsCmp (s.cmpIx k)) [((s.fireCmp k n e false).cmp k).sinceLoad] (some (s.timeAt n)) := rfl
  rw [hquiet, hself] at hlast
  rw [hlast]
  refine ⟨⟨fun j hj => ?_, rfl, ?_, fun h => absurd (ha.symm.trans h) Bool.false_ne_true⟩, State.recordsAt_emitAt _ n evCmpEnd _ _⟩
  · exact ((s.cmpPulsed k n).modCmp_cmp_other CmpSt.markEnded hj).trans (s.cmpPulsed_cmp_other n hj)
  · exact ((s.cmpPulsed k n).modCmp_cmp_self k CmpSt.markEnded).trans (congrArg CmpSt.markEnded hself)

theorem State.cmpLast_false (h : s.cmpMode k = 1 → (s.cmp k).list.getLast? ≠ some e) : s.cmpLast k e = false := by
  unfold State.cmpLast
  by_cases hm : s.cmpMode k = 1
  · rw [decide_eq_false (h hm), Bool.and_false]
  · rw [decide_eq_false hm, Bool.false_and]

theorem State.cmpLast_true (hm : s.cmpMode k = 1) (hl : (s.cmp k).list.getLast? = some e) : s.cmpLast k e = true := by
  unfold State.cmpLast
  rw [decide_eq_true hm, decide_eq_true hl]
  rfl

/-! #### A port-sourced entry (R143) -/

/-- The count of the source port has reached `e` in the direction of CMP_DIR. -/
def State.cmpHit (s : State) (k : Nat) (e : Int) : Prop :=
  if s.pU 0x4042 (s.cmpIx k) = 1 then (s.port (refIndex (s.cmpSrc k) % 16)).count ≤ e
  else e ≤ (s.port (refIndex (s.cmpSrc k) % 16)).count

theorem State.cmpHit_iff (hp : refClass (s.cmpSrc k) = clsPort) :
    reached (s.cmpNeg k) (s.cmpPos k) e = true ↔ s.cmpHit k e := by
  unfold reached State.cmpHit State.cmpNeg State.cmpPos
  rw [if_pos hp]
  by_cases hn : s.pU 0x4042 (s.cmpIx k) = 1 <;> simp [hn]

theorem State.cmpPortOp_missed (hp : refClass (s.cmpSrc k) = clsPort) (he : s.cmpEntry k (s.cmp k).ptr (s.cmp k).k = some e)
    (hm : ¬s.cmpHit k e) : s.cmpPortOp k n = s := by
  unfold State.cmpPortOp
  dsimp only
  rw [he]
  exact if_neg (mt (State.cmpHit_iff hp).mp hm)

/-- The unit with its pointer behind the entry that has fired. -/
def State.cmpPassed (s : State) (k : Nat) (y : CmpSt) : CmpSt :=
  { y with ptr := (s.cmpAdvance k (s.cmp k).ptr (s.cmp k).k).1, k := (s.cmpAdvance k (s.cmp k).ptr (s.cmp k).k).2 }

theorem State.cmpPortOp_hit (hp : refClass (s.cmpSrc k) = clsPort) (he : s.cmpEntry k (s.cmp k).ptr (s.cmp k).k = some e)
    (hh : s.cmpHit k e) : s.cmpPortOp k n = (s.fireCmp k n e (s.cmpLast k e)).modCmp k (s.cmpPassed k) := by
  unfold State.cmpPortOp
  dsimp only
  rw [he]
  exact if_pos ((State.cmpHit_iff hp).mpr hh)

theorem State.cmpFireOp_due {at_ : Nat} {rest : List (Nat × Int)} (ha : (s.cmp k).armedFires = (at_, e) :: rest)
    (hd : at_ ≤ s.now + n) (hl : s.cmpLast k e = false) :
    s.Fires k n (s.cmpFireOp k n) e { s.cmp k with armedFires := rest } := by
  let u := s.modCmp k fun y => { y with armedFires := rest }
  have hop : s.cmpFireOp k n = u.fireCmp k n e false := by
    unfold State.cmpFireOp
    rw [ha, ← hl]
    exact if_pos hd
  have hu : u.cmp k = { s.cmp k with armedFires := rest } := s.modCmp_cmp_self k _
  obtain ⟨hother, hframe, hself, hrec⟩ := u.fireCmp_fires k n e
  unfold State.fired at hself
  rw [hu] at hself hrec
  rw [hop]
  exact ⟨fun j hj => (hother j hj).trans (s.modCmp_cmp_other _ hj),
    (congrArg (fun v : State => { v with cmps := s.cmps }) hframe :), hself, hrec⟩

theorem State.cmpFireOp_early {at_ : Nat} {rest : List (Nat × Int)} (ha : (s.cmp k).armedFires = (at_, e) :: rest)
    (hd : s.now + n < at_) : s.cmpFireOp k n = s := by
  unfold State.cmpFireOp
  rw [ha]
  exact if_neg (Nat.not_le.mpr hd)
end

end Sys2Proof.Machine

/-! ### O35 -/

namespace Sys2Proof.Machine
open Sys2Proof.Claims

section
variable {s : State} {p : Fin 16} {r : OchreResp} {w : BitVec 64}

/-- R132, R134: a response whose code is read as the word `w`, by the CRC and the bits ERR and WARN. -/
theorem State.completes_ochreResponse (hm : s.portMode p.val = pmOchre)
    (hread : ∀ slack, ochreRead r slack =
      (if crcNorm 16 0x1021 0xFFFF (ochreBytes w.toNat) ≠ w.toNat % 2 ^ 16 then 3 else if w.getLsbD 23 then 2 else 0, w.toNat)) :
    let x := s.port p.val
    let obj := mkRef clsPort (s.portIx p.val)
    let status := w.toNat / 2 ^ 16 % 256
    let good := crcNorm 16 0x1021 0xFFFF (ochreBytes w.toNat) = w.toNat % 2 ^ 16
    (good → w.getLsbD 23 = false → w.getLsbD 22 = false →
      (x.request ≠ 0x3C → Completes (.ochreResponse p r) s fun t => s.OnlyPort p.val { t with free := s.free }
        { x with begun := true, sample := some (w.toNat / 2 ^ 24), warn := false }) ∧
      (x.request = 0x3C → Completes (.ochreResponse p r) s fun t => s.OnlyPort p.val { t with free := s.free }
        { x with sample := none, warn := false, id := BitVec.ofNat 32 (w.toNat / 2 ^ 24 / 256) })) ∧
    (good → w.getLsbD 23 = true → w.getLsbD 22 = false → x.request ≠ 0x3C → Completes (.ochreResponse p r) s fun t =>
      t.port p.val = { x with begun := true, sample := none, warn := false, lastCause := 2 } ∧
      Records s t evOchreError obj [2, status] ∧ { t with ports := s.ports, recd := s.recd, free := s.free } = s) ∧
    (¬good → x.request ≠ 0x3C → Completes (.ochreResponse p r) s fun t =>
      t.port p.val = { x with begun := true, sample := none, lastCause := 3 } ∧
      Records s t evOchreError obj [3, status] ∧ { t with ports := s.ports, recd := s.recd, free := s.free } = s) := by
  have hexec : exec (.ochreResponse p r) s = .next (s.ochreOp p.val r) := congrArg Host.Outcome.next (if_pos hm)
  intro x obj status good
  refine ⟨fun hg herr hwarn => ?_, fun hg herr hwarn hreq => ⟨_, hexec, ?_⟩, fun hg hreq => ⟨_, hexec, ?_⟩⟩
  · have hread0 := hread (bitN (Config.freeWord s.free).toNat 0)
    rw [if_neg (not_not.mpr hg), herr] at hread0
    rw [← bitN_field_warn] at hwarn
    have hport := State.ochreOp_valid (p := p.val) hread0 hwarn
    exact ⟨fun hreq => ⟨_, hexec, Port.responded_sample hreq hwarn ▸ hport⟩,
      fun hreq => ⟨_, hexec, Port.responded_ident hreq hwarn ▸ hport⟩⟩
  · have hread2 := hread (bitN (Config.freeWord s.free).toNat 0)
    rw [if_neg (not_not.mpr hg), herr] at hread2
    rw [← bitN_field_warn] at hwarn
    obtain ⟨hport, hrec, hframe⟩ := State.ochreOp_invalid (p := p.val) hread2 two_ne_zero fun _ => hwarn
    exact ⟨hport.trans (Port.responded_err hreq hwarn), hrec, hframe⟩
  · have hread3 := hread (bitN (Config.freeWord s.free).toNat 0)
    rw [if_pos hg] at hread3
    obtain ⟨hport, hrec, hframe⟩ := State.ochreOp_invalid (p := p.val) hread3 three_ne_zero fun h => absurd h (by decide)
    exact ⟨hport.trans (Port.responded_crc hreq), hrec, hframe⟩
end

section
variable {s : State} {k : Fin 16} {n : Nat}

/-- R142: the pulse ends when its width has passed. -/
theorem State.completes_cmpPulseEnd (ha : (s.cmp k.val).active = true) (hend : (s.cmp k.val).pulseEnd ≤ s.now + n) :
    Completes (.cmpPulseEnd k n) s fun t =>
      t.cmp k.val = { s.cmp k.val with active := false } ∧ (∀ j, j ≠ k.val → t.cmp j = s.cmp j) ∧
      { t with cmps := s.cmps } = s := by
  have hdue : ((s.cmp k.val).active && decide ((s.cmp k.val).pulseEnd ≤ s.now + n)) = true := by
    rw [ha, decide_eq_true hend]
    rfl
  exact ⟨_, congrArg Host.Outcome.next (if_pos hdue), s.modCmp_cmp_self _ _, fun j hj => s.modCmp_cmp_other _ hj, rfl⟩

theorem State.exec_cmpPulseEnd_early (hend : s.now + n < (s.cmp k.val).pulseEnd) : exec (.cmpPulseEnd k n) s = .next s := by
  refine congrArg Host.Outcome.next (if_neg ?_)
  rw [decide_eq_false (Nat.not_le.mpr hend), Bool.and_false]
  exact Bool.false_ne_true
end

/-- Settles O35: an accepted edge changes its port alone (`OnlyPort`), whatever the order in which the two lines change
(`byLines`); a record may follow it; and a fire leaves its unit pulsing (`Fires`), whether it was scheduled or is a crossing. -/
theorem portsAndComparesFollowTheirEdges : Obligations.PortsAndComparesFollowTheirEdges := by
  unfold Obligations.PortsAndComparesFollowTheirEdges
  refine ⟨fun s p a b run run2 n => ?_, fun s k n => ?_⟩
  · intro x only obj faultless filter off at' infers
    refine ⟨fun hm => ?quad, fun hm ha hb hr hB => ?pulse, fun hm hg => ⟨fun hr hz => ?index, fun he => ?noIndex⟩,
      fun hm w => ?ssi, fun hm => ?ochre, fun hm => ?off⟩
    case quad =>
      have hq (a b : Bool) (w : LineSample) : exec (.quadEdge p a b w) s = .next (s.quadEdgeOp p.val a b w.runA w.runB w.t) :=
        congrArg Host.Outcome.next (if_pos hm)
      refine ⟨fun ha hb hr => ⟨_, hq .., State.quadEdge_A ha hb hr⟩, fun hr hr2 => ⟨_, hq .., State.byLines_none hr hr2⟩,
        fun ha hb hr => ⟨_, hq .., State.quadEdge_B ha hb hr⟩, fun ha hb hr2 hlt hn => ⟨_, hq .., ?_⟩,
        fun ha hb hr hl hi => ⟨_, hq .., State.quadEdge_illegal ha hb hr hl hi⟩,
        fun ha hb hr hi => ⟨_, hq .., State.quadEdge_inferred ha hb hr hi⟩⟩
      obtain ⟨hport, hother, hframe⟩ := State.quadEdge_A_then_B ha hb hr2 hlt hn
      exact ⟨congrArg Port.aF hport, congrArg Port.bF hport, congrArg Port.aEdgeNs hport, (congrArg Port.illegal hport :),
        State.quadEdge_A_then_B_count ha hb hr2 hlt hn, hother, hframe⟩
    case pulse =>
      exact ⟨_, congrArg Host.Outcome.next (if_pos hm), State.pulseStep_A ha hb hr hB⟩
    case index =>
      exact ⟨_, State.exec_portIndexEvent hm hr (State.zAccepted_iff.mpr hz), State.portIndexOp_follows hg _⟩
    case noIndex =>
      exact ⟨s, State.exec_portIndexEvent_early he, rfl⟩
    case ssi =>
      intro ix k e word value
      have hssi : exec (.ssiTransfer p w) s = .next (s.ssiOp p.val w) := congrArg Host.Outcome.next (if_pos hm)
      refine ⟨fun hidle => ⟨_, hssi, State.ssiOp_not_idle hidle⟩, fun hidle hbad hcode herr hcheck => ?_⟩
      obtain ⟨hhigh, hlow⟩ := State.ssiOp_unchecked hidle hbad hcode herr hcheck
      exact ⟨fun h => ⟨_, hssi, hhigh h⟩, fun h => ⟨_, hssi, hlow h⟩⟩
    case ochre =>
      exact ⟨fun r w hstart hrate hlen hline => State.completes_ochreResponse hm (ochreRead_line hstart hrate hlen hline),
        State.completes_ochreNoResponse hm, State.completes_ochreRequest hm⟩
    case off =>
      have hne (m : Nat) (h : pmOff ≠ m) : s.portMode p.val ≠ m := hm.trans_ne h
      refine ⟨fun c hc => ?_, fun c hc => ?_⟩
      · simp only [List.mem_cons, List.not_mem_nil, or_false] at hc
        obtain rfl | rfl := hc
        · exact ⟨s, congrArg Host.Outcome.next (if_neg (hne _ (by decide))), rfl⟩
        · exact ⟨s, congrArg Host.Outcome.next (if_neg (hne _ (by decide))), rfl⟩
      · simp only [List.mem_cons, List.not_mem_nil, or_false] at hc
        obtain rfl | rfl | rfl := hc
        · exact State.completes_quadEdge_off (hne _ (by decide)) a b _
        · exact State.completes_pulseStep_off (hne _ (by decide)) a b _
        · exact State.completes_portIndexEvent_off (not_or.mpr ⟨hne _ (by decide), hne _ (by decide)⟩) _
  · intro x obj width fires hmode
    refine ⟨fun hp e he => ⟨fun hmiss => ?missed, fun hhit hl => ?hit, fun hhit hm hl ha => ?ended⟩,
      fun at_ e rest harmed hl => ⟨fun hd => ?due, fun hd => ?early⟩, State.completes_cmpPulseEnd,
      fun hend => ⟨s, State.exec_cmpPulseEnd_early hend, rfl⟩⟩
    case missed =>
      exact ⟨s, congrArg Host.Outcome.next ((if_pos ⟨hmode, hp⟩).trans (State.cmpPortOp_missed hp he hmiss)), rfl⟩
    case hit =>
      have hexec : exec (.cmpPortCrossing k n) s = .next _ :=
        congrArg Host.Outcome.next ((if_pos ⟨hmode, hp⟩).trans (State.cmpPortOp_hit hp he hhit))
      rw [State.cmpLast_false hl] at hexec
      exact ⟨_, hexec, (s.fireCmp_fires k.val n e).modCmp _ rfl⟩
    case ended =>
      have hexec : exec (.cmpPortCrossing k n) s = .next _ :=
        congrArg Host.Outcome.next ((if_pos ⟨hmode, hp⟩).trans (State.cmpPortOp_hit hp he hhit))
      rw [State.cmpLast_true hm hl] at hexec
      obtain ⟨hfires, hrec⟩ := s.fireCmp_last k.val n e ha
      exact ⟨_, hexec, hfires.modCmp _ rfl, hrec⟩
    case due =>
      exact ⟨_, congrArg Host.Outcome.next (if_pos hmode), State.cmpFireOp_due harmed hd (State.cmpLast_false hl)⟩
    case early =>
      exact ⟨s, congrArg Host.Outcome.next ((if_pos hmode).trans (State.cmpFireOp_early harmed hd)), rfl⟩

end Sys2Proof.Machine

/-! ### Solves (R192 to R200, R207) -/

namespace Sys2Proof.Machine
open Sys2Proof.Claims

variable (s : State)

/-! #### How a solve ends -/

/-- The solve is over in `t` with an outcome; its result waits for the next boundary. -/
def State.SolveEnded (s t : State) (out : Nat) : Prop :=
  t.solver.solve = none ∧ t.solver.outcome = out ∧ t.solver.due = true ∧ t.solver.structs = s.solver.structs ∧
    { t with solver := s.solver, recd := s.recd, free := s.free } = s

/-- The solve is over in `t` on a numeric failure, which is recorded with its cause (R199). -/
def State.SolveFailed (s t : State) (cause : Nat) : Prop :=
  s.SolveEnded t outNumeric ∧ t.solver.usable = false ∧ Records s t evSolveNumeric s.devRef [cause]

/-- The outcome that stands: an uncorrectable error in the structure makes it a numeric failure (R479). -/
def State.keptOutcome (s : State) (x : Solve) (out : Nat) : Nat :=
  if (s.struct? x.handle).any (fun y => y.damaged) = true then outNumeric else out

section
variable {s} {x : Solve} {out off : Nat} {it : Iterate}

theorem State.keptOutcome_numeric : s.keptOutcome x outNumeric = outNumeric := ite_self _

theorem State.SolveEnded.of_emit {t : State} {code : Nat} {obj : Word} {args : List Nat}
    (h : (s.emit code obj args).SolveEnded t out) : s.SolveEnded t out := by
  obtain ⟨hsolve, hout, hdue, hstructs, hframe⟩ := h
  exact ⟨hsolve, hout, hdue, hstructs, congrArg (fun u : State => { u with recd := s.recd }) hframe⟩

theorem State.endSolve_outcome (hw : s.health.warmDamaged = false) :
    (s.endSolve x out it off).solver.outcome = s.keptOutcome x out := by
  change (if (s.health.warmDamaged || (s.struct? x.handle).any fun y => y.damaged) = true then outNumeric else out) = _
  rw [hw, Bool.false_or]
  rfl

theorem State.endSolve_ended (hw : s.health.warmDamaged = false) :
    s.SolveEnded (s.endSolve x out it off) (s.keptOutcome x out) := by
  have hhealth : { s.health with warmDamaged := false } = s.health := by rw [← hw]
  exact ⟨rfl, State.endSolve_outcome hw, rfl, rfl, congrArg (fun h => { s with health := h }) hhealth⟩

/-- No result of a numeric failure is usable (R204). -/
theorem State.endSolve_numeric_unusable : (s.endSolve x outNumeric it off).solver.usable = false := by
  have hout : (if (s.health.warmDamaged || (s.struct? x.handle).any fun y => y.damaged) = true then outNumeric
    else outNumeric) = outNumeric := ite_self _
  unfold State.endSolve
  simp only [State.modHealth_solver, State.modSolver_solver, hout]
  simp [outNumeric]

theorem State.numericEnd_failed (cause : Nat) (hw : s.health.warmDamaged = false) :
    s.SolveFailed (s.numericEnd x cause it off) cause := by
  have hended : (s.emit evSolveNumeric s.devRef [cause]).SolveEnded (s.numericEnd x cause it off) _ :=
    State.endSolve_ended hw
  rw [State.keptOutcome_numeric] at hended
  exact ⟨hended.of_emit, State.endSolve_numeric_unusable, s.records_emit _ _ _⟩
end

/-! #### How a solve begins (R183 to R195) -/

/-- In `t` a solve of the structure `x` has begun, at the boundary of this tick. -/
def State.SolveBegun (s : State) (k : Nat) (x : Struct) (t : State) : Prop :=
  (∃ y, t.solver.solve = some y ∧ y.handle = k ∧ y.generation = x.generation ∧ y.image = x ∧ y.iter = 0 ∧
    y.factored = false ∧ y.deadline = s.pU 0x6002 s.dev * 1000 ∧ y.boundaryNs = s.now) ∧
  t.solver.structs = s.solver.structs ∧ { t with solver := s.solver, recd := s.recd, free := s.free } = s

section
variable {s} {k : Nat} {x : Struct}

theorem State.SolveBegun.emit {t : State} (code : Nat) (obj : Word) (args : List Nat) (h : s.SolveBegun k x t) :
    s.SolveBegun k x (t.emit code obj args) := h

/-- On a structure without an error a solve begins, whatever rows the records leave unplaced and whatever start it has. -/
theorem State.beginSolve_begun (hx : x.damaged = false) : s.SolveBegun k x (s.beginSolve k x) := by
  unfold State.beginSolve
  extract_lets s1 same placed prows warm rho base brows v z it started drawn unplaced mapped
  rw [hx, if_neg Bool.false_ne_true]
  have hdrawn : s.SolveBegun k x drawn := by
    refine ⟨⟨_, rfl, rfl, rfl, rfl, rfl, rfl, rfl, rfl⟩, rfl, ?_⟩
    simp only [drawn, started, s1, State.modSolver]
  have hunplaced : s.SolveBegun k x unplaced := by
    unfold unplaced
    split
    · exact hdrawn.emit _ _ _
    · exact hdrawn
  unfold mapped
  split
  · exact hunplaced.emit _ _ _
  · exact hunplaced

/-- The three outcomes of SOLVE_START on the selected structure. -/
theorem State.exec_solveStart (hk : s.solver.selected = some k) (hx : s.struct? k = some x) :
    exec .solveStart s = .next
      (if s.boundary = false ∨ s.pU 0x6001 s.dev ≠ 1 ∨ s.solver.due = true ∨ s.solver.solve.isSome = true then s
      else if s.rowEngines = [] ∨ s.solver.vplanOk = false then s.skipSolve else s.beginSolve k x) := by
  change execSolveStart s = _
  simp [execSolveStart, hk, hx, or_assoc]

/-- At a planning boundary with the solver on, nothing due and no solve in progress, the period is skipped or solved. -/
theorem State.exec_solveStart_boundary (hk : s.solver.selected = some k) (hx : s.struct? k = some x) (hb : s.boundary = true)
    (hon : s.pU 0x6001 s.dev = 1) (hdue : s.solver.due = false) (hnone : s.solver.solve = none) : exec .solveStart s =
      .next (if s.rowEngines = [] ∨ s.solver.vplanOk = false then s.skipSolve else s.beginSolve k x) := by
  rw [State.exec_solveStart hk hx, if_neg]
  simp [hb, hon, hdue, hnone]

theorem State.exec_solveStart_unselected (h : s.solver.selected = none) : exec .solveStart s = .next s := by
  change execSolveStart s = _
  rw [execSolveStart, h]
  rfl

/-- A period that is not solved (R195). -/
theorem State.skipSolve_ended : s.SolveEnded s.skipSolve outSkipped := ⟨rfl, rfl, rfl, rfl, rfl⟩
end

/-! #### The solve in progress -/

/-- The solve in progress is `x`. -/
def State.setSolve (s : State) (x : Solve) : State := s.modSolver fun y => { y with solve := some x }

theorem State.setSolve_frame (x : Solve) :
    { s.setSolve x with solver := { (s.setSolve x).solver with solve := s.solver.solve } } = s := rfl

/-- The solve after an iteration: the better of two iterates is kept, the later on a tie (R199). -/
def Solve.advance (x : Solve) (it : Iterate) : Solve :=
  { x with cur := it, iter := x.iter + 1, best := if it.r ≤ x.best.r then it else x.best }

section
variable {s} {x : Solve} {n off : Nat}

theorem State.exec_without_solve (h : s.solver.solve = none) {c : Instr}
    (hc : c ∈ [Instr.solveFactorDone n, .solveIteration n, .rhoRefactorDone n, .deadlineInFactor, .deadlineIter]) :
    exec c s = .next s := by
  simp only [List.mem_cons, List.not_mem_nil, or_false] at hc
  obtain rfl | rfl | rfl | rfl | rfl := hc
  all_goals exact congrArg Host.Outcome.next (by rw [h])

/-- The initial factorisation counts only if it is complete 20 µs before the deadline (R200). -/
theorem State.exec_solveFactorDone (hx : s.solver.solve = some x) (hf : x.factored = false) :
    exec (.solveFactorDone n) s =
      .next (if s.solveOff x n + 20000 ≤ x.deadline then s.factorDone x (s.solveOff x n) else s) := by
  change execSolveFactorDone n s = _
  simp [execSolveFactorDone, hx, hf]

theorem State.exec_deadlineInFactor (hx : s.solver.solve = some x) (hf : x.factored = false)
    (hd : x.boundaryNs + x.deadline ≤ s.now + s.P + 20000) :
    ∃ off, exec .deadlineInFactor s = .next { s.endSolve x outDeadlineFactor x.cur off with free := s.free + 1 } := by
  refine ⟨x.deadline - (Config.freeWord s.free).toNat % 20000, ?_⟩
  change execDeadlineInFactor s = _
  simp [execDeadlineInFactor, hx, hf, hd]

theorem State.exec_solveIteration (hx : s.solver.solve = some x) (hf : x.factored = true)
    (hd : s.solveOff x n ≤ x.deadline) : exec (.solveIteration n) s = .next (s.iterate x (s.solveOff x n)) := by
  change execSolveIteration n s = _
  simp [execSolveIteration, hx, hf, hd]

theorem State.exec_deadlineIter (hx : s.solver.solve = some x) (hf : x.factored = true)
    (hd : x.boundaryNs + x.deadline ≤ s.now + s.P) :
    exec .deadlineIter s = .next (s.endSolve x outDeadlineIter x.best x.deadline) := by
  change execDeadlineIter s = _
  simp [execDeadlineIter, hx, hf, hd]

theorem State.exec_rhoRefactorDone {r : Rat} (hx : s.solver.solve = some x) (hr : x.newRho = some r)
    (hd : s.solveOff x n ≤ x.deadline) : exec (.rhoRefactorDone n) s = .next
      (if x.inertiaOk (s.pF 0x6005) r = true then s.setSolve { x with rho := r, newRho := none, switched := true }
      else s.numericEnd x 1 x.cur (s.solveOff x n)) := by
  change execRhoRefactorDone n s = _
  simp only [execRhoRefactorDone, hx, hr, if_pos hd]
  rfl

/-! #### The factorisation (R196, R199, R200) -/

theorem State.factorDone_pivot (h : x.inertiaOk (s.pF 0x6005) x.rho = false) :
    s.factorDone x off = s.numericEnd x 1 x.cur off := if_pos (by rw [h]; rfl)

/-- A good factor and a finite residual leave the choice to the residual of iterate 0. -/
theorem State.factorDone_good (h : x.inertiaOk (s.pF 0x6005) x.rho = true) (hfin : finite64 [x.cur.r] = true) :
    s.factorDone x off =
      if x.cur.r ≤ 1 then s.endSolve x outConverged x.cur off else s.setSolve { x with factored := true } := by
  simp only [State.factorDone, h, hfin]
  rfl

/-! #### One iteration (R196 to R199) -/

theorem State.iterate_pivot (h : s.nextIter x = none) : s.iterate x off = s.numericEnd x 1 x.cur off := by
  rw [State.iterate, h]

section
variable {v z y : List Rat} (hn : s.nextIter x = some (v, z, y))
include hn

theorem State.iterate_overflow (hfin : finite64 (v ++ z ++ y) = false) : s.iterate x off = s.numericEnd x 2 x.cur off := by
  simp only [State.iterate, hn, hfin]
  rfl

/-- A finite iterate without a check of infeasibility ends the solve if it has converged, and else is the current one. -/
theorem State.iterate_finite (hfin : finite64 (v ++ z ++ y) = true) (hchk : s.pU 0x600B s.dev = 0) :
    let it := s.evalIter x (v.map round64) (z.map round64) (y.map round64)
    s.iterate x off = if it.r ≤ 1 then s.endSolve (x.advance it) outConverged it off
      else s.setSolve (s.rhoCheck (x.advance it) off) := by
  have hoff (p : Prop) : ¬(s.pU 0x600B s.dev ≠ 0 ∧ p) := fun h => h.1 hchk
  simp only [State.iterate, hn, hfin, if_neg (hoff _)]
  rfl
end

/-- The check of ρ changes nothing but the ρ to come (R198). -/
theorem State.rhoCheck_eq (x : Solve) (off : Nat) : ∃ r, s.rhoCheck x off = { x with newRho := r } := by
  unfold State.rhoCheck
  dsimp only
  split
  · exact ⟨_, rfl⟩
  · exact ⟨x.newRho, rfl⟩
end

/-- Settles O45: each event is its guard and its operation (`exec_…`); a solve ends in `endSolve`, whose outcome is the one
asked for unless the structure has an error. -/
theorem solvesRunToTheirOutcome : Obligations.SolvesRunToTheirOutcome := by
  unfold Obligations.SolvesRunToTheirOutcome
  intro s n hw ends kept numeric
  have hended (x : Solve) (out : Nat) (it : Iterate) (off : Nat) : ends (s.endSolve x out it off) (kept x out) :=
    State.endSolve_ended hw
  have hfailed (x : Solve) (cause : Nat) (it : Iterate) (off : Nat) : numeric (s.numericEnd x cause it off) cause :=
    State.numericEnd_failed cause hw
  refine ⟨fun k x hk hx => ⟨fun hidle => ?idle, fun hb hon hdue hnone => ⟨fun hskip => ?skip, fun hrows hv hgood => ?begin⟩⟩,
    fun h => completes_self (State.exec_solveStart_unselected h), fun x hx => ?running,
    fun h c hc => completes_self (State.exec_without_solve h hc)⟩
  case idle =>
    exact completes_self ((State.exec_solveStart hk hx).trans
      (congrArg _ (if_pos (hidle.imp_right (Or.imp_right Or.inl)))))
  case skip =>
    have hexec := State.exec_solveStart_boundary hk hx hb hon hdue hnone
    exact ⟨_, hexec.trans (congrArg _ (if_pos hskip)), State.skipSolve_ended, rfl, rfl⟩
  case begin =>
    have hexec := State.exec_solveStart_boundary hk hx hb hon hdue hnone
    have hsolved : ¬(s.rowEngines = [] ∨ s.solver.vplanOk = false) := by simp [hrows, hv]
    exact ⟨_, hexec.trans (congrArg _ (if_neg hsolved)), State.beginSolve_begun hgood⟩
  case running =>
    intro off
    refine ⟨fun hf hd => ?factor, fun hf hd => ?late, fun hf hd => ?inFactor, fun hf hd hchk => ?iteration,
      fun hf hd => ⟨_, State.exec_deadlineIter hx hf hd, hended _ _ _ _⟩, fun r hr hd => ?refactor⟩
    case factor =>
      have hexec : exec (.solveFactorDone n) s = .next (s.factorDone x off) :=
        (State.exec_solveFactorDone hx hf).trans (congrArg _ (if_pos hd))
      refine ⟨fun hp => ?_, fun hp hfin => ?_⟩
      · rw [State.factorDone_pivot hp] at hexec
        exact ⟨_, hexec, hfailed _ _ _ _⟩
      · rw [State.factorDone_good hp hfin] at hexec
        exact ⟨fun h => ⟨_, hexec.trans (congrArg _ (if_pos h)), hended _ _ _ _⟩,
          fun h => ⟨_, hexec.trans (congrArg _ (if_neg (not_le.mpr h))), rfl, s.setSolve_frame _⟩⟩
    case late =>
      exact completes_self ((State.exec_solveFactorDone hx hf).trans (congrArg _ (if_neg (Nat.not_le_of_lt hd))))
    case inFactor =>
      obtain ⟨evaluated, hexec⟩ := State.exec_deadlineInFactor hx hf hd
      exact ⟨_, hexec, hended x outDeadlineFactor x.cur evaluated⟩
    case iteration =>
      have hexec : exec (.solveIteration n) s = .next (s.iterate x off) := State.exec_solveIteration hx hf hd
      refine ⟨fun hn => ?_, fun v z y hn => ⟨fun hfin => ?_, fun hfin => ?_⟩⟩
      · rw [State.iterate_pivot hn] at hexec
        exact ⟨_, hexec, hfailed _ _ _ _⟩
      · rw [State.iterate_overflow hn hfin] at hexec
        exact ⟨_, hexec, hfailed _ _ _ _⟩
      · intro it
        rw [State.iterate_finite hn hfin hchk] at hexec
        refine ⟨fun h => ⟨_, hexec.trans (congrArg _ (if_pos h)), hended (x.advance it) _ _ _⟩,
          fun h => ⟨_, hexec.trans (congrArg _ (if_neg (not_le.mpr h))), ?_, s.setSolve_frame _⟩⟩
        obtain ⟨r, hcheck⟩ := State.rhoCheck_eq (s := s) (x.advance it) off
        exact ⟨_, congrArg some hcheck, rfl, rfl, rfl, rfl⟩
    case refactor =>
      have hexec := State.exec_rhoRefactorDone hx hr hd
      refine ⟨fun hp => ⟨_, hexec.trans (congrArg _ (if_pos hp)), rfl, s.setSolve_frame _⟩, fun hp => ?_⟩
      exact ⟨_, hexec.trans (congrArg _ (if_neg (by rw [hp]; decide))), hfailed _ _ _ _⟩

end Sys2Proof.Machine

/-! ### A run of discrepancy that has still to begin (R228) -/

namespace Sys2Proof.Machine
open Sys2Proof.Claims

/-- A single-pole input of no filter, no T_disc and no zone. -/
def promptInput : InputRec := ⟨0, false, 8, 8, 0, 0, 0, 0⟩

/-- Its channel B stands high, and its run of discrepancy is dated 1 ns after T0. -/
def runAhead : State :=
  { safety := { img := { inputs := [promptInput] }, inputs := [(0, { bQ := true, runStart := some 1 })] } }

theorem runAhead_siQualify :
    exec (.siQualify 0 .A true 0) runAhead = .next (runAhead.siQualifyOp 0 .A true 0 promptInput) :=
  congrArg Host.Outcome.next (if_neg (by decide +kernel))

/-- The run ends with the qualification, and its length of 0 ns has reached a T_disc of 0. -/
theorem runAhead_faults : (runAhead.siQualifyOp 0 .A true 0 promptInput).demandNow 0 = true := by decide +kernel

/-- Refutes O36: the third clause takes a run shorter than T_disc for one that ends before its start plus T_disc. Where the run
is dated after the offset and T_disc is 0, it ends with a length of 0 ns, which has reached T_disc, and the input faults. -/
theorem not_safetyInputsAndTestPulses : ¬ Obligations.SafetyInputsAndTestPulses := by
  unfold Obligations.SafetyInputsAndTestPulses
  intro hall
  obtain ⟨-, -, hquiet, -⟩ := hall runAhead 0 .A promptInput 0 0 rfl
  obtain ⟨t, ht, hdemand, -⟩ := hquiet true (by decide +kernel) (by decide) (by decide) (by decide) rfl rfl (by decide)
    (by decide +kernel)
  obtain rfl : runAhead.siQualifyOp 0 .A true 0 promptInput = t := Host.Outcome.next.inj (runAhead_siQualify.symm.trans ht)
  exact Bool.false_ne_true (hdemand.symm.trans runAhead_faults)

end Sys2Proof.Machine

/-! ### Axes that stop (R215, R218, R223): what a stop leaves -/

namespace Sys2Proof.Machine
open Sys2Proof.Claims

variable (s : State)

theorem State.Moves.safety {s t : State} (h : s.Moves t) : t.safety = s.safety := (congrArg State.safety h.frame :)

/-- What a stop may change, as an equation. -/
theorem State.Stops.frame {s t : State} (h : s.Stops t) :
    { t with safety := s.safety, axes := s.axes, queues := s.queues, supply := s.supply, host := s.host, recd := s.recd } = s := by
  obtain ⟨sf, ax, qs, sp, rc, hs, rfl, -⟩ := h
  rfl

theorem State.Stops.tick {s t : State} (h : s.Stops t) : t.tick = s.tick := (congrArg State.tick h.frame :)

theorem State.Stops.noOrphan {s t : State} (h : s.Stops t) (ho : s.NoOrphan) : t.NoOrphan := by
  obtain ⟨sf, ax, qs, sp, rc, hs, rfl, -, -, hi⟩ := h
  exact fun e he => ho e (hi ▸ he)

theorem State.Stops.answered_done {s t : State} (h : s.Stops t) (op : Nat) (c : Hdr) (status : Nat) :
    Answered s (t.done op c status) c status := State.answered_done op c status h.noOrphan (congrArg TickSt.cycle h.tick)

/-- `t` comes from `s` by axes that stop: beside motion, only axis STO, the SS1 requests and their monitoring have changed. No axis
leaves axis STO, no request joins, and no record is lost. -/
structure State.AxesStop (s t : State) : Prop where
  stops : s.Stops t
  safety : { t.safety with axisSto := s.safety.axisSto, reqs := s.safety.reqs, mon := s.safety.mon } = s.safety
  on : ∀ a, (s.axisSto a).on = true → (t.axisSto a).on = true
  reqs : ∀ q ∈ t.safety.reqs, q ∈ s.safety.reqs
  events : ∀ e ∈ s.recd.queue, e.IsEv → e ∈ t.recd.queue

theorem State.AxesStop.refl : s.AxesStop s := ⟨.refl s, rfl, fun _ h => h, fun _ h => h, fun _ h _ => h⟩

theorem State.AxesStop.trans {s t u : State} (h : s.AxesStop t) (h' : t.AxesStop u) : s.AxesStop u where
  stops := h.stops.trans h'.stops
  safety := (congrArg (fun x : SafetySt =>
    { x with axisSto := s.safety.axisSto, reqs := s.safety.reqs, mon := s.safety.mon }) h'.safety).trans h.safety
  on a ha := h'.on a (h.on a ha)
  reqs q hq := h.reqs q (h'.reqs q hq)
  events e he hev := h'.events e (h.events e he hev) hev

theorem State.axesStop_forEach {α : Type} (l : List α) {f : State → α → State} (h : ∀ (t : State) (a : α), t.AxesStop (f t a)) :
    s.AxesStop (s.forEach l f) := s.forEach_invariant s.AxesStop l f (.refl s) fun t a _ ht => ht.trans (h t a)

/-- Motion that is a stop. -/
theorem State.Moves.axesStop {s t : State} (h : s.Moves t) (hs : s.Stops t) : s.AxesStop t :=
  ⟨hs, by rw [h.safety], fun a ha => by rwa [State.axisSto, h.safety], fun q hq => h.safety ▸ hq, h.events⟩

theorem State.AxesStop.zone {s t : State} (h : s.AxesStop t) (z : Nat) : t.zone z = s.zone z :=
  (congrArg (fun x : SafetySt => tblGet ({} : ZoneSt) x.zones z) h.safety :)

/-! #### Queues -/

theorem State.moves_stopQueue (q : Word) (covered : List Nat) : s.Moves (s.stopQueue q covered) := by
  unfold State.stopQueue
  extract_lets x
  split
  · refine (s.moves_forEach _ fun t e => ?_).trans (State.brakes_dropQueue _ q _).toMoves
    split
    · exact .refl t
    · exact t.moves_modAxis ..
  · exact (s.brakes_dropQueue q _).toMoves

theorem State.moves_stopAxisQueues (a : Nat) (covered : List Nat) : s.Moves (s.stopAxisQueues a covered) := by
  unfold State.stopAxisQueues
  extract_lets t
  have ht : s.Moves t := by
    simp only [t]
    split
    · exact s.moves_stopQueue ..
    · exact .refl s
  exact ht.trans (t.stills_homeFail a).toMoves

/-! #### Axis STO (R215, R223) -/

/-- A change of an axis's STO that leaves it in force. -/
theorem State.axesStop_modAxisSto (a : Nat) {f : AxisSto → AxisSto} (h : ∀ x, x.on = true → (f x).on = true) :
    s.AxesStop (s.modAxisSto a f) := by
  refine ⟨s.stops_modAxisSto a f, rfl, fun b hb => ?_, fun _ hq => hq, fun _ he _ => he⟩
  rw [State.modAxisSto_axisSto]
  split
  · subst_vars; exact h _ hb
  · exact hb

theorem State.axesStop_axisIntoSto (a : Nat) : s.AxesStop (s.axisIntoSto a) := by
  unfold State.axisIntoSto
  extract_lets t
  have ht : s.AxesStop t := ((s.moves_stopAxisQueues a [a]).trans (State.moves_modAxis _ a _)).axesStop
    ((s.stops_stopAxisQueues a [a]).trans (State.stops_modAxis _ a _))
  exact ht.trans ⟨t.stops_modSafety ⟨rfl, rfl, rfl, fun _ => rfl⟩, rfl, fun _ h => h, fun _ h => h, fun _ h _ => h⟩

theorem State.axesStop_setAxisSto (needReset : Bool) (a : Nat) : s.AxesStop (s.setAxisSto needReset a) := by
  unfold State.setAxisSto
  extract_lets t
  split
  · exact s.axesStop_modAxisSto a fun _ hx => hx
  · exact (s.axesStop_modAxisSto a fun _ _ => rfl).trans (t.axesStop_axisIntoSto a)

/-- The axis then stands in axis STO. -/
theorem State.setAxisSto_on (needReset : Bool) (a : Nat) : ((s.setAxisSto needReset a).axisSto a).on = true := by
  unfold State.setAxisSto
  extract_lets t
  split
  next hon =>
    rw [State.modAxisSto_axisSto, if_pos rfl]
    exact hon
  next => exact (t.axesStop_axisIntoSto a).on a (by rw [State.modAxisSto_axisSto, if_pos rfl])

/-- Axis STO of several axes. -/
theorem State.setAxesSto_on {l : List Nat} {a : Nat} (ha : a ∈ l) (needReset : Bool) :
    ((s.forEach l fun u b => u.setAxisSto needReset b).axisSto a).on = true :=
  s.forEach_reaches (fun t => (t.axisSto a).on = true) ha (fun t => t.setAxisSto_on needReset a)
    fun t b _ ht => (t.axesStop_setAxisSto needReset b).on a ht

/-! #### Requests that are over (R218, R223) -/

/-- `t` is `s` with requests that have left, and with other axes that need SAFE_RESET. -/
def State.Pruned (s t : State) : Prop :=
  ∃ st rs, t = { s with safety := { s.safety with axisSto := st, reqs := rs } } ∧
    (∀ a, (t.axisSto a).on = (s.axisSto a).on) ∧ ∀ q ∈ rs, q ∈ s.safety.reqs

theorem State.Pruned.refl : s.Pruned s := ⟨_, _, rfl, fun _ => rfl, fun _ h => h⟩

theorem State.Pruned.trans {s t u : State} (h : s.Pruned t) (h' : t.Pruned u) : s.Pruned u := by
  obtain ⟨st, rs, rfl, hon, hrs⟩ := h
  obtain ⟨st', rs', rfl, hon', hrs'⟩ := h'
  exact ⟨st', rs', rfl, fun a => (hon' a).trans (hon a), fun q hq => hrs q (hrs' q hq)⟩

theorem State.Pruned.axesStop {s t : State} (h : s.Pruned t) : s.AxesStop t := by
  obtain ⟨st, rs, rfl, hon, hrs⟩ := h
  exact ⟨⟨_, _, _, _, _, _, rfl, ⟨rfl, rfl, rfl, fun _ => rfl⟩, rfl, rfl⟩, rfl, fun a ha => (hon a).trans ha, hrs,
    fun _ he _ => he⟩

theorem State.pruned_filter (p : Ss1Req → Bool) :
    s.Pruned (s.modSafety fun x => { x with reqs := x.reqs.filter p }) :=
  ⟨_, _, rfl, fun _ => rfl, fun _ hq => List.mem_of_mem_filter hq⟩

theorem State.pruned_modAxisSto (a : Nat) {f : AxisSto → AxisSto} (h : ∀ x, (f x).on = x.on) : s.Pruned (s.modAxisSto a f) := by
  refine ⟨_, _, rfl, fun b => ?_, fun _ hq => hq⟩
  rw [State.modAxisSto_axisSto]
  split
  · subst_vars; exact h _
  · rfl

theorem State.pruned_resetNeeded (r : Ss1Req) : s.Pruned (s.resetNeeded r) := by
  unfold State.resetNeeded
  split
  · exact s.forEach_invariant s.Pruned _ _ (.refl s) fun t a _ ht => ht.trans (t.pruned_modAxisSto a fun _ => rfl)
  · exact .refl s

theorem State.pruned_pruneSs1 : s.Pruned s.pruneSs1 :=
  (s.pruned_filter s.goesOn).trans (State.forEach_invariant _ (State.Pruned _) _ _ (.refl _) fun t r _ ht =>
    ht.trans (t.pruned_resetNeeded r))

end Sys2Proof.Machine

/-! ### Zones that stop (R212, R215) -/

namespace Sys2Proof.Machine
open Sys2Proof.Claims

variable (s : State)

/-- `t` comes from `s` by zones and axes that stop, and by safety inputs that act: beside motion, only zones, axis STO, SS1 requests
and their monitoring, inputs and SLS records have changed. No zone and no axis leaves STO, no request joins, and no record is
lost. -/
structure State.ZonesStop (s t : State) : Prop where
  stops : s.Stops t
  safety : { t.safety with
    zones := s.safety.zones, axisSto := s.safety.axisSto, reqs := s.safety.reqs, mon := s.safety.mon
    inputs := s.safety.inputs, sls := s.safety.sls } = s.safety
  sto : ∀ z, s.zoneSto z = true → t.zoneSto z = true
  on : ∀ a, (s.axisSto a).on = true → (t.axisSto a).on = true
  reqs : ∀ q ∈ t.safety.reqs, q ∈ s.safety.reqs
  events : ∀ e ∈ s.recd.queue, e.IsEv → e ∈ t.recd.queue

theorem State.ZonesStop.refl : s.ZonesStop s := ⟨.refl s, rfl, fun _ h => h, fun _ h => h, fun _ h => h, fun _ h _ => h⟩

theorem State.ZonesStop.trans {s t u : State} (h : s.ZonesStop t) (h' : t.ZonesStop u) : s.ZonesStop u where
  stops := h.stops.trans h'.stops
  safety := (congrArg (fun x : SafetySt => { x with
    zones := s.safety.zones, axisSto := s.safety.axisSto, reqs := s.safety.reqs, mon := s.safety.mon
    inputs := s.safety.inputs, sls := s.safety.sls }) h'.safety).trans h.safety
  sto z hz := h'.sto z (h.sto z hz)
  on a ha := h'.on a (h.on a ha)
  reqs q hq := h.reqs q (h'.reqs q hq)
  events e he hev := h'.events e (h.events e he hev) hev

theorem State.zonesStop_forEach {α : Type} (l : List α) {f : State → α → State} (h : ∀ (t : State) (a : α), t.ZonesStop (f t a)) :
    s.ZonesStop (s.forEach l f) := s.forEach_invariant s.ZonesStop l f (.refl s) fun t a _ ht => ht.trans (h t a)

/-- A record made before stops stays. -/
theorem State.ZonesStop.records {r s t : State} {code : Nat} {obj : Word} {args : List Nat} (h : s.ZonesStop t)
    (hr : Records r s code obj args) : Records r t code obj args := fun hq => h.events _ (hr hq) trivial

/-! #### The level of a zone (R212) -/

/-- Whether a zone is in STO depends on its commands, its pins and its record. -/
theorem State.zoneSto_congr {s t : State} {z : Nat} (hz : t.zone z = s.zone z) (hr : t.zoneRec z = s.zoneRec z) :
    t.zoneSto z = s.zoneSto z := by
  rw [State.zoneSto, hz, hr]
  rfl

theorem State.zoneSto_of_safety {s t : State} (h : t.safety = s.safety) (z : Nat) : t.zoneSto z = s.zoneSto z :=
  State.zoneSto_congr (by rw [State.zone, h]; rfl) (by rw [State.zoneRec, h]; rfl)

theorem State.Stops.zoneRec {s t : State} (h : s.Stops t) (z : Nat) : t.zoneRec z = s.zoneRec z := by
  obtain ⟨sf, ax, qs, sp, rc, hs, rfl, hk, -⟩ := h
  exact congrArg (fun x : SafeImg => x.zones.find? fun r => r.zone = z) hk.img

/-- Both commands at the safe level put a zone in STO. -/
theorem State.zoneSto_of_withdrawn {z : Nat} (h : (s.zone z).released = false) : s.zoneSto z = true := by
  rw [State.zoneSto, h]; rfl

theorem ZoneSt.released_withdraw (n : Nat) (m w : Bool) (x : ZoneSt) : (x.withdraw n m w).released = false := rfl

theorem State.AxesStop.zonesStop {s t : State} (h : s.AxesStop t) : s.ZonesStop t where
  stops := h.stops
  safety := congrArg (fun x : SafetySt => { x with
    zones := s.safety.zones, inputs := s.safety.inputs, sls := s.safety.sls }) h.safety
  sto z hz := (State.zoneSto_congr (h.zone z) (h.stops.zoneRec z)).trans hz
  on := h.on
  reqs := h.reqs
  events := h.events

/-- A change of a zone that leaves it in STO. -/
theorem State.zonesStop_modZone {z : Nat} {f : ZoneSt → ZoneSt} (h : s.zoneSto z = true → (s.modZone z f).zoneSto z = true) :
    s.ZonesStop (s.modZone z f) := by
  refine ⟨s.stops_modZone z f, rfl, fun y hy => ?_, fun _ ha => ha, fun _ hq => hq, fun _ he _ => he⟩
  by_cases hyz : y = z
  · subst hyz; exact h hy
  · have hkeep : (s.modZone z f).zoneSto y = s.zoneSto y := State.zoneSto_congr (by rw [State.modZone_zone, if_neg hyz]) rfl
    exact hkeep.trans hy

theorem State.zonesStop_emit (code : Nat) (obj : Word) (args : List Nat) : s.ZonesStop (s.emit code obj args) :=
  ⟨s.stops_emit .., rfl, fun _ h => h, fun _ h => h, fun _ h => h, fun _ he hev => s.emit_keeps he hev⟩

theorem State.zonesStop_raiseIrq (k : Nat) : s.ZonesStop (s.raiseIrq k) := by
  refine ⟨s.stops_raiseIrq k, ?_, fun z hz => ?_, fun a ha => ?_, fun q hq => ?_, fun e he _ => ?_⟩
  · rw [State.raiseIrq_safety]
  · rwa [State.zoneSto_of_safety (s.raiseIrq_safety k)]
  · rwa [State.axisSto, State.raiseIrq_safety]
  · rwa [State.raiseIrq_safety] at hq
  · rwa [State.raiseIrq_recd]

/-! #### A zone comes into STO -/

/-- The zone's own change and its record, before its axes stop. -/
def State.zoneStopped (s : State) (z cause : Nat) (input : Option Nat) (late : Bool) (f : ZoneSt → ZoneSt) : State :=
  ((s.modZone z fun x => { f x with cause := cause, causeInput := input, lastSto := s.now, testDue := false, late := late }).emit
    evZoneStop (mkRef clsZone (s.dev * 16 + z)) [1, cause, inputArg input]).raiseIrq 7

section
variable (z cause : Nat) (input : Option Nat) (late : Bool) (f : ZoneSt → ZoneSt)

theorem State.zoneStopped_zone (y : Nat) : (s.zoneStopped z cause input late f).zone y =
    if y = z then { f (s.zone z) with cause := cause, causeInput := input, lastSto := s.now, testDue := false, late := late }
    else s.zone y := by
  rw [State.zoneStopped, State.zone, State.raiseIrq_safety]
  exact s.modZone_zone ..

/-- What follows a zone's own change stops axes only. -/
theorem State.axesStop_zoneIntoSto : (s.zoneStopped z cause input late f).AxesStop (s.zoneIntoSto z cause input late f) :=
  (State.axesStop_forEach _ _ State.axesStop_axisIntoSto).trans (State.pruned_pruneSs1 _).axesStop

theorem State.zoneIntoSto_zone (y : Nat) : (s.zoneIntoSto z cause input late f).zone y =
    if y = z then { f (s.zone z) with cause := cause, causeInput := input, lastSto := s.now, testDue := false, late := late }
    else s.zone y :=
  ((s.axesStop_zoneIntoSto z cause input late f).zone y).trans (s.zoneStopped_zone ..)

variable {f}

/-- Its other zones keep their levels, and it takes the one that its change brings. -/
theorem State.zonesStop_zoneIntoSto (h : s.zoneSto z = true → (s.modZone z f).zoneSto z = true) :
    s.ZonesStop (s.zoneIntoSto z cause input late f) := by
  have hz : s.ZonesStop (s.zoneStopped z cause input late f) := by
    refine ((s.zonesStop_modZone fun hs => ?_).trans (State.zonesStop_emit _ ..)).trans (State.zonesStop_raiseIrq _ 7)
    refine Eq.trans ?_ (h hs)
    simp only [State.zoneSto, State.modZone_zone, if_true, ZoneSt.released]
    rfl
  exact hz.trans (s.axesStop_zoneIntoSto z cause input late f).zonesStop

end

section
variable (z cause n : Nat) (input : Option Nat) (late m w : Bool)

theorem State.stopZoneBy_zone_other {y : Nat} (f : ZoneSt → ZoneSt) (h : y ≠ z) :
    (s.stopZoneBy z cause input late f).zone y = s.zone y := by
  unfold State.stopZoneBy
  split
  · rfl
  · split
    · rw [State.modZone_zone, if_neg h]
    · rw [State.zoneIntoSto_zone, if_neg h]

/-- A zone that is stopped is in STO. -/
theorem State.stopZoneBy_sto : (s.stopZoneBy z cause input late (ZoneSt.withdraw n m w)).zoneSto z = true := by
  unfold State.stopZoneBy
  split
  next h => exact s.zoneSto_of_withdrawn (by simpa using h)
  next =>
    split
    · exact State.zoneSto_of_withdrawn _ (by rw [State.modZone_zone, if_pos rfl]; rfl)
    · exact State.zoneSto_of_withdrawn _ (by rw [State.zoneIntoSto_zone, if_pos rfl]; rfl)

theorem State.stopZoneBy_hostReq : ((s.stopZoneBy z cause input late (ZoneSt.withdraw n m w)).zone z).hostReq = (s.zone z).hostReq := by
  unfold State.stopZoneBy
  split
  · rfl
  · split
    · rw [State.modZone_zone, if_pos rfl]; rfl
    · rw [State.zoneIntoSto_zone, if_pos rfl]; rfl

theorem State.zonesStop_stopZoneBy : s.ZonesStop (s.stopZoneBy z cause input late (ZoneSt.withdraw n m w)) := by
  have hw : (s.modZone z (ZoneSt.withdraw n m w)).zoneSto z = true :=
    State.zoneSto_of_withdrawn _ (by rw [State.modZone_zone, if_pos rfl]; rfl)
  unfold State.stopZoneBy
  split
  · exact .refl s
  · split
    · exact s.zonesStop_modZone fun _ => hw
    · exact s.zonesStop_zoneIntoSto z cause input late fun _ => hw

end

theorem State.zonesStop_stopZone (z cause : Nat) (input : Option Nat) (late : Bool) : s.ZonesStop (s.stopZone z cause input late) :=
  s.zonesStop_stopZoneBy ..

theorem State.stopZone_sto (z cause : Nat) (input : Option Nat) (late : Bool) : (s.stopZone z cause input late).zoneSto z = true :=
  s.stopZoneBy_sto ..

/-- Every zone of the list is stopped. -/
theorem State.stopZones_sto {l : List Nat} {z : Nat} (hz : z ∈ l) {f : State → Nat → State}
    (hf : ∀ t y, ∃ cause input late, f t y = t.stopZone y cause input late) : (s.forEach l f).zoneSto z = true := by
  refine s.forEach_reaches (fun t => t.zoneSto z = true) hz (fun t => ?_) fun t y _ ht => ?_
  · obtain ⟨cause, input, late, h⟩ := hf t z
    rw [h]
    exact t.stopZone_sto ..
  · obtain ⟨cause, input, late, h⟩ := hf t y
    rw [h]
    exact (t.zonesStop_stopZone ..).sto z ht

theorem State.zonesStop_stopAllZones (cause : Nat) : s.ZonesStop (s.stopAllZones cause) :=
  s.zonesStop_forEach _ fun t _ => t.zonesStop_stopZone ..

theorem State.stopAllZones_sto (cause : Nat) {z : Nat} (hz : z ∈ s.zoneList) : (s.stopAllZones cause).zoneSto z = true :=
  s.stopZones_sto hz fun _ _ => ⟨_, _, _, rfl⟩

end Sys2Proof.Machine

/-! ### Inputs that act are stops (R227, R234) -/

namespace Sys2Proof.Machine
open Sys2Proof.Claims

variable (s : State)

theorem State.zonesStop_modInput (i : Nat) {f : InputSt → InputSt} (h : ∀ x, (f x).levels = x.levels) :
    s.ZonesStop (s.modInput i f) :=
  ⟨s.stops_modInput i h, rfl, fun _ h => h, fun _ h => h, fun _ h => h, fun _ he _ => he⟩

theorem State.zonesStop_modSls (k : Nat) (f : SlsSt → SlsSt) : s.ZonesStop (s.modSls k f) :=
  ⟨s.stops_modSls k f, rfl, fun _ h => h, fun _ h => h, fun _ h => h, fun _ he _ => he⟩

theorem State.zonesStop_refreshSls (n : Nat) : s.ZonesStop (s.refreshSls n) := by
  refine s.zonesStop_forEach _ fun u p => ?_
  extract_lets on
  split
  · exact .refl u
  · exact u.zonesStop_modSls ..

theorem State.zonesStop_matrixSto (i n : Nat) : s.ZonesStop (s.matrixSto i n) := by
  unfold State.matrixSto
  extract_lets p own
  split
  · exact s.zonesStop_forEach _ fun u z => u.zonesStop_stopZoneBy ..
  · exact .refl s

theorem State.zonesStop_inputActs (i n : Nat) : s.ZonesStop (s.inputActs i n) := by
  unfold State.inputActs
  extract_lets p u v w
  have hu : s.ZonesStop u := s.zonesStop_modInput i fun _ => rfl
  have hv : s.ZonesStop v := by
    simp only [v]
    split
    · exact hu.trans ⟨u.stops_modRec _, rfl, fun _ h => h, fun _ h => h, fun _ h => h, fun _ he _ => he⟩
    · exact hu
  have hw : s.ZonesStop w := by
    simp only [w]
    split
    · exact hv.trans (v.zonesStop_matrixSto i n)
    · exact hv
  exact hw.trans (w.zonesStop_refreshSls n)

theorem State.zonesStop_inputsAct : s.ZonesStop s.inputsAct := s.zonesStop_forEach _ fun t r => t.zonesStop_inputActs r.input 0

end Sys2Proof.Machine

/-! ### Cross-comparison and channel faults (R212, R237 to R240, R493) -/

namespace Sys2Proof.Machine
open Sys2Proof.Claims

variable (s : State)

/-- What a stop of every zone may change beside what stops change: the axes that a fault of the device has stopped. -/
theorem State.ZonesStop.frame_health {s u t : State} (h : u.ZonesStop t)
    (hu : { u with safety := s.safety, axes := s.axes, queues := s.queues, supply := s.supply, host := s.host, recd := s.recd
                   health := s.health } = s) :
    { t with safety := s.safety, axes := s.axes, queues := s.queues, supply := s.supply, host := s.host, recd := s.recd
             health := s.health } = s :=
  (congrArg (fun v : State => { v with
    safety := s.safety, axes := s.axes, queues := s.queues, supply := s.supply, host := s.host, recd := s.recd
    health := s.health }) h.stops.frame).trans hu

/-! #### The comparison of a tick (R237) -/

/-- An item disagrees as the islands report it, or by what State holds (Table 8.8). -/
theorem State.ccDiffers_iff (l : List CcItem) (i : CcItem) : s.ccDiffers l i = true ↔ l.contains i = true ∨
    (i = .lambda ∧ ∃ g ∈ s.armList, 1311 ≤ (((s.sep.m.arm g).lambda : Int) - (s.sep.w.arm g).lambda).natAbs) ∨
    (i = .crc ∧ s.safety.armed = true ∧ s.configCrc ≠ s.safety.armedCrc.toNat) := by
  unfold State.ccDiffers State.lambdaDiffers
  cases i <;> simp

/-- The count of an item after the comparison of a tick. -/
def State.ccNext (s : State) (l : List CcItem) (i : CcItem) : Nat := if s.ccDiffers l i then s.ccCount (ccCode i) + 1 else 0

/-- The items that the comparison takes. -/
def ccItems : List CcItem := [.inputs, .zones, .ss1, .lambda, .crc, .crystal]

/-- One item is counted. -/
def State.ccRound (s : State) (l : List CcItem) (u : State) (i : CcItem) : State := u.modSafety fun x =>
  { x with ccCounts := tblMod 0 x.ccCounts (ccCode i) fun n => if s.ccDiffers l i then n + 1 else 0 }

theorem State.exec_safetyCrossCompare (l : List CcItem) :
    exec (.safetyCrossCompare l) s = .next (s.forEach ccItems (s.ccRound l)) := rfl

theorem ccCode_injective {i j : CcItem} (h : ccCode i = ccCode j) : i = j := by
  cases i <;> cases j <;> simp_all [ccCode]

theorem State.ccRound_count_other (l : List CcItem) (u : State) {i j : CcItem} (h : j ≠ i) :
    (s.ccRound l u j).ccCount (ccCode i) = u.ccCount (ccCode i) := by
  rw [State.ccCount, State.ccRound, State.modSafety_safety, tblGet_tblMod, if_neg fun hc => h (ccCode_injective hc).symm]
  rfl

theorem State.ccRound_count (l : List CcItem) (u : State) (i : CcItem) :
    (s.ccRound l u i).ccCount (ccCode i) = if s.ccDiffers l i then u.ccCount (ccCode i) + 1 else 0 := by
  rw [State.ccCount, State.ccRound, State.modSafety_safety, tblGet_tblMod, if_pos rfl]
  rfl

theorem ccItems_filter {i : CcItem} (hi : i ≠ .pin) : (ccItems.filter fun j => decide (j = i)) = [i] := by
  cases i
  case pin => exact absurd rfl hi
  all_goals rfl

/-- The comparison counts each item by itself. -/
theorem State.ccRounds_count (l : List CcItem) {i : CcItem} (hi : i ≠ .pin) :
    (s.forEach ccItems (s.ccRound l)).ccCount (ccCode i) = s.ccNext l i := by
  have hother (u : State) (j : CcItem) (hj : decide (j = i) = false) := s.ccRound_count_other l u (of_decide_eq_false hj)
  refine s.forEach_once (P := fun u => u.ccCount (ccCode i) = s.ccCount (ccCode i)) (ccItems_filter hi) rfl
    (fun u j _ hj hu => (hother u j hj).trans hu) (fun u hu => ?_) fun u j _ hj hu => (hother u j hj).trans hu
  rw [State.ccRound_count, hu, State.ccNext]

theorem State.ccRounds_frame (l : List CcItem) : { s.forEach ccItems (s.ccRound l) with
    safety := { (s.forEach ccItems (s.ccRound l)).safety with ccCounts := s.safety.ccCounts } } = s :=
  s.forEach_keeps (fun u : State => { u with safety := { u.safety with ccCounts := s.safety.ccCounts } }) ccItems (s.ccRound l)
    fun _ _ _ => rfl

theorem State.completes_safetyCrossCompare (l : List CcItem) {differs : CcItem → Prop}
    (hd : ∀ i, s.ccDiffers l i = true ↔ differs i) : Completes (.safetyCrossCompare l) s fun t =>
      (∀ i, i ≠ CcItem.pin → (differs i → t.ccCount (ccCode i) = s.ccCount (ccCode i) + 1) ∧
        (¬differs i → t.ccCount (ccCode i) = 0)) ∧
      { t with safety := { t.safety with ccCounts := s.safety.ccCounts } } = s := by
  refine ⟨_, s.exec_safetyCrossCompare l, fun i hi => ⟨fun h => ?_, fun h => ?_⟩, s.ccRounds_frame l⟩
  · rw [s.ccRounds_count l hi, State.ccNext, if_pos ((hd i).mpr h)]
  · rw [s.ccRounds_count l hi, State.ccNext, if_neg (mt (hd i).mp h)]

/-! #### The third tick in a row (R238 to R240) -/

/-- A further channel fault stops every zone (R240). -/
theorem State.channelFault_further {a : Option Island} (hd : s.safety.degraded ≠ none) : ∃ hl, s.channelFault a =
    { s with health := hl, safety := { s.safety with secondFault := true } }.stopAllZones 5 :=
  ⟨_, if_pos (by rw [Option.isSome_iff_ne_none.mpr hd]; rfl)⟩

/-- The third tick is taken and recorded. -/
def State.takeCcFault (s : State) (item : CcItem) (a : Option Island) : State :=
  (s.modSafety fun x => { x with
    ccCounts := tblSet x.ccCounts (ccCode item) 4
    directed := x.directed || a.isNone, directedItem := if a.isNone then ccCode item else x.directedItem }).emit
    evSafeChannelFault s.devRef [attrCode a, ccCode item]

theorem State.exec_safeChannelFault {item : CcItem} {a : Option Island} (hi : item ≠ .pin) (hc : s.ccCount (ccCode item) = 3) :
    exec (.safeChannelFault item a) s = .next ((s.takeCcFault item (ccAttributed item a)).channelFault (ccAttributed item a)) :=
  congrArg Host.Outcome.next (if_pos ⟨hi, hc⟩)

theorem State.exec_safeChannelFault_idle {item : CcItem} {a : Option Island} (hc : s.ccCount (ccCode item) < 3) :
    exec (.safeChannelFault item a) s = .next s :=
  congrArg Host.Outcome.next (if_neg fun h => Nat.ne_of_lt hc h.2)

theorem ccAttributed_some (item : CcItem) (e : Island) :
    ccAttributed item (some e) = if item = .crc ∨ item = .crystal then some e else none := by
  cases item <;> rfl

theorem State.records_takeCcFault (item : CcItem) (a : Option Island) :
    Records s (s.takeCcFault item a) evSafeChannelFault s.devRef [a.elim 3 islandCode, ccCode item] := by
  rw [← attrCode_eq]
  exact State.records_emit _ _ _ _

theorem State.takeCcFault_shape (item : CcItem) (a : Option Island) : ∃ sf rc,
    s.takeCcFault item a = { s with safety := sf, recd := rc } ∧ sf.degraded = s.safety.degraded ∧ sf.img = s.safety.img :=
  ⟨_, _, rfl, rfl, rfl⟩

/-- The first channel fault waits for the next tick. -/
theorem State.completes_safeChannelFault_first {item : CcItem} {e : Island} {named : Option Island}
    (hn : ccAttributed item (some e) = named) (hi : item ≠ .pin) (hc : s.ccCount (ccCode item) = 3)
    (hd : s.safety.degraded = none) (hp : s.safety.degPending = none) : Completes (.safeChannelFault item (some e)) s fun t =>
      t.safety.degPending = some named ∧ t.safety.degraded = none ∧
      Records s t evSafeChannelFault s.devRef [named.elim 3 islandCode, ccCode item] ∧
      { t with recd := s.recd, safety := { t.safety with
        degPending := none, ccCounts := s.safety.ccCounts, directed := s.safety.directed
        directedItem := s.safety.directedItem } } = s := by
  have hexec := s.exec_safeChannelFault (a := some e) hi hc
  rw [hn, State.channelFault_first (s.takeCcFault item named) hd hp] at hexec
  exact ⟨_, hexec, rfl, hd, s.records_takeCcFault item named, by rw [← hp]; rfl⟩

/-- A further one stops every zone. -/
theorem State.completes_safeChannelFault_further {item : CcItem} {e : Island} {named : Option Island}
    (hn : ccAttributed item (some e) = named) (hi : item ≠ .pin) (hc : s.ccCount (ccCode item) = 3)
    (hd : s.safety.degraded ≠ none) : Completes (.safeChannelFault item (some e)) s fun t => t.safety.secondFault = true ∧
      Records s t evSafeChannelFault s.devRef [named.elim 3 islandCode, ccCode item] ∧
      (∀ y ∈ s.zoneList, t.zoneSto y = true) ∧
      { t with safety := s.safety, axes := s.axes, queues := s.queues, supply := s.supply, host := s.host, recd := s.recd
               health := s.health } = s := by
  obtain ⟨sf, rc, htake, hsf, himg⟩ := s.takeCcFault_shape item named
  have hrec := s.records_takeCcFault item named
  rw [htake] at hrec
  obtain ⟨hl, hfault⟩ := State.channelFault_further { s with safety := sf, recd := rc } (a := named) (by rw [hsf]; exact hd)
  have hstop := State.zonesStop_stopAllZones
    { s with health := hl, safety := { sf with secondFault := true }, recd := rc } 5
  have hexec := s.exec_safeChannelFault (a := some e) hi hc
  rw [hn, htake, hfault] at hexec
  refine ⟨_, hexec, (congrArg SafetySt.secondFault hstop.safety :), hstop.records hrec, fun y hy => ?_, hstop.frame_health rfl⟩
  exact State.stopAllZones_sto _ 5 (by rwa [State.zoneList, himg])

/-! #### Pins that read back otherwise (R212, R237, R238) -/

/-- The pin of an island keeps the level that it was found at. -/
def ZoneSt.stick (e : Island) (runs : Bool) (x : ZoneSt) : ZoneSt :=
  match e with
  | .madder => { x with stuckA := some runs }
  | .woad => { x with stuckB := some runs }

/-- The level at which the pin of an island was found to stand, if it was. -/
def ZoneSt.stuck (e : Island) (x : ZoneSt) : Option Bool := match e with | .madder => x.stuckA | .woad => x.stuckB

/-- What the level of a zone depends on. -/
def ZoneSt.pins (x : ZoneSt) : Bool × Option Bool × Option Bool := (x.released, x.stuckA, x.stuckB)

theorem ZoneSt.stuck_of_pins {x y : ZoneSt} (h : x.pins = y.pins) (e : Island) : x.stuck e = y.stuck e := by
  cases e
  · exact congrArg (fun p => p.2.1) h
  · exact congrArg (fun p => p.2.2) h

theorem ZoneSt.released_stick (e : Island) (runs : Bool) (x : ZoneSt) : (x.stick e runs).released = x.released := by
  cases e <;> rfl

theorem ZoneSt.stuck_stick (e : Island) (runs : Bool) (x : ZoneSt) : (x.stick e runs).stuck e = some runs := by cases e <;> rfl

theorem ZoneSt.stuck_stick_other {e i : Island} (runs : Bool) (x : ZoneSt) (h : i ≠ e) : (x.stick e runs).stuck i = x.stuck i := by
  cases e <;> cases i <;> simp_all [ZoneSt.stick, ZoneSt.stuck]

/-- A zone is in STO by a command, by a pin, or for want of a record. -/
theorem State.zoneSto_iff (z : Nat) : s.zoneSto z = true ↔
    (s.zone z).released = false ∨ s.zoneRec z = none ∨ ∃ e, (s.zone z).stuck e = some true := by
  simp only [State.zoneSto, Bool.or_eq_true, Bool.not_eq_true', Option.isNone_iff_eq_none, decide_eq_true_eq, or_assoc]
  refine or_congr_right (or_congr_right ⟨fun h => h.elim (⟨.madder, ·⟩) (⟨.woad, ·⟩), fun ⟨e, h⟩ => ?_⟩)
  cases e
  · exact .inl h
  · exact .inr h

theorem State.zoneSto_of_pins {s t : State} {z : Nat} (h : (t.zone z).pins = (s.zone z).pins) (hr : t.zoneRec z = s.zoneRec z) :
    t.zoneSto z = s.zoneSto z := by
  have hrel : (t.zone z).released = (s.zone z).released := congrArg Prod.fst h
  rw [Bool.eq_iff_iff, State.zoneSto_iff, State.zoneSto_iff, hr, hrel]
  simp only [ZoneSt.stuck_of_pins h]

/-- An island's own command of a zone is the run level. -/
def ZoneSt.runs (e : Island) (x : ZoneSt) : Bool := match e with | .madder => x.runM | .woad => x.runW

/-- The command that an island follows is its own, unless attributed degraded mode names the island. -/
theorem State.zoneRuns_own {e : Island} (z : Nat) (hd : s.safety.degraded = none) :
    s.zoneRuns e z = ((s.zone z).runs e && (s.zoneRec z).isSome) := by
  have hnone : s.ignoredIsland = none := by rw [State.ignoredIsland, hd]; rfl
  rw [State.zoneRuns, if_neg (by rw [hnone]; exact nofun)]
  rfl

/-- The pin's zone once its pin is known to stand at another level, before the fault is taken. -/
def State.pinStuck (s : State) (e : Island) (z : Nat) : State :=
  if s.zoneSto z then s.modZone z (ZoneSt.stick e (s.zoneRuns e z))
  else s.zoneIntoSto z 5 none false (ZoneSt.stick e (s.zoneRuns e z))

theorem State.pinStuck_pins (e : Island) (z y : Nat) : ((s.pinStuck e z).zone y).pins =
    if y = z then ((s.zone z).stick e (s.zoneRuns e z)).pins else (s.zone y).pins := by
  unfold State.pinStuck
  split
  · rw [State.modZone_zone]
    split <;> rfl
  · rw [State.zoneIntoSto_zone]
    split <;> rfl

theorem State.pinStuck_released (e : Island) (z y : Nat) : ((s.pinStuck e z).zone y).released = (s.zone y).released := by
  have h := congrArg Prod.fst (s.pinStuck_pins e z y)
  split at h
  · subst_vars
    exact h.trans (ZoneSt.released_stick ..)
  · exact h

theorem State.pinStuck_stuck (e : Island) (z : Nat) : ((s.pinStuck e z).zone z).stuck e = some (s.zoneRuns e z) :=
  (ZoneSt.stuck_of_pins ((s.pinStuck_pins e z z).trans (if_pos rfl)) e).trans (ZoneSt.stuck_stick ..)

/-- A pin that was not known to stand elsewhere has not brought its zone into STO. -/
theorem State.modZone_stick_sto {e : Island} {z : Nat} (runs : Bool) (hk : (s.zone z).stuck e = none) (hs : s.zoneSto z = true) :
    (s.modZone z (ZoneSt.stick e runs)).zoneSto z = true := by
  rw [State.zoneSto_iff] at hs ⊢
  rw [State.modZone_zone, if_pos rfl, ZoneSt.released_stick]
  refine hs.imp_right (Or.imp_right fun ⟨i, hi⟩ => ⟨i, ?_⟩)
  have hne : i ≠ e := fun he => by rw [he, hk] at hi; cases hi
  rw [ZoneSt.stuck_stick_other runs _ hne, hi]

theorem State.zonesStop_pinStuck {e : Island} {z : Nat} (hk : (s.zone z).stuck e = none) : s.ZonesStop (s.pinStuck e z) := by
  unfold State.pinStuck
  split
  · exact s.zonesStop_modZone (s.modZone_stick_sto _ hk)
  · exact s.zonesStop_zoneIntoSto z 5 none false (s.modZone_stick_sto _ hk)

/-- A zone that runs comes into STO by the pin that reads the safe level (R212). -/
theorem State.pinStuck_sto {e : Island} {z : Nat} (hk : (s.zone z).stuck e = none) (hd : s.safety.degraded = none) :
    (s.pinStuck e z).zoneSto z = true := by
  by_cases hs : s.zoneSto z = true
  · exact (s.zonesStop_pinStuck hk).sto z hs
  · rw [State.zoneSto_iff, not_or, not_or, Bool.not_eq_false, ← ne_eq, ← Option.isSome_iff_ne_none] at hs
    obtain ⟨hrel, hrec, -⟩ := hs
    obtain ⟨hm, hw⟩ := Bool.and_eq_true_iff.mp hrel
    have hruns : s.zoneRuns e z = true := by
      rw [s.zoneRuns_own z hd, hrec, Bool.and_true]
      cases e
      · exact hm
      · exact hw
    exact (State.zoneSto_iff _ z).mpr (.inr (.inr ⟨e, hruns ▸ s.pinStuck_stuck e z⟩))

theorem State.exec_pinReadbackFault {e : Island} {z : Fin 16} (hk : (s.zone z.val).stuck e = none) (ha : s.islandAlive e = true) :
    exec (.pinReadbackFault e z) s = .next (((s.pinStuck e z.val).emit evSafeChannelFault (s.pinStuck e z.val).devRef
      [islandCode e, 7]).channelFault (some e)) := by
  cases e with
  | madder => exact congrArg Host.Outcome.next (if_neg (by simp [show (s.zone z.val).stuckA = none from hk, ha]))
  | woad => exact congrArg Host.Outcome.next (if_neg (by simp [show (s.zone z.val).stuckB = none from hk, ha]))

/-- A pin that differs is a channel fault attributed to its island; the zone is in STO then. -/
theorem State.completes_pinReadbackFault {e : Island} {z : Fin 16} (hk : (s.zone z.val).stuck e = none)
    (ha : s.islandAlive e = true) (hd : s.safety.degraded = none) (hp : s.safety.degPending = none) :
    Completes (.pinReadbackFault e z) s fun t => t.safety.degPending = some (some e) ∧
      (∀ y, (t.zone y).released = (s.zone y).released) ∧ (t.zone z.val).stuck e = some (s.zoneRuns e z.val) ∧
      t.zoneSto z.val = true ∧
      { t with safety := s.safety, axes := s.axes, queues := s.queues, supply := s.supply, host := s.host, recd := s.recd
               health := s.health } = s ∧
      (s.zoneSto z.val = true → Records s t evSafeChannelFault s.devRef [islandCode e, 7] ∧
        { t with recd := s.recd, safety := { t.safety with degPending := none, zones := s.safety.zones } } = s) := by
  have hstop : s.ZonesStop _ := (s.zonesStop_pinStuck hk).trans (State.zonesStop_emit _ evSafeChannelFault
    (s.pinStuck e z.val).devRef [islandCode e, 7])
  have hexec := s.exec_pinReadbackFault hk ha
  rw [State.channelFault_first _ ((congrArg SafetySt.degraded hstop.safety :).trans hd)
    ((congrArg SafetySt.degPending hstop.safety :).trans hp)] at hexec
  refine ⟨_, hexec, rfl, s.pinStuck_released e z.val, s.pinStuck_stuck e z.val, s.pinStuck_sto hk hd, ?_, fun hs => ?_⟩
  · exact hstop.frame_health rfl
  · rw [State.pinStuck, if_pos hs]
    exact ⟨State.records_emit _ _ _ _, by rw [← hp]; rfl⟩

/-! #### Lost islands (R238, R493) -/

/-- The island is lost, and the loss recorded, before every zone stops. -/
def State.islandGone (s : State) (e : Island) (cause : Nat) : State :=
  (s.modSafety fun x => match e with | .madder => { x with madderAlive := false } | .woad => { x with woadAlive := false }).emit
    evIslandLost s.devRef [islandCode e, cause]

theorem State.islandLostOp_alive {e : Island} (cause : Nat) (ha : s.islandAlive e = true) :
    s.islandLostOp e cause = ((s.islandGone e cause).stopAllZones 5).inputsAct := by
  cases e <;> exact if_pos ha

/-- What an island's loss leaves. -/
structure State.Lost (s t : State) (e : Island) (cause : Nat) : Prop where
  sto : ∀ y ∈ s.zoneList, t.zoneSto y = true
  dead : t.islandAlive e = false
  record : Records s t evIslandLost s.devRef [islandCode e, cause]
  frame : { t with safety := s.safety, axes := s.axes, queues := s.queues, supply := s.supply, host := s.host, recd := s.recd } = s

theorem State.lost_islandLostOp {e : Island} (cause : Nat) (ha : s.islandAlive e = true) : s.Lost (s.islandLostOp e cause) e cause := by
  rw [s.islandLostOp_alive cause ha]
  have hstop : (s.islandGone e cause).ZonesStop _ := (State.zonesStop_stopAllZones _ 5).trans (State.zonesStop_inputsAct _)
  refine ⟨fun y hy => ?_, ?_, hstop.records ?_, ?_⟩
  · exact (State.zonesStop_inputsAct _).sto y (State.stopAllZones_sto _ 5 (by cases e <;> exact hy))
  · cases e
    · exact (congrArg SafetySt.madderAlive hstop.safety :)
    · exact (congrArg SafetySt.woadAlive hstop.safety :)
  · exact State.records_emit _ _ _ _
  · exact (congrArg (fun v : State => { v with
      safety := s.safety, axes := s.axes, queues := s.queues, supply := s.supply, host := s.host, recd := s.recd })
      hstop.stops.frame).trans rfl

/-- The rail that supplies an island. -/
def islandRail : Island → Rail
  | .madder => .safeM
  | .woad => .safeW

/-- A rail is invalid. -/
def State.railLost (s : State) (r : Rail) : State := s.modPower fun x => { x with rails := tblSet x.rails (railNo r) false }

theorem State.exec_railInvalid_island (e : Island) {ns : Nat} (hns : 1000 < ns) (hr : s.power.reset = false) :
    exec (.railInvalid (islandRail e) ns) s = .next ((s.railLost (islandRail e)).islandLostOp e 1) := by
  have hlong : ¬ns ≤ 1000 := Nat.not_le_of_lt hns
  have hon : ¬s.power.reset = true := by rw [hr]; decide
  cases e <;> exact congrArg Host.Outcome.next ((if_neg hlong).trans (if_neg hon))

/-- A safe rail that fails loses its island. -/
theorem State.completes_railInvalid_island {e : Island} {ns : Nat} (hns : 1000 < ns) (hr : s.power.reset = false)
    (ha : s.islandAlive e = true) : Completes (.railInvalid (islandRail e) ns) s fun t =>
      (∀ y ∈ s.zoneList, t.zoneSto y = true) ∧ Records s t evIslandLost s.devRef [islandCode e, 1] ∧
      t.railOk (railNo (islandRail e)) = false ∧
      { t with power := s.power, safety := s.safety, axes := s.axes, queues := s.queues, supply := s.supply, host := s.host
               recd := s.recd, health := s.health } = s := by
  have hlost := (s.railLost (islandRail e)).lost_islandLostOp 1 ha
  refine ⟨_, s.exec_railInvalid_island e hns hr, hlost.sto, hlost.record, ?_, ?_⟩
  · rw [State.railOk, (congrArg State.power hlost.frame :)]
    exact tblGet_tblSet_same ..
  · exact congrArg (fun v : State => { v with power := s.power, health := s.health }) hlost.frame

/-! #### Degraded mode that lasts too long, and heat (R240, R524) -/

/-- SS1 of every zone is requested from a tick on, and nothing else of the safety functions changes. -/
def State.AsksAll (s t : State) (t0 : Nat) : Prop :=
  ∃ q, t.safety.reqs = s.safety.reqs ++ [q] ∧ q.scope = .zones s.zoneList ∧ q.t0 = t0 ∧ q.begun = false

/-- Degraded mode has lasted too long, which is recorded. -/
def State.degradedOver (s : State) (d : Degraded) : State :=
  (s.modSafety fun x => { x with degraded := some { d with expired := true } }).emit evSafeDegExpired s.devRef [s.tick.cycle.toNat]

theorem State.exec_safeDegExpired {d : Degraded} (hd : s.safety.degraded = some d) (he : d.expired = false)
    (ht : s.pU 0x7013 s.dev * 1000000 ≤ (s.tick.no - d.entry) * s.P) : exec .safeDegExpired s =
      .next ((s.degradedOver d).noteAllStopped.ss1AllZones 4 (s.tick.no + 1)) := by
  refine congrArg Host.Outcome.next ?_
  rw [hd]
  exact if_pos (by rw [he, decide_eq_true ht]; rfl)

theorem State.completes_safeDegExpired {d : Degraded} (hd : s.safety.degraded = some d) (he : d.expired = false)
    (ht : s.pU 0x7013 s.dev * 1000000 ≤ (s.tick.no - d.entry) * s.P) : Completes .safeDegExpired s fun t =>
      t.safety.degraded = some { d with expired := true } ∧ Records s t evSafeDegExpired s.devRef [s.tick.cycle.toNat] ∧
      s.AsksAll t (s.tick.no + 1) ∧
      { t with recd := s.recd, health := s.health, safety := { t.safety with
        degraded := s.safety.degraded, reqs := s.safety.reqs, nextReq := s.safety.nextReq } } = s := by
  have hexec := s.exec_safeDegExpired hd he ht
  obtain ⟨hl, hnote⟩ : ∃ hl, (s.degradedOver d).noteAllStopped = { s.degradedOver d with health := hl } := ⟨_, rfl⟩
  rw [hnote] at hexec
  exact ⟨_, hexec, rfl, State.records_emit _ _ _ _, ⟨_, rfl, rfl, rfl, rfl⟩, rfl⟩

/-- An island's sensor has read 120 °C before. -/
def HealthSt.tripOf (x : HealthSt) (e : Island) : Bool := match e with | .madder => x.tripM | .woad => x.tripW

/-- The temperature of an island is noted (R524). -/
def HealthSt.tripped (x : HealthSt) (e : Island) (temp : Int) : HealthSt :=
  match e with
  | .madder => { x with tripM := x.tripM || decide (1200 ≤ temp), tempM := temp }
  | .woad => { x with tripW := x.tripW || decide (1200 ≤ temp), tempW := temp }

theorem State.completes_thermalTrip {e : Island} {temp : Int} (ht : 1200 ≤ temp)
    (hk : s.health.tripOf e = false) :
    Completes (.thermalTrip e temp) s fun t =>
      Records s t evThermalTrip s.devRef [islandCode e, argI temp] ∧ s.AsksAll t (s.tick.no + 1) ∧
      { t with recd := s.recd, health := s.health, safety := { t.safety with
        reqs := s.safety.reqs, nextReq := s.safety.nextReq } } = s := by
  have hexec : exec (.thermalTrip e temp) s = .next (({ s with health := s.health.tripped e temp }.emit evThermalTrip s.devRef
      [islandCode e, argI temp]).ss1AllZones 0 (s.tick.no + 1)) := by
    cases e <;> exact congrArg Host.Outcome.next (if_pos ⟨ht, by simpa [HealthSt.tripOf] using hk⟩)
  exact ⟨_, hexec, State.records_emit _ _ _ _, ⟨_, rfl, rfl, rfl, rfl⟩, rfl⟩

/-- Settles O37: each command is its guard and its operation; what a stop of zones leaves (`ZonesStop`) gives the frames. -/
theorem channelFaultsAndLostIslands : Obligations.ChannelFaultsAndLostIslands := by
  unfold Obligations.ChannelFaultsAndLostIslands
  intro s item e z l scope alive alone
  refine ⟨s.completes_safetyCrossCompare l (s.ccDiffers_iff l), fun hi hc => ⟨fun hd hp => ?first, fun hd => ?further⟩,
    fun hi hc => completes_self (s.exec_safeChannelFault_idle hc), fun hk ha hd hp => ?pin, fun ha => ⟨fun clock => ?lost,
      fun ns hns hr => ?rail⟩, fun d hd he ht => s.completes_safeDegExpired hd he ht, fun temp ht hk => s.completes_thermalTrip ht hk⟩
  case first => exact s.completes_safeChannelFault_first (ccAttributed_some item e) hi hc hd hp
  case further => exact s.completes_safeChannelFault_further (ccAttributed_some item e) hi hc hd
  case pin =>
    obtain ⟨t, hexec, hpend, hrel, hstuck, hsto, hscope, hstopped⟩ := s.completes_pinReadbackFault (e := e) hk ha hd hp
    rw [s.zoneRuns_own z.val hd] at hstuck
    exact ⟨t, hexec, hpend, hrel, hstuck, hsto, hscope, hstopped⟩
  case lost =>
    have hl := s.lost_islandLostOp (if clock then 2 else 1) (e := e) ha
    exact ⟨_, rfl, ⟨hl.sto, congrArg (fun v : State => { v with health := s.health }) hl.frame⟩, hl.dead, hl.record⟩
  case rail =>
    cases e
    · exact s.completes_railInvalid_island (e := .madder) hns hr ha
    · exact s.completes_railInvalid_island (e := .woad) hns hr ha

end Sys2Proof.Machine

/-! ### The ends of SS1 (R218, R223) -/

namespace Sys2Proof.Machine
open Sys2Proof.Claims

variable (s : State)

/-- An SS1 request has ended in STO of its scope. -/
structure State.Ended (s t : State) (r : Ss1Req) : Prop where
  stop : s.ZonesStop t
  gone : ∀ q ∈ t.safety.reqs, q.id ≠ r.id
  zones : ∀ zs, r.scope = .zones zs → ∀ y ∈ zs, t.zoneSto y = true
  axes : r.scope = .axis → ∀ b ∈ s.coveredAxes r, (t.axisSto b).on = true

/-- Stops that follow keep it ended. -/
theorem State.Ended.trans {s t u : State} {r : Ss1Req} (h : s.Ended t r) (h' : t.ZonesStop u) : s.Ended u r :=
  ⟨h.stop.trans h', fun q hq => h.gone q (h'.reqs q hq), fun zs hz y hy => h'.sto y (h.zones zs hz y hy),
    fun ha b hb => h'.on b (h.axes ha b hb)⟩

theorem State.coveredAxes_of_safety {s t : State} (h : t.safety = s.safety) (r : Ss1Req) : t.coveredAxes r = s.coveredAxes r := by
  simp only [State.coveredAxes, State.underSs1, h]

/-- Records that came before belong to the end. -/
theorem State.Ended.after {s u t : State} {r : Ss1Req} (h : u.Ended t r) (hu : s.ZonesStop u) (hs : u.safety = s.safety) : s.Ended t r :=
  ⟨hu.trans h.stop, h.gone, h.zones, fun ha b hb => h.axes ha b (State.coveredAxes_of_safety hs r ▸ hb)⟩

theorem State.Ended.frame {s t : State} {r : Ss1Req} (h : s.Ended t r) :
    { t with safety := s.safety, axes := s.axes, queues := s.queues, supply := s.supply, host := s.host, recd := s.recd } = s ∧
    (∀ q ∈ t.safety.reqs, q.id ≠ r.id) ∧
    (match r.scope with
     | .zones zs => ∀ y ∈ zs, t.zoneSto y = true
     | .axis => ∀ b ∈ s.coveredAxes r, (t.axisSto b).on = true) := by
  refine ⟨h.stop.stops.frame, h.gone, ?_⟩
  split
  next zs hz => exact h.zones zs hz
  next ha => exact h.axes ha

theorem State.dropReq1_gone (id : Nat) : ∀ q ∈ (s.dropReq1 id).safety.reqs, q.id ≠ id :=
  fun _ hq => of_decide_eq_true (List.mem_filter.mp hq).2

theorem State.pruned_dropReq1 (id : Nat) : s.Pruned (s.dropReq1 id) := s.pruned_filter _

/-- STO of the request's scope ends it. -/
theorem State.ended_ss1Sto (r : Ss1Req) (cause : Nat) : s.Ended (s.ss1Sto r cause) r := by
  unfold State.ss1Sto
  split
  next zs hz =>
    have hstop : s.ZonesStop (s.forEach zs fun u z => u.stopZone z cause (u.zone z).causeInput false) :=
      s.zonesStop_forEach zs fun u z => u.zonesStop_stopZone ..
    have hdrop := (State.pruned_dropReq1 (s.forEach zs fun u z => u.stopZone z cause (u.zone z).causeInput false) r.id).axesStop
    refine ⟨hstop.trans hdrop.zonesStop, State.dropReq1_gone _ r.id, fun zs' hz' y hy => ?_, fun ha => ?_⟩
    · obtain rfl : zs = zs' := Ss1Scope.zones.inj (hz.symm.trans hz')
      exact hdrop.zonesStop.sto y (s.stopZones_sto hy fun _ _ => ⟨_, _, _, rfl⟩)
    · cases hz.symm.trans ha
  next ha =>
    extract_lets t
    have ht : s.AxesStop t := s.axesStop_forEach _ fun u a => u.axesStop_setAxisSto ..
    have hneed : t.AxesStop (t.resetNeeded r) := (t.pruned_resetNeeded r).axesStop
    have hdrop := (State.pruned_dropReq1 (t.resetNeeded r) r.id).axesStop
    have hprune := (State.pruned_pruneSs1 ((t.resetNeeded r).dropReq1 r.id)).axesStop
    refine ⟨(((ht.trans hneed).trans hdrop).trans hprune).zonesStop, fun q hq => ?_, fun zs hz => ?_, fun _ b hb => ?_⟩
    · exact State.dropReq1_gone _ r.id q (hprune.reqs q hq)
    · cases ha.symm.trans hz
    · exact ((hneed.trans hdrop).trans hprune).on b (s.setAxesSto_on hb _)

theorem State.zonesStop_overlapSto (t : State) (qs : List Ss1Req) : t.ZonesStop (t.overlapSto s qs) := by
  refine t.zonesStop_forEach qs fun u q => ?_
  split
  · exact .refl u
  · exact ((u.axesStop_forEach _ fun v a => v.axesStop_setAxisSto ..).trans (State.pruned_resetNeeded _ q).axesStop).zonesStop

/-! #### A breach (R218) -/

theorem State.breachRecord_shape (e : Island) (r : Ss1Req) :
    s.ZonesStop (s.breachRecord e r) ∧ (s.breachRecord e r).safety = s.safety := by
  unfold State.breachRecord
  split
  · exact ⟨s.zonesStop_emit .., rfl⟩
  · exact ⟨.refl s, rfl⟩

/-- The records of a breach: the island's own, and the other's where its verdict counts. -/
def State.breachRecords (s : State) (e : Island) (r : Ss1Req) : State :=
  if s.islandDecides (otherIsland e) then (s.breachRecord e r).breachRecord (otherIsland e) r else s.breachRecord e r

theorem State.breachRecords_shape (e : Island) (r : Ss1Req) :
    (s.breachRecord e r).ZonesStop (s.breachRecords e r) ∧ (s.breachRecords e r).safety = s.safety := by
  obtain ⟨-, hs⟩ := s.breachRecord_shape e r
  obtain ⟨hstop', hs'⟩ := (s.breachRecord e r).breachRecord_shape (otherIsland e) r
  unfold State.breachRecords
  split
  · exact ⟨hstop', hs'.trans hs⟩
  · exact ⟨.refl _, hs⟩

theorem State.exec_ss1Breach {id : Nat} {e : Island} {r : Ss1Req} {x : Nat × Nat × Nat} (hr : s.ss1Req id = some r)
    (ha : s.ss1Above e r = some x) (hd : s.islandDecides e = true) : ∃ qs, exec (.ss1Breach id e) s =
      .next (((s.breachRecords e r).ss1Sto r 7).overlapSto s qs) := by
  refine ⟨s.alsoEnded ((s.breachRecords e r).ss1Sto r 7) r fun q => (s.ss1Above e q).isSome, congrArg Host.Outcome.next ?_⟩
  rw [hr]
  exact if_pos (by rw [ha, hd]; rfl)

theorem State.completes_ss1Breach {id : Nat} {e : Island} {r : Ss1Req} {b v env : Nat} (hr : s.ss1Req id = some r)
    (ha : s.ss1Above e r = some (b, v, env)) (hd : s.islandDecides e = true) : Completes (.ss1Breach id e) s fun t =>
      s.Ended t r ∧ Records s t evSs1Breach (mkRef clsAxis b) [v, env, islandCode e] := by
  obtain ⟨qs, hexec⟩ := s.exec_ss1Breach hr ha hd
  have hrec : Records s (s.breachRecord e r) evSs1Breach (mkRef clsAxis b) [v, env, islandCode e] := by
    rw [State.breachRecord, ha]
    exact s.records_emit _ _ _
  obtain ⟨hstop, -⟩ := s.breachRecord_shape e r
  obtain ⟨hstop', hs⟩ := s.breachRecords_shape e r
  have hend := ((s.breachRecords e r).ended_ss1Sto r 7).trans (s.zonesStop_overlapSto _ qs)
  exact ⟨_, hexec, hend.after (hstop.trans hstop') hs, (hstop'.trans hend.stop).records hrec⟩

/-! #### Standstill and SS1_TMAX (R218) -/

/-- What SS1_END names of a request's scope (Table 8.15). -/
def State.scopeArgs (s : State) (r : Ss1Req) : List Nat :=
  match r.scope with
  | .zones zs => [1, zs.foldl (fun n z => n ||| 2 ^ z) 0]
  | .axis => [2, (s.coveredAxes r).length]

theorem State.ss1EndArgs_eq (r : Ss1Req) (reason : Nat) : s.ss1EndArgs r reason = s.scopeArgs r ++ [reason] := by
  unfold State.ss1EndArgs State.scopeArgs
  cases r.scope <;> rfl

theorem State.ended_ss1Finish (r : Ss1Req) (reason : Nat) (holds : Ss1Req → Bool) :
    s.Ended (s.ss1Finish r reason holds) r ∧ Records s (s.ss1Finish r reason holds) evSs1End r.obj (s.scopeArgs r ++ [reason]) := by
  unfold State.ss1Finish
  extract_lets t qs
  have hend := ((State.ended_ss1Sto (s.emit evSs1End r.obj (s.ss1EndArgs r reason)) r r.cause).trans
    (s.zonesStop_overlapSto t qs)).trans (State.zonesStop_forEach _ qs fun u q => u.zonesStop_emit evSs1End q.obj
      (s.ss1EndArgs q reason))
  refine ⟨hend.after (s.zonesStop_emit ..) rfl, hend.stop.records ?_⟩
  rw [← s.ss1EndArgs_eq]
  exact s.records_emit _ _ _

theorem State.exec_ss1End {id : Nat} {r : Ss1Req} (hr : s.ss1Req id = some r) : exec (.ss1End id) s =
    .next (if decide (r.t0 < s.tick.no) && s.ss1Still r then s.ss1Finish r 1 s.ss1Still else s) :=
  congrArg Host.Outcome.next (by rw [hr])

theorem State.exec_ss1Tmax {id : Nat} {r : Ss1Req} (hr : s.ss1Req id = some r) : exec (.ss1Tmax id) s =
    .next (if decide (r.t0 < s.tick.no) && s.ss1Over r then s.ss1Finish r 2 s.ss1Over else s) :=
  congrArg Host.Outcome.next (by rw [hr])

/-- Standstill at one island whose verdict counts is enough. -/
theorem State.ss1Still_of {e : Island} {r : Ss1Req} (hd : s.islandDecides e = true)
    (h : ∀ b ∈ s.coveredAxes r, s.islandSpeed e b ≤ s.pU 0x7005 b) : s.ss1Still r = true := by
  refine List.any_eq_true.mpr ⟨e, by cases e <;> decide, ?_⟩
  rw [hd, Bool.true_and, List.all_eq_true]
  exact fun b hb => decide_eq_true (h b hb)

theorem State.ss1Over_of {r : Ss1Req} (h : ∀ b ∈ s.coveredAxes r, ∀ m, tblGet none s.safety.mon b = some m →
    s.pU 0x7004 b * 1000000 ≤ (s.tick.no - m.t0) * s.P) : s.ss1Over r = true := by
  refine List.all_eq_true.mpr fun b hb => ?_
  split
  next m hm => exact decide_eq_true (h b hb m hm)
  next => rfl

end Sys2Proof.Machine

/-! ### Safely limited speed (R220 to R222) -/

namespace Sys2Proof.Machine
open Sys2Proof.Claims

variable (s : State)

/-! #### Records of the SLSMAP -/

theorem State.slsRecs_keys : s.slsRecs.map Prod.fst = upTo s.safety.img.sls.length :=
  List.map_fst_zip (by rw [upTo, List.length_range])

theorem State.slsRecs_keys_nodup : (s.slsRecs.map Prod.fst).Nodup := s.slsRecs_keys ▸ List.nodup_range

/-- A record stands at one place only. -/
theorem State.slsRecs_unique {p q : Nat × SlsRec} (hp : p ∈ s.slsRecs) (hq : q ∈ s.slsRecs) (h : p.1 = q.1) : p = q :=
  List.inj_on_of_nodup_map s.slsRecs_keys_nodup hp hq h

theorem State.slsRecs_filter {p : Nat × SlsRec} (hp : p ∈ s.slsRecs) : (s.slsRecs.filter fun q => decide (q = p)) = [p] :=
  filter_eq_singleton s.slsRecs_keys_nodup.of_map hp

/-- `t` is `s` with other SLS records in force. -/
def State.SlsOnly (s t : State) : Prop := ∃ x, t = { s with safety := { s.safety with sls := x } }

theorem State.SlsOnly.refl : s.SlsOnly s := ⟨_, rfl⟩

theorem State.SlsOnly.trans {s t u : State} (h : s.SlsOnly t) (h' : t.SlsOnly u) : s.SlsOnly u := by
  obtain ⟨x, rfl⟩ := h
  obtain ⟨y, rfl⟩ := h'
  exact ⟨y, rfl⟩

theorem State.slsOnly_modSls (k : Nat) (f : SlsSt → SlsSt) : s.SlsOnly (s.modSls k f) := ⟨_, rfl⟩

theorem State.slsOnly_forEach {α : Type} (l : List α) {f : State → α → State} (h : ∀ (t : State) (a : α), t.SlsOnly (f t a)) :
    s.SlsOnly (s.forEach l f) := s.forEach_invariant s.SlsOnly l f (.refl s) fun t a _ ht => ht.trans (h t a)

theorem State.SlsOnly.frame {s t : State} (h : s.SlsOnly t) : { t with safety := { t.safety with sls := s.safety.sls } } = s := by
  obtain ⟨x, rfl⟩ := h
  rfl

theorem State.modSls_other {k j : Nat} (f : SlsSt → SlsSt) (h : j ≠ k) : (s.modSls k f).slsSt j = s.slsSt j :=
  (s.modSls_slsSt k j f).trans (if_neg h)

/-! #### SLS_MONITOR_START (R222) -/

/-- A record of the group comes under monitoring once its SLS_REACH_T has passed. -/
def State.slsReached (s : State) (g : Nat) (p : Nat × SlsRec) : Bool :=
  decide (p.2.group = g) && (s.slsSt p.1).active && decide ((s.slsSt p.1).since + s.pU 0x7011 s.dev * 1000000 ≤ s.now + 19000)

def State.slsStart (g : Nat) (s : State) (p : Nat × SlsRec) : State :=
  if s.slsReached g p then s.modSls p.1 fun y => { y with monitoring := true } else s

theorem State.exec_slsMonitorStart (g : Nat) : exec (.slsMonitorStart g) s = .next (s.forEach s.slsRecs (State.slsStart g)) := by
  refine congrArg (fun f => Host.Outcome.next (s.forEach s.slsRecs f)) (funext fun u => funext fun p => ?_)
  simp only [State.slsStart, State.slsReached, Bool.and_eq_true, decide_eq_true_eq, and_assoc]

theorem State.slsOnly_slsStart (g : Nat) (p : Nat × SlsRec) : s.SlsOnly (s.slsStart g p) := by
  unfold State.slsStart
  split
  · exact s.slsOnly_modSls ..
  · exact .refl s

theorem State.slsStart_other (g : Nat) {p : Nat × SlsRec} {j : Nat} (h : j ≠ p.1) : (s.slsStart g p).slsSt j = s.slsSt j := by
  unfold State.slsStart
  split
  · exact s.modSls_other _ h
  · rfl

theorem State.slsStart_monitoring (g : Nat) (p : Nat × SlsRec) :
    ((s.slsStart g p).slsSt p.1).monitoring = ((s.slsSt p.1).monitoring || s.slsReached g p) := by
  unfold State.slsStart
  split
  next h =>
    rw [State.modSls_slsSt, if_pos rfl, h, Bool.or_true]
  next h => rw [Bool.eq_false_iff.mpr h, Bool.or_false]

/-- What the other records have started does not matter to a record. -/
theorem State.SlsOnly.slsReached {s t : State} (h : s.SlsOnly t) (g : Nat) {p : Nat × SlsRec} (hp : t.slsSt p.1 = s.slsSt p.1) :
    t.slsReached g p = s.slsReached g p := by
  obtain ⟨x, rfl⟩ := h
  rw [State.slsReached, hp]
  rfl

/-- Each record is judged by itself. -/
theorem State.slsStarts_monitoring (g : Nat) {p : Nat × SlsRec} (hp : p ∈ s.slsRecs) :
    ((s.forEach s.slsRecs (State.slsStart g)).slsSt p.1).monitoring = ((s.slsSt p.1).monitoring || s.slsReached g p) := by
  have hkeep (t : State) (q : Nat × SlsRec) (hq : q ∈ s.slsRecs) (hqp : decide (q = p) = false) :
      (t.slsStart g q).slsSt p.1 = t.slsSt p.1 :=
    t.slsStart_other g fun he => of_decide_eq_false hqp (s.slsRecs_unique hq hp he.symm)
  refine s.forEach_once (P := fun t => s.SlsOnly t ∧ t.slsSt p.1 = s.slsSt p.1)
    (Q := fun t => (t.slsSt p.1).monitoring = ((s.slsSt p.1).monitoring || s.slsReached g p)) (s.slsRecs_filter hp) ⟨.refl s, rfl⟩
    (fun t q hq hqp ht => ⟨ht.1.trans (t.slsOnly_slsStart g q), (hkeep t q hq hqp).trans ht.2⟩) (fun t ht => ?_)
    fun t q hq hqp ht => by rw [hkeep t q hq hqp, ht]
  rw [t.slsStart_monitoring, ht.1.slsReached g ht.2, ht.2]

/-! #### Breaches (R222) -/

theorem State.armSlsBreach_unmonitored {g : Nat} (h : s.slsMonitored (mkRef clsGroup g) = []) : s.armSlsBreach g = none := by
  rw [State.armSlsBreach, h]
  rfl

theorem State.axisSlsBreach_unmonitored {a : Nat} (h : s.slsMonitored (mkRef clsAxis a) = []) : s.axisSlsBreach a = none := by
  rw [State.axisSlsBreach, h]
  rfl

/-- The arms below a group. -/
def State.armsBelow (s : State) (g : Nat) : List Nat := s.armList.filter fun a => (s.groupsBelow (mkRef clsGroup g)).contains a

theorem State.mem_armsBelow {g a : Nat} : a ∈ s.armsBelow g ↔ a ∈ s.armList ∧ a ∈ s.groupsBelow (mkRef clsGroup g) := by
  rw [State.armsBelow, List.mem_filter, List.contains_iff_mem]

/-- The breach of an arm, as the group's list of breaches has it. -/
def State.armBreach (s : State) (a : Nat) : Option (Word × Nat × Nat) :=
  (s.armSlsBreach a).map fun p => (mkRef clsGroup a, (mkRef clsCapsule p.1).toNat, p.2)

/-- The breach of an axis outside every arm. -/
def State.axisBreach (s : State) (a : Nat) : Option (Word × Nat × Nat) :=
  (s.axisSlsBreach a).map fun v => (mkRef clsAxis a, (mkRef clsAxis a).toNat, v)

theorem State.slsBreaches_eq (g : Nat) :
    s.slsBreaches g = (s.armsBelow g).filterMap s.armBreach ++ (s.localAxes (mkRef clsGroup g)).filterMap s.axisBreach := rfl

theorem State.armBreaches_nil {g : Nat} (h : ∀ a ∈ s.armsBelow g, s.armSlsBreach a = none) :
    (s.armsBelow g).filterMap s.armBreach = [] :=
  List.filterMap_eq_nil_iff.mpr fun a ha => by rw [State.armBreach, h a ha]; rfl

theorem State.axisBreaches_nil {l : List Nat} (h : ∀ a ∈ l, s.axisSlsBreach a = none) : l.filterMap s.axisBreach = [] :=
  List.filterMap_eq_nil_iff.mpr fun a ha => by rw [State.axisBreach, h a ha]; rfl

theorem State.exec_slsBreach (g : Nat) : exec (.slsBreach g) s =
    .next (s.forEach (s.slsBreaches g) fun u b => u.slsStop b.1 b.2.1 b.2.2) := rfl

theorem State.exec_slsBreach_idle {g : Nat} (ha : ∀ a ∈ s.armsBelow g, s.armSlsBreach a = none)
    (hx : ∀ a ∈ s.localAxes (mkRef clsGroup g), s.axisSlsBreach a = none) : exec (.slsBreach g) s = .next s := by
  rw [s.exec_slsBreach, s.slsBreaches_eq, s.armBreaches_nil ha, s.axisBreaches_nil hx]
  rfl

/-- The axes that a breach stops: those of the worst record's group, or of the object alone. -/
def State.slsStopped (s : State) (w : Word) : List Nat :=
  match s.slsWorst w with
  | some x => s.localAxes (mkRef clsGroup x.group)
  | none => s.localAxes w

/-- The request of a breach and its record. -/
def State.slsStopAt (s : State) (axes : List Nat) (obj : Word) (what speed : Nat) : State :=
  (s.requestSs1 axes .axis obj 0 (s.tick.no + 1) false).emit evSlsBreach obj [what, speed]

/-- A breach for which no stop stands asks for SS1 of the worst record's group. -/
theorem State.slsStop_worst {w : Word} {x : SlsRec} (what speed : Nat) (hx : s.slsWorst w = some x)
    (hc : (s.slsStopped w).all s.stopStands = false) :
    s.slsStop w what speed = s.slsStopAt (s.slsStopped w) (mkRef clsGroup x.group) what speed := by
  rw [State.slsStopped, hx] at hc ⊢
  unfold State.slsStop
  simp only [hx, hc, Bool.false_eq_true, if_false, Option.isSome_some, true_or, if_true]
  rfl

/-- Of a group that no record covers, it asks for SS1 of the group. -/
theorem State.slsStop_group {w : Word} (what speed : Nat) (hx : s.slsWorst w = none) (hw : refClass w = clsGroup)
    (hc : (s.slsStopped w).all s.stopStands = false) : s.slsStop w what speed = s.slsStopAt (s.slsStopped w) w what speed := by
  rw [State.slsStopped, hx] at hc ⊢
  unfold State.slsStop
  simp only [hx, hc, hw, Bool.false_eq_true, if_false, or_true, if_true]
  rfl

/-- A request of axis scope has joined, and the breach is recorded. -/
def State.BreachAsks (s t : State) (obj : Word) (args : List Nat) : Prop :=
  ∃ q, t.safety.reqs = s.safety.reqs ++ [q] ∧ q.scope = .axis ∧ q.t0 = s.tick.no + 1 ∧ q.fromDemand = false ∧ q.obj = obj ∧
    Records s t evSlsBreach q.obj args ∧
    { t with recd := s.recd, safety := { t.safety with reqs := s.safety.reqs, nextReq := s.safety.nextReq } } = s

theorem State.breachAsks_slsStopAt (axes : List Nat) (obj : Word) (what speed : Nat) :
    s.BreachAsks (s.slsStopAt axes obj what speed) obj [what, speed] :=
  ⟨_, rfl, rfl, rfl, rfl, rfl, State.records_emit _ _ _ _, rfl⟩

/-- The only axis below the group breaches. -/
theorem State.completes_slsBreach_axis {g b v : Nat} {x : SlsRec} (ha : ∀ a ∈ s.armsBelow g, s.armSlsBreach a = none)
    (hl : s.localAxes (mkRef clsGroup g) = [b]) (hb : s.axisSlsBreach b = some v) (hx : s.slsWorst (mkRef clsAxis b) = some x)
    (hc : (s.localAxes (mkRef clsGroup x.group)).all s.stopStands = false) :
    Completes (.slsBreach g) s fun t => s.BreachAsks t (mkRef clsGroup x.group) [(mkRef clsAxis b).toNat, v] := by
  have hone : s.slsBreaches g = [(mkRef clsAxis b, (mkRef clsAxis b).toNat, v)] := by
    rw [s.slsBreaches_eq, s.armBreaches_nil ha, hl]
    simp [State.axisBreach, hb]
  refine ⟨s.slsStop (mkRef clsAxis b) (mkRef clsAxis b).toNat v, by rw [s.exec_slsBreach, hone]; rfl, ?_⟩
  rw [s.slsStop_worst _ v hx (by rw [State.slsStopped, hx]; exact hc)]
  exact s.breachAsks_slsStopAt ..

/-- The only arm of the device breaches. -/
theorem State.completes_slsBreach_arm {g arm c v : Nat} (hr : arm < 65536)
    (hx : ∀ a ∈ s.localAxes (mkRef clsGroup g), s.axisSlsBreach a = none) (hl : s.armsBelow g = [arm])
    (hb : s.armSlsBreach arm = some (c, v)) (hc : (s.slsStopped (mkRef clsGroup arm)).all s.stopStands = false) :
    Completes (.slsBreach g) s fun t => ∃ obj, s.BreachAsks t obj [(mkRef clsCapsule c).toNat, v] := by
  have hone : s.slsBreaches g = [(mkRef clsGroup arm, (mkRef clsCapsule c).toNat, v)] := by
    rw [s.slsBreaches_eq, s.axisBreaches_nil hx, hl]
    simp [State.armBreach, hb]
  refine ⟨s.slsStop (mkRef clsGroup arm) (mkRef clsCapsule c).toNat v, by rw [s.exec_slsBreach, hone]; rfl, ?_⟩
  cases hw : s.slsWorst (mkRef clsGroup arm) with
  | some x => exact ⟨_, s.slsStop_worst _ v hw hc ▸ s.breachAsks_slsStopAt ..⟩
  | none => exact ⟨_, s.slsStop_group _ v hw (refClass_mkRef _ _ (by decide) hr) hc ▸ s.breachAsks_slsStopAt ..⟩

end Sys2Proof.Machine

/-! ### Releases (R223, R236, R249) -/

namespace Sys2Proof.Machine
open Sys2Proof.Claims

variable (s : State)

/-- The reference of a zone of this device. -/
def State.zoneRef (s : State) (z : Nat) : Word := mkRef clsZone (s.dev * 16 + z)

/-! #### Axes (R223) -/

theorem State.exec_axisStoRelease (a : Nat) : exec (.axisStoRelease a) s =
    .next (if s.axisReleasable a && !(s.axisSto a).needReset && decide (s.pU 0x7014 s.dev = 1) then s.releaseAxis a else s) := rfl

theorem State.completes_axisStoRelease {a : Nat} (hr : s.axisReleasable a = true) (hn : (s.axisSto a).needReset = false)
    (hp : s.pU 0x7014 s.dev = 1) : Completes (.axisStoRelease a) s fun t =>
      (t.axisSto a).on = false ∧ (∀ b, b ≠ a → t.axisSto b = s.axisSto b) ∧
      { t with safety := { t.safety with axisSto := s.safety.axisSto } } = s := by
  refine ⟨s.releaseAxis a, (s.exec_axisStoRelease a).trans (congrArg _ (if_pos (by rw [hr, hn, decide_eq_true hp]; rfl))), ?_,
    fun b hb => ?_, rfl⟩
  · rw [State.releaseAxis, State.modAxisSto_axisSto, if_pos rfl]
  · rw [State.releaseAxis, State.modAxisSto_axisSto, if_neg hb]

theorem State.exec_axisStoRelease_idle {a : Nat} (h : s.axisReleasable a = false ∨ (s.axisSto a).needReset = true) :
    exec (.axisStoRelease a) s = .next s :=
  (s.exec_axisStoRelease a).trans (congrArg _ (if_neg fun hc => by
    simp only [Bool.and_eq_true, Bool.not_eq_true'] at hc
    obtain h | h := h
    · exact Bool.false_ne_true (h.symm.trans hc.1.1)
    · exact Bool.false_ne_true (hc.1.2.symm.trans h)))

/-! #### Zones (R236) -/

theorem State.releaseZone_zone (z y : Nat) : (s.releaseZone z).zone y =
    if y = z then { s.zone z with runM := true, runW := true } else s.zone y := by
  rw [State.releaseZone, State.zone, State.raiseIrq_safety]
  exact s.modZone_zone ..

theorem State.releaseZone_other {z y : Nat} (h : y ≠ z) : (s.releaseZone z).zone y = s.zone y :=
  (s.releaseZone_zone z y).trans (if_neg h)

theorem State.releaseZone_zoneRec (z y : Nat) : (s.releaseZone z).zoneRec y = s.zoneRec y := by
  rw [State.releaseZone, State.zoneRec, State.raiseIrq_safety]
  rfl

/-- What the pins and the record of a zone that may be released are. -/
theorem State.zoneReleasable_pins {z : Nat} (h : s.zoneReleasable z = true) :
    (s.zoneRec z).isSome = true ∧ ∀ e, (s.zone z).stuck e ≠ some true := by
  simp only [State.zoneReleasable, Bool.and_eq_true, decide_eq_true_eq] at h
  obtain ⟨⟨⟨⟨⟨⟨⟨⟨⟨⟨⟨⟨⟨⟨⟨⟨⟨hrec, -⟩, -⟩, -⟩, hA⟩, hB⟩, -⟩, -⟩, -⟩, -⟩, -⟩, -⟩, -⟩, -⟩, -⟩, -⟩, -⟩, -⟩ := h
  refine ⟨hrec, fun e => ?_⟩
  cases e
  · exact hA
  · exact hB

/-- A zone that may be released runs after its release. -/
theorem State.releaseZone_runs {z : Nat} (h : s.zoneReleasable z = true) : (s.releaseZone z).zoneSto z = false := by
  obtain ⟨hrec, hpins⟩ := s.zoneReleasable_pins h
  rw [Bool.eq_false_iff, ne_eq, State.zoneSto_iff, State.releaseZone_zone, if_pos rfl, State.releaseZone_zoneRec]
  rintro (h | h | ⟨e, h⟩)
  · cases h
  · rw [h] at hrec; cases hrec
  · cases e
    · exact hpins .madder h
    · exact hpins .woad h

theorem State.records_releaseZone (z : Nat) : Records s (s.releaseZone z) evZoneRelease (s.zoneRef z) [] := by
  rw [Records, State.releaseZone, State.raiseIrq_recd]
  exact State.records_emit _ _ _ _

theorem State.releaseZone_frame (z : Nat) : { s.releaseZone z with
    host := s.host, recd := s.recd, safety := { (s.releaseZone z).safety with zones := s.safety.zones } } = s := by
  rw [State.releaseZone, State.raiseIrq_eq]
  rfl

theorem State.exec_zoneRelease {z : Fin 16} {r : ZoneRec} (hr : s.zoneRec z.val = some r) : exec (.zoneRelease z) s =
    .next (if r.auto && s.zoneReleasable z.val then s.releaseZone z.val else s) :=
  congrArg Host.Outcome.next (by rw [hr])

theorem State.completes_zoneRelease {z : Fin 16} {r : ZoneRec} (hr : s.zoneRec z.val = some r) (ha : r.auto = true)
    (h : s.zoneReleasable z.val = true) : Completes (.zoneRelease z) s fun t => t.zoneSto z.val = false ∧
      Records s t evZoneRelease (s.zoneRef z.val) [] ∧ (∀ y, y ≠ z.val → t.zone y = s.zone y) ∧
      { t with host := s.host, recd := s.recd, safety := { t.safety with zones := s.safety.zones } } = s :=
  ⟨_, (s.exec_zoneRelease hr).trans (congrArg _ (if_pos (by rw [ha, h]; rfl))), s.releaseZone_runs h, s.records_releaseZone _,
    fun _ hy => s.releaseZone_other hy, s.releaseZone_frame _⟩

theorem State.exec_zoneRelease_idle {z : Fin 16} {r : ZoneRec} (hr : s.zoneRec z.val = some r)
    (h : r.auto = false ∨ s.zoneReleasable z.val = false) : exec (.zoneRelease z) s = .next s :=
  (s.exec_zoneRelease hr).trans (congrArg _ (if_neg fun hc => by
    obtain ⟨ha, hz⟩ := Bool.and_eq_true_iff.mp hc
    obtain h | h := h
    · exact Bool.false_ne_true (h.symm.trans ha)
    · exact Bool.false_ne_true (h.symm.trans hz)))

/-! #### The zone's test (R249) -/

/-- The hours since a zone was last in STO. -/
def State.stoHours (s : State) (z : Nat) : Nat := (s.now - (s.zone z).lastSto) / 3600000000000

theorem State.completes_zoneTestDue {z : Fin 16} {r : ZoneRec} (hr : s.zoneRec z.val = some r) (hs : s.zoneSto z.val = false)
    (ht : (s.zone z.val).testDue = false) (hh : s.pU 0x7016 s.dev ≤ s.stoHours z.val) : Completes (.zoneTestDue z) s fun t =>
      (t.zone z.val).testDue = true ∧ t.zoneSto z.val = false ∧
      Records s t evZoneTestDue (s.zoneRef z.val) [s.stoHours z.val] ∧ (∀ y, y ≠ z.val → t.zone y = s.zone y) ∧
      { t with recd := s.recd, safety := { t.safety with zones := s.safety.zones } } = s := by
  have hexec : exec (.zoneTestDue z) s = .next ((s.modZone z.val fun x => { x with testDue := true }).emit evZoneTestDue
      (s.zoneRef z.val) [s.stoHours z.val]) :=
    congrArg Host.Outcome.next (if_pos (by rw [hr, hs, ht]; exact decide_eq_true hh))
  have hz (y : Nat) := s.modZone_zone z.val y fun x => { x with testDue := true }
  have hself := (hz z.val).trans (if_pos rfl)
  have hlevel : (s.modZone z.val fun x => { x with testDue := true }).zoneSto z.val = s.zoneSto z.val :=
    State.zoneSto_of_pins ((congrArg ZoneSt.pins hself).trans rfl) rfl
  exact ⟨_, hexec, congrArg ZoneSt.testDue hself, hlevel.trans hs, State.records_emit _ _ _ _,
    fun y hy => (hz y).trans (if_neg hy), rfl⟩

/-- Settles O38: the ends of SS1 are stops of the request's scope (`Ended`); each record, breach and release is its guard and its
operation. -/
theorem monitoringEndsInSto : Obligations.MonitoringEndsInSto := by
  unfold Obligations.MonitoringEndsInSto
  intro s e id g a z scope ended what
  have hended {t : State} {r : Ss1Req} (h : s.Ended t r) : ended t r := h.frame
  refine ⟨fun r hr _ => ⟨fun b v env ha hd => ?breach, fun ht hd hv => ?still, fun ht hm => ?tmax, fun ht => ?early,
      fun ht => ?earlyTmax⟩, ⟨_, s.exec_slsMonitorStart g, fun p hp => s.slsStarts_monitoring g hp,
        (s.slsOnly_forEach _ fun t p => t.slsOnly_slsStart g p).frame⟩, fun hg hx => ?unmonitored,
    fun b v x ha hl hb hx hc => ?axis, fun arm c v hr hx hl ha hb hc => ?arm,
    fun hr hn hp => s.completes_axisStoRelease hr hn hp, fun h => completes_self (s.exec_axisStoRelease_idle h),
    fun r hr => ⟨fun ha h => s.completes_zoneRelease hr ha h, fun h => completes_self (s.exec_zoneRelease_idle hr h),
      fun hs ht hh => s.completes_zoneTestDue hr hs ht hh⟩⟩
  case breach =>
    obtain ⟨t, hexec, hend, hrec⟩ := s.completes_ss1Breach hr ha hd
    exact ⟨t, hexec, hended hend, hrec⟩
  case still =>
    obtain ⟨hend, hrec⟩ := s.ended_ss1Finish r 1 s.ss1Still
    exact ⟨_, (s.exec_ss1End hr).trans (congrArg _ (if_pos (by rw [decide_eq_true ht, s.ss1Still_of hd hv]; rfl))), hended hend, hrec⟩
  case tmax =>
    obtain ⟨hend, hrec⟩ := s.ended_ss1Finish r 2 s.ss1Over
    exact ⟨_, (s.exec_ss1Tmax hr).trans (congrArg _ (if_pos (by rw [decide_eq_true ht, s.ss1Over_of hm]; rfl))), hended hend, hrec⟩
  case early => exact completes_self ((s.exec_ss1End hr).trans (congrArg _ (if_neg (by simp [Nat.not_lt.mpr ht]))))
  case earlyTmax => exact completes_self ((s.exec_ss1Tmax hr).trans (congrArg _ (if_neg (by simp [Nat.not_lt.mpr ht]))))
  case unmonitored =>
    exact completes_self (s.exec_slsBreach_idle (fun b _ => s.armSlsBreach_unmonitored (hg b))
      fun b _ => s.axisSlsBreach_unmonitored (hx b))
  case axis =>
    have harms : ∀ arm ∈ s.armsBelow g, s.armSlsBreach arm = none := fun arm harm =>
      ha arm (s.mem_armsBelow.mp harm).1 (s.mem_armsBelow.mp harm).2
    obtain ⟨t, hexec, q, hreqs, hscope, ht0, hdem, hobj, hrec, hframe⟩ := s.completes_slsBreach_axis harms hl hb hx hc
    exact ⟨t, hexec, q, hreqs, hscope, ht0, hdem, hobj, hrec, hframe⟩
  case arm =>
    have hone : s.armsBelow g = [arm] := by
      rw [State.armsBelow, hl, List.filter_cons_of_pos (List.contains_iff_mem.mpr ha)]
      rfl
    obtain ⟨t, hexec, obj, q, hreqs, hscope, ht0, hdem, -, hrec, hframe⟩ := s.completes_slsBreach_arm hr hx hone hb hc
    exact ⟨t, hexec, q, hreqs, hscope, ht0, hdem, hrec, hframe⟩

end Sys2Proof.Machine

/-! ### SS1 requests that begin (R216, R219) -/

namespace Sys2Proof.Machine
open Sys2Proof.Claims

variable (s : State)

/-- Whether STO is in force for an axis depends on its own STO and on its zone's level. -/
theorem State.Stops.inSto {s t : State} (h : s.Stops t) (hz : ∀ z, t.zoneSto z = s.zoneSto z)
    (hon : ∀ a, (t.axisSto a).on = (s.axisSto a).on) (a : Nat) : t.inSto a = s.inSto a := by
  obtain ⟨sf, ax, qs, sp, rc, hs, rfl, ⟨himg, harmed, -, -⟩, -⟩ := h
  have hof : State.zoneOf { s with safety := sf, axes := ax, queues := qs, supply := sp, recd := rc, host := hs } a = s.zoneOf a :=
    congrArg (fun x : SafeImg =>
      (x.zones.find? fun r : ZoneRec => (r.members.flatMap s.localAxes).contains a).map fun r : ZoneRec => r.zone) himg
  have hzone : State.zoneInSto { s with safety := sf, axes := ax, queues := qs, supply := sp, recd := rc, host := hs } a =
      s.zoneInSto a := by
    rw [State.zoneInSto, State.zoneInSto, hof, harmed]
    cases s.zoneOf a with
    | none => rfl
    | some z => exact congrArg (fun b => !s.safety.armed || b) (hz z)
  rw [State.inSto, hzone, State.axisStoBit, hon]
  rfl

/-- `t` comes from `s` by SS1 that begins: no zone changes its level or its standing request, no axis enters or leaves STO, and every
axis under SS1 stays under it. -/
structure State.Ss1Begins (s t : State) : Prop where
  stops : s.Stops t
  zones : ∀ z, t.zone z = { s.zone z with cause := (t.zone z).cause, causeInput := (t.zone z).causeInput }
  on : ∀ a, (t.axisSto a).on = (s.axisSto a).on
  under : ∀ a, s.underSs1 a = true → t.underSs1 a = true

theorem State.Ss1Begins.refl : s.Ss1Begins s := ⟨.refl s, fun _ => rfl, fun _ => rfl, fun _ h => h⟩

theorem State.Ss1Begins.trans {s t u : State} (h : s.Ss1Begins t) (h' : t.Ss1Begins u) : s.Ss1Begins u := by
  refine ⟨h.stops.trans h'.stops, fun z => ?_, fun a => (h'.on a).trans (h.on a), fun a ha => h'.under a (h.under a ha)⟩
  have hz := h'.zones z
  rw [h.zones z] at hz
  exact hz

theorem State.ss1Begins_forEach {α : Type} (l : List α) {f : State → α → State} (h : ∀ (t : State) (a : α), t.Ss1Begins (f t a)) :
    s.Ss1Begins (s.forEach l f) := s.forEach_invariant s.Ss1Begins l f (.refl s) fun t a _ ht => ht.trans (h t a)

/-! #### What it leaves -/

section
variable {s} {t : State} (h : s.Ss1Begins t)
include h

theorem State.Ss1Begins.released (z : Nat) : (t.zone z).released = (s.zone z).released := by rw [h.zones z]; rfl

theorem State.Ss1Begins.hostReq (z : Nat) : (t.zone z).hostReq = (s.zone z).hostReq := by rw [h.zones z]

theorem State.Ss1Begins.zoneSto (z : Nat) : t.zoneSto z = s.zoneSto z :=
  State.zoneSto_of_pins (by rw [h.zones z]; rfl) (h.stops.zoneRec z)

theorem State.Ss1Begins.inSto (a : Nat) : t.inSto a = s.inSto a := h.stops.inSto h.zoneSto h.on a

end

/-- Requests that are over leave. -/
theorem State.Pruned.ss1Begins {s t : State} (h : s.Pruned t) : s.Ss1Begins t := by
  have hs := h.axesStop.stops
  obtain ⟨st, rs, rfl, hon, -⟩ := h
  exact ⟨hs, fun _ => rfl, hon, fun _ ha => ha⟩

/-- Motion that is a stop. -/
theorem State.Moves.ss1Begins {s t : State} (h : s.Moves t) (hs : s.Stops t) : s.Ss1Begins t :=
  ⟨hs, fun z => by rw [show t.zone z = s.zone z by rw [State.zone, h.safety]; rfl], fun a => by rw [State.axisSto, h.safety]; rfl,
    fun a ha => by rwa [State.underSs1, h.safety]⟩

/-! #### Axes (R218) -/

/-- The monitoring of an axis begins. -/
def State.monitor (s : State) (a : Nat) (m : Ss1Mon) : State := s.modSafety fun x => { x with mon := tblSet x.mon a (some m) }

theorem State.monitor_under (a b : Nat) (m : Ss1Mon) : (s.monitor a m).underSs1 b = (decide (b = a) || s.underSs1 b) := by
  unfold State.underSs1
  rw [State.monitor, State.modSafety_safety, tblGet_tblSet]
  split
  next h => rw [decide_eq_true h]; rfl
  next h => rw [decide_eq_false h, Bool.false_or]

theorem State.ss1Begins_monitor (a : Nat) (m : Ss1Mon) : s.Ss1Begins (s.monitor a m) :=
  ⟨s.stops_modSafety ⟨rfl, rfl, rfl, fun _ => rfl⟩, fun _ => rfl, fun _ => rfl, fun b hb => by rw [s.monitor_under, hb, Bool.or_true]⟩

/-- SS1 starts for an axis that neither stands in STO nor is under SS1; another is left alone. -/
theorem State.startSs1Axis_cases (t0 : Nat) (covered : List Nat) (a : Nat) :
    ((s.inSto a || s.underSs1 a) = true ∧ s.startSs1Axis t0 covered a = s) ∨
    ∃ t m, s.Ss1Begins t ∧ s.startSs1Axis t0 covered a = t.monitor a m := by
  by_cases h : (s.inSto a || s.underSs1 a) = true
  · exact .inl ⟨h, if_pos h⟩
  · refine .inr ⟨_, _, ?_, if_neg h⟩
    exact ((s.moves_stopAxisQueues a covered).trans (State.moves_modAxis _ a _)).ss1Begins
      ((s.stops_stopAxisQueues a covered).trans (State.stops_modAxis _ a _))

theorem State.ss1Begins_startSs1Axis (t0 : Nat) (covered : List Nat) (a : Nat) : s.Ss1Begins (s.startSs1Axis t0 covered a) := by
  obtain ⟨-, h⟩ | ⟨t, m, ht, h⟩ := s.startSs1Axis_cases t0 covered a
  · rw [h]; exact .refl s
  · rw [h]; exact ht.trans (t.ss1Begins_monitor a m)

theorem State.startSs1Axis_under (t0 : Nat) (covered : List Nat) {a : Nat} (ha : s.inSto a = false) :
    (s.startSs1Axis t0 covered a).underSs1 a = true := by
  obtain ⟨hu, h⟩ | ⟨t, m, ht, h⟩ := s.startSs1Axis_cases t0 covered a
  · rw [ha, Bool.false_or] at hu
    rw [h, hu]
  · rw [h, t.monitor_under, decide_eq_true rfl, Bool.true_or]

/-! #### Requests (R216) -/

theorem State.ss1Begins_requestSs1 (axes : List Nat) (scope : Ss1Scope) (obj : Word) (cause t0 : Nat) (d : Bool) :
    s.Ss1Begins (s.requestSs1 axes scope obj cause t0 d) := ⟨s.stops_requestSs1 .., fun _ => rfl, fun _ => rfl, fun _ h => h⟩

/-- A zone is recorded as stopping. -/
theorem State.ss1Begins_zoneStops (z cause : Nat) (input : Option Nat) (code : Nat) (obj : Word) (args : List Nat) :
    s.Ss1Begins (((s.modZone z fun x => { x with cause := cause, causeInput := input }).emit code obj args).raiseIrq 7) := by
  refine ⟨((s.stops_modZone z _).trans (State.stops_emit _ ..)).trans (State.stops_raiseIrq _ 7), fun y => ?_, fun a => ?_,
    fun a ha => ?_⟩
  · have hy : (((s.modZone z fun x => { x with cause := cause, causeInput := input }).emit code obj args).raiseIrq 7).zone y =
        if y = z then { s.zone z with cause := cause, causeInput := input } else s.zone y := by
      rw [State.zone, State.raiseIrq_safety]
      exact s.modZone_zone ..
    rw [hy]
    split
    next h => rw [h]
    next => rfl
  · rw [State.axisSto, State.raiseIrq_safety]
    rfl
  · rw [State.underSs1, State.raiseIrq_safety]
    exact ha

/-- The request is marked as begun, and its zones are recorded as stopping. -/
def State.beginZones (s : State) (r : Ss1Req) : State :=
  let t := s.modSafety fun x => { x with reqs := x.reqs.map fun y => if y.id = r.id then { y with begun := true } else y }
  match r.scope with
  | .zones zs => t.forEach zs fun u z =>
    if u.zoneSto z then u
    else
      let i := if r.cause = 2 then (u.zone z).causeInput else none
      ((u.modZone z fun x => { x with cause := r.cause, causeInput := i }).emit evZoneStop
        (mkRef clsZone (u.dev * 16 + z)) [2, r.cause, inputArg i]).raiseIrq 7
  | .axis => t

theorem State.beginSs1_eq (r : Ss1Req) :
    s.beginSs1 r = ((s.beginZones r).forEach r.axes fun u a => u.startSs1Axis s.tick.no r.axes a).pruneSs1 := rfl

theorem State.ss1Begins_beginZones (r : Ss1Req) : s.Ss1Begins (s.beginZones r) := by
  unfold State.beginZones
  extract_lets t
  have ht : s.Ss1Begins t := ⟨s.stops_modSafety ⟨rfl, rfl, rfl, fun _ => rfl⟩, fun _ => rfl, fun _ => rfl, fun _ h => h⟩
  split
  · refine ht.trans (t.ss1Begins_forEach _ fun u z => ?_)
    split
    · exact .refl u
    · exact u.ss1Begins_zoneStops ..
  · exact ht

theorem State.ss1Begins_beginSs1 (r : Ss1Req) : s.Ss1Begins (s.beginSs1 r) :=
  ((s.ss1Begins_beginZones r).trans (State.ss1Begins_forEach _ r.axes fun u _ => u.ss1Begins_startSs1Axis ..)).trans
    (State.pruned_pruneSs1 _).ss1Begins

/-- Every axis of a request that does not stand in STO is under SS1 once it has begun. -/
theorem State.beginSs1_under {r : Ss1Req} {a : Nat} (ha : a ∈ r.axes) (hs : s.inSto a = false) : (s.beginSs1 r).underSs1 a = true := by
  have hz : (s.beginZones r).inSto a = false := ((s.ss1Begins_beginZones r).inSto a).trans hs
  refine (State.pruned_pruneSs1 _).ss1Begins.under a ?_
  refine (s.beginZones r).forEach_establishes (fun t => t.inSto a = false) (fun t => t.underSs1 a = true) ha hz
    (fun t b ht => ((t.ss1Begins_startSs1Axis _ _ b).inSto a).trans ht) (fun t ht => t.startSs1Axis_under _ _ ht)
    fun t b _ hu => (t.ss1Begins_startSs1Axis _ _ b).under a hu

theorem State.ss1Begins_beginDueSs1 : s.Ss1Begins s.beginDueSs1 := s.ss1Begins_forEach _ fun t r => t.ss1Begins_beginSs1 r

theorem State.beginDueSs1_under {r : Ss1Req} {a : Nat} (hr : r ∈ s.safety.reqs) (hb : r.begun = false) (ht : r.t0 ≤ s.tick.no)
    (ha : a ∈ r.axes) (hs : s.inSto a = false) : s.beginDueSs1.underSs1 a = true := by
  have hdue : r ∈ s.safety.reqs.filter fun r => !r.begun && decide (r.t0 ≤ s.tick.no) :=
    List.mem_filter.mpr ⟨hr, by rw [hb, decide_eq_true ht]; rfl⟩
  exact s.forEach_establishes (fun t => t.inSto a = false) (fun t => t.underSs1 a = true) hdue hs
    (fun t q ht => ((t.ss1Begins_beginSs1 q).inSto a).trans ht) (fun t ht => t.beginSs1_under ha ht)
    fun t q _ hu => (t.ss1Begins_beginSs1 q).under a hu

end Sys2Proof.Machine

/-! ### SAFE_STOP (R212, R224) -/

namespace Sys2Proof.Machine
open Sys2Proof.Claims

variable (s : State)

/-! #### A completion -/

theorem State.done_zone (op : Nat) (h : Hdr) (status z : Nat) : (s.done op h status).zone z = s.zone z := by
  rw [State.zone, State.done_safety]
  rfl

theorem State.done_zoneSto (op : Nat) (h : Hdr) (status z : Nat) : (s.done op h status).zoneSto z = s.zoneSto z :=
  State.zoneSto_of_safety (s.done_safety op h status) z

theorem State.done_underSs1 (op : Nat) (h : Hdr) (status a : Nat) : (s.done op h status).underSs1 a = s.underSs1 a := by
  rw [State.underSs1, State.done_safety]
  rfl

theorem State.done_slsSt (op : Nat) (h : Hdr) (status k : Nat) : (s.done op h status).slsSt k = s.slsSt k := by
  rw [State.slsSt, State.done_safety]
  rfl

/-- What a stop that is then completed may change. -/
theorem State.Stops.done_frame {s t : State} (h : s.Stops t) (op : Nat) (c : Hdr) (status : Nat) : { t.done op c status with
    safety := s.safety, axes := s.axes, queues := s.queues, supply := s.supply, host := s.host, recd := s.recd } = s :=
  (congrArg (fun u : State => { u with
    safety := s.safety, axes := s.axes, queues := s.queues, supply := s.supply, host := s.host, recd := s.recd })
    (t.done_frame op c status)).trans h.frame

/-! #### The standing request of a zone -/

/-- The host asks for a stop of the zone. -/
def State.askZone (s : State) (z m : Nat) : State := s.modZone z fun x => { x with hostReq := Nat.max x.hostReq m }

section
variable (z m : Nat)

theorem State.stops_askZone : s.Stops (s.askZone z m) := s.stops_modZone z _

theorem State.askZone_zone (y : Nat) : (s.askZone z m).zone y =
    if y = z then { s.zone z with hostReq := Nat.max (s.zone z).hostReq m } else s.zone y := s.modZone_zone ..

theorem State.askZone_hostReq : ((s.askZone z m).zone z).hostReq = Nat.max (s.zone z).hostReq m := by
  rw [State.askZone_zone, if_pos rfl]

theorem State.askZone_other {z y : Nat} (h : y ≠ z) : (s.askZone z m).zone y = s.zone y := by
  rw [State.askZone_zone, if_neg h]

theorem State.askZone_pins (y : Nat) : ((s.askZone z m).zone y).pins = (s.zone y).pins := by
  rw [State.askZone_zone]
  split
  next h => rw [h]; rfl
  next => rfl

theorem State.askZone_zoneSto (y : Nat) : (s.askZone z m).zoneSto y = s.zoneSto y :=
  State.zoneSto_of_pins (s.askZone_pins z m y) rfl

end

/-! #### The three modes -/

theorem State.exec_safeStop {h : Hdr} {m : Word} (hl : s.safety.img.loaded = true) (hm : m.toNat ≤ 2) :
    exec (.safeStop h m) s = .next (s.safeStopOp h m.toNat) :=
  congrArg Host.Outcome.next ((if_neg (Nat.not_lt.mpr hm)).trans (if_pos hl))

/-- The zone that a SAFE_STOP is addressed to. -/
def stopTarget (h : Hdr) : Nat := refIndex h.obj % 16

section
variable {s} {h : Hdr}

theorem State.safeStopOp_unused (hr : s.zoneRec (stopTarget h) = none) (m : Nat) : s.safeStopOp h m = s.done 0x0014 h stNoEffect :=
  if_pos (by rw [stopTarget] at hr; rw [hr]; rfl)

variable (hr : (s.zoneRec (stopTarget h)).isSome = true)
include hr

theorem State.stopTarget_used : ¬ (s.zoneRec (stopTarget h)).isNone = true := by
  rw [Option.isNone_eq_false_iff.mpr hr]
  exact Bool.false_ne_true

theorem State.safeStopOp_withdraw (h0 : (s.zone (stopTarget h)).hostReq ≠ 0) :
    s.safeStopOp h 0 = (s.modZone (stopTarget h) fun x => { x with hostReq := 0 }).done 0x0014 h stOk :=
  (if_neg (State.stopTarget_used hr)).trans (if_neg h0)

theorem State.safeStopOp_sto :
    s.safeStopOp h 2 = ((s.askZone (stopTarget h) 2).stopZone (stopTarget h) 3 none false).done 0x0014 h stOk :=
  if_neg (State.stopTarget_used hr)

/-- The host's request for SS1 of a zone. -/
def State.requestZoneSs1 (s : State) (z : Nat) : State :=
  s.requestSs1 (s.zoneAxes z) (.zones [z]) (s.zoneRef z) 3 s.tick.no false

theorem State.safeStopOp_ss1 (hs : s.zoneSto (stopTarget h) = false) :
    s.safeStopOp h 1 = ((s.askZone (stopTarget h) 1).requestZoneSs1 (stopTarget h)).beginDueSs1.done 0x0014 h stOk := by
  refine (if_neg (State.stopTarget_used hr)).trans (congrArg (fun t : State => t.done 0x0014 h stOk)
    ((if_neg (by decide : ¬ 1 = 2)).trans (if_neg ?_)))
  rw [← stopTarget, ← State.askZone, State.askZone_zoneSto, hs]
  exact Bool.false_ne_true

end

theorem State.ss1Begins_requestZoneSs1 (z : Nat) : s.Ss1Begins (s.requestZoneSs1 z) := s.ss1Begins_requestSs1 ..

/-- A request of this tick begins with the requests that are due: every axis of the zone that does not stand in STO stops. -/
theorem State.requestZoneSs1_under {z a : Nat} (ha : a ∈ s.zoneAxes z) (hs : s.inSto a = false) :
    (s.requestZoneSs1 z).beginDueSs1.underSs1 a = true :=
  State.beginDueSs1_under _ (List.mem_append_right _ (List.mem_singleton_self _)) rfl (Nat.le_refl _) ha
    (((s.ss1Begins_requestZoneSs1 z).inSto a).trans hs)

section
variable {h : Hdr} (hl : s.safety.img.loaded = true) (hr : (s.zoneRec (stopTarget h)).isSome = true)
include hl hr

theorem State.completes_safeStop_sto : Completes (.safeStop h 2) s fun t => Answered s t h stOk ∧ t.zoneSto (stopTarget h) = true ∧
    (t.zone (stopTarget h)).hostReq = Nat.max (s.zone (stopTarget h)).hostReq 2 ∧ (∀ y, y ≠ stopTarget h → t.zone y = s.zone y) ∧
    { t with safety := s.safety, axes := s.axes, queues := s.queues, supply := s.supply, host := s.host, recd := s.recd } = s := by
  have hstops : s.Stops ((s.askZone (stopTarget h) 2).stopZone (stopTarget h) 3 none false) :=
    (s.stops_askZone _ 2).trans (State.zonesStop_stopZone _ ..).stops
  refine ⟨_, (s.exec_safeStop hl (m := 2) (by decide)).trans (congrArg _ (State.safeStopOp_sto hr)), hstops.answered_done _ _ _,
    ?sto, ?req, fun y hy => ?other, hstops.done_frame ..⟩
  case sto => rw [State.done_zoneSto, State.stopZone_sto]
  case req => rw [State.done_zone, State.stopZone, State.stopZoneBy_hostReq, State.askZone_hostReq]
  case other => rw [State.done_zone, State.stopZone, State.stopZoneBy_zone_other _ _ _ _ _ _ hy, State.askZone_other _ _ hy]

theorem State.completes_safeStop_ss1 (hs : s.zoneSto (stopTarget h) = false) : Completes (.safeStop h 1) s fun t =>
    Answered s t h stOk ∧ (∀ a ∈ s.zoneAxes (stopTarget h), s.inSto a = false → t.underSs1 a = true) ∧
    (t.zone (stopTarget h)).hostReq = Nat.max (s.zone (stopTarget h)).hostReq 1 ∧ (∀ y, (t.zone y).released = (s.zone y).released) ∧
    { t with safety := s.safety, axes := s.axes, queues := s.queues, supply := s.supply, host := s.host, recd := s.recd } = s := by
  have hask := s.stops_askZone (stopTarget h) 1
  have hbegins := ((s.askZone (stopTarget h) 1).ss1Begins_requestZoneSs1 (stopTarget h)).trans (State.ss1Begins_beginDueSs1 _)
  have hstops := hask.trans hbegins.stops
  refine ⟨_, (s.exec_safeStop hl (m := 1) (by decide)).trans (congrArg _ (State.safeStopOp_ss1 hr hs)), hstops.answered_done _ _ _,
    fun a ha hin => ?under, ?req, fun y => ?released, hstops.done_frame ..⟩
  case under =>
    rw [State.done_underSs1]
    exact State.requestZoneSs1_under _ ha ((hask.inSto (s.askZone_zoneSto _ 1) (fun _ => rfl) a).trans hin)
  case req => rw [State.done_zone, hbegins.hostReq, State.askZone_hostReq]
  case released =>
    rw [State.done_zone, hbegins.released, State.askZone_zone]
    split
    next hy => rw [hy]; rfl
    next => rfl

theorem State.completes_safeStop_withdraw (h0 : (s.zone (stopTarget h)).hostReq ≠ 0) : Completes (.safeStop h 0) s fun t =>
    Answered s t h stOk ∧ (t.zone (stopTarget h)).hostReq = 0 ∧
    (t.zone (stopTarget h)).released = (s.zone (stopTarget h)).released ∧ (∀ y, y ≠ stopTarget h → t.zone y = s.zone y) ∧
    { t with safety := { t.safety with zones := s.safety.zones }, host := s.host } = s := by
  have hstops : s.Stops (s.modZone (stopTarget h) fun x => { x with hostReq := 0 }) := s.stops_modZone _ _
  refine ⟨_, (s.exec_safeStop hl (m := 0) (by decide)).trans (congrArg _ (State.safeStopOp_withdraw hr h0)), hstops.answered_done _ _ _,
    ?req, ?released, fun y hy => ?other, ?frame⟩
  case req => rw [State.done_zone, State.modZone_zone, if_pos rfl]
  case released => rw [State.done_zone, State.modZone_zone, if_pos rfl]; rfl
  case other => rw [State.done_zone, State.modZone_zone, if_neg hy]
  case frame =>
    exact congrArg (fun u : State => { u with safety := { u.safety with zones := s.safety.zones }, host := s.host })
      (State.done_frame _ 0x0014 h stOk)

end

theorem State.completes_safeStop_unused {h : Hdr} {m : Word} (hl : s.safety.img.loaded = true)
    (hr : s.zoneRec (stopTarget h) = none) (hm : m.toNat ≤ 2) : Completes (.safeStop h m) s fun t =>
      Answered s t h stNoEffect ∧ { t with host := s.host } = s :=
  completes_done ((s.exec_safeStop hl hm).trans (congrArg _ (State.safeStopOp_unused hr _)))

/-! ### SAFE_SLS (R222, R224) -/

/-- The records of a group that only the host switches. -/
def State.hostSls (s : State) (g : Nat) : List (Nat × SlsRec) :=
  s.slsRecs.filter fun p => decide (p.2.group = g) && p.2.input.isNone

theorem State.mem_hostSls {g : Nat} {p : Nat × SlsRec} : p ∈ s.hostSls g ↔ p ∈ s.slsRecs ∧ p.2.group = g ∧ p.2.input = none := by
  rw [State.hostSls, List.mem_filter, Bool.and_eq_true, decide_eq_true_eq, Option.isNone_iff_eq_none]

/-- The host switches a record. -/
def State.switchSls (on : Bool) (s : State) (p : Nat × SlsRec) : State := s.modSls p.1 fun x => { x with hostOn := on }

theorem State.switchSls_hostOn (on : Bool) (p : Nat × SlsRec) (k : Nat) :
    ((s.switchSls on p).slsSt k).hostOn = if k = p.1 then on else (s.slsSt k).hostOn := by
  rw [State.switchSls, State.modSls_slsSt]
  split <;> rfl

/-- Records that become active, or cease to be, keep the host's switch. -/
theorem State.refreshSls_hostOn (n k : Nat) : ((s.refreshSls n).slsSt k).hostOn = (s.slsSt k).hostOn := by
  refine s.forEach_keeps (fun t => (t.slsSt k).hostOn) _ _ fun t p _ => ?_
  dsimp only
  split
  · rfl
  · rw [State.modSls_slsSt]
    split
    next hk => rw [hk]
    next => rfl

theorem State.slsOnly_refreshSls (n : Nat) : s.SlsOnly (s.refreshSls n) := by
  refine s.slsOnly_forEach _ fun t p => ?_
  dsimp only
  split
  · exact .refl t
  · exact t.slsOnly_modSls ..

/-- The records of the list are switched. -/
theorem State.switchAll_hostOn (on : Bool) {l : List (Nat × SlsRec)} {p : Nat × SlsRec} (hp : p ∈ l) :
    ((s.forEach l (State.switchSls on)).slsSt p.1).hostOn = on := by
  refine s.forEach_reaches (fun t => (t.slsSt p.1).hostOn = on) hp (fun t => ?_) fun t q _ ht => ?_
  · rw [t.switchSls_hostOn, if_pos rfl]
  · rw [t.switchSls_hostOn]
    split
    · rfl
    · exact ht

/-- The others are not. -/
theorem State.switchAll_other (on : Bool) {l : List (Nat × SlsRec)} {k : Nat} (hk : ∀ q ∈ l, k ≠ q.1) :
    ((s.forEach l (State.switchSls on)).slsSt k).hostOn = (s.slsSt k).hostOn :=
  s.forEach_keeps (fun t => (t.slsSt k).hostOn) l _ fun t q hq => (t.switchSls_hostOn on q k).trans (if_neg (hk q hq))

/-- The host switches its records of a group. -/
def State.switchGroup (s : State) (g : Nat) (on : Bool) : State := (s.forEach (s.hostSls g) (State.switchSls on)).refreshSls 0

theorem State.slsOnly_switchGroup (g : Nat) (on : Bool) : s.SlsOnly (s.switchGroup g on) :=
  (s.slsOnly_forEach (s.hostSls g) fun t p => t.slsOnly_modSls p.1 _).trans (State.slsOnly_refreshSls _ 0)

theorem State.switchGroup_hostOn {g : Nat} (on : Bool) {p : Nat × SlsRec} (hp : p ∈ s.hostSls g) :
    ((s.switchGroup g on).slsSt p.1).hostOn = on := by
  rw [State.switchGroup, State.refreshSls_hostOn, s.switchAll_hostOn on hp]

theorem State.switchGroup_other {g : Nat} (on : Bool) {p : Nat × SlsRec} (hp : p ∈ s.slsRecs) (h : p ∉ s.hostSls g) :
    ((s.switchGroup g on).slsSt p.1).hostOn = (s.slsSt p.1).hostOn := by
  rw [State.switchGroup, State.refreshSls_hostOn, s.switchAll_other on]
  intro q hq hpq
  exact h (s.slsRecs_unique hp ((s.mem_hostSls).mp hq).1 hpq ▸ hq)

theorem State.exec_safeSls {h : Hdr} {on : Word} {p : Nat × SlsRec} (hl : s.safety.img.loaded = true) (hon : on.toNat ≤ 1)
    (hp : p ∈ s.hostSls (refIndex h.obj)) :
    exec (.safeSls h on) s = .next ((s.switchGroup (refIndex h.obj) (decide (on = 1))).done 0x0015 h stOk) := by
  refine congrArg Host.Outcome.next ((if_neg (Nat.not_lt.mpr hon)).trans ((if_pos hl).trans (if_neg fun he => ?_)))
  exact List.ne_nil_of_mem hp (List.isEmpty_iff.mp he)

theorem State.SlsOnly.done_frame {s t : State} (h : s.SlsOnly t) (op : Nat) (c : Hdr) (status : Nat) : { t.done op c status with
    safety := { (t.done op c status).safety with sls := s.safety.sls }, host := s.host } = s := by
  obtain ⟨x, rfl⟩ := h
  exact congrArg (fun u : State => { u with safety := { u.safety with sls := s.safety.sls }, host := s.host })
    (State.done_frame _ op c status)

theorem State.SlsOnly.answered_done {s t : State} (h : s.SlsOnly t) (op : Nat) (c : Hdr) (status : Nat) :
    Answered s (t.done op c status) c status := by
  obtain ⟨x, rfl⟩ := h
  exact State.answered_done op c status id rfl

theorem State.completes_safeSls {h : Hdr} {on : Word} (hl : s.safety.img.loaded = true) (hon : on.toNat ≤ 1)
    (hex : ∃ p ∈ s.slsRecs, p.2.group = refIndex h.obj ∧ p.2.input = none) : Completes (.safeSls h on) s fun t =>
      Answered s t h stOk ∧
      (∀ p ∈ s.slsRecs, p.2.group = refIndex h.obj → p.2.input = none → (t.slsSt p.1).hostOn = decide (on = 1)) ∧
      (∀ p ∈ s.slsRecs, p.2.group ≠ refIndex h.obj ∨ p.2.input ≠ none → (t.slsSt p.1).hostOn = (s.slsSt p.1).hostOn) ∧
      { t with safety := { t.safety with sls := s.safety.sls }, host := s.host } = s := by
  obtain ⟨r, hr, hg, hi⟩ := hex
  have honly := s.slsOnly_switchGroup (refIndex h.obj) (decide (on = 1))
  refine ⟨_, s.exec_safeSls hl hon ((s.mem_hostSls).mpr ⟨hr, hg, hi⟩), honly.answered_done _ _ _, fun p hp hpg hpi => ?member,
    fun p hp hno => ?other, honly.done_frame _ _ _⟩
  case member => rw [State.done_slsSt, s.switchGroup_hostOn _ ((s.mem_hostSls).mpr ⟨hp, hpg, hpi⟩)]
  case other =>
    rw [State.done_slsSt, s.switchGroup_other _ hp]
    intro hm
    obtain ⟨-, hpg, hpi⟩ := (s.mem_hostSls).mp hm
    exact hno.elim (fun hn => hn hpg) fun hn => hn hpi

/-! ### SAFE_RESET (R236, R246) -/

theorem resetZones_zone {h : Hdr} {z : Nat} (ho : h.obj = mkRef clsZone z) (hz : z < 16) : resetZones h = [z] := by
  have hlt : z < 65536 := by omega
  rw [resetZones, ho, refClass_mkRef _ _ (by decide) hlt, refIndex_mkRef _ _ hlt, Nat.mod_eq_of_lt hz]
  rfl

/-- The inputs mapped to a zone whose fault is latched. -/
def State.faultedInputs (s : State) (zs : List Nat) : List Nat :=
  ((s.safety.img.inputs.filter fun r => zs.any fun z => bitN r.stoMap z || bitN r.ss1Map z).map fun r => r.input).filter
    fun i => (s.input i).faulted

theorem State.faultedInputs_nil {z : Nat} (h : ∀ r ∈ s.safety.img.inputs,
    bitN r.stoMap z = true ∨ bitN r.ss1Map z = true → (s.input r.input).faulted = false) : s.faultedInputs [z] = [] := by
  refine List.filter_eq_nil_iff.mpr fun i hi => ?_
  obtain ⟨r, hr, rfl⟩ := List.mem_map.mp hi
  obtain ⟨hmem, hmap⟩ := List.mem_filter.mp hr
  rw [List.any_cons, List.any_nil, Bool.or_false, Bool.or_eq_true] at hmap
  rw [h r hmem hmap]
  exact Bool.false_ne_true

/-- The axes are released from axis STO. -/
def State.leaveAxisSto (s : State) (l : List Nat) : State := s.forEach l fun u a => u.releaseAxis a

theorem State.leaveAxisSto_eq (l : List Nat) : ∃ x, s.leaveAxisSto l = { s with safety := { s.safety with axisSto := x } } :=
  s.forEach_invariant (fun t => ∃ x, t = { s with safety := { s.safety with axisSto := x } }) l _ ⟨_, rfl⟩ fun t a _ ht => by
    obtain ⟨x, rfl⟩ := ht
    exact ⟨_, rfl⟩

/-- `t` is `s` but for safety functions, records and the host interface. -/
def State.SafetyOnly (s t : State) : Prop := { t with safety := s.safety, host := s.host, recd := s.recd } = s

theorem State.SafetyOnly.done {s t : State} (h : s.SafetyOnly t) (op : Nat) (c : Hdr) (status : Nat) :
    s.SafetyOnly (t.done op c status) := by
  rw [State.SafetyOnly] at h ⊢
  exact (congrArg (fun u : State => { u with safety := s.safety, host := s.host, recd := s.recd }) (t.done_frame op c status)).trans h

theorem State.SafetyOnly.axes {s t : State} (h : s.SafetyOnly t) : t.axes = s.axes := (congrArg State.axes h :)

/-- The axes of zones that may be released. -/
def State.resetAxes (s : State) (zs : List Nat) : List Nat := (zs.flatMap s.zoneAxes).filter s.axisReleasable

/-- What a SAFE_RESET of one zone leaves, before its completion. -/
def State.zoneReset (s : State) (z : Nat) (obj : Word) : State :=
  ((s.releaseZone z).leaveAxisSto ((s.releaseZone z).resetAxes [z])).emit evSafeResetDone obj [0, 1]

/-- A zone that may be released is, with its axes that may be, where no input's fault is to be cleared. -/
theorem State.safeResetOp_zone {h : Hdr} {z : Nat} (hz : resetZones h = [z]) (hf : s.faultedInputs [z] = [])
    (hr : s.zoneReleasable z = true) : s.safeResetOp h = (s.zoneReset z h.obj).done 0x0013 h stOk := by
  unfold State.safeResetOp
  rw [hz]
  extract_lets zs ins faulted nf s1 rel s2 axes s3 any
  have hfaulted : faulted = [] := hf
  have hnf : nf = 0 := by rw [show nf = faulted.foldl _ 0 from rfl, hfaulted]; rfl
  have hs1 : s1 = s := by rw [show s1 = s.clearInputs faulted from rfl, hfaulted]; rfl
  have hrel : rel = [z] := by
    rw [show rel = [z].filter s1.zoneReleasable from rfl, hs1]
    exact List.filter_cons_of_pos hr
  have hs2 : s2 = s.releaseZone z := by rw [show s2 = s1.forEach rel _ from rfl, hs1, hrel]; rfl
  have hs3 : s3 = (s.releaseZone z).leaveAxisSto ((s.releaseZone z).resetAxes [z]) := by
    rw [show s3 = s2.leaveAxisSto (s2.resetAxes [z]) from rfl, hs2]
  have hany : any := .inr (.inl (by rw [hrel]; rfl))
  rw [hfaulted, if_neg (by simp), if_pos hany, hs3, hnf, hrel]
  rfl

theorem State.exec_safeReset {h : Hdr} (hl : s.safety.img.loaded = true) : exec (.safeReset h) s = .next (s.safeResetOp h) :=
  congrArg Host.Outcome.next (if_pos hl)

section
variable (z : Nat) (obj : Word)

/-- Its axes leave axis STO, and its record is made: beside the zone's release, nothing else changes. -/
theorem State.zoneReset_eq : ∃ x r, s.zoneReset z obj =
    { s.releaseZone z with safety := { (s.releaseZone z).safety with axisSto := x }, recd := r } := by
  obtain ⟨x, hx⟩ := (s.releaseZone z).leaveAxisSto_eq ((s.releaseZone z).resetAxes [z])
  rw [State.zoneReset, hx]
  exact ⟨_, _, rfl⟩

theorem State.stops_zoneReset : s.Stops (s.zoneReset z obj) := by
  have hrelease : s.Stops (s.releaseZone z) := ((s.stops_modZone z _).trans (State.stops_emit _ ..)).trans (State.stops_raiseIrq _ 7)
  obtain ⟨x, r, hx⟩ := s.zoneReset_eq z obj
  rw [hx]
  exact hrelease.trans ⟨_, _, _, _, _, _, rfl, ⟨rfl, rfl, rfl, fun _ => rfl⟩, rfl, rfl⟩

theorem State.zoneReset_zone (y : Nat) : (s.zoneReset z obj).zone y = (s.releaseZone z).zone y := by
  obtain ⟨x, r, hx⟩ := s.zoneReset_eq z obj
  rw [hx]
  rfl

theorem State.zoneReset_zoneSto (y : Nat) : (s.zoneReset z obj).zoneSto y = (s.releaseZone z).zoneSto y := by
  obtain ⟨x, r, hx⟩ := s.zoneReset_eq z obj
  rw [hx]
  rfl

theorem State.safetyOnly_zoneReset : s.SafetyOnly (s.zoneReset z obj) := by
  obtain ⟨x, r, hx⟩ := s.zoneReset_eq z obj
  rw [hx]
  exact congrArg (fun u : State => { u with safety := s.safety }) (s.releaseZone_frame z)

end

theorem State.completes_safeReset {h : Hdr} {z : Nat} (hl : s.safety.img.loaded = true) (ho : h.obj = mkRef clsZone z) (hz : z < 16)
    (hr : s.zoneReleasable z = true) (hin : ∀ r ∈ s.safety.img.inputs,
      bitN r.stoMap z = true ∨ bitN r.ss1Map z = true → (s.input r.input).faulted = false) :
    Completes (.safeReset h) s fun t => Answered s t h stOk ∧ t.zoneSto z = false ∧ (∀ y, y ≠ z → t.zone y = s.zone y) ∧
      t.axes = s.axes ∧ { t with safety := s.safety, host := s.host, recd := s.recd } = s := by
  have hop := s.safeResetOp_zone (resetZones_zone ho hz) (s.faultedInputs_nil hin) hr
  have honly := (s.safetyOnly_zoneReset z h.obj).done 0x0013 h stOk
  refine ⟨_, (s.exec_safeReset hl).trans (congrArg _ hop), (s.stops_zoneReset z h.obj).answered_done _ _ _, ?runs, fun y hy => ?other,
    honly.axes, honly⟩
  case runs => rw [State.done_zoneSto, State.zoneReset_zoneSto, s.releaseZone_runs hr]
  case other => rw [State.done_zone, State.zoneReset_zone, s.releaseZone_other hy]

/-- Settles O18: each mode of SAFE_STOP, SAFE_SLS and SAFE_RESET is the operation on its zone or records and a completion. -/
theorem safetyCommandsActOnTheirZone : Obligations.SafetyCommandsActOnTheirZone := by
  unfold Obligations.SafetyCommandsActOnTheirZone
  refine ⟨fun s h hl => ?stop, fun s h hl => ⟨fun on hon hex => s.completes_safeSls hl hon hex,
    fun z ho hz hr hin => s.completes_safeReset hl ho hz hr hin⟩⟩
  exact ⟨fun hr => ⟨s.completes_safeStop_sto hl hr, fun hs => s.completes_safeStop_ss1 hl hr hs,
    fun h0 => s.completes_safeStop_withdraw hl hr h0⟩, fun hr m hm => s.completes_safeStop_unused hl hr hm⟩

end Sys2Proof.Machine


/-! ### Commands that stay in flight (R421) and nodes (R276 to R281) -/

namespace Sys2Proof.Machine
open Sys2Proof.Claims

variable (s : State)

/-- The command whose status is open is in flight. -/
theorem State.openCmd_mem {op : Option Nat} {ring : Nat} {tag : Word64} {e : InFlight} (h : s.openCmd op ring tag = some e) :
    e ∈ s.host.inflight := by
  refine List.mem_of_mem_filter (p := fun e => e.hdr.ring.val = ring && e.hdr.tag = tag && !e.decided) ?_
  obtain h | ⟨-, h⟩ := Option.or_eq_some_iff.mp h
  · obtain h | ⟨-, h⟩ := Option.or_eq_some_iff.mp h
    · exact List.mem_of_find?_eq_some h
    · exact List.mem_of_find?_eq_some h
  · exact List.mem_of_head? h

/-- A command that has only begun waits, whatever else changes outside the host interface. -/
theorem State.waits_begin {t : State} {h : Hdr} (ht : t.host = (s.begin h).host) : Waits s t h := by
  refine ⟨by rw [ht]; rfl, fun e he => ?_⟩
  rw [ht]
  exact List.mem_map.mpr ⟨e, s.openCmd_mem he, if_pos (by rw [he]; rfl)⟩

theorem State.modNode_node_self (n : Nat) (f : NodeSt → NodeSt) : (s.modNode n f).node n = f (s.node n) :=
  (s.modNode_node n n f).trans (if_pos rfl)

theorem State.modNode_node_other {n m : Nat} (f : NodeSt → NodeSt) (h : m ≠ n) : (s.modNode n f).node m = s.node m :=
  (s.modNode_node n m f).trans (if_neg h)

/-- `t` is `s` but for node `n`, which is `y`. -/
def State.OnlyNode (s t : State) (n : Nat) (y : NodeSt) : Prop :=
  t.node n = y ∧ (∀ m, m ≠ n → t.node m = s.node m) ∧ { t with selide := { t.selide with nodes := s.selide.nodes } } = s

theorem State.onlyNode_modNode (n : Nat) (f : NodeSt → NodeSt) : s.OnlyNode (s.modNode n f) n (f (s.node n)) :=
  ⟨s.modNode_node_self n f, fun _ hm => s.modNode_node_other f hm, rfl⟩

/-- A completion after a change of one node. -/
theorem State.OnlyNode.done {s t : State} {n : Nat} {y : NodeSt} (ht : s.OnlyNode t n y) (op : Nat) (h : Hdr) (status : Nat) :
    Answered s (t.done op h status) h status ∧ (t.done op h status).node n = y ∧
      (∀ m, m ≠ n → (t.done op h status).node m = s.node m) ∧
      { t.done op h status with selide := { (t.done op h status).selide with nodes := s.selide.nodes }, host := s.host } = s := by
  obtain ⟨hn, hother, hframe⟩ := ht
  have hnode : ∀ m, (t.done op h status).node m = t.node m := fun m => by rw [State.node, State.done_selide]; rfl
  have hhost : t.host = s.host := (congrArg State.host hframe :)
  refine ⟨State.answered_done op h status (fun ho e he => ho e (hhost ▸ he)) (congrArg (fun u : State => u.tick.cycle) hframe :),
    (hnode n).trans hn, fun m hm => (hnode m).trans (hother m hm), ?_⟩
  have hdone := t.done_frame op h status
  rw [hhost] at hdone
  exact (congrArg (fun u : State => { u with selide := { u.selide with nodes := s.selide.nodes } }) hdone).trans hframe

end Sys2Proof.Machine

/-! ### Commands to nodes and time (R269, R276, R280, R281, R364) -/

namespace Sys2Proof.Machine
open Sys2Proof.Claims

variable (s : State)

section
variable {s} {h : Hdr}

theorem State.completes_selideStart (hc : s.cell.loaded = true) (hl : s.selide.sched.loaded = true)
    (hs : s.selide.started = false) (ht : s.tickRateStaged = false) :
    Completes (.selideStart h) s fun t => Waits s t h ∧ t.selide.started = true ∧ t.selide.startPending = some h ∧
      t.selide.nodes = s.selide.nodes ∧ { t with selide := s.selide, host := s.host } = s := by
  have hexec : exec (.selideStart h) s = .next ((s.begin h).modSelide fun x => { x with
      started := true, startPending := some h, startNs := s.now, joinOpen := true
      trunks := x.sched.trunks.map fun r => (r.trunk, { master := !(s.isMember && r.role = 2) }) }) := by
    simp [exec, execSelideStart, hc, hl, hs, ht]
  exact ⟨_, hexec, s.waits_begin rfl, rfl, rfl, rfl, rfl⟩

/-- The node that a command names, by its local index. -/
def nodeTarget (h : Hdr) : Nat := refIndex h.obj % 64

theorem State.completes_nodeUnmute (hl : s.selide.sched.loaded = true) (hm : (s.node (nodeTarget h)).mute = true) :
    Completes (.nodeUnmute h) s fun t => Answered s t h stOk ∧ (t.node (nodeTarget h)).mute = false ∧
      (∀ m, m ≠ nodeTarget h → t.node m = s.node m) ∧
      { t with selide := { t.selide with nodes := s.selide.nodes }, host := s.host } = s := by
  have hexec : exec (.nodeUnmute h) s = .next ((s.modNode (nodeTarget h) fun x =>
      { x with mute := false, state := if x.state = 3 then 2 else x.state, violations := 0 }).done 0x0006 h stOk) := by
    rw [nodeTarget] at hm
    simp [exec, execNodeUnmute, hl, hm, nodeTarget]
  obtain ⟨ha, hn, ho, hf⟩ := (s.onlyNode_modNode (nodeTarget h) _).done 0x0006 h stOk
  exact ⟨_, hexec, ha, congrArg NodeSt.mute hn, ho, hf⟩

theorem State.completes_nodeSleep (hl : s.selide.sched.loaded = true) (hw : (s.node (nodeTarget h)).wake = true)
    (hd : ∀ a ∈ s.nodeAxes (nodeTarget h), s.axisState a = stDisabled) :
    Completes (.nodeSleep h) s fun t => Answered s t h stOk ∧ (t.node (nodeTarget h)).wake = false ∧
      (∀ m, m ≠ nodeTarget h → t.node m = s.node m) ∧
      { t with selide := { t.selide with nodes := s.selide.nodes }, host := s.host } = s := by
  have hidle : (s.nodeAxes (nodeTarget h)).any (fun a => s.axisState a ≠ stDisabled) = false :=
    List.any_eq_false.mpr fun a ha => by simp [hd a ha]
  have hexec : exec (.nodeSleep h) s = .next ((s.modNode (nodeTarget h) fun x => { x with wake := false }).done 0x010B h stOk) := by
    rw [nodeTarget] at hw hidle
    simp only [exec, execNodeSleep, hl, hw, hidle, nodeTarget, Bool.not_true, Bool.false_eq_true, if_false]
  obtain ⟨ha, hn, ho, hf⟩ := (s.onlyNode_modNode (nodeTarget h) _).done 0x010B h stOk
  exact ⟨_, hexec, ha, congrArg NodeSt.wake hn, ho, hf⟩

theorem State.completes_nodeSend (hp : (s.node (nodeTarget h)).present = true) (off : Word) (len : Word16) :
    Completes (.nodeSend h off len) s fun t => Waits s t h ∧
      (t.node (nodeTarget h)).service = (s.node (nodeTarget h)).service ++ s.winRead off.toNat len.toNat ∧
      (t.node (nodeTarget h)).sends = (s.node (nodeTarget h)).sends ++ [(h, len.toNat)] ∧
      (∀ m, m ≠ nodeTarget h → t.node m = s.node m) ∧
      { t with selide := { t.selide with nodes := s.selide.nodes }, host := s.host } = s := by
  have hexec : exec (.nodeSend h off len) s = .next ((s.begin h).modNode (nodeTarget h) fun x => { x with
      service := x.service ++ s.winRead off.toNat len.toNat, sends := x.sends ++ [(h, len.toNat)] }) := by
    rw [nodeTarget] at hp
    simp [exec, execNodeSend, hp, nodeTarget]
  obtain ⟨hn, ho, hf⟩ := (s.begin h).onlyNode_modNode (nodeTarget h) fun x => { x with
      service := x.service ++ s.winRead off.toNat len.toNat, sends := x.sends ++ [(h, len.toNat)] }
  exact ⟨_, hexec, s.waits_begin rfl, congrArg NodeSt.service hn, congrArg NodeSt.sends hn, ho, rfl⟩

/-! #### Waking a node is a request to the supply (R113, R281) -/

theorem State.exec_nodeWake (hl : s.selide.sched.loaded = true) (hw : (s.node (nodeTarget h)).wake = false)
    (hb : s.overBudget (s.wakeCost (nodeTarget h)) = false) : exec (.nodeWake h) s =
      .next ((s.begin h).joinSupply (.wake h (nodeTarget h)) (s.wakeCost (nodeTarget h))) := by
  rw [nodeTarget] at hw hb
  simp [exec, execNodeWake, hl, hw, hb, nodeTarget]

/-- A request to wake a node that its domains can pay takes effect at once. -/
theorem State.joinSupply_wake_pays {n : Nat} {costs : List (Nat × Nat)}
    (hp : canPay s.supply.levels s.waitingDomains costs = true) : s.joinSupply (.wake h n) costs =
      ((s.modSupply fun x => { x with levels := payAll s.supply.levels costs }).modNode n
        fun x => { x with wake := true }).done 0x010A h stOk :=
  if_pos hp

theorem State.joinSupply_waits {k : ReqKind} {costs : List (Nat × Nat)}
    (hp : canPay s.supply.levels s.waitingDomains costs = false) : s.joinSupply k costs =
      s.modSupply fun x => { x with reqs := x.reqs ++ [{ kind := k, costs := costs, joined := s.tick.no }] } :=
  if_neg (by rw [Bool.not_eq_true]; exact hp)

theorem State.completes_nodeWake (hl : s.selide.sched.loaded = true) (hw : (s.node (nodeTarget h)).wake = false)
    (hb : s.overBudget (s.wakeCost (nodeTarget h)) = false) : Completes (.nodeWake h) s fun t =>
      (canPay s.supply.levels s.waitingDomains (s.wakeCost (nodeTarget h)) = true →
        (t.node (nodeTarget h)).wake = true ∧ t.supply.levels = payAll s.supply.levels (s.wakeCost (nodeTarget h)) ∧
          t.supply.reqs = s.supply.reqs) ∧
      (canPay s.supply.levels s.waitingDomains (s.wakeCost (nodeTarget h)) = false →
        t.supply.reqs = s.supply.reqs ++
          [{ kind := .wake h (nodeTarget h), costs := s.wakeCost (nodeTarget h), joined := s.tick.no }] ∧
        t.supply.levels = s.supply.levels ∧ t.selide = s.selide) ∧
      { t with selide := s.selide, supply := s.supply, host := s.host } = s := by
  refine ⟨_, State.exec_nodeWake hl hw hb, ?_⟩
  by_cases hp : canPay s.supply.levels s.waitingDomains (s.wakeCost (nodeTarget h)) = true
  · have hjoin := State.joinSupply_wake_pays (s := s.begin h) (h := h) (n := nodeTarget h) hp
    rw [hjoin]
    obtain ⟨-, hn, -, hf⟩ := (State.onlyNode_modNode ((s.begin h).modSupply fun x =>
      { x with levels := payAll s.supply.levels (s.wakeCost (nodeTarget h)) }) (nodeTarget h) fun x => { x with wake := true }).done
        0x010A h stOk
    refine ⟨fun _ => ⟨congrArg NodeSt.wake hn, ?_, ?_⟩, fun hn => absurd (hn.symm.trans hp) Bool.false_ne_true, ?_⟩
    · rw [State.done_supply]; rfl
    · rw [State.done_supply]; rfl
    · exact (congrArg (fun u : State => { u with selide := s.selide, supply := s.supply, host := s.host }) hf :)
  · have hjoin := State.joinSupply_waits (s := s.begin h) (k := .wake h (nodeTarget h)) (Bool.eq_false_iff.mpr hp)
    rw [hjoin]
    exact ⟨fun hn => absurd hn hp, fun _ => ⟨rfl, rfl, rfl⟩, rfl⟩

/-! #### Device time (R364) -/

theorem State.completes_timeSet {sec : Word64} {ns : Word} (hsec : sec.toNat < 2 ^ 48) (hns : ns.toNat < 1000000000)
    (hstep : s.time.steppable = true) : Completes (.timeSet h sec ns) s fun t => Answered s t h stOk ∧
      t.time.sec = sec.toNat ∧ t.time.ns = ns.toNat ∧
      { t with time := { t.time with sec := s.time.sec, ns := s.time.ns }, host := s.host } = s := by
  let u := s.modTime fun x => { x with sec := sec.toNat, ns := ns.toNat }
  have hexec : exec (.timeSet h sec ns) s = .next (u.done 0x0007 h stOk) := by
    have hrange : ¬(2 ^ 48 ≤ sec.toNat ∨ 1000000000 ≤ ns.toNat) := by omega
    simp only [exec, execTimeSet, hrange, hstep, if_false, Bool.not_true, Bool.false_eq_true, u]
  refine ⟨_, hexec, State.answered_done _ h stOk id rfl, by rw [State.done_time]; rfl, by rw [State.done_time]; rfl, ?_⟩
  exact (congrArg (fun v : State =>
    { v with time := { v.time with sec := s.time.sec, ns := s.time.ns }, host := s.host }) (u.done_frame 0x0007 h stOk) :)

end

/-- Settles O19: each command is its guard and one change of its node, of the supply or of time; a completion or a wait frames it. -/
theorem nodeAndTimeCommands : Obligations.NodeAndTimeCommands := by
  unfold Obligations.NodeAndTimeCommands
  intro s h
  exact ⟨fun hc hl hs ht => State.completes_selideStart hc hl hs ht, fun hl hm => State.completes_nodeUnmute hl hm,
    fun hl hw hb => State.completes_nodeWake hl hw hb, fun hl hw hd => State.completes_nodeSleep hl hw hd,
    fun hp off len => State.completes_nodeSend hp off len, fun sec ns hsec hns hstep => State.completes_timeSet hsec hns hstep⟩

end Sys2Proof.Machine


/-! ### One node changes, with or without a record (R259, R264, R280) -/

namespace Sys2Proof.Machine
open Sys2Proof.Claims

/-- Two writes under one key are the second. -/
theorem tblSet_tblSet {α : Type} (t : Tbl α) (k : Nat) (v w : α) : tblSet (tblSet t k v) k w = tblSet t k w := by
  induction t with
  | nil => simp [tblSet]
  | cons x r ih =>
    obtain ⟨j, u⟩ := x
    by_cases hlt : k < j
    · simp [tblSet, hlt]
    · by_cases heq : k = j
      · simp [tblSet, heq]
      · simp [tblSet, hlt, heq, ih]

theorem tblMod_tblMod {α : Type} (d : α) (t : Tbl α) (k : Nat) (f g : α → α) :
    tblMod d (tblMod d t k f) k g = tblMod d t k fun x => g (f x) := by
  rw [tblMod, tblMod, tblSet_tblSet, tblGet_tblSet_same, tblMod]

variable (s : State)

theorem State.modNode_modNode (n : Nat) (f g : NodeSt → NodeSt) : (s.modNode n f).modNode n g = s.modNode n fun x => g (f x) :=
  congrArg (fun x : Tbl NodeSt => s.modSelide fun y => { y with nodes := x }) (tblMod_tblMod {} s.selide.nodes n f g)

/-- `t` is `s` with node `n` as `y` and the event recorded. -/
structure State.NodeRecorded (s t : State) (n : Nat) (y : NodeSt) (code : Nat) (obj : Word) (args : List Nat) : Prop where
  node : t.node n = y
  records : Records s t code obj args
  others : ∀ m, m ≠ n → t.node m = s.node m
  frame : { t with selide := { t.selide with nodes := s.selide.nodes }, recd := s.recd } = s

theorem State.nodeRecorded_emit (n : Nat) (f : NodeSt → NodeSt) (code : Nat) (obj : Word) (args : List Nat) :
    s.NodeRecorded ((s.modNode n f).emit code obj args) n (f (s.node n)) code obj args where
  node := s.modNode_node_self n f
  records := (s.modNode n f).records_emit code obj args
  others _ hm := s.modNode_node_other f hm
  frame := rfl

/-! #### The timing of a frame (R264) -/

/-- A frame of `dur` nanoseconds lies in its slot and the guards. -/
def State.inGuards (s : State) (r : SlotRec) (start : Int) (dur : Nat) : Prop :=
  ((s.slotBounds r.trunk r).1 : Int) ≤ start ∧ start + dur ≤ (s.slotBounds r.trunk r).2

/-- What a frame that begins `o` after its slot leaves of its node. -/
def NodeSt.timed (x : NodeSt) (chan : Nat) (o : Int) : NodeSt :=
  if chan = 0 then { x with offset := o, pendCorrA := x.pendCorrA + corrStep o }
  else { x with offset := o, pendCorrB := x.pendCorrB + corrStep o }

/-- What a frame outside its guards leaves of its node. -/
def NodeSt.violate (x : NodeSt) (o : Int) : NodeSt :=
  { x with offset := o, violations := if x.violated then x.violations else x.violations + 1, violated := true }

section
variable {s} {n chan : Nat} {r : SlotRec} {start : Int} {dur : Nat}

theorem State.slotTiming_within (hin : s.inGuards r start dur) (hnear : (start - r.start).natAbs ≤ 50) :
    s.slotTiming n chan r start dur = (true, s.modNode n fun x => x.timed chan (start - r.start)) := by
  have hw : (decide (((s.slotBounds r.trunk r).1 : Int) ≤ start) && decide (start + dur ≤ (s.slotBounds r.trunk r).2)) = true := by
    rw [decide_eq_true hin.1, decide_eq_true hin.2]; rfl
  unfold State.slotTiming
  simp only [hw, Bool.not_true, Bool.false_eq_true, if_false, Nat.not_lt.mpr hnear, State.modNode_modNode]
  rfl

theorem State.slotTiming_outside (hout : ¬s.inGuards r start dur) : s.slotTiming n chan r start dur =
    (false, (s.modNode n fun x => x.violate (start - r.start)).emit evSlotViolation (s.nodeRef n) [chan, argI (start - r.start)]) := by
  have hw : (decide (((s.slotBounds r.trunk r).1 : Int) ≤ start) && decide (start + dur ≤ (s.slotBounds r.trunk r).2)) = false := by
    rw [← Bool.decide_and]
    exact decide_eq_false hout
  unfold State.slotTiming
  simp only [hw, Bool.not_false, if_true, State.modNode_modNode]
  rfl

end

end Sys2Proof.Machine

/-! ### Nodes fall silent, leave and are muted (R264, R280, R282) -/

namespace Sys2Proof.Machine
open Sys2Proof.Claims

section
variable {s : State} {n : Fin 64} {k : Fin 4} {f : Frame} {start : Int}

theorem State.completes_nodeGone (hs : 64 ≤ s.silentTicks n.val) (hp : (s.node n.val).present = true)
    (hm : (s.node n.val).mute = false) (hl : (s.node n.val).leaving = false) : Completes (.nodeGone n) s fun t =>
      s.NodeRecorded t n.val { s.node n.val with leaving := true, goneNext := true } evNodeGone (s.nodeRef n.val) [] := by
  refine ⟨_, congrArg Host.Outcome.next (if_pos ?_), s.nodeRecorded_emit n.val _ _ _ _⟩
  rw [hp, hm, hl, decide_eq_true hs]
  rfl

theorem State.completes_nodeMuted (hv : 3 ≤ (s.node n.val).violations) (hp : (s.node n.val).present = true)
    (hm : (s.node n.val).mute = false) : Completes (.nodeMuted n) s fun t =>
      s.NodeRecorded t n.val { s.node n.val with mute := true, state := 3 } evNodeMuted (s.nodeRef n.val) [] := by
  refine ⟨_, congrArg Host.Outcome.next (if_pos ?_), s.nodeRecorded_emit n.val _ _ _ _⟩
  rw [hp, hm, decide_eq_true hv]
  rfl

theorem chanNo_essential (sched : Nat) : chanNo (if essentialChan sched = 0 then .A else .B) = essentialChan sched := by
  unfold essentialChan
  split <;> rfl

/-- A LEAVE frame on time in the node's essential slot is the node's last (R280). -/
theorem State.completes_leave {r : SlotRec} (ht : s.tick.selide = true)
    (hok : s.frameOk k.val (essentialChan (s.trunk k.val).sched) f = true)
    (hn : s.nodeAt k.val f.hdr.node.toNat = some n.val)
    (hr : (s.node n.val).slot (s.trunk k.val).sched (essentialChan (s.trunk k.val).sched) 0 f.hdr.slot.toNat = some r)
    (hnear : (start - r.start).natAbs ≤ 50) (hin : s.inGuards r start (frameNs f.payload.length f.sub.isSome))
    (hft : f.hdr.ftype.toNat = ftLeave) (hp : (s.node n.val).present = true)
    (hser : fieldAt f.payload 0 4 = (s.localNode n.val).elim 0 fun y => y.nserial) :
    Completes (.leave k (if essentialChan (s.trunk k.val).sched = 0 then .A else .B) f start) s fun t => ∃ y : NodeSt,
      y.leaving = true ∧ s.NodeRecorded t n.val y evNodeLeft (s.nodeRef n.val) [] := by
  have hexec : exec (.leave k (if essentialChan (s.trunk k.val).sched = 0 then .A else .B) f start) s =
      .next ((s.modNode n.val fun x => { x.timed (essentialChan (s.trunk k.val).sched) (start - r.start) with
        leaving := true, goneNext := false, arrived := true }).emit evNodeLeft (s.nodeRef n.val) []) := by
    simp only [exec, execLeave, ht, if_true, State.leaveOp, chanNo_essential, hok, Bool.not_true, Bool.false_eq_true, if_false,
      hn, Option.bind_some, hr, Option.map_some, State.slotTiming_within hin hnear, hft, hp, hser, ne_eq, not_true_eq_false,
      decide_false, Bool.or_self, State.modNode_modNode]
  exact ⟨_, hexec, _, rfl, s.nodeRecorded_emit n.val _ _ _ _⟩

end

/-! #### Bring-up (R276) -/

section
variable {s : State} {h : Hdr}

/-- The state in which SELIDE_START is answered. -/
def State.startOver (s : State) : State := s.modSelide fun x => { x with startPending := none }

theorem State.startOver_frame (hp : s.selide.startPending = some h) :
    { s.startOver with selide := { s.startOver.selide with startPending := some h } } = s := by
  rw [← hp]
  rfl

theorem State.completes_bringupComplete (hp : s.selide.startPending = some h) (ht : s.tick.selide = true)
    (hm : s.firstMissing = none) : Completes .bringupComplete s fun t => Answered s t h stOk ∧ t.selide.startPending = none ∧
      { t with host := s.host, selide := { t.selide with startPending := some h } } = s := by
  have hexec : exec .bringupComplete s = .next (s.startOver.done 0x0005 h stOk) := by
    simp only [exec, execBringupComplete, hp, hm, ht, if_true]
    rfl
  refine ⟨_, hexec, State.answered_done _ h stOk id rfl, by rw [State.done_selide]; rfl, ?_⟩
  exact (congrArg (fun u : State => { u with selide := { u.selide with startPending := some h } })
    (s.startOver.done_frame 0x0005 h stOk)).trans (State.startOver_frame hp)

theorem State.exec_bringupComplete_missing {m : Nat} (hm : s.firstMissing = some m) : exec .bringupComplete s = .next s := by
  simp only [exec, execBringupComplete, hm]
  cases s.selide.startPending <;> rfl

theorem State.completes_bringupTimeout {m : Nat} (hp : s.selide.startPending = some h) (ht : s.tick.selide = true)
    (hm : s.firstMissing = some m) (hlate : s.selide.startNs + s.pU 0x8003 s.dev * 1000000 ≤ s.now + s.P) :
    Completes .bringupTimeout s fun t => AnsweredFor s t h stIncomplete (mkRef clsNode m) ∧ t.selide.startPending = none ∧
      { t with host := s.host, selide := { t.selide with startPending := some h } } = s := by
  have hexec : exec .bringupTimeout s = .next (s.startOver.complete 0x0005 h stIncomplete (mkRef clsNode m) 0) := by
    simp only [exec, execBringupTimeout, hp, hm, ht, decide_eq_true hlate, Bool.and_self, if_true]
    rfl
  refine ⟨_, hexec, s.startOver.answeredFor_complete _ h _ _, by rw [State.complete_selide]; rfl, ?_⟩
  exact (congrArg (fun u : State => { u with selide := { u.selide with startPending := some h } })
    (s.startOver.complete_frame 0x0005 h stIncomplete (mkRef clsNode m) 0)).trans (State.startOver_frame hp)

end

end Sys2Proof.Machine


/-! ### The first valid DATA frame of a node (R173, R279) -/

namespace Sys2Proof.Machine
open Sys2Proof.Claims

variable (s : State)

/-- A group with an axis of the node right below it. -/
def State.hasAxisOf (s : State) (n g : Nat) : Bool := (s.nodeAxes n).any fun a => s.cell.parent (mkRef clsAxis a) = some g

/-- The groups right above the axes of a node. -/
def State.parentsOf (s : State) (n : Nat) : List Nat := dedup ((s.nodeAxes n).filterMap fun a => s.cell.parent (mkRef clsAxis a))

theorem State.mem_parentsOf {n g : Nat} : g ∈ s.parentsOf n ↔ s.hasAxisOf n g = true := by
  rw [State.parentsOf, mem_dedup, List.mem_filterMap, State.hasAxisOf, List.any_eq_true]
  simp only [decide_eq_true_eq]

theorem State.armsNew_shape (n : Nat) : ∃ x, s.armsNew n = { s with sep := { s.sep with arms := x } } :=
  s.forEach_invariant (fun t => ∃ x, t = { s with sep := { s.sep with arms := x } }) (s.parentsOf n) _ ⟨_, rfl⟩
    fun t g _ ht => by
      obtain ⟨x, rfl⟩ := ht
      exact ⟨_, rfl⟩

theorem State.armsNew_isNew (n g : Nat) : ((s.armsNew n).armSt g).isNew = ((s.armSt g).isNew || s.hasAxisOf n g) := by
  by_cases hg : g ∈ s.parentsOf n
  · rw [s.mem_parentsOf.mp hg, Bool.or_true]
    refine s.forEach_reaches (fun t => (t.armSt g).isNew = true) hg (fun t => ?_) fun t b _ ht => ?_
    · rw [State.modArm_armSt, if_pos rfl]
    · rw [State.modArm_armSt]
      split
      · rfl
      · exact ht
  · rw [Bool.eq_false_iff.mpr fun h => hg (s.mem_parentsOf.mpr h), Bool.or_false]
    refine s.forEach_keeps (fun t => (t.armSt g).isNew) (s.parentsOf n) _ fun t b hb => ?_
    rw [State.modArm_armSt, if_neg fun he : g = b => hg (he ▸ hb)]

theorem State.completes_nodeJoined {n : Fin 64} (hst : (s.node n.val).state = 1) (hv : (s.node n.val).validData = true) :
    Completes (.nodeJoined n) s fun t => t.node n.val = { s.node n.val with state := 2 } ∧
      Records s t evNodeJoined (s.nodeRef n.val) [(s.node n.val).slots.length] ∧ (∀ m, m ≠ n.val → t.node m = s.node m) ∧
      (∀ g, (t.armSt g).isNew = ((s.armSt g).isNew || s.hasAxisOf n.val g)) ∧
      { t with
        sep := { t.sep with arms := s.sep.arms }, selide := { t.selide with nodes := s.selide.nodes }, recd := s.recd } = s := by
  let u := s.modNode n.val fun y => { y with state := 2 }
  have hexec : exec (.nodeJoined n) s =
      .next ((u.armsNew n.val).emit evNodeJoined (s.nodeRef n.val) [(s.node n.val).slots.length]) :=
    congrArg Host.Outcome.next (if_pos (by rw [hst, hv]; rfl))
  refine ⟨_, hexec, ?_, ?_, ?_, fun g => u.armsNew_isNew n.val g, ?_⟩
  · obtain ⟨x, hx⟩ := u.armsNew_shape n.val
    rw [hx]
    exact s.modNode_node_self n.val _
  · have hrec := (u.armsNew n.val).records_emit evNodeJoined (s.nodeRef n.val) [(s.node n.val).slots.length]
    obtain ⟨x, hx⟩ := u.armsNew_shape n.val
    rw [hx] at hrec ⊢
    exact hrec
  · obtain ⟨x, hx⟩ := u.armsNew_shape n.val
    rw [hx]
    exact fun m hm => s.modNode_node_other _ hm
  · obtain ⟨x, hx⟩ := u.armsNew_shape n.val
    rw [hx]
    rfl

end Sys2Proof.Machine

/-! ### Stale nodes and islands without sub-frames (R272, R284) -/

namespace Sys2Proof.Machine
open Sys2Proof.Claims

variable (s : State)

/-! #### Three invalid samples in a row (R136) -/

/-- FAULT stands and HOMED is clear, as a feedback fault leaves them (R136). -/
def Axis.Faulted (x : Axis) : Prop := x.fault = true ∧ x.home.homed = false

theorem State.commLost_keeps {a cause : Nat} {q : QEv} (hq : q ∈ s.recd.queue) (he : q.IsEv) :
    q ∈ (s.commLost a cause).recd.queue := by
  unfold State.commLost
  split
  · exact State.emit_keeps _ hq he
  · exact hq

theorem State.feedbackFault_keeps {a code : Nat} {args : List Nat} {q : QEv} (hq : q ∈ s.recd.queue) (he : q.IsEv) :
    q ∈ (s.feedbackFault a code args).recd.queue := by
  have hlost : q ∈ (s.feedbackLost a).recd.queue := by
    unfold State.feedbackLost
    split
    · exact hq
    · exact State.commLost_keeps _ hq he
  exact State.emit_keeps _ hlost he

/-- What a third invalid sample does: nothing, or a feedback fault of the axis, marked as taken. -/
theorem State.thirdInvalid_cases (a : Nat) :
    s.thirdInvalid a = (s.modAxis a fun x => { x with fb := { x.fb with faulted := true } }).feedbackFault a evEncFault [1] ∨
      s.thirdInvalid a = s ∧ ¬(3 ≤ (s.axis a).fb.consec ∧ (s.axis a).fb.faulted = false) := by
  unfold State.thirdInvalid
  split
  next => exact .inl rfl
  next h => exact .inr ⟨rfl, fun hd => h (by rw [hd.2, decide_eq_true hd.1]; rfl)⟩

theorem State.thirdInvalid_frame (a : Nat) : { s.thirdInvalid a with axes := s.axes, safety := s.safety, recd := s.recd } = s := by
  obtain h | ⟨h, -⟩ := s.thirdInvalid_cases a
  · obtain ⟨-, -, -, -, -, -, hf⟩ :=
      State.feedbackFaulted_feedbackFault (s.modAxis a fun x => { x with fb := { x.fb with faulted := true } }) a evEncFault [1]
    rw [h]
    exact (congrArg (fun u : State => { u with axes := s.axes, safety := s.safety, recd := s.recd }) hf :)
  · rw [h]

theorem State.thirdInvalid_keeps {a : Nat} {q : QEv} (hq : q ∈ s.recd.queue) (he : q.IsEv) : q ∈ (s.thirdInvalid a).recd.queue := by
  obtain h | ⟨h, -⟩ := s.thirdInvalid_cases a
  · rw [h]
    exact State.feedbackFault_keeps _ hq he
  · rwa [h]

theorem State.thirdInvalid_axis_other {a b : Nat} (hb : b ≠ a) : (s.thirdInvalid a).axis b = s.axis b := by
  obtain h | ⟨h, -⟩ := s.thirdInvalid_cases a
  · obtain ⟨-, -, -, -, -, ho, -⟩ :=
      State.feedbackFaulted_feedbackFault (s.modAxis a fun x => { x with fb := { x.fb with faulted := true } }) a evEncFault [1]
    rw [h, ho b hb, s.modAxis_axis_other _ hb]
  · rw [h]

theorem State.thirdInvalid_faulted {a : Nat}
    (h : (3 ≤ (s.axis a).fb.consec ∧ (s.axis a).fb.faulted = false) ∨ (s.axis a).Faulted) : ((s.thirdInvalid a).axis a).Faulted := by
  obtain hc | ⟨hc, hn⟩ := s.thirdInvalid_cases a
  · obtain ⟨hfault, hhome, -⟩ :=
      State.feedbackFaulted_feedbackFault (s.modAxis a fun x => { x with fb := { x.fb with faulted := true } }) a evEncFault [1]
    rw [hc]
    exact ⟨hfault, congrArg HomeSt.homed hhome⟩
  · rw [hc]
    exact h.resolve_left hn

/-- The axes of a list on their third invalid sample fault, also where the list names one twice. -/
theorem State.thirdInvalids_faulted {l : List Nat} {a : Nat} (ha : a ∈ l) (hc : 3 ≤ (s.axis a).fb.consec)
    (hf : (s.axis a).fb.faulted = false) : ((s.forEach l State.thirdInvalid).axis a).Faulted := by
  have hround : ∀ (t : State) (b : Nat), t.axis a = s.axis a ∨ (t.axis a).Faulted →
      (t.thirdInvalid b).axis a = s.axis a ∨ ((t.thirdInvalid b).axis a).Faulted := by
    intro t b ht
    by_cases hb : a = b
    · subst hb
      exact .inr (t.thirdInvalid_faulted (ht.imp_left fun h => by rw [h]; exact ⟨hc, hf⟩))
    · rwa [t.thirdInvalid_axis_other hb]
  refine s.forEach_establishes (fun t => t.axis a = s.axis a ∨ (t.axis a).Faulted) (fun t => (t.axis a).Faulted) ha (.inl rfl)
    hround (fun t ht => ?_) fun t b _ ht => ?_
  · exact t.thirdInvalid_faulted (ht.imp_left fun h => by rw [h]; exact ⟨hc, hf⟩)
  · by_cases hb : a = b
    · subst hb
      exact t.thirdInvalid_faulted (.inr ht)
    · rwa [t.thirdInvalid_axis_other hb]

theorem State.thirdInvalids_frame (l : List Nat) :
    { s.forEach l State.thirdInvalid with axes := s.axes, safety := s.safety, recd := s.recd } = s :=
  s.forEach_invariant (fun t => { t with axes := s.axes, safety := s.safety, recd := s.recd } = s) l _ rfl fun t a _ ht =>
    (congrArg (fun u : State => { u with axes := s.axes, safety := s.safety, recd := s.recd }) (t.thirdInvalid_frame a) :).trans ht

theorem State.thirdInvalids_keeps (l : List Nat) {q : QEv} (hq : q ∈ s.recd.queue) (he : q.IsEv) :
    q ∈ (s.forEach l State.thirdInvalid).recd.queue :=
  s.forEach_invariant (fun t => q ∈ t.recd.queue) l _ hq fun t _ _ ht => t.thirdInvalid_keeps ht he

/-! #### NODE_STALE (R284) -/

section
variable {s} {n : Fin 64}

theorem State.completes_nodeStale (hc : (s.node n.val).staleCnt = 3) (hs : (s.node n.val).stale = true) :
    Completes (.nodeStale n) s fun t => (t.node n.val).staleCnt = 4 ∧
      Records s t evNodeStale (s.nodeRef n.val) [(s.node n.val).staleCause] ∧ (∀ m, m ≠ n.val → t.node m = s.node m) ∧
      (∀ a ∈ s.nodeAxes n.val, 3 ≤ (s.axis a).fb.consec → (s.axis a).fb.faulted = false →
        (t.axis a).fault = true ∧ (t.axis a).home.homed = false) ∧
      { t with axes := s.axes, safety := s.safety, recd := s.recd, selide := { t.selide with nodes := s.selide.nodes } } = s := by
  let u := s.emit evNodeStale (s.nodeRef n.val) [(s.node n.val).staleCause]
  let v := u.forEach (u.nodeAxes n.val) State.thirdInvalid
  have hexec : exec (.nodeStale n) s = .next (v.modNode n.val fun y => { y with staleCnt := 4 }) :=
    congrArg Host.Outcome.next (if_pos (by rw [hc, hs]; rfl))
  have hframe : { v with axes := s.axes, safety := s.safety, recd := s.recd } = s :=
    (congrArg (fun w : State => { w with recd := s.recd }) (u.thirdInvalids_frame (u.nodeAxes n.val)) :)
  have hsel : v.selide = s.selide := (congrArg State.selide hframe :)
  refine ⟨_, hexec, ?_, fun hq => ?_, fun m hm => ?_, fun a ha hcon hf => ?_, ?_⟩
  · rw [v.modNode_node_self]
  · exact u.thirdInvalids_keeps (u.nodeAxes n.val) (s.records_emit evNodeStale _ _ hq) trivial
  · rw [v.modNode_node_other _ hm, State.node, hsel]
    rfl
  · exact u.thirdInvalids_faulted ha hcon hf
  · exact (congrArg (fun w : State => { w with selide := { w.selide with nodes := s.selide.nodes } }) hframe :)

/-! #### SUBFRAME_TIMEOUT and NODE_STO_FAIL (R272) -/

theorem NodeSt.setSub_subAt (x : NodeSt) (e : Island) (v : SubSt) : (x.setSub e v).subAt e = v := by cases e <;> rfl

/-- Axis STO of the axes of a list. -/
def State.stoAxes (s : State) (l : List Nat) : State := s.forEach l fun u a => u.setAxisSto true a

theorem State.stops_stoAxes (s : State) (l : List Nat) : s.Stops (s.stoAxes l) :=
  (s.axesStop_forEach l fun t a => t.axesStop_setAxisSto true a).stops

theorem State.completes_subframeTimeout {e : Island} (hm : 4 ≤ ((s.node n.val).subAt e).missing)
    (ht : ((s.node n.val).subAt e).timedOut = false) : Completes (.subframeTimeout n e) s fun t =>
      ((∀ a ∈ s.nodeAxes n.val, (t.axisSto a).on = true) ∧
        { t with safety := s.safety, axes := s.axes, queues := s.queues, supply := s.supply, host := s.host, recd := s.recd
                 selide := s.selide } = s) ∧
      ((t.node n.val).subAt e).timedOut = true ∧ ∀ m, m ≠ n.val → t.node m = s.node m := by
  let u := s.modNode n.val fun y => y.setSub e { (s.node n.val).subAt e with timedOut := true }
  let v := u.stoAxes (u.nodeAxes n.val)
  have hexec : exec (.subframeTimeout n e) s = .next (v.emit evSubframeTimeout (s.nodeRef n.val) [islandCode e]) :=
    congrArg Host.Outcome.next (if_pos (by rw [ht, decide_eq_true hm]; rfl))
  have hframe := (u.stops_stoAxes (u.nodeAxes n.val)).frame
  have hsel : v.selide = u.selide := (congrArg State.selide hframe :)
  have hnode : ∀ m, v.node m = u.node m := fun m => by rw [State.node, hsel]; rfl
  refine ⟨_, hexec, ⟨fun a ha => u.setAxesSto_on ha true, ?_⟩, ?_, fun m hm => ?_⟩
  · exact (congrArg (fun w : State => { w with selide := s.selide }) hframe :)
  · refine (congrArg (fun y : NodeSt => (y.subAt e).timedOut) ((hnode n.val).trans (s.modNode_node_self n.val _)) :).trans ?_
    rw [NodeSt.setSub_subAt]
  · exact (hnode m).trans (s.modNode_node_other _ hm)

theorem State.completes_nodeStoFail {ch : Fin 16} (hd : tblGet 0 (s.node n.val).stoSince ch.val = s.tick.no + 1)
    (hv : (s.node n.val).subM.valid = true ∨ (s.node n.val).subW.valid = true) (hb : bitN (s.node n.val).stoAct.toNat ch.val = false)
    (hex : ∃ a ∈ s.nodeAxes n.val, (s.axisRec a).any (fun r => r.chan = ch.val) = true) : Completes (.nodeStoFail n ch) s fun t =>
      Records s t evNodeStoFail (s.nodeRef n.val) [ch.val] ∧
      (∀ a ∈ s.nodeAxes n.val, (s.axisRec a).any (fun r => r.chan = ch.val) = true → (t.axis a).fault = true) ∧
      { t with axes := s.axes, recd := s.recd } = s := by
  let l := (s.nodeAxes n.val).filter fun a => (s.axisRec a).any fun r => r.chan = ch.val
  let u := s.forEach l State.latchFault
  have hne : l.isEmpty = false := by
    obtain ⟨a, ha, hr⟩ := hex
    exact List.isEmpty_eq_false_iff_exists_mem.mpr ⟨a, List.mem_filter.mpr ⟨ha, hr⟩⟩
  have hvalid : ((s.node n.val).subM.valid || (s.node n.val).subW.valid) = true := by rwa [Bool.or_eq_true]
  have hexec : exec (.nodeStoFail n ch) s = .next (u.emit evNodeStoFail (s.nodeRef n.val) [ch.val]) :=
    congrArg Host.Outcome.next (if_pos (by rw [hd, hvalid, hb, hne, decide_eq_true rfl]; rfl))
  have hframe : { u with axes := s.axes } = s :=
    s.forEach_modAxis_frame l (fun a => a) fun _ x => { x with fault := true }
  refine ⟨_, hexec, ?_, fun a ha hr => ?_, ?_⟩
  · have hrec := u.records_emit evNodeStoFail (s.nodeRef n.val) [ch.val]
    have hu : u = { s with axes := u.axes } := (congrArg (fun w : State => { w with axes := u.axes }) hframe :)
    rw [hu] at hrec ⊢
    exact hrec
  · exact s.forEach_modAxis_mem (fun x => x.fault = true) (fun _ x => { x with fault := true })
      (List.mem_filter.mpr ⟨ha, hr⟩) fun _ => rfl
  · exact (congrArg (fun w : State => { w with recd := s.recd }) hframe :)

end

end Sys2Proof.Machine


/-! ### JOIN (R272, R277 to R279) -/

namespace Sys2Proof.Machine
open Sys2Proof.Claims

variable (s : State)

/-! #### Counts that start afresh (R135) -/

theorem State.restartCount_axis (a b : Nat) : (s.restartCount a).axis b =
    if b = a then { s.axis a with fb := { (s.axis a).fb with started := false, loadStarted := false } } else s.axis b :=
  s.modAxis_axis a b fun x => { x with fb := { x.fb with started := false, loadStarted := false } }

/-- The counts of the axes of a list start afresh. -/
def State.restartCounts (s : State) (l : List Nat) : State := s.forEach l State.restartCount

theorem State.restartCounts_frame (l : List Nat) : { s.restartCounts l with axes := s.axes, sep := s.sep } = s :=
  s.forEach_keeps (fun t : State => { t with axes := s.axes, sep := s.sep }) l State.restartCount fun _ _ _ => rfl

theorem State.restartCounts_started {l : List Nat} {a : Nat} (ha : a ∈ l) : ((s.restartCounts l).axis a).fb.started = false := by
  refine s.forEach_reaches (fun t => (t.axis a).fb.started = false) ha (fun t => ?_) fun t b _ ht => ?_
  · rw [t.restartCount_axis, if_pos rfl]
  · rw [t.restartCount_axis]
    split
    · rfl
    · exact ht

theorem State.restartCounts_other {l : List Nat} {a : Nat} (ha : a ∉ l) : (s.restartCounts l).axis a = s.axis a :=
  s.forEach_keeps (fun t => t.axis a) l _ fun t b hb => by rw [t.restartCount_axis, if_neg fun he : a = b => ha (he ▸ hb)]

/-! #### The GRANT frame (R279) -/

theorem State.modTrunk_trunk_self (k : Nat) (f : TrunkSt → TrunkSt) : (s.modTrunk k f).trunk k = f (s.trunk k) :=
  (s.modTrunk_trunk k k f).trans (if_pos rfl)

theorem State.modTrunk_trunk_other {k j : Nat} (f : TrunkSt → TrunkSt) (h : j ≠ k) : (s.modTrunk k f).trunk j = s.trunk j :=
  (s.modTrunk_trunk k j f).trans (if_neg h)

/-- The GRANT frame to the device at a chain position of a trunk. -/
def State.grantFrame (s : State) (k chain : Nat) (payload : List Byte) : Frame :=
  (s.modTrunk k fun x => { x with grant := some payload }).frameOf k
    (s.joinChan k) ftGrant chain 0xFF true s.selide.sched.generation.toNat payload none

theorem State.sendGrant_trunk_self (k chain : Nat) (payload : List Byte) : (s.sendGrant k chain payload).trunk k =
    { s.trunk k with grant := some payload, sent := (s.trunk k).sent ++ [s.grantFrame k chain payload] } := by
  unfold State.sendGrant State.sendFrame
  rw [State.modTrunk_trunk_self, State.modTrunk_trunk_self]
  rfl

theorem State.sendGrant_trunk_other {k j : Nat} (chain : Nat) (payload : List Byte) (h : j ≠ k) :
    (s.sendGrant k chain payload).trunk j = s.trunk j := by
  unfold State.sendGrant State.sendFrame
  rw [State.modTrunk_trunk_other _ _ h, s.modTrunk_trunk_other _ h]

/-! #### What a JOIN frame does -/

section
variable {s} {k : Fin 4} {f : Frame} {start : Int}

theorem State.exec_join_idle (h : s.selide.joinOpen = false ∨ s.tick.selide = false ∨ (s.trunk k.val).sched ≠ 0) :
    exec (.join k f start) s = .next s := by
  by_cases ht : s.tick.selide = true
  · have hclosed : s.joinStart k.val = 0 ∨ (!s.selide.joinOpen) = true ∨ (s.trunk k.val).sched ≠ 0 :=
      .inr (h.imp (fun ho => by rw [ho]; rfl) fun h => h.resolve_left fun hf => Bool.false_ne_true (hf.symm.trans ht))
    exact congrArg Host.Outcome.next ((if_pos ht).trans (if_pos hclosed))
  · exact congrArg Host.Outcome.next (if_neg ht)

/-- The node that a grant makes of a node: present, unmuted, and silent until the next tick (R279). -/
def NodeSt.granted (x : NodeSt) (no nax nrep : Nat) (slots : List SlotRec) (p : List Byte) : NodeSt := { x with
  state := 1, slots := slots, activeFrom := no + 1, validData := false, placed := false, nax := nax, nrep := nrep
  retains := bitN (fieldAt p 10 1) 0, mute := false, subM := {}, subW := {}, stale := false, staleCnt := 0, silent := 0
  violations := 0, violated := false, corrA := 0, corrB := 0, pendCorrA := 0, pendCorrB := 0, stoSince := []
  nullM := {}, nullW := {}, hopA := some (fieldAt p 12 2), hopB := some (fieldAt p 14 2), fwver := fieldAt p 16 2 }

/-- A grant before its frame goes out. -/
def State.grants (s : State) (n : Nat) (slots : List SlotRec) (p : List Byte) : State :=
  (s.restartCounts (s.nodeAxes n)).modNode n fun x => x.granted s.tick.no (fieldAt p 8 1) (fieldAt p 9 1) slots p

section
variable (s : State) (n : Nat) (slots : List SlotRec) (p : List Byte)

theorem State.grants_frame : { s.grants n slots p with
    axes := s.axes, sep := s.sep, selide := { (s.grants n slots p).selide with nodes := s.selide.nodes } } = s :=
  (congrArg (fun u : State => { u with selide := { u.selide with nodes := s.selide.nodes } })
    (s.restartCounts_frame (s.nodeAxes n)) :)

theorem State.restartCounts_selide (l : List Nat) : (s.restartCounts l).selide = s.selide :=
  (congrArg State.selide (s.restartCounts_frame l) :)

theorem State.grants_node_self :
    (s.grants n slots p).node n = (s.node n).granted s.tick.no (fieldAt p 8 1) (fieldAt p 9 1) slots p := by
  refine (State.modNode_node_self _ n _).trans ?_
  rw [State.node, s.restartCounts_selide]
  rfl

theorem State.grants_node_other {m : Nat} (hm : m ≠ n) : (s.grants n slots p).node m = s.node m := by
  refine (State.modNode_node_other _ _ hm).trans ?_
  rw [State.node, s.restartCounts_selide]
  rfl

theorem State.grants_trunk (j : Nat) : (s.grants n slots p).trunk j = s.trunk j :=
  (congrArg (fun x : SelideSt => tblGet ({} : TrunkSt) x.trunks j) (s.restartCounts_selide (s.nodeAxes n)) :)

theorem State.grants_axis_other {a : Nat} (ha : a ∉ s.nodeAxes n) : (s.grants n slots p).axis a = s.axis a :=
  s.restartCounts_other ha

theorem State.grants_started {a : Nat} (ha : a ∈ s.nodeAxes n) : ((s.grants n slots p).axis a).fb.started = false :=
  s.restartCounts_started ha

end

theorem State.grantNode_eq (s : State) (n k : Nat) (p : List Byte) (late : Bool) : ∃ slots chain payload,
    s.grantNode n k p late = (s.grants n slots p).sendGrant k chain payload := ⟨_, _, _, rfl⟩

variable (ht : s.tick.selide = true) (hj : s.joinStart k.val ≠ 0) (ho : s.selide.joinOpen = true) (hs : (s.trunk k.val).sched = 0)
  (hok : s.frameOk k.val 1 f = true) (hft : f.hdr.ftype.toNat = ftJoin) (hlen : f.payload.length = 24)
  (hlink : s.isLinkTrunk k.val = false)
include ht hj ho hs hok hft hlen hlink

theorem State.exec_join_granted {n : Nat} (hn : s.nodeAt k.val f.hdr.node.toNat = some n)
    (hr : s.joinReason k.val (some n) f.payload start = 0) : exec (.join k f start) s =
      .next (s.grantNode n k.val f.payload ((s.localNode n).any fun r => r.late)) := by
  simp only [exec, execJoin, ht, if_true, State.joinOp, hj, ho, hs, hok, hft, hlen, hlink, hn, hr, Bool.not_true, Bool.false_eq_true,
    if_false, ne_eq, not_true_eq_false, or_self]

theorem State.exec_join_refused (hr : s.joinReason k.val (s.nodeAt k.val f.hdr.node.toNat) f.payload start ≠ 0) :
    ∃ payload, exec (.join k f start) s = .next ((s.sendGrant k.val f.hdr.node.toNat payload).emit evJoinRefused s.devRef
      [k.val, f.hdr.node.toNat, s.joinReason k.val (s.nodeAt k.val f.hdr.node.toNat) f.payload start]) := by
  simp only [exec, execJoin, ht, if_true, State.joinOp, hj, ho, hs, hok, hft, hlen, hlink, Bool.not_true, Bool.false_eq_true,
    if_false, ne_eq, not_true_eq_false, or_self]
  split
  next h0 _ => exact absurd h0 hr
  next => exact ⟨_, rfl⟩

theorem State.completes_join_granted {n : Fin 64} (hn : s.nodeAt k.val f.hdr.node.toNat = some n.val)
    (hr : s.joinReason k.val (some n.val) f.payload start = 0) : Completes (.join k f start) s fun t =>
      (t.node n.val).state = 1 ∧ (t.node n.val).activeFrom = s.tick.no + 1 ∧
      (t.node n.val).mute = false ∧ (t.trunk k.val).grant.isSome = true ∧ (∀ m, m ≠ n.val → t.node m = s.node m) ∧
      (∃ g, (t.trunk k.val).sent = (s.trunk k.val).sent ++ [g] ∧ g.hdr.ftype.toNat = ftGrant ∧
        some g.payload = (t.trunk k.val).grant) ∧
      (∀ j, j ≠ k.val → t.trunk j = s.trunk j) ∧
      (∀ a, a ∉ s.nodeAxes n.val → t.axis a = s.axis a) ∧ (∀ a ∈ s.nodeAxes n.val, (t.axis a).fb.started = false) ∧
      { t with axes := s.axes, sep := s.sep
               selide := { t.selide with nodes := s.selide.nodes, trunks := s.selide.trunks } } = s := by
  obtain ⟨slots, chain, payload, heq⟩ := s.grantNode_eq n.val k.val f.payload ((s.localNode n.val).any fun r => r.late)
  have hexec := (State.exec_join_granted ht hj ho hs hok hft hlen hlink hn hr).trans (congrArg Host.Outcome.next heq)
  have hnode := s.grants_node_self n.val slots f.payload
  have hother := fun m (hm : m ≠ n.val) => s.grants_node_other n.val slots f.payload hm
  have htrunk := s.grants_trunk n.val slots f.payload
  have hkept := fun a (ha : a ∉ s.nodeAxes n.val) => s.grants_axis_other n.val slots f.payload ha
  have hstart := fun a (ha : a ∈ s.nodeAxes n.val) => s.grants_started n.val slots f.payload ha
  have hframe := s.grants_frame n.val slots f.payload
  generalize s.grants n.val slots f.payload = u at hexec hnode hother htrunk hkept hstart hframe
  have hself := u.sendGrant_trunk_self k.val chain payload
  rw [htrunk] at hself
  refine ⟨_, hexec, congrArg NodeSt.state hnode, congrArg NodeSt.activeFrom hnode, congrArg NodeSt.mute hnode, ?_, hother,
    ⟨u.grantFrame k.val chain payload, congrArg TrunkSt.sent hself, rfl, (congrArg TrunkSt.grant hself).symm⟩,
    fun j hjk => (u.sendGrant_trunk_other chain payload hjk).trans (htrunk j), hkept, hstart, ?_⟩
  · rw [hself]
    rfl
  · exact (congrArg (fun v : State => { v with selide := { v.selide with trunks := s.selide.trunks } }) hframe :)

theorem State.completes_join_refused (hr : s.joinReason k.val (s.nodeAt k.val f.hdr.node.toNat) f.payload start ≠ 0) :
    Completes (.join k f start) s fun t =>
      Records s t evJoinRefused s.devRef
        [k.val, f.hdr.node.toNat, s.joinReason k.val (s.nodeAt k.val f.hdr.node.toNat) f.payload start] ∧
      (t.trunk k.val).grant.isSome = true ∧ t.selide.nodes = s.selide.nodes ∧
      { t with recd := s.recd, selide := { t.selide with trunks := s.selide.trunks } } = s := by
  obtain ⟨payload, hexec⟩ := State.exec_join_refused ht hj ho hs hok hft hlen hlink hr
  refine ⟨_, hexec, State.records_emit _ _ _ _, ?_, rfl, rfl⟩
  exact (congrArg (fun x : TrunkSt => x.grant.isSome) (s.sendGrant_trunk_self k.val f.hdr.node.toNat payload) :).trans rfl

end

/-- Settles O39: each event is its guard and a change of one node with its record; joins send a GRANT, and what a stale or silent
node stops is a fold over its axes. -/
theorem nodesJoinAndLeave : Obligations.NodesJoinAndLeave := by
  unfold Obligations.NodesJoinAndLeave
  intro s n k e ch
  refine ⟨fun f start ht hj ho hs hok hft hlen hlink => ⟨fun hn hr => ?granted, fun j hn hr => ?refused⟩,
    fun f start h => completes_self (State.exec_join_idle h), fun hst hv => s.completes_nodeJoined hst hv,
    fun f start r ht hok hn hr hnear hlo hhi hft hp hser => ?leave, fun hs hp hm hl => ?gone, fun hv hp hm => ?muted,
    fun h hp ht => ⟨fun hm => State.completes_bringupComplete hp ht hm, fun m hm =>
      ⟨completes_self (State.exec_bringupComplete_missing hm), fun hlate => State.completes_bringupTimeout hp ht hm hlate⟩⟩,
    fun hc hs => State.completes_nodeStale hc hs, fun hm ht => State.completes_subframeTimeout hm ht,
    fun hd hv hb hex => State.completes_nodeStoFail hd hv hb hex⟩
  case granted => exact State.completes_join_granted ht hj ho hs hok hft hlen hlink hn hr
  case refused =>
    subst hn
    exact State.completes_join_refused ht hj ho hs hok hft hlen hlink hr
  case leave =>
    obtain ⟨t, hexec, y, hy, hnode, hrec, hothers, hframe⟩ := State.completes_leave ht hok hn hr hnear ⟨hlo, hhi⟩ hft hp hser
    exact ⟨t, hexec, hnode ▸ hy, hrec, hothers, hframe⟩
  case gone =>
    obtain ⟨t, hexec, hnode, hrec, hothers, hframe⟩ := State.completes_nodeGone hs hp hm hl
    exact ⟨t, hexec, hnode, hrec, hothers, hframe⟩
  case muted =>
    obtain ⟨t, hexec, hnode, hrec, hothers, hframe⟩ := State.completes_nodeMuted hv hp hm
    exact ⟨t, hexec, hnode, hrec, hothers, hframe⟩

end Sys2Proof.Machine


/-! ### Sub-frames as the islands judge them (R271, R272) -/

namespace Sys2Proof.Machine
open Sys2Proof.Claims

variable (s : State)

theorem State.modNode_congr {n : Nat} {f g : NodeSt → NodeSt} (h : f (s.node n) = g (s.node n)) : s.modNode n f = s.modNode n g :=
  congrArg (fun x : NodeSt => s.modSelide fun y => { y with nodes := tblSet y.nodes n x }) h

/-- An island's judgement sets its own sub-frame state, and records a refusal. -/
theorem State.judgeSub_shape (e : Island) (n ns : Nat) (x : SubFrame) (p : List Byte) : ∃ (v : SubSt) (rc : RecSt),
    s.judgeSub e n ns x p = { s.modNode n fun y => y.setSub e v with recd := rc } ∧
      (v.valid = true ↔ s.subCause e 0 ns ((s.node n).subAt e) x p = 0) := by
  unfold State.judgeSub
  extract_lets st
  split
  next h => exact ⟨_, _, rfl, fun _ => h, fun _ => rfl⟩
  next h => exact ⟨_, _, rfl, fun hv => absurd hv Bool.false_ne_true, fun h0 => absurd h0 h⟩

/-- What the two islands' judgements and SDATA make of a node (R270, R271). -/
def NodeSt.heard (x : NodeSt) (m w : SubSt) (act : Word16) (bad : Bool) : NodeSt :=
  { x with subM := m, subW := w, stoAct := act, safeFault := bad }

/-- Both islands judge a sub-frame by itself; beside the node, only axes that SAFE_FAULT stops change (R272). -/
theorem State.takeSub_shape (n ns : Nat) (x : SubFrame) (p : List Byte) : ∃ m w act bad rc,
    State.Stops { s.modNode n fun y => y.heard m w act bad with recd := rc } (s.takeSub n ns x p) ∧
      (m.valid = true ↔ s.subCause .madder 0 ns (s.node n).subM x p = 0) ∧
      (w.valid = true ↔ s.subCause .woad 0 ns (s.node n).subW x p = 0) := by
  obtain ⟨m, rc, hm, hvm⟩ := s.judgeSub_shape .madder n ns x p
  obtain ⟨w, rc', hw, hvw⟩ := (s.judgeSub .madder n ns x p).judgeSub_shape .woad n ns x p
  have hself : (s.judgeSub .madder n ns x p).node n = (s.node n).setSub .madder m := by
    rw [hm]
    exact s.modNode_node_self n _
  have hvw' : w.valid = true ↔ s.subCause .woad 0 ns (s.node n).subW x p = 0 := by
    rw [hself, hm] at hvw
    exact hvw
  let judged : State := { s.modNode n fun y => { y with subM := m, subW := w } with recd := rc' }
  have hjudged : (s.judgeSub .madder n ns x p).judgeSub .woad n ns x p = judged := by
    rw [hw, hm]
    exact congrArg (fun u : State => { u with recd := rc' }) (s.modNode_modNode n (fun y => y.setSub .madder m) _)
  unfold State.takeSub
  extract_lets t y u
  have ht : t = judged := hjudged
  by_cases hany : (y.subM.valid || y.subW.valid) = true
  · rw [if_pos hany]
    let act := BitVec.ofNat 16 (x.sdata.toNat % 65536)
    have hu : u = { s.modNode n fun y => y.heard m w act (bitN x.sdata.toNat 16) with recd := rc' } := by
      simp only [u, ht]
      exact congrArg (fun v : State => { v with recd := rc' }) (s.modNode_modNode n (fun y => { y with subM := m, subW := w }) _)
    refine ⟨m, w, act, bitN x.sdata.toNat 16, rc', ?_, hvm, hvw'⟩
    rw [← hu]
    split
    · exact u.stops_stoAxes _
    · exact .refl u
  · rw [if_neg hany]
    refine ⟨m, w, (s.node n).stoAct, (s.node n).safeFault, rc', ?_, hvm, hvw'⟩
    rw [ht, s.modNode_congr (g := fun y => { y with subM := m, subW := w }) rfl]
    exact .refl _

end Sys2Proof.Machine

/-! ### DATA and EXT frames (R259, R264, R269, R270) -/

namespace Sys2Proof.Machine
open Sys2Proof.Claims

variable (s : State)

/-! #### A frame that is discarded (R259) -/

theorem State.frameError_records (t chan slot : Nat) (o : Option Nat) :
    Records s (s.frameError t chan slot o) evFrameError s.devRef [t, chan, slot] := by
  cases o with
  | none => exact s.records_emit _ _ _
  | some k => exact State.records_emit (s.modNode k _) _ _ _

theorem State.frameError_node (t chan slot : Nat) (o : Option Nat) (m : Nat) : (s.frameError t chan slot o).node m =
    if o = some m then { s.node m with crcErr := min ((s.node m).crcErr + 1) (2 ^ 32 - 1) } else s.node m := by
  cases o with
  | none => rfl
  | some k =>
    refine (s.modNode_node k m _).trans ?_
    by_cases h : m = k
    · subst h
      rw [if_pos rfl, if_pos rfl, incSat_thirtyTwo]
    · rw [if_neg h, if_neg fun he => h (Option.some.inj he).symm]

theorem State.frameError_frame (t chan slot : Nat) (o : Option Nat) : { s.frameError t chan slot o with
    selide := { (s.frameError t chan slot o).selide with nodes := s.selide.nodes }, recd := s.recd } = s := by
  cases o <;> rfl

section
variable {s} {k : Fin 4} {c : Chan} {f : Frame} {start : Int} {n : Nat}

theorem State.exec_upstream_error (ht : s.tick.selide = true) (hok : s.frameOk k.val (chanNo c) f = false)
    (hs : (s.trunk k.val).sched = 0) : exec (.upstreamDataFrame k c f start) s =
      .next (s.frameError k.val (chanNo c) (s.slotAt k.val 0 (chanNo c) start).1 (s.slotAt k.val 0 (chanNo c) start).2) := by
  simp only [exec, execUpstreamDataFrame, ht, if_true, State.dataFrameOp, hs, hok, ne_eq, not_true_eq_false, decide_false,
    Bool.false_and, Bool.false_eq_true, if_false, Bool.not_false]

/-! #### A frame in a slot of its node (R264, R272) -/

/-- A DATA frame arrives, before its sub-frame is judged (R283). -/
def NodeSt.dataArrives (x : NodeSt) (chan : Nat) (p : List Byte) : NodeSt := { x with
  arrived := true, arrivedA := x.arrivedA || chan = 0, arrivedB := x.arrivedB || chan = 1, buf := some p }

/-- A DATA frame with both its sub-frames valid has arrived (R279). -/
def State.markValid (s : State) (n : Nat) : State :=
  s.modNode n fun x => { x with validData := x.validData || ((s.node n).subM.valid && (s.node n).subW.valid) }

theorem State.markValid_node_self (s : State) (n : Nat) : (s.markValid n).node n =
    { s.node n with validData := (s.node n).validData || ((s.node n).subM.valid && (s.node n).subW.valid) } :=
  s.modNode_node_self n _

theorem State.acceptData_eq (s : State) (n chan : Nat) (hf : f.hdr.ftype.toNat = ftData) : s.acceptData n chan f =
    (f.sub.elim (s.modNode n fun x => x.dataArrives chan f.payload) fun y =>
      (s.modNode n fun x => x.dataArrives chan f.payload).takeSub n ((s.localNode n).elim 0 fun r => r.nserial) y f.payload).markValid
        n := by
  unfold State.acceptData
  simp only [hf, decide_true, Bool.not_true, Bool.or_false, if_true, Bool.true_and]
  cases f.sub <;> rfl

/-- What an accepted DATA frame leaves: its payload and arrival, and the judgement of its sub-frame. -/
structure State.DataAccepted (s t : State) (n chan : Nat) (f : Frame) : Prop where
  buf : (t.node n).buf = some f.payload
  arrivedA : (t.node n).arrivedA = ((s.node n).arrivedA || chan = 0)
  offset : (t.node n).offset = (s.node n).offset
  others : ∀ m, m ≠ n → t.node m = s.node m
  sub : ∀ y, f.sub = some y → let ns := (s.localNode n).elim 0 fun r => r.nserial
    ((t.node n).subM.valid = true ↔ s.subCause .madder 0 ns (s.node n).subM y f.payload = 0) ∧
    ((t.node n).subW.valid = true ↔ s.subCause .woad 0 ns (s.node n).subW y f.payload = 0)
  frame : { t with selide := s.selide, axes := s.axes, queues := s.queues, supply := s.supply, safety := s.safety, host := s.host
                   recd := s.recd } = s

theorem State.DataAccepted.markValid {s t : State} {n chan : Nat} {f : Frame} (h : s.DataAccepted t n chan f) :
    s.DataAccepted (t.markValid n) n chan f := by
  obtain ⟨hbuf, ha, ho, hother, hsub, hframe⟩ := h
  have hself := t.markValid_node_self n
  refine ⟨(congrArg NodeSt.buf hself).trans hbuf, (congrArg NodeSt.arrivedA hself).trans ha,
    (congrArg NodeSt.offset hself).trans ho, fun m hm => (t.modNode_node_other _ hm).trans (hother m hm), fun y hy => ?_, hframe⟩
  rw [hself]
  exact hsub y hy

theorem State.dataAccepted_arrives (s : State) (n chan : Nat) (hsub : f.sub = none) :
    s.DataAccepted (s.modNode n fun x => x.dataArrives chan f.payload) n chan f := by
  have hself := s.modNode_node_self n fun x => x.dataArrives chan f.payload
  exact ⟨congrArg NodeSt.buf hself, congrArg NodeSt.arrivedA hself, (congrArg NodeSt.offset hself :),
    fun m hm => s.modNode_node_other _ hm, fun y hy => absurd (hsub.symm.trans hy) nofun, rfl⟩

theorem State.dataAccepted_takeSub (s : State) (n chan : Nat) {x : SubFrame} (hsub : f.sub = some x) : s.DataAccepted
    ((s.modNode n fun x => x.dataArrives chan f.payload).takeSub n ((s.localNode n).elim 0 fun r => r.nserial) x f.payload) n chan f := by
  let t := s.modNode n fun x => x.dataArrives chan f.payload
  have ht : t.node n = (s.node n).dataArrives chan f.payload := s.modNode_node_self n _
  obtain ⟨m, w, act, bad, rc, hstop, hm, hw⟩ := t.takeSub_shape n ((s.localNode n).elim 0 fun r => r.nserial) x f.payload
  have hframe := hstop.frame
  generalize hu : t.takeSub n ((s.localNode n).elim 0 fun r => r.nserial) x f.payload = u at hframe
  have hnode : ∀ j, u.node j = (t.modNode n fun y => y.heard m w act bad).node j := fun j =>
    (congrArg (fun v : State => v.node j) hframe :)
  have hself := (hnode n).trans (t.modNode_node_self n _)
  rw [ht] at hself hm hw
  refine ⟨congrArg NodeSt.buf hself, congrArg NodeSt.arrivedA hself, (congrArg NodeSt.offset hself :), fun j hj => ?_, fun y hy => ?_, ?_⟩
  · exact (hnode j).trans ((t.modNode_node_other _ hj).trans (s.modNode_node_other _ hj))
  · obtain rfl := Option.some.inj (hsub.symm.trans hy)
    rw [hself]
    exact ⟨hm, hw⟩
  · exact (congrArg (fun v : State => { v with selide := s.selide, recd := s.recd }) hframe :)

theorem State.dataAccepted_acceptData (s : State) (n chan : Nat) (hf : f.hdr.ftype.toNat = ftData) :
    s.DataAccepted (s.acceptData n chan f) n chan f := by
  rw [s.acceptData_eq n chan hf]
  cases hsub : f.sub with
  | none => exact (s.dataAccepted_arrives n chan hsub).markValid
  | some x => exact (s.dataAccepted_takeSub n chan hsub).markValid

/-! #### UPSTREAM_DATA_FRAME (R259, R264, R283) -/

section
variable {r : SlotRec} (ht : s.tick.selide = true) (hok : s.frameOk k.val (chanNo c) f = true) (hs : (s.trunk k.val).sched = 0)
  (hn : s.nodeAt k.val f.hdr.node.toNat = some n) (hr : (s.node n).slot 0 (chanNo c) 0 f.hdr.slot.toNat = some r)
  (hp : (s.node n).present = true) (hm : (s.node n).mute = false) (ha : (s.node n).activeFrom ≤ s.tick.no)
include ht hok hs hn hr hp hm ha

theorem State.exec_upstream_slot {b : Bool} {t : State}
    (htime : s.slotTiming n (chanNo c) r start (frameNs f.payload.length f.sub.isSome) = (b, t)) :
    exec (.upstreamDataFrame k c f start) s = .next (if !b then t
      else if chanNo c = 0 then
        if f.hdr.ftype.toNat = ftData ∨ f.hdr.ftype.toNat = ftNull then t.acceptData n (chanNo c) f else t
      else t.modNode n fun y => { y with arrivedB := true }) := by
  have hstart : (!(s.node n).present || (s.node n).mute || decide (s.tick.no < (s.node n).activeFrom)) = false := by
    rw [hp, hm, decide_eq_false (Nat.not_lt.mpr ha)]
    rfl
  simp only [exec, execUpstreamDataFrame, ht, if_true, State.dataFrameOp, hs, hok, hn, hr, hstart, htime, essentialChan, ne_eq,
    not_true_eq_false, decide_false, Bool.false_and, Bool.false_eq_true, if_false, Bool.not_true, OfNat.zero_ne_ofNat]

theorem State.completes_upstream_data (hin : s.inGuards r start (frameNs f.payload.length f.sub.isSome))
    (hnear : (start - r.start).natAbs ≤ 50) (hf : f.hdr.ftype.toNat = ftData) (hc : c = .A) :
    Completes (.upstreamDataFrame k c f start) s fun t =>
      (t.node n).buf = some f.payload ∧ (t.node n).arrivedA = true ∧ (t.node n).offset = start - r.start ∧
      (∀ m, m ≠ n → t.node m = s.node m) ∧
      (∀ y, f.sub = some y → let ns := (s.localNode n).elim 0 fun r => r.nserial
        ((t.node n).subM.valid = true ↔ s.subCause .madder 0 ns (s.node n).subM y f.payload = 0) ∧
        ((t.node n).subW.valid = true ↔ s.subCause .woad 0 ns (s.node n).subW y f.payload = 0)) ∧
      { t with selide := s.selide, axes := s.axes, queues := s.queues, supply := s.supply, safety := s.safety, host := s.host
               recd := s.recd } = s := by
  subst hc
  have hexec := State.exec_upstream_slot ht hok hs hn hr hp hm ha (State.slotTiming_within hin hnear)
  rw [Bool.not_true, if_neg Bool.false_ne_true, if_pos (show chanNo .A = 0 from rfl), if_pos (.inl hf)] at hexec
  let u := s.modNode n fun x => x.timed (chanNo .A) (start - r.start)
  have hu : u.node n = (s.node n).timed 0 (start - r.start) := s.modNode_node_self n _
  obtain ⟨hbuf, harr, hoff, hother, hsub, hframe⟩ := u.dataAccepted_acceptData n (chanNo .A) hf
  refine ⟨_, hexec, hbuf, harr.trans (Bool.or_true _), hoff.trans (congrArg NodeSt.offset hu),
    fun m hm => (hother m hm).trans (s.modNode_node_other _ hm), fun y hy => ?_, ?_⟩
  · have h := hsub y hy
    rw [hu] at h
    exact h
  · exact (congrArg (fun v : State => { v with selide := s.selide }) hframe :)

theorem State.completes_upstream_violation (hout : ¬s.inGuards r start (frameNs f.payload.length f.sub.isSome)) :
    Completes (.upstreamDataFrame k c f start) s fun t => s.NodeRecorded t n ((s.node n).violate (start - r.start))
      evSlotViolation (s.nodeRef n) [chanNo c, argI (start - r.start)] :=
  ⟨_, State.exec_upstream_slot ht hok hs hn hr hp hm ha (State.slotTiming_outside hout), s.nodeRecorded_emit n _ _ _ _⟩

end

/-! #### EXT_FRAME (R269) -/

/-- Reply bytes change the host interface alone. -/
theorem State.serviceReply_shape (s : State) (n : Nat) (l : List Byte) : ∃ h, s.serviceReply n l = { s with host := h } := by
  unfold State.serviceReply
  refine s.forEach_invariant (fun t => ∃ h, t = { s with host := h }) l _ ⟨_, rfl⟩ fun t b _ ht => ?_
  obtain ⟨h, rfl⟩ := ht
  extract_lets wr rd dr
  split
  · exact ⟨_, rfl⟩
  · exact ⟨_, rfl⟩

theorem State.exec_ext_error (ht : s.tick.selide = true) (hok : s.frameOk k.val 1 f = false) : exec (.extFrame k f start) s =
    .next (s.frameError k.val 1 (s.slotAt k.val 0 1 start).1 (s.slotAt k.val 0 1 start).2) := by
  simp only [exec, execExtFrame, ht, if_true, State.extFrameOp, hok, Bool.not_false]

theorem State.completes_ext (ht : s.tick.selide = true) (hok : s.frameOk k.val 1 f = true)
    (hn : s.nodeAt k.val f.hdr.node.toNat = some n) (hp : (s.node n).present = true) (hm : (s.node n).mute = false)
    (hs : (s.trunk k.val).sched = 0) (hr : ((s.node n).slot 0 1 0 f.hdr.slot.toNat).isSome = true)
    (hf : f.hdr.ftype.toNat = ftExt) : Completes (.extFrame k f start) s fun t =>
      t.node n = { s.node n with arrivedB := true, extBuf := some f.payload } ∧ (∀ m, m ≠ n → t.node m = s.node m) ∧
      { t with selide := { t.selide with nodes := s.selide.nodes }, host := s.host } = s := by
  let u := s.modNode n fun y => { y with arrivedB := true, extBuf := some f.payload }
  have hslot : ((s.node n).slot 0 1 0 f.hdr.slot.toNat).isNone = false := by
    rw [← Option.not_isSome, hr]
    rfl
  have hexec : exec (.extFrame k f start) s = .next (u.serviceReply n (f.payload.drop (16 * (s.node n).nax))) := by
    simp only [exec, execExtFrame, ht, if_true, State.extFrameOp, hok, hn, hp, hm, hs, hslot, hf, Bool.not_true, Bool.false_eq_true,
      if_false, ne_eq, not_true_eq_false, decide_false, Bool.or_self]
    rfl
  obtain ⟨h, hu⟩ := u.serviceReply_shape n (f.payload.drop (16 * (s.node n).nax))
  rw [hu] at hexec
  exact ⟨_, hexec, s.modNode_node_self n _, fun m hm => s.modNode_node_other _ hm, rfl⟩

end

end Sys2Proof.Machine


/-! ### The downstream window (R267, R269, R270, R290) -/

namespace Sys2Proof.Machine
open Sys2Proof.Claims

variable (s : State)

/-! #### Frames go out -/

/-- `t` is `s` after frames have gone out: what trunks have sent has grown, and beside it nodes, the host interface and the cell
link may have changed. -/
structure State.Sends (s t : State) : Prop where
  sent : ∀ j, ∃ l, t.trunk j = { s.trunk j with sent := (s.trunk j).sent ++ l }
  frame : { t with
    selide := { t.selide with nodes := s.selide.nodes, trunks := s.selide.trunks }, host := s.host, link := s.link } = s

theorem State.Sends.refl : s.Sends s := ⟨fun _ => ⟨[], by rw [List.append_nil]⟩, rfl⟩

theorem State.Sends.trans {s t u : State} (h : s.Sends t) (h' : t.Sends u) : s.Sends u where
  sent j := by
    obtain ⟨l, hl⟩ := h.sent j
    obtain ⟨l', hl'⟩ := h'.sent j
    exact ⟨l ++ l', by rw [hl', hl, List.append_assoc]⟩
  frame := (congrArg (fun v : State => { v with
    selide := { v.selide with nodes := s.selide.nodes, trunks := s.selide.trunks }, host := s.host, link := s.link }) h'.frame :).trans
      h.frame

theorem State.sends_forEach {α : Type} (l : List α) {f : State → α → State} (h : ∀ (t : State) (a : α), t.Sends (f t a)) :
    s.Sends (s.forEach l f) := s.forEach_invariant s.Sends l f (.refl s) fun t a _ ht => ht.trans (h t a)

theorem State.sends_modNode (n : Nat) (f : NodeSt → NodeSt) : s.Sends (s.modNode n f) :=
  ⟨fun _ => ⟨[], by rw [List.append_nil]; rfl⟩, rfl⟩

theorem State.sends_modLink (f : LinkSt → LinkSt) : s.Sends (s.modLink f) := ⟨fun _ => ⟨[], by rw [List.append_nil]; rfl⟩, rfl⟩

theorem State.sends_sendFrame (k : Nat) (f : Frame) : s.Sends (s.sendFrame k f) := by
  refine ⟨fun j => ?_, rfl⟩
  unfold State.sendFrame
  by_cases h : j = k
  · subst h
    exact ⟨[f], s.modTrunk_trunk_self j _⟩
  · exact ⟨[], by rw [s.modTrunk_trunk_other _ h, List.append_nil]⟩

theorem State.sends_done (op : Nat) (h : Hdr) (status : Nat) : s.Sends (s.done op h status) := by
  obtain ⟨hs, hd, -⟩ := s.hostOnly_done op h status
  rw [hd]
  exact ⟨fun _ => ⟨[], by rw [List.append_nil]; rfl⟩, rfl⟩

/-- What the islands send to a node does not depend on what has gone out before (R267, R270). -/
theorem State.Sends.downSdata {s t : State} (h : s.Sends t) (n : Nat) : t.downSdata n = s.downSdata n :=
  (congrArg (fun v : State => v.downSdata n) h.frame :)

theorem State.Sends.tick {s t : State} (h : s.Sends t) : t.tick = s.tick := (congrArg State.tick h.frame :)

/-! #### One node -/

/-- The last downstream sub-frame of a node, and its SEQ. -/
def NodeSt.down (x : NodeSt) : Word16 × Option SubFrame := (x.downSeq, x.downSub)

/-- Frames go out, to node `n` at most: the other nodes stay, and its downstream sub-frame does. -/
structure State.Serves (s t : State) (n : Nat) : Prop extends State.Sends s t where
  down : (t.node n).down = (s.node n).down
  others : ∀ m, m ≠ n → t.node m = s.node m

theorem State.Serves.trans {s t u : State} {n : Nat} (h : s.Serves t n) (h' : t.Serves u n) : s.Serves u n :=
  ⟨h.toSends.trans h'.toSends, h'.down.trans h.down, fun m hm => (h'.others m hm).trans (h.others m hm)⟩

theorem State.serves_sendFrame (k : Nat) (f : Frame) (n : Nat) : s.Serves (s.sendFrame k f) n :=
  ⟨s.sends_sendFrame k f, rfl, fun _ _ => rfl⟩

theorem State.serves_done (op : Nat) (h : Hdr) (status n : Nat) : s.Serves (s.done op h status) n := by
  refine ⟨s.sends_done op h status, ?_, fun m _ => ?_⟩
  · rw [State.node, State.done_selide]
    rfl
  · rw [State.node, State.done_selide]
    rfl

theorem State.serves_modNode {n : Nat} {f : NodeSt → NodeSt} (h : ∀ x, (f x).down = x.down) : s.Serves (s.modNode n f) n :=
  ⟨s.sends_modNode n f, by rw [s.modNode_node_self]; exact h _, fun m hm => s.modNode_node_other _ hm⟩

theorem State.serves_sendService (n k chain : Nat) : s.Serves (s.sendService n k chain) n := by
  unfold State.sendService
  extract_lets x slot q r u v
  have hu : s.Serves u n := s.serves_modNode fun _ => rfl
  clear_value slot
  have hv : s.Serves v n := by
    simp only [v]
    split
    · exact hu.trans (u.serves_sendFrame ..)
    · exact hu
  exact v.forEach_invariant (s.Serves · n) r.2.2 _ hv fun t h _ ht => ht.trans (t.serves_done ..)

/-- What a window leaves of a node to which it sends (R270). -/
def State.DownSent (s t : State) (n : Nat) : Prop :=
  (t.node n).downSeq = (s.node n).downSeq + 1 ∧ ∃ sub, (t.node n).downSub = some sub ∧ sub.seq = (s.node n).downSeq + 1 ∧
    sub.cstamp = s.tick.cycle.setWidth 16 ∧ sub.sdata = BitVec.ofNat 32 (s.downSdata n)

theorem State.sendToNode_spec (n : Nat) :
    s.Sends (s.sendToNode n) ∧ s.DownSent (s.sendToNode n) n ∧ ∀ m, m ≠ n → (s.sendToNode n).node m = s.node m := by
  unfold State.sendToNode
  extract_lets axes words payload sub t k chain sched u
  have hself : t.node n = { s.node n with
      words := words, downSub := some sub, downSeq := (s.node n).downSeq + 1
      stoSince := stoTimes (s.node n).stoSince sub.sdata.toNat s.stoDue } := s.modNode_node_self n _
  have hu : t.Serves u n := by
    simp only [u]
    split
    · exact t.serves_sendFrame ..
    · exact ⟨.refl t, rfl, fun _ _ => rfl⟩
  have hw : t.Serves (if sched = 0 then u.sendService n k chain else u) n := by
    split
    · exact hu.trans (u.serves_sendService n k chain)
    · exact hu
  generalize (if sched = 0 then u.sendService n k chain else u) = w at hw
  have hdown := hw.down
  rw [hself] at hdown
  refine ⟨(s.sends_modNode n _).trans hw.toSends, ⟨congrArg Prod.fst hdown, sub, congrArg Prod.snd hdown, ?_, ?_, rfl⟩,
    fun m hm => (hw.others m hm).trans (s.modNode_node_other _ hm)⟩
  · exact (BitVec.ofNat_toNat 16 _).trans (BitVec.setWidth_eq _)
  · exact BitVec.eq_of_toNat_eq (by simp [sub, State.downSubFrame])

/-! #### The records of the cell link -/

theorem State.sends_sendLink : s.Sends s.sendLink := by
  unfold State.sendLink
  split
  · refine s.sends_forEach _ fun t p => ?_
    exact (t.sends_modLink _).trans (State.sends_sendFrame _ _ _)
  · exact .refl s

theorem State.sends_sendRecords : s.Sends s.sendRecords := (s.sends_modLink _).trans (State.sends_sendLink _)

theorem State.sendLink_nodes : s.sendLink.selide.nodes = s.selide.nodes := by
  unfold State.sendLink
  split
  · exact s.forEach_keeps (fun t => t.selide.nodes) _ _ fun t p _ => rfl
  · rfl

theorem State.sendRecords_node (m : Nat) : s.sendRecords.node m = s.node m :=
  congrArg (fun x => tblGet ({} : NodeSt) x m) (State.sendLink_nodes _)

/-! #### DOWNSTREAM_WINDOW -/

/-- The nodes to which the window sends. -/
def State.downNodes (s : State) : List Nat := (s.selide.nodes.filter fun p => p.2.present).map fun p => p.1

theorem tblGet_of_mem {α : Type} (d : α) {t : Tbl α} (hn : (t.map fun p => p.1).Nodup) {p : Nat × α} (hp : p ∈ t) :
    tblGet d t p.1 = p.2 := by
  induction t with
  | nil => cases hp
  | cons x r ih =>
    rw [List.map_cons, List.nodup_cons] at hn
    obtain rfl | hr := List.mem_cons.mp hp
    · exact if_pos rfl
    · have hne : x.1 ≠ p.1 := fun he => hn.1 (he ▸ List.mem_map_of_mem hr)
      exact (if_neg hne).trans (ih hn.2 hr)

theorem State.mem_downNodes (hn : (s.selide.nodes.map fun p => p.1).Nodup) {m : Nat}
    (hm : m ∈ s.selide.nodes.map fun p => p.1) (hp : (s.node m).present = true) : m ∈ s.downNodes := by
  obtain ⟨p, hmem, rfl⟩ := List.mem_map.mp hm
  rw [State.node, tblGet_of_mem {} hn hmem] at hp
  exact List.mem_map_of_mem (List.mem_filter.mpr ⟨hmem, hp⟩)

theorem State.downNodes_nodup (hn : (s.selide.nodes.map fun p => p.1).Nodup) : s.downNodes.Nodup :=
  hn.sublist (List.filter_sublist.map _)

/-- The window's frames to the nodes. -/
def State.sendToNodes (s : State) : State := s.forEach s.downNodes fun u n => u.sendToNode n

theorem State.sends_sendToNodes : s.Sends s.sendToNodes := s.sends_forEach _ fun t n => (t.sendToNode_spec n).1

theorem State.sendToNodes_downSent (hn : (s.selide.nodes.map fun p => p.1).Nodup) {m : Nat} (hm : m ∈ s.downNodes) :
    s.DownSent s.sendToNodes m := by
  have hone := filter_eq_singleton (s.downNodes_nodup hn) hm
  refine (s.forEach_once (P := fun t => s.Sends t ∧ t.node m = s.node m) (Q := fun t => s.DownSent t m) hone ⟨.refl s, rfl⟩
    (fun t b _ hb ht => ?_) (fun t ht => ?_) fun t b _ hb ht => ?_)
  · obtain ⟨hsends, -, hother⟩ := t.sendToNode_spec b
    exact ⟨ht.1.trans hsends, (hother m (Ne.symm (of_decide_eq_false hb))).trans ht.2⟩
  · obtain ⟨-, hdown, -⟩ := t.sendToNode_spec m
    rw [State.DownSent, ht.2, ht.1.tick, ht.1.downSdata] at hdown
    exact hdown
  · obtain ⟨-, -, hother⟩ := t.sendToNode_spec b
    rw [State.DownSent, hother m (Ne.symm (of_decide_eq_false hb))]
    exact ht

/-- The frames of a window. -/
def State.sendWindow (s : State) : State := if s.isLeader then s.sendToNodes.sendRecords else s.sendToNodes

theorem State.sends_sendWindow : s.Sends s.sendWindow := by
  unfold State.sendWindow
  split
  · exact s.sends_sendToNodes.trans (State.sends_sendRecords _)
  · exact s.sends_sendToNodes

theorem State.sendWindow_node (m : Nat) : s.sendWindow.node m = s.sendToNodes.node m := by
  unfold State.sendWindow
  split
  · exact State.sendRecords_node _ m
  · rfl

theorem State.downstream_eq : s.downstream = { s.sendWindow with free := s.sendWindow.free + 1 } := by
  have hlead : s.sendToNodes.isLeader = s.isLeader := (congrArg State.isLeader s.sends_sendToNodes.frame :)
  unfold State.downstream State.sendWindow
  rw [← hlead]
  rfl

section
variable {s}

theorem State.exec_downstreamWindow_idle (h : s.tick.selide = false ∨ s.tick.latched = false ∨ s.tick.downDone = true) :
    exec .downstreamWindow s = .next s := by
  refine congrArg Host.Outcome.next (if_neg fun hc => ?_)
  simp only [Bool.and_eq_true, Bool.not_eq_true'] at hc
  obtain ⟨⟨hs, hl⟩, hd⟩ := hc
  rw [hs, hl, hd] at h
  simp at h

theorem State.completes_downstreamWindow (ht : s.tick.selide = true) (hl : s.tick.latched = true) (hd : s.tick.downDone = false)
    (hn : (s.selide.nodes.map fun p => p.1).Nodup) : Completes .downstreamWindow s fun t =>
      (∀ m, m ∈ s.selide.nodes.map (fun p => p.1) → (s.node m).present = true → s.DownSent t m) ∧
      (∀ j, ∃ l, t.trunk j = { s.trunk j with sent := (s.trunk j).sent ++ l }) ∧
      { t with selide := s.selide, tick := { t.tick with downDone := false }, host := s.host, link := s.link
               free := s.free } = s := by
  have hexec : exec .downstreamWindow s = .next (s.downstream.modTick fun x => { x with downDone := true }) :=
    congrArg Host.Outcome.next (if_pos (by rw [ht, hl, hd]; rfl))
  rw [s.downstream_eq] at hexec
  have hsends := s.sends_sendWindow
  refine ⟨_, hexec, fun m hm hp => ?_, hsends.sent, ?_⟩
  · have hdown := s.sendToNodes_downSent hn (s.mem_downNodes hn hm hp)
    rw [State.DownSent, ← s.sendWindow_node m] at hdown
    exact hdown
  · have hopen : { s with tick := { s.tick with downDone := false } } = s := by rw [← hd]
    exact (congrArg (fun v : State => { v with
      selide := s.selide, tick := { v.tick with downDone := false }, free := s.free }) hsends.frame :).trans hopen

end

end Sys2Proof.Machine


/-! ### Symbol lock, echoes and the loss of a channel (R262, R285 to R287) -/

namespace Sys2Proof.Machine
open Sys2Proof.Claims

section
variable {s : State} {k : Fin 4} {c : Chan}

/-- `t` is `s` but for trunk `k`, which is `y`. -/
structure State.OnlyTrunk (s t : State) (k : Nat) (y : TrunkSt) : Prop where
  frame : { t with selide := { t.selide with trunks := s.selide.trunks } } = s
  others : ∀ j, j ≠ k → t.trunk j = s.trunk j
  trunk : t.trunk k = y

theorem State.onlyTrunk_modTrunk (s : State) (k : Nat) (f : TrunkSt → TrunkSt) : s.OnlyTrunk (s.modTrunk k f) k (f (s.trunk k)) :=
  ⟨rfl, fun _ hj => s.modTrunk_trunk_other f hj, s.modTrunk_trunk_self k f⟩

theorem State.completes_echo (n : Nat) (ht : s.tick.selide = true) : Completes (.echo k c n) s fun t =>
    s.OnlyTrunk t k.val { s.trunk k.val with
      echoA := if c = .A then some (n + 200) else (s.trunk k.val).echoA
      echoB := if c = .B then some (n + 200) else (s.trunk k.val).echoB } := by
  refine ⟨_, congrArg Host.Outcome.next (if_pos ht), ?_⟩
  cases c <;> exact s.onlyTrunk_modTrunk k.val _

theorem State.completes_symbolLockLoss : Completes (.symbolLockLoss k c) s fun t => s.OnlyTrunk t k.val { s.trunk k.val with
    lockA := if c = .A then false else (s.trunk k.val).lockA, lockB := if c = .B then false else (s.trunk k.val).lockB } := by
  refine ⟨_, rfl, ?_⟩
  cases c <;> exact s.onlyTrunk_modTrunk k.val _

theorem State.completes_symbolLockGain : Completes (.symbolLockGain k c) s fun t => s.OnlyTrunk t k.val { s.trunk k.val with
    lockA := if c = .A then true else (s.trunk k.val).lockA, lockB := if c = .B then true else (s.trunk k.val).lockB } := by
  refine ⟨_, rfl, ?_⟩
  cases c <;> exact s.onlyTrunk_modTrunk k.val _

/-! #### CHANNEL_LOST (R285) -/

theorem State.exec_channelLost_idle (h : s.isLinkTrunk k.val = true ∨ s.lossCause k.val (chanNo c) = 0) :
    exec (.channelLost k c) s = .next s := by
  refine congrArg Host.Outcome.next (if_neg fun hc => ?_)
  simp only [Bool.and_eq_true, Bool.not_eq_true', decide_eq_true_eq] at hc
  obtain ⟨⟨⟨-, hlink⟩, -⟩, hloss⟩ := hc
  exact h.elim (fun hl => Bool.false_ne_true (hlink.symm.trans hl)) hloss.ne'

/-- What the loss of a channel makes of its trunk. -/
def TrunkSt.loses (x : TrunkSt) (chan now : Nat) : TrunkSt := { x with
  aLost := x.aLost || chan = 0, bLost := x.bLost || chan = 1
  schedNext := if x.schedNext = 0 then (if chan = 0 then 2 else 1) else x.schedNext
  lostNs := if x.schedNext = 0 then now else x.lostNs, nullRun := 0, restore := false }

theorem TrunkSt.loses_schedNext {x : TrunkSt} (h : x.schedNext = 0) (c : Chan) (now : Nat) :
    (x.loses (chanNo c) now).schedNext = if c = .A then 2 else 1 := by cases c <;> exact if_pos h

theorem TrunkSt.lostChan_of_schedNext {x : TrunkSt} {c : Chan} (h : x.schedNext = if c = .A then 2 else 1) :
    x.lostChan.isSome = true := by
  unfold TrunkSt.lostChan
  rw [h]
  cases c <;> rfl

theorem State.completes_channelLost (ht : s.tick.selide = true) (hlink : s.isLinkTrunk k.val = false)
    (hknown : (if c = .A then (s.trunk k.val).aLost else (s.trunk k.val).bLost) = false) (hloss : 0 < s.lossCause k.val (chanNo c))
    (hnext : (s.trunk k.val).schedNext = 0) : Completes (.channelLost k c) s fun t =>
      (t.trunk k.val).schedNext = (if c = .A then 2 else 1) ∧ (t.trunk k.val).lostNs = s.now ∧
      (t.trunk k.val).lostChan.isSome = true ∧
      Records s t evChannelLost s.devRef [k.val, chanNo c, s.lossCause k.val (chanNo c)] ∧
      { t with recd := s.recd, selide := { t.selide with trunks := s.selide.trunks } } = s := by
  let u := s.modTrunk k.val fun x => x.loses (chanNo c) s.now
  have hknown' : (if chanNo c = 0 then (s.trunk k.val).aLost else (s.trunk k.val).bLost) = false := by
    cases c <;> exact hknown
  have hexec : exec (.channelLost k c) s =
      .next (u.emit evChannelLost s.devRef [k.val, chanNo c, s.lossCause k.val (chanNo c)]) :=
    congrArg Host.Outcome.next (if_pos (by rw [ht, hlink, hknown', decide_eq_true hloss]; rfl))
  have htrunk : u.trunk k.val = (s.trunk k.val).loses (chanNo c) s.now := s.modTrunk_trunk_self k.val _
  have hsched : (u.trunk k.val).schedNext = if c = .A then 2 else 1 :=
    (congrArg TrunkSt.schedNext htrunk).trans (TrunkSt.loses_schedNext hnext c s.now)
  refine ⟨_, hexec, hsched, (congrArg TrunkSt.lostNs htrunk).trans (if_pos hnext), TrunkSt.lostChan_of_schedNext hsched,
    u.records_emit _ _ _, rfl⟩

/-! #### CHANNEL_RESTORED and CHANNEL_DEG_EXPIRED (R286, R287) -/

theorem State.completes_channelRestored (hlost : (s.trunk k.val).lostChan.isSome = true) (h : 32 ≤ (s.trunk k.val).nullRun) :
    Completes (.channelRestored k) s fun t => s.OnlyTrunk t k.val { s.trunk k.val with restore := true } := by
  refine ⟨_, congrArg Host.Outcome.next (if_pos ?_), s.onlyTrunk_modTrunk k.val _⟩
  rw [hlost, decide_eq_true h]
  rfl

theorem State.exec_channelRestored_early (h : (s.trunk k.val).nullRun < 31) : exec (.channelRestored k) s = .next s := by
  refine congrArg Host.Outcome.next (if_neg ?_)
  rw [decide_eq_false (by omega : ¬32 ≤ (s.trunk k.val).nullRun), decide_eq_false (Nat.not_le.mpr h), Bool.false_and, Bool.or_self,
    Bool.and_false]
  exact Bool.false_ne_true

theorem State.completes_channelDegExpired (hlost : (s.trunk k.val).lostChan.isSome = true) (he : (s.trunk k.val).expired = false)
    (hlate : (s.trunk k.val).lostNs + s.pU 0x8001 s.dev * 1000000 ≤ s.now + s.P) : Completes (.channelDegExpired k) s fun t =>
      t.trunk k.val = { s.trunk k.val with expired := true } ∧ t.selide.nodes = s.selide.nodes ∧
      { t with safety := s.safety, recd := s.recd, health := s.health
               selide := { t.selide with trunks := s.selide.trunks } } = s := by
  refine ⟨_, congrArg Host.Outcome.next (if_pos ?_), s.modTrunk_trunk_self k.val _, rfl, rfl⟩
  rw [hlost, he, decide_eq_true hlate]
  rfl

end

end Sys2Proof.Machine

/-! ### Masters in conflict (R288) -/

namespace Sys2Proof.Machine
open Sys2Proof.Claims

/-- The key by which this device stands in a conflict of masters. -/
def State.ownKey (s : State) : Nat := masterKey (s.devRec.elim 0 fun d => d.priority) s.power.fuses.serial

/-- The time of a device that follows the winner of a conflict. -/
def State.followTime (s : State) (y : CycleStart) (arrival : Int) : TimeSt := { s.time with
  remaining := s.cycleError y arrival y.acc.toNat, slewing := true, alignSlew := false
  slewStart := if s.time.slewing then s.time.slewStart else s.now }

section
variable {s : State} {k : Fin 4} {f : Frame} {arrival : Int} {y : CycleStart}

theorem State.exec_cycleStart_discarded (ht : s.tick.selide = true) (hm : (s.trunk k.val).master = true)
    (hy : cycleStartOf k.val s.dev f = none) : exec (.cycleStartReceived k ⟨f, arrival⟩) s =
      .next (s.frameError k.val 0 0xFF none) := by
  simp only [exec, execCycleStartReceived, ht, hm, hy, Bool.true_or, Bool.and_self, if_true]

/-- What is recorded and kept of a conflict that the device loses. -/
def State.conflictLost (s : State) (k : Nat) (y : CycleStart) : State :=
  (s.modTrunk k fun x => { x with conflict := true, master := false, followed := s.pU 0x8002 s.dev = 0 }).emit evMasterConflict
    s.devRef [k, y.serial.toNat % 2 ^ 32, y.serial.toNat / 2 ^ 32, y.prio.toNat, if s.pU 0x8002 s.dev = 0 then 1 else 2]

theorem State.masterConflict_eq : s.masterConflict k.val y = if masterKey y.prio.toNat y.serial < s.ownKey then
    s.conflictLost k.val y else s.modTrunk k.val fun x => { x with conflict := true } := rfl

variable (ht : s.tick.selide = true) (hy : cycleStartOf k.val s.dev f = some y) (hm : (s.trunk k.val).master = true)
  (hne : y.serial ≠ s.power.fuses.serial)
include ht hy hm hne

theorem State.exec_cycleStart_master : exec (.cycleStartReceived k ⟨f, arrival⟩) s = .next
    (if ((s.masterConflict k.val y).trunk k.val).followed then (s.masterConflict k.val y).followWinner y arrival
      else s.masterConflict k.val y) := by
  simp only [exec, execCycleStartReceived, ht, hy, hm, hne, Bool.true_or, Bool.and_self, if_true, if_false]

theorem State.completes_conflict_lost (hlose : masterKey y.prio.toNat y.serial < s.ownKey) :
    Completes (.cycleStartReceived k ⟨f, arrival⟩) s fun t =>
      (t.trunk k.val).conflict = true ∧ (t.trunk k.val).master = false ∧
      ((t.trunk k.val).followed = true ↔ s.pU 0x8002 s.dev = 0) ∧
      Records s t evMasterConflict s.devRef [k.val, y.serial.toNat % 2 ^ 32, y.serial.toNat / 2 ^ 32, y.prio.toNat,
        if s.pU 0x8002 s.dev = 0 then 1 else 2] ∧
      t.time = (if s.pU 0x8002 s.dev = 0 then s.followTime y arrival else s.time) ∧
      { t with recd := s.recd, time := s.time, selide := { t.selide with trunks := s.selide.trunks } } = s := by
  have hexec := State.exec_cycleStart_master (arrival := arrival) ht hy hm hne
  have htrunk : (s.conflictLost k.val y).trunk k.val = { s.trunk k.val with
      conflict := true, master := false, followed := decide (s.pU 0x8002 s.dev = 0) } := s.modTrunk_trunk_self k.val _
  have hrec : Records s (s.conflictLost k.val y) evMasterConflict s.devRef [k.val, y.serial.toNat % 2 ^ 32,
      y.serial.toNat / 2 ^ 32, y.prio.toNat, if s.pU 0x8002 s.dev = 0 then 1 else 2] :=
    State.records_emit (s.modTrunk k.val _) _ _ _
  rw [State.masterConflict_eq, if_pos hlose, htrunk] at hexec
  by_cases hfollow : s.pU 0x8002 s.dev = 0
  · simp only [hfollow, decide_true, if_true] at hexec htrunk hrec ⊢
    exact ⟨_, hexec, congrArg TrunkSt.conflict htrunk, congrArg TrunkSt.master htrunk,
      ⟨fun _ => trivial, fun _ => congrArg TrunkSt.followed htrunk⟩, hrec, rfl, rfl⟩
  · simp only [hfollow, decide_false, Bool.false_eq_true, if_false] at hexec htrunk hrec ⊢
    exact ⟨_, hexec, congrArg TrunkSt.conflict htrunk, congrArg TrunkSt.master htrunk,
      ⟨fun h => Bool.false_ne_true ((congrArg TrunkSt.followed htrunk).symm.trans h), fun h => h.elim⟩, hrec, rfl, rfl⟩

theorem State.completes_conflict_won (hf : (s.trunk k.val).followed = false) (hwin : s.ownKey ≤ masterKey y.prio.toNat y.serial) :
    Completes (.cycleStartReceived k ⟨f, arrival⟩) s fun t => s.OnlyTrunk t k.val { s.trunk k.val with conflict := true } := by
  have hexec := State.exec_cycleStart_master (arrival := arrival) ht hy hm hne
  have hwon := s.onlyTrunk_modTrunk k.val fun x => { x with conflict := true }
  rw [State.masterConflict_eq, if_neg (Nat.not_lt.mpr hwin), hwon.trunk, hf, if_neg Bool.false_ne_true] at hexec
  exact ⟨_, hexec, hwon⟩

end

/-- Settles O40: each frame is its checks and a change of its node; a window is a fold over the nodes, which what has gone out
before leaves alone; the events of a trunk change that trunk. -/
theorem busFramesAndChannels : Obligations.BusFramesAndChannels := by
  unfold Obligations.BusFramesAndChannels
  intro s k c f start n
  refine ⟨fun ht hok hs => ⟨_, State.exec_upstream_error ht hok hs, State.frameError_records _ _ _ _ _, State.frameError_node _ _ _ _ _,
      State.frameError_frame ..⟩,
    fun r ht hok hs hn hr hp hm ha => ⟨fun hin hnear hf hc => State.completes_upstream_data ht hok hs hn hr hp hm ha hin hnear hf hc,
      fun hout => ?violation⟩,
    fun ht hok hn hp hm hs hr hf => State.completes_ext ht hok hn hp hm hs hr hf,
    fun ht hok => ⟨_, State.exec_ext_error ht hok, State.frameError_records _ _ _ _ _, State.frameError_node _ _ _ _ _,
      State.frameError_frame ..⟩,
    fun h => completes_self (State.exec_downstreamWindow_idle h), fun ht hl hd hn => State.completes_downstreamWindow ht hl hd hn,
    fun off ht => ?echo, fun arrival y ht hy hm hf hne => ⟨fun hlose => State.completes_conflict_lost ht hy hm hne hlose,
      fun hwin => ?won⟩,
    fun arrival ht hm hy => ⟨_, State.exec_cycleStart_discarded ht hm hy, State.frameError_records _ _ _ _ _, rfl⟩, ?lockLoss, ?lockGain,
    fun hlink => completes_self (State.exec_channelLost_idle (.inl hlink)),
    fun ht hlink hknown => ⟨fun hloss hnext => State.completes_channelLost ht hlink hknown hloss hnext,
      fun h0 => completes_self (State.exec_channelLost_idle (.inr h0))⟩,
    fun hlost => ⟨fun h => ?restored, fun h => completes_self (State.exec_channelRestored_early h),
      fun he hlate => State.completes_channelDegExpired hlost he hlate⟩⟩
  case violation =>
    obtain ⟨t, hexec, hnode, hrec, hothers, hframe⟩ := State.completes_upstream_violation ht hok hs hn hr hp hm ha hout
    exact ⟨t, hexec, hrec, (congrArg NodeSt.violated hnode :), (congrArg NodeSt.buf hnode :), hothers, hframe⟩
  case echo =>
    obtain ⟨t, hexec, hframe, hothers, htrunk⟩ := State.completes_echo (k := k) (c := c) off ht
    exact ⟨t, hexec, hframe, hothers, htrunk⟩
  case won =>
    obtain ⟨t, hexec, hframe, -, htrunk⟩ := State.completes_conflict_won (arrival := arrival) ht hy hm hne hf hwin
    exact ⟨t, hexec, htrunk, hframe⟩
  case lockLoss =>
    obtain ⟨t, hexec, hframe, hothers, htrunk⟩ := State.completes_symbolLockLoss (s := s) (k := k) (c := c)
    exact ⟨t, hexec, hframe, hothers, htrunk⟩
  case lockGain =>
    obtain ⟨t, hexec, hframe, hothers, htrunk⟩ := State.completes_symbolLockGain (s := s) (k := k) (c := c)
    exact ⟨t, hexec, hframe, hothers, htrunk⟩
  case restored =>
    obtain ⟨t, hexec, hframe, -, htrunk⟩ := State.completes_channelRestored hlost h
    exact ⟨t, hexec, htrunk, hframe⟩

end Sys2Proof.Machine


/-! ### LINK frames as a device receives them (R259, R264, R271, R289) -/

namespace Sys2Proof.Machine
open Sys2Proof.Claims

/-- `t` is `s` but for what is kept of LINK frames, those to repeat downstream and the recorder. -/
def State.LinkHeard (s t : State) : Prop :=
  ∃ tbl pb rc, t = { s with link := { s.link with rx := tbl, portB := pb }, recd := rc }

theorem State.LinkHeard.refl (s : State) : s.LinkHeard s := ⟨_, _, _, rfl⟩

theorem State.LinkHeard.trans {s t u : State} (h : s.LinkHeard t) (h' : t.LinkHeard u) : s.LinkHeard u := by
  obtain ⟨tbl, pb, rc, rfl⟩ := h
  obtain ⟨tbl', pb', rc', rfl⟩ := h'
  exact ⟨tbl', pb', rc', rfl⟩

theorem State.LinkHeard.frame {s t : State} (h : s.LinkHeard t) :
    { t with link := { t.link with rx := s.link.rx, portB := s.link.portB }, recd := s.recd } = s := by
  obtain ⟨tbl, pb, rc, rfl⟩ := h
  rfl

theorem State.LinkHeard.link_frame {s t : State} (h : s.LinkHeard t) : { t with link := s.link, recd := s.recd } = s := by
  obtain ⟨tbl, pb, rc, rfl⟩ := h
  rfl

variable (s : State)

theorem State.linkHeard_modLinkRx (d : Nat) (f : LinkRx → LinkRx) : s.LinkHeard (s.modLinkRx d f) := ⟨_, _, _, rfl⟩

theorem State.linkHeard_emit (code : Nat) (obj : Word) (args : List Nat) : s.LinkHeard (s.emit code obj args) := ⟨_, _, _, rfl⟩

theorem State.modLinkRx_linkRx (d : Nat) (f : LinkRx → LinkRx) : (s.modLinkRx d f).linkRx d = f (s.linkRx d) :=
  tblGet_tblSet_same ..

/-! #### Repeating downstream (R289) -/

theorem State.repeatDown_eq (hm : s.isMember = true) (f : Frame) :
    ∃ pb, f ∈ pb ∧ s.repeatDown f = { s with link := { s.link with portB := pb } } := by
  unfold State.repeatDown
  rw [if_pos hm]
  refine ⟨_, ?_, rfl⟩
  split
  next h => exact List.contains_iff_mem.mp h
  next => exact List.mem_append_right _ (List.mem_singleton_self f)

theorem State.repeatDown_shape (f : Frame) : ∃ pb, s.repeatDown f = { s with link := { s.link with portB := pb } } := by
  unfold State.repeatDown
  split
  · exact ⟨_, rfl⟩
  · exact ⟨_, rfl⟩

theorem State.linkHeard_repeatDown (f : Frame) : s.LinkHeard (s.repeatDown f) := by
  obtain ⟨pb, h⟩ := s.repeatDown_shape f
  exact ⟨_, pb, _, h⟩

/-! #### The judgement of a sub-frame (R271) -/

theorem LinkRx.setSub_subAt (x : LinkRx) (e : Island) (v : SubSt) : (x.setSub e v).subAt e = v := by cases e <;> rfl

theorem LinkRx.setSub_subAt_other (x : LinkRx) {e i : Island} (v : SubSt) (h : i ≠ e) : (x.setSub e v).subAt i = x.subAt i :=
  match e, i, h with
  | .madder, .woad, _ => rfl
  | .woad, .madder, _ => rfl
  | .madder, .madder, h => absurd rfl h
  | .woad, .woad, h => absurd rfl h

theorem State.judgeLinkSub_shape (e : Island) (d : Nat) (x : SubFrame) (p : List Byte) : ∃ (v : SubSt) (rc : RecSt),
    s.judgeLinkSub e d x p = { s.modLinkRx d fun y => y.setSub e v with recd := rc } ∧
      (v.valid = true ↔ s.subCause e (b2n s.isMember) (s.linkSerial d) ((s.linkRx d).subAt e) x p = 0) := by
  unfold State.judgeLinkSub
  extract_lets st
  split
  next h => exact ⟨_, _, rfl, fun _ => h, fun _ => rfl⟩
  next h => exact ⟨_, _, rfl, fun hv => absurd hv Bool.false_ne_true, fun h0 => absurd h0 h⟩

theorem State.linkHeard_judgeLinkSub (e : Island) (d : Nat) (x : SubFrame) (p : List Byte) :
    s.LinkHeard (s.judgeLinkSub e d x p) := by
  obtain ⟨v, rc, h, -⟩ := s.judgeLinkSub_shape e d x p
  exact ⟨_, _, rc, h⟩

theorem State.judgeLinkSub_linkRx_other {e i : Island} (h : i ≠ e) (d : Nat) (x : SubFrame) (p : List Byte) :
    ((s.judgeLinkSub e d x p).linkRx d).subAt i = (s.linkRx d).subAt i := by
  obtain ⟨v, rc, hj, -⟩ := s.judgeLinkSub_shape e d x p
  rw [hj]
  exact (congrArg (LinkRx.subAt · i) (s.modLinkRx_linkRx d _)).trans (LinkRx.setSub_subAt_other _ v h)

theorem State.judgeLinkSub_valid {e : Island} {d : Nat} {x : SubFrame} {p : List Byte}
    (h : s.subCause e (b2n s.isMember) (s.linkSerial d) ((s.linkRx d).subAt e) x p = 0) :
    (((s.judgeLinkSub e d x p).linkRx d).subAt e).valid = true := by
  obtain ⟨v, rc, hj, hv⟩ := s.judgeLinkSub_shape e d x p
  rw [hj]
  have hself : (({ s.modLinkRx d fun y => y.setSub e v with recd := rc } : State).linkRx d).subAt e = v :=
    (congrArg (LinkRx.subAt · e) (s.modLinkRx_linkRx d _)).trans (LinkRx.setSub_subAt ..)
  rw [hself]
  exact hv.mpr h

/-- A frame whose sub-frame both islands find valid is whole. -/
theorem State.judgeLinkSub_whole {d : Nat} {x : SubFrame} {p : List Byte}
    (h : ∀ e, s.subCause e (b2n s.isMember) (s.linkSerial d) ((s.linkRx d).subAt e) x p = 0) :
    (((s.judgeLinkSub .madder d x p).judgeLinkSub .woad d x p).linkRx d).whole = true := by
  obtain ⟨tbl, pb, rc, ht⟩ := s.linkHeard_judgeLinkSub .madder d x p
  have hm := s.judgeLinkSub_valid (h .madder)
  have hw : (s.judgeLinkSub .madder d x p).subCause .woad (b2n (s.judgeLinkSub .madder d x p).isMember)
      ((s.judgeLinkSub .madder d x p).linkSerial d) (((s.judgeLinkSub .madder d x p).linkRx d).subAt .woad) x p = 0 := by
    rw [s.judgeLinkSub_linkRx_other (by decide), ht]
    exact h .woad
  rw [LinkRx.whole, Bool.and_eq_true]
  exact ⟨(congrArg SubSt.valid ((s.judgeLinkSub .madder d x p).judgeLinkSub_linkRx_other (i := .madder) (by decide) d x p)).trans hm,
    (s.judgeLinkSub .madder d x p).judgeLinkSub_valid hw⟩

/-! #### The timing of a member's frame (R264) -/

/-- The slot that the leader's schedule gives a frame of member `d`. -/
def State.linkSlot (s : State) (d : Nat) (f : Frame) : Option SlotRec :=
  s.selide.sched.slots.find? fun r => r.owner = mkRef clsDevice d && r.dir = 0 && r.slot = f.hdr.slot.toNat

theorem State.linkHeard_linkTiming (d : Nat) (f : Frame) (start : Int) : s.LinkHeard (s.linkTiming d f start).2 := by
  unfold State.linkTiming
  split
  · exact .refl s
  · split
    · exact .refl s
    · extract_lets o b dur t
      split
      · exact .refl s
      · split
        · dsimp only
          split
          · exact (s.linkHeard_modLinkRx d _).trans (State.linkHeard_emit _ _ _ _)
          · exact s.linkHeard_modLinkRx d _
        · exact (s.linkHeard_modLinkRx d _).trans (State.linkHeard_emit _ _ _ _)

/-- A frame in the guards of its slot is accepted; the timing leaves the judgements of sub-frames alone. -/
theorem State.linkTiming_accepts {d : Nat} {f : Frame} {start : Int} (hmute : s.isLeader = true → (s.linkRx d).mute = false)
    (h : s.isLeader = false ∨ ∃ q, s.linkSlot d f = some q ∧
      s.inGuards q start (frameNs f.payload.length f.sub.isSome)) :
    (s.linkTiming d f start).1 = true ∧ ∀ e, ((s.linkTiming d f start).2.linkRx d).subAt e = (s.linkRx d).subAt e := by
  unfold State.linkTiming
  cases hl : s.isLeader with
  | false => exact ⟨rfl, fun _ => rfl⟩
  | true =>
    obtain ⟨q, hq, hlow, hhigh⟩ := h.resolve_left (by rw [hl]; nofun)
    unfold State.linkSlot at hq
    simp only [Bool.not_true, Bool.false_eq_true, if_false, hq, hmute hl, decide_eq_true hlow, decide_eq_true hhigh, Bool.and_self,
      if_true, true_and]
    intro e
    have hself := s.modLinkRx_linkRx d fun x => { x with pendCorr := x.pendCorr + corrStep (start - q.start) }
    split
    · exact (congrArg (LinkRx.subAt · e) hself).trans (by cases e <;> rfl)
    · exact (congrArg (LinkRx.subAt · e) hself).trans (by cases e <;> rfl)

/-! #### A frame as a whole (R289) -/

theorem State.linkHeard_linkFrameOp (d : Nat) (f : Frame) (start : Int) : s.LinkHeard (s.linkFrameOp d f start).2 := by
  unfold State.linkFrameOp
  split
  · exact .refl s
  · split
    · exact s.linkHeard_emit _ _ _
    · split
      · exact .refl s
      next x _ =>
        have htime := s.linkHeard_linkTiming d f start
        extract_lets p t
        split
        · exact htime
        · have ht : s.LinkHeard t := (htime.trans (State.linkHeard_judgeLinkSub ..)).trans (State.linkHeard_judgeLinkSub ..)
          dsimp only
          split
          · exact ht
          · exact ht.trans (t.linkHeard_modLinkRx d _)

theorem State.linkHeard_linkArrives (d : Nat) (f : Frame) (start : Int) : s.LinkHeard (s.linkArrives d f start).2 :=
  (s.linkHeard_repeatDown f).trans (State.linkHeard_linkFrameOp ..)

section
variable {s} {d : Nat} {f : Frame} {start : Int} {x : SubFrame} (hnew : (s.linkRx d).frame ≠ some f)
  (hmute : s.isLeader = true → (s.linkRx d).mute = false) (hok : s.linkOk (!s.isLeader) f = true)
  (htype : f.hdr.ftype.toNat = ftLink) (hsub : f.sub = some x)
  (hvalid : ∀ e, s.subCause e (b2n s.isMember) (s.linkSerial d) ((s.linkRx d).subAt e) x f.payload = 0)
  (hslot : s.isLeader = false ∨ ∃ q, s.linkSlot d f = some q ∧ s.inGuards q start (frameNs f.payload.length true))
include hnew hmute hok htype hsub hvalid hslot

theorem State.linkFrameOp_accepts : (s.linkFrameOp d f start).1 = true := by
  rw [show true = f.sub.isSome by rw [hsub]; rfl] at hslot
  obtain ⟨hin, hkeep⟩ := s.linkTiming_accepts hmute hslot
  obtain ⟨tbl, pb, rc, ht⟩ := s.linkHeard_linkTiming d f start
  have hwhole := (s.linkTiming d f start).2.judgeLinkSub_whole (d := d) (x := x) (p := f.payload) fun e => by
    rw [hkeep e, ht]
    exact hvalid e
  simp only [State.linkFrameOp, hnew, hok, hsub, hin, htype, if_false, Bool.not_true, Bool.false_eq_true, ne_eq,
    not_true_eq_false, decide_false, Bool.or_self]
  exact hwhole

theorem State.linkArrives_accepts : (s.linkArrives d f start).1 = true := by
  obtain ⟨pb, h⟩ := s.repeatDown_shape f
  unfold State.linkArrives
  rw [h]
  exact State.linkFrameOp_accepts (s := { s with link := { s.link with portB := pb } }) hnew hmute hok htype hsub hvalid hslot

end

/-! #### A record and the frame that brings it (R290) -/

section
variable {s} {d : Nat} {f : Frame} {start : Int} {rec : List Byte} {k : State → State}

theorem State.viaLink_of_counts (hin : (s.linkArrives (s.linkSender d) f start).1 = true) (hrec : rec ∈ linkRecs f.payload) :
    s.viaLink d f start rec k = k (s.linkArrives (s.linkSender d) f start).2 :=
  if_pos (by rw [hin, List.contains_iff_mem.mpr hrec]; rfl)

theorem State.viaLink_of_not_counts
    (h : ¬((s.linkArrives (s.linkSender d) f start).1 = true ∧ rec ∈ linkRecs f.payload)) :
    s.viaLink d f start rec k = (s.linkArrives (s.linkSender d) f start).2 := by
  refine if_neg fun hc => h ?_
  rw [Bool.and_eq_true] at hc
  exact ⟨hc.1, List.contains_iff_mem.mp hc.2⟩

theorem State.linkSender_zero : s.linkSender 0 = 0 := ite_self 0

end

end Sys2Proof.Machine

/-! ### Records that need no command decoder (R290, R291) -/

namespace Sys2Proof.Machine
open Sys2Proof.Claims

/-! #### A relayed capsule reaches the engines -/

/-- `t` is `s` but for the relays that the engines know of. -/
structure State.RelaysOnly (s t : State) : Prop where
  engines : ∀ e, { t.eng e with relays := (s.eng e).relays } = s.eng e
  frame : { t with sep := { t.sep with m := s.sep.m, w := s.sep.w } } = s

theorem State.RelaysOnly.refl (s : State) : s.RelaysOnly s := ⟨fun _ => rfl, rfl⟩

theorem State.RelaysOnly.trans {s t u : State} (h : s.RelaysOnly t) (h' : t.RelaysOnly u) : s.RelaysOnly u where
  engines e := (congrArg (fun x : Eng => { x with relays := (s.eng e).relays }) (h'.engines e) :).trans (h.engines e)
  frame := (congrArg (fun v : State => { v with sep := { v.sep with m := s.sep.m, w := s.sep.w } }) h'.frame :).trans h.frame

variable (s : State)

theorem State.relaysOnly_modRelay (e : Island) (i : Nat) (f : RelaySt → RelaySt) : s.RelaysOnly (s.modRelay e i f) where
  engines d := by cases e <;> cases d <;> rfl
  frame := by cases e <;> rfl

theorem State.relaysOnly_relayArrives (es : List Island) (r : CapRel) : s.RelaysOnly (s.relayArrives es r) := by
  unfold State.relayArrives
  split
  · exact s.forEach_invariant s.RelaysOnly es _ (.refl s) fun t e _ ht => ht.trans (t.relaysOnly_modRelay e _ _)
  · exact .refl s

theorem State.relayArrives_taken {es : List Island} {r : CapRel} {e : Island} (he : e ∈ es) :
    ∀ c ∈ s.sep.kin.caps, c.kind = 4 → c.index = r.cap.toNat → ((s.relayArrives es r).relay e r.cap.toNat).arrived = some r := by
  intro c hc hk hi
  have hany : (s.sep.kin.caps.any fun c => c.kind = 4 && c.index = r.cap.toNat) = true :=
    List.any_eq_true.mpr ⟨c, hc, by rw [decide_eq_true hk, decide_eq_true hi]; rfl⟩
  unfold State.relayArrives
  rw [if_pos hany]
  have hself : ∀ t : State, ((t.modRelay e r.cap.toNat fun y => { y with arrived := some r }).relay e r.cap.toNat).arrived = some r :=
    fun t => by rw [State.modRelay_relay, if_pos rfl]
  refine s.forEach_reaches (fun t => (t.relay e r.cap.toNat).arrived = some r) he hself fun t b _ ht => ?_
  by_cases hb : e = b
  · exact hb ▸ hself t
  · exact (congrArg (fun x : Eng => (tblGet ({} : RelaySt) x.relays r.cap.toNat).arrived) (t.modEng_eng_other _ hb)).trans ht

theorem State.relayArrives_eng_other {es : List Island} (r : CapRel) {e : Island} (he : e ∉ es) :
    (s.relayArrives es r).eng e = s.eng e := by
  unfold State.relayArrives
  split
  · exact s.forEach_keeps (State.eng · e) es _ fun t b hb => t.modEng_eng_other _ fun heq => he (heq ▸ hb)
  · rfl

/-! #### CAPREL, GSTAT and SIGMA -/

theorem State.heard_silent (d : Nat) : tblGet 0 (s.heard d).link.silent d = 0 := tblGet_tblSet_same ..

theorem State.heard_frame {s t : State} (d : Nat) :
    ({ s.heard d with link := t.link, recd := t.recd } : State) = { s with link := t.link, recd := t.recd } := rfl

/-- The records that the leader repeats once `b` has arrived (R291). -/
def State.repeats (s : State) (b : List Byte) : List (List Byte) := if s.isLeader then s.link.relayOut ++ [b] else s.link.relayOut

theorem State.repeatRecord_eq (b : List Byte) : s.repeatRecord b = s.modLink fun x => { x with relayOut := s.repeats b } := by
  unfold State.repeatRecord State.repeats
  split <;> rfl

theorem State.LinkHeard.repeats {s t : State} (h : s.LinkHeard t) (d : Nat) (b : List Byte) : (t.heard d).repeats b = s.repeats b := by
  obtain ⟨tbl, pb, rc, rfl⟩ := h
  unfold State.repeats
  rfl

section
variable {s} {d : Fin 8} {r : CapRel} {f : Frame} {start : Int}

theorem State.completes_linkCaprel (hin : (s.linkArrives (s.linkSender d.val) f start).1 = true)
    (hrec : capRelBytes r ∈ linkRecs f.payload) : Completes (.linkCaprel d r f start) s fun t =>
      tblGet 0 t.link.silent d.val = 0 ∧ t.link.relayOut = s.repeats (capRelBytes r) ∧
      (∀ e, ∀ c ∈ s.sep.kin.caps, c.kind = 4 → c.index = r.cap.toNat → (t.relay e r.cap.toNat).arrived = some r) ∧
      (∀ e, { t.eng e with relays := (s.eng e).relays } = s.eng e) ∧
      { t with sep := { t.sep with m := s.sep.m, w := s.sep.w }, link := s.link, recd := s.recd } = s := by
  have hexec : exec (.linkCaprel d r f start) s =
      .next ((s.linkArrives (s.linkSender d.val) f start).2.caprelOp d.val r) := by
    simp only [exec, execLinkCaprel, List.contains_iff_mem.mpr hrec, hin, Bool.not_true, Bool.false_eq_true, if_false, if_true]
  obtain ⟨tbl, pb, rc, ht⟩ := s.linkHeard_linkArrives (s.linkSender d.val) f start
  rw [State.caprelOp, State.repeatRecord_eq, (s.linkHeard_linkArrives _ f start).repeats, ht] at hexec
  let u := (({ s with link := { s.link with rx := tbl, portB := pb }, recd := rc } : State).heard d.val).modLink fun x =>
    { x with relayOut := s.repeats (capRelBytes r) }
  have honly := u.relaysOnly_relayArrives [.madder, .woad] r
  have hlink : (u.relayArrives [.madder, .woad] r).link = u.link := (congrArg State.link honly.frame :)
  refine ⟨u.relayArrives [.madder, .woad] r, hexec, ?_, congrArg LinkSt.relayOut hlink, fun e => ?_, honly.engines,
    (congrArg (fun v : State => { v with link := s.link, recd := s.recd }) honly.frame :)⟩
  · rw [hlink]
    exact tblGet_tblSet_same ..
  · exact u.relayArrives_taken (by cases e <;> decide)

theorem State.dropped_linkCaprel (h : capRelBytes r ∉ linkRecs f.payload ∨
    (s.linkArrives (s.linkSender d.val) f start).1 = false ∧
      ((s.linkArrives (s.linkSender d.val) f start).2.linkRx (s.linkSender d.val)).frame ≠ some f) :
    exec (.linkCaprel d r f start) s = .next (s.linkArrives (s.linkSender d.val) f start).2 := by
  simp only [exec, execLinkCaprel]
  by_cases hrec : capRelBytes r ∈ linkRecs f.payload
  · obtain ⟨hin, hframe⟩ := h.resolve_left (not_not_intro hrec)
    simp only [List.contains_iff_mem.mpr hrec, hin, hframe, Bool.not_true, Bool.false_eq_true, if_false]
  · have hno : (linkRecs f.payload).contains (capRelBytes r) = false := by rwa [← Bool.not_eq_true, List.contains_iff_mem]
    simp only [hno, Bool.not_false, if_true]

theorem State.completes_linkCaprel_partial (hrec : capRelBytes r ∈ linkRecs f.payload)
    (hin : (s.linkArrives (s.linkSender d.val) f start).1 = false)
    (hframe : ((s.linkArrives (s.linkSender d.val) f start).2.linkRx (s.linkSender d.val)).frame = some f) :
    let es := ((s.linkArrives (s.linkSender d.val) f start).2.linkRx (s.linkSender d.val)).islands
    Completes (.linkCaprel d r f start) s fun t =>
      (∀ e ∈ es, ∀ c ∈ s.sep.kin.caps, c.kind = 4 → c.index = r.cap.toNat → (t.relay e r.cap.toNat).arrived = some r) ∧
      (∀ e, e ∉ es → t.eng e = s.eng e) ∧ (∀ e, { t.eng e with relays := (s.eng e).relays } = s.eng e) ∧
      t.link.relayOut = s.link.relayOut ∧
      { t with sep := { t.sep with m := s.sep.m, w := s.sep.w }, link := s.link, recd := s.recd } = s := by
  intro es
  have hexec : exec (.linkCaprel d r f start) s =
      .next ((s.linkArrives (s.linkSender d.val) f start).2.relayArrives es r) := by
    simp only [exec, execLinkCaprel, List.contains_iff_mem.mpr hrec, hin, hframe, Bool.not_true, Bool.false_eq_true, if_false, if_true,
      es]
  clear_value es
  obtain ⟨tbl, pb, rc, ht⟩ := s.linkHeard_linkArrives (s.linkSender d.val) f start
  rw [ht] at hexec
  let u : State := { s with link := { s.link with rx := tbl, portB := pb }, recd := rc }
  have honly := u.relaysOnly_relayArrives es r
  exact ⟨u.relayArrives es r, hexec, fun e he => u.relayArrives_taken he, fun e he => u.relayArrives_eng_other r he, honly.engines,
    (congrArg (fun v : State => v.link.relayOut) honly.frame :),
    (congrArg (fun v : State => { v with link := s.link, recd := s.recd }) honly.frame :)⟩

variable {g : GStat} {grp : Word16} {w : Word}

theorem State.completes_linkGstat (hin : (s.linkArrives (s.linkSender d.val) f start).1 = true)
    (hrec : gstatOf g ∈ linkRecs f.payload) : Completes (.linkGstat d g f start) s fun t =>
      tblGet 0 t.link.silent d.val = 0 ∧ { t with link := s.link, recd := s.recd } = s ∧
      tblGet {} t.link.gstatNew g.group.toNat = { state := g.state.toNat, flags := g.flags, first := g.first } ∧
      t.link.gstat = s.link.gstat := by
  have hexec : exec (.linkGstat d g f start) s = _ := congrArg Host.Outcome.next (State.viaLink_of_counts hin hrec)
  obtain ⟨tbl, pb, rc, ht⟩ := s.linkHeard_linkArrives (s.linkSender d.val) f start
  rw [ht] at hexec
  exact ⟨_, hexec, tblGet_tblSet_same .., rfl, tblGet_tblSet_same .., rfl⟩

theorem State.completes_linkSigma (hin : (s.linkArrives (s.linkSender d.val) f start).1 = true)
    (hrec : sigmaBytes grp.toNat w.toNat ∈ linkRecs f.payload) : Completes (.linkSigma d grp w f start) s fun t =>
      tblGet 0 t.link.silent d.val = 0 ∧ { t with link := s.link, recd := s.recd } = s ∧
      tblGet 0 t.link.sigma grp.toNat = w.toNat ∧ t.link.relayOut = s.repeats (sigmaBytes grp.toNat w.toNat) := by
  have hexec : exec (.linkSigma d grp w f start) s = _ := congrArg Host.Outcome.next (State.viaLink_of_counts hin hrec)
  have harr := s.linkHeard_linkArrives (s.linkSender d.val) f start
  rw [State.repeatRecord_eq, harr.repeats] at hexec
  have hsilent := State.heard_silent (s.linkArrives (s.linkSender d.val) f start).2 d.val
  have hframe := (State.heard_frame d.val).trans harr.link_frame
  generalize State.heard _ d.val = u at hexec hsilent hframe
  exact ⟨_, hexec, hsilent, hframe, tblGet_tblSet_same .., rfl⟩

end

end Sys2Proof.Machine


/-! ### Commands forwarded over the cell link (R292) -/

namespace Sys2Proof.Machine
open Sys2Proof.Claims

/-! #### A member checks a command -/

/-- A command that a member has received and not yet judged. -/
def State.received (s : State) (seq : Nat) (effect : Word) (desc : List Byte) (c : Instr) : LinkCmdSt :=
  { seq := seq, cmd := c, effect := effect, tick := s.tick.no, desc := desc }

/-- The member's answer stands in its entries of sequence number `seq`. -/
def LinkCmdSt.answered (y : LinkCmdSt) (seq : Nat) (p : Nat × Word) : LinkCmdSt :=
  if y.hdr.isNone && y.seq = seq then { y with status := BitVec.ofNat 32 p.1, obj := p.2 } else y

theorem State.linkCmdOp_of_memberCmd {s : State} {seq : Nat} {effect : Word} {desc : List Byte} {h : Hdr} {c : Instr}
    (hc : s.memberCmd (descriptorOf desc) = some (h, c)) : ∃ p, s.linkCmdOp seq effect desc = s.modLink fun x =>
      { x with cmds := (x.cmds ++ [s.received seq effect desc c]).map (LinkCmdSt.answered · seq p) } := by
  unfold State.linkCmdOp
  rw [hc]
  exact ⟨_, rfl⟩

section
variable {s : State} {f : Frame} {start : Int} {seq : Word16}

/-- A record that counts acts, by the device whose frame brings it. -/
theorem State.viaLink_from {d e : Nat} {rec : List Byte} (k : State → State) (he : s.linkSender d = e)
    (hin : (s.linkArrives e f start).1 = true) (hrec : rec ∈ linkRecs f.payload) :
    s.viaLink d f start rec k = k (s.linkArrives e f start).2 := by
  subst he
  exact State.viaLink_of_counts hin hrec

theorem State.completes_linkCmd {w : Word} {desc : List Byte} {h : Hdr} {c : Instr} (hm : s.linkedMember = true)
    (hc : s.memberCmd (descriptorOf desc) = some (h, c)) (hin : (s.linkArrives 0 f start).1 = true)
    (hrec : cmdBytes seq.toNat w.toNat desc ∈ linkRecs f.payload) : Completes (.linkCmd seq w desc f start) s fun t =>
      { t with link := s.link, recd := s.recd } = s ∧ ∃ l ∈ t.link.cmds, l.seq = seq.toNat ∧ l.hdr = none ∧ l.cmd = c ∧
        l.effect = w ∧ l.tick = s.tick.no ∧ l.goSent = none ∧ l.desc = desc := by
  have hexec : exec (.linkCmd seq w desc f start) s = .next ((s.linkArrives 0 f start).2.linkCmdOp seq.toNat w desc) :=
    congrArg Host.Outcome.next ((if_pos hm).trans (State.viaLink_from _ State.linkSender_zero hin hrec))
  obtain ⟨tbl, pb, rc, ht⟩ := s.linkHeard_linkArrives 0 f start
  have hc' : (s.linkArrives 0 f start).2.memberCmd (descriptorOf desc) = some (h, c) := by
    rw [ht]
    exact hc
  obtain ⟨p, hop⟩ := State.linkCmdOp_of_memberCmd (seq := seq.toNat) (effect := w) hc'
  rw [hop, ht] at hexec
  refine ⟨_, hexec, rfl, (s.received seq.toNat w desc c).answered seq.toNat p,
    List.mem_map_of_mem (List.mem_append_right _ (List.mem_singleton_self _)), ?_⟩
  rw [LinkCmdSt.answered, if_pos (by simp [State.received])]
  exact ⟨rfl, rfl, rfl, rfl, rfl, rfl, rfl⟩

/-! #### The go -/

theorem State.completes_linkCmdgo {go : Word} (hm : s.isMember = true) (hin : (s.linkArrives 0 f start).1 = true)
    (hrec : cmdgoBytes seq.toNat go.toNat ∈ linkRecs f.payload) : Completes (.linkCmdgo seq go f start) s fun t =>
      { t with link := s.link, recd := s.recd } = s ∧
      (go = 1 → (∀ l ∈ s.link.cmds, l.hdr = none → l.seq = seq.toNat → { l with goSent := some true } ∈ t.link.cmds) ∧
        t.link.cmds.length = s.link.cmds.length) ∧
      (go ≠ 1 → ∀ l, l ∈ t.link.cmds ↔ l ∈ s.link.cmds ∧ ¬(l.hdr = none ∧ l.seq = seq.toNat)) := by
  have hexec : exec (.linkCmdgo seq go f start) s = .next ((s.linkArrives 0 f start).2.linkGoOp seq.toNat (go = 1)) :=
    congrArg Host.Outcome.next ((if_pos hm).trans (State.viaLink_from _ State.linkSender_zero hin hrec))
  obtain ⟨tbl, pb, rc, ht⟩ := s.linkHeard_linkArrives 0 f start
  rw [ht] at hexec
  refine ⟨_, hexec, rfl, fun hgo => ?_, fun hgo l => ?_⟩
  · subst hgo
    refine ⟨fun l hl hh hs => List.mem_map.mpr ⟨l, hl, ?_⟩, List.length_map _⟩
    rw [if_pos]
    rw [hh, decide_eq_true hs]
    rfl
  · simp only [State.linkGoOp, State.modLink, hgo, decide_false, Bool.false_eq_true, if_false, List.mem_filter, Bool.not_eq_true',
      Bool.and_eq_false_imp, Option.isNone_iff_eq_none, decide_eq_false_iff_not, not_and]

/-! #### The leader collects the answers -/

/-- The leader's own check, once no member's answer is missing. -/
def State.ownAnswer (s : State) (c : LinkCmdSt) (h : Hdr) (device : Nat) : Nat × Word :=
  if (c.waiting.filter fun d => d ≠ device).isEmpty && s.ownPart (descriptorOf c.desc).op h.obj then s.probe h c.cmd else (0, h.obj)

/-- A forwarded command once a member has answered. -/
def State.withAnswer (s : State) (c : LinkCmdSt) (h : Hdr) (device status : Nat) (obj : Word) : LinkCmdSt :=
  let ans := c.answers ++ ([(status, obj), s.ownAnswer c h device].filter fun p => p.1 ≠ 0)
  let r := (firstReject ((s.axesBelow h.obj).map (mkRef clsAxis)) ans).getD (0, h.obj)
  { c with waiting := c.waiting.filter fun d => d ≠ device, answers := ans, status := BitVec.ofNat 32 r.1, obj := r.2 }

theorem firstReject_nil (order : List Word) : firstReject order [] = none := by
  have h : (order.findSome? fun w => ([] : List (Nat × Word)).find? fun p => p.2 = w) = none :=
    List.findSome?_eq_none_iff.mpr fun _ _ => rfl
  rw [firstReject, h]
  rfl

variable {c : LinkCmdSt} {h : Hdr} {d : Fin 8} {w obj : Word}

theorem State.linkAckOp_shape (hfind : s.link.cmds.find? (fun c => c.hdr.isSome && c.seq = seq.toNat) = some c)
    (hh : c.hdr = some h) (hgo : c.goSent = none) (hd : d.val ∈ c.waiting) : ∃ l,
      s.linkAckOp d.val seq.toNat w.toNat obj = s.modLink (fun x => { x with cmds := l }) ∧
      s.withAnswer c h d.val w.toNat obj ∈ l := by
  have hmem := List.mem_of_find?_eq_some hfind
  have hwait : (c.goSent.isNone && c.waiting.contains d.val) = true := by
    rw [hgo, List.contains_iff_mem.mpr hd]
    rfl
  unfold State.linkAckOp
  simp only [hfind, hh, hwait, if_true]
  refine ⟨_, rfl, List.mem_map.mpr ⟨c, hmem, ?_⟩⟩
  rw [if_pos (by rw [hh, decide_eq_true rfl, decide_eq_true rfl]; rfl)]
  rfl

/-- The answered command stands in the leader's list; its own part is probed in `u`, as the frame leaves the state. -/
theorem State.completes_linkCmdack (hl : s.isLeader = true)
    (hfind : s.link.cmds.find? (fun c => c.hdr.isSome && c.seq = seq.toNat) = some c)
    (hh : c.hdr = some h) (hgo : c.goSent = none) (hd : d.val ∈ c.waiting)
    (hin : (s.linkArrives d.val f start).1 = true)
    (hrec : cmdackBytes seq.toNat w.toNat obj.toNat ∈ linkRecs f.payload) : Completes (.linkCmdack d seq w obj f start) s fun t =>
      { t with link := s.link, recd := s.recd } = s ∧ ∃ u : State, u.axesBelow h.obj = s.axesBelow h.obj ∧
        u.withAnswer c h d.val w.toNat obj ∈ t.link.cmds := by
  have hexec : exec (.linkCmdack d seq w obj f start) s =
      .next ((s.linkArrives d.val f start).2.linkAckOp d.val seq.toNat w.toNat obj) :=
    congrArg Host.Outcome.next ((if_pos hl).trans (State.viaLink_from _ (if_pos hl) hin hrec))
  obtain ⟨tbl, pb, rc, ht⟩ := s.linkHeard_linkArrives d.val f start
  rw [ht] at hexec
  let u : State := { s with link := { s.link with rx := tbl, portB := pb }, recd := rc }
  obtain ⟨l, hop, hmem⟩ := State.linkAckOp_shape (s := u) (w := w) (obj := obj) hfind hh hgo hd
  exact ⟨_, hexec.trans (congrArg Host.Outcome.next hop), rfl, u, rfl, hmem⟩

/-- What an answer makes of a command: it joins the rejecting ones, with the leader's own part where it was the last. -/
theorem State.withAnswer_spec (s : State) (c : LinkCmdSt) (h : Hdr) (device : Nat) (w obj : Word) :
    let y := s.withAnswer c h device w.toNat obj
    let rest := c.waiting.filter fun k => k ≠ device
    ∃ own, y = { c with waiting := rest, answers := y.answers, status := y.status, obj := y.obj } ∧
      y.answers = c.answers ++ (if w.toNat ≠ 0 then [(w.toNat, obj)] else []) ++ own ∧ (rest ≠ [] → own = []) ∧
      (y.answers = [] → y.status = 0) ∧
      ∀ p, firstReject ((s.axesBelow h.obj).map (mkRef clsAxis)) y.answers = some p → y.status = BitVec.ofNat 32 p.1 ∧ y.obj = p.2 := by
  intro y rest
  have hstatus : y.status = BitVec.ofNat 32 ((firstReject ((s.axesBelow h.obj).map (mkRef clsAxis)) y.answers).getD (0, h.obj)).1 := rfl
  have hobj : y.obj = ((firstReject ((s.axesBelow h.obj).map (mkRef clsAxis)) y.answers).getD (0, h.obj)).2 := rfl
  refine ⟨[s.ownAnswer c h device].filter fun p => p.1 ≠ 0, rfl, ?_, fun hrest => ?_, fun hnil => ?_, fun p hp => ?_⟩
  · have hans : y.answers = c.answers ++ ([(w.toNat, obj), s.ownAnswer c h device].filter fun p => p.1 ≠ 0) := rfl
    rw [hans, List.append_assoc, List.filter_cons]
    by_cases hw : w.toNat = 0
    · simp only [hw, ne_eq, not_true_eq_false, decide_false, Bool.false_eq_true, if_false, List.nil_append]
    · simp only [hw, ne_eq, not_false_eq_true, decide_true, if_true, List.cons_append, List.nil_append]
  · have hown : s.ownAnswer c h device = (0, h.obj) := if_neg fun hc => by
      rw [Bool.and_eq_true, List.isEmpty_iff] at hc
      exact hrest hc.1
    rw [hown]
    rfl
  · rw [hstatus, hnil, firstReject_nil]
    rfl
  · rw [hstatus, hobj, hp]
    exact ⟨rfl, rfl⟩

end

end Sys2Proof.Machine


/-! ### The member's side of the cell link (R277, R289, R293, R365) -/

namespace Sys2Proof.Machine
open Sys2Proof.Claims

variable (s : State)

/-! #### Cause TIME (Table 14.7) -/

/-- `s` with other causes and messages of interrupts. -/
def State.withIrq (s : State) (st : Word) (ms : Tbl Nat) (pba : Word) : State :=
  { s with host := { s.host with irqStatus := st, msiSent := ms, pba := pba } }

theorem State.raiseIrq_shape (k : Nat) : ∃ st ms pba, s.raiseIrq k = s.withIrq st ms pba := by
  refine ⟨(s.raiseIrq k).host.irqStatus, (s.raiseIrq k).host.msiSent, (s.raiseIrq k).host.pba, (s.raiseIrq_eq k).trans ?_⟩
  exact congrArg (fun h : HostIf => { s with host :=
    { h with irqStatus := (s.raiseIrq k).host.irqStatus, msiSent := (s.raiseIrq k).host.msiSent, pba := (s.raiseIrq k).host.pba } })
    (s.raiseIrq_host k)

/-- Another source of the time raises its cause; nothing else than interrupts changes. -/
theorem State.timeCause_shape (old : TimeSt) : ∃ st ms pba, s.timeCause old = s.withIrq st ms pba ∧
    (st.getLsbD 13 = true ∨ s.time.source = old.source) := by
  unfold State.timeCause
  split
  next h => exact ⟨_, _, _, rfl, .inr h.1⟩
  next =>
    obtain ⟨st, ms, pba, h⟩ := s.raiseIrq_shape 13
    refine ⟨st, ms, pba, h, .inl ?_⟩
    have hbit := s.raiseIrq_getLsbD (k := 13) (by decide)
    rw [h] at hbit
    exact hbit

/-! #### LINK_LOST (R293) -/

/-- The cell link as a member that has lost it keeps it. -/
def LinkSt.loses (x : LinkSt) : LinkSt :=
  { x with lost := true, joined := false, locked := false, run := 0, cmds := [], hopAge := none, echoOut := false }

/-- The time of a member that has lost its link: holdover. -/
def TimeSt.holdsOver (x : TimeSt) : TimeSt := { x with source := 2, slewing := false, alignSlew := false, remaining := 0 }

theorem State.completes_linkLost (hm : s.isMember = true) (hl : s.link.lost = false) (h4 : 4 ≤ s.link.missed) :
    Completes .linkLost s fun t => t.link = s.link.loses ∧ t.time = s.time.holdsOver ∧ t.tick = s.tick ∧
      Records { s with time := t.time } t evLinkLost s.devRef [] ∧
      (t.host.irqStatus.getLsbD 13 = true ∨ t.time.source = s.time.source) ∧
      { t with link := s.link, time := s.time, recd := s.recd
               host := { t.host with irqStatus := s.host.irqStatus, msiSent := s.host.msiSent, pba := s.host.pba } } = s := by
  let u : State := { s with link := s.link.loses, time := s.time.holdsOver }
  have hexec : exec .linkLost s = .next ((u.timeCause s.time).emit evLinkLost s.devRef []) :=
    congrArg Host.Outcome.next (if_pos (by rw [hm, hl, decide_eq_true h4]; rfl))
  obtain ⟨st, ms, pba, hirq, hcause⟩ := u.timeCause_shape s.time
  rw [hirq] at hexec
  exact ⟨_, hexec, rfl, rfl, rfl, State.records_emit (u.withIrq st ms pba) _ _ _, hcause, rfl⟩

/-! #### The grant (R279, R365) -/

theorem State.exec_linkGrantReceived {f : Frame} (hm : s.isMember = true) (hl : s.link.locked = true) (hok : s.linkOk true f = true) :
    exec (.linkGrantReceived f) s = .next (if s.grantsUs f && s.link.joinTick = some s.tick.no then (s.repeatDown f).linkGranted
      else s.repeatDown f) := by
  simp only [exec, execLinkGrantReceived, hm, hl, hok, Bool.and_self, Bool.not_true, Bool.false_eq_true, if_true, if_false]

/-- The time of a member that slews back to its leader's after LINK_LOST. -/
def State.rejoinTime (s : State) : TimeSt :=
  { s.time with source := 3, slewing := true, slewStart := s.now, alignSlew := false, remaining := s.link.error }

theorem State.linkGranted_shape : ∃ tbl st ms pba,
    s.linkGranted = ({ s with
      link := { s.link with joined := true, lost := false, missed := 0, rx := tbl }
      time := if s.link.lost then s.rejoinTime else s.time } : State).withIrq st ms pba ∧
    (st.getLsbD 13 = true ∨ (if s.link.lost then s.rejoinTime else s.time).source = s.time.source) := by
  unfold State.linkGranted
  extract_lets t
  cases hl : s.link.lost with
  | true =>
    obtain ⟨st, ms, pba, hirq, hcause⟩ := ({ t with time := s.rejoinTime } : State).timeCause_shape s.time
    exact ⟨_, st, ms, pba, hirq, hcause⟩
  | false => exact ⟨_, _, _, _, rfl, .inr rfl⟩

theorem State.completes_linkGranted {f : Frame} (hm : s.isMember = true) (hl : s.link.locked = true) (hok : s.linkOk true f = true)
    (hus : s.grantsUs f = true) (hjoin : s.link.joinTick = some s.tick.no) : Completes (.linkGrantReceived f) s fun t =>
      t.link.joined = true ∧ t.link.lost = false ∧ t.link.missed = 0 ∧
      t.time = (if s.link.lost then s.rejoinTime else s.time) ∧ t.tick = s.tick ∧
      (t.host.irqStatus.getLsbD 13 = true ∨ t.time.source = s.time.source) ∧
      { t with link := s.link, time := s.time
               host := { t.host with irqStatus := s.host.irqStatus, msiSent := s.host.msiSent, pba := s.host.pba } } = s := by
  have hexec := s.exec_linkGrantReceived hm hl hok
  obtain ⟨pb, -, hrep⟩ := s.repeatDown_eq hm f
  obtain ⟨tbl, st, ms, pba, hgrant, hcause⟩ := State.linkGranted_shape { s with link := { s.link with portB := pb } }
  rw [hus, decide_eq_true hjoin, Bool.and_self, if_pos rfl, hrep, hgrant] at hexec
  exact ⟨_, hexec, rfl, rfl, rfl, rfl, rfl, hcause, rfl⟩

theorem State.completes_linkGrant_repeated {f : Frame} (hm : s.isMember = true) (hl : s.link.locked = true)
    (hok : s.linkOk true f = true) (h : s.grantsUs f = false ∨ s.link.joinTick ≠ some s.tick.no) :
    Completes (.linkGrantReceived f) s fun t => f ∈ t.link.portB ∧ { t with link := { t.link with portB := s.link.portB } } = s := by
  have hexec := s.exec_linkGrantReceived hm hl hok
  obtain ⟨pb, hmem, hrep⟩ := s.repeatDown_eq hm f
  rw [if_neg (fun hc => ?_), hrep] at hexec
  · exact ⟨_, hexec, hmem, rfl⟩
  · rw [Bool.and_eq_true, decide_eq_true_eq] at hc
    exact h.elim (fun hg => Bool.false_ne_true (hg.symm.trans hc.1)) fun hj => hj hc.2

end Sys2Proof.Machine

/-! ### CYCLE_START at a member (R262, R263, R277, R365) -/

namespace Sys2Proof.Machine
open Sys2Proof.Claims

variable (s : State)

/-- The number of consistent CYCLE_START frames with this one (R277). -/
def State.cycleRun (s : State) (c : CycleStart) (arrival : Int) : Nat := if s.linkConsistent c arrival then s.link.run + 1 else 1

/-- The cell link once a CYCLE_START is heard, before the member takes its time from it. -/
def State.cycleLink (s : State) (c : CycleStart) (arrival : Int) (trip : Option Nat) : LinkSt :=
  let x := ({ s.link with
    run := s.cycleRun c arrival, lastCycle := some c.cycle, lastGen := c.gen, lastArrival := arrival, seen := true
    locked := decide (8 ≤ s.cycleRun c arrival) || s.link.locked, muted := bitN c.mute.toNat (s.dev - 1) } : LinkSt).echo trip
  { x with delay := linkDelay c x.hop }

theorem LinkSt.echo_hop_measured {x : LinkSt} (n : Nat) (h : x.echoOut = true) : (x.echo (some n)).hop = (n - 1600) / 2 :=
  if_pos (by rw [h]; rfl)

theorem LinkSt.echo_hop_kept {x : LinkSt} {trip : Option Nat} (h : trip = none ∨ x.echoOut = false) : (x.echo trip).hop = x.hop := by
  refine if_neg fun hc => ?_
  rw [Bool.and_eq_true] at hc
  rcases h with rfl | h
  · exact Bool.false_ne_true hc.2
  · exact Bool.false_ne_true (h.symm.trans hc.1)

/-! #### A locked member takes the leader's time -/

def State.adoptedError (s : State) (c : CycleStart) (arrival : Int) : Int :=
  if s.link.lost then s.linkError c arrival else s.link.error

/-- The member slews to the leader's time. -/
def State.slewsTo (s : State) (c : CycleStart) (arrival : Int) : TimeSt := { s.time with source := 3, remaining := s.linkError c arrival }

/-- The member sets its time to the leader's. -/
def State.setsTo (s : State) (c : CycleStart) : TimeSt :=
  { s.time with sec := c.t0Sec.toNat, ns := c.t0Ns.toNat, source := 3, remaining := 0 }

def State.adoptedTime (s : State) (c : CycleStart) (arrival : Int) : TimeSt :=
  if s.link.lost then s.time else if s.tick.selide || s.time.slewing then s.slewsTo c arrival else s.setsTo c

def State.adoptedTick (s : State) (c : CycleStart) : TickSt :=
  if s.link.lost || (s.tick.selide || s.time.slewing) then s.tick else { s.tick with cycle := c.cycle }

theorem State.adoptLink_eq (c : CycleStart) (arrival : Int) : s.adoptLink c arrival = { s with
    link := { s.link with error := s.adoptedError c arrival }, time := s.adoptedTime c arrival, tick := s.adoptedTick c } := by
  unfold State.adoptLink State.adoptedError State.adoptedTime State.adoptedTick
  cases s.link.lost with
  | true => rfl
  | false => cases s.tick.selide || s.time.slewing <;> rfl

/-! #### JOIN (R277) -/

theorem State.sendJoin_of_not_due {c : CycleStart} (h : s.joinDue c = false) : s.sendJoin c = s := if_neg (by rw [h]; nofun)

/-- `sel` is the node network of `s`, or has sent the JOIN that is due. -/
def State.JoinSent (s : State) (c : CycleStart) (jt : Option Nat) (sel : SelideSt) : Prop :=
  (s.joinDue c = true → jt = some s.tick.no ∧ ∃ g,
    (({ s with selide := sel } : State).trunk s.linkTrunk).sent = (s.trunk s.linkTrunk).sent ++ [g] ∧ g.hdr.ftype.toNat = ftJoin) ∧
  (s.joinDue c = false → sel = s.selide)

theorem State.sendJoin_shape (c : CycleStart) : ∃ jt ja sel,
    s.sendJoin c = { s with link := { s.link with joinTick := jt, joinAt := ja }, selide := sel } ∧ s.JoinSent c jt sel := by
  cases h : s.joinDue c with
  | false => exact ⟨_, _, _, s.sendJoin_of_not_due h, fun hd => absurd (h.symm.trans hd) Bool.false_ne_true, fun _ => rfl⟩
  | true =>
    refine ⟨_, _, _, if_pos h, fun _ => ⟨rfl, _, (congrArg TrunkSt.sent (s.modTrunk_trunk_self s.linkTrunk _) :), rfl⟩,
      fun hd => absurd (hd.symm.trans h) Bool.false_ne_true⟩

/-! #### The frame as a whole -/

/-- The member has heard a CYCLE_START. -/
def State.cycleHeard (s : State) (c : CycleStart) (arrival : Int) (trip : Option Nat) : State :=
  { s with link := s.cycleLink c arrival trip }

/-- Where it is locked, it has taken its time from it. -/
def State.cycleTaken (s : State) (c : CycleStart) (arrival : Int) (trip : Option Nat) : State :=
  let q := s.cycleLink c arrival trip
  let u := s.cycleHeard c arrival trip
  { s with
    link := { q with error := if q.locked then u.adoptedError c arrival else q.error }
    time := if q.locked then u.adoptedTime c arrival else s.time, tick := if q.locked then u.adoptedTick c else s.tick }

theorem State.linkCycleStartOp_eq (c : CycleStart) (arrival : Int) (trip : Option Nat) :
    s.linkCycleStartOp c arrival trip = ((s.cycleTaken c arrival trip).timeCause s.time).sendJoin c := by
  let u := s.cycleHeard c arrival trip
  have hop : s.linkCycleStartOp c arrival trip =
      if u.link.locked then ((u.adoptLink c arrival).timeCause s.time).sendJoin c else u := rfl
  have htaken : s.cycleTaken c arrival trip = { u with
    link := { u.link with error := if u.link.locked then u.adoptedError c arrival else u.link.error }
    time := if u.link.locked then u.adoptedTime c arrival else u.time
    tick := if u.link.locked then u.adoptedTick c else u.tick } := rfl
  rw [hop, htaken]
  cases hl : u.link.locked with
  | true =>
    simp only [if_true]
    rw [u.adoptLink_eq c arrival]
  | false =>
    simp only [Bool.false_eq_true, if_false]
    have hcause : u.timeCause s.time = u := if_pos ⟨rfl, rfl⟩
    have hdue : u.joinDue c = false := by simp only [State.joinDue, hl, Bool.false_and]
    exact ((congrArg (State.sendJoin · c) hcause).trans (u.sendJoin_of_not_due hdue)).symm

/-- What a CYCLE_START leaves of a member: it has taken its time, raised its cause, sent its JOIN and repeats the frame. -/
theorem State.completes_cycleTaken {f : Frame} {c : CycleStart} (arrival : Int) (trip : Option Nat) (hm : s.isMember = true)
    (hc : cycleStartOf s.linkTrunk (s.dev - 1) f = some c) : ∃ st ms pba jt ja sel pb,
      let u := s.cycleTaken c arrival trip
      let t : State := { u.withIrq st ms pba with
        link := { u.link with joinTick := jt, joinAt := ja, portB := pb }, selide := sel }
      exec (.linkCycleStart f arrival trip) s = .next t ∧ (st.getLsbD 13 = true ∨ u.time.source = s.time.source) ∧
      u.JoinSent c jt sel ∧ t.cycleRepeat f ∈ pb := by
  let u := s.cycleTaken c arrival trip
  obtain ⟨st, ms, pba, hirq, hcause⟩ := u.timeCause_shape s.time
  obtain ⟨jt, ja, sel, hjoin, hsent⟩ := (u.withIrq st ms pba).sendJoin_shape c
  let v : State := { u.withIrq st ms pba with link := { u.link with joinTick := jt, joinAt := ja }, selide := sel }
  have hv : s.linkCycleStartOp c arrival trip = v := by
    rw [s.linkCycleStartOp_eq, hirq, hjoin]
    rfl
  obtain ⟨pb, hmem, hrep⟩ := v.repeatDown_eq hm (v.cycleRepeat f)
  have hexec : exec (.linkCycleStart f arrival trip) s = .next (v.repeatDown (v.cycleRepeat f)) := by
    simp only [exec, execLinkCycleStart, hm, if_true, hc, hv]
  exact ⟨st, ms, pba, jt, ja, sel, pb, hexec.trans (congrArg Host.Outcome.next hrep), hcause, hsent, hmem⟩

end Sys2Proof.Machine


/-! ### What a CYCLE_START leaves of a member, and O41 -/

namespace Sys2Proof.Machine
open Sys2Proof.Claims

section
variable {s : State} {c : CycleStart} {arrival : Int} {trip : Option Nat}

theorem State.linkError_congr {t : State} (hsec : t.time.sec = s.time.sec) (hns : t.time.ns = s.time.ns)
    (hdelay : t.link.delay = s.link.delay) : t.linkError c arrival = s.linkError c arrival := by
  rw [State.linkError, State.linkError, State.cycleError, State.cycleError, hsec, hns, hdelay]

theorem State.cycleTaken_unlocked (h : (s.cycleLink c arrival trip).locked = false) :
    (s.cycleTaken c arrival trip).time = s.time ∧ (s.cycleTaken c arrival trip).tick = s.tick :=
  ⟨if_neg (by rw [h]; nofun), if_neg (by rw [h]; nofun)⟩

theorem State.cycleTaken_tick_no : (s.cycleTaken c arrival trip).tick.no = s.tick.no := by
  unfold State.cycleTaken State.adoptedTick
  dsimp only
  split
  · split <;> rfl
  · rfl

section
variable (h : (s.cycleLink c arrival trip).locked = true)
include h

theorem State.cycleTaken_time : (s.cycleTaken c arrival trip).time =
    if s.link.lost then s.time else if s.tick.selide || s.time.slewing then
      (s.cycleHeard c arrival trip).slewsTo c arrival else s.setsTo c := if_pos h

theorem State.cycleTaken_tick : (s.cycleTaken c arrival trip).tick =
    if s.link.lost || (s.tick.selide || s.time.slewing) then s.tick else { s.tick with cycle := c.cycle } := if_pos h

theorem State.cycleTaken_lost (hlost : s.link.lost = true) : (s.cycleTaken c arrival trip).time = s.time ∧
    (s.cycleTaken c arrival trip).link.error = (s.cycleTaken c arrival trip).linkError c arrival ∧
    (s.cycleTaken c arrival trip).tick = s.tick := by
  have htime := (State.cycleTaken_time h).trans (if_pos hlost)
  refine ⟨htime, ?_, (State.cycleTaken_tick h).trans (if_pos (by rw [hlost]; rfl))⟩
  exact ((if_pos h).trans (if_pos hlost)).trans
    (State.linkError_congr (s := s.cycleHeard c arrival trip) (congrArg TimeSt.sec htime) (congrArg TimeSt.ns htime) rfl).symm

theorem State.cycleTaken_slews (hlost : s.link.lost = false) (hs : s.tick.selide = true ∨ s.time.slewing = true) :
    (s.cycleTaken c arrival trip).time =
      { s.time with source := 3, remaining := (s.cycleTaken c arrival trip).linkError c arrival } ∧
    (s.cycleTaken c arrival trip).tick = s.tick := by
  have hor : (s.tick.selide || s.time.slewing) = true := (Bool.or_eq_true ..).mpr hs
  have htime := State.cycleTaken_time h
  rw [hlost, hor, if_neg Bool.false_ne_true, if_pos rfl] at htime
  have herror : (s.cycleTaken c arrival trip).linkError c arrival = (s.cycleHeard c arrival trip).linkError c arrival :=
    State.linkError_congr (congrArg TimeSt.sec htime :) (congrArg TimeSt.ns htime :) rfl
  rw [herror]
  exact ⟨htime, (State.cycleTaken_tick h).trans (if_pos (by rw [hor, Bool.or_true]))⟩

theorem State.cycleTaken_sets (hlost : s.link.lost = false) (ht : s.tick.selide = false) (hs : s.time.slewing = false) :
    (s.cycleTaken c arrival trip).tick = { s.tick with cycle := c.cycle } ∧ (s.cycleTaken c arrival trip).time = s.setsTo c := by
  have htime := State.cycleTaken_time h
  have htick := State.cycleTaken_tick h
  rw [hlost, ht, hs] at htime htick
  exact ⟨htick, htime⟩

end

end

/-- Settles O41: what a frame of the link leaves but for its record is kept of LINK frames alone, so each record's effect is read
off its own operation; a member takes a CYCLE_START by its lock, its loss of the link and whether Selide ticks are sent. -/
theorem cellLinkExchangesItsRecords : Obligations.CellLinkExchangesItsRecords := by
  unfold Obligations.CellLinkExchangesItsRecords
  intro s d r g grp seq w obj f start link repeated sender rx counts dropped taken relays irq
  have harr := s.linkHeard_linkArrives sender f start
  refine ⟨fun k x hnew hmute hok htype hsub hvalid hslot => State.linkArrives_accepts hnew hmute hok htype hsub hvalid hslot,
    fun ⟨hin, hrec⟩ => ?caprel, fun h => ⟨_, State.dropped_linkCaprel h, harr.frame⟩, fun hrec hin hframe => ?island,
    fun ⟨hin, hrec⟩ => State.completes_linkGstat hin hrec,
    fun h => ⟨_, congrArg Host.Outcome.next (State.viaLink_of_not_counts h), harr.frame⟩,
    fun ⟨hin, hrec⟩ => State.completes_linkSigma hin hrec,
    fun h => ⟨_, congrArg Host.Outcome.next (State.viaLink_of_not_counts h), harr.frame⟩,
    fun desc h c hm hc ⟨hin, hrec⟩ => State.completes_linkCmd hm hc hin hrec,
    fun go hm ⟨hin, hrec⟩ => State.completes_linkCmdgo hm hin hrec,
    fun c h hl hfind hh hgo hd ⟨hin, hrec⟩ => ?cmdack, fun hm hl h4 => ?lost, fun c arrival trip hm hc => ?cycle,
    fun arrival trip hm hc => ?discarded,
    fun hm hl hok => ⟨fun hus hjoin => ?granted, fun h => s.completes_linkGrant_repeated hm hl hok h⟩⟩
  case caprel => exact State.completes_linkCaprel hin hrec
  case island => exact State.completes_linkCaprel_partial hrec hin hframe
  case cmdack =>
    obtain ⟨t, hexec, hframe, u, horder, hmem⟩ := State.completes_linkCmdack (obj := obj) hl hfind hh hgo hd hin hrec
    have hspec := u.withAnswer_spec c h d.val w obj
    rw [horder] at hspec
    exact ⟨t, hexec, hframe, _, hmem, hspec⟩
  case lost =>
    obtain ⟨t, hexec, hlink, htime, htick, hrec, hcause, hframe⟩ := s.completes_linkLost hm hl h4
    exact ⟨t, hexec, congrArg LinkSt.lost hlink, congrArg LinkSt.joined hlink, congrArg LinkSt.locked hlink,
      congrArg LinkSt.cmds hlink, congrArg TimeSt.source htime, congrArg TimeSt.slewing htime, congrArg TimeSt.remaining htime, htick,
      hrec, hcause, (congrArg (fun v : State => { v with tick := s.tick }) hframe :)⟩
  case cycle =>
    obtain ⟨st, ms, pba, jt, ja, sel, pb, hexec, hcause, ⟨hjoin, hstill⟩, hmem⟩ := s.completes_cycleTaken arrival trip hm hc
    rw [State.cycleTaken_tick_no] at hjoin
    refine ⟨_, hexec, rfl, rfl, rfl, fun n hn he => ?_, LinkSt.echo_hop_kept, rfl, State.cycleTaken_unlocked,
      State.cycleTaken_lost, hjoin, hstill, hmem, State.cycleTaken_slews, State.cycleTaken_sets, hcause, rfl⟩
    subst hn
    exact LinkSt.echo_hop_measured n he
  case discarded =>
    have hexec : exec (.linkCycleStart f arrival trip) s = .next (s.frameError s.linkTrunk 0 0xFF none) := by
      simp only [exec, execLinkCycleStart, hm, if_true, hc]
    exact ⟨_, hexec, s.frameError_records _ _ _ _, rfl⟩
  case granted =>
    obtain ⟨t, hexec, hj, hl', hmiss, htime, htick, hcause, hframe⟩ := s.completes_linkGranted hm hl hok hus hjoin
    refine ⟨t, hexec, hj, hl', hmiss, fun hlost => htime.trans (if_pos hlost),
      fun hlost => htime.trans (if_neg (by rw [hlost]; nofun)), htick, hcause, ?_⟩
    exact (congrArg (fun v : State => { v with tick := s.tick, recd := s.recd }) hframe :)

end Sys2Proof.Machine

/-! ### Canonical memories (R309, R314, R402, R405) -/

namespace Sys2Proof.Machine
open Sys2Proof.Claims

/-- SCRATCH, the window and host memory are canonical. -/
structure HostIf.Canonical (h : HostIf) : Prop where
  scratch : cellsWf h.scratch = true
  window : cellsWf h.window = true
  hostMem : cellsWf h.hostMem = true

/-- The register files are canonical. -/
structure LaneRegs.Canonical (r : LaneRegs) : Prop where
  d : cellsWf r.d = true
  a : cellsWf r.a = true
  p : cellsWf r.p = true
  m : cellsWf r.m = true
  b : cellsWf r.b = true
  l : cellsWf r.l = true

/-- The memories and the register files of the pair are canonical. -/
structure PairSt.Canonical (x : PairSt) : Prop where
  pMem : cellsWf x.pMem = true
  xMem : cellsWf x.xMem = true
  yMem : cellsWf x.yMem = true
  regs : x.regs.Canonical

/-- Every pair is canonical. -/
def LanesSt.Canonical (x : LanesSt) : Prop := ∀ p, (tblGet {} x.pairs p).Canonical

/-- Every memory is canonical; it rests on the host interface and the lanes alone. -/
structure State.Canonical (s : State) : Prop where
  host : s.host.Canonical
  lanes : s.lanes.Canonical

theorem memoriesCanonical_iff {s : State} : MemoriesCanonical s ↔ s.Canonical := by
  refine ⟨fun ⟨hs, hw, hm, hp⟩ => ⟨⟨hs, hw, hm⟩, fun p => ?_⟩, fun ⟨⟨hs, hw, hm⟩, hp⟩ => ⟨hs, hw, hm, fun p => ?_⟩⟩
  · obtain ⟨hP, hX, hY, hd, ha, hp, hm, hb, hl⟩ := hp p
    exact ⟨hP, hX, hY, hd, ha, hp, hm, hb, hl⟩
  · obtain ⟨hP, hX, hY, hd, ha, hp, hm, hb, hl⟩ := hp p
    exact ⟨hP, hX, hY, hd, ha, hp, hm, hb, hl⟩

/-- What an outcome leaves is canonical. -/
def Out.Canonical (o : Out) : Prop := ∀ t, o = .next t → t.Canonical

theorem Out.Canonical.next {s : State} (hs : s.Canonical) : Out.Canonical (.next s) := fun t ht => by cases ht; exact hs

theorem Out.Canonical.fault {r : Fault} : Out.Canonical (.fault r) := fun _ h => nomatch h

theorem Out.Canonical.ite {p : Prop} [Decidable p] {o o' : Out} (h : o.Canonical) (h' : o'.Canonical) :
    Out.Canonical (if p then o else o') := by split <;> assumption

/-- The memories of the host interface. -/
def HostIf.memories (h : HostIf) : Cells 32 × Cells 8 × Cells 8 := (h.scratch, h.window, h.hostMem)

/-- The register files. -/
def LaneRegs.files (r : LaneRegs) : Cells 32 × Cells 80 × Cells 32 × Cells 32 × Cells 16 × Cells 16 :=
  (r.d, r.a, r.p, r.m, r.b, r.l)

/-- The memories of the pair. -/
def PairSt.memories (x : PairSt) : Cells 32 × Cells 32 × Cells 32 := (x.pMem, x.xMem, x.yMem)

/-- The parts of the state that hold memories. -/
def State.holders (s : State) : HostIf × LanesSt := (s.host, s.lanes)

theorem HostIf.Canonical.of_memories {h k : HostIf} (hs : h.Canonical) (hk : k.memories = h.memories) : k.Canonical := by
  obtain ⟨h1, h2, h3⟩ : k.scratch = h.scratch ∧ k.window = h.window ∧ k.hostMem = h.hostMem := by
    simpa [HostIf.memories] using hk
  exact ⟨h1 ▸ hs.scratch, h2 ▸ hs.window, h3 ▸ hs.hostMem⟩

theorem State.Canonical.of_holders {s t : State} (hs : s.Canonical) (ht : t.holders = s.holders) : t.Canonical := by
  obtain ⟨h1, h2⟩ : t.host = s.host ∧ t.lanes = s.lanes := by simpa [State.holders] using ht
  exact ⟨h1 ▸ hs.host, h2 ▸ hs.lanes⟩

theorem LaneRegs.canonical_fresh {mode : Word} : LaneRegs.Canonical { mode := mode } := ⟨rfl, rfl, rfl, rfl, rfl, rfl⟩

theorem PairSt.canonical_fresh : PairSt.Canonical {} := ⟨rfl, rfl, rfl, LaneRegs.canonical_fresh⟩

namespace State.Canonical

theorem ite {p : Prop} [Decidable p] {s t : State} (hs : s.Canonical) (ht : t.Canonical) : (if p then s else t).Canonical := by
  split <;> assumption

theorem foldl {α : Type} {f : State → α → State} {l : List α} {s : State} (hs : s.Canonical)
    (hf : ∀ t a, t.Canonical → (f t a).Canonical) : (l.foldl f s).Canonical :=
  List.foldlRecOn l f hs fun t ht a _ => hf t a ht

theorem forEach {α : Type} {f : State → α → State} {l : List α} {s : State} (hs : s.Canonical)
    (hf : ∀ t a, t.Canonical → (f t a).Canonical) : (s.forEach l f).Canonical := foldl hs hf

variable {s : State} (hs : s.Canonical)
include hs

/-- An update that leaves the host interface and the lanes. -/
theorem rest {t : State} (h : t.holders = s.holders) : t.Canonical := hs.of_holders h

theorem pair {p} : (s.pair p).Canonical := hs.lanes p

theorem modHostIf {f : HostIf → HostIf} (hf : ∀ h : HostIf, h.Canonical → (f h).Canonical) : (s.modHost f).Canonical :=
  ⟨hf _ hs.host, hs.lanes⟩

/-- An update of the host interface that leaves its memories. -/
theorem modHost {f} (h : (f s.host).memories = s.host.memories) : (s.modHost f).Canonical := ⟨hs.host.of_memories h, hs.lanes⟩

/-- An update of the lanes that leaves the pairs. -/
theorem modLanes {f} (h : (f s.lanes).pairs = s.lanes.pairs) : (s.modLanes f).Canonical :=
  ⟨hs.host, fun p => (congrArg (fun t => PairSt.Canonical (tblGet {} t p)) h).mpr (hs.lanes p)⟩

theorem modPair {p f} (hf : ∀ x : PairSt, x.Canonical → (f x).Canonical) : (s.modPair p f).Canonical := by
  refine ⟨hs.host, fun k => ?_⟩
  change (tblGet {} (tblMod {} s.lanes.pairs p f) k).Canonical
  rw [tblGet_tblMod]
  split
  · exact hf _ (hs.lanes p)
  · exact hs.lanes k

theorem asCurrent {k} {f : State → State} (hf : ∀ t, t.Canonical → (f t).Canonical) : (s.asCurrent k f).Canonical :=
  (hf _ (hs.modHost rfl)).modHost rfl

theorem modAxis {a f} : (s.modAxis a f).Canonical := ⟨hs.host, hs.lanes⟩
theorem modQueue {q f} : (s.modQueue q f).Canonical := ⟨hs.host, hs.lanes⟩
theorem modPort {p f} : (s.modPort p f).Canonical := ⟨hs.host, hs.lanes⟩
theorem modCmp {k f} : (s.modCmp k f).Canonical := ⟨hs.host, hs.lanes⟩
theorem modCan {k f} : (s.modCan k f).Canonical := ⟨hs.host, hs.lanes⟩
theorem modRing {r f} : (s.modRing r f).Canonical := ⟨hs.host.of_memories rfl, hs.lanes⟩
theorem modTick {f} : (s.modTick f).Canonical := ⟨hs.host, hs.lanes⟩
theorem modSafety {f} : (s.modSafety f).Canonical := ⟨hs.host, hs.lanes⟩
theorem modSep {f} : (s.modSep f).Canonical := ⟨hs.host, hs.lanes⟩
theorem modSolver {f} : (s.modSolver f).Canonical := ⟨hs.host, hs.lanes⟩
theorem modSelide {f} : (s.modSelide f).Canonical := ⟨hs.host, hs.lanes⟩
theorem modLink {f} : (s.modLink f).Canonical := ⟨hs.host, hs.lanes⟩
theorem modTime {f} : (s.modTime f).Canonical := ⟨hs.host, hs.lanes⟩
theorem modHealth {f} : (s.modHealth f).Canonical := ⟨hs.host, hs.lanes⟩
theorem modPower {f} : (s.modPower f).Canonical := ⟨hs.host, hs.lanes⟩
theorem modRec {f} : (s.modRec f).Canonical := ⟨hs.host, hs.lanes⟩
theorem modSupply {f} : (s.modSupply f).Canonical := ⟨hs.host, hs.lanes⟩
theorem modNode {n f} : (s.modNode n f).Canonical := ⟨hs.host, hs.lanes⟩
theorem modTrunk {t f} : (s.modTrunk t f).Canonical := ⟨hs.host, hs.lanes⟩
theorem modLogLane {l f} : (s.modLogLane l f).Canonical := ⟨hs.host, hs.lanes⟩
theorem modZone {z f} : (s.modZone z f).Canonical := ⟨hs.host, hs.lanes⟩
theorem modInput {i f} : (s.modInput i f).Canonical := ⟨hs.host, hs.lanes⟩
theorem modTp {i f} : (s.modTp i f).Canonical := ⟨hs.host, hs.lanes⟩
theorem modAxisSto {a f} : (s.modAxisSto a f).Canonical := ⟨hs.host, hs.lanes⟩
theorem modSls {g f} : (s.modSls g f).Canonical := ⟨hs.host, hs.lanes⟩
theorem modArm {g f} : (s.modArm g f).Canonical := ⟨hs.host, hs.lanes⟩
theorem modEng {e f} : (s.modEng e f).Canonical := by cases e <;> exact ⟨hs.host, hs.lanes⟩
theorem modPerson {e p f} : (s.modPerson e p f).Canonical := by cases e <;> exact ⟨hs.host, hs.lanes⟩
theorem modRelay {e i f} : (s.modRelay e i f).Canonical := by cases e <;> exact ⟨hs.host, hs.lanes⟩
theorem modDom {d f} : (s.modDom d f).Canonical := ⟨hs.host, hs.lanes⟩
theorem modEth {p f} : (s.modEth p f).Canonical := ⟨hs.host, hs.lanes⟩
theorem modClk {d f} : (s.modClk d f).Canonical := ⟨hs.host, hs.lanes⟩
theorem modSigma {g f} : (s.modSigma g f).Canonical := ⟨hs.host, hs.lanes⟩

end State.Canonical

end Sys2Proof.Machine

/-! ### Canonical register files (R309, R316, R345, R346) -/

namespace Sys2Proof.Machine

theorem cellsWf_foldl_write {w : Nat} {α : Type} (l : List α) (a : α → Nat) (v : α → BitVec w) {m : Cells w}
    (hm : cellsWf m = true) :
    cellsWf (l.foldl (fun m e => cellWrite m (a e) (v e)) m) = true :=
  List.foldlRecOn (motive := fun m => cellsWf m = true) l _ hm fun _ hm _ _ => cellsWf_write _ _ hm

theorem cellsWf_moveSpan {src dst : Cells 32} {a b n : Nat} (hd : cellsWf dst = true) : cellsWf (moveSpan src dst a b n) = true :=
  cellsWf_foldl_write _ _ _ (cellsFrom_filter _ hd)

namespace LaneRegs.Canonical

variable {r : LaneRegs} (hr : r.Canonical)
include hr

/-- An update that leaves the register files. -/
theorem rest {t : LaneRegs} (h : t.files = r.files) : t.Canonical := by
  obtain ⟨hd, ha, hp, hm, hb, hl⟩ : t.d = r.d ∧ t.a = r.a ∧ t.p = r.p ∧ t.m = r.m ∧ t.b = r.b ∧ t.l = r.l := by
    simpa [LaneRegs.files] using h
  exact ⟨hd ▸ hr.d, ha ▸ hr.a, hp ▸ hr.p, hm ▸ hr.m, hb ▸ hr.b, hl ▸ hr.l⟩

theorem writeD {k v} : LaneRegs.Canonical { r with d := cellWrite r.d k v } :=
  ⟨cellsWf_write _ _ hr.d, hr.a, hr.p, hr.m, hr.b, hr.l⟩
theorem setD {k v} : (r.setD k v).Canonical := hr.writeD
theorem setD64 {k v} : (r.setD64 k v).Canonical := hr.setD.setD
theorem setA {k v} : (r.setA k v).Canonical := ⟨hr.d, cellsWf_write _ _ hr.a, hr.p, hr.m, hr.b, hr.l⟩
theorem setAddr {i a space} : (r.setAddr i a space).Canonical := ⟨hr.d, hr.a, cellsWf_write _ _ hr.p, hr.m, hr.b, hr.l⟩
theorem setFlag {k v} : (r.setFlag k v).Canonical := hr.rest rfl
theorem stick {k v} : (r.stick k v).Canonical := by unfold LaneRegs.stick; split; exacts [hr.setFlag, hr]
theorem range {sat w v} : (r.range sat w v).Canonical := hr.setFlag.stick.stick
theorem zn {v} : (r.zn v).Canonical := hr.setFlag.setFlag
theorem codeA {sat w v} : (r.codeA sat w v).Canonical := hr.range.zn
theorem codeC {c} : (r.codeC c).Canonical := hr.setFlag
theorem codeF {v b} : (r.codeF v b).Canonical := hr.setFlag.zn.setFlag
theorem codeL {v} : (r.codeL v).Canonical := hr.zn.setFlag.setFlag
theorem codeK {v c} : (r.codeK v c).Canonical := hr.zn.setFlag
theorem codeM {sat v} : (r.codeM sat v).Canonical := hr.range.zn.stick
theorem codeM2 {sat v w} : (r.codeM2 sat v w).Canonical := hr.setFlag.stick.stick.setFlag.setFlag.stick
theorem putA {s k v} : (r.putA s k v).Canonical := hr.setD.codeA
theorem putL {k v} : (r.putL k v).Canonical := hr.setD.codeL
theorem putM {s an v} : (r.putM s an v).Canonical := hr.setA.codeM
theorem pend {l} : (r.pend l).Canonical := hr.rest rfl

theorem writeCr {c v} : (r.writeCr c v).Canonical := by
  cases c with
  | p i => exact ⟨hr.d, hr.a, cellsWf_write _ _ hr.p, hr.m, hr.b, hr.l⟩
  | m i => exact ⟨hr.d, hr.a, hr.p, cellsWf_write _ _ hr.m, hr.b, hr.l⟩
  | b i => exact ⟨hr.d, hr.a, hr.p, hr.m, cellsWf_write _ _ hr.b, hr.l⟩
  | l i => exact ⟨hr.d, hr.a, hr.p, hr.m, hr.b, cellsWf_write _ _ hr.l⟩
  | lc | mode | flags | bexp => exact hr.rest rfl

theorem control {c v} : (r.control c v).Canonical := by unfold LaneRegs.control; split; exacts [hr.writeCr, hr.rest rfl]

/-- What one round keeps of the register files, a fold keeps. -/
theorem foldl {α : Type} {f : LaneRegs → α → LaneRegs} {l : List α} (hf : ∀ t a, t.Canonical → (f t a).Canonical) :
    (l.foldl f r).Canonical :=
  List.foldlRecOn l f hr fun t ht a _ => hf t a ht

theorem commitPend : r.commitPend.Canonical :=
  foldl (foldl (hr.rest (t := { r with pendD := [], pendC := [], shadow := [] }) rfl) fun _ _ ht => ht.writeD)
    fun _ _ ht => ht.writeCr

theorem advance {f rep cyc} : (r.advance f rep cyc).Canonical := by
  unfold LaneRegs.advance
  dsimp only
  repeat' split
  all_goals exact hr.rest rfl

theorem vector {e} : (r.vector e).Canonical := hr.rest rfl
theorem backFrom {old} : (r.backFrom old).Canonical := hr.rest rfl

end LaneRegs.Canonical

/-! ### Canonical pairs (R301, R304, R330, R334, R342) -/

namespace PairSt.Canonical

variable {x : PairSt} (hx : x.Canonical)
include hx

/-- An update that leaves the memories and gives the pair canonical registers. -/
theorem withRegs {y : PairSt} (hr : y.regs.Canonical) (h : y.memories = x.memories) : y.Canonical := by
  obtain ⟨hP, hX, hY⟩ : y.pMem = x.pMem ∧ y.xMem = x.xMem ∧ y.yMem = x.yMem := by simpa [PairSt.memories] using h
  exact ⟨hP ▸ hx.pMem, hX ▸ hx.xMem, hY ▸ hx.yMem, hr⟩

theorem modRegs {f : LaneRegs → LaneRegs} (hf : ∀ w, w.Canonical → (f w).Canonical) : (x.modRegs f).Canonical :=
  hx.withRegs (hf _ hx.regs) rfl

theorem enter {st} : (x.enter st).Canonical := by
  refine hx.withRegs ?_ rfl
  show (if _ then _ else _ : LaneRegs).Canonical
  split
  · exact LaneRegs.canonical_fresh
  · exact hx.regs.rest rfl

/-- The pair that enters a state, with other fields than its registers and memories changed too. -/
theorem enters (st : Nat) {y : PairSt} (hr : y.regs = (x.enter st).regs) (h : y.memories = x.memories) : y.Canonical :=
  hx.withRegs (hr ▸ hx.enter.regs) h

theorem takeSpan {src : PairSt} {e} : (src.takeSpan x e).Canonical := by
  unfold PairSt.takeSpan
  split
  · exact ⟨hx.pMem, cellsWf_moveSpan hx.xMem, hx.yMem, hx.regs⟩
  · exact ⟨hx.pMem, hx.xMem, cellsWf_moveSpan hx.yMem, hx.regs⟩

theorem takeSpans {src : PairSt} {l : List Span} : (l.foldl src.takeSpan x).Canonical :=
  List.foldlRecOn l _ hx fun _ hy _ _ => hy.takeSpan

theorem takeCfg {src p k k'} : (x.takeCfg src p k k').Canonical := hx.withRegs hx.regs rfl

theorem writeCtl {slot lp} : (x.writeCtl slot lp).Canonical := ⟨hx.pMem, cellsWf_foldl_write _ _ _ hx.xMem, hx.yMem, hx.regs⟩

theorem copyOne {s : State} {a p k k'} : (s.copyOne a p k k' x).Canonical := by
  dsimp only [State.copyOne]
  refine writeCtl (takeCfg ?_)
  exact takeSpans hx

theorem copyPair {s : State} {held p} : (s.copyPair held p x).Canonical :=
  List.foldlRecOn held _ hx.takeSpans fun _ hy _ _ => hy.copyOne

theorem load {k : Kernel} : (k.load x).Canonical :=
  ⟨cellsWf_writeCells _ _ hx.pMem, cellsWf_writeCells _ _ hx.xMem, cellsWf_writeCells _ _ hx.yMem, hx.regs.rest rfl⟩

theorem fillSlot {k : Kernel} {slot} : (k.fillSlot slot x).Canonical :=
  ⟨hx.pMem, cellsWf_writeCells _ _ hx.xMem, cellsWf_writeCells _ _ hx.yMem, hx.regs⟩

theorem rebuilt {s : State} : (s.rebuilt x).Canonical :=
  load (x := { x with pMem := [], xMem := [], yMem := [] }) ⟨rfl, rfl, rfl, hx.regs⟩

theorem takeEvent : x.takeEvent.Canonical := by
  unfold PairSt.takeEvent
  split
  · split; exacts [hx.withRegs hx.regs.vector rfl, hx]
  · exact hx

theorem pairAfter {r : BistIn} {p} : (Machine.BistIn.pairAfter r p x).Canonical := by
  unfold Machine.BistIn.pairAfter
  repeat' split
  all_goals exact hx.withRegs hx.regs rfl

theorem repeats {k} : (x.repeats k).Canonical := hx.modRegs fun _ hw => hw.rest rfl

end PairSt.Canonical

/-! ### Operands of lane instructions (R320, R341, R342, R348) -/

/-- The address that a descriptor gives and where it leaves its pointer; none where R320 gives no address. -/
def LaneRegs.descMove (r : LaneRegs) (d : Desc) : Option (Nat × Nat) :=
  match d.mode with
  | .plain => some (r.addr d.ptr.val, r.addr d.ptr.val)
  | .postMod k => (r.reach d.ptr.val (cellRead r.m k.val).toInt).map fun q => (r.addr d.ptr.val, q)
  | .postConst k => (r.reach d.ptr.val (postK k.val)).map fun q => (r.addr d.ptr.val, q)
  | .offset k => (r.reach d.ptr.val k.val).map fun q => (q, r.addr d.ptr.val)

/-- The registers `w` once the descriptor's pointer has moved to `q`. -/
def LaneRegs.descMoved (r w : LaneRegs) (d : Desc) (q : Nat) : LaneRegs :=
  match d.mode with
  | .plain => w
  | .offset _ => w
  | _ => w.setAddr d.ptr.val q (r.space d.ptr.val)

theorem descAccess_none {c : LCtx} {d : Desc} {x : PairSt} (h : c.rd.descMove d = none) : descAccess c d x = .error .addr := by
  unfold descAccess
  unfold LaneRegs.descMove at h
  split at h
  · cases h
  all_goals simp_all

theorem descAccess_some {c : LCtx} {d : Desc} {x : PairSt} {a q : Nat} (h : c.rd.descMove d = some (a, q)) :
    descAccess c d x = .ok (c.rd.space d.ptr.val, a, x.modRegs fun w => c.rd.descMoved w d q) := by
  unfold LaneRegs.descMove at h
  unfold descAccess LaneRegs.descMoved
  split at h
  · cases h; simp_all [PairSt.modRegs]
  all_goals
    obtain ⟨q', hq, he⟩ := Option.map_eq_some_iff.mp h
    cases he
    simp_all [PairSt.modRegs]

/-- A load leaves the pair as it is. -/
theorem loadWord_pair {c : LCtx} {sp a : Nat} {x y : PairSt} {v : Word} (h : loadWord c sp a x = .ok (v, y)) : y = x := by
  unfold loadWord at h
  repeat' split at h
  all_goals cases h
  all_goals rfl

theorem load64_pair {c : LCtx} {sp a : Nat} {x y : PairSt} {v w : Word} (h : load64 c sp a x = .ok (v, w, y)) : y = x := by
  unfold load64 at h
  split at h
  · cases h
  · split at h
    · cases h
    · split at h
      · cases h
      · rename_i h1 _ _ _ h2
        cases h
        rw [loadWord_pair h2, loadWord_pair h1]

/-! ### Canonical pairs behind a lane instruction (R326, R349) -/

/-- The instruction leaves a canonical pair canonical. -/
def LaneFn.Keeps (f : LaneFn) : Prop := ∀ c x y, x.Canonical → f.eff c x = .ok y → y.Canonical

namespace PairSt.Canonical

variable {c : LCtx} {x y : PairSt} (hx : x.Canonical)
include hx

theorem descAccess {d : Desc} {sp a : Nat} (h : descAccess c d x = .ok (sp, a, y)) : y.Canonical := by
  cases hm : c.rd.descMove d with
  | none => rw [descAccess_none hm] at h; cases h
  | some p =>
    rw [descAccess_some (a := p.1) (q := p.2) hm] at h
    cases h
    refine hx.modRegs fun w hw => ?_
    unfold LaneRegs.descMoved
    split
    · exact hw
    · exact hw
    · exact hw.setAddr

theorem storeWord {sp a : Nat} {v : Word} (h : storeWord c sp a v x = .ok y) : y.Canonical := by
  unfold Machine.storeWord at h
  split at h
  · cases h
  · cases h
    dsimp only
    split
    · exact ⟨hx.pMem, cellsWf_write _ _ hx.xMem, hx.yMem, hx.regs.rest rfl⟩
    · exact ⟨hx.pMem, hx.xMem, cellsWf_write _ _ hx.yMem, hx.regs.rest rfl⟩

theorem operand32 {o : MOperand} {v : Int} {b : Option Nat} (h : operand32 c o x = .ok (v, b, y)) : y.Canonical := by
  unfold Machine.operand32 at h
  split at h
  · cases h; exact hx
  · split at h
    · cases h
    · split at h
      · cases h
      · rename_i hd _ _ _ hl
        cases h
        exact loadWord_pair hl ▸ hx.descAccess hd

theorem operandC {o : MOperand} {v w : Int} {b : Option Nat} (h : operandC c o x = .ok (v, w, b, y)) : y.Canonical := by
  unfold Machine.operandC at h
  split at h
  · split at h
    · cases h
    · cases h; exact hx
  · split at h
    · cases h
    · split at h
      · cases h
      · rename_i hd _ _ _ _ hl
        cases h
        exact load64_pair hl ▸ hx.descAccess hd

end PairSt.Canonical

namespace LaneFn

theorem keeps_regFn {f : LaneRegs → LaneRegs → LaneRegs} (hf : ∀ r w, w.Canonical → (f r w).Canonical) : (regFn f).Keeps := by
  rintro c x _ hx ⟨⟩
  exact hx.modRegs (hf c.rd)

theorem keeps_undefFn : undefFn.Keeps := fun _ _ _ _ h => nomatch h

theorem Keeps.guard {ok : Bool} {f : LaneFn} (hf : f.Keeps) : (guardFn ok f).Keeps := by
  unfold guardFn
  split
  · exact hf
  · exact fun _ _ _ _ h => nomatch h

theorem Keeps.sized {f : LaneFn} {i : LImm} (hf : f.Keeps) : (f.sized i).Keeps := hf

theorem keeps_macFn {k s an ox oy} : (macFn k s an ox oy).Keeps := by
  intro c x y hx h
  dsimp only [macFn] at h
  split at h
  · cases h
  · split at h
    · cases h
    · rename_i h1 _ _ _ _ h2
      split at h
      · cases h
        exact ((hx.operand32 h1).operand32 h2).modRegs fun _ hw => hw.setA.codeM
      · cases h

theorem keeps_cmacFn {conj k s an ox oy} : (cmacFn conj k s an ox oy).Keeps := by
  refine Keeps.guard fun c x y hx h => ?_
  dsimp only at h
  split at h
  · cases h
  · split at h
    · cases h
    · rename_i h1 _ _ _ _ _ h2
      split at h
      · cases h
        exact ((hx.operandC h1).operandC h2).modRegs fun _ hw => hw.setA.setA.codeM2
      · cases h

theorem keeps_dmacFn {s k1 a1 x1 y1 k2 a2 x2 y2} : (dmacFn s k1 a1 x1 y1 k2 a2 x2 y2).Keeps := by
  refine Keeps.guard fun c x y hx h => ?_
  dsimp only at h
  split at h
  · cases h
  · rename_i h1
    split at h
    · cases h
    · rename_i h2
      split at h
      · cases h
      · rename_i h3
        split at h
        · cases h
        · rename_i h4
          split at h
          · cases h
            exact ((((hx.operand32 h1).operand32 h2).operand32 h3).operand32 h4).modRegs fun _ hw => hw.setA.setA.codeM2
          · cases h

theorem keeps_moveFn {s n w} {put : LaneRegs → Int → LaneRegs} {an : Nat} (hp : ∀ r v, r.Canonical → (put r v).Canonical) :
    (moveFn s n w put an).Keeps := by
  refine keeps_regFn fun r t ht => ?_
  split
  · exact (hp _ _ ht).stick.control
  · exact (hp _ _ ht).codeA

theorem keeps_ldFn {d e} : (ldFn d e).Keeps := by
  intro c x y hx h
  dsimp only [ldFn] at h
  split at h
  · cases h
  · rename_i h1
    split at h
    · cases h
    · rename_i h2
      cases h
      exact (loadWord_pair h2 ▸ hx.descAccess h1).modRegs fun _ hw => hw.pend

theorem keeps_stFn {d e} : (stFn d e).Keeps := by
  intro c x y hx h
  dsimp only [stFn] at h
  split at h
  · cases h
  · rename_i h1
    exact (hx.descAccess h1).storeWord h

theorem keeps_ld64Fn {d e} : (ld64Fn d e).Keeps := by
  refine Keeps.guard fun c x y hx h => ?_
  dsimp only at h
  split at h
  · cases h
  · rename_i h1
    split at h
    · cases h
    · rename_i h2
      cases h
      exact (load64_pair h2 ▸ hx.descAccess h1).modRegs fun _ hw => hw.pend

theorem keeps_st64Fn {d e} : (st64Fn d e).Keeps := by
  refine Keeps.guard fun c x y hx h => ?_
  dsimp only at h
  split at h
  · cases h
  · rename_i h1
    split at h
    · cases h
    · split at h
      · cases h
      · rename_i h2
        exact ((hx.descAccess h1).storeWord h2).storeWord h

theorem keeps_pldFn {d1 e1 d2 e2} : (pldFn d1 e1 d2 e2).Keeps := by
  refine Keeps.guard fun c x y hx h => ?_
  dsimp only at h
  split at h
  · cases h
  · rename_i h1
    split at h
    · cases h
    · rename_i h2
      split at h
      · cases h
      · rename_i h3
        split at h
        · cases h
        · rename_i h4
          split at h
          · cases h
          · cases h
            exact (loadWord_pair h4 ▸ (loadWord_pair h2 ▸ hx.descAccess h1).descAccess h3).modRegs fun _ hw => hw.pend

theorem keeps_modFn {i m} : (modFn i m).Keeps := by
  intro c x y hx h
  dsimp only [modFn] at h
  split at h
  · cases h; exact hx.modRegs fun _ hw => hw.setAddr
  · cases h

theorem keeps_callFn {b t} : (callFn b t).Keeps := by
  intro c x y hx h
  dsimp only [callFn] at h
  repeat' split at h
  all_goals cases h
  all_goals exact hx.modRegs fun _ hw => hw.rest rfl

theorem keeps_retFn {b} : (retFn b).Keeps := by
  intro c x y hx h
  dsimp only [retFn] at h
  repeat' split at h
  all_goals cases h
  all_goals exact hx.modRegs fun _ hw => hw.rest rfl

theorem keeps_brFn {b t} : (brFn b t).Keeps := by
  rintro c x _ hx ⟨⟩
  exact hx.modRegs fun _ hw => hw.rest rfl

theorem keeps_rptFn {n} : (rptFn n).Keeps := by
  refine Keeps.guard ?_
  rintro c x _ hx ⟨⟩
  exact hx.modRegs fun _ hw => hw.rest rfl

theorem keeps_waitFn : waitFn.Keeps := by
  intro c x y hx h
  dsimp only [waitFn] at h
  split at h
  · cases h
  · cases h; exact hx.modRegs fun _ hw => hw.rest rfl

/-- Every lane instruction keeps its pair canonical; a command that is no lane instruction performs none. -/
theorem keeps_laneFn (i : Instr) : ((laneFn i).getD undefFn).Keeps := by
  cases i
  all_goals dsimp only [laneFn, Option.getD_some, Option.getD_none]
  case add | sub => exact keeps_regFn fun _ _ hw => hw.putA.codeC
  case addi => exact (keeps_regFn fun _ _ hw => hw.putA.codeC).sized
  case abs | neg | ash | ashi | mpyr => exact keeps_regFn fun _ _ hw => hw.putA
  case and | or | xor | min | max | lsh | mov | lshi => exact keeps_regFn fun _ _ hw => hw.putL
  case andi | ori | xori => exact (keeps_regFn fun _ _ hw => hw.putL).sized
  case cmp => exact keeps_regFn fun _ _ hw => hw.codeF
  case cmpi => exact (keeps_regFn fun _ _ hw => hw.codeF).sized
  case tst => exact keeps_regFn fun _ _ hw => hw.codeL
  case clip => exact keeps_regFn fun _ _ hw => hw.setD.codeK
  case add64 | sub64 => exact (keeps_regFn fun _ _ hw => hw.setD64.codeA.codeC).guard
  case ldi => exact (keeps_regFn fun _ _ hw => hw.setD).sized
  case mac | msu | mpy | mpyn => exact keeps_macFn
  case cmac | cmsu | cmpy | cmpyn | cmacc | cmsuc | cmpyc | cmpync => exact keeps_cmacFn
  case dualMac => exact keeps_dmacFn
  case mvad => exact keeps_moveFn fun _ _ hr => hr.setD
  case mvad64 => exact (keeps_moveFn fun _ _ hr => hr.setD64).guard
  case mvda => exact keeps_regFn fun _ _ hw => hw.setA.codeL
  case clra | mvaa => exact keeps_regFn fun _ _ hw => hw.setA
  case adda | suba | nega | absa | sha | rnda => exact keeps_regFn fun _ _ hw => hw.putM
  case ld => exact keeps_ldFn
  case st => exact keeps_stFn
  case ld64 => exact keeps_ld64Fn
  case st64 => exact keeps_st64Fn
  case pld => exact keeps_pldFn
  case mvc | ldc | ldcy | ldcp => exact keeps_regFn fun _ _ hw => hw.control
  case mvd => exact keeps_regFn fun _ _ hw => hw.writeD
  case modp | modi => exact keeps_modFn
  case br => exact keeps_brFn
  case call => exact keeps_callFn
  case ret => exact keeps_retFn
  case rpt => exact keeps_rptFn
  case wait => exact keeps_waitFn
  case nop => exact keeps_regFn fun _ _ hw => hw
  all_goals exact keeps_undefFn

end LaneFn

namespace PairSt.Canonical

variable {n : Nat} {f : LaneFn} (hf : f.Keeps) {x : PairSt} (hx : x.Canonical)
include hf hx

theorem laneOnce {rep : Bool} {lc : BitVec 11} {y : PairSt} (h : laneOnce n rep f lc x = .ok y) : y.Canonical :=
  hf _ _ _ (hx.modRegs fun _ hw => hw.commitPend) h

theorem laneRepeat {k : Nat} {lc : BitVec 11} : (laneRepeat n f k lc x).1.Canonical := by
  induction k generalizing lc x with
  | zero => exact hx
  | succ k ih =>
    unfold Machine.laneRepeat
    split
    · exact hx
    · rename_i h
      exact ih ((hx.laneOnce hf h).modRegs fun _ hw => hw.rest (by rfl))

theorem laneRun : (laneRun n f x).1.Canonical := by
  unfold Machine.laneRun
  split
  · exact hx
  · split
    · split
      · exact hx
      · rename_i h
        exact (hx.laneOnce hf h).modRegs fun _ hw => hw.advance
    · rename_i k _
      have hy := (hx.repeats (k := k)).laneRepeat (n := n) (k := k) (lc := x.regs.lc) hf
      split
      · rename_i h
        rw [h] at hy
        exact hy.modRegs fun _ hw => hw.setFlag
      · rename_i h
        rw [h] at hy
        exact hy.modRegs fun _ hw => hw.setFlag.advance

end PairSt.Canonical

theorem PairSt.Canonical.runStage {p : Fin 17} {budget fuel : Nat} {x : PairSt} (hx : x.Canonical) :
    (runStage p budget fuel x).1.Canonical := by
  induction fuel generalizing x with
  | zero => exact hx
  | succ k ih =>
    unfold Machine.runStage
    split
    · exact hx
    · have hy := hx.laneRun (n := p.val) (LaneFn.keeps_laneFn
        (decodeLane p (cellRead x.pMem x.regs.pc).toNat (cellRead x.pMem (x.regs.pc + 1)).toNat))
      dsimp only
      split
      · rename_i h; rw [h] at hy; exact hy
      · rename_i h
        rw [h] at hy
        split
        · exact hy
        · exact ih hy

theorem State.canonical_entryRegs {s : State} {a slot k p addr r} : (s.entryRegs a slot k p addr r).Canonical := by
  have key : ∀ {w : Nat} (l : List (BitVec w)), cellsWf (writeCells [] 0 l) = true := fun l => cellsWf_writeCells 0 l rfl
  constructor <;> dsimp only [State.entryRegs] <;> exact key _

end Sys2Proof.Machine

/-! ### Canonical memories: Ops -/

namespace Sys2Proof.Machine.State.Canonical

variable {s : State} (hs : s.Canonical)
include hs

theorem setParam {num idx v} : (s.setParam num idx v).Canonical := hs.rest rfl

theorem emitAt {code obj args stamp} : (s.emitAt code obj args stamp).Canonical := hs.modRec

theorem emit {code obj args} : (s.emit code obj args).Canonical := hs.emitAt

theorem raiseVector {k} : (s.raiseVector k).Canonical := .ite (hs.modHost rfl) (hs.modHost rfl)

theorem raiseIrq {k} : (s.raiseIrq k).Canonical := .ite hs (.ite (hs.modHost (by rfl)).raiseVector (hs.modHost rfl))

theorem timeCause {old} : (s.timeCause old).Canonical := .ite hs hs.raiseIrq

theorem winWrite {off l} : (s.winWrite off l).Canonical :=
  ⟨⟨hs.host.scratch, cellsWf_writeCells _ _ hs.host.window, hs.host.hostMem⟩, hs.lanes⟩

theorem complete {op h status obj result} : (s.complete op h status obj result).Canonical := by
  unfold State.complete
  exact modHost (.ite hs hs.modRing) rfl

theorem done {op h status} : (s.done op h status).Canonical := hs.complete

theorem begin {h} : (s.begin h).Canonical := by
  unfold State.begin
  exact hs.modHost rfl

theorem extWrite {pick f} : (s.extWrite pick f).Canonical := by
  unfold State.extWrite
  extract_lets t
  have ht : t.Canonical := hs.forEach fun _ _ ht => ht.modPair fun _ hx => hx.withRegs hx.regs rfl
  exact ht.rest rfl

theorem intakeWrite : s.intakeWrite.Canonical := hs.extWrite

theorem viewWrite {i} : (s.viewWrite i).Canonical := hs.extWrite

theorem shadowWrite : s.shadowWrite.Canonical := hs.extWrite

theorem cfgWrite {slots pick} : (s.cfgWrite slots pick).Canonical := hs.extWrite

end Sys2Proof.Machine.State.Canonical

/-! ### Canonical memories: Boot -/

namespace Sys2Proof.Machine.State.Canonical

variable {s : State} (hs : s.Canonical)
include hs

theorem setPhase {p} : (s.setPhase p).Canonical := .ite hs hs.emit.modPower

theorem setBoot {st} : (s.setBoot st).Canonical := .ite hs hs.modPower.raiseIrq

theorem bootFail {err} : (s.bootFail err).Canonical := hs.setBoot.modPower.setPhase

theorem internalReset : s.internalReset.Canonical :=
  ⟨⟨rfl, rfl, hs.host.hostMem⟩, fun _ => PairSt.canonical_fresh⟩

theorem execRailValid {r} : (execRailValid r s).Canonical := .next hs.modPower

theorem execPorstNLow {ns} : (execPorstNLow ns s).Canonical :=
  .next (.ite (internalReset (.ite (hs.rest rfl) hs)) (.ite (hs.rest rfl) hs))

theorem execInternalResetRelease : (execInternalResetRelease s).Canonical := .next (.ite hs.modPower hs)

theorem execStrapSense {samples} : (execStrapSense samples s).Canonical := .next (.ite hs hs.modPower)

theorem syncIdentity : s.syncIdentity.Canonical := hs.winWrite

theorem execRomReady : (execRomReady s).Canonical := .next (.ite hs.setBoot.modTime.syncIdentity hs)

theorem bootClock : s.bootClock.Canonical := .ite hs (hs.rest (by rfl)).modTime

theorem loadFirmware : s.loadFirmware.Canonical := by
  dsimp only [State.loadFirmware]
  split
  · exact hs.setBoot.setBoot.modPower
  · exact hs.setBoot.bootFail

theorem execLoadFw : (execLoadFw s).Canonical := .next (.ite hs.bootClock.loadFirmware hs)

theorem firmwareStarts {f} : (s.firmwareStarts f).Canonical := by
  unfold State.firmwareStarts
  extract_lets t u v b
  have hv : v.Canonical := hs.setBoot.modPower.emit.forEach fun _ _ ht => .ite ht.emit ht
  clear_value v
  refine winWrite (syncIdentity (setPhase ?_))
  exact hv.rest rfl

theorem execFwRunning : (execFwRunning s).Canonical := by
  refine .next ?_
  split
  · exact .ite hs.bootClock.firmwareStarts hs
  · exact hs

theorem burnCustKey : s.burnCustKey.Canonical := .ite hs hs.setBoot.modPower

theorem execBurnCustKey : (execBurnCustKey s).Canonical := .next (.ite hs.bootClock.burnCustKey hs)

theorem burnVendorDisable : s.burnVendorDisable.Canonical := .ite hs.setBoot.modPower hs

theorem execBurnVendorDisable : (execBurnVendorDisable s).Canonical := .next (.ite hs.bootClock.burnVendorDisable hs)

theorem fuseDone {ok} : (s.fuseDone ok).Canonical := by
  unfold State.fuseDone
  extract_lets k t
  have ht : t.Canonical := hs.modPower
  exact .ite ht.setBoot.syncIdentity (syncIdentity (bootFail (ht.rest (by rfl))))

theorem execFuseWriteDone {readBackOk} : (execFuseWriteDone readBackOk s).Canonical := .next (.ite hs.bootClock.fuseDone hs)

theorem execPcieLinkUp : (execPcieLinkUp s).Canonical := .next (.ite hs (hs.modHost rfl))

theorem execBoundaryScanInstruction {i} : (execBoundaryScanInstruction i s).Canonical := .next hs.modPower

end Sys2Proof.Machine.State.Canonical

/-! ### Canonical memories: Motion -/

namespace Sys2Proof.Machine.State.Canonical

variable {s : State} (hs : s.Canonical)
include hs

theorem recordKept {q seg old new} : (s.recordKept q seg old new).Canonical := .ite hs.emit hs

theorem outcome {q seg oc} : (s.outcome q seg oc).Canonical := .ite hs (.ite hs.modQueue.emit hs.modQueue)

theorem outcomes {q l oc} : (s.outcomes q l oc).Canonical := hs.forEach fun _ _ ht => ht.outcome

theorem settleQueue {q} : (s.settleQueue q).Canonical := .ite (hs.forEach fun _ _ ht => ht.modAxis).modQueue hs

theorem releaseAxes {q axes} : (s.releaseAxes q axes).Canonical := (hs.forEach fun _ _ ht => ht.modAxis).modQueue.settleQueue

theorem dropQueue {q oc} : (s.dropQueue q oc).Canonical := by
  unfold State.dropQueue
  exact (releaseAxes (by split; exacts [hs.modQueue, hs.modQueue.outcome.outcomes])).modSupply

theorem markKept {axes k} : (s.markKept axes k).Canonical := hs.forEach fun _ _ ht => ht.modAxis

theorem retireHead {q g rest oc} : (s.retireHead q g rest oc).Canonical := hs.modQueue.outcome

omit hs in
theorem beginSegments {n q tau} {s : State} (hs : s.Canonical) : (State.beginSegments n s q tau).Canonical := by
  induction n generalizing s tau with
  | zero => exact hs
  | succ n ih =>
    unfold State.beginSegments
    split
    · exact hs
    · exact .ite (.ite hs.modQueue.modQueue.markKept (.ite (ih hs.modQueue.modQueue.markKept.retireHead)
        (.ite hs.modQueue.modQueue.markKept.retireHead.releaseAxes hs.modQueue.modQueue.markKept.retireHead)))
        hs.modQueue.dropQueue

theorem beginSegment {q tau0} : (s.beginSegment q tau0).Canonical := hs.beginSegments

theorem brakeQueue {halt q} : (s.brakeQueue halt q).Canonical := by
  dsimp only [State.brakeQueue]
  split
  · exact modQueue (.ite hs.outcomes.recordKept.markKept hs.outcomes.recordKept)
  · exact hs.dropQueue
  · exact hs

theorem haltQueue {q} : (s.haltQueue q).Canonical := hs.brakeQueue

theorem homeBrake {a} : (s.homeBrake a).Canonical := .ite hs.brakeQueue hs

theorem homeFail {a} : (s.homeFail a).Canonical := by
  unfold State.homeFail
  split
  · exact hs
  · exact hs.forEach fun _ _ ht => .ite ht.homeBrake ht.homeBrake.modAxis

theorem enableStages {axes} : (s.enableStages axes).Canonical := hs.forEach fun _ _ ht => ht.modAxis

theorem releaseEnable {h axes} : (s.releaseEnable h axes).Canonical := by
  unfold State.releaseEnable
  split
  · exact hs.complete
  · exact .ite hs.done hs.enableStages.done

theorem releaseReq {r} : (s.releaseReq r).Canonical := by
  unfold State.releaseReq
  split
  · exact hs.releaseEnable
  · exact hs.modNode.done
  · exact hs.beginSegment

theorem dropReq {blocked r} : (s.dropReq blocked r).Canonical := by
  dsimp only [State.dropReq]
  split
  · exact hs.emit.done
  · exact hs.emit.done
  · exact hs.emit.dropQueue.forEach fun _ _ ht => ht.homeFail

omit hs in
theorem supplyLoop {l blocked} {s : State} (hs : s.Canonical) : (s.supplyLoop l blocked).Canonical := by
  induction l generalizing s blocked with
  | nil => exact hs
  | cons r l ih =>
    unfold State.supplyLoop
    exact .ite (ih hs) (.ite (ih hs) (.ite (ih hs.modSupply.dropReq) (.ite (ih hs.modSupply.releaseReq) (ih hs))))

theorem supplyRefill : s.supplyRefill.Canonical := hs.forEach fun _ _ ht => ht.modSupply

theorem supplyTick : s.supplyTick.Canonical := hs.supplyRefill.supplyLoop

theorem joinSupply {k costs} : (s.joinSupply k costs).Canonical := .ite hs.modSupply.releaseReq hs.modSupply

theorem tryStart {q} : (s.tryStart q).Canonical := by
  unfold State.tryStart
  split
  · exact hs
  · exact .ite (hs.dropQueue.forEach fun _ _ ht => ht.homeFail) hs.modQueue.joinSupply

theorem holdEnd {g p tau} : (s.holdEnd g p tau).Canonical := hs.forEach fun _ _ ht => ht.modAxis

theorem endOne {q} : (s.endOne q).Canonical := by
  dsimp only [State.endOne]
  split
  · exact .ite hs.holdEnd.retireHead.beginSegment (.ite hs.holdEnd.retireHead.releaseAxes hs.holdEnd.retireHead)
  · exact hs

omit hs in
theorem endSegments {n q} {s : State} (hs : s.Canonical) : (State.endSegments n s q).Canonical := by
  induction n generalizing s with
  | zero => exact hs
  | succ n ih =>
    unfold State.endSegments
    exact .ite (ih hs.endOne) hs

theorem endSegment {q} : (s.endSegment q).Canonical := hs.endSegments

theorem advanceQueue {q} : (s.advanceQueue q).Canonical := by
  dsimp only [State.advanceQueue]
  split
  · exact .ite (modQueue (.ite hs.recordKept.markKept hs.recordKept)).endSegment (modQueue (.ite hs.recordKept.markKept
    hs.recordKept))
  · exact .ite hs.tryStart hs
  · exact hs.settleQueue

theorem supplyAndQueues : s.supplyAndQueues.Canonical := hs.supplyTick.forEach fun _ _ ht => .ite ht ht.advanceQueue

theorem stopQueue {q covered} : (s.stopQueue q covered).Canonical := by
  dsimp only [State.stopQueue]
  split
  · exact (hs.forEach fun _ _ ht => .ite ht ht.modAxis).dropQueue
  · exact hs.dropQueue

end Sys2Proof.Machine.State.Canonical

/-! ### Canonical memories: StopOps -/

namespace Sys2Proof.Machine.State.Canonical

variable {s : State} (hs : s.Canonical)
include hs

theorem stopAxisQueues {a covered} : (s.stopAxisQueues a covered).Canonical := by
  refine homeFail ?_
  split
  · exact hs.stopQueue
  · exact hs

theorem axisIntoSto {a} : (s.axisIntoSto a).Canonical := by
  unfold State.axisIntoSto
  exact hs.stopAxisQueues.modAxis.modSafety

theorem resetNeeded {r} : (s.resetNeeded r).Canonical := .ite (hs.forEach fun _ _ ht => ht.modAxisSto) hs

theorem pruneSs1 : s.pruneSs1.Canonical := hs.modSafety.forEach fun _ _ ht => ht.resetNeeded

theorem zoneIntoSto {z cause input late f} : (s.zoneIntoSto z cause input late f).Canonical :=
  (hs.modZone.emit.raiseIrq.forEach fun _ _ ht => ht.axisIntoSto).pruneSs1

theorem stopZoneBy {z cause input late f} : (s.stopZoneBy z cause input late f).Canonical := .ite hs (.ite hs.modZone
  hs.zoneIntoSto)

theorem stopZone {z cause input late} : (s.stopZone z cause input late).Canonical := hs.stopZoneBy

theorem stopAllZones {cause} : (s.stopAllZones cause).Canonical := hs.forEach fun _ _ ht => ht.stopZone

theorem setAxisSto {needReset a} : (s.setAxisSto needReset a).Canonical := .ite hs.modAxisSto hs.modAxisSto.axisIntoSto

theorem requestSs1 {axes scope obj cause t0 fromDemand} : (s.requestSs1 axes scope obj cause t0 fromDemand).Canonical :=
  hs.modSafety

theorem startSs1Axis {t0 covered a} : (s.startSs1Axis t0 covered a).Canonical := .ite hs hs.stopAxisQueues.modAxis.modSafety

theorem beginSs1 {r} : (s.beginSs1 r).Canonical := by
  unfold State.beginSs1
  extract_lets t u
  have hu : u.Canonical := by
    dsimp only [u]
    split
    · exact hs.modSafety.forEach fun _ _ ht => .ite ht ht.modZone.emit.raiseIrq
    · exact hs.modSafety
  exact (hu.forEach fun _ _ ht => ht.startSs1Axis).pruneSs1

theorem beginDueSs1 : s.beginDueSs1.Canonical := hs.forEach fun _ _ ht => ht.beginSs1

theorem ss1AllZones {cause t0} : (s.ss1AllZones cause t0).Canonical := hs.requestSs1

theorem noteFaultStop {axes} : (s.noteFaultStop axes).Canonical := hs.modHealth

theorem noteAllStopped : s.noteAllStopped.Canonical := hs.noteFaultStop

theorem faultSs1 {a} : (s.faultSs1 a).Canonical := hs.requestSs1

theorem ss1WithArms {axes obj t0} : (s.ss1WithArms axes obj t0).Canonical := hs.requestSs1

theorem latchFault {a} : (s.latchFault a).Canonical := hs.modAxis

theorem commLost {a cause} : (s.commLost a cause).Canonical := .ite hs.modAxis.emit hs

theorem feedbackFault {a code args} : (s.feedbackFault a code args).Canonical := (faultSs1 (.ite hs.latchFault.modAxis
  hs.latchFault.modAxis.commLost)).emit

end Sys2Proof.Machine.State.Canonical

/-! ### Canonical memories: Feedback -/

namespace Sys2Proof.Machine.State.Canonical

variable {s : State} (hs : s.Canonical)
include hs

theorem byLines {c onA onB both} (hA : ∀ t k, t.Canonical → (onA t k).Canonical) (hB : ∀ t k, t.Canonical → (onB t k).Canonical)
    (hAB : ∀ t k, t.Canonical → (both t k).Canonical) : (s.byLines c onA onB both).Canonical := by
  unfold State.byLines
  split
  · exact .ite (hAB _ _ hs) (.ite (hB _ _ (hA _ _ hs)) (hA _ _ (hB _ _ hs)))
  · exact hA _ _ hs
  · exact hB _ _ hs
  · exact hs

theorem portA {p a t} : (s.portA p a t).Canonical := hs.modPort

theorem portB {p b t} : (s.portB p b t).Canonical := hs.modPort

theorem portLines {p a b runA runB t} : (s.portLines p a b runA runB t).Canonical :=
  hs.byLines (fun _ _ ht => ht.portA) (fun _ _ ht => ht.portB) fun _ _ ht => ht.portA.portB

theorem setIllegal {a n} : (s.setIllegal a n).Canonical := hs.modAxis

theorem illegalLimit {p} : (s.illegalLimit p).Canonical := .ite (hs.forEach fun _ _ ht => ht.feedbackFault) hs

theorem quadIllegal {p} : (s.quadIllegal p).Canonical := (hs.modPort.forEach fun _ _ ht => ht.setIllegal).emit.illegalLimit

theorem quadStep {p isA t} : (s.quadStep p isA t).Canonical := hs.modPort

theorem quadBoth {p} : (s.quadBoth p).Canonical := .ite hs.modPort hs.quadIllegal

theorem quadEdgeOp {p a b runA runB t} : (s.quadEdgeOp p a b runA runB t).Canonical :=
  hs.byLines (fun _ _ ht => ht.portA.quadStep) (fun _ _ ht => ht.portB.quadStep) fun _ _ ht => ht.portA.portB.quadBoth

theorem execQuadEdge {port a b x} : (execQuadEdge port a b x s).Canonical := .next (.ite hs.quadEdgeOp hs.portLines)

theorem pulseStep {p t} : (s.pulseStep p t).Canonical := hs.modPort

theorem pulseStepOp {p a b runA runB t} : (s.pulseStepOp p a b runA runB t).Canonical :=
  hs.byLines (fun _ _ ht => ht.portA.pulseStep) (fun _ _ ht => ht.portB) fun _ _ ht => ht.portB.portA.pulseStep

theorem execPulseStep {port a b x} : (execPulseStep port a b x s).Canonical := .next (.ite hs.pulseStepOp hs.portLines)

theorem portZ {p t} : (s.portZ p t).Canonical := hs.modPort

theorem portIndexOp {p t} : (s.portIndexOp p t).Canonical := .ite hs.portZ (.ite hs.portZ.modPort hs.portZ.modPort)

theorem execPortIndexEvent {port x} : (execPortIndexEvent port x s).Canonical := by
  refine .next ?_
  split
  · exact hs
  · exact .ite hs (.ite hs.portIndexOp hs.portZ)

theorem ssiOp {p w} : (s.ssiOp p w).Canonical := .ite hs.modPort hs.modPort.emit

theorem execSsiTransfer {port w} : (execSsiTransfer port w s).Canonical := .next (.ite hs.ssiOp hs)

theorem ochreOp {p r} : (s.ochreOp p r).Canonical := by
  unfold State.ochreOp
  split
  all_goals
    exact .ite (emit (.ite (hs.rest (by rfl)).modPort (hs.rest (by rfl)).modPort.emit))
      (.ite (hs.rest (by rfl)).modPort (hs.rest (by rfl)).modPort.emit)

theorem execOchreResponse {port r} : (execOchreResponse port r s).Canonical := .next (.ite hs.ochreOp hs)

theorem execOchreNoResponse {port} : (execOchreNoResponse port s).Canonical := .next (.ite hs.modPort.emit hs)

theorem execOchreRequest {port} : (execOchreRequest port s).Canonical := .next (.ite hs.modPort hs)

theorem restartCount {a} : (s.restartCount a).Canonical := by
  unfold State.restartCount
  exact hs.modAxis.modEng.modEng

theorem portModeCommitted {p mode} : (s.portModeCommitted p mode).Canonical := hs.modPort.forEach fun _ _ ht =>
  ht.restartCount.setIllegal

theorem invalidSample {a cause T} : (s.invalidSample a cause T).Canonical := hs.modAxis.emit

theorem takeSample {a c cause T} : (s.takeSample a c cause T).Canonical := by
  unfold State.takeSample
  split
  · exact hs.invalidSample
  · exact .ite hs.modAxis (.ite hs.invalidSample hs.modAxis)

theorem takeLoad {a c} : (s.takeLoad a c).Canonical := by
  dsimp only [State.takeLoad]
  split
  · exact hs.modAxis
  · exact .ite hs.modAxis hs.modAxis

theorem nodeIndex {a word} : (s.nodeIndex a word).Canonical := .ite hs (.ite hs.emit hs.modAxis)

theorem portIndex {a p} : (s.portIndex a p).Canonical := by
  unfold State.portIndex
  split
  · exact hs.modAxis
  · exact hs

theorem thirdInvalid {a} : (s.thirdInvalid a).Canonical := .ite hs.modAxis.feedbackFault hs

theorem execEncFault {axis} : (execEncFault axis s).Canonical := .next hs.thirdInvalid

theorem fireCmp {k t e last} : (s.fireCmp k t e last).Canonical := .ite (modCmp (.ite hs.modCmp.emitAt hs.modCmp)).emitAt (.ite
  hs.modCmp.emitAt hs.modCmp)

theorem cmpPortOp {k t} : (s.cmpPortOp k t).Canonical := by
  dsimp only [State.cmpPortOp]
  split
  · exact .ite hs.fireCmp.modCmp hs
  · exact hs

theorem execCmpPortCrossing {cmp t} : (execCmpPortCrossing cmp t s).Canonical := .next (.ite hs.cmpPortOp hs)

theorem cmpFireOp {k t} : (s.cmpFireOp k t).Canonical := by
  unfold State.cmpFireOp
  split
  · exact .ite hs.modCmp.fireCmp hs
  · exact hs

theorem execCmpFire {cmp t} : (execCmpFire cmp t s).Canonical := .next (.ite hs.cmpFireOp hs)

theorem execCmpPulseEnd {cmp t} : (execCmpPulseEnd cmp t s).Canonical := .next (.ite hs.modCmp hs)

theorem cmpPredict {k} : (s.cmpPredict k).Canonical := .ite hs (hs.modCmp.forEach fun _ _ ht => ht.emit)

theorem cmpLatch {k written} : (s.cmpLatch k written).Canonical := hs.modCmp

theorem cmpLoadOp {h off count} : (s.cmpLoadOp h off count).Canonical := .ite hs.done hs.modCmp.done

theorem execCmpLoad {h winOffset count} : (execCmpLoad h winOffset count s).Canonical := .next hs.cmpLoadOp

end Sys2Proof.Machine.State.Canonical

/-! ### Canonical memories: LanePairs -/

namespace Sys2Proof.Machine.State.Canonical

variable {s : State} (hs : s.Canonical)
include hs

theorem toReserve {p} : (s.toReserve p).Canonical := hs.modPair fun _ hx => hx.enters lpTest rfl rfl

theorem nextReserve : s.nextReserve.Canonical :=
  .ite hs (by split; exacts [hs.modPair fun _ hx => hx.withRegs hx.regs rfl, hs])

theorem setSlot {l k a} : (s.setSlot l k a).Canonical := hs.modLogLane

theorem freeAxisSlot {a} : (s.freeAxisSlot a).Canonical := by
  unfold State.freeAxisSlot
  split
  · exact hs.setSlot
  · exact hs

theorem placeAxis {a} : (s.placeAxis a).Canonical := by
  dsimp only [State.placeAxis]
  exact .ite hs (by split; exacts [(hs.foldl fun _ _ ht => ht.setSlot).cfgWrite.modHealth, .ite hs hs.modHealth.emit])

theorem placeAll {fresh} : (s.placeAll fresh).Canonical := hs.foldl fun _ _ ht => ht.placeAxis

theorem copySlot {a p k l' k'} : (s.copySlot a p k l' k').Canonical := by
  unfold State.copySlot
  split
  · exact hs.modPair fun _ hx => hx.copyOne
  · exact hs

theorem startMove {h why a l' k'} : (s.startMove h why a l' k').Canonical := by
  unfold State.startMove
  split
  · refine (setSlot ?_).setSlot.modHealth
    split
    · exact hs.copySlot
    · exact hs
  · exact hs

theorem cancelMove {m} : (s.cancelMove m).Canonical := by
  dsimp only [State.cancelMove]
  split
  · exact hs.setSlot.setSlot.done
  · exact hs.setSlot.setSlot

theorem cancelMoves {l} : (s.cancelMoves l).Canonical := by
  refine (hs.modHealth.forEach fun _ _ ht => ?_).foldl fun _ _ ht => ht.cancelMove
  split
  · exact ht.toReserve
  · exact ht

theorem leaveDegraded {l target} : (s.leaveDegraded l target).Canonical := hs.modLogLane.emit

theorem endLoss {l} : (s.endLoss l).Canonical := by
  refine emit ?_
  split
  · exact hs.modLogLane.modLogLane
  · exact hs.modLogLane

theorem finishMoves : s.finishMoves.Canonical := by
  unfold State.finishMoves
  extract_lets ms t u lanes v
  have hu : u.Canonical := by
    refine hs.modHealth.foldl fun _ _ ht => ?_
    split
    · exact ht.emit.done
    · exact ht.emit
  exact (hu.forEach fun _ _ ht => ht.leaveDegraded).forEach fun _ _ ht => ht.endLoss

theorem migrateNow {h a l'} : (s.migrateNow h a l').Canonical := by
  unfold State.migrateNow
  extract_lets fin
  have hfin : ∀ st, (fin st).Canonical := fun st => by
    unfold fin
    split
    · exact hs.done
    · exact hs
  split
  · exact hfin _
  · refine .ite (hfin _) (.ite (hfin _) ?_)
    split
    · exact hfin _
    · exact .ite (hfin _) hs.startMove

theorem degBoundary {l} : (s.degBoundary l).Canonical := by
  unfold State.degBoundary
  extract_lets x choose
  refine .ite hs ?_
  split
  · refine .ite ?_ hs
    extract_lets t
    have ht : t.Canonical :=
      .ite (by split; exacts [hs.modPair fun _ hx => hx.enters s.laneState rfl rfl, hs]) hs
    split
    · extract_lets moved
      have hm : moved.Canonical := ht.foldl fun _ _ hu => hu.startMove
      exact .ite hm.leaveDegraded hm
    · exact hs.modLogLane
  · exact hs.modLogLane

theorem execLaneDegraded {lane} : (execLaneDegraded lane s).Canonical := .next (.ite hs.modLogLane.emit hs)

theorem enterDegradedLanes : s.enterDegradedLanes.Canonical := hs.forEach fun _ _ ht => .ite ht.modLogLane ht

theorem stopLane {l} : (s.stopLane l).1.Canonical := hs.ss1WithArms.noteFaultStop

theorem execDegradedExpired {lane} : (execDegradedExpired lane s).Canonical :=
  .next (.ite hs.stopLane.modLogLane.emit hs)

theorem planLanes : s.planLanes.Canonical := hs.forEach fun _ _ ht => .ite ht.modLogLane ht.modLogLane

theorem stopLaneSweeps {l} : (s.stopLaneSweeps l).Canonical := hs.modLanes rfl

theorem cancelled {l} : (s.cancelled l).Canonical := .ite hs.cancelMoves hs.cancelMoves.planLanes

theorem pairFails {p cause t} : (s.pairFails p cause t).Canonical := by
  unfold State.pairFails
  extract_lets x res lane s1 s2 s3
  clear_value lane
  have h1 : s1.Canonical := by dsimp only [s1]; split; exacts [hs.cancelled, hs]
  have h3 : s3.Canonical := raiseIrq (emit (h1.modPair fun _ hx => hx.enters lpRecover (by rfl) (by rfl)))
  refine .ite hs ?_
  split
  · exact h3
  · exact .ite h3 h3.stopLaneSweeps.modLogLane

theorem execLaneFailed {pair cause t} : (execLaneFailed pair cause t s).Canonical := .next hs.pairFails

theorem execReserveSelfTest {passed} : (execReserveSelfTest passed s).Canonical := by
  refine .next ?_
  split
  · exact .ite hs hs.pairFails
  · exact hs

theorem execLaneRecovered {pair passed} : (execLaneRecovered pair passed s).Canonical := by
  refine .next (.ite (.ite (raiseIrq (emit (toReserve ?_))) (raiseIrq (emit ?_))) hs)
  · exact hs.modPair fun x hx => PairSt.Canonical.withRegs (hx.rebuilt (s := s)) (hx.rebuilt (s := s)).regs rfl
  · exact hs.modPair fun _ hx => hx.enters lpRetired rfl rfl

theorem loseLane {l t} : (s.loseLane l t).Canonical := by
  unfold State.loseLane
  extract_lets x s1 host s2 r e s3 s4
  clear_value host
  have h2 : s2.Canonical := by dsimp only [s2]; split; exacts [hs.modLogLane.modLogLane, hs.modLogLane]
  have hr : r.1.Canonical := by
    refine List.foldlRecOn (motive := fun p : State × List (PlanMove × Nat) => p.1.Canonical) _ _ h2 fun p hp m _ => ?_
    split
    · exact hp.copySlot.setSlot.setSlot
    · exact hp
  exact .ite hr.modLogLane.emit.stopLane hr.modLogLane.emit

theorem execLaneLost {lane} : (execLaneLost lane s).Canonical := by
  refine .next ?_
  split
  · exact .ite hs.loseLane hs
  · exact hs

theorem execLaneLossExpired {lane} : (execLaneLossExpired lane s).Canonical :=
  .next (.ite hs.stopLane.modLogLane.emit hs)

theorem rehome {l p x} : (s.rehome l p x).Canonical := by
  unfold State.rehome
  extract_lets s1 s2
  have h2 : s2.Canonical := foldl (hs.modPair fun _ hx => hx.enters s.laneState rfl rfl) fun _ _ ht => .ite ht.startMove ht
  exact .ite h2.endLoss h2

theorem execLaneRehomed {lane} : (execLaneRehomed lane s).Canonical := by
  refine .next ?_
  split
  · exact .ite hs.rehome hs
  · exact hs

end Sys2Proof.Machine.State.Canonical

/-! ### Canonical memories: LaneIsa -/

namespace Sys2Proof.Machine.State.Canonical

variable {s : State} (hs : s.Canonical)
include hs

theorem userFault {a cause pc} : (s.userFault a cause pc).Canonical := (hs.modAxis.modLanes (by rfl)).emit.emit

theorem raiseEvent {p prio} : (s.raiseEvent p prio).Canonical :=
  hs.modPair fun _ hx => PairSt.Canonical.takeEvent (hx.withRegs hx.regs rfl)

theorem laneFault {p e} : (s.laneFault p e).Canonical := by
  unfold State.laneFault
  extract_lets x
  split
  · exact userFault (hs.modPair fun _ hx => hx.withRegs (hx.regs.rest (by rfl)) (by rfl))
  · exact pairFails (hs.modPair fun _ hx => hx.withRegs (hx.regs.rest (by rfl)) (by rfl))

theorem laneRow {p i} : (s.laneRow p i).Canonical := by
  unfold State.laneRow
  extract_lets x
  refine .ite ?_ hs
  have hy := (hs.pair (p := p)).laneRun (n := p) (LaneFn.keeps_laneFn i)
  split
  · rename_i h; rw [h] at hy; exact hs.modPair fun _ _ => hy.takeEvent
  · rename_i h; rw [h] at hy; exact laneFault (hs.modPair fun _ _ => hy)

end Sys2Proof.Machine.State.Canonical

/-! ### Canonical memories: SafetyFn -/

namespace Sys2Proof.Machine.State.Canonical

variable {s : State} (hs : s.Canonical)
include hs

theorem refreshSls {t} : (s.refreshSls t).Canonical := hs.forEach fun _ _ ht => .ite ht ht.modSls

theorem matrixSto {i t} : (s.matrixSto i t).Canonical := by
  dsimp only [State.matrixSto]
  split
  · exact hs.forEach fun _ _ ht => ht.stopZoneBy
  · exact hs

theorem inputActs {i t} : (s.inputActs i t).Canonical :=
  refreshSls (.ite (matrixSto (.ite hs.modInput.modRec hs.modInput)) (.ite hs.modInput.modRec hs.modInput))

theorem inputsAct : s.inputsAct.Canonical := hs.forEach fun _ _ ht => ht.inputActs

theorem inputsBegin : s.inputsBegin.Canonical := (hs.forEach fun _ _ ht => ht.modRec.modInput).inputsAct

theorem latchInput {i t disc} : (s.latchInput i t disc).Canonical := hs.modInput.inputActs

theorem siEdge {i p aDem bDem second fault reverted} : (s.siEdge i p aDem bDem second fault reverted).Canonical := .ite
  hs.modRec.emitAt hs.modRec

theorem siChange {i c v p t fault} : (s.siChange i c v p t fault).Canonical := by
  unfold State.siChange
  split
  · exact .ite hs (.ite hs.modRec.siEdge hs.modRec)
  · exact .ite (.ite hs.siEdge (.ite hs.siEdge hs)) (.ite hs.siEdge hs)

theorem siFault {i} : (s.siFault i).Canonical := by
  unfold State.siFault
  split
  · exact hs.siEdge
  · exact hs

theorem discrepancy {i t len} : (s.discrepancy i t len).Canonical := hs.emit.modInput.latchInput

theorem siQualifyOp {i c level t r} : (s.siQualifyOp i c level t r).Canonical :=
  .ite (modInput (.ite hs.modInput.siChange hs.modInput)).discrepancy (modInput (.ite hs.modInput.siChange
    hs.modInput)).inputActs

theorem execSiQualify {input chan level t} : (execSiQualify input chan level t s).Canonical := by
  refine .next ?_
  split
  · exact .ite hs hs.siQualifyOp
  · exact hs

theorem execSiDiscrepancy {input t} : (execSiDiscrepancy input t s).Canonical := by
  refine .next ?_
  split
  · exact .ite hs.siFault.discrepancy hs
  · exact hs

theorem setMasks {tp on till} : (s.setMasks tp on till).Canonical := hs.forEach fun _ _ ht => ht.modInput

theorem tpStart {tp t r} : (s.tpStart tp t r).Canonical := hs.modTp.setMasks

theorem execTpPulseStart {tp t} : (execTpPulseStart tp t s).Canonical := by
  refine .next ?_
  split
  · exact .ite hs.tpStart hs
  · exact hs

theorem tpEnd {tp t obs} : (s.tpEnd tp t obs).Canonical := by
  refine modTp (setMasks (hs.forEach fun _ _ ht => ?_))
  split
  · exact ht.emit.latchInput
  · exact ht

theorem execTpPulseEnd {tp t obs} : (execTpPulseEnd tp t obs s).Canonical := .next (.ite hs.tpEnd hs)

theorem tpOutFaultOp {tp} : (s.tpOutFaultOp tp).Canonical := hs.modTp.emit.forEach fun _ _ ht => ht.latchInput

theorem execTpOutFault {tp} : (execTpOutFault tp s).Canonical := .next hs.tpOutFaultOp

theorem channelFault {attributed} : (s.channelFault attributed).Canonical := .ite hs.noteAllStopped.modSafety.stopAllZones
  hs.modSafety

theorem attributeFault {e} : (s.attributeFault e).Canonical := hs.modSafety

theorem safeChannelFaultOp {item attributed} : (s.safeChannelFaultOp item attributed).Canonical :=
  hs.modSafety.emit.channelFault

theorem execSafeChannelFault {item attributed} : (execSafeChannelFault item attributed s).Canonical := .next (.ite
  hs.safeChannelFaultOp hs)

theorem execPinReadbackFault {island zone} : (execPinReadbackFault island zone s).Canonical := .next (.ite hs (emit (.ite
  hs.modZone hs.zoneIntoSto)).channelFault)

theorem enterDegraded : s.enterDegraded.Canonical := by
  unfold State.enterDegraded
  split
  · exact hs
  · split
    · exact hs.modSafety.inputsAct
    · refine forEach (forEach hs.modSafety.emit.inputsAct.refreshSls fun _ _ ht => ?_) fun _ _ ht => ht.homeFail
      split
      · exact .ite ht.outcomes.modQueue ht.dropQueue
      · exact ht

theorem execSafeDegExpired : (execSafeDegExpired s).Canonical := by
  refine .next ?_
  split
  · exact .ite hs.modSafety.emit.noteAllStopped.ss1AllZones hs
  · exact hs

theorem islandLostOp {e cause} : (s.islandLostOp e cause).Canonical := .ite hs.modSafety.emit.stopAllZones.inputsAct hs

theorem execIslandLost {island clock} : (execIslandLost island clock s).Canonical := .next hs.islandLostOp

theorem execRailInvalid {r ns} : (execRailInvalid r ns s).Canonical := by
  refine .next (.ite hs (.ite hs.modPower ?_))
  split
  · exact hs.modPower.islandLostOp
  · exact hs.modPower.islandLostOp
  · exact hs.modPower.internalReset

theorem execRefclkLoss : (execRefclkLoss s).Canonical := .next hs.modPower.stopAllZones

theorem execThermalTrip {island temp} : (execThermalTrip island temp s).Canonical := .next (.ite hs.modHealth.emit.ss1AllZones
  hs.modHealth)

theorem dropReq1 {id} : (s.dropReq1 id).Canonical := hs.modSafety

theorem overlapSto {t qs} : (s.overlapSto t qs).Canonical :=
  hs.forEach fun _ _ ht => by split; exacts [ht, (ht.forEach fun _ _ hu => hu.setAxisSto).resetNeeded]

theorem ss1Sto {r cause} : (s.ss1Sto r cause).Canonical := by
  unfold State.ss1Sto
  split
  · exact (hs.forEach fun _ _ ht => ht.stopZone).dropReq1
  · exact (hs.forEach fun _ _ ht => ht.setAxisSto).resetNeeded.dropReq1.pruneSs1

theorem breachRecord {e r} : (s.breachRecord e r).Canonical := by
  unfold State.breachRecord
  split
  · exact hs.emit
  · exact hs

theorem execSs1Breach {request island} : (execSs1Breach request island s).Canonical := by
  refine .next ?_
  split
  · exact .ite (overlapSto (ss1Sto (.ite hs.breachRecord.breachRecord hs.breachRecord))) hs
  · exact hs

theorem ss1Finish {r reason holds} : (s.ss1Finish r reason holds).Canonical :=
  hs.emit.ss1Sto.overlapSto.forEach fun _ _ ht => ht.emit

theorem execSs1End {request} : (execSs1End request s).Canonical := by
  refine .next ?_
  split
  · exact .ite hs.ss1Finish hs
  · exact hs

theorem execSs1Tmax {request} : (execSs1Tmax request s).Canonical := by
  refine .next ?_
  split
  · exact .ite hs.ss1Finish hs
  · exact hs

theorem ss1PlaneRead : s.ss1PlaneRead.Canonical := by
  dsimp only [State.ss1PlaneRead]
  exact hs.forEach fun _ _ ht => .ite ht (by split; exacts [ht, (ht.forEach fun _ _ hu => hu.modZone).requestSs1.beginDueSs1])

theorem execSlsMonitorStart {group} : (execSlsMonitorStart group s).Canonical := .next (hs.forEach fun _ _ ht => .ite ht.modSls
  ht)

theorem releaseZone {z} : (s.releaseZone z).Canonical := hs.modZone.emit.raiseIrq

theorem execZoneRelease {zone} : (execZoneRelease zone s).Canonical := by
  refine .next ?_
  split
  · exact .ite hs.releaseZone hs
  · exact hs

theorem releaseAxis {a} : (s.releaseAxis a).Canonical := hs.modAxisSto

theorem execAxisStoRelease {axis} : (execAxisStoRelease axis s).Canonical := .next (.ite hs.releaseAxis hs)

theorem execZoneTestDue {zone} : (execZoneTestDue zone s).Canonical := .next (.ite hs.modZone.emit hs)

theorem safetyTick : s.safetyTick.Canonical := (hs.forEach fun _ _ ht => ht.modZone).enterDegraded.beginDueSs1

theorem execSafetyCrossCompare {disagree} : (execSafetyCrossCompare disagree s).Canonical := .next (hs.forEach fun _ _ ht =>
  ht.modSafety)

theorem armGroupNow {g} : (s.armGroupNow g).Canonical := by
  unfold State.armGroupNow
  exact hs.modSafety.modArm.modEng.modEng

theorem armNow {crc} : (s.armNow crc).Canonical := by
  unfold State.armNow
  extract_lets t u v w
  have hu : u.Canonical := rest (s := t) hs.modSafety rfl
  exact (hu.forEach fun _ _ ht => .ite ht.modArm ht.armGroupNow).modSafety.emit.raiseIrq

theorem execSafeArm {h crc} : (execSafeArm h crc s).Canonical := .next (.ite hs.done (.ite hs.done (.ite hs.done
  hs.begin.modSafety)))

theorem armBoundary : s.armBoundary.Canonical := by
  unfold State.armBoundary
  exact ((hs.forEach fun _ _ ht => .ite ht.done (.ite ht.armNow.done ht.done)).forEach fun _ _ ht => .ite
    ht.armGroupNow.emit.done ht.done).modSafety

theorem execSafeArmGroup {h crc} : (execSafeArmGroup h crc s).Canonical :=
  .next (.ite hs.done (.ite hs.done (.ite hs.done (.ite hs.done (.ite hs.done hs.begin.modSafety)))))

theorem execSafeDisarm {h} : (execSafeDisarm h s).Canonical := .next (.ite hs.done (.ite hs.done
  hs.modSafety.emit.raiseIrq.done))

theorem clearInputs {l} : (s.clearInputs l).Canonical := hs.forEach fun _ _ ht => ht.modInput.inputActs

theorem safeResetOp {h} : (s.safeResetOp h).Canonical :=
  .ite hs.done ((hs.clearInputs.forEach fun _ _ ht => ht.releaseZone).forEach fun _ _ ht => ht.releaseAxis).emit.done

theorem execSafeReset {h} : (execSafeReset h s).Canonical := .next (.ite hs.safeResetOp hs.done)

theorem safeStopOp {h mode} : (s.safeStopOp h mode).Canonical :=
  .ite hs.done (.ite (.ite hs.done hs.modZone.done) (done (.ite hs.modZone.stopZone (.ite hs.modZone
    hs.modZone.requestSs1.beginDueSs1))))

theorem execSafeStop {h mode} : (execSafeStop h mode s).Canonical := .next (.ite hs.done (.ite hs.safeStopOp hs.done))

theorem safeSlsOp {h on} : (s.safeSlsOp h on).Canonical := .ite hs.done (hs.forEach fun _ _ ht => ht.modSls).refreshSls.done

theorem execSafeSls {h on} : (execSafeSls h on s).Canonical := .next (.ite hs.done (.ite hs.safeSlsOp hs.done))

end Sys2Proof.Machine.State.Canonical

/-! ### Canonical memories: Separation -/

namespace Sys2Proof.Machine.State.Canonical

variable {s : State} (hs : s.Canonical)
include hs

theorem predictedPass {e} : (s.predictedPass e).Canonical := by
  unfold State.predictedPass
  exact hs.modEng

theorem execEnginePredictedPass {e} : (execEnginePredictedPass e s).Canonical := .next (.ite hs.predictedPass hs)

theorem pairEvent {e p} : (s.pairEvent e p).Canonical := .ite hs (.ite hs.modSep.emit (.ite hs.modSep.emit hs.modSep.emit))

theorem demandSs1 {g} : (s.demandSs1 g).Canonical := .ite hs.requestSs1 hs

theorem sepCompare : s.sepCompare.Canonical := .ite hs (.ite hs.modSep.emit hs.modSep)

theorem reachRecords {e br} : (s.reachRecords e br).Canonical := hs.forEach fun _ _ ht => .ite ht ht.emit

theorem boundPass {e publish} : (s.boundPass e publish).Canonical := by
  unfold State.boundPass
  extract_lets pos ends res br sel extra told rows arms t1 t2 t3 t4 t5 t6 t7 t8
  have h2 : t2.Canonical := (hs.forEach fun _ _ ht => ht.pairEvent).reachRecords
  have h4 : t4.Canonical := modEng (.ite h2.emit h2)
  clear_value t4
  have h5 : t5.Canonical := h4.rest rfl
  have h8 : t8.Canonical := viewWrite (h5.modSep.forEach fun _ _ ht => .ite ht.demandSs1 ht)
  exact .ite h8.sepCompare h8

theorem execEngineBoundPass {e publish} : (execEngineBoundPass e publish s).Canonical := .next (.ite hs.boundPass hs)

theorem execEngineLate {e publish} : (execEngineLate e publish s).Canonical := .next (.ite hs.modEng.emit.sepCompare hs)

theorem execPersonLost {person} : (execPersonLost person s).Canonical := by
  refine .next ?_
  split
  · exact .ite hs (.ite (hs.forEach fun _ _ ht => ht.modPerson) (hs.forEach fun _ _ ht => ht.modPerson).emit)
  · exact hs

theorem staleReport {e i} : (s.staleReport e i).Canonical := hs.modPerson

theorem takeReport {e i rep} : (s.takeReport e i rep).Canonical := by
  unfold State.takeReport
  split
  · exact .ite hs.modPerson hs.staleReport
  · exact hs.staleReport

theorem execRelayStale {device} : (execRelayStale device s).Canonical := .next (.ite hs.emit hs)

theorem relayTick : s.relayTick.Canonical := hs.forEach fun _ _ ht => ht.modRelay.modRelay

theorem engineSample {e a c} : (s.engineSample e a c).Canonical := by
  unfold State.engineSample
  exact hs.modEng

theorem engineShift {a shift} : (s.engineShift a shift).Canonical := by
  unfold State.engineShift
  exact hs.modEng.modEng

theorem quietTick : s.quietTick.Canonical := hs.forEach fun _ _ ht => ht.modArm

theorem captureV0 : s.captureV0.Canonical := hs.modSafety

theorem sepChannelFaultOp : s.sepChannelFaultOp.Canonical := hs.modSep.emit.channelFault

theorem execSepChannelFault : (execSepChannelFault s).Canonical := .next (.ite hs.sepChannelFaultOp hs)

theorem verdictAttributes {e} : (s.verdictAttributes e).Canonical := by
  unfold State.verdictAttributes
  exact (attributeFault (.ite (emit (.ite hs.emit hs)) (.ite hs.emit hs))).modSep

theorem execSepDirectedVerdict {madderOk woadOk} : (execSepDirectedVerdict madderOk woadOk s).Canonical := by
  refine .next (.ite (modSafety ?_).modSep hs)
  split
  · exact hs
  · exact hs.verdictAttributes
  · exact hs.verdictAttributes
  · exact hs.noteAllStopped.modSep.ss1AllZones

theorem slsStop {w what speed} : (s.slsStop w what speed).Canonical := .ite hs hs.requestSs1.emit

theorem slsBreachOp {group} : (s.slsBreachOp group).Canonical := hs.forEach fun _ _ ht => ht.slsStop

theorem execSlsBreach {group} : (execSlsBreach group s).Canonical := .next hs.slsBreachOp

end Sys2Proof.Machine.State.Canonical

/-! ### Canonical memories: LanePass -/

namespace Sys2Proof.Machine.State.Canonical

variable {s : State} (hs : s.Canonical)
include hs

theorem bypassNotch {a k f T was} : (s.bypassNotch a k f T was).Canonical := .ite hs.emit hs

theorem notchRate {a T} : (s.notchRate a T).Canonical := hs.bypassNotch.bypassNotch.modAxis

theorem refStep {a T} : (s.refStep a T).Canonical := by
  unfold State.refStep
  extract_lets x src count lp lp' put
  have hput : ∀ l, (put l).Canonical := fun _ => hs.modAxis
  clear_value put src
  split
  · exact hput _
  · refine .ite (.ite (hput _) (hput _)) ?_
    repeat' split
    all_goals exact hput _

theorem pidStep {a T c} : (s.pidStep a T c).Canonical := hs.modAxis

theorem followCheck {a} : (s.followCheck a).Canonical := .ite hs.modAxis.latchFault.faultSs1.emit hs.modAxis

theorem putSweep {x} : (s.putSweep x).Canonical := hs.modLanes rfl

theorem sweepExcite {a T} : (s.sweepExcite a T).1.Canonical :=
  List.foldlRecOn (motive := fun p : State × List (SweepSt × Int) => p.1.Canonical) _ _ hs fun _ hp _ _ => hp.putSweep.modAxis

theorem sweepSample {a e} : (s.sweepSample a e).Canonical := .ite hs.winWrite.putSweep hs

theorem passOne {a} : (s.passOne a).Canonical :=
  .ite (.ite hs.notchRate.modAxis.refStep.modAxis.modAxis.modAxis
    hs.notchRate.modAxis.refStep.modAxis.modAxis.pidStep.followCheck) hs.notchRate.modAxis.modAxis.modAxis

theorem noteAbort {a aborted} : (s.noteAbort a aborted).Canonical := hs.modLanes rfl

theorem abandonUser {l slot a cycles} : (s.abandonUser l slot a cycles).Canonical :=
  .ite (hs.noteAbort.modLogLane.modAxis.emit.modLanes (by rfl)).modAxis.emit hs.noteAbort.modLogLane.modAxis.emit

theorem userStage {l slot a p e} : (s.userStage l slot a p e).Canonical := by
  unfold State.userStage
  extract_lets k x regs r y t
  have hx : x.Canonical := hs.pair
  have hr : r.1.Canonical :=
    PairSt.Canonical.runStage ⟨hx.pMem, hx.xMem, hx.yMem, State.canonical_entryRegs⟩
  have ht : t.Canonical := by
    refine hs.modPair fun _ _ => ?_
    exact hr.withRegs hr.regs.backFrom rfl
  clear_value t
  split
  · exact ht.noteAbort.modAxis
  · exact ht.raiseEvent.abandonUser
  · exact ht.noteAbort.userFault

theorem clipStep {l a c ran} : (s.clipStep l a c ran).Canonical := .ite hs.modAxis.emit hs.modAxis

theorem outputStep {a T} : (s.outputStep a T).Canonical := hs.modAxis

theorem openLoopStep {a T c ceils} : (s.openLoopStep a T c ceils).Canonical := hs.modAxis

theorem openStep {a} : (s.openStep a).Canonical := hs.modAxis

theorem stallStep {a} : (s.stallStep a).Canonical := hs.modAxis

theorem writeDone {p slot} : (s.writeDone p slot).Canonical :=
  hs.modPair fun _ hx => ⟨hx.pMem, cellsWf_write _ _ hx.xMem, hx.yMem, hx.regs⟩

theorem noteSkipped {l a} : (s.noteSkipped l a).Canonical := .ite hs.noteAbort hs

theorem passTwoOp {l slot a p} : (s.passTwoOp l slot a p).Canonical := by
  unfold State.passTwoOp
  extract_lets T c ceils ex s1 ent s2
  have h1 : s1.Canonical := hs.sweepExcite.modAxis
  clear_value ent
  have h2 : s2.Canonical := by dsimp only [s2]; split; exacts [h1.userStage, h1.noteSkipped]
  refine .ite hs.openStep.noteSkipped (.ite hs.openLoopStep.noteSkipped ?_)
  exact (h2.clipStep.outputStep.foldl fun _ _ ht => ht.sweepSample).stallStep

theorem passTwo {l slot a p} : (s.passTwo l slot a p).Canonical := hs.passTwoOp.writeDone

theorem laneEventPassOp {l second n finish} : (s.laneEventPassOp l second n finish).Canonical := by
  dsimp only [State.laneEventPassOp]
  split
  · exact hs
  · exact .ite hs (.ite (.ite (hs.raiseEvent.modLogLane.forEach fun _ _ ht => ht.passOne) hs) (.ite
    ((hs.raiseEvent.modLogLane.modTick.forEach fun _ _ ht => ht.passTwo).forEach fun _ _ ht => ht.cmpPredict) hs))

theorem execLaneEventPass {lane pass slots finish} : (execLaneEventPass lane pass slots finish s).Canonical := .next
  hs.laneEventPassOp

theorem execLaneEventDeadline {lane} : (execLaneEventDeadline lane s).Canonical := by
  refine .next ?_
  split
  · exact hs.raiseEvent.modLogLane
  · exact hs

theorem execLaneEventSlack {lane} : (execLaneEventSlack lane s).Canonical := by
  refine .next ?_
  split
  · exact .ite hs.raiseEvent hs
  · exact hs

theorem execUserBudget {axis cycles} : (execUserBudget axis cycles s).Canonical := by
  refine .next ?_
  split
  · split
    · exact .ite hs.raiseEvent.abandonUser hs
    · exact hs
  · exact hs

theorem execPlausFault {axis} : (execPlausFault axis s).Canonical := .next (.ite hs.modAxis.feedbackFault hs)

theorem latchSlot {l e overrun} : (s.latchSlot l e overrun).Canonical := by
  dsimp only [State.latchSlot]
  split
  · exact hs.modAxis.modPair fun _ hx => hx.writeCtl
  · exact hs.modAxis

theorem latchLane {l} : (s.latchLane l).Canonical :=
  .ite (.ite (hs.forEach fun _ _ ht => ht.latchSlot) (hs.forEach fun _ _ ht => ht.latchSlot).emit) (modLogLane (.ite
    (hs.forEach fun _ _ ht => ht.latchSlot) (hs.forEach fun _ _ ht => ht.latchSlot).emit))

theorem deadlineLatch : s.deadlineLatch.Canonical := by
  unfold State.deadlineLatch
  exact ((hs.forEach fun _ _ ht => ht.latchLane).forEach fun _ _ ht => ht.cmpLatch).modSep.modTick

theorem execDeadlineLatch : (execDeadlineLatch s).Canonical := .next (.ite hs.deadlineLatch hs)

theorem trackBoundary : s.trackBoundary.Canonical := by
  dsimp only [State.trackBoundary]
  exact hs.forEach fun _ _ ht => by split; exacts [ht.modAxis.emit, ht.modAxis]

end Sys2Proof.Machine.State.Canonical

/-! ### Canonical memories: Homing -/

namespace Sys2Proof.Machine.State.Canonical

variable {s : State} (hs : s.Canonical)
include hs

theorem modHome {a f} : (s.modHome a f).Canonical := hs.modAxis

theorem modRun {a f} : (s.modRun a f).Canonical := hs.modHome

theorem homeSegment {a neg v dist} : (s.homeSegment a neg v dist).Canonical := hs.modAxis.modQueue.tryStart

theorem enterHome {a st} : (s.enterHome a st).Canonical := by
  dsimp only [State.enterHome]
  split
  · exact hs
  · split <;> exact hs.modHome.modRun.homeSegment

theorem beginMethod {a} : (s.beginMethod a).Canonical := by
  dsimp only [State.beginMethod]
  split
  · exact hs.modRun.enterHome
  · exact hs.modRun.enterHome
  · exact hs.modRun.modHome
  · exact hs.modRun.enterHome

theorem startStage {root} : (s.startStage root).Canonical := hs.forEach fun _ _ ht => ht.beginMethod

theorem execHomeStageStart : (execHomeStageStart s).Canonical := .next (.ite hs (hs.forEach fun _ _ ht => ht.startStage))

theorem onAxes {op h check} {act : List Nat → State} (hact : ∀ ax, (act ax).Canonical) :
    (s.onAxes op h check act).Canonical := by
  unfold State.onAxes
  extract_lets ax
  refine .ite hs.done ?_
  split
  · exact hs.complete
  · exact hact ax

theorem homeOp {h} : (s.homeOp h).Canonical :=
  hs.onAxes fun _ => (hs.forEach fun _ _ ht => ht.modAxis).startStage.done

theorem execHome {h} : (execHome h s).Canonical := .next hs.homeOp

theorem definingEvent {a p} : (s.definingEvent a p).Canonical := hs.modRun.homeBrake

theorem shiftAxis {a d} : (s.shiftAxis a d).Canonical := by
  dsimp only [State.shiftAxis]
  split
  · exact hs.modAxis.modQueue
  · exact hs.modAxis

theorem shiftLane {a d} : (s.shiftLane a d).Canonical := hs.shiftAxis.modAxis

theorem homeRest {a} : (s.homeRest a).Canonical := by
  refine .ite ?_ hs
  split
  · exact .ite (hs.modHome.forEach fun _ _ ht => ht.modRun) hs.modHome
  · exact hs

theorem homeDoneOp {a} : (s.homeDoneOp a).Canonical := by
  unfold State.homeDoneOp
  split
  · exact hs
  · split; exacts [hs, hs.shiftLane.engineShift.modHome.setIllegal.emit.homeRest]

theorem execHomeDone {axis} : (execHomeDone axis s).Canonical := .next (.ite hs.homeDoneOp hs)

theorem sampleSwitches {a} : (s.sampleSwitches a).Canonical := hs.modAxis

theorem firstIndex {a} : (s.firstIndex a).Canonical := by
  dsimp only [State.firstIndex]
  split
  · exact .ite hs.modAxis hs
  · exact hs

theorem homeIntake {a} : (s.homeIntake a).Canonical := by
  unfold State.homeIntake
  extract_lets t x
  have ht : t.Canonical := hs.sampleSwitches
  split
  · exact ht.firstIndex
  · refine .ite ht.firstIndex (.ite ht.modRun (.ite ?_ ht))
    split
    · exact ht.modHome.definingEvent
    · exact ht

theorem homeTurn {a st} : (s.homeTurn a st).Canonical := hs.modRun.homeBrake

theorem homeEdge {a active pos} : (s.homeEdge a active pos).Canonical := by
  dsimp only [State.homeEdge]
  split
  · exact hs
  · exact .ite hs (.ite (.ite hs.homeTurn hs) (.ite (.ite hs.modRun (.ite hs.homeTurn hs)) (.ite (.ite hs hs.homeTurn) (.ite
    (.ite hs.modHome hs.definingEvent) hs))))

theorem acceptEdges {a} : (s.acceptEdges a).Canonical := .ite hs.modHome.homeEdge hs.modHome

theorem execHomeSwitchEdge {axis} : (execHomeSwitchEdge axis s).Canonical := .next hs.acceptEdges

theorem execHomeChatter {axis} : (execHomeChatter axis s).Canonical := .next (.ite hs.emit.homeFail hs)

theorem stallConfirmed {a} : (s.stallConfirmed a).Canonical := by
  unfold State.stallConfirmed
  exact enterHome (by split; exacts [hs.modRun.holdEnd, hs.modRun])

theorem execHomeStallConfirmed {axis} : (execHomeStallConfirmed axis s).Canonical := .next (.ite hs.stallConfirmed hs)

theorem homeLimitOp {a bit} : (s.homeLimitOp a bit).Canonical := by
  dsimp only [State.homeLimitOp]
  split
  · exact hs.modHome
  · exact .ite hs.modHome (.ite (.ite hs.modHome.modHome.homeTurn hs.modHome.modHome.modRun.homeTurn) hs.modHome.emit.homeFail)

theorem execHomeLimit {axis} : (execHomeLimit axis s).Canonical := by
  refine .next ?_
  split
  · exact hs.homeLimitOp
  · exact hs

theorem execHomeTimeout {axis} : (execHomeTimeout axis s).Canonical := .next (.ite hs.emit.homeFail hs)

theorem homeTick : s.homeTick.Canonical := by
  refine hs.forEach fun _ _ ht => ?_
  split
  · exact ht
  · refine .ite ht (.ite ht.homeRest ?_)
    split
    · exact .ite ht ht.enterHome
    · exact ht

theorem indexCheckOp {a c} : (s.indexCheckOp a c).Canonical := by
  dsimp only [State.indexCheckOp]
  split
  · exact hs.modAxis
  · exact .ite hs.modAxis.modHome.modHome hs.modAxis.modHome.modHome.emit

theorem execIndexCheck {axis} : (execIndexCheck axis s).Canonical := by
  refine .next ?_
  split
  · exact .ite hs.indexCheckOp hs
  · exact hs

theorem execIdxFault {axis} : (execIdxFault axis s).Canonical := .next (.ite hs.feedbackFault hs)

theorem indexShifts : s.indexShifts.Canonical := hs.forEach fun _ _ ht => ht.shiftLane.modHome.engineShift

end Sys2Proof.Machine.State.Canonical

/-! ### Canonical memories: MotionCmd -/

namespace Sys2Proof.Machine.State.Canonical

variable {s : State} (hs : s.Canonical)
include hs

theorem enqueue {q g} : (s.enqueue q g).Canonical :=
  .ite (hs.modQueue.forEach fun _ _ ht => ht.modAxis).tryStart (hs.modQueue.forEach fun _ _ ht => ht.modAxis)

theorem moveOp {h m} : (s.moveOp h m).Canonical :=
  .ite hs.done (.ite hs.done (.ite hs.done (hs.onAxes fun _ => .ite hs.enqueue.done hs.done)))

theorem execMove {h a} : (execMove h a s).Canonical := .next hs.moveOp

theorem haltSweeps {ax} : (s.haltSweeps ax).Canonical := hs.modLanes rfl

theorem haltOp {h} : (s.haltOp h).Canonical :=
  (((hs.forEach fun _ _ ht => ht.homeFail).forEach fun _ _ ht => ht.modQueue).forEach fun _ _ ht =>
    ht.haltQueue).haltSweeps.done

theorem execHalt {h} : (execHalt h s).Canonical := .next hs.haltOp

theorem execSegmentStart {queue} : (execSegmentStart queue s).Canonical := .next (.ite hs.tryStart hs)

theorem execSegEnd {queue} : (execSegEnd queue s).Canonical := .next (.ite hs.endSegment hs)

theorem execQueueAtRest {queue} : (execQueueAtRest queue s).Canonical := .next (.ite hs.endSegment hs)

theorem execSupplyRelease : (execSupplyRelease s).Canonical := .next hs.supplyLoop

omit hs in
theorem dropDeferred {l blocked} {s : State} (hs : s.Canonical) : (s.dropDeferred l blocked).Canonical := by
  induction l generalizing s blocked with
  | nil => exact hs
  | cons r l ih =>
    unfold State.dropDeferred
    exact .ite (ih hs) (.ite (ih hs.modSupply.dropReq) (ih hs))

theorem execStartDeferred : (execStartDeferred s).Canonical := .next hs.dropDeferred

end Sys2Proof.Machine.State.Canonical

/-! ### Canonical memories: AxisCmd -/

namespace Sys2Proof.Machine.State.Canonical

variable {s : State} (hs : s.Canonical)
include hs

theorem closeOnRef {a ref u} : (s.closeOnRef a ref u).Canonical := hs.modAxis

theorem closeFree {a} : (s.closeFree a).Canonical := .ite hs.closeOnRef.emit hs.closeOnRef

theorem closeHolding {a} : (s.closeHolding a).Canonical := hs.closeOnRef.modAxis

theorem pulseOrigin {a} : (s.pulseOrigin a).Canonical := .ite hs.modAxis hs

theorem closeLoop {a} : (s.closeLoop a).Canonical := pulseOrigin (.ite hs.closeHolding hs.closeFree)

theorem execLoopClose {axis} : (execLoopClose axis s).Canonical := .next (.ite hs.closeLoop hs)

theorem execSoftStartRamp {axis} : (execSoftStartRamp axis s).Canonical := .next (.ite hs.modAxis hs)

theorem execSoftStartDone {axis} : (execSoftStartDone axis s).Canonical := .next (.ite hs.modAxis hs)

theorem softFail {a} : (s.softFail a).Canonical := hs.setAxisSto.latchFault.emit

theorem execSoftStartFail {axis} : (execSoftStartFail axis s).Canonical := .next (.ite hs.softFail hs)

theorem powerDown {a} : (s.powerDown a).Canonical :=
  .ite (.ite hs.modAxis hs) (.ite (commLost (.ite hs.modAxis hs)).modAxis (commLost (.ite hs.modAxis hs)))

theorem axisEnableOp {h} : (s.axisEnableOp h).Canonical := .ite hs.done (.ite hs.done hs.begin.joinSupply)

theorem execAxisEnable {h} : (execAxisEnable h s).Canonical := .next hs.axisEnableOp

theorem disableAxis {a} : (s.disableAxis a).Canonical := .ite hs.modAxis hs.modAxis

theorem axisDisableOp {h} : (s.axisDisableOp h).Canonical :=
  hs.onAxes fun _ => (hs.forEach fun _ _ ht => ht.disableAxis).done

theorem execAxisDisable {h} : (execAxisDisable h s).Canonical := .next hs.axisDisableOp

theorem execBrakeDelayDisable {axis} : (execBrakeDelayDisable axis s).Canonical := .next (.ite hs.modAxis hs)

theorem clearFault {a} : (s.clearFault a).Canonical := by
  dsimp only [State.clearFault]
  split
  · exact .ite (modPort (.ite hs.modAxis.restartCount.modAxis hs.modAxis)) (.ite hs.modAxis.restartCount.modAxis hs.modAxis)
  · exact .ite hs.modAxis.restartCount.modAxis hs.modAxis

theorem faultResetOp {h} : (s.faultResetOp h).Canonical :=
  hs.onAxes fun _ => .ite hs.done (hs.forEach fun _ _ ht => ht.clearFault).done

theorem execFaultReset {h} : (execFaultReset h s).Canonical := .next hs.faultResetOp

theorem alignOp {h} : (s.alignOp h).Canonical :=
  hs.onAxes fun _ => (hs.forEach fun _ _ ht => ht.modAxis).done

theorem execAlign {h} : (execAlign h s).Canonical := .next hs.alignOp

theorem alignJudge {a p1} : (s.alignJudge a p1).Canonical := .ite hs.modAxis.setParam.modAxis hs.modAxis.emit

theorem alignStepOp {a g} : (s.alignStepOp a g).Canonical := .ite (.ite hs.modAxis hs) (.ite hs.alignJudge hs)

theorem execAlignStep {axis} : (execAlignStep axis s).Canonical := by
  refine .next ?_
  split
  · exact hs.alignStepOp
  · exact hs

end Sys2Proof.Machine.State.Canonical

/-! ### Canonical memories: Can -/

namespace Sys2Proof.Machine.State.Canonical

variable {s : State} (hs : s.Canonical)
include hs

theorem setCanCount {k off n} : (s.setCanCount k off n).Canonical := hs.winWrite

theorem canErrors {k tec recCnt} : (s.canErrors k tec recCnt).Canonical := .ite (modCan (.ite hs.modCan.emit hs.modCan)).emit
  (.ite hs.modCan.emit hs.modCan)

omit hs in
theorem canDrain {k l kept} {s : State} (hs : s.Canonical) : (s.canDrain k l kept).Canonical := by
  induction l generalizing s kept with
  | nil => exact hs.modCan
  | cons m l ih =>
    unfold State.canDrain
    split
    · exact .ite (ih hs) (ih hs.winWrite.setCanCount.raiseIrq)
    · exact ih hs

theorem canSettle {k} : (s.canSettle k).Canonical := hs.canDrain.modCan

theorem canEndAbd {k st} : (s.canEndAbd k st).Canonical := by
  unfold State.canEndAbd
  split
  · exact hs.modCan.done
  · exact hs

theorem canEnter {k mode} : (s.canEnter k mode).Canonical := .ite hs.modCan.modCan.canSettle hs.modCan

theorem canModeOp {h mode} : (s.canModeOp h mode).Canonical := .ite hs.done (.ite hs.done (.ite hs.done hs.modCan.done))

theorem execCanMode {h mode} : (execCanMode h mode s).Canonical := .next hs.canModeOp

theorem execCanModeApply {can} : (execCanModeApply can s).Canonical := by
  refine .next ?_
  split
  · exact hs.canEndAbd.modCan.canEnter
  · exact hs

theorem canSendOp {h m} : (s.canSendOp h m).Canonical := .ite hs.modCan.done hs.done

theorem execCanSend {h m} : (execCanSend h m s).Canonical := .next hs.canSendOp

theorem canCancelOp {h tag} : (s.canCancelOp h tag).Canonical := .ite hs.modCan.canSettle.done hs.done

theorem execCanCancel {h tag} : (execCanCancel h tag s).Canonical := .next hs.canCancelOp

theorem canStart {k t} : (s.canStart k t).Canonical := hs.modCan

theorem execCanTxAttempt {can t} : (execCanTxAttempt can t s).Canonical := .next (.ite hs (.ite hs.modCan hs.canStart))

theorem canNoAck {k m} : (s.canNoAck k m).1.Canonical := by
  unfold State.canNoAck
  split
  · exact hs.modCan.emitAt
  · exact hs

theorem canClash {k m} : (s.canClash k m).1.Canonical := by
  unfold State.canClash
  split
  · extract_lets s1
    split
    · exact hs.modCan
    · exact hs.modCan.emitAt
  · exact hs

theorem canFinish {k m r fe} : (s.canFinish k m r fe).Canonical := by
  unfold State.canFinish
  extract_lets c put retry abandon e tec e' m1
  split
  · exact hs.modCan.canErrors.modCan.canSettle
  · exact hs.modCan.canSettle
  · exact hs.canNoAck.canErrors.modCan.canSettle
  · exact hs.canClash.canErrors.modCan.canSettle
  · exact hs.canErrors.modCan.canSettle

theorem execCanTxOutcome {can r x} : (execCanTxOutcome can r x s).Canonical := by
  refine .next ?_
  split
  · exact hs.modCan.canFinish
  · exact hs

theorem execCanBusOn {can} : (execCanBusOn can s).Canonical := .next (.ite hs.modCan.emit hs)

theorem canRecoverOp {h} : (s.canRecoverOp h).Canonical := .ite hs.modCan.done hs.done

theorem execCanRecover {h} : (execCanRecover h s).Canonical := .next hs.canRecoverOp

theorem canOffer {k f t} : (s.canOffer k f t).Canonical := .ite hs (.ite (.ite hs.modCan hs.modCan.emitAt)
  hs.winWrite.setCanCount.raiseIrq)

theorem canWakeUp {k how stamp} : (s.canWakeUp k how stamp).Canonical := hs.canEnter.emitAt

theorem canWakeOn {k f t} : (s.canWakeOn k f t).Canonical := .ite hs.canWakeUp.canOffer hs

theorem canEdge {k ns} : (s.canEdge k ns).Canonical := .ite hs.canWakeUp hs

theorem execCanWake {can cause t} : (execCanWake can cause t s).Canonical := by
  refine .next (.ite ?_ hs)
  split
  · exact hs.canWakeOn
  · exact hs.canEdge

theorem canRecDown {k} : (s.canRecDown k).Canonical := .ite hs.modCan (modCan (hs.rest (by rfl)))

theorem abdFrame {k} : (s.abdFrame k).Canonical := hs.modCan

theorem abdNext {k} : (s.abdNext k).Canonical := hs.modCan

theorem execCanRxFrame {can f t} : (execCanRxFrame can f t s).Canonical := by
  refine .next ?_
  split
  · exact .ite hs hs.modCan.canRecDown.canOffer
  · exact hs.modCan.canOffer
  · exact hs.canWakeOn
  · exact hs.modCan.abdFrame
  · exact hs

theorem execCanRxError {can e} : (execCanRxError can e s).Canonical := by
  refine .next (.ite (.ite hs.modCan hs) ?_)
  split
  · exact .ite hs hs.canErrors
  · exact .ite hs hs.abdNext
  · exact hs

theorem canAbdOp {h thenMode} : (s.canAbdOp h thenMode).Canonical := .ite hs.done (.ite hs.done hs.modCan.begin)

theorem execCanAbd {h thenMode} : (execCanAbd h thenMode s).Canonical := .next hs.canAbdOp

theorem abdSelect {k a} : (s.abdSelect k a).Canonical := hs.setParam.setParam.emit.canEnter.canEndAbd

theorem execCanAbdDone {can} : (execCanAbdDone can s).Canonical := by
  refine .next ?_
  split
  · exact .ite hs.abdSelect hs
  · exact hs

theorem execCanAbdDwell {can} : (execCanAbdDwell can s).Canonical := by
  refine .next ?_
  split
  · exact .ite hs.abdNext hs
  · exact hs

theorem execCanAbdFail {can} : (execCanAbdFail can s).Canonical := by
  refine .next ?_
  split
  · exact .ite hs.emit.canEnter.canEndAbd hs
  · exact hs

theorem canRxRd {k v} : (s.canRxRd k v).Canonical := .ite hs.setCanCount.modCan hs

theorem canEvRd {k v} : (s.canEvRd k v).Canonical := .ite hs.setCanCount.canSettle hs

theorem execCanRxRdWrite {can value} : (execCanRxRdWrite can value s).Canonical := .next hs.canRxRd

end Sys2Proof.Machine.State.Canonical

/-! ### Canonical memories: Selide -/

namespace Sys2Proof.Machine.State.Canonical

variable {s : State} (hs : s.Canonical)
include hs

theorem frameError {t chan slot n} : (s.frameError t chan slot n).Canonical := by
  refine emit ?_
  split
  · exact hs.modNode
  · exact hs

theorem slotTiming {n chan r start dur} : (s.slotTiming n chan r start dur).2.Canonical := by
  unfold State.slotTiming
  extract_lets o b within s1
  split
  · exact hs.modNode.modNode.emit
  · exact .ite hs.modNode.modNode.modNode.emit hs.modNode.modNode

theorem judgeSub {e n nserial x payload} : (s.judgeSub e n nserial x payload).Canonical := by
  dsimp only [State.judgeSub]
  split
  · exact hs.modNode
  · exact hs.modNode.emit

theorem takeSub {n nserial x payload} : (s.takeSub n nserial x payload).Canonical :=
  .ite (.ite (hs.judgeSub.judgeSub.modNode.forEach fun _ _ ht => ht.setAxisSto) hs.judgeSub.judgeSub.modNode)
    hs.judgeSub.judgeSub

theorem execSubframeTimeout {node island} : (execSubframeTimeout node island s).Canonical := .next (.ite (hs.modNode.forEach
  fun _ _ ht => ht.setAxisSto).emit hs)

theorem execNodeStoFail {node chan} : (execNodeStoFail node chan s).Canonical := .next (.ite (hs.forEach fun _ _ ht =>
  ht.latchFault).emit hs)

theorem acceptData {n chan f} : (s.acceptData n chan f).Canonical := by
  refine modNode ?_
  split
  · exact hs.modNode.takeSub
  · exact hs.modNode

theorem judgeNull {e n nserial x payload} : (s.judgeNull e n nserial x payload).Canonical := by
  dsimp only [State.judgeNull]
  split
  · exact hs.modNode
  · exact hs.modNode.emit

theorem nullOnLost {n f} : (s.nullOnLost n f).Canonical := by
  refine .ite hs.modNode ?_
  split
  · exact hs.modNode
  · exact hs.modNode.judgeNull.judgeNull.modNode

theorem dataFrameOp {t chan f start} : (s.dataFrameOp t chan f start).Canonical := by
  unfold State.dataFrameOp
  extract_lets tr onLost sched near
  refine .ite hs.frameError ?_
  split
  · exact hs
  · extract_lets x
    split
    · exact hs
    · refine .ite hs ?_
      extract_lets p
      have hp : p.2.Canonical := hs.slotTiming
      exact .ite hp (.ite hp.nullOnLost (.ite (.ite hp.acceptData hp) hp.modNode))

theorem execUpstreamDataFrame {trunk chan f start} : (execUpstreamDataFrame trunk chan f start s).Canonical := .next (.ite
  hs.dataFrameOp hs)

theorem execNodeMuted {node} : (execNodeMuted node s).Canonical := .next (.ite hs.modNode.emit hs)

theorem serviceReply {n l} : (s.serviceReply n l).Canonical := hs.forEach fun _ _ ht => .ite (ht.winWrite.winWrite.modHost rfl)
  ht.winWrite

theorem extFrameOp {t f start} : (s.extFrameOp t f start).Canonical := by
  unfold State.extFrameOp
  exact .ite hs.frameError (by split; exacts [hs, .ite hs hs.modNode.serviceReply])

theorem execExtFrame {trunk f start} : (execExtFrame trunk f start s).Canonical := .next (.ite hs.extFrameOp hs)

theorem sendFrame {t f} : (s.sendFrame t f).Canonical := hs.modTrunk

theorem repeatDown {f} : (s.repeatDown f).Canonical := .ite hs.modLink hs

theorem sendGrant {t chain payload} : (s.sendGrant t chain payload).Canonical := hs.modTrunk.sendFrame

theorem grantNode {n t p late} : (s.grantNode n t p late).Canonical := (hs.forEach fun _ _ ht =>
  ht.restartCount).modNode.sendGrant

theorem joinMember {t chain p start} : (s.joinMember t chain p start).Canonical := .ite hs.sendGrant.modLink hs.sendGrant.emit

theorem joinOp {t f start} : (s.joinOp t f start).Canonical := by
  dsimp only [State.joinOp]
  exact .ite hs (.ite hs.frameError (.ite hs (.ite hs.joinMember (by split; exacts [hs.grantNode, hs.sendGrant.emit]))))

theorem execJoin {trunk f start} : (execJoin trunk f start s).Canonical := .next (.ite hs.joinOp hs)

theorem armsNew {n} : (s.armsNew n).Canonical := hs.forEach fun _ _ ht => ht.modArm

theorem execNodeJoined {node} : (execNodeJoined node s).Canonical := .next (.ite hs.modNode.armsNew.emit hs)

theorem dropSends {n} : (s.dropSends n).Canonical := (hs.forEach fun _ _ ht => ht.done).modNode

theorem leaveOp {t chan f start} : (s.leaveOp t chan f start).Canonical := by
  unfold State.leaveOp
  extract_lets tr near
  refine .ite hs.frameError ?_
  split
  · exact hs
  · extract_lets p
    have hp : p.2.Canonical := hs.slotTiming
    exact .ite hp hp.modNode.emit

theorem execLeave {trunk chan f start} : (execLeave trunk chan f start s).Canonical := .next (.ite hs.leaveOp hs)

theorem execNodeGone {node} : (execNodeGone node s).Canonical := .next (.ite hs.modNode.emit hs)

theorem execEcho {trunk chan t} : (execEcho trunk chan t s).Canonical := .next (.ite hs.modTrunk hs)

theorem execSymbolLockLoss {trunk chan} : (execSymbolLockLoss trunk chan s).Canonical := .next hs.modTrunk

theorem execSymbolLockGain {trunk chan} : (execSymbolLockGain trunk chan s).Canonical := .next hs.modTrunk

theorem channelLostOp {t chan cause} : (s.channelLostOp t chan cause).Canonical := hs.modTrunk.emit

theorem execChannelLost {trunk chan} : (execChannelLost trunk chan s).Canonical := .next (.ite hs.channelLostOp hs)

theorem execChannelRestored {trunk} : (execChannelRestored trunk s).Canonical := .next (.ite hs.modTrunk hs)

theorem execChannelDegExpired {trunk} : (execChannelDegExpired trunk s).Canonical := .next (.ite hs.modTrunk.ss1WithArms.emit
  hs)

theorem execNodeStale {node} : (execNodeStale node s).Canonical := .next (.ite (hs.emit.forEach fun _ _ ht =>
  ht.thirdInvalid).modNode hs)

theorem nodeIntake : s.nodeIntake.Canonical := hs.forEach fun _ _ ht => .ite ht ht.modNode

theorem nodeTick : s.nodeTick.Canonical := hs.forEach fun _ _ ht => .ite ht.dropSends.modNode ht.modNode

theorem channelReturns {t x} : (s.channelReturns t x).Canonical := hs.modTrunk.emit

theorem trunkTick : s.trunkTick.Canonical :=
  hs.forEach fun _ _ ht => .ite (ht.forEach fun _ _ hu => hu.modNode).modTrunk.channelReturns (ht.forEach fun _ _ hu =>
    hu.modNode).modTrunk

theorem placeNodes : s.placeNodes.1.Canonical := by
  refine List.foldlRecOn (motive := fun p : State × List Nat => p.1.Canonical) _ _ hs fun p hp n _ => ?_
  dsimp only
  split
  · exact hp.modNode
  · exact hp

theorem sendCycleStarts : s.sendCycleStarts.Canonical := .ite (hs.forEach fun _ _ ht => ht.modTrunk) hs

theorem sendService {n t chain} : (s.sendService n t chain).Canonical := by
  refine forEach ?_ fun _ _ ht => ht.done
  split
  · exact hs.modNode.sendFrame
  · exact hs.modNode

theorem sendToNode {n} : (s.sendToNode n).Canonical := by
  refine .ite (sendService ?_) ?_
  · split
    · exact hs.modNode.sendFrame
    · exact hs.modNode
  · split
    · exact hs.modNode.sendFrame
    · exact hs.modNode

theorem sendLink : s.sendLink.Canonical := .ite (hs.forEach fun _ _ ht => ht.modLink.sendFrame) hs

theorem sendRecords : s.sendRecords.Canonical := hs.modLink.sendLink

theorem memberSends : s.memberSends.Canonical := .ite hs.sendRecords hs

theorem downstream : s.downstream.Canonical :=
  rest (.ite (hs.forEach fun _ _ ht => ht.sendToNode).sendRecords (hs.forEach fun _ _ ht => ht.sendToNode)) rfl

theorem execDownstreamWindow : (execDownstreamWindow s).Canonical := .next (.ite hs.downstream.modTick hs)

theorem followWinner {c arrival} : (s.followWinner c arrival).Canonical := hs.modTime

theorem masterConflict {t c} : (s.masterConflict t c).Canonical := .ite hs.modTrunk.emit hs.modTrunk

theorem execCycleStartReceived {trunk f} : (execCycleStartReceived trunk f s).Canonical := by
  refine .next (.ite ?_ hs)
  split
  · exact .ite hs (.ite (followWinner (.ite hs.masterConflict hs)) (.ite hs.masterConflict hs))
  · exact hs.frameError

theorem linkTick : s.linkTick.Canonical := hs.modLink.forEach fun _ _ ht => ht.emit

theorem execLinkLost : (execLinkLost s).Canonical := .next (.ite hs.modLink.modTime.timeCause.emit hs)

theorem execSelideStart {h} : (execSelideStart h s).Canonical := .next (.ite hs.done (.ite hs.done (.ite hs.done
  hs.begin.modSelide)))

theorem execBringupTimeout : (execBringupTimeout s).Canonical := by
  refine .next ?_
  split
  · exact .ite hs.modSelide.complete hs
  · exact hs

theorem execBringupComplete : (execBringupComplete s).Canonical := by
  refine .next ?_
  split
  · exact .ite hs.modSelide.done hs
  · exact hs

theorem execNodeUnmute {h} : (execNodeUnmute h s).Canonical := .next (.ite hs.done (.ite hs.modNode.done hs.done))

theorem execNodeWake {h} : (execNodeWake h s).Canonical := .next (.ite hs.done (.ite hs.done (.ite hs.done
  hs.begin.joinSupply)))

theorem execNodeSleep {h} : (execNodeSleep h s).Canonical := .next (.ite hs.done (.ite hs.done (.ite hs.done hs.modNode.done)))

theorem execNodeSend {h winOffset length} : (execNodeSend h winOffset length s).Canonical := .next (.ite hs.done
  hs.begin.modNode)

end Sys2Proof.Machine.State.Canonical

/-! ### Canonical memories: Sweep -/

namespace Sys2Proof.Machine.State.Canonical

variable {s : State} (hs : s.Canonical)
include hs

theorem sweepOp {h x} : (s.sweepOp h x).Canonical := by
  refine hs.onAxes fun _ => hs.begin.forEach fun t a ht => ?_
  extract_lets w u
  have hu : u.Canonical := ht.modLanes rfl
  clear_value u
  split
  · exact hu.modPair fun _ hx => hx.enter
  · exact hu

theorem execSweep {h a} : (execSweep h a s).Canonical := .next hs.sweepOp

theorem sweepEndOp {x natural} : (s.sweepEndOp x natural).Canonical := (hs.modLanes (by rfl)).emit.done

theorem execSweepEnd {axis} : (execSweepEnd axis s).Canonical := by
  refine .next ?_
  split
  · split
    · exact hs.sweepEndOp
    · exact hs
  · exact hs

theorem acceptKernel {h gen rs} : (s.acceptKernel h gen rs).Canonical := by
  unfold State.acceptKernel
  exact hs.begin.modLanes rfl

theorem activateKernel {k} : (s.activateKernel k).Canonical := by
  unfold State.activateKernel
  extract_lets m t u v w
  have hu : u.Canonical := by
    refine (hs.forEach fun _ _ ht => ht.modPair fun _ hx => hx.load).forEach fun _ _ hu => ?_
    split
    · exact hu.forEach fun _ _ hv => hv.modPair fun _ hx => hx.fillSlot
    · exact hu
  clear_value u
  have hv : v.Canonical := hu.modLanes rfl
  exact (hv.forEach fun _ _ hw => hw.modAxis).emit.done

theorem execKernelActive : (execKernelActive s).Canonical := by
  refine .next ?_
  split
  · exact .ite hs.activateKernel hs
  · exact hs

theorem kernelBoundary : s.kernelBoundary.Canonical := by
  unfold State.kernelBoundary
  exact (hs.forEach fun _ _ ht => ht.activateKernel).modLanes rfl

end Sys2Proof.Machine.State.Canonical

/-! ### Canonical memories: Capacity -/

namespace Sys2Proof.Machine.State.Canonical

variable {s : State} (hs : s.Canonical)
include hs

theorem releaseNode {n} : (s.releaseNode n).Canonical := hs.dropSends.modNode

theorem abortRequests {ax} : (s.abortRequests ax).Canonical := by
  refine hs.modSupply.forEach fun _ _ ht => ?_
  split
  · exact ht.done
  · exact ht

theorem removeGroup {h g} : (s.removeGroup h g).Canonical := by
  refine .ite hs.done (.ite hs.done ?_)
  split
  · exact hs.complete
  · refine done (emit (forEach ?_ fun _ _ ht => ht.releaseNode))
    exact (hs.forEach fun _ _ ht => ht.freeAxisSlot).modHealth.abortRequests

theorem addGroup {h g} : (s.addGroup h g).Canonical :=
  .ite hs.done (((hs.modHealth.forEach fun _ _ ht => ht.modNode).forEach fun _ _ ht => ht.modArm).foldl fun _ _ ht =>
    ht.placeAxis).emit.done

theorem halfRateOn {g ax} : (s.halfRateOn g ax).Canonical := hs.modHealth

theorem halfRate {h g on} : (s.halfRate h g on).Canonical := .ite hs.done (.ite hs.halfRateOn.done (.ite hs.modHealth.done
  hs.done))

theorem applyChange {c} : (s.applyChange c).Canonical := by
  unfold State.applyChange
  split
  · exact hs.migrateNow
  · exact hs.removeGroup
  · exact hs.addGroup
  · exact hs.halfRate

theorem applyChanges : s.applyChanges.Canonical := hs.modHealth.forEach fun _ _ ht => ht.applyChange

theorem capacity {h c} : (s.capacity h c).Canonical := .ite hs.applyChange hs.begin.modHealth

theorem execGroupAdd {h} : (execGroupAdd h s).Canonical := .next hs.capacity

theorem execGroupRemove {h} : (execGroupRemove h s).Canonical := .next hs.capacity

theorem execAxisMigrate {h lane} : (execAxisMigrate h lane s).Canonical := .next (.ite hs.done hs.capacity)

theorem execGroupHalfRate {h on} : (execGroupHalfRate h on s).Canonical := .next (.ite hs.done hs.capacity)

end Sys2Proof.Machine.State.Canonical

/-! ### Canonical memories: SolverImage -/

namespace Sys2Proof.Machine.State.Canonical

variable {s : State} (hs : s.Canonical)
include hs

theorem structLoadOp {h off len} : (s.structLoadOp h off len).Canonical := by
  unfold State.structLoadOp
  extract_lets op k img e gen
  refine .ite hs.done (.ite hs.done (.ite hs.done (.ite hs.done (.ite hs.done (.ite hs.done ?_)))))
  split
  · exact hs.done
  · refine .ite hs.done (.ite hs.done (.ite hs.done (.ite hs.done (.ite hs.done ?_))))
    exact (hs.begin (h := h)).rest rfl

theorem execStructLoad {h winOffset length} : (execStructLoad h winOffset length s).Canonical := .next hs.structLoadOp

theorem factorSlow {k} : (s.factorSlow k).Canonical := by
  unfold State.factorSlow
  split
  · exact .ite hs.emit hs
  · exact hs

theorem structResident {l rest} : (s.structResident l rest).Canonical := .ite hs.modSolver.done
  hs.modSolver.emit.factorSlow.done

theorem execStructLoaded : (execStructLoaded s).Canonical := by
  refine .next ?_
  split
  · exact hs.structResident
  · exact hs

theorem execStructDrop {h} : (execStructDrop h s).Canonical := .next (.ite hs.done (.ite hs.done hs.modSolver.done))

theorem execSolverSelect {h generation} : (execSolverSelect h generation s).Canonical := by
  refine .next ?_
  split
  · exact hs.done
  · exact .ite hs.modSolver.done hs.done

theorem solverUpdateOp {h generation count off} : (s.solverUpdateOp h generation count off).Canonical := by
  dsimp only [State.solverUpdateOp]
  split
  · exact hs.done
  · exact .ite hs.done (.ite hs.done (.ite hs.done (.ite hs.done (.ite hs.done hs.modSolver.done))))

theorem execSolverUpdate {h generation count winOffset} : (execSolverUpdate h generation count winOffset s).Canonical := .next
  hs.solverUpdateOp

end Sys2Proof.Machine.State.Canonical

/-! ### Canonical memories: Solver -/

namespace Sys2Proof.Machine.State.Canonical

variable {s : State} (hs : s.Canonical)
include hs

omit hs in
theorem runEnds {q n} {s : State} (hs : s.Canonical) : (s.runEnds q n).Canonical := by
  induction n generalizing s with
  | zero => exact hs
  | succ n ih =>
    unfold State.runEnds
    split
    · exact .ite (ih hs.endSegment) hs
    · exact hs

theorem endSolve {x outcome it off} : (s.endSolve x outcome it off).Canonical := by
  unfold State.endSolve
  exact hs.modSolver.modHealth

theorem numericEnd {x cause it off} : (s.numericEnd x cause it off).Canonical := hs.emit.endSolve

theorem skipSolve : s.skipSolve.Canonical := hs.modSolver

theorem beginSolve {handle x} : (s.beginSolve handle x).Canonical := by
  unfold State.beginSolve
  extract_lets s1 same placed prows warm rho base brows v z it t t2 t3 t4
  have h2 : t2.Canonical := rest (t := t2) (s := t) hs.modSolver.modSolver rfl
  have h3 : t3.Canonical := by dsimp only [t3]; split; exacts [h2.emit, h2]
  have h4 : t4.Canonical := .ite h3.emit h3
  exact .ite h4.numericEnd h4

theorem execSolveStart : (execSolveStart s).Canonical := by
  refine .next ?_
  split
  · exact .ite hs (.ite hs.skipSolve hs.beginSolve)
  · exact hs

theorem factorDone {x off} : (s.factorDone x off).Canonical := .ite hs.numericEnd (.ite hs.numericEnd (.ite hs.endSolve
  hs.modSolver))

theorem execSolveFactorDone {t} : (execSolveFactorDone t s).Canonical := by
  refine .next ?_
  split
  · exact .ite hs.factorDone hs
  · exact hs

theorem iterate {x off} : (s.iterate x off).Canonical := by
  unfold State.iterate
  split
  · exact hs.numericEnd
  · refine .ite hs.numericEnd ?_
    extract_lets it x1 chk t
    have ht : t.Canonical := .ite (hs.rest rfl) hs
    refine .ite hs.endSolve ?_
    split
    · exact ht.emit.endSolve
    · exact ht.modSolver

theorem execSolveIteration {t} : (execSolveIteration t s).Canonical := by
  refine .next ?_
  split
  · exact .ite hs.iterate hs
  · exact hs

theorem execRhoRefactorDone {t} : (execRhoRefactorDone t s).Canonical := by
  refine .next ?_
  split
  · split
    · exact .ite (.ite hs.modSolver hs.numericEnd) hs
    · exact hs
  · exact hs

theorem execDeadlineInFactor : (execDeadlineInFactor s).Canonical := by
  refine .next ?_
  split
  · refine .ite ?_ hs
    rename_i x _
    have he : (s.endSolve x outDeadlineFactor x.cur (x.deadline - (Config.freeWord s.free).toNat % 20000)).Canonical :=
      hs.endSolve
    exact ⟨he.host, he.lanes⟩
  · exact hs

theorem execDeadlineIter : (execDeadlineIter s).Canonical := by
  refine .next ?_
  split
  · exact .ite hs.endSolve hs
  · exact hs

theorem newSigmas {f} : (s.newSigmas f).Canonical := hs.forEach fun _ _ ht => ht.modSigma

theorem newDvs {f} : (s.newDvs f).Canonical := hs.forEach fun _ _ ht => ht.modAxis

theorem useResult {r} : (s.useResult r).Canonical := by
  unfold State.useResult
  exact (newSigmas (.ite hs.emit hs)).newDvs.modSolver

theorem unusableResult {outcome} : (s.unusableResult outcome).Canonical :=
  .ite hs.emit.newSigmas.newDvs.modSolver (newSigmas (.ite hs.emit.emit hs.emit)).newDvs.modSolver

theorem setRamping : s.setRamping.Canonical := hs.modSolver

theorem solverOff : s.solverOff.Canonical := hs.newSigmas.newDvs.modSolver

theorem solveApply : s.solveApply.Canonical := by
  refine (modSolver (.ite hs.solverOff ?_)).setRamping
  split
  · exact .ite hs.useResult hs.unusableResult
  · exact hs.unusableResult

end Sys2Proof.Machine.State.Canonical

/-! ### Canonical memories: Health -/

namespace Sys2Proof.Machine.State.Canonical

variable {s : State} (hs : s.Canonical)
include hs

theorem lostAxis {a region} : (s.lostAxis a region).Canonical := (requestSs1 (.ite hs.modAxis.closeFree.modAxis
  hs.modAxis)).beginDueSs1.noteFaultStop.emit

theorem takeLane {l t p} : (s.takeLane l t p).Canonical := by
  unfold State.takeLane
  extract_lets st s1 lost s2 s3
  have h1 : s1.Canonical := hs.modPair fun _ hx => PairSt.Canonical.enters hx.copyPair st rfl rfl
  exact h1.modLogLane.emit.raiseIrq.foldl fun _ _ hu => hu.lostAxis

theorem lossTick : s.lossTick.Canonical := by
  refine hs.forEach fun _ _ ht => ?_
  split
  · exact .ite (ht.modLogLane.foldl fun _ _ hu => hu.lostAxis) ht
  · exact ht

theorem execLaneTakeover {lane} : (execLaneTakeover lane s).Canonical := by
  refine .next ?_
  split
  · split
    · exact .ite hs.takeLane hs
    · exact hs
  · exact hs

theorem supervisorLost : s.supervisorLost.Canonical := (hs.modSolver.modHost (by rfl)).modHealth.modPower

theorem supervisorMismatch : s.supervisorMismatch.Canonical := .ite hs (.ite (hs.modSolver.modHost rfl) hs.supervisorLost)

theorem execSupervisorLockstepMismatch : (execSupervisorLockstepMismatch s).Canonical := .next hs.supervisorMismatch

theorem execSupervisorRebuild {firstPasses secondPasses} : (execSupervisorRebuild firstPasses secondPasses s).Canonical :=
  .next (.ite (.ite (hs.modHost rfl) hs.emit) hs)

theorem execSupervisorLoss {cause} : (execSupervisorLoss cause s).Canonical := .next (.ite hs.supervisorLost hs)

theorem execSupervisorLossStop : (execSupervisorLossStop s).Canonical := by
  refine .next ?_
  split
  · exact .ite hs.noteAllStopped.modHealth.ss1AllZones hs
  · exact hs

theorem laneWordLost {p address} : (s.laneWordLost p address).Canonical := by
  dsimp only [State.laneWordLost]
  split
  · split
    · exact hs.modLogLane
    · exact hs
  · split
    · split
      · exact hs.modLogLane
      · exact hs
    · exact hs.pairFails

theorem engineMemoryLost {e} : (s.engineMemoryLost e).Canonical := hs.modSep.emit.channelFault

theorem dropRecord {address} : (s.dropRecord address).Canonical := hs.modRec

theorem warmLost : s.warmLost.Canonical := .ite hs.modHealth hs.modSolver

theorem memoryLost {m address} : (s.memoryLost m address).Canonical := by
  unfold State.memoryLost
  split
  · exact hs.supervisorMismatch
  · exact hs.laneWordLost
  · exact hs.engineMemoryLost
  · exact hs.engineMemoryLost
  · exact hs.modSolver
  · exact hs.warmLost
  · exact hs.dropRecord
  · exact hs
  · exact hs.modHealth
  · exact hs.modNode

theorem execEccUncorrectable {mem address} : (execEccUncorrectable mem address s).Canonical := .next
  hs.modHealth.emit.memoryLost

theorem execScrubPass {corrected durationMs} : (execScrubPass corrected durationMs s).Canonical := .next (hs.forEach fun _ _ ht
  => ht.modHealth.emit).modHealth

theorem execAgeingMeasurement {margins} : (execAgeingMeasurement margins s).Canonical := by
  refine .next (hs.forEach fun _ _ ht => ?_)
  split
  · exact .ite ht.modClk.emit ht.modClk
  · exact ht

theorem clockBoundary : s.clockBoundary.Canonical := hs.forEach fun _ _ ht => .ite ht (.ite ht.modClk (.ite ht ht.modClk.emit))

theorem reEstimate : s.reEstimate.Canonical := by
  refine hs.forEach fun t k ht => ?_
  split
  · extract_lets y v u
    have hv : v.Canonical := ht.modSolver
    have hu : u.Canonical := hv.rest rfl
    exact .ite hu.factorSlow hu
  · exact ht

theorem takeStep {d} : (s.takeStep d).Canonical := .ite hs.modClk.emit.reEstimate hs.modClk.emit

theorem execClockStep {domain} : (execClockStep domain s).Canonical := .next (.ite hs.takeStep hs)

omit hs in
theorem forceLanes {steps fuel} {s : State} (hs : s.Canonical) : (s.forceLanes steps fuel).Canonical := by
  induction fuel generalizing s with
  | zero => exact hs
  | succ n ih =>
    unfold State.forceLanes
    split
    · exact hs
    · split
      · exact hs
      · exact ih hs.halfRateOn.emit

theorem execHalfRateForced {domain} : (execHalfRateForced domain s).Canonical := .next (.ite (modClk (.ite hs.forceLanes hs))
  hs)

theorem eyeOf {k m} : (s.eyeOf k m).Canonical := by
  unfold State.eyeOf
  exact modHealth (.ite hs.emit hs)

theorem execEyeMonitor {margins} : (execEyeMonitor margins s).Canonical := .next (hs.forEach fun _ _ ht => ht.eyeOf)

theorem execThermalHigh {temp sensor} : (execThermalHigh temp sensor s).Canonical := .next (.ite hs.modHealth.emit hs)

theorem execBackgroundLate {task overdueMs} : (execBackgroundLate task overdueMs s).Canonical := .next hs.modHealth.emit

theorem execSerdesCalibration {unit t} : (execSerdesCalibration unit t s).Canonical := .next (.ite hs hs.modHealth)

theorem availTick : s.availTick.Canonical := .ite hs.modHealth.modHealth hs.modHealth

end Sys2Proof.Machine.State.Canonical

/-! ### Canonical memories: Time -/

namespace Sys2Proof.Machine.State.Canonical

variable {s : State} (hs : s.Canonical)
include hs

theorem setUtc {o cause} : (s.setUtc o cause).Canonical := .ite hs.modTime hs.modTime.emit

theorem leapOffset {d} : (s.leapOffset d).Canonical := by
  unfold State.leapOffset
  exact hs.setUtc.modDom.modTime

theorem leapTick : s.leapTick.Canonical := by
  unfold State.leapTick
  split
  · exact hs
  · exact .ite (modTime (.ite hs.leapOffset hs)) (.ite hs.leapOffset hs)

theorem execLeapSecond : (execLeapSecond s).Canonical := by
  refine .next ?_
  split
  · exact hs
  · exact .ite hs.modTime (.ite hs.leapOffset hs)

theorem advanceTime : s.advanceTime.Canonical := by
  unfold State.advanceTime
  exact hs.modTime.modTick

theorem execTimeSlewDone : (execTimeSlewDone s).Canonical := .next (.ite hs.modTime.emit hs)

theorem execTimeSet {h sec ns} : (execTimeSet h sec ns s).Canonical := .next (.ite hs.done (.ite hs.done hs.modTime.done))

theorem refreshUsable {d} : (s.refreshUsable d).Canonical := hs.modDom

theorem servoSync {d master ingress} : (s.servoSync d master ingress).Canonical :=
  refreshUsable (.ite (modDom (.ite hs.modDom.modTime hs.modDom)).emit (.ite (modDom (.ite hs.modDom.modTime hs.modDom)) (.ite
    hs.modDom.modTime hs.modDom)))

theorem execPtpSync {m origin ingress} : (execPtpSync m origin ingress s).Canonical := by
  refine .next ?_
  split
  · exact .ite (.ite hs.modDom hs.modDom.servoSync) hs
  · exact hs

theorem chooseMaster {d} : (s.chooseMaster d).Canonical := by
  unfold State.chooseMaster
  split
  · exact hs
  · exact refreshUsable (.ite hs.modDom.setUtc hs.modDom)

theorem execPtpAnnounce {m a} : (execPtpAnnounce m a s).Canonical := by
  refine .next ?_
  split
  · exact .ite hs.modDom.chooseMaster.modDom hs.modDom.chooseMaster
  · exact hs

theorem execAnnounceTimeout {domain} : (execAnnounceTimeout domain s).Canonical := .next (.ite hs.modDom.refreshUsable hs)

theorem domainRestart {d} : (s.domainRestart d).Canonical := hs.modDom.refreshUsable

theorem domainLost {d} : (s.domainLost d).Canonical := (refreshUsable (.ite hs.emit hs)).modDom

theorem followDomain {d} : (s.followDomain d).Canonical := by
  refine .ite (modTime ?_).modTime.emit (modTime ?_).emit
  · split
    · exact hs.setUtc
    · exact hs
  · split
    · exact hs.setUtc
    · exact hs

theorem holdover : s.holdover.Canonical := .ite hs.modTime.emit hs

theorem timeBoundary : s.timeBoundary.Canonical := by
  unfold State.timeBoundary
  extract_lets t
  have ht : t.Canonical := hs.domainLost.domainLost
  refine .ite ht ?_
  split
  · exact .ite ht ht.followDomain.timeCause
  · exact ht.holdover.timeCause

theorem queueFrame {p q f} : (s.queueFrame p q f).Canonical := hs.modTime

theorem egress {p q f} : (s.egress p q f).Canonical := hs.queueFrame.modTime

theorem egressTick : s.egressTick.Canonical := hs.modTime

theorem forwardV6 {m k queue t} : (s.forwardV6 m k queue t).Canonical := hs.egress.modTime.emitAt

theorem transitOp {m k residence t} : (s.transitOp m k residence t).Canonical := .ite hs (.ite hs (.ite hs.forwardV6 (.ite
  hs.egress.modTime.modTime hs.egress.modTime)))

theorem execPtpTransit {m kind x} : (execPtpTransit m kind x s).Canonical := .next hs.transitOp

theorem followUpTransit {m t} : (s.followUpTransit m t).Canonical := by
  refine .ite hs (.ite hs.forwardV6 ?_)
  split
  · exact hs.egress.modTime
  · exact hs.egress.modTime.emitAt

theorem followUpServo {m origin} : (s.followUpServo m origin).Canonical := by
  unfold State.followUpServo
  split
  · split; exacts [.ite hs.modDom.servoSync hs, hs]
  · exact hs

theorem execPtpFollowUp {m origin t} : (execPtpFollowUp m origin t s).Canonical := .next hs.followUpTransit.followUpServo

theorem execTcResidenceExpiry : (execTcResidenceExpiry s).Canonical := .next hs.modTime

theorem execPtpPdelayReq {m ingress egress} : (execPtpPdelayReq m ingress egress s).Canonical := .next (.ite
  hs.modEth.queueFrame hs)

theorem delayReq {p d} : (s.delayReq p d).Canonical := hs.modDom.queueFrame

theorem requestDelay {p} : (s.requestDelay p).Canonical := .ite hs.modEth.modEth.queueFrame (hs.modEth.forEach fun _ _ ht =>
  ht.delayReq)

theorem execPdelayReqInterval {port} : (execPdelayReqInterval port s).Canonical := .next (.ite hs.requestDelay hs)

theorem pathResp {m request reqIngress} : (s.pathResp m request reqIngress).Canonical := by
  unfold State.pathResp
  split
  · exact .ite hs.modDom hs
  · exact hs

theorem execPtpDelayResp {m request response reqIngress respIngress} : (execPtpDelayResp m request response reqIngress
  respIngress s).Canonical := .next (.ite hs.pathResp (.ite hs.modEth hs))

theorem bridgeOp {p f} : (s.bridgeOp p f).Canonical := .ite (.ite hs hs.modTime) (egress (.ite hs hs.modTime))

theorem execBridgeFrame {port f} : (execBridgeFrame port f s).Canonical := .next (.ite hs.bridgeOp hs)

theorem ethLink {p up} : (s.ethLink p up).Canonical := .ite hs.modEth (hs.modEth.modTime.forEach fun _ _ ht =>
  ht.modDom.chooseMaster)

theorem execEthLinkChange {port up} : (execEthLinkChange port up s).Canonical := .next (.ite hs hs.ethLink)

theorem execPpsOutSecond : (execPpsOutSecond s).Canonical := .next (.ite hs.modTime hs)

theorem execPpsOutPulseEnd : (execPpsOutPulseEnd s).Canonical := .next (.ite hs.modTime hs)

theorem execPpsInEdge {t} : (execPpsInEdge t s).Canonical := .next hs.modTime

theorem ppsTick : s.ppsTick.Canonical := .ite hs hs.modTime

theorem adoptLink {c arrival} : (s.adoptLink c arrival).Canonical := .ite hs.modLink (.ite hs.modTime hs.modTick.modTime)

theorem sendJoin {c} : (s.sendJoin c).Canonical := .ite hs.modLink.sendFrame hs

theorem linkCycleStartOp {c arrival trip} : (s.linkCycleStartOp c arrival trip).Canonical := .ite
  hs.modLink.modLink.adoptLink.timeCause.sendJoin hs.modLink.modLink

theorem execLinkCycleStart {f arrival trip} : (execLinkCycleStart f arrival trip s).Canonical := by
  refine .next (.ite ?_ hs)
  split
  · exact hs.linkCycleStartOp.repeatDown
  · exact hs.frameError

theorem linkGranted : s.linkGranted.Canonical := .ite hs.modLink.modTime.timeCause hs.modLink

theorem execLinkGrantReceived {f} : (execLinkGrantReceived f s).Canonical := .next (.ite (.ite hs.frameError (.ite
  hs.repeatDown.linkGranted hs.repeatDown)) hs)

end Sys2Proof.Machine.State.Canonical

/-! ### Canonical memories: Recorder -/

namespace Sys2Proof.Machine.State.Canonical

variable {s : State} (hs : s.Canonical)
include hs

theorem setLim {code l} : (s.setLim code l).Canonical := hs.modRec

theorem recTick : s.recTick.Canonical := hs.modRec

theorem writeRecord {code sev obj args cycle time stamped} : (s.writeRecord code sev obj args cycle time stamped).Canonical :=
  .ite hs.modRec.winWrite.raiseIrq hs.modRec.winWrite

theorem closeSuppression {code} : (s.closeSuppression code).Canonical := hs.writeRecord.setLim

theorem judge {code obj args cycle time stamped} : (s.judge code obj args cycle time stamped).Canonical :=
  .ite (writeRecord (.ite (.ite hs.closeSuppression hs) (setLim (.ite hs.closeSuppression hs)))) hs.setLim.modRec

theorem takeEvent : s.takeEvent.Canonical := by
  unfold State.takeEvent
  split
  · exact hs
  · exact hs.modRec.judge
  · exact hs.modRec.writeRecord

theorem execRecWrite : (execRecWrite s).Canonical := .next (.ite hs hs.takeEvent)

theorem recBoundary : s.recBoundary.Canonical := hs.forEach fun _ _ ht => .ite ht.closeSuppression ht

theorem setRecLimit {v} : (s.setRecLimit v).Canonical := .ite hs.setLim (hs.foldl fun _ _ ht => ht.setLim)

theorem unpoison {off len} : (s.unpoison off len).Canonical := hs.modHealth

theorem copyOn {k c} : (s.copyOn k c).1.Canonical := hs.winWrite.unpoison

theorem copyTick : s.copyTick.Canonical :=
  hs.foldl fun _ _ ht => modRec (rest ht.copyOn (by rfl))

theorem recReadOp {h fromSeq off count} : (s.recReadOp h fromSeq off count).Canonical := by
  unfold State.recReadOp
  extract_lets first last p
  refine .ite hs.done (.ite hs.done ?_)
  have hp : p.1.Canonical := hs.copyOn
  exact begin (modRec (hp.rest (by rfl)))

theorem execRecRead {h fromSeq winOffset count} : (execRecRead h fromSeq winOffset count s).Canonical := .next hs.recReadOp

theorem execRecReadDone : (execRecReadDone s).Canonical := by
  refine .next ?_
  split
  · exact hs.copyOn.modRec.complete
  · exact hs

end Sys2Proof.Machine.State.Canonical

/-! ### Canonical memories: Params -/

namespace Sys2Proof.Machine.State.Canonical

variable {s : State} (hs : s.Canonical)
include hs

theorem refSourceStart {a} : (s.refSourceStart a).Canonical := hs.modAxis

theorem trackStart {a} : (s.trackStart a).Canonical := hs.modAxis

theorem committed {num idx v} : (s.committed num idx v).Canonical := by
  unfold State.committed
  refine .ite hs.refSourceStart (.ite (.ite hs.refSourceStart hs) (.ite (.ite hs.modAxis hs) (.ite (.ite hs.trackStart hs)
    (.ite hs.portModeCommitted (.ite ?_ (.ite hs.domainRestart (.ite hs.setRecLimit hs)))))))
  split
  · exact hs.factorSlow
  · exact hs

theorem clearCounter {num idx} : (s.clearCounter num idx).Canonical :=
  .ite hs.modAxis (.ite (hs.modPort.forEach fun _ _ ht => ht.setIllegal) (.ite hs.modPort (.ite hs.modPort (.ite hs.modCmp
    (.ite hs.modCmp (.ite hs.modNode (.ite hs.modNode (.ite hs.modTime (.ite hs.modTime (.ite hs.modTime (.ite hs.modCan (.ite
    hs.modRec (.ite hs.modRec (.ite hs.modHealth (.ite hs.modHealth hs)))))))))))))))

theorem commitValue {r num idx v} : (s.commitValue r num idx v).Canonical := .ite hs.clearCounter (committed (.ite hs
  hs.setParam))

theorem writeOne {obj num v} : (s.writeOne obj num v).state.Canonical := by
  unfold State.writeOne
  split
  · exact hs
  · extract_lets t
    split
    · exact hs
    · split
      · exact hs
      · split
        · exact hs
        · exact hs.forEach fun _ _ ht => ht.commitValue

theorem commitWrite {h num v} : (s.commitWrite h num v).Canonical := hs.writeOne.complete

omit hs in
theorem writeAll {k l} {s : State} (hs : s.Canonical) : (s.writeAll k l).2.Canonical := by
  induction l generalizing s k with
  | nil => exact hs
  | cons p r ih =>
    unfold State.writeAll
    extract_lets w
    split
    · exact ih hs.writeOne
    · exact hs

theorem commitSet {x} : (s.commitSet x).Canonical := by
  have hw := hs.writeAll (k := 0) (l := x.records)
  unfold State.commitSet
  split
  · rename_i t ht
    rw [ht] at hw
    exact hw.done
  · exact hs.complete

theorem stagePlan {h num v} : (s.stagePlan h num v).Canonical := (hs.rest (by rfl)).begin

theorem commitPlanning : s.commitPlanning.Canonical :=
  ((hs.rest (by rfl)).forEach fun _ _ ht => ht.commitSet).forEach fun _ _ ht => ht.commitWrite

theorem paramWriteOp {h num v} : (s.paramWriteOp h num v).Canonical := by
  unfold State.paramWriteOp
  split
  · exact hs.complete
  · exact .ite hs.complete (.ite hs.commitWrite hs.stagePlan)

theorem execParamWrite {h number value} : (execParamWrite h number value s).Canonical := .next hs.paramWriteOp

theorem paramReadNow {h num staged} : (s.paramReadNow h num staged).Canonical := by
  unfold State.paramReadNow
  split
  · exact hs.complete
  · refine .ite hs.complete (.ite hs.complete (.ite hs.complete (.ite hs.complete ?_)))
    split
    · exact hs.complete
    · exact complete (hs.rest (by rfl))

theorem answerReads : s.answerReads.Canonical := (hs.modHost (by rfl)).forEach fun _ _ ht => ht.paramReadNow

theorem paramReadOp {h num staged} : (s.paramReadOp h num staged).Canonical := .ite (hs.begin.modHost rfl) hs.paramReadNow

theorem execParamRead {h number staged} : (execParamRead h number staged s).Canonical := .next hs.paramReadOp

theorem execParamInfo {h number} : (execParamInfo h number s).Canonical := by
  refine .next ?_
  split
  · exact hs.complete
  · exact hs.done

end Sys2Proof.Machine.State.Canonical

/-! ### Canonical memories: Images -/

namespace Sys2Proof.Machine.State.Canonical

variable {s : State} (hs : s.Canonical)
include hs

theorem discardImages : s.discardImages.Canonical := by
  unfold State.discardImages
  extract_lets loads kern sets t u sep saf sel lns sol hlt par
  have ht : t.Canonical := hs.forEach fun _ _ ht => ht.done
  have hu : u.Canonical := .ite ht.emit.stopAllZones ht
  exact ⟨hu.host, hu.lanes⟩

theorem dropSupply : s.dropSupply.Canonical := by
  unfold State.dropSupply
  exact (hs.forEach fun _ _ ht => by split; exacts [ht.done, ht.done, ht]).modSupply

theorem acceptCell {c} : (s.acceptCell c).Canonical := (hs.discardImages.dropSupply.rest (by rfl)).modSupply.syncIdentity

theorem loadCell {h gen rs} : (s.loadCell h gen rs).Canonical := .ite hs.done hs.acceptCell.done

theorem loadSchedule {h gen rs} : (s.loadSchedule h gen rs).Canonical := .ite hs.done hs.modSelide.done

theorem loadKinematics {h gen img rs} : (s.loadKinematics h gen img rs).Canonical := .ite hs.done hs.modSolver.modSep.done

theorem loadSafety {h gen img rs} : (s.loadSafety h gen img rs).Canonical := .ite hs.done hs.modSafety.inputsBegin.done

theorem loadParamset {h gen rs} : (s.loadParamset h gen rs).Canonical := .ite hs.done (hs.begin.rest rfl)

theorem loadKernel {h gen rs} : (s.loadKernel h gen rs).Canonical := .ite hs.done hs.acceptKernel

theorem imageLoadOp {h off len} : (s.imageLoadOp h off len).Canonical := by
  unfold State.imageLoadOp
  extract_lets img dev e gen
  refine .ite hs.done (.ite hs.done (.ite hs.done (.ite hs.done (.ite hs.done ?_))))
  split
  · exact hs.done
  · split
    · exact hs.loadCell
    · exact hs.loadSchedule
    · exact hs.loadKinematics
    · exact hs.loadSafety
    · exact hs.loadParamset
    · exact hs.loadKernel

theorem execImageLoad {h winOffset length} : (execImageLoad h winOffset length s).Canonical := .next hs.imageLoadOp

end Sys2Proof.Machine.State.Canonical

/-! ### Canonical memories: Commands -/

namespace Sys2Proof.Machine.State.Canonical

variable {s : State} (hs : s.Canonical)
include hs

theorem identifyOp {h} : (s.identifyOp h).Canonical := hs.complete

theorem execIdentify {h} : (execIdentify h s).Canonical := .next hs.identifyOp

theorem linkStatusOp {h} : (s.linkStatusOp h).Canonical := hs.complete

theorem execLinkStatus {h} : (execLinkStatus h s).Canonical := .next hs.linkStatusOp

theorem enterRun : s.enterRun.Canonical := (hs.forEach fun _ _ ht => ht.modPair fun _ hx => hx.enter).setPhase

theorem deviceRunOp {h} : (s.deviceRunOp h).Canonical :=
  .ite hs.done (.ite hs.done (.ite hs.complete (.ite hs.done (.ite hs.done (.ite hs.enterRun.done hs.begin.modPower)))))

theorem execDeviceRun {h} : (execDeviceRun h s).Canonical := .next hs.deviceRunOp

theorem runBoundary : s.runBoundary.Canonical := .ite hs (hs.modPower.enterRun.forEach fun _ _ ht => ht.done)

theorem withdrawn {h t} (ht : s.withdrawn h = some t) : t.Canonical := by
  unfold State.withdrawn at ht
  repeat' split at ht
  all_goals cases ht
  · exact hs.rest rfl
  · exact hs.rest rfl
  · exact hs.modSupply
  · exact hs.modSolver
  · exact hs.modHealth
  · exact hs.modRec
  · exact hs.modLanes rfl
  · exact hs.modSafety
  · exact hs.modPower

theorem dropSend {n h} : (s.dropSend n h).Canonical := hs.modNode

theorem abortBegun {h e} : (s.abortBegun h e).Canonical := by
  unfold State.abortBegun
  extract_lets ok
  split
  · exact hs.sweepEndOp.done
  · split
    · exact hs.dropSend.done.done
    · split
      · rename_i ht
        exact (hs.withdrawn ht).done.done
      · exact hs.done

theorem abortOp {h tag ring} : (s.abortOp h tag ring).Canonical := by
  unfold State.abortOp
  split
  · exact hs.done
  · refine .ite hs.done ?_
    split
    · exact .ite (hs.begin.modHost rfl) hs.modLink.done.done
    · exact .ite hs.abortBegun hs.done.done

theorem execAbort {h targetTag targetRing} : (execAbort h targetTag targetRing s).Canonical := .next (.ite hs.done hs.abortOp)

theorem settleAborts : s.settleAborts.Canonical := hs.forEach fun _ _ ht => .ite ht (ht.modHost (by rfl)).done

theorem hostOut {c o} (ho : hostOut c s = some o) : o.Canonical := by
  unfold Machine.hostOut at ho
  split at ho
  · cases ho; exact hs.execIdentify
  · cases ho; exact hs.execLinkStatus
  · cases ho; exact hs.execParamWrite
  · cases ho; exact hs.execParamRead
  · cases ho; exact hs.execParamInfo
  · cases ho; exact hs.execDeviceRun
  · cases ho; exact hs.execSelideStart
  · cases ho; exact hs.execNodeUnmute
  · cases ho; exact hs.execNodeWake
  · cases ho; exact hs.execNodeSleep
  · cases ho; exact hs.execNodeSend
  · cases ho; exact hs.execTimeSet
  · cases ho; exact hs.execSafeArm
  · cases ho; exact hs.execSafeArmGroup
  · cases ho; exact hs.execSafeDisarm
  · cases ho; exact hs.execSafeReset
  · cases ho; exact hs.execSafeStop
  · cases ho; exact hs.execSafeSls
  · cases ho; exact hs.execMove
  · cases ho; exact hs.execHalt
  · cases ho; exact hs.execHome
  · cases ho; exact hs.execAlign
  · cases ho; exact hs.execAxisEnable
  · cases ho; exact hs.execAxisDisable
  · cases ho; exact hs.execFaultReset
  · cases ho; exact hs.execCmpLoad
  · cases ho; exact hs.execSweep
  · cases ho; exact hs.execImageLoad
  · cases ho; exact hs.execStructLoad
  · cases ho; exact hs.execStructDrop
  · cases ho; exact hs.execSolverSelect
  · cases ho; exact hs.execSolverUpdate
  · cases ho; exact hs.execCanMode
  · cases ho; exact hs.execCanSend
  · cases ho; exact hs.execCanCancel
  · cases ho; exact hs.execCanAbd
  · cases ho; exact hs.execCanRecover
  · cases ho; exact hs.execGroupAdd
  · cases ho; exact hs.execGroupRemove
  · cases ho; exact hs.execAxisMigrate
  · cases ho; exact hs.execGroupHalfRate
  · cases ho; exact hs.execRecRead
  · cases ho; exact hs.execAbort
  · cases ho

theorem hostEffect {c} : (s.hostEffect c).Canonical := by
  unfold State.hostEffect
  split
  · rename_i t ht
    exact hs.hostOut ht t rfl
  · exact hs

end Sys2Proof.Machine.State.Canonical

/-! ### Canonical memories: LinkRec -/

namespace Sys2Proof.Machine.State.Canonical

variable {s : State} (hs : s.Canonical)
include hs

theorem modLinkRx {d f} : (s.modLinkRx d f).Canonical := hs.modLink

theorem judgeLinkSub {e d x payload} : (s.judgeLinkSub e d x payload).Canonical := by
  dsimp only [State.judgeLinkSub]
  split
  · exact hs.modLinkRx
  · exact hs.modLinkRx.emit

theorem linkTiming {d f start} : (s.linkTiming d f start).2.Canonical := by
  unfold State.linkTiming
  split
  · exact hs
  · split
    · exact hs
    · split
      · exact hs
      · extract_lets o b dur
        split
        · exact .ite hs.modLinkRx.emit hs.modLinkRx
        · exact hs.modLinkRx.emit

theorem linkFrameOp {d f start} : (s.linkFrameOp d f start).2.Canonical := by
  unfold State.linkFrameOp
  split
  · exact hs
  · split
    · dsimp only
      exact hs.frameError
    · split
      · exact hs
      · extract_lets p
        have hp : p.2.Canonical := hs.linkTiming
        split
        · exact hp
        · exact .ite hp.judgeLinkSub.judgeLinkSub hp.judgeLinkSub.judgeLinkSub.modLinkRx

theorem linkArrives {d f start} : (s.linkArrives d f start).2.Canonical := hs.repeatDown.linkFrameOp

theorem viaLink {device f start rec} {k : State → State} (hk : ∀ t, t.Canonical → (k t).Canonical) :
    (s.viaLink device f start rec k).Canonical := by
  unfold State.viaLink
  extract_lets p
  have hp : p.2.Canonical := hs.linkArrives
  exact .ite (hk _ hp) hp

theorem heard {d} : (s.heard d).Canonical := hs.modLink

theorem repeatRecord {b} : (s.repeatRecord b).Canonical := .ite hs.modLink hs

theorem relayArrives {es r} : (s.relayArrives es r).Canonical := .ite (hs.forEach fun _ _ ht => ht.modRelay) hs

theorem caprelOp {device r} : (s.caprelOp device r).Canonical := hs.heard.repeatRecord.relayArrives

theorem execLinkCaprel {device r f start} : (execLinkCaprel device r f start s).Canonical := by
  refine .next ?_
  have hp : (s.linkArrives (s.linkSender device.val) f start).2.Canonical := hs.linkArrives
  exact .ite hp (.ite hp.caprelOp (.ite hp.relayArrives hp))

theorem execLinkGstat {device r f start} : (execLinkGstat device r f start s).Canonical := .next (hs.viaLink fun _ ht =>
  ht.heard.modLink)

theorem execLinkSigma {device group sigma f start} : (execLinkSigma device group sigma f start s).Canonical := .next
  (hs.viaLink fun _ ht => ht.heard.repeatRecord.modLink)

end Sys2Proof.Machine.State.Canonical

/-! ### Canonical memories: LinkCmd -/

namespace Sys2Proof.Machine.State.Canonical

variable {s : State} (hs : s.Canonical)
include hs

theorem forward {h c desc devs t eff} : (s.forward h c desc devs t eff).Canonical := by
  unfold State.forward
  exact hs.modLink

theorem linkCmdOp {seq effect desc} : (s.linkCmdOp seq effect desc).Canonical := by
  unfold State.linkCmdOp
  split
  · exact hs
  · exact hs.modLink.modLink

theorem execLinkCmd {seq effect descriptor f start} : (execLinkCmd seq effect descriptor f start s).Canonical := .next (.ite
  (hs.viaLink fun _ ht => ht.linkCmdOp) hs)

theorem runForwarded {l} : (s.runForwarded l).Canonical := by
  unfold State.runForwarded
  extract_lets d h e t
  have ht : t.Canonical := (hs.modHost (by rfl)).asCurrent fun _ hu => hu.hostEffect
  exact ht.modLink

theorem linkGoOp {seq go} : (s.linkGoOp seq go).Canonical := hs.modLink

theorem execLinkCmdgo {seq go f start} : (execLinkCmdgo seq go f start s).Canonical := .next (.ite (hs.viaLink fun _ ht =>
  ht.linkGoOp) hs)

theorem memberEffects {pick} : (s.memberEffects pick).Canonical := hs.forEach fun _ _ ht => ht.runForwarded

theorem linkAnswer {c h device status obj} : (s.linkAnswer c h device status obj).Canonical := by
  unfold State.linkAnswer
  exact hs.modLink

theorem linkAckOp {device seq status obj} : (s.linkAckOp device seq status obj).Canonical := by
  unfold State.linkAckOp
  split
  · split; exacts [.ite hs.linkAnswer hs, hs]
  · exact hs

theorem execLinkCmdack {device seq status obj f start} : (execLinkCmdack device seq status obj f start s).Canonical := .next
  (.ite (hs.viaLink fun _ ht => ht.linkAckOp) hs)

theorem farResult {c} : (s.farResult c).2.Canonical := by
  unfold State.farResult
  split
  · exact hs
  · exact hs
  · exact hs.rest rfl
  · exact hs

theorem dropLinkCmd {c} : (s.dropLinkCmd c).Canonical := hs.modLink

theorem leaderEffect {e c} : (s.leaderEffect e c).Canonical := by
  have ht : (s.dropLinkCmd c).Canonical := hs.dropLinkCmd
  exact .ite (.ite ht.hostEffect ht.farResult.complete) (.ite ht.complete ht.done)

end Sys2Proof.Machine.State.Canonical

/-! ### Canonical memories: HostIf -/

namespace Sys2Proof.Machine.State.Canonical

variable {s : State} (hs : s.Canonical)
include hs

theorem hostResetOp {cause} : (s.hostResetOp cause).Canonical := (hs.modHost (by rfl)).emit

theorem execHostReset {cause} : (execHostReset cause s).Canonical := .next (.ite hs hs.hostResetOp)

theorem tailWrite {r v} : (s.tailWrite r v).Canonical := .ite hs.modRing (.ite (hs.modRing.modHost rfl)
  (hs.modRing.modRing.modHost (by rfl)).emit)

theorem execCmdTailWrite {ring value} : (execCmdTailWrite ring value s).Canonical := .next (.ite hs.tailWrite hs)

theorem headWrite {r v} : (s.headWrite r v).Canonical := .ite hs (hs.modRing.modHost rfl)

theorem execCplHeadWrite {ring value} : (execCplHeadWrite ring value s).Canonical := .next (.ite hs.headWrite hs)

theorem ringCtrlWrite {r v} : (s.ringCtrlWrite r v).Canonical := .ite (hs.modRing.modRing.modHost rfl) hs.modRing

theorem execRingEnable {ring value} : (execRingEnable ring value s).Canonical := .next (.ite hs.ringCtrlWrite hs)

theorem execRingReset {ring value} : (execRingReset ring value s).Canonical := .next (.ite hs.ringCtrlWrite hs)

theorem irqClear {mask} : (s.irqClear mask).Canonical := hs.modHost rfl

theorem execIrqStatusClear {mask} : (execIrqStatusClear mask s).Canonical := .next (.ite hs.irqClear hs)

theorem signalRing {r} : (s.signalRing r).Canonical := hs.raiseIrq.modRing

theorem execIrqCoalHoldoff {ring} : (execIrqCoalHoldoff ring s).Canonical := by
  refine .next ?_
  split
  · exact .ite hs.signalRing hs
  · exact hs

theorem writeCompletion {r c rest} : (s.writeCompletion r c rest).Canonical := by
  unfold State.writeCompletion
  extract_lets x n addr t count
  have ht : t.Canonical := by
    refine modHostIf (modRing hs) fun _ hh => ⟨hh.scratch, hh.window, ?_⟩
    dsimp only
    exact cellsWf_writeCells addr (cplBytes c n.toNat) hh.hostMem
  exact .ite ht.signalRing ht

theorem completionWriteOp {r} : (s.completionWriteOp r).Canonical := by
  dsimp only [State.completionWriteOp]
  split
  · exact .ite hs hs.writeCompletion
  · exact hs

theorem execCompletionWrite {ring} : (execCompletionWrite ring s).Canonical := .next hs.completionWriteOp

theorem execTimeNsRead : (execTimeNsRead s).Canonical := .next (.ite (hs.bootClock.modHost rfl) hs)

theorem msixRelease {k} : (s.msixRelease k).Canonical := .ite (hs.modHost (by rfl)).raiseVector hs

theorem msixWrite {o v} : (s.msixWrite o v).Canonical := (hs.modHost (by rfl)).msixRelease

theorem bootCmd {v} : (s.bootCmd v).Canonical := by
  unfold State.bootCmd
  extract_lets o
  have ho : o.Canonical := by
    dsimp only [o]
    split
    · exact hs.execLoadFw
    · exact hs.execBurnCustKey
    · exact hs.execBurnVendorDisable
    · exact .next hs
  clear_value o
  split
  · exact ho _ rfl
  · exact hs

theorem ringRegWrite {r k v} : (s.ringRegWrite r k v).Canonical := by
  unfold State.ringRegWrite
  split
  · exact hs.tailWrite
  · exact hs.modRing
  · exact hs.modRing
  · exact hs.headWrite
  · exact hs.ringCtrlWrite
  · exact hs

theorem regWrite {o v} : (s.regWrite o v).Canonical := by
  unfold State.regWrite
  refine .ite hs (.ite hs.ringRegWrite (.ite ?_ (.ite hs.msixWrite ?_)))
  · exact hs.modHostIf fun _ hh => ⟨cellsWf_write _ _ hh.scratch, hh.window, hh.hostMem⟩
  · split
    · exact hs.bootCmd
    · exact hs.modHost rfl
    · exact hs.modHost rfl
    · exact hs.irqClear
    · exact hs.modHost rfl
    · exact hs.modHost rfl
    · exact hs

theorem cfgSpaceWrite {o v} : (s.cfgSpaceWrite o v).Canonical := by
  dsimp only [State.cfgSpaceWrite]
  split
  · exact hs.modHost rfl
  · exact hs.modHost rfl
  · exact hs.modHost rfl
  · exact hs.modHost rfl
  · exact .ite (hs.modHost rfl) (.ite ((hs.modHost (by rfl)).forEach fun _ _ ht => ht.msixRelease) hs)
  · exact hs

theorem execRegisterWrite {offset value} : (execRegisterWrite offset value s).Canonical := .next (.ite (.ite hs.regWrite hs)
  (.ite hs hs.cfgSpaceWrite))

theorem windowWrite {off data} : (s.windowWrite off data).Canonical := by
  dsimp only [State.windowWrite]
  split
  · exact unpoison (.ite hs.canRxRd hs.canEvRd)
  · exact .ite hs.winWrite.unpoison hs.emit

theorem execHostWindowWrite {offset data} : (execHostWindowWrite offset data s).Canonical := .ite .fault (.next (.ite
  hs.windowWrite hs))

theorem rejectNow {e status} : (s.rejectNow e status).Canonical := by
  unfold State.rejectNow
  exact hs.modRing.modHost rfl

theorem acceptCmd {e d desc c} : (s.acceptCmd e d desc c).Canonical := .ite (hs.modHost rfl) (hs.modHost (by rfl)).forward

theorem acceptOne {r n} : (s.acceptOne r n).Canonical := by
  dsimp only [State.acceptOne]
  split
  · exact (hs.modHost (by rfl)).modRing.acceptCmd
  · exact (hs.modHost (by rfl)).modRing.rejectNow

theorem execCommandAccept : (execCommandAccept s).Canonical := by
  refine .next ?_
  split
  · exact hs.acceptOne
  · exact hs

end Sys2Proof.Machine.State.Canonical

/-! ### Canonical memories: Intake -/

namespace Sys2Proof.Machine.State.Canonical

variable {s : State} (hs : s.Canonical)
include hs

theorem laneSample {a c cause} : (s.laneSample a c cause).Canonical := .ite hs.takeSample hs.modAxis

theorem engineSamples {a c} : (s.engineSamples a c).Canonical := hs.engineSample.engineSample

theorem nodeEngineSamples {a n ch} : (s.nodeEngineSamples a n ch).Canonical := by
  unfold State.nodeEngineSamples
  exact hs.engineSample.engineSample

theorem freshWord {a w} : (s.freshWord a w).Canonical :=
  .ite (laneSample (.ite (powerDown (.ite hs.modAxis.commLost hs.modAxis)) (.ite hs.modAxis.commLost hs.modAxis))).nodeIndex
    (laneSample (.ite (powerDown (.ite hs.modAxis.commLost hs.modAxis)) (.ite hs.modAxis.commLost hs.modAxis)))

theorem nodeAxisIntake {a n ch} : (s.nodeAxisIntake a n ch).Canonical :=
  .ite hs (takeLoad (.ite hs.modAxis.nodeEngineSamples.laneSample hs.modAxis.nodeEngineSamples.freshWord))

theorem portAxisIntake {a p} : (s.portAxisIntake a p).Canonical :=
  .ite (portIndex (.ite hs.modAxis.engineSamples.laneSample.modAxis hs.modAxis.engineSamples.laneSample)) (.ite
    hs.modAxis.engineSamples.laneSample.modAxis hs.modAxis.engineSamples.laneSample)

theorem portIntake {p} : (s.portIntake p).Canonical := .ite hs (hs.forEach fun _ _ ht => ht.portAxisIntake).modPort

theorem personIntake {r} : (s.personIntake r).Canonical := hs.takeReport.takeReport

theorem intakeOp : s.intakeOp.Canonical := by
  unfold State.intakeOp
  extract_lets t u v w x y
  have hu : u.Canonical := by
    refine hs.finishMoves.nodeIntake.forEach fun _ _ hu => ?_
    split
    · exact hu.nodeAxisIntake
    · exact hu
  have hw : w.Canonical := (hu.forEach fun _ _ ht => ht.portIntake).forEach fun _ _ ht => ht.personIntake
  have hx : x.Canonical := captureV0 hw.ss1PlaneRead
  exact (hx.forEach fun _ _ ht => ht.homeIntake).intakeWrite.modTick

theorem execIntake : (execIntake s).Canonical := .next (.ite hs.intakeOp hs)

end Sys2Proof.Machine.State.Canonical

/-! ### Canonical memories: Start -/

namespace Sys2Proof.Machine.State.Canonical

variable {s : State} (hs : s.Canonical)
include hs

theorem bistClock {d m} : (s.bistClock d m).Canonical := .ite hs.modClk hs.modClk.emit

theorem bistTime {ms} : (s.bistTime ms).Canonical := hs.modTime

theorem bistOp {r} : (s.bistOp r).Canonical := by
  unfold State.bistOp
  extract_lets t u v w x
  have hv : v.Canonical := by
    refine (hs.bistTime.forEach fun _ _ ht => ht.modPair fun _ hx => hx.pairAfter).forEach fun _ _ ht => ?_
    split
    · exact ht.bistClock
    · exact ht
  have hx : x.Canonical := (hv.modHost (by rfl)).modPower.emit
  exact .ite hx.setPhase.modTick hx.setPhase

theorem execBistDone {r} : (execBistDone r s).Canonical := .next (.ite hs.bistOp hs)

end Sys2Proof.Machine.State.Canonical

/-! ### Canonical memories: Status -/

namespace Sys2Proof.Machine.State.Canonical

variable {s : State} (hs : s.Canonical)
include hs

theorem statusBlocks : s.statusBlocks.Canonical := by
  unfold State.statusBlocks
  extract_lets out t u v
  have ht : t.Canonical := hs.modHostIf fun _ hh => ⟨hh.scratch, cellsFrom_filter _ hh.window, hh.hostMem⟩
  have hv : v.Canonical := (ht.forEach fun _ _ hw => hw.winWrite).forEach fun _ _ hw => hw.winWrite
  exact .ite (hv.forEach fun _ _ hw => hw.winWrite) hv

theorem closeInterval : s.closeInterval.Canonical := hs.modTick.modSep

theorem readSensors {r} : (s.readSensors r).Canonical := (hs.modHost (by rfl)).modHealth

theorem telemetryOp {r} : (s.telemetryOp r).Canonical := hs.closeInterval.readSensors.winWrite.raiseIrq

theorem execTelemetryWrite {r} : (execTelemetryWrite r s).Canonical := .next (.ite hs (.ite (hs.modHost rfl) hs.telemetryOp))

theorem execSupervisorTakeover {durationUs} : (execSupervisorTakeover durationUs s).Canonical := by
  refine .next (.ite ?_ hs)
  split
  · exact (hs.modHost (by rfl)).emit.raiseIrq.telemetryOp
  · exact (hs.modHost (by rfl)).emit.raiseIrq

end Sys2Proof.Machine.State.Canonical

/-! ### Canonical memories: Tick -/

namespace Sys2Proof.Machine.State.Canonical

variable {s : State} (hs : s.Canonical)
include hs

theorem nextEdge {first} : (s.nextEdge first).Canonical := by
  unfold State.nextEdge
  extract_lets a t n u
  have ha : a.Canonical := .ite hs.modTick hs
  exact ha.advanceTime.modTick.modTick

theorem lanesBack : s.lanesBack.Canonical := hs.forEach fun _ _ ht => .ite (ht.modPair fun _ hx => hx.enter) ht

theorem clearPasses : s.clearPasses.Canonical := by
  unfold State.clearPasses
  exact (hs.modLanes (by rfl)).modSep

theorem portTick : s.portTick.Canonical := by
  refine hs.forEach fun u p hu => ?_
  extract_lets m act t
  have ht : t.Canonical := hu.modPort
  clear_value t
  have ht' := ht.rest (t := { t with free := t.free + 1 }) rfl
  exact ht'.illegalLimit

theorem edgeWork : s.edgeWork.Canonical :=
  hs.finishMoves.quietTick.clearPasses.lanesBack.nextReserve.lossTick.portTick.indexShifts.leapTick.egressTick.trunkTick
    |>.nodeTick.linkTick.relayTick.enterDegradedLanes.safetyTick.availTick.recTick.copyTick

theorem takeEffect {seq} : (s.takeEffect seq).Canonical := by
  unfold State.takeEffect
  split
  · refine .ite (hs.asCurrent fun _ ht => ?_) hs
    split
    · exact ht.leaderEffect
    · exact ht.hostEffect
  · exact hs

theorem takeEffects {pick} : (s.takeEffects pick).Canonical := hs.forEach fun _ _ ht => ht.takeEffect

theorem stageWrite {seq} : (s.stageWrite seq).Canonical := by
  unfold State.stageWrite
  split
  · split
    · refine hs.asCurrent fun _ ht => ?_
      split
      · exact ht.stagePlan
      · exact .ite ht.dropLinkCmd.stagePlan ht.leaderEffect
    · exact hs
  · exact hs

theorem step1 : s.step1.Canonical := hs.takeEffects.memberEffects

theorem step2 : s.step2.Canonical := by
  unfold State.step2
  extract_lets t
  have ht : t.Canonical := (hs.forEach fun _ _ hu => hu.stageWrite).commitPlanning
  exact ht.takeEffects.memberEffects.armBoundary

theorem step3 : s.step3.Canonical := by
  unfold State.step3
  extract_lets t p u
  have ht : t.Canonical := hs.applyChanges.takeEffects.memberEffects
  have hu : u.Canonical := ht.placeNodes.placeAll
  exact (hu.forEach fun _ _ hv => hv.degBoundary).planLanes.clockBoundary

theorem step4 : s.step4.Canonical :=
  .ite hs.solveApply.trackBoundary.timeBoundary.modSolver
    hs.solveApply.trackBoundary.timeBoundary.modSolver.kernelBoundary.runBoundary.recBoundary

theorem step5 : s.step5.Canonical := hs.supplyAndQueues.homeTick

theorem step6 : s.step6.Canonical :=
  .ite hs.takeEffects.memberEffects.settleAborts hs.takeEffects.memberEffects.settleAborts.answerReads

theorem checkpoint : s.checkpoint.Canonical := .ite (hs.modHost rfl) ((hs.rest (by rfl)).modHost rfl)

theorem effects : s.effects.Canonical := by
  unfold State.effects
  extract_lets live t1 t2 t3 t4 t5 t6
  have h1 : t1.Canonical := .ite hs.step1 hs
  have h2 : t2.Canonical := .ite h1.step2 h1
  have h3 : t3.Canonical := .ite h2 h2.cfgWrite
  have h4 : t4.Canonical := .ite (step4 (.ite h3.step3 h3)) h3
  have h6 : t6.Canonical := .ite h4.step5.step6 h4.step5
  exact .ite h6.checkpoint h6

theorem abortAtCycle : s.abortAtCycle.Canonical := hs.forEach fun _ _ ht => ht.done

theorem selideBegins : s.selideBegins.Canonical := by
  refine abortAtCycle (setPhase (modTime (hs.forEach fun _ _ ht => ht.modPair fun x hx => ?_)))
  split
  · exact hx.enter
  · split
    · exact hx.enter
    · exact hx

theorem tickEdge : s.tickEdge.Canonical :=
  (edgeWork (.ite hs.answerReads.nextEdge.selideBegins hs.answerReads.nextEdge)).effects.ppsTick.sendCycleStarts.memberSends

theorem execTickEdge : (execTickEdge s).Canonical := .next (.ite hs.tickEdge hs)

theorem execFirstSelideTick : (execFirstSelideTick s).Canonical := .next (.ite hs.tickEdge hs)

theorem execShadowCutoff : (execShadowCutoff s).Canonical := .next (.ite hs.modTick.shadowWrite.answerReads.statusBlocks hs)

end Sys2Proof.Machine.State.Canonical

/-! ### Canonical memories: the step -/

namespace Sys2Proof.Machine

variable {s : State}

theorem State.Canonical.exec (hs : s.Canonical) (c : Instr) : Out.Canonical (Machine.exec c s) := by
  cases c with
  | add | sub | and | or | xor | min | max | abs | neg | ash | lsh | cmp | tst | mov | clip | mpyr | add64 | sub64 |
    addi | andi | ori | xori | cmpi | ldi | ashi | lshi | mac | msu | mpy | mpyn | cmac | cmsu | cmpy | cmpyn |
    cmacc | cmsuc | cmpyc | cmpync | dualMac | mvad | mvad64 | mvda | clra | adda | suba | mvaa | nega | absa | sha |
    rnda | ld | st | ld64 | st64 | pld | mvc | mvd | ldc | ldcy | ldcp | modp | modi | br | call | ret | rpt | wait |
    nop | undefinedInstruction => exact .next hs.laneRow
  | railValid => exact hs.execRailValid
  | railInvalid => exact hs.execRailInvalid
  | porstNLow => exact hs.execPorstNLow
  | internalResetRelease => exact hs.execInternalResetRelease
  | strapSense => exact hs.execStrapSense
  | romReady => exact hs.execRomReady
  | loadFw => exact hs.execLoadFw
  | fwRunning => exact hs.execFwRunning
  | burnCustKey => exact hs.execBurnCustKey
  | burnVendorDisable => exact hs.execBurnVendorDisable
  | fuseWriteDone => exact hs.execFuseWriteDone
  | bistDone => exact hs.execBistDone
  | refclkLoss => exact hs.execRefclkLoss
  | hostReset => exact hs.execHostReset
  | cmdTailWrite => exact hs.execCmdTailWrite
  | commandAccept => exact hs.execCommandAccept
  | cplHeadWrite => exact hs.execCplHeadWrite
  | completionWrite => exact hs.execCompletionWrite
  | irqCoalHoldoff => exact hs.execIrqCoalHoldoff
  | ringEnable => exact hs.execRingEnable
  | ringReset => exact hs.execRingReset
  | irqStatusClear => exact hs.execIrqStatusClear
  | timeNsRead => exact hs.execTimeNsRead
  | registerWrite => exact hs.execRegisterWrite
  | hostWindowWrite => exact hs.execHostWindowWrite
  | canRxRdWrite => exact hs.execCanRxRdWrite
  | identify => exact hs.execIdentify
  | linkStatus => exact hs.execLinkStatus
  | paramWrite => exact hs.execParamWrite
  | paramRead => exact hs.execParamRead
  | paramInfo => exact hs.execParamInfo
  | deviceRun => exact hs.execDeviceRun
  | selideStart => exact hs.execSelideStart
  | firstSelideTick => exact hs.execFirstSelideTick
  | bringupTimeout => exact hs.execBringupTimeout
  | bringupComplete => exact hs.execBringupComplete
  | nodeUnmute => exact hs.execNodeUnmute
  | nodeWake => exact hs.execNodeWake
  | nodeSleep => exact hs.execNodeSleep
  | nodeSend => exact hs.execNodeSend
  | timeSet => exact hs.execTimeSet
  | safeArm => exact hs.execSafeArm
  | safeArmGroup => exact hs.execSafeArmGroup
  | safeDisarm => exact hs.execSafeDisarm
  | safeReset => exact hs.execSafeReset
  | safeStop => exact hs.execSafeStop
  | safeSls => exact hs.execSafeSls
  | move => exact hs.execMove
  | halt => exact hs.execHalt
  | home => exact hs.execHome
  | align => exact hs.execAlign
  | axisEnable => exact hs.execAxisEnable
  | axisDisable => exact hs.execAxisDisable
  | faultReset => exact hs.execFaultReset
  | cmpLoad => exact hs.execCmpLoad
  | sweep => exact hs.execSweep
  | sweepEnd => exact hs.execSweepEnd
  | imageLoad => exact hs.execImageLoad
  | structLoad => exact hs.execStructLoad
  | structLoaded => exact hs.execStructLoaded
  | structDrop => exact hs.execStructDrop
  | solverSelect => exact hs.execSolverSelect
  | solverUpdate => exact hs.execSolverUpdate
  | canMode => exact hs.execCanMode
  | canModeApply => exact hs.execCanModeApply
  | canSend => exact hs.execCanSend
  | canCancel => exact hs.execCanCancel
  | canAbd => exact hs.execCanAbd
  | canAbdDone => exact hs.execCanAbdDone
  | canAbdDwell => exact hs.execCanAbdDwell
  | canAbdFail => exact hs.execCanAbdFail
  | canRecover => exact hs.execCanRecover
  | groupAdd => exact hs.execGroupAdd
  | groupRemove => exact hs.execGroupRemove
  | axisMigrate => exact hs.execAxisMigrate
  | groupHalfRate => exact hs.execGroupHalfRate
  | recRead => exact hs.execRecRead
  | recReadDone => exact hs.execRecReadDone
  | abort => exact hs.execAbort
  | tickEdge => exact hs.execTickEdge
  | intake => exact hs.execIntake
  | encFault => exact hs.execEncFault
  | nodeStale => exact hs.execNodeStale
  | laneEventPass => exact hs.execLaneEventPass
  | plausFault => exact hs.execPlausFault
  | userBudget => exact hs.execUserBudget
  | laneEventDeadline => exact hs.execLaneEventDeadline
  | laneEventSlack => exact hs.execLaneEventSlack
  | deadlineLatch => exact hs.execDeadlineLatch
  | laneDegraded => exact hs.execLaneDegraded
  | degradedExpired => exact hs.execDegradedExpired
  | downstreamWindow => exact hs.execDownstreamWindow
  | shadowCutoff => exact hs.execShadowCutoff
  | backgroundLate => exact hs.execBackgroundLate
  | telemetryWrite => exact hs.execTelemetryWrite
  | enginePredictedPass => exact hs.execEnginePredictedPass
  | engineBoundPass => exact hs.execEngineBoundPass
  | personLost => exact hs.execPersonLost
  | relayStale => exact hs.execRelayStale
  | engineLate => exact hs.execEngineLate
  | sepChannelFault => exact hs.execSepChannelFault
  | sepDirectedVerdict => exact hs.execSepDirectedVerdict
  | solveStart => exact hs.execSolveStart
  | solveFactorDone => exact hs.execSolveFactorDone
  | solveIteration => exact hs.execSolveIteration
  | rhoRefactorDone => exact hs.execRhoRefactorDone
  | deadlineInFactor => exact hs.execDeadlineInFactor
  | deadlineIter => exact hs.execDeadlineIter
  | segmentStart => exact hs.execSegmentStart
  | segEnd => exact hs.execSegEnd
  | queueAtRest => exact hs.execQueueAtRest
  | supplyRelease => exact hs.execSupplyRelease
  | startDeferred => exact hs.execStartDeferred
  | homeStageStart => exact hs.execHomeStageStart
  | homeSwitchEdge => exact hs.execHomeSwitchEdge
  | homeChatter => exact hs.execHomeChatter
  | homeStallConfirmed => exact hs.execHomeStallConfirmed
  | homeDone => exact hs.execHomeDone
  | homeLimit => exact hs.execHomeLimit
  | homeTimeout => exact hs.execHomeTimeout
  | indexCheck => exact hs.execIndexCheck
  | idxFault => exact hs.execIdxFault
  | loopClose => exact hs.execLoopClose
  | softStartRamp => exact hs.execSoftStartRamp
  | softStartDone => exact hs.execSoftStartDone
  | softStartFail => exact hs.execSoftStartFail
  | brakeDelayDisable => exact hs.execBrakeDelayDisable
  | alignStep => exact hs.execAlignStep
  | quadEdge => exact hs.execQuadEdge
  | pulseStep => exact hs.execPulseStep
  | portIndexEvent => exact hs.execPortIndexEvent
  | ssiTransfer => exact hs.execSsiTransfer
  | ochreResponse => exact hs.execOchreResponse
  | ochreNoResponse => exact hs.execOchreNoResponse
  | cmpPortCrossing => exact hs.execCmpPortCrossing
  | cmpFire => exact hs.execCmpFire
  | cmpPulseEnd => exact hs.execCmpPulseEnd
  | siQualify => exact hs.execSiQualify
  | siDiscrepancy => exact hs.execSiDiscrepancy
  | tpPulseStart => exact hs.execTpPulseStart
  | tpPulseEnd => exact hs.execTpPulseEnd
  | tpOutFault => exact hs.execTpOutFault
  | safetyCrossCompare => exact hs.execSafetyCrossCompare
  | safeChannelFault => exact hs.execSafeChannelFault
  | pinReadbackFault => exact hs.execPinReadbackFault
  | islandLost => exact hs.execIslandLost
  | safeDegExpired => exact hs.execSafeDegExpired
  | ss1Breach => exact hs.execSs1Breach
  | ss1End => exact hs.execSs1End
  | ss1Tmax => exact hs.execSs1Tmax
  | slsMonitorStart => exact hs.execSlsMonitorStart
  | slsBreach => exact hs.execSlsBreach
  | axisStoRelease => exact hs.execAxisStoRelease
  | zoneRelease => exact hs.execZoneRelease
  | zoneTestDue => exact hs.execZoneTestDue
  | subframeTimeout => exact hs.execSubframeTimeout
  | nodeStoFail => exact hs.execNodeStoFail
  | upstreamDataFrame => exact hs.execUpstreamDataFrame
  | nodeMuted => exact hs.execNodeMuted
  | extFrame => exact hs.execExtFrame
  | join => exact hs.execJoin
  | nodeJoined => exact hs.execNodeJoined
  | leave => exact hs.execLeave
  | nodeGone => exact hs.execNodeGone
  | echo => exact hs.execEcho
  | cycleStartReceived => exact hs.execCycleStartReceived
  | symbolLockLoss => exact hs.execSymbolLockLoss
  | channelLost => exact hs.execChannelLost
  | channelRestored => exact hs.execChannelRestored
  | channelDegExpired => exact hs.execChannelDegExpired
  | linkCaprel => exact hs.execLinkCaprel
  | linkGstat => exact hs.execLinkGstat
  | linkSigma => exact hs.execLinkSigma
  | linkCmd => exact hs.execLinkCmd
  | linkCmdack => exact hs.execLinkCmdack
  | linkCmdgo => exact hs.execLinkCmdgo
  | linkLost => exact hs.execLinkLost
  | laneFailed => exact hs.execLaneFailed
  | laneTakeover => exact hs.execLaneTakeover
  | laneLost => exact hs.execLaneLost
  | laneLossExpired => exact hs.execLaneLossExpired
  | laneRehomed => exact hs.execLaneRehomed
  | laneRecovered => exact hs.execLaneRecovered
  | reserveSelfTest => exact hs.execReserveSelfTest
  | kernelActive => exact hs.execKernelActive
  | supervisorLockstepMismatch => exact hs.execSupervisorLockstepMismatch
  | supervisorTakeover => exact hs.execSupervisorTakeover
  | supervisorRebuild => exact hs.execSupervisorRebuild
  | supervisorLoss => exact hs.execSupervisorLoss
  | supervisorLossStop => exact hs.execSupervisorLossStop
  | eccUncorrectable => exact hs.execEccUncorrectable
  | scrubPass => exact hs.execScrubPass
  | ageingMeasurement => exact hs.execAgeingMeasurement
  | clockStep => exact hs.execClockStep
  | halfRateForced => exact hs.execHalfRateForced
  | eyeMonitor => exact hs.execEyeMonitor
  | thermalHigh => exact hs.execThermalHigh
  | thermalTrip => exact hs.execThermalTrip
  | ptpSync => exact hs.execPtpSync
  | ptpFollowUp => exact hs.execPtpFollowUp
  | ptpAnnounce => exact hs.execPtpAnnounce
  | announceTimeout => exact hs.execAnnounceTimeout
  | ptpPdelayReq => exact hs.execPtpPdelayReq
  | ptpTransit => exact hs.execPtpTransit
  | tcResidenceExpiry => exact hs.execTcResidenceExpiry
  | timeSlewDone => exact hs.execTimeSlewDone
  | leapSecond => exact hs.execLeapSecond
  | ppsOutSecond => exact hs.execPpsOutSecond
  | ppsInEdge => exact hs.execPpsInEdge
  | canTxAttempt => exact hs.execCanTxAttempt
  | canTxOutcome => exact hs.execCanTxOutcome
  | canBusOn => exact hs.execCanBusOn
  | canRxFrame => exact hs.execCanRxFrame
  | canWake => exact hs.execCanWake
  | recWrite => exact hs.execRecWrite
  | bridgeFrame => exact hs.execBridgeFrame
  | ethLinkChange => exact hs.execEthLinkChange
  | pdelayReqInterval => exact hs.execPdelayReqInterval
  | ptpDelayResp => exact hs.execPtpDelayResp
  | pcieLinkUp => exact hs.execPcieLinkUp
  | symbolLockGain => exact hs.execSymbolLockGain
  | linkCycleStart => exact hs.execLinkCycleStart
  | linkGrantReceived => exact hs.execLinkGrantReceived
  | canRxError => exact hs.execCanRxError
  | ppsOutPulseEnd => exact hs.execPpsOutPulseEnd
  | ochreRequest => exact hs.execOchreRequest
  | serdesCalibration => exact hs.execSerdesCalibration
  | boundaryScanInstruction => exact hs.execBoundaryScanInstruction

/-- Settles O4: the command in front keeps the memories canonical, and so does the end of its queue. -/
theorem stepKeepsMemoriesCanonical : Obligations.StepKeepsMemoriesCanonical := by
  intro s t hs ht
  rw [memoriesCanonical_iff] at hs ⊢
  unfold Machine.step at ht
  split at ht
  · cases ht
    exact hs
  · next c rest _ =>
    have hr : State.Canonical { s with pending := rest } := hs.rest rfl
    exact hr.exec c t ht

end Sys2Proof.Machine

/-! ### Flag codes of lane code (R309 to R313, R346) -/

namespace Sys2Proof.Machine
open Sys2Proof.Claims

/-! #### Ranges and rounding -/

theorem store_eq_stored (sat : Bool) (n : Nat) (v : Int) : store sat n v = stored sat n v := by
  have hpos : (0 : Int) < 2 ^ (n - 1) := Int.pow_pos (by decide)
  unfold store stored satS wrapS clampI
  generalize (2 ^ (n - 1) : Int) = m at hpos
  split
  · split
    · omega
    · split <;> omega
  · rfl

theorem not_fits (n : Nat) (v : Int) : (!fits n v) = outside n v := by
  unfold fits outside
  rw [Bool.not_and, ← decide_not, ← decide_not]
  simp only [not_le, not_lt]

theorem roundAt_eq_rounded (trunc : Bool) (v : Int) (n : Nat) : roundAt trunc v n = rounded trunc v n := by
  unfold roundAt rounded
  refine if_congr Iff.rfl rfl ?_
  have hpow : (2 : Int) * 2 ^ n = 2 ^ (n + 1) := by rw [pow_succ, mul_comm]
  have hpos : (0 : Int) < 2 ^ n := Int.pow_pos (by decide)
  unfold rdiv
  rw [if_neg (not_le.mpr hpos), hpow]
  obtain h | h | h := lt_trichotomy v 0
  · rw [if_neg (not_le.mpr h), Int.sign_eq_neg_one_of_neg h]
    push_cast
    rw [abs_of_neg h, Int.neg_one_mul]
  · subst h
    rw [if_pos le_rfl, Int.sign_zero, Int.zero_mul, mul_zero, zero_add]
    exact Int.ediv_eq_zero_of_lt hpos.le (by omega)
  · rw [if_pos h.le, Int.sign_eq_one_of_pos h]
    push_cast
    rw [abs_of_pos h, Int.one_mul]

/-! #### The word of the flags -/

/-- The bits from Z to SC. -/
def LaneRegs.flagBits (w : LaneRegs) : List Bool := (List.range 8).map w.flags.getLsbD

/-- The registers with the bits from Z to SC as listed. -/
def LaneRegs.withFlags (w : LaneRegs) (l : List Bool) : LaneRegs := { w with flags := flagWord w l }

theorem testBit_foldr_bits (l : List Bool) (i : Nat) :
    (l.foldr (fun (b : Bool) n => b.toNat + 2 * n) 0).testBit i = l.getD i false := by
  induction l generalizing i with
  | nil => simp
  | cons b l ih =>
    rw [List.foldr_cons]
    cases i with
    | zero => cases b <;> simp [Nat.testBit_zero]
    | succ i =>
      rw [Nat.testBit_succ, List.getD_cons_succ, ← ih]
      congr 1
      cases b <;> simp only [Bool.toNat_false, Bool.toNat_true] <;> omega

theorem getLsbD_flagWord (w : LaneRegs) {l : List Bool} (hl : l.length = 8) {i : Nat} (hi : i < 32) :
    (flagWord w l).getLsbD i = if i < 8 then l.getD i false else w.flags.getLsbD i := by
  have hmask : (0xFFFFFF00 : Word).getLsbD i = decide (8 ≤ i) := by
    revert i
    decide
  rw [flagWord, BitVec.getLsbD_or, BitVec.getLsbD_and, BitVec.getLsbD_ofNat, testBit_foldr_bits, hmask, decide_eq_true hi]
  split
  next h => simp [Nat.not_le.mpr h]
  next h => simp [Nat.not_lt.mp h, hl]

theorem getLsbD_setBit (w : Word) {k : Nat} (v : Bool) {i : Nat} (hi : i < 32) :
    (setBit w k v).getLsbD i = if i = k then v else w.getLsbD i := by
  have hbit : (BitVec.ofNat 32 (2 ^ k)).getLsbD i = decide (i = k) := by
    rw [BitVec.getLsbD_ofNat, Nat.testBit_two_pow, decide_eq_true hi, Bool.true_and]
    exact decide_eq_decide.mpr eq_comm
  unfold setBit
  cases v <;> simp only [Bool.false_eq_true, if_false, if_true, BitVec.getLsbD_or, BitVec.getLsbD_and, BitVec.getLsbD_not, hbit, hi]
  all_goals by_cases h : i = k <;> simp [h]

theorem LaneRegs.withFlags_flagBits (w : LaneRegs) : w.withFlags w.flagBits = w := by
  have hf : flagWord w w.flagBits = w.flags := by
    refine BitVec.eq_of_getLsbD_eq fun i hi => ?_
    rw [getLsbD_flagWord w (by simp [flagBits]) hi]
    split
    next h => simp [flagBits, h]
    next => rfl
  rw [withFlags, hf]

theorem LaneRegs.withFlags_setFlag (w : LaneRegs) {l : List Bool} (hl : l.length = 8) {k : Nat} (hk : k < 8) (v : Bool) :
    (w.withFlags l).setFlag k v = w.withFlags (l.set k v) := by
  have hf : setBit (flagWord w l) k v = flagWord w (l.set k v) := by
    refine BitVec.eq_of_getLsbD_eq fun i hi => ?_
    rw [getLsbD_setBit _ _ hi, getLsbD_flagWord w hl hi, getLsbD_flagWord w (by rwa [List.length_set]) hi]
    split
    next h =>
      subst h
      rw [if_pos hk, List.getD_eq_getElem _ _ (by rw [List.length_set, hl]; exact hk), List.getElem_set_self]
    next h =>
      refine if_congr Iff.rfl ?_ rfl
      rw [List.getD_eq_getElem?_getD, List.getD_eq_getElem?_getD, List.getElem?_set_ne (Ne.symm h)]
  exact congrArg (fun v => { w with flags := v }) hf

theorem LaneRegs.withFlags_stick (w : LaneRegs) {l : List Bool} (hl : l.length = 8) {k : Nat} (hk : k < 8) (v : Bool) :
    (w.withFlags l).stick k v = w.withFlags (l.set k (l.getD k false || v)) := by
  cases v with
  | true => rw [Bool.or_true]; exact w.withFlags_setFlag hl hk true
  | false =>
    rw [Bool.or_false, List.getD_eq_getElem _ _ (hl ▸ hk), List.set_getElem_self]
    rfl

end Sys2Proof.Machine

/-! #### The codes of Table 11.4 -/

namespace Sys2Proof.Machine
open Sys2Proof.Claims

theorem LaneRegs.codeA_eq (w : LaneRegs) (sat : Bool) (n : Nat) (v : Int) :
    w.codeA sat n v = { w with flags := flagWord w (flagsA w sat n v (w.flags.getLsbD 3)) } := by
  conv_lhs => rw [← w.withFlags_flagBits]
  simp [codeA, range, zn, flagBits, List.range, List.range.loop, withFlags_setFlag, withFlags_stick, flV, flSS, flSV, flZ, flN,
    not_fits, store_eq_stored]
  rfl

theorem LaneRegs.codeC_codeA_eq (w : LaneRegs) (sat c : Bool) (n : Nat) (v : Int) :
    (w.codeA sat n v).codeC c = { w with flags := flagWord w (flagsA w sat n v c) } := by
  rw [w.codeA_eq]
  exact w.withFlags_setFlag (k := 3) rfl (by decide) c

theorem LaneRegs.codeL_eq (w : LaneRegs) (v : Word) : w.codeL v.toInt = { w with flags := flagWord w (flagsL w v) } := by
  have hz : decide (v.toInt = 0) = decide (v = 0) := decide_eq_decide.mpr ⟨fun h => BitVec.eq_of_toInt_eq h, fun h => by rw [h]; rfl⟩
  conv_lhs => rw [← w.withFlags_flagBits]
  simp [codeL, zn, flagBits, List.range, List.range.loop, withFlags_setFlag, flV, flC, flZ, flN, hz, ← BitVec.msb_eq_toInt]
  rfl

theorem LaneRegs.codeM2_eq (w : LaneRegs) (sat : Bool) (v u : Int) :
    w.codeM2 sat v u = { w with flags := flagWord w (flagsM w sat v u) } := by
  conv_lhs => rw [← w.withFlags_flagBits]
  simp [codeM2, guardUsed, flagBits, List.range, List.range.loop, withFlags_setFlag, withFlags_stick, flV, flSS, flSV, flZ, flN,
    flGU, not_fits, store_eq_stored]
  simp only [withFlags, flagsM, Bool.or_assoc]
  rfl

/-- With one result, the code for two has it twice. -/
theorem LaneRegs.codeM_eq_codeM2 (w : LaneRegs) (sat : Bool) (v : Int) : w.codeM sat v = w.codeM2 sat v v := by
  conv_lhs => rw [← w.withFlags_flagBits]
  conv_rhs => rw [← w.withFlags_flagBits]
  simp [codeM, codeM2, range, zn, guardUsed, flagBits, List.range, List.range.loop, withFlags_setFlag, withFlags_stick, flV, flSS,
    flSV, flZ, flN, flGU]

theorem LaneRegs.putA_eq (w : LaneRegs) (s : Bool) (d : Nat) (v : Int) :
    let sat := w.mode.getLsbD 0 || s
    w.putA s d v = { w with d := cellWrite w.d d (BitVec.ofInt 32 (stored sat 32 v)),
                            flags := flagWord w (flagsA w sat 32 v (w.flags.getLsbD 3)) } := by
  rw [putA, codeA_eq, store_eq_stored]
  rfl

theorem LaneRegs.codeC_putA_eq (w : LaneRegs) (s c : Bool) (d : Nat) (v : Int) :
    let sat := w.mode.getLsbD 0 || s
    (w.putA s d v).codeC c = { w with d := cellWrite w.d d (BitVec.ofInt 32 (stored sat 32 v)),
                                      flags := flagWord w (flagsA w sat 32 v c) } := by
  rw [putA, codeC_codeA_eq, store_eq_stored]
  rfl

theorem LaneRegs.putM_eq (w : LaneRegs) (s : Bool) (k : Nat) (v : Int) :
    let sat := w.mode.getLsbD 0 || s
    w.putM s k v = { w with a := cellWrite w.a k (BitVec.ofInt 80 (stored sat 80 v)),
                            flags := flagWord w (flagsM w sat v v) } := by
  rw [putM, codeM_eq_codeM2, codeM2_eq, store_eq_stored]
  rfl

end Sys2Proof.Machine

/-! ### The issue of a lane instruction (R301, R315, R319, R325, R326, R332) -/

namespace Sys2Proof.Machine
open Sys2Proof.Claims

variable {s : State} {p : Fin 17} {c : Instr} {f : LaneFn}

/-- The context in which a pair that repeats nothing runs its next instruction. -/
def PairSt.ctx (x : PairSt) (n : Nat) : LCtx := { pair := n, rd := x.regs, rep := false }

theorem LaneRegs.advance_eq_behind (w : LaneRegs) (hf : f.flow = false) (cyc : Nat) :
    w.advance f false cyc = behind w f.size cyc := by
  unfold advance behind
  simp only [hf, Bool.false_eq_true, if_false]
  rcases w.delay with _ | _ | n
  · simp only [Nat.zero_ne_one, if_false, ne_eq, not_true_eq_false, decide_false, Bool.and_false]
  · cases w.target <;> simp only [Nat.zero_add, if_true]
  · simp only [Nat.succ_ne_zero, Nat.add_eq_right, if_false, ne_eq, not_false_eq_true, decide_true, Bool.and_true,
      Nat.add_sub_cancel]
    rfl

theorem PairSt.takeEvent_of_none {x : PairSt} (h : x.events = []) : x.takeEvent = x := by
  unfold takeEvent
  rw [h]

theorem fetchFault_of_fetches {x : PairSt} (h : Fetches x f.size) : fetchFault x.regs f = none := by
  obtain ⟨-, -, -, heven, hend, huser⟩ := h
  unfold fetchFault
  rw [if_neg (by omega), if_neg (fun h => h.2 (huser h.1)), if_neg fun h => by have := heven h.1; omega]

/-- Where no repeat is set up, an instruction runs once. -/
theorem laneRun_of_fetches {x : PairSt} {n : Nat} (h : Fetches x f.size) :
    laneRun n f x = match f.eff (x.ctx n) (x.modRegs LaneRegs.commitPend) with
      | .error e => (x, some e)
      | .ok y => (y.modRegs fun w => w.advance f false f.cycles, none) := by
  unfold laneRun
  rw [fetchFault_of_fetches h, h.2.1]
  rfl

theorem State.leaves_modPair {y : PairSt} (hc : exec c s = .next (s.modPair p.val fun _ => y)) : Leaves s p c y :=
  ⟨_, hc, (s.modPair_pair ..).trans (if_pos rfl), fun _ hq => (s.modPair_pair ..).trans (if_neg hq), rfl⟩

section
variable (hc : exec c s = .next (s.laneRow p.val c)) (hf : laneFn c = some f) (hx : Fetches (s.pair p.val) f.size)
include hc hf hx

/-- An instruction that completes leaves its pair behind it. -/
theorem State.leaves_of_eff {y : PairSt} (hev : y.events = [])
    (he : f.eff ((s.pair p.val).ctx p.val) ((s.pair p.val).modRegs LaneRegs.commitPend) = .ok y) :
    Leaves s p c (y.modRegs fun w => w.advance f false f.cycles) := by
  refine State.leaves_modPair (hc.trans (congrArg _ ?_))
  unfold State.laneRow
  dsimp only
  rw [hf, Option.getD_some, laneRun_of_fetches hx, he, if_pos hx.1]
  exact congrArg (fun z => s.modPair p.val fun _ => z) (PairSt.takeEvent_of_none hev)

theorem State.exec_of_eff_error {e : LaneFault}
    (he : f.eff ((s.pair p.val).ctx p.val) ((s.pair p.val).modRegs LaneRegs.commitPend) = .error e) :
    exec c s = .next ((s.modPair p.val fun _ => s.pair p.val).laneFault p.val e) := by
  refine hc.trans (congrArg _ ?_)
  unfold State.laneRow
  dsimp only
  rw [hf, Option.getD_some, laneRun_of_fetches hx, he, if_pos hx.1]

end

end Sys2Proof.Machine

/-! ### The faults of a lane instruction (R301, R326, R332, R350) -/

namespace Sys2Proof.Machine
open Sys2Proof.Claims

variable {s : State} {p : Fin 17} {c : Instr} {e : LaneFault}

/-! #### What the cancelling of moves spares -/

/-- `t` differs from `s` in the host interface, the lanes and the health alone, and no pair has lost its count of failures. -/
def State.Spares (s t : State) : Prop :=
  { t with host := s.host, lanes := s.lanes, health := s.health } = s ∧ ∀ k, (t.pair k).fails = (s.pair k).fails

namespace State.Spares

theorem refl (s : State) : s.Spares s := ⟨rfl, fun _ => rfl⟩

theorem trans {s t u : State} (h : s.Spares t) (h' : t.Spares u) : s.Spares u :=
  ⟨(congrArg (fun v : State => { v with host := s.host, lanes := s.lanes, health := s.health }) h'.1).trans h.1,
    fun k => (h'.2 k).trans (h.2 k)⟩

theorem foldl {α : Type} {g : State → α → State} (hg : ∀ (t : State) a, t.Spares (g t a)) (l : List α) (s : State) :
    s.Spares (l.foldl g s) :=
  List.foldlRecOn (motive := s.Spares) l g (refl s) fun t ht a _ => ht.trans (hg t a)

theorem modLogLane (l : Nat) (g : LogLane → LogLane) : s.Spares (s.modLogLane l g) := ⟨rfl, fun _ => rfl⟩

theorem done (op : Nat) (h : Hdr) (status : Nat) : s.Spares (s.done op h status) :=
  ⟨congrArg (fun t : State => { t with lanes := s.lanes, health := s.health }) (s.done_frame op h status),
    fun k => by rw [State.pair, State.done_lanes]; rfl⟩

theorem toReserve (q : Nat) : s.Spares (s.toReserve q) := by
  refine ⟨rfl, fun k => ?_⟩
  rw [State.toReserve, State.modPair_pair]
  split
  next h => rw [h]; rfl
  next => rfl

theorem cancelMove (m : Moving) : s.Spares (s.cancelMove m) := by
  have hback : s.Spares ((s.setSlot m.toLane m.toSlot none).setSlot m.fromLane m.fromSlot (some m.axis)) :=
    (modLogLane ..).trans (modLogLane ..)
  unfold State.cancelMove
  extract_lets t
  split
  · exact hback.trans (done ..)
  · exact hback

theorem cancelMoves (l : Nat) : s.Spares (s.cancelMoves l) := by
  unfold State.cancelMoves
  extract_lets hit whys out t back u
  have ht : s.Spares t := ⟨rfl, fun _ => rfl⟩
  refine (ht.trans (foldl (fun u k => ?_) back t)).trans (foldl (fun u m => cancelMove m) _ _)
  split
  · exact toReserve ..
  · exact refl _

theorem planLanes : s.Spares s.planLanes := by
  refine foldl (fun u l => ?_) _ _
  dsimp only
  split <;> exact modLogLane ..

theorem cancelled (l : Nat) : s.Spares (s.cancelled l) := by
  unfold State.cancelled
  extract_lets t
  split
  · exact cancelMoves l
  · exact (cancelMoves l).trans planLanes

end State.Spares

/-! #### In the firmware (R332) -/

/-- The moves that the failure of pair `q` cancels are undone. -/
def State.undone (s : State) (q : Nat) : State :=
  match if (s.pair q).reserve then none else (s.pair q).lane with
  | some l => s.cancelled l
  | none => s

theorem State.spares_undone (q : Nat) : s.Spares (s.undone q) := by
  unfold State.undone
  split
  · exact State.Spares.cancelled _
  · exact State.Spares.refl s

/-- What the failure of a pair does to the state, but for its lane. -/
def State.failed (s : State) (q : Nat) (cause : LaneCause) : State :=
  (((s.undone q).modPair q fun y => y.recovers s.tick.no).emit evLaneFailed s.devRef
    [q, (if (s.pair q).reserve then none else (s.pair q).lane).getD 0xFF, laneCauseCode cause]).raiseIrq 14

/-- A failing pair does to the rest of the state what `failed` says; its lane may change besides. -/
theorem State.pairFails_eq (q : Nat) (cause : LaneCause) (t : Nat) (hw : (s.pair q).working = true) :
    s.pairFails q cause t = s.failed q cause ∨
      ∃ l g, s.pairFails q cause t = ((s.failed q cause).stopLaneSweeps l).modLogLane l g := by
  unfold State.pairFails
  extract_lets x res lane s1 s2 s3
  rw [if_neg (by rw [hw]; decide)]
  have h3 : s3 = s.failed q cause := rfl
  clear_value lane
  split
  · exact .inl h3
  · split
    · exact .inl h3
    · exact .inr ⟨_, _, congrArg (fun t => (State.stopLaneSweeps t _).modLogLane _ _) h3⟩

theorem State.failed_lanes (q : Nat) (cause : LaneCause) :
    (s.failed q cause).lanes = ((s.undone q).modPair q fun y => y.recovers s.tick.no).lanes := State.raiseIrq_lanes _ 14

theorem State.failed_pair (q : Nat) (cause : LaneCause) :
    (s.failed q cause).pair q = ((s.undone q).pair q).recovers s.tick.no := by
  rw [State.pair, s.failed_lanes]
  exact ((s.undone q).modPair_pair ..).trans (if_pos rfl)

theorem State.failed_frame (q : Nat) (cause : LaneCause) :
    { s.failed q cause with host := s.host, lanes := s.lanes, recd := s.recd, health := s.health } = s := by
  rw [State.failed, State.raiseIrq_eq]
  exact congrArg (fun t : State => { t with recd := s.recd }) (s.spares_undone q).1

/-- A record made where the host interface, the lanes and the health differ is the same record. -/
theorem State.records_of_frame {u t : State} {code : Nat} {obj : Word} {args : List Nat}
    (h : { u with host := s.host, lanes := s.lanes, health := s.health } = s) (hr : Records u t code obj args) :
    Records s t code obj args := by
  rw [← h]
  exact hr

theorem State.records_failed (q : Nat) (cause : LaneCause) : Records s (s.failed q cause) evLaneFailed s.devRef
    [q, (if (s.pair q).reserve then none else (s.pair q).lane).getD 0xFF, laneCauseCode cause] := by
  refine State.records_of_frame (u := (s.undone q).modPair q fun y => y.recovers s.tick.no) (s.spares_undone q).1 fun hq => ?_
  rw [State.failed, State.raiseIrq_recd]
  exact State.records_emit _ _ _ _ hq

/-- What PAIR_FAILS says of the state that a failure leaves. -/
def State.FailedBy (s t : State) (p : Fin 17) : Prop :=
  (t.pair p.val).state = lpRecover ∧ (t.pair p.val).recovering = true ∧ (t.pair p.val).lane = none ∧
  (t.pair p.val).fails = min 255 ((s.pair p.val).fails + 1) ∧
  Records s t evLaneFailed s.devRef
    [p.val, (if (s.pair p.val).reserve then none else (s.pair p.val).lane).getD 0xFF, laneCauseCode .firmwareFault] ∧
  t.host.irqStatus.getLsbD 14 = true ∧
  { t with host := s.host, axes := s.axes, lanes := s.lanes, recd := s.recd, health := s.health } = s

/-- What the lane of the pair holds has no part in it. -/
theorem State.FailedBy.modLogLane {t : State} (h : s.FailedBy t p) (l : Nat) (g : LogLane → LogLane) :
    s.FailedBy ((t.stopLaneSweeps l).modLogLane l g) p := h

theorem State.failedBy_failed : s.FailedBy (s.failed p.val .firmwareFault) p := by
  unfold State.FailedBy
  rw [s.failed_pair]
  exact ⟨rfl, rfl, rfl, (incSat_eight _).trans (by rw [(s.spares_undone p.val).2]), s.records_failed p.val .firmwareFault,
    State.raiseIrq_getLsbD _ (by decide),
    congrArg (fun t : State => { t with axes := s.axes }) (s.failed_frame p.val .firmwareFault)⟩

theorem State.failedBy_pairFails (t : Nat) (hw : (s.pair p.val).working = true) :
    s.FailedBy (s.pairFails p.val .firmwareFault t) p := by
  obtain h | ⟨l, g, h⟩ := s.pairFails_eq p.val .firmwareFault t hw
  · exact h ▸ s.failedBy_failed
  · exact h ▸ s.failedBy_failed.modLogLane l g

/-- A pair whose firmware has met a fault. -/
def PairSt.faulted (y : PairSt) : PairSt := { y with regs := { y.regs with fault := true } }

/-- A pair whose user stage a fault has ended. -/
def PairSt.leavesUser (y : PairSt) : PairSt :=
  { y with userAxis := none, regs := { y.regs with mode := y.regs.mode &&& ~~~(8 : Word) } }

theorem State.laneFault_firmware {q : Nat} (h : (s.pair q).regs.user = false) :
    s.laneFault q e = (s.modPair q PairSt.faulted).pairFails q .firmwareFault s.offNow := by
  unfold State.laneFault
  simp only [h]
  rfl

theorem State.laneFault_user {q a : Nat} (h : (s.pair q).regs.user = true) (ha : (s.pair q).userAxis = some a) :
    s.laneFault q e = (s.modPair q PairSt.leavesUser).userFault a e (s.pair q).regs.pc := by
  unfold State.laneFault
  simp only [h, ha]
  rfl

/-- The failure of a pair that has met a fault is the failure of the pair. -/
theorem State.FailedBy.of_faulted {v t : State} (hp : v.pair p.val = (s.pair p.val).faulted)
    (hv : { v with lanes := s.lanes } = s) (h : v.FailedBy t p) : s.FailedBy t p := by
  obtain ⟨hstate, hrec, hlane, hfails, hrecords, hirq, hframe⟩ := h
  rw [hp] at hfails hrecords
  have hv' : { v with host := s.host, lanes := s.lanes, health := s.health } = s :=
    congrArg (fun t : State => { t with host := s.host, health := s.health }) hv
  have hdev : v.devRef = s.devRef := by rw [← hv]; rfl
  rw [hdev] at hrecords
  exact ⟨hstate, hrec, hlane, hfails, State.records_of_frame hv' hrecords, hirq,
    (congrArg (fun u : State => { u with host := s.host, axes := s.axes, lanes := s.lanes, recd := s.recd, health := s.health })
      hframe).trans (congrArg (fun u : State => { u with host := s.host, axes := s.axes, recd := s.recd, health := s.health }) hv)⟩

/-! #### In the user stage (R326) -/

/-- An axis whose user code is disabled. -/
def Axis.withoutUser (x : Axis) : Axis := { x with userDisabled := true, lp := { x.lp with uUser := x.lp.uSat } }

theorem State.userFault_axis (a pc b : Nat) :
    (s.userFault a e pc).axis b = if b = a then (s.axis a).withoutUser else s.axis b :=
  s.modAxis_axis a b Axis.withoutUser

theorem State.userFault_disabled (a pc : Nat) : a ∈ (s.userFault a e pc).lanes.disabled :=
  mem_dedup.mpr (List.mem_append_right _ (List.mem_singleton_self a))

theorem State.userFault_records (a pc : Nat) : Records s (s.userFault a e pc) evUserFault (mkRef clsAxis a)
    [(s.laneOf a).elim 0 Prod.fst, faultCode e, pc] := fun hq =>
  State.emit_keeps _ (State.records_emit _ _ _ _ hq) trivial

theorem State.userFault_frame (a pc : Nat) : { s.userFault a e pc with
    axes := s.axes, lanes := { (s.userFault a e pc).lanes with disabled := s.lanes.disabled }, recd := s.recd } = s := rfl

section
variable {f : LaneFn} (hc : exec c s = .next (s.laneRow p.val c)) (hf : laneFn c = some f)
  (hx : Fetches (s.pair p.val) f.size)
  (he : f.eff ((s.pair p.val).ctx p.val) ((s.pair p.val).modRegs LaneRegs.commitPend) = .error e)
include hc hf hx he

theorem State.pairFails_of_eff_error : PairFails s p c := by
  intro huser hw
  have hself : (s.modPair p.val fun _ => s.pair p.val).pair p.val = s.pair p.val := (s.modPair_pair ..).trans (if_pos rfl)
  have hstep := State.exec_of_eff_error hc hf hx he
  rw [State.laneFault_firmware ((congrArg (fun y : PairSt => y.regs.user) hself).trans huser)] at hstep
  generalize hv : (s.modPair p.val fun _ => s.pair p.val).modPair p.val PairSt.faulted = v at hstep
  have hpair : v.pair p.val = (s.pair p.val).faulted := by
    rw [← hv, State.modPair_pair, if_pos rfl, hself]
  have hframe : { v with lanes := s.lanes } = s := by rw [← hv]; rfl
  refine ⟨_, hstep, State.FailedBy.of_faulted hpair hframe (State.failedBy_pairFails _ ?_)⟩
  rw [hpair]
  exact hw

theorem State.userFaults_of_eff_error : UserFaults s p c (faultCode e) := by
  intro a huser ha
  have hself : (s.modPair p.val fun _ => s.pair p.val).pair p.val = s.pair p.val := (s.modPair_pair ..).trans (if_pos rfl)
  have hstep := State.exec_of_eff_error hc hf hx he
  rw [State.laneFault_user ((congrArg (fun y : PairSt => y.regs.user) hself).trans huser)
    ((congrArg PairSt.userAxis hself).trans ha), hself] at hstep
  generalize hv : (s.modPair p.val fun _ => s.pair p.val).modPair p.val PairSt.leavesUser = v at hstep
  have hpair : v.pair p.val = (s.pair p.val).leavesUser := by
    rw [← hv, State.modPair_pair, if_pos rfl, hself]
  have hframe : { v with lanes := { v.lanes with pairs := s.lanes.pairs } } = s := by rw [← hv]; rfl
  have haxis : v.axes = s.axes := by rw [← hframe]
  have hlaneOf : v.laneOf a = s.laneOf a := by rw [← hframe]; rfl
  have hax := v.userFault_axis (e := e) a (s.pair p.val).regs.pc
  have hdis := v.userFault_disabled (e := e) a (s.pair p.val).regs.pc
  have hrec := v.userFault_records (e := e) a (s.pair p.val).regs.pc
  have hfrm := v.userFault_frame (e := e) a (s.pair p.val).regs.pc
  have hpr : (v.userFault a e (s.pair p.val).regs.pc).pair p.val = v.pair p.val := rfl
  generalize v.userFault a e (s.pair p.val).regs.pc = t at hstep hax hdis hrec hfrm hpr
  have hrest : ∀ b, v.axis b = s.axis b := fun b => by rw [State.axis, haxis]; rfl
  rw [hlaneOf] at hrec
  refine ⟨t, hstep, ?_, ?_, hdis, ?_, hpr.trans hpair, fun b hb => ?_, ?_⟩
  · rw [hax, if_pos rfl]
    rfl
  · rw [hax, if_pos rfl, hrest]
    rfl
  · exact State.records_of_frame
      (congrArg (fun t : State => { t with host := s.host, lanes := s.lanes, health := s.health }) hframe) hrec
  · rw [hax, if_neg hb, hrest]
  · exact (congrArg (fun t : State => { t with
        axes := s.axes, lanes := { t.lanes with pairs := s.lanes.pairs, disabled := s.lanes.disabled }, recd := s.recd })
      hfrm).trans (congrArg (fun t : State => { t with
        axes := s.axes, lanes := { t.lanes with disabled := s.lanes.disabled }, recd := s.recd }) hframe)

theorem State.faults_of_eff_error : Faults s p c (faultCode e) :=
  ⟨State.userFaults_of_eff_error hc hf hx he, State.pairFails_of_eff_error hc hf hx he⟩

end

end Sys2Proof.Machine

/-! ### The arithmetic of lane code (R309, R312, R344, R346, R350) -/

namespace Sys2Proof.Machine
open Sys2Proof.Claims

section
variable {s : State} {p : Fin 17} {c : Instr} {n : Nat} (hc : exec c s = .next (s.laneRow p.val c))
  (hx : Fetches (s.pair p.val) n)
include hc hx

/-- An instruction on the registers alone. -/
theorem State.leaves_regFn {g : LaneRegs → LaneRegs → LaneRegs} (hf : laneFn c = some { size := n, eff := (regFn g).eff }) :
    Leaves s p c { s.pair p.val with regs := behind (g (s.pair p.val).regs (s.pair p.val).regs.commitPend) n 1 } := by
  have h := State.leaves_of_eff hc hf hx (y := (s.pair p.val).modRegs fun w => g w w.commitPend) hx.2.2.1 rfl
  rw [PairSt.modRegs, LaneRegs.advance_eq_behind _ rfl] at h
  exact h

/-- One of one parcel. -/
theorem State.leaves_regs {g : LaneRegs → LaneRegs → LaneRegs} (hf : laneFn c = some (regFn g)) (hn : n = 1) :
    Leaves s p c { s.pair p.val with regs := behind (g (s.pair p.val).regs (s.pair p.val).regs.commitPend) 1 1 } := by
  subst hn
  exact State.leaves_regFn hc hx hf

/-- One that writes a 32-bit result with code A. -/
theorem State.leaves_putA {sb : Bool} {d : Nat} {v : LaneRegs → Int}
    (hf : laneFn c = some { size := n, eff := (regFn fun r w => w.putA sb d (v r)).eff }) :
    let r := (s.pair p.val).regs
    let w := r.commitPend
    let sat := w.mode.getLsbD 0 || sb
    Leaves s p c { s.pair p.val with regs := behind { w with
      d := cellWrite w.d d (BitVec.ofInt 32 (stored sat 32 (v r)))
      flags := flagWord w (flagsA w sat 32 (v r) (w.flags.getLsbD 3)) } n 1 } := by
  intro r w sat
  have h := State.leaves_regFn hc hx hf
  rw [LaneRegs.putA_eq] at h
  exact h

/-- One that writes it with a carry. -/
theorem State.leaves_putA_carry {sb : Bool} {d : Nat} {v : LaneRegs → Int} {k : LaneRegs → Bool}
    (hf : laneFn c = some { size := n, eff := (regFn fun r w => (w.putA sb d (v r)).codeC (k r)).eff }) :
    let r := (s.pair p.val).regs
    let w := r.commitPend
    let sat := w.mode.getLsbD 0 || sb
    Leaves s p c { s.pair p.val with regs := behind { w with
      d := cellWrite w.d d (BitVec.ofInt 32 (stored sat 32 (v r))), flags := flagWord w (flagsA w sat 32 (v r) (k r)) } n 1 } := by
  intro r w sat
  have h := State.leaves_regFn hc hx hf
  rw [LaneRegs.codeC_putA_eq] at h
  exact h

end

/-! #### The 64-bit forms -/

/-- The 64-bit value of a register pair. -/
def LaneRegs.wide (r : LaneRegs) (k : Nat) : BitVec 64 := r.dr (k + 1) ++ r.dr k

theorem LaneRegs.d64_eq_wide (r : LaneRegs) (k : Nat) : r.d64 k = (r.wide k).toInt := by
  unfold d64 wide ds
  rw [BitVec.toInt_append, if_neg (by decide), mul_comm]

theorem uns_toInt (v : BitVec 64) : uns 64 v.toInt = v.toNat := by
  rw [uns, BitVec.ofInt_toInt]

/-- The low word of a 64-bit value. -/
theorem ofInt_low (v : Int) : BitVec.ofInt 32 v = (BitVec.ofInt 64 v).setWidth 32 := by
  refine BitVec.eq_of_toNat_eq ?_
  rw [BitVec.toNat_setWidth, BitVec.toNat_ofInt, BitVec.toNat_ofInt]
  omega

/-- The high word of a 64-bit value. -/
theorem ofInt_high (v : Int) : BitVec.ofInt 32 (v / 2 ^ 32) = (BitVec.ofInt 64 v >>> 32).setWidth 32 := by
  refine BitVec.eq_of_toNat_eq ?_
  rw [BitVec.toNat_setWidth, BitVec.toNat_ushiftRight, BitVec.toNat_ofInt, BitVec.toNat_ofInt, Nat.shiftRight_eq_div_pow]
  omega

theorem LaneRegs.setD64_eq (w : LaneRegs) (k : Nat) (v : Int) :
    let y := BitVec.ofInt 64 v
    w.setD64 k v =
      { w with d := cellWrite (cellWrite w.d k (y.setWidth 32)) (k + 1) ((y >>> 32).setWidth 32) } := by
  intro y
  rw [setD64, setD, setD, ofInt_low, ofInt_high]

theorem guardFn_of_ok {ok : Bool} (f : LaneFn) (h : ok = true) : guardFn ok f = f := if_pos h

theorem guardFn_of_not_ok {ok : Bool} (f : LaneFn) (h : ok = false) : guardFn ok f = { f with eff := undefFn.eff } :=
  if_neg (by rw [h]; decide)

section
variable {s : State} {p : Fin 17} {c : Instr} (hc : exec c s = .next (s.laneRow p.val c)) (hx : Fetches (s.pair p.val) 1)
include hc hx

/-- A 64-bit form on even registers. -/
theorem State.leaves_putA64 {sb : Bool} {d : Nat} {v : LaneRegs → Int} {k : LaneRegs → Bool}
    (hf : laneFn c = some (regFn fun r w => ((w.setD64 d (store (w.sat sb) 64 (v r))).codeA (w.sat sb) 64 (v r)).codeC (k r))) :
    let r := (s.pair p.val).regs
    let w := r.commitPend
    let sat := w.mode.getLsbD 0 || sb
    let y := BitVec.ofInt 64 (stored sat 64 (v r))
    Leaves s p c { s.pair p.val with regs := behind { w with
      d := cellWrite (cellWrite w.d d (y.setWidth 32)) (d + 1) ((y >>> 32).setWidth 32)
      flags := flagWord w (flagsA w sat 64 (v r) (k r)) } 1 1 } := by
  intro r w sat y
  have h := State.leaves_regFn (g := fun r w =>
    ((w.setD64 d (store (w.sat sb) 64 (v r))).codeA (w.sat sb) 64 (v r)).codeC (k r)) hc hx hf
  rw [LaneRegs.codeC_codeA_eq, LaneRegs.setD64_eq, store_eq_stored] at h
  exact h

/-- A form that its operands do not allow (R350). -/
theorem State.faults_of_undef {f : LaneFn} (hf : laneFn c = some { f with eff := undefFn.eff }) (hsize : f.size = 1) :
    Faults s p c 2 :=
  State.faults_of_eff_error (e := .undef) hc hf (hsize.symm ▸ hx) rfl

end

theorem evenReg_iff (k : Fin 16) : evenReg k = true ↔ k.val % 2 = 0 := decide_eq_true_iff

theorem evenRegs_eq_false {i j k : Fin 16} (h : ¬(i.val % 2 = 0 ∧ j.val % 2 = 0 ∧ k.val % 2 = 0)) :
    (evenReg i && evenReg j && evenReg k) = false := by
  refine Bool.eq_false_iff.mpr fun he => h ?_
  simpa only [Bool.and_eq_true, evenReg_iff, and_assoc] using he

theorem laneFn_add64 {p : Fin 17} {sb : Bool} {rd rs rt : Fin 16} (h : rd.val % 2 = 0 ∧ rs.val % 2 = 0 ∧ rt.val % 2 = 0) :
    laneFn (.add64 p sb rd rs rt) = some (regFn fun r w =>
      ((w.setD64 rd.val (store (w.sat sb) 64 ((r.wide rs.val).toInt + (r.wide rt.val).toInt))).codeA (w.sat sb) 64
        ((r.wide rs.val).toInt + (r.wide rt.val).toInt)).codeC
        (decide (2 ^ 64 ≤ (r.wide rs.val).toNat + (r.wide rt.val).toNat))) := by
  refine congrArg some ((guardFn_of_ok _ (by simp only [Bool.and_eq_true, evenReg_iff, h, and_self])).trans ?_)
  simp only [LaneRegs.d64_eq_wide, uns_toInt, Bool.false_eq_true, if_false]

theorem laneFn_sub64 {p : Fin 17} {sb : Bool} {rd rs rt : Fin 16} (h : rd.val % 2 = 0 ∧ rs.val % 2 = 0 ∧ rt.val % 2 = 0) :
    laneFn (.sub64 p sb rd rs rt) = some (regFn fun r w =>
      ((w.setD64 rd.val (store (w.sat sb) 64 ((r.wide rs.val).toInt - (r.wide rt.val).toInt))).codeA (w.sat sb) 64
        ((r.wide rs.val).toInt - (r.wide rt.val).toInt)).codeC
        (decide ((r.wide rs.val).toNat < (r.wide rt.val).toNat))) := by
  refine congrArg some ((guardFn_of_ok _ (by simp only [Bool.and_eq_true, evenReg_iff, h, and_self])).trans ?_)
  simp only [LaneRegs.d64_eq_wide, uns_toInt, if_true]

/-- Settles O28: each form is `putA` or `putA64` of its exact value, and an odd pair name leaves the form undefined. -/
theorem laneArithmeticSaturatesOrWraps : Obligations.LaneArithmeticSaturatesOrWraps := by
  refine ⟨fun s p sb rd rs rt imm n => ?_, fun s p sb rd rs rt => ?_⟩
  · intro x r w sat a b i size put c shifted product
    refine ⟨fun hx => ⟨?_, ?_, ?_, ?_, ?_, ?_, ?_⟩, fun hx => ?_⟩
    · exact State.leaves_putA_carry (v := fun r => (r.dr rs.val).toInt + (r.dr rt.val).toInt)
        (k := fun r => decide (2 ^ 32 ≤ (r.dr rs.val).toNat + (r.dr rt.val).toNat)) rfl hx rfl
    · exact State.leaves_putA_carry (v := fun r => (r.dr rs.val).toInt - (r.dr rt.val).toInt)
        (k := fun r => decide ((r.dr rs.val).toNat < (r.dr rt.val).toNat)) rfl hx rfl
    · exact State.leaves_putA (v := fun r => (r.ds rs.val).natAbs) rfl hx rfl
    · exact State.leaves_putA (v := fun r => -r.ds rs.val) rfl hx rfl
    · exact State.leaves_putA (v := fun r => ashVal (r.ds rs.val) (r.ds rt.val)) rfl hx rfl
    · exact State.leaves_putA (v := fun r => ashVal (r.ds rs.val) n.toInt) rfl hx rfl
    · have h := State.leaves_putA (c := .mpyr p sb rd rs rt) (v := fun r =>
        roundAt r.trunc (if r.frac then 2 * (r.ds rs.val * r.ds rt.val) else r.ds rs.val * r.ds rt.val) 32) rfl hx rfl
      simp only [roundAt_eq_rounded] at h
      exact h
    · exact State.leaves_putA_carry (v := fun r => (r.dr rs.val).toInt + (immS imm).toInt)
        (k := fun r => decide (2 ^ 32 ≤ (r.dr rs.val).toNat + (immS imm).toNat)) rfl hx rfl
  · intro x r w sat even wide a b put hx
    refine ⟨fun h => ⟨?_, ?_⟩, fun h => ⟨?_, ?_⟩⟩
    · exact State.leaves_putA64 (v := fun r => (r.wide rs.val).toInt + (r.wide rt.val).toInt)
        (k := fun r => decide (2 ^ 64 ≤ (r.wide rs.val).toNat + (r.wide rt.val).toNat)) rfl hx (laneFn_add64 h)
    · exact State.leaves_putA64 (v := fun r => (r.wide rs.val).toInt - (r.wide rt.val).toInt)
        (k := fun r => decide ((r.wide rs.val).toNat < (r.wide rt.val).toNat)) rfl hx (laneFn_sub64 h)
    · exact State.faults_of_undef rfl hx (congrArg some (guardFn_of_not_ok _ (evenRegs_eq_false h))) rfl
    · exact State.faults_of_undef rfl hx (congrArg some (guardFn_of_not_ok _ (evenRegs_eq_false h))) rfl

end Sys2Proof.Machine

/-! ### Pointers that move (R314, R320) -/

namespace Sys2Proof.Machine
open Sys2Proof.Claims

section
variable {s : State} {p : Fin 17} {c : Instr} {i : Fin 8} {m : LaneRegs → Int} (hc : exec c s = .next (s.laneRow p.val c))
  (hf : laneFn c = some (modFn i m)) (hx : Fetches (s.pair p.val) 1)
include hc hf hx

theorem State.leaves_modFn {q : Nat} (hq : (s.pair p.val).regs.reach i.val (m (s.pair p.val).regs) = some q) :
    let r := (s.pair p.val).regs
    Leaves s p c { s.pair p.val with regs := behind (r.commitPend.setAddr i.val q (r.space i.val)) 1 1 } := by
  intro r
  have he : (modFn i m).eff ((s.pair p.val).ctx p.val) ((s.pair p.val).modRegs LaneRegs.commitPend) =
      .ok ((s.pair p.val).modRegs fun w => w.commitPend.setAddr i.val q (r.space i.val)) := by
    simp only [modFn, PairSt.ctx, hq]
    rfl
  have h := State.leaves_of_eff hc hf hx (y := (s.pair p.val).modRegs fun w => w.commitPend.setAddr i.val q (r.space i.val))
    hx.2.2.1 he
  rw [PairSt.modRegs, LaneRegs.advance_eq_behind _ rfl] at h
  exact h

theorem State.faults_modFn (hq : (s.pair p.val).regs.reach i.val (m (s.pair p.val).regs) = none) : Faults s p c 1 := by
  refine State.faults_of_eff_error (e := .addr) hc hf hx ?_
  simp only [modFn, PairSt.ctx, hq]

end

/-! #### The correction by one length of the buffer -/

theorem circular_linear (b : Nat) (q : Int) : circular b 0 q = some (q % 65536).toNat := if_pos rfl

theorem circular_within {b l : Nat} {q : Int} (hl : 0 < l) (h : (b : Int) ≤ q) (h' : q < b + l) :
    circular b l q = some q.toNat := by
  unfold circular
  dsimp only
  rw [if_neg hl.ne', if_neg (not_le.mpr h'), if_neg (not_lt.mpr h), if_neg (by omega)]

theorem circular_above {b l : Nat} {q : Int} (hl : 0 < l) (h : (b + l : Int) ≤ q) (h' : q < b + 2 * l) :
    circular b l q = some (q - l).toNat := by
  unfold circular
  dsimp only
  rw [if_neg hl.ne', if_pos h, if_neg (by omega)]

theorem circular_below {b l : Nat} {q : Int} (hl : 0 < l) (h : (b - l : Int) ≤ q) (h' : q < b) :
    circular b l q = some (q + l).toNat := by
  unfold circular
  dsimp only
  rw [if_neg hl.ne', if_neg (by omega), if_pos h', if_neg (by omega)]

theorem circular_outside {b l : Nat} {q : Int} (hl : 0 < l) (h : q < b - l ∨ (b + 2 * l : Int) ≤ q) :
    circular b l q = none := by
  unfold circular
  dsimp only
  rw [if_neg hl.ne']
  obtain h | h := h
  · rw [if_neg (show ¬(b + l : Int) ≤ q by omega), if_pos (show q < b by omega), if_pos (by omega)]
  · rw [if_pos (show (b + l : Int) ≤ q by omega), if_pos (by omega)]

/-- Settles O33: MODI moves its pointer to where `circular` leads. -/
theorem circularAddressing : Obligations.CircularAddressing := by
  intro s p i imm x r b l q moves hx
  have hmoves : ∀ a : Int, circular (cellRead r.b i.val).toNat (cellRead r.l i.val).toNat q = some a.toNat → moves a :=
    fun a ha => State.leaves_modFn (c := .modi p i imm) rfl rfl hx ha
  refine ⟨fun hl => hmoves _ ?_, fun hl h h' => hmoves _ (circular_within (Int.natCast_pos.mp hl) h h'),
    fun hl h h' => hmoves _ (circular_above (Int.natCast_pos.mp hl) h h'), fun hl h h' => hmoves _ (circular_below (Int.natCast_pos.mp hl) h h'),
    fun hl h => State.faults_modFn (c := .modi p i imm) rfl rfl hx (circular_outside (Int.natCast_pos.mp hl) h)⟩
  rw [show (cellRead r.l i.val).toNat = 0 from Int.natCast_eq_zero.mp hl]
  exact circular_linear ..

end Sys2Proof.Machine

/-! ### Moves and control registers of lane code (R311 to R314, R316, R345) -/

namespace Sys2Proof.Machine
open Sys2Proof.Claims

/-! #### What the values in flight leave (R316) -/

/-- The write of a control register leaves the queue of those that wait. -/
theorem LaneRegs.writeCr_pendC (w : LaneRegs) (c : CtrlReg) (v : Word) : (w.writeCr c v).pendC = w.pendC := by
  cases c <;> rfl

theorem LaneRegs.foldl_keeps {α β : Type} {g : LaneRegs → α → LaneRegs} {π : LaneRegs → β} (hg : ∀ w a, π (g w a) = π w)
    (l : List α) (w : LaneRegs) : π (l.foldl g w) = π w :=
  List.foldlRecOn (motive := fun v => π v = π w) l g rfl fun v hv a _ => (hg v a).trans hv

theorem LaneRegs.commitPend_pendC (r : LaneRegs) : r.commitPend.pendC = [] := by
  unfold commitPend
  exact (foldl_keeps (π := LaneRegs.pendC) (fun w (e : CtrlReg × Word) => w.writeCr_pendC e.1 e.2) ..).trans
    (foldl_keeps (π := LaneRegs.pendC) (g := fun t (e : Nat × Word) => { t with d := cellWrite t.d e.1 e.2 }) (fun _ _ => rfl) ..)

/-! #### Moves under ASC (R313) -/

theorem satS_eq_stored (n : Nat) (v : Int) : satS n v = stored true n v := store_eq_stored true n v

theorem not_outside (n : Nat) (v : Int) : fits n v = !outside n v := by
  rw [← not_fits, Bool.not_not]

/-- The least shift at which the value fits. -/
theorem scaleFor_eq {r : LaneRegs} {v : Int} {n w req : Nat} (hreq : req ≤ 16)
    (hfit : outside w (rounded r.trunc v (n + req)) = false ∨ req = 16)
    (hless : ∀ k, k < req → outside w (rounded r.trunc v (n + k)) = true) : scaleFor r v n w = req := by
  have hp : ∀ k, fits w (moveVal r v n k) = !outside w (rounded r.trunc v (n + k)) := fun k => by
    rw [moveVal, roundAt_eq_rounded, not_outside]
  unfold scaleFor upTo
  simp only [hp]
  cases ho : outside w (rounded r.trunc v (n + req)) with
  | false =>
    rw [List.find?_range_eq_some.mpr ⟨by rw [ho]; rfl, List.mem_range.mpr (by omega), fun k hk => by rw [hless k hk]; rfl⟩]
    rfl
  | true =>
    obtain rfl : req = 16 := hfit.resolve_left (by rw [ho]; decide)
    rw [List.find?_range_eq_none.mpr fun k hk => ?_]
    · rfl
    · obtain rfl | hlt := (Nat.lt_succ_iff_lt_or_eq.mp hk).symm
      · rw [ho]; rfl
      · rw [hless k hlt]; rfl

/-- SC is set at once and EXP takes its value later (R313, R316). -/
theorem LaneRegs.control_stick_eq (w : LaneRegs) (m : Cells 32) (sh : Nat) (v : Word) (hw : w.pendC = []) :
    ({ w with d := m }.stick flSC (decide (0 < sh))).control .bexp v =
      { w with d := m, pendC := [(.bexp, v)], flags := if 0 < sh then w.flags ||| (0x80 : Word) else w.flags } := by
  unfold control
  by_cases h : 0 < sh
  · simp only [h, stick, decide_true, if_true, setFlag, hw, List.nil_append]
    rfl
  · simp only [h, stick, decide_false, Bool.false_eq_true, if_false, hw, List.nil_append]

/-- The words that a move of `bits` bits leaves in the registers from `d` on. -/
def moved (bits d : Nat) (m : Cells 32) (v : Int) : Cells 32 :=
  let y := BitVec.ofInt 64 v
  let lo := cellWrite m d (y.setWidth 32)
  if bits = 64 then cellWrite lo (d + 1) ((y >>> 32).setWidth 32) else lo

/-- What a move of `bits` bits from accumulator `k`, rounded at bit `n`, does to the registers. -/
def moveRegs (sb : Bool) (n bits d k : Nat) (r t : LaneRegs) : LaneRegs :=
  if t.asc then
    let sh := max (scaleFor r (r.ac k) n bits) (r.bexp.toNat % 32)
    let m := moved bits d t.d (satS bits (moveVal r (r.ac k) n sh))
    ({ t with d := m }.stick flSC (decide (0 < sh))).control .bexp (BitVec.ofNat 32 sh)
  else
    let v := moveVal r (r.ac k) n 0
    { t with d := moved bits d t.d (store sb bits v) }.codeA sb bits v

theorem moveRegs_plain {sb : Bool} {n bits d k : Nat} {r t : LaneRegs} (h : t.mode.getLsbD 0 = false) :
    let v := rounded (r.mode.getLsbD 1) (cellRead r.a k).toInt n
    moveRegs sb n bits d k r t = { t with
      d := moved bits d t.d (stored sb bits v), flags := flagWord t (flagsA t sb bits v (t.flags.getLsbD 3)) } := by
  intro v
  unfold moveRegs
  rw [if_neg (by rw [LaneRegs.asc, h]; decide)]
  simp only [LaneRegs.codeA_eq, store_eq_stored, moveVal, roundAt_eq_rounded]
  rfl

theorem moveRegs_scaled {sb : Bool} {n bits d k : Nat} {r t : LaneRegs} (h : t.mode.getLsbD 0 = true) (ht : t.pendC = []) :
    let sh := max (scaleFor r (r.ac k) n bits) (r.bexp.toNat % 32)
    moveRegs sb n bits d k r t = { t with
      d := moved bits d t.d (stored true bits (rounded (r.mode.getLsbD 1) (cellRead r.a k).toInt (n + sh)))
      pendC := [(.bexp, BitVec.ofNat 32 sh)], flags := if 0 < sh then t.flags ||| (0x80 : Word) else t.flags } := by
  intro sh
  unfold moveRegs
  rw [if_pos (show t.asc = true from h)]
  simp only [LaneRegs.control_stick_eq _ _ _ _ ht, satS_eq_stored, moveVal, roundAt_eq_rounded]
  rfl

theorem laneFn_mvad (p : Fin 17) (sb : Bool) (d : Fin 16) (an : Fin 4) :
    laneFn (.mvad p sb d an) = some (regFn (moveRegs sb 32 32 d.val an.val)) := by
  have hput : (fun (w : LaneRegs) v => w.setD d.val v) = fun w v => { w with d := moved 32 d.val w.d v } :=
    funext fun w => funext fun v => by rw [LaneRegs.setD, ofInt_low]; rfl
  exact congrArg (fun f => some (moveFn sb 32 32 f an.val)) hput

theorem laneFn_mvad64 (p : Fin 17) (sb : Bool) {d : Fin 16} (an : Fin 4) (h : d.val % 2 = 0) :
    laneFn (.mvad64 p sb d an) = some (regFn (moveRegs sb 0 64 d.val an.val)) := by
  have hput : (fun (w : LaneRegs) v => w.setD64 d.val v) = fun w v => { w with d := moved 64 d.val w.d v } :=
    funext fun w => funext fun v => by rw [LaneRegs.setD64_eq]; rfl
  refine congrArg some ((guardFn_of_ok _ ((evenReg_iff d).mpr h)).trans ?_)
  exact congrArg (fun f => moveFn sb 0 64 f an.val) hput

section
variable {s : State} {p : Fin 17} {c : Instr} (hc : exec c s = .next (s.laneRow p.val c)) (hx : Fetches (s.pair p.val) 1)
include hc hx

section
variable {sb : Bool} {n bits d k : Nat} (hf : laneFn c = some (regFn (moveRegs sb n bits d k)))
include hf

/-- A move without ASC. -/
theorem State.leaves_move (hasc : (s.pair p.val).regs.commitPend.mode.getLsbD 0 = false) :
    let r := (s.pair p.val).regs
    let w := r.commitPend
    let v := rounded (r.mode.getLsbD 1) (cellRead r.a k).toInt n
    Leaves s p c { s.pair p.val with regs := behind { w with
      d := moved bits d w.d (stored sb bits v), flags := flagWord w (flagsA w sb bits v (w.flags.getLsbD 3)) } 1 1 } := by
  intro r w v
  have h := State.leaves_regs hc hx hf rfl
  rw [moveRegs_plain hasc] at h
  exact h

/-- A move under ASC (R313). -/
theorem State.leaves_move_scaled (hasc : (s.pair p.val).regs.commitPend.mode.getLsbD 0 = true) {req sh : Nat} (hreq : req ≤ 16)
    (hfit : outside bits (rounded ((s.pair p.val).regs.mode.getLsbD 1) ((s.pair p.val).regs.ac k) (n + req)) = false ∨ req = 16)
    (hless : ∀ j, j < req → outside bits (rounded ((s.pair p.val).regs.mode.getLsbD 1) ((s.pair p.val).regs.ac k) (n + j)) = true)
    (hsh : sh = max req ((s.pair p.val).regs.bexp.toNat % 32)) :
    let r := (s.pair p.val).regs
    let w := r.commitPend
    Leaves s p c { s.pair p.val with regs := behind { w with
      d := moved bits d w.d (stored true bits (rounded (r.mode.getLsbD 1) (cellRead r.a k).toInt (n + sh)))
      pendC := [(.bexp, BitVec.ofNat 32 sh)], flags := if 0 < sh then w.flags ||| (0x80 : Word) else w.flags } 1 1 } := by
  intro r w
  have h := State.leaves_regs hc hx hf rfl
  rw [moveRegs_scaled hasc r.commitPend_pendC, scaleFor_eq hreq hfit hless, ← hsh] at h
  exact h

end

theorem State.leaves_control {cr : CtrlReg} {v : LaneRegs → Word}
    (hf : laneFn c = some (regFn fun r w => w.control cr (v r))) :
    let r := (s.pair p.val).regs
    Leaves s p c { s.pair p.val with regs := behind (r.commitPend.control cr (v r)) 1 1 } :=
  State.leaves_regs (g := fun r w => w.control cr (v r)) hc hx hf rfl

end

theorem LaneRegs.control_flags (w : LaneRegs) (v : Word) :
    w.control .flags v = { w with flags := (w.flags &&& ~~~(v &&& 0xF0) &&& 0x1F0) ||| (v &&& 0xF) } := by
  unfold control writeCr
  rw [BitVec.and_assoc, BitVec.and_comm (0x1F0 : Word), ← BitVec.and_assoc]

theorem LaneRegs.control_late (w : LaneRegs) {cr : CtrlReg} (v : Word) (h : cr ≠ .flags) :
    w.control cr v = { w with pendC := w.pendC ++ [(cr, v)] } := by
  cases cr with
  | flags => exact absurd rfl h
  | p | m | b | l | lc | mode | bexp => rfl

/-- A pointer's address with its space above it. -/
theorem ofNat_pointer (imm : Word16) {a : Nat} (ha : a < 4) :
    BitVec.ofNat 32 (imm.toNat + 65536 * a) = imm.setWidth 32 ||| BitVec.ofNat 32 (65536 * a) := by
  refine BitVec.eq_of_toNat_eq ?_
  have himm := imm.isLt
  rw [BitVec.toNat_or, BitVec.toNat_setWidth, BitVec.toNat_ofNat, BitVec.toNat_ofNat, Nat.mod_eq_of_lt (by omega),
    Nat.mod_eq_of_lt (by omega), Nat.mod_eq_of_lt (by omega), Nat.add_comm, Nat.or_comm]
  exact Nat.two_pow_add_eq_or_of_lt himm a

/-- Settles O31: a move is its rounded and saturated value, a write of a control register waits for the next instruction. -/
theorem laneMovesAndControlRegisters : Obligations.LaneMovesAndControlRegisters := by
  refine ⟨fun s p sb an d => ?_, fun s p cr d imm i m => ?_⟩
  · intro x r w a mv put hx c n bits hmem heven
    have hf : laneFn c = some (regFn (moveRegs sb n bits d.val an.val)) ∧ exec c s = .next (s.laneRow p.val c) := by
      simp only [List.mem_cons, Prod.mk.injEq, List.not_mem_nil, or_false] at hmem
      obtain ⟨rfl, rfl, rfl⟩ | ⟨rfl, rfl, rfl⟩ := hmem
      · exact ⟨laneFn_mvad .., rfl⟩
      · exact ⟨laneFn_mvad64 _ _ _ (heven rfl), rfl⟩
    obtain ⟨hf, hc⟩ := hf
    exact ⟨State.leaves_move hc hx hf, fun hasc req sh hreq hfit hless hsh =>
      State.leaves_move_scaled hc hx hf hasc hreq hfit hless hsh⟩
  · intro x r w late flags write v value hx
    have hlate : ∀ c u, c ≠ CtrlReg.flags → { x with regs := behind (w.control c u) 1 1 } = late c u := fun c u h => by
      rw [LaneRegs.control_late _ _ h]
    have hwrite : ∀ u, { x with regs := behind (w.control cr u) 1 1 } = write u := fun u => by
      by_cases h : cr = .flags
      · subst h
        rw [LaneRegs.control_flags]
        rfl
      · exact (hlate cr u h).trans (if_neg h).symm
    refine ⟨?_, ?_, ?_, ?_, ?_, fun k j hmem => ?_⟩
    · rw [← hwrite]
      exact State.leaves_control (v := fun r => r.dr d.val) rfl hx rfl
    · rw [← hwrite]
      exact State.leaves_control (v := fun _ => ldcVal cr imm) rfl hx rfl
    · exact State.leaves_control (cr := .p i) (v := fun _ => imm.setWidth 32 ||| 0x10000) rfl hx
        (congrArg (fun u => some (regFn fun _ w => w.control (.p i) u)) (ofNat_pointer imm (a := 1) (by decide)))
    · exact State.leaves_control (cr := .p i) (v := fun _ => imm.setWidth 32 ||| 0x20000) rfl hx
        (congrArg (fun u => some (regFn fun _ w => w.control (.p i) u)) (ofNat_pointer imm (a := 2) (by decide)))
    · have hvalue : r.readCr cr = value := by cases cr <;> rfl
      rw [← hvalue]
      exact State.leaves_regs (g := fun r w => { w with d := cellWrite w.d d.val (r.readCr cr) }) rfl hx rfl rfl
    · simp only [List.mem_cons, Prod.mk.injEq, List.not_mem_nil, or_false] at hmem
      obtain ⟨rfl, rfl⟩ | ⟨rfl, rfl⟩ := hmem
      · exact ⟨fun q hq => State.leaves_modFn (m := fun r => (cellRead r.m m.val).toInt) rfl rfl hx hq,
          fun hq => State.faults_modFn (m := fun r => (cellRead r.m m.val).toInt) rfl rfl hx hq⟩
      · exact ⟨fun q hq => State.leaves_modFn (m := fun _ => imm.toInt) rfl rfl hx hq,
          fun hq => State.faults_modFn (m := fun _ => imm.toInt) rfl rfl hx hq⟩

end Sys2Proof.Machine

/-! ### The multiplier and the accumulators (R310 to R312, R343, R344) -/

namespace Sys2Proof.Machine
open Sys2Proof.Claims

/-! #### Operands -/

theorem descAccess_events {k : LCtx} {d : Desc} {x y : PairSt} {sp a : Nat} (h : descAccess k d x = .ok (sp, a, y)) :
    y.events = x.events := by
  cases hm : k.rd.descMove d with
  | none => rw [descAccess_none hm] at h; cases h
  | some m =>
    rw [descAccess_some (a := m.1) (q := m.2) hm] at h
    cases h
    rfl

theorem operand32_events {k : LCtx} {o : MOperand} {x y : PairSt} {v : Int} {b : Option Nat}
    (h : operand32 k o x = .ok (v, b, y)) : y.events = x.events := by
  cases o with
  | reg r => cases h; rfl
  | mem d =>
    unfold operand32 at h
    dsimp only at h
    split at h
    · cases h
    · next hd =>
      split at h
      · cases h
      · next hl =>
        cases h
        rw [loadWord_pair hl, descAccess_events hd]

theorem operandC_events {k : LCtx} {o : MOperand} {x y : PairSt} {v w : Int} {b : Option Nat}
    (h : operandC k o x = .ok (v, w, b, y)) : y.events = x.events := by
  unfold operandC at h
  split at h
  · split at h
    · cases h
    · cases h; rfl
  · split at h
    · cases h
    · next hd =>
      split at h
      · cases h
      · next hl =>
        cases h
        rw [load64_pair hl, descAccess_events hd]

/-! #### Sums of products -/

/-- What a MAC form accumulates, by the list of its forms. -/
theorem macSum_of_mem {k : MacKind} {acc q v : Int}
    (h : (k, v) ∈ [(MacKind.mac, acc + q), (.msu, acc - q), (.mpy, q), (.mpyn, -q)]) : macSum k acc q = v := by
  simp only [List.mem_cons, Prod.mk.injEq, List.not_mem_nil, or_false] at h
  obtain ⟨rfl, rfl⟩ | ⟨rfl, rfl⟩ | ⟨rfl, rfl⟩ | ⟨rfl, rfl⟩ := h <;> rfl

/-- The forms of a single MAC. -/
theorem laneFn_mac {p : Fin 17} {sb : Bool} {an : Fin 4} {o1 o2 : MOperand} {i : Instr} {k : MacKind}
    (h : (i, k) ∈ [(Instr.mac p sb an o1 o2, MacKind.mac), (.msu p sb an o1 o2, .msu), (.mpy p sb an o1 o2, .mpy),
      (.mpyn p sb an o1 o2, .mpyn)]) :
    laneFn i = some (macFn k sb an o1 o2) ∧ ∀ s, exec i s = .next (s.laneRow p.val i) := by
  simp only [List.mem_cons, Prod.mk.injEq, List.not_mem_nil, or_false] at h
  obtain ⟨rfl, rfl⟩ | ⟨rfl, rfl⟩ | ⟨rfl, rfl⟩ | ⟨rfl, rfl⟩ := h
  all_goals exact ⟨rfl, fun _ => rfl⟩

/-- The forms of a complex MAC. -/
theorem laneFn_cmac {p : Fin 17} {sb : Bool} {an : Fin 4} {o1 o2 : MOperand} {i : Instr} {k : MacKind}
    (h : (i, k) ∈ [(Instr.cmac p sb an o1 o2, MacKind.mac), (.cmsu p sb an o1 o2, .msu), (.cmpy p sb an o1 o2, .mpy),
      (.cmpyn p sb an o1 o2, .mpyn)]) :
    laneFn i = some (cmacFn false k sb an o1 o2) ∧ ∀ s, exec i s = .next (s.laneRow p.val i) := by
  simp only [List.mem_cons, Prod.mk.injEq, List.not_mem_nil, or_false] at h
  obtain ⟨rfl, rfl⟩ | ⟨rfl, rfl⟩ | ⟨rfl, rfl⟩ | ⟨rfl, rfl⟩ := h
  all_goals exact ⟨rfl, fun _ => rfl⟩

/-- Those with the first factor conjugate. -/
theorem laneFn_cmacc {p : Fin 17} {sb : Bool} {an : Fin 4} {o1 o2 : MOperand} {i : Instr} {k : MacKind}
    (h : (i, k) ∈ [(Instr.cmacc p sb an o1 o2, MacKind.mac), (.cmsuc p sb an o1 o2, .msu), (.cmpyc p sb an o1 o2, .mpy),
      (.cmpync p sb an o1 o2, .mpyn)]) :
    laneFn i = some (cmacFn true k sb an o1 o2) ∧ ∀ s, exec i s = .next (s.laneRow p.val i) := by
  simp only [List.mem_cons, Prod.mk.injEq, List.not_mem_nil, or_false] at h
  obtain ⟨rfl, rfl⟩ | ⟨rfl, rfl⟩ | ⟨rfl, rfl⟩ | ⟨rfl, rfl⟩ := h
  all_goals exact ⟨rfl, fun _ => rfl⟩

/-- One accumulator takes `v`, with code M. -/
theorem LaneRegs.mac_eq (w : LaneRegs) (sb : Bool) (k : Nat) (v : Int) :
    let sat := w.mode.getLsbD 0 || sb
    (w.setA k (store (w.sat sb) 80 v)).codeM (w.sat sb) v =
      { w with a := cellWrite w.a k (BitVec.ofInt 80 (stored sat 80 v)), flags := flagWord w (flagsM w sat v v) } :=
  w.putM_eq sb k v

/-- Two accumulators take `v` and `u`, with code M. -/
theorem LaneRegs.mac2_eq (w : LaneRegs) (sb : Bool) (j k : Nat) (v u : Int) :
    let sat := w.mode.getLsbD 0 || sb
    ((w.setA j (store (w.sat sb) 80 v)).setA k (store (w.sat sb) 80 u)).codeM2 (w.sat sb) v u =
      { w with a := cellWrite (cellWrite w.a j (BitVec.ofInt 80 (stored sat 80 v))) k (BitVec.ofInt 80 (stored sat 80 u)),
               flags := flagWord w (flagsM w sat v u) } := by
  rw [codeM2_eq, store_eq_stored, store_eq_stored]
  rfl

section
variable {s : State} {p : Fin 17} {c : Instr} {sb : Bool} {an am : Fin 4} {o1 o2 o3 o4 : MOperand}
  (hc : exec c s = .next (s.laneRow p.val c))
include hc

/-- An instruction that is not of the flow leaves the pair that its effect makes, with the registers behind it. -/
theorem State.leaves_of_ok {f : LaneFn} {n cyc : Nat} {y : PairSt} (hf : laneFn c = some f) (hflow : f.flow = false)
    (hn : f.size = n) (hcyc : f.cycles = cyc) (hx : Fetches (s.pair p.val) n)
    (hev : y.events = ((s.pair p.val).modRegs LaneRegs.commitPend).events)
    (he : f.eff ((s.pair p.val).ctx p.val) ((s.pair p.val).modRegs LaneRegs.commitPend) = .ok y) :
    Leaves s p c { y with regs := behind y.regs n cyc } := by
  subst hn hcyc
  have h := State.leaves_of_eff hc hf hx (hev.trans hx.2.2.1) he
  rw [PairSt.modRegs, LaneRegs.advance_eq_behind _ hflow] at h
  exact h

theorem State.leaves_macFn {k : MacKind} {v1 v2 v : Int} {b1 b2 : Option Nat} {y z : PairSt}
    (hf : laneFn c = some (macFn k sb an o1 o2)) (hx : Fetches (s.pair p.val) 1)
    (h1 : operand32 ((s.pair p.val).ctx p.val) o1 ((s.pair p.val).modRegs LaneRegs.commitPend) = .ok (v1, b1, y))
    (h2 : operand32 ((s.pair p.val).ctx p.val) o2 y = .ok (v2, b2, z)) (hb : busesOk [b1, b2] = true)
    (hv : macSum k ((s.pair p.val).regs.ac an.val) ((s.pair p.val).regs.prod (v1 * v2)) = v) :
    let w := z.regs
    let sat := w.mode.getLsbD 0 || sb
    Leaves s p c { z with regs := behind { w with
      a := cellWrite w.a an.val (BitVec.ofInt 80 (stored sat 80 v)), flags := flagWord w (flagsM w sat v v) } 1 1 } := by
  intro w sat
  have h := State.leaves_of_ok
    (y := z.modRegs fun w => (w.setA an.val (store (w.sat sb) 80 v)).codeM (w.sat sb) v)
    hc hf rfl rfl rfl hx ((operand32_events h2).trans (operand32_events h1)) (by
      subst hv
      unfold macFn
      dsimp only
      rw [h1]; dsimp only
      rw [h2]; dsimp only
      rw [if_pos hb]
      rfl)
  rw [PairSt.modRegs, LaneRegs.mac_eq] at h
  exact h

theorem State.leaves_dmacFn {k1 k2 : MacKind} {v1 v2 v3 v4 v u : Int} {b1 b2 b3 b4 : Option Nat} {y1 y2 y3 y4 : PairSt}
    (hf : laneFn c = some (dmacFn sb k1 an o1 o2 k2 am o3 o4)) (hne : an ≠ am) (hx : Fetches (s.pair p.val) 2)
    (h1 : operand32 ((s.pair p.val).ctx p.val) o1 ((s.pair p.val).modRegs LaneRegs.commitPend) = .ok (v1, b1, y1))
    (h2 : operand32 ((s.pair p.val).ctx p.val) o2 y1 = .ok (v2, b2, y2))
    (h3 : operand32 ((s.pair p.val).ctx p.val) o3 y2 = .ok (v3, b3, y3))
    (h4 : operand32 ((s.pair p.val).ctx p.val) o4 y3 = .ok (v4, b4, y4)) (hb : busesOk [b1, b2, b3, b4] = true)
    (hv : macSum k1 ((s.pair p.val).regs.ac an.val) ((s.pair p.val).regs.prod (v1 * v2)) = v)
    (hu : macSum k2 ((s.pair p.val).regs.ac am.val) ((s.pair p.val).regs.prod (v3 * v4)) = u) :
    let w := y4.regs
    let sat := w.mode.getLsbD 0 || sb
    Leaves s p c { y4 with regs := behind { w with
      a := cellWrite (cellWrite w.a an.val (BitVec.ofInt 80 (stored sat 80 v))) am.val (BitVec.ofInt 80 (stored sat 80 u))
      flags := flagWord w (flagsM w sat v u) } 2 1 } := by
  intro w sat
  unfold dmacFn at hf
  rw [guardFn_of_ok _ (decide_eq_true hne)] at hf
  have hev := (operand32_events h4).trans <| (operand32_events h3).trans <| (operand32_events h2).trans (operand32_events h1)
  have h := State.leaves_of_ok (y := y4.modRegs fun w =>
    ((w.setA an.val (store (w.sat sb) 80 v)).setA am.val (store (w.sat sb) 80 u)).codeM2 (w.sat sb) v u) hc hf rfl rfl rfl hx hev (by
      subst hv hu
      dsimp only
      rw [h1]; dsimp only
      rw [h2]; dsimp only
      rw [h3]; dsimp only
      rw [h4]; dsimp only
      rw [if_pos hb]
      rfl)
  rw [PairSt.modRegs, LaneRegs.mac2_eq] at h
  exact h

theorem State.leaves_cmacFn {conj : Bool} {k : MacKind} {xr xi yr yi q1 q2 v u : Int} {b1 b2 : Option Nat} {y z : PairSt} {cyc : Nat}
    (hf : laneFn c = some (cmacFn conj k sb an o1 o2)) (heven : an.val % 2 = 0) (hx : Fetches (s.pair p.val) 1)
    (h1 : operandC ((s.pair p.val).ctx p.val) o1 ((s.pair p.val).modRegs LaneRegs.commitPend) = .ok (xr, xi, b1, y))
    (h2 : operandC ((s.pair p.val).ctx p.val) o2 y = .ok (yr, yi, b2, z)) (hb : busesOk [b1, b2] = true)
    (hcyc : cyc = if isMem o1 || isMem o2 then 2 else 1)
    (hq1 : xr * yr - (if conj then -1 else 1) * xi * yi = q1) (hq2 : (if conj then -1 else 1) * xr * yi + xi * yr = q2)
    (hv : macSum k ((s.pair p.val).regs.ac an.val) ((s.pair p.val).regs.prod q1) = v)
    (hu : macSum k ((s.pair p.val).regs.ac (an.val + 1)) ((s.pair p.val).regs.prod q2) = u) :
    let w := z.regs
    let sat := w.mode.getLsbD 0 || sb
    Leaves s p c { z with regs := behind { w with
      a := cellWrite (cellWrite w.a an.val (BitVec.ofInt 80 (stored sat 80 v))) (an.val + 1)
        (BitVec.ofInt 80 (stored sat 80 u))
      flags := flagWord w (flagsM w sat v u) } 1 cyc } := by
  intro w sat
  unfold cmacFn at hf
  rw [guardFn_of_ok _ (decide_eq_true heven)] at hf
  have h := State.leaves_of_ok (y := z.modRegs fun w =>
    ((w.setA an.val (store (w.sat sb) 80 v)).setA (an.val + 1) (store (w.sat sb) 80 u)).codeM2 (w.sat sb) v u)
    hc hf rfl rfl rfl hx ((operandC_events h2).trans (operandC_events h1)) (by
      subst hq1 hq2 hv hu
      dsimp only
      rw [h1]; dsimp only
      rw [h2]; dsimp only
      rw [if_pos hb]
      rfl)
  rw [PairSt.modRegs, LaneRegs.mac2_eq] at h
  rw [hcyc]
  exact h

end

/-! #### Operations on one accumulator -/

section
variable {s : State} {p : Fin 17} {c : Instr} (hc : exec c s = .next (s.laneRow p.val c)) (hx : Fetches (s.pair p.val) 1)
include hc hx

theorem State.leaves_accFn {sb : Bool} {k : Nat} {v : LaneRegs → Int} (hf : laneFn c = some (accFn sb k v)) :
    let r := (s.pair p.val).regs
    let w := r.commitPend
    let sat := w.mode.getLsbD 0 || sb
    Leaves s p c { s.pair p.val with regs := behind { w with
      a := cellWrite w.a k (BitVec.ofInt 80 (stored sat 80 (v r))), flags := flagWord w (flagsM w sat (v r) (v r)) } 1 1 } := by
  intro r w sat
  have h := State.leaves_regs (g := fun r w => w.putM sb k (v r)) hc hx hf rfl
  rw [LaneRegs.putM_eq] at h
  exact h

end

theorem shaVal_eq (r : LaneRegs) (v n : Int) :
    shaVal r v n = if 0 ≤ n then v * 2 ^ n.toNat else rounded (r.mode.getLsbD 1) v n.natAbs := by
  rw [shaVal, roundAt_eq_rounded]
  rfl

theorem rndaVal_eq (r : LaneRegs) (v : Int) : rndaVal r v = rounded (r.mode.getLsbD 1) v 32 * 2 ^ 32 := by
  rw [rndaVal, roundAt_eq_rounded]
  rfl

/-- Settles O30: a MAC form leaves what `macSum` accumulates of its products, an accumulator operation what `putM` writes. -/
theorem laneMultiplierAndAccumulators : Obligations.LaneMultiplierAndAccumulators := by
  refine ⟨fun s p sb an am o1 o2 o3 o4 => ?_, fun s p sb an am d n => ?_⟩
  · intro x r c x0 prod acc sums put1 put2
    refine ⟨?_, ?_, ?_⟩
    · intro v1 b1 y v2 b2 z hx h1 h2 hb i k v hi hv
      obtain ⟨hf, hc⟩ := laneFn_mac hi
      exact State.leaves_macFn (hc s) hf hx h1 h2 hb (macSum_of_mem hv)
    · intro v1 b1 y1 v2 b2 y2 v3 b3 y3 v4 b4 y4 hne hx h1 h2 h3 h4 hb k1 k2 v u hv hu
      exact State.leaves_dmacFn rfl rfl hne hx h1 h2 h3 h4 hb (macSum_of_mem hv) (macSum_of_mem hu)
    · intro xr xi b1 y yr yi b2 z heven hx h1 h2 hb cyc k v u
      have hcyc : cyc = if isMem o1 || isMem o2 then 2 else 1 := by
        cases o1 <;> cases o2 <;> rfl
      refine ⟨fun hv hu i hi => ?_, fun hv hu i hi => ?_⟩
      · obtain ⟨hf, hc⟩ := laneFn_cmac hi
        exact State.leaves_cmacFn (hc s) hf heven hx h1 h2 hb hcyc (by rw [if_neg Bool.false_ne_true]; ring)
          (by rw [if_neg Bool.false_ne_true]; ring) (macSum_of_mem hv) (macSum_of_mem hu)
      · obtain ⟨hf, hc⟩ := laneFn_cmacc hi
        exact State.leaves_cmacFn (hc s) hf heven hx h1 h2 hb hcyc (by rw [if_pos rfl]; ring) (by rw [if_pos rfl]; ring)
          (macSum_of_mem hv) (macSum_of_mem hu)
  · intro x r w sat trunc a b raw put hx
    refine ⟨?_, ?_, ?_, ?_, ?_, ?_, ?_, ?_, ?_⟩
    · exact State.leaves_accFn (v := fun r => r.ac an.val + r.ac am.val) rfl hx rfl
    · exact State.leaves_accFn (v := fun r => r.ac an.val - r.ac am.val) rfl hx rfl
    · exact State.leaves_accFn (v := fun r => -r.ac an.val) rfl hx rfl
    · exact State.leaves_accFn (v := fun r => (r.ac an.val).natAbs) rfl hx rfl
    · have h := State.leaves_accFn (c := .sha p sb an n) (v := fun r => shaVal r (r.ac an.val) n.toInt) rfl hx rfl
      simp only [shaVal_eq] at h
      exact h
    · have h := State.leaves_accFn (c := .rnda p sb an) (v := fun r => rndaVal r (r.ac an.val)) rfl hx rfl
      simp only [rndaVal_eq] at h
      exact h
    · exact State.leaves_regs (g := fun _ w => w.setA an.val 0) rfl hx rfl rfl
    · exact State.leaves_regs (g := fun r w => w.setA an.val (r.ac am.val)) rfl hx rfl rfl
    · have h := State.leaves_regs (c := .mvda p an d)
        (g := fun r w => (w.setA an.val (r.ds d.val * 2 ^ 32)).codeL (r.dr d.val).toInt) rfl hx rfl rfl
      rw [LaneRegs.codeL_eq] at h
      exact h

end Sys2Proof.Machine

/-! ### Loads and stores of lane code (R301, R302, R316, R320, R341, R342, R348) -/

namespace Sys2Proof.Machine
open Sys2Proof.Claims

/-! #### One word -/

/-- The word an own address reads as: what the instruction before has stored over, else what stands there (R348). -/
def LaneRegs.readsOwn (r : LaneRegs) (x : PairSt) (sp a : Nat) : Word :=
  match r.shadow.find? fun h => h.1 = sp && h.2.1 = a with
  | some h => h.2.2
  | none => cellRead (x.mem sp) a

/-- The pair with the word at `a` of its space X or Y stored over. -/
def PairSt.stored (x : PairSt) (sp a : Nat) (v : Word) : PairSt :=
  let y := { x with regs := { x.regs with shadow := (sp, a, cellRead (x.mem sp) a) :: x.regs.shadow } }
  if sp = 0 then { y with xMem := cellWrite y.xMem a v } else { y with yMem := cellWrite y.yMem a v }

theorem PairSt.modRegs_events (x : PairSt) (g : LaneRegs → LaneRegs) : (x.modRegs g).events = x.events := rfl

theorem PairSt.stored_events (x : PairSt) (sp a : Nat) (v : Word) : (x.stored sp a v).events = x.events := by
  unfold stored
  dsimp only
  split <;> rfl

section
variable {k : LCtx} {sp a : Nat} {x : PairSt}

theorem loadWord_unmapped (h : region k.rd.user k.rep sp a = .unmapped) : loadWord k sp a x = .error .addr := by
  rw [loadWord, h]

theorem loadWord_foreign (h : region k.rd.user k.rep sp a = .foreign) :
    loadWord k sp a x = .ok (x.extWord k.pair sp a, x) := by
  rw [loadWord, h]

theorem loadWord_own (h : region k.rd.user k.rep sp a = .own) : loadWord k sp a x = .ok (k.rd.readsOwn x sp a, x) := by
  rw [loadWord, h]
  dsimp only
  unfold LaneRegs.readsOwn
  generalize (k.rd.shadow.find? fun e => e.1 = sp && e.2.1 = a) = r
  cases r <;> rfl

/-- Outside an RPT, space P holds nothing of lane code's own. -/
theorem ne_spP_of_own {user : Bool} (h : region user false sp a = .own) : sp ≠ spP := by
  rintro rfl
  unfold region at h
  rw [if_neg (by decide), if_neg (by decide), if_pos rfl, if_neg fun h => Bool.false_ne_true h.1] at h
  cases h

theorem storeWord_fault (v : Word) (h : region k.rd.user false sp a ≠ .own) : storeWord k sp a v x = .error .addr :=
  if_pos (.inr h)

theorem storeWord_own (v : Word) (h : region k.rd.user false sp a = .own) : storeWord k sp a v x = .ok (x.stored sp a v) := by
  unfold storeWord
  rw [if_neg (not_or.mpr ⟨ne_spP_of_own h, not_not.mpr h⟩)]
  rfl

end

/-! #### The instructions (R341, R342) -/

section
variable {k : LCtx} {x : PairSt} {d d2 : Fin 16} {e e2 : Desc} {a q a2 q2 : Nat}

theorem ldFn_eff_of_none (h : k.rd.descMove e = none) : (ldFn d.val e).eff k x = .error .addr := by
  unfold ldFn
  dsimp only
  rw [descAccess_none h]

theorem stFn_eff_of_none (h : k.rd.descMove e = none) : (stFn d.val e).eff k x = .error .addr := by
  unfold stFn
  dsimp only
  rw [descAccess_none h]

section
variable (h : k.rd.descMove e = some (a, q))
include h

theorem ldFn_eff_of_unmapped (hr : region k.rd.user k.rep (k.rd.space e.ptr.val) a = .unmapped) :
    (ldFn d.val e).eff k x = .error .addr := by
  unfold ldFn
  dsimp only
  rw [descAccess_some h]
  dsimp only
  rw [loadWord_unmapped hr]

theorem ldFn_eff_of_loaded {v : Word} {y : PairSt}
    (hl : loadWord k (k.rd.space e.ptr.val) a (x.modRegs fun w => k.rd.descMoved w e q) = .ok (v, y)) :
    (ldFn d.val e).eff k x = .ok (x.modRegs fun w => (k.rd.descMoved w e q).pend [(d.val, v)]) := by
  unfold ldFn
  dsimp only
  rw [descAccess_some h]
  dsimp only
  rw [hl, loadWord_pair hl]
  rfl

theorem stFn_eff : (stFn d.val e).eff k x =
    storeWord k (k.rd.space e.ptr.val) a (k.rd.dr d.val) (x.modRegs fun w => k.rd.descMoved w e q) := by
  unfold stFn
  dsimp only
  rw [descAccess_some h]

/-- Two words lie at an even address (R342). -/
theorem load64Fn_eff_of_odd (hodd : a % 2 = 1) (heven : d.val % 2 = 0) : (ld64Fn d e).eff k x = .error .addr := by
  unfold ld64Fn
  rw [guardFn_of_ok _ ((evenReg_iff d).mpr heven)]
  dsimp only
  rw [descAccess_some h]
  dsimp only
  rw [load64, if_pos (.inr hodd)]

theorem store64Fn_eff_of_odd (hodd : a % 2 = 1) (heven : d.val % 2 = 0) : (st64Fn d e).eff k x = .error .addr := by
  unfold st64Fn
  rw [guardFn_of_ok _ ((evenReg_iff d).mpr heven)]
  dsimp only
  rw [descAccess_some h]
  dsimp only
  rw [if_pos (.inr hodd)]

section
variable (hr : region k.rd.user false (k.rd.space e.ptr.val) a = .own)
include hr

theorem load64Fn_eff_of_own (hrep : k.rep = false) (hr' : region k.rd.user false (k.rd.space e.ptr.val) (a + 1) = .own) (ha : a % 2 = 0)
    (heven : d.val % 2 = 0) : (ld64Fn d e).eff k x = .ok (x.modRegs fun w => (k.rd.descMoved w e q).pend
      [(d.val, k.rd.readsOwn x (k.rd.space e.ptr.val) a), (d.val + 1, k.rd.readsOwn x (k.rd.space e.ptr.val) (a + 1))]) := by
  unfold ld64Fn
  rw [guardFn_of_ok _ ((evenReg_iff d).mpr heven)]
  dsimp only
  rw [descAccess_some h]
  dsimp only
  have hodd : ¬(k.rd.space e.ptr.val = spP ∨ a % 2 = 1) := not_or.mpr ⟨ne_spP_of_own hr, by omega⟩
  rw [load64, if_neg hodd, loadWord_own (hrep ▸ hr)]
  dsimp only
  rw [loadWord_own (hrep ▸ hr')]
  rfl

theorem store64Fn_eff_of_own (hr' : region k.rd.user false (k.rd.space e.ptr.val) (a + 1) = .own) (ha : a % 2 = 0)
    (heven : d.val % 2 = 0) : (st64Fn d e).eff k x = .ok (((x.modRegs fun w => k.rd.descMoved w e q).stored
      (k.rd.space e.ptr.val) a (k.rd.dr d.val)).stored (k.rd.space e.ptr.val) (a + 1) (k.rd.dr (d.val + 1))) := by
  unfold st64Fn
  rw [guardFn_of_ok _ ((evenReg_iff d).mpr heven)]
  dsimp only
  rw [descAccess_some h]
  dsimp only
  have hodd : ¬(k.rd.space e.ptr.val = spP ∨ a % 2 = 1) := not_or.mpr ⟨ne_spP_of_own hr, by omega⟩
  rw [if_neg hodd, storeWord_own _ hr]
  dsimp only
  rw [storeWord_own _ hr']

/-- Two loads need two spaces (R342). -/
theorem pldFn_eff_of_own (hrep : k.rep = false) (h2 : k.rd.descMove e2 = some (a2, q2))
    (hr' : region k.rd.user false (k.rd.space e2.ptr.val) a2 = .own) (hne : d ≠ d2) : (pldFn d e d2 e2).eff k x =
      if k.rd.space e.ptr.val = k.rd.space e2.ptr.val then .error .addr
      else .ok (x.modRegs fun w => (k.rd.descMoved (k.rd.descMoved w e q) e2 q2).pend
        [(d.val, k.rd.readsOwn x (k.rd.space e.ptr.val) a), (d2.val, k.rd.readsOwn x (k.rd.space e2.ptr.val) a2)]) := by
  unfold pldFn
  rw [guardFn_of_ok _ (decide_eq_true hne)]
  dsimp only
  rw [descAccess_some h]
  dsimp only
  rw [loadWord_own (hrep ▸ hr)]
  dsimp only
  rw [descAccess_some h2]
  dsimp only
  rw [loadWord_own (hrep ▸ hr')]
  rfl

end

end

end

theorem guardFn_size (ok : Bool) (f : LaneFn) : (guardFn ok f).size = f.size := by
  cases ok <;> rfl

theorem guardFn_cycles (ok : Bool) (f : LaneFn) : (guardFn ok f).cycles = f.cycles := by
  cases ok <;> rfl

theorem guardFn_flow (ok : Bool) (f : LaneFn) : (guardFn ok f).flow = f.flow := by
  cases ok <;> rfl

section
variable {s : State} {p : Fin 17} {c : Instr} {ok : Bool} {f : LaneFn} (hc : exec c s = .next (s.laneRow p.val c))
  (hf : laneFn c = some (guardFn ok f))
include hc hf

/-- `leaves_of_ok` for a form whose operands are checked first. -/
theorem State.leaves_of_guard_ok {y : PairSt} (hflow : f.flow = false) (hx : Fetches (s.pair p.val) f.size)
    (hev : y.events = ((s.pair p.val).modRegs LaneRegs.commitPend).events)
    (he : (guardFn ok f).eff ((s.pair p.val).ctx p.val) ((s.pair p.val).modRegs LaneRegs.commitPend) = .ok y) :
    Leaves s p c { y with regs := behind y.regs f.size f.cycles } :=
  State.leaves_of_ok hc hf ((guardFn_flow ..).trans hflow) (guardFn_size ..) (guardFn_cycles ..) hx hev he

theorem State.faults_of_guard_error {e : LaneFault} (hx : Fetches (s.pair p.val) f.size)
    (he : (guardFn ok f).eff ((s.pair p.val).ctx p.val) ((s.pair p.val).modRegs LaneRegs.commitPend) = .error e) :
    Faults s p c (faultCode e) :=
  State.faults_of_eff_error hc hf ((guardFn_size ok f).symm ▸ hx) he

end

/-- Settles O32: what each access reads and leaves is the effect of its form in the context of a pair that repeats nothing. -/
theorem laneLoadsAndStores : Obligations.LaneLoadsAndStores := by
  intro s p d d2 e e2 x r w move moved word own late stores hx
  let x0 := x.modRegs LaneRegs.commitPend
  have hmove : ∀ e, (x.ctx p.val).rd.descMove e = move e := fun _ => rfl
  refine ⟨fun hm => ?_, fun a q hm => ⟨fun hr => ?_, fun hr => ⟨?_, ?_⟩, fun hr => ⟨?_, ?_⟩,
    fun hr hr' ha hd => ⟨?_, ?_⟩, fun ⟨ha, hd⟩ => ⟨?_, ?_⟩, fun a2 q2 hm2 hr hr2 hne => ⟨fun hs => ?_, fun hs => ?_⟩⟩⟩
  all_goals rw [← hmove] at hm
  · simp only [List.forall_mem_cons]
    exact ⟨State.faults_of_eff_error (e := .addr) rfl rfl hx (ldFn_eff_of_none (d := d) hm),
      State.faults_of_eff_error (e := .addr) rfl rfl hx (stFn_eff_of_none (d := d) hm), fun _ h => nomatch h⟩
  · have hst : region r.user false (r.space e.ptr.val) a ≠ .own := by rw [hr]; decide
    simp only [List.forall_mem_cons]
    exact ⟨State.faults_of_eff_error (e := .addr) rfl rfl hx (ldFn_eff_of_unmapped (d := d) hm hr),
      State.faults_of_eff_error (e := .addr) rfl rfl hx ((stFn_eff (d := d) hm).trans (storeWord_fault _ hst)),
      fun _ h => nomatch h⟩
  · have hst : region r.user false (r.space e.ptr.val) a ≠ .own := by rw [hr]; decide
    exact State.pairFails_of_eff_error (e := .addr) rfl rfl hx ((stFn_eff (d := d) hm).trans (storeWord_fault _ hst))
  · have he := ldFn_eff_of_loaded (x := x0) (d := d) hm (loadWord_foreign hr)
    have h := State.leaves_of_ok (c := .ld p d e) rfl rfl rfl rfl rfl hx (PairSt.modRegs_events ..) he
    exact h
  · have he := ldFn_eff_of_loaded (x := x0) (d := d) hm (loadWord_own hr)
    have h := State.leaves_of_ok (c := .ld p d e) rfl rfl rfl rfl rfl hx (PairSt.modRegs_events ..) he
    exact h
  · have he := (stFn_eff (x := x0) (d := d) hm).trans (storeWord_own _ hr)
    exact State.leaves_of_ok (c := .st p d e) rfl rfl rfl rfl rfl hx (PairSt.stored_events ..) he
  · have he := load64Fn_eff_of_own (x := x0) hm hr rfl hr' ha hd
    have h := State.leaves_of_guard_ok (c := .ld64 p d e) rfl rfl rfl hx (PairSt.modRegs_events ..) he
    exact h
  · have he := store64Fn_eff_of_own (x := x0) hm hr hr' ha hd
    exact State.leaves_of_guard_ok (c := .st64 p d e) rfl rfl rfl hx
      ((PairSt.stored_events ..).trans (PairSt.stored_events ..)) he
  · exact State.faults_of_guard_error (e := .addr) rfl rfl hx (load64Fn_eff_of_odd hm ha hd)
  · exact State.faults_of_guard_error (e := .addr) rfl rfl hx (store64Fn_eff_of_odd hm ha hd)
  all_goals rw [← hmove] at hm2
  · have he := (pldFn_eff_of_own (x := x0) hm hr rfl hm2 hr2 hne).trans (if_neg hs)
    have h := State.leaves_of_guard_ok (c := .pld p d e d2 e2) rfl rfl rfl hx (PairSt.modRegs_events ..) he
    exact h
  · have he := (pldFn_eff_of_own (x := x0) hm hr rfl hm2 hr2 hne).trans (if_pos hs)
    exact State.faults_of_guard_error (e := .addr) (c := .pld p d e d2 e2) rfl rfl hx he

end Sys2Proof.Machine

/-! ### Flow of lane code (R315, R319, R349) -/

namespace Sys2Proof.Machine
open Sys2Proof.Claims

/-- An instruction leaves its pair in one way. -/
theorem leaves_unique {s : State} {p : Fin 17} {c : Instr} {y z : PairSt} (hy : Leaves s p c y) (hz : Leaves s p c z) :
    y = z := by
  obtain ⟨t, ht, hty, -⟩ := hy
  obtain ⟨u, hu, huz, -⟩ := hz
  cases ht.symm.trans hu
  exact hty.symm.trans huz

/-- A branch takes its cycle off the cycles for which no event is taken (R319). -/
theorem leaves_br_heldCyc {s : State} {p : Fin 17} {c : Cond} {t : Word16} {y : PairSt} (hx : Fetches (s.pair p.val) 1)
    (hy : Leaves s p (.br p c t) y) : y.regs.heldCyc = (s.pair p.val).regs.commitPend.heldCyc - 1 := by
  have h := State.leaves_of_eff (c := .br p c t) (f := brFn c t) rfl rfl hx
    (y := (s.pair p.val).modRegs fun r => { r.commitPend with
      target := if (s.pair p.val).regs.holds c then some t.toNat else none, call := false, viaRet := false }) hx.2.2.1 rfl
  rw [← leaves_unique h hy]
  rfl

/-- A running pair right behind the last repetition of an RPT: for two cycles it takes no event (R319). -/
def behindRepeat : PairSt := { state := lpRun, regs := { heldCyc := 2 } }

/-- A device whose pair 0 is right behind a repeat. -/
def pairBehindRepeat : State := State.reset.modPair 0 fun _ => behindRepeat

theorem pairBehindRepeat_pair : pairBehindRepeat.pair 0 = behindRepeat :=
  (State.modPair_pair ..).trans (if_pos rfl)

theorem pairBehindRepeat_fetches : Fetches (pairBehindRepeat.pair 0) 1 := by
  rw [pairBehindRepeat_pair]
  decide

/-- Refutes O34: the statement lets a flow instruction keep the cycles for which no event is taken behind a repeat; the branch
that runs there takes one off, as every instruction does (R319). -/
theorem not_laneFlow : ¬ Obligations.LaneFlow := by
  intro h
  have hx := pairBehindRepeat_fetches
  obtain ⟨-, hbr, -⟩ := (h pairBehindRepeat 0 .always 0 0 0 0).1 hx
  have hheld := leaves_br_heldCyc hx hbr
  dsimp only [Fin.val_zero] at hheld
  rw [pairBehindRepeat_pair] at hheld
  exact absurd hheld (by decide)

end Sys2Proof.Machine

/-! ### Loops that a stop leaves closed (R80, R216, R335) -/

namespace Sys2Proof.Machine
open Sys2Proof.Claims

variable (s : State)

/-- Every loop is closed as before, and has seen a sample as before. -/
def State.SameLoops (s t : State) : Prop :=
  ∀ a, (t.axis a).closed = (s.axis a).closed ∧ (t.axis a).lp.seen = (s.axis a).lp.seen

theorem State.SameLoops.refl : s.SameLoops s := fun _ => ⟨rfl, rfl⟩

theorem State.SameLoops.trans {s t u : State} (h : s.SameLoops t) (h' : t.SameLoops u) : s.SameLoops u :=
  fun a => ⟨(h' a).1.trans (h a).1, (h' a).2.trans (h a).2⟩

theorem State.sameLoops_of_axes {s t : State} (h : t.axes = s.axes) : s.SameLoops t := fun a => by
  rw [State.axis, h]
  exact ⟨rfl, rfl⟩

theorem State.sameLoops_forEach {α : Type} (l : List α) {f : State → α → State} (h : ∀ (t : State) (a : α), t.SameLoops (f t a)) :
    s.SameLoops (s.forEach l f) := s.forEach_invariant s.SameLoops l f (.refl s) fun t a _ ht => ht.trans (h t a)

theorem State.sameLoops_modAxis (a : Nat) {f : Axis → Axis}
    (h : ∀ x, (f x).closed = x.closed ∧ (f x).lp.seen = x.lp.seen) : s.SameLoops (s.modAxis a f) := by
  intro b
  rw [s.modAxis_axis]
  split
  · subst_vars; exact h _
  · exact ⟨rfl, rfl⟩

/-! #### Queues and homing runs -/

theorem State.sameLoops_outcome (q : Word) (g : Seg) (oc : Nat) : s.SameLoops (s.outcome q g oc) := by
  refine State.sameLoops_of_axes ?_
  unfold State.outcome
  extract_lets t
  split
  · rfl
  · split <;> rfl

theorem State.sameLoops_outcomes (q : Word) (l : List Seg) (oc : Nat) : s.SameLoops (s.outcomes q l oc) :=
  s.sameLoops_forEach l fun t g => t.sameLoops_outcome q g oc

theorem State.sameLoops_settleQueue (q : Word) : s.SameLoops (s.settleQueue q) := by
  obtain h | h := s.settleQueue_cases q
  · rw [h]; exact .refl s
  · rw [h]
    exact s.sameLoops_forEach _ fun t a => t.sameLoops_modAxis a fun _ => ⟨rfl, rfl⟩

theorem State.sameLoops_unbind (q : Word) (axes : List Nat) : s.SameLoops (s.unbind q axes) :=
  s.sameLoops_forEach axes fun t a => t.sameLoops_modAxis a fun x => by split <;> exact ⟨rfl, rfl⟩

theorem State.sameLoops_releaseAxes (q : Word) (axes : List Nat) : s.SameLoops (s.releaseAxes q axes) := by
  rw [s.releaseAxes_eq]
  exact (s.sameLoops_unbind q axes).trans (State.sameLoops_settleQueue (State.modQueue _ q _) q)

theorem State.sameLoops_dropQueue (q : Word) (oc : Nat) : s.SameLoops (s.dropQueue q oc) := by
  have hdrop : ∀ t : State, ∀ l, t.SameLoops (t.dropOutcomes q oc l) := fun t l => by
    cases l with
    | nil => exact .refl t
    | cons g r => exact (t.sameLoops_outcome q g oc).trans (State.sameLoops_outcomes _ q r _)
  rw [s.dropQueue_eq]
  exact (hdrop (s.emptyQueue q) _).trans (State.sameLoops_releaseAxes _ q _)

theorem State.sameLoops_brakeQueue (halt : Bool) (q : Word) : s.SameLoops (s.brakeQueue halt q) := by
  unfold State.brakeQueue
  extract_lets x
  split
  · rename_i g rest p _ _
    extract_lets t p1 u v
    have hu : s.SameLoops u := (s.sameLoops_outcomes _ _ _).trans (State.sameLoops_of_axes (by
      simp only [u, State.recordKept]
      split <;> rfl))
    have hv : s.SameLoops v := by
      simp only [v]
      split
      · exact hu.trans (u.sameLoops_forEach _ fun w a => w.sameLoops_modAxis a fun _ => ⟨rfl, rfl⟩)
      · exact hu
    exact hv
  · exact s.sameLoops_dropQueue _ _
  · exact .refl s

theorem State.sameLoops_homeBrake (a : Nat) : s.SameLoops (s.homeBrake a) := by
  unfold State.homeBrake
  extract_lets q
  split
  · exact s.sameLoops_brakeQueue _ _
  · exact .refl s

theorem State.sameLoops_homeFail (a : Nat) : s.SameLoops (s.homeFail a) := by
  unfold State.homeFail
  split
  · exact .refl s
  · refine s.sameLoops_forEach _ fun t b => ?_
    extract_lets u
    split
    · exact t.sameLoops_homeBrake b
    · exact (t.sameLoops_homeBrake b).trans (u.sameLoops_modAxis b fun _ => ⟨rfl, rfl⟩)

theorem State.sameLoops_stopQueue (q : Word) (covered : List Nat) : s.SameLoops (s.stopQueue q covered) := by
  unfold State.stopQueue
  extract_lets x
  split
  · refine (s.sameLoops_forEach _ fun t e => ?_).trans (State.sameLoops_dropQueue _ q _)
    split
    · exact .refl t
    · exact t.sameLoops_modAxis _ fun _ => ⟨rfl, rfl⟩
  · exact s.sameLoops_dropQueue _ _

theorem State.sameLoops_stopAxisQueues (a : Nat) (covered : List Nat) : s.SameLoops (s.stopAxisQueues a covered) := by
  unfold State.stopAxisQueues
  extract_lets t
  have ht : s.SameLoops t := by
    simp only [t]
    split
    · exact s.sameLoops_stopQueue _ _
    · exact .refl s
  exact ht.trans (t.sameLoops_homeFail a)

/-! #### SS1 that begins (R216, R219) -/

theorem State.sameLoops_startSs1Axis (t0 : Nat) (covered : List Nat) (a : Nat) : s.SameLoops (s.startSs1Axis t0 covered a) := by
  unfold State.startSs1Axis
  extract_lets t u
  split
  · exact .refl s
  · have hu : t.SameLoops u := t.sameLoops_modAxis a fun _ => ⟨rfl, rfl⟩
    exact ((s.sameLoops_stopAxisQueues a covered).trans hu).trans (State.sameLoops_of_axes rfl)

/-- `t` differs from `s` in nothing that the lanes, a loop or the recorder's events would tell, and no cause of an interrupt has
cleared. -/
structure State.LanesStay (s t : State) : Prop where
  lanes : t.lanes = s.lanes
  irq : ∀ k, s.host.irqStatus.getLsbD k = true → t.host.irqStatus.getLsbD k = true
  events : ∀ e ∈ s.recd.queue, e.IsEv → e ∈ t.recd.queue

theorem State.LanesStay.refl : s.LanesStay s := ⟨rfl, fun _ h => h, fun _ h _ => h⟩

theorem State.LanesStay.trans {s t u : State} (h : s.LanesStay t) (h' : t.LanesStay u) : s.LanesStay u :=
  ⟨h'.lanes.trans h.lanes, fun k hk => h'.irq k (h.irq k hk), fun e he hev => h'.events e (h.events e he hev) hev⟩

theorem State.lanesStay_forEach {α : Type} (l : List α) {f : State → α → State} (h : ∀ (t : State) (a : α), t.LanesStay (f t a)) :
    s.LanesStay (s.forEach l f) := s.forEach_invariant s.LanesStay l f (.refl s) fun t a _ ht => ht.trans (h t a)

theorem State.Moves.lanesStay {s t : State} (h : s.Moves t) : s.LanesStay t :=
  ⟨(congrArg State.lanes h.frame :), fun _ hk => h.host ▸ hk, h.events⟩

theorem State.lanesStay_emit (code : Nat) (obj : Word) (args : List Nat) : s.LanesStay (s.emit code obj args) :=
  ⟨rfl, fun _ h => h, fun _ he hev => s.emit_keeps he hev⟩

theorem State.lanesStay_raiseIrq (k : Nat) : s.LanesStay (s.raiseIrq k) := by
  refine ⟨s.raiseIrq_lanes k, fun j hj => ?_, fun e he _ => ?_⟩
  · rw [s.raiseIrq_irqStatus, BitVec.getLsbD_or, hj, Bool.true_or]
  · rwa [s.raiseIrq_recd]

theorem State.lanesStay_modAxis (a : Nat) (f : Axis → Axis) : s.LanesStay (s.modAxis a f) := (s.moves_modAxis a f).lanesStay

theorem State.lanesStay_modSafety (f : SafetySt → SafetySt) : s.LanesStay (s.modSafety f) := ⟨rfl, fun _ h => h, fun _ h _ => h⟩

theorem State.lanesStay_modHealth (f : HealthSt → HealthSt) : s.LanesStay (s.modHealth f) := ⟨rfl, fun _ h => h, fun _ h _ => h⟩

/-- A record stays where the lanes stay. -/
theorem State.LanesStay.records {r s t : State} (h : s.LanesStay t) {code : Nat} {obj : Word} {args : List Nat}
    (hr : Records r s code obj args) : Records r t code obj args := fun hq => h.events _ (hr hq) trivial

theorem State.lanesStay_startSs1Axis (t0 : Nat) (covered : List Nat) (a : Nat) : s.LanesStay (s.startSs1Axis t0 covered a) := by
  unfold State.startSs1Axis
  extract_lets t u
  split
  · exact .refl s
  · exact ((s.moves_stopAxisQueues a covered).lanesStay.trans (t.lanesStay_modAxis a _)).trans (u.lanesStay_modSafety _)

theorem State.lanesStay_pruneSs1 : s.LanesStay s.pruneSs1 := by
  obtain ⟨st, rs, h, -⟩ := s.pruned_pruneSs1
  rw [h]
  exact ⟨rfl, fun _ h => h, fun _ h _ => h⟩

theorem State.sameLoops_pruneSs1 : s.SameLoops s.pruneSs1 := by
  obtain ⟨st, rs, h, -⟩ := s.pruned_pruneSs1
  rw [h]
  exact .refl s

theorem State.beginZones_stay (r : Ss1Req) : s.LanesStay (s.beginZones r) ∧ s.SameLoops (s.beginZones r) := by
  unfold State.beginZones
  extract_lets t
  split
  · refine ⟨(s.lanesStay_modSafety _).trans (t.lanesStay_forEach _ fun u z => ?_),
      State.SameLoops.trans (.refl s) (t.sameLoops_forEach _ fun u z => ?_)⟩
    · split
      · exact .refl u
      · exact ((u.lanesStay_modSafety _).trans (State.lanesStay_emit _ ..)).trans (State.lanesStay_raiseIrq _ 7)
    · split
      · exact .refl u
      · exact State.sameLoops_of_axes (State.raiseIrq_axes _ 7)
  · exact ⟨s.lanesStay_modSafety _, .refl s⟩

theorem State.lanesStay_beginDueSs1 : s.LanesStay s.beginDueSs1 :=
  s.lanesStay_forEach _ fun t r => ((t.beginZones_stay r).1.trans (State.lanesStay_forEach _ _ fun u a =>
    u.lanesStay_startSs1Axis _ _ a)).trans (State.lanesStay_pruneSs1 _)

theorem State.sameLoops_beginDueSs1 : s.SameLoops s.beginDueSs1 :=
  s.sameLoops_forEach _ fun t r => ((t.beginZones_stay r).2.trans (State.sameLoops_forEach _ _ fun u a =>
    u.sameLoops_startSs1Axis _ _ a)).trans (State.sameLoops_pruneSs1 _)

end Sys2Proof.Machine

/-! ### Axes whose state a takeover has lost (R335) -/

namespace Sys2Proof.Machine
open Sys2Proof.Claims

variable (s : State)

/-! #### The axis closes afresh (R80) -/

/-- The axis has no state yet; a closed loop closes anew, and SS1 goes on as it was. -/
def State.reclosed (s : State) (a : Nat) : State :=
  let t := s.modAxis a fun x => { x with softStart := false, lp := { x.lp with seen := false } }
  if (s.axis a).closed then
    (t.closeFree a).modAxis a fun x => { x with lp := { x.lp with ss1 := (s.axis a).lp.ss1 } }
  else t

/-- `t` is `s` with axis `a` afresh: its loop is closed as before, it has seen no sample, and every axis keeps its queue and its
homing run. -/
structure State.Afresh (a : Nat) (s t : State) : Prop where
  frame : ∃ ax, t = { s with axes := ax }
  closed : (t.axis a).closed = (s.axis a).closed
  seen : (t.axis a).lp.seen = false
  bound : ∀ b, (t.axis b).bound = (s.axis b).bound
  home : ∀ b, (t.axis b).home = (s.axis b).home

/-- A change of the axis alone. -/
theorem State.afresh_modAxis {a : Nat} {f : Axis → Axis} (hc : (f (s.axis a)).closed = (s.axis a).closed)
    (hs : (f (s.axis a)).lp.seen = false) (hb : (f (s.axis a)).bound = (s.axis a).bound)
    (hh : (f (s.axis a)).home = (s.axis a).home) : s.Afresh a (s.modAxis a f) := by
  have ha : (s.modAxis a f).axis a = f (s.axis a) := (s.modAxis_axis ..).trans (if_pos rfl)
  refine ⟨⟨_, rfl⟩, by rw [ha, hc], by rw [ha, hs], fun b => ?_, fun b => ?_⟩
  all_goals
    rw [s.modAxis_axis]
    split
    · subst_vars; assumption
    · rfl

theorem State.Afresh.trans {a : Nat} {s t u : State} (h : s.Afresh a t) (h' : t.Afresh a u) : s.Afresh a u := by
  obtain ⟨⟨ax, rfl⟩, hc, -, hb, hh⟩ := h
  obtain ⟨⟨ax', rfl⟩, hc', hs', hb', hh'⟩ := h'
  exact ⟨⟨_, rfl⟩, hc'.trans hc, hs', fun b => (hb' b).trans (hb b), fun b => (hh' b).trans (hh b)⟩

/-- Closing records at most that the reference was reset. -/
theorem State.closeFree_cases (a : Nat) : ∃ ref, s.closeFree a = s.closeOnRef a ref 0 ∨
    ∃ args, s.closeFree a = (s.closeOnRef a ref 0).emit evRefReset (mkRef clsAxis a) args := by
  unfold State.closeFree
  extract_lets x pos resumes far t
  refine ⟨if x.lp.hadRef && !far then x.lp.posRef else pos, ?_⟩
  by_cases h : far = true
  · exact .inr ⟨_, if_pos h⟩
  · exact .inl (if_neg h)

theorem State.reclosed_cases (a : Nat) : ∃ u, s.Afresh a u ∧
    (s.reclosed a = u ∨ ∃ args, s.reclosed a = u.emit evRefReset (mkRef clsAxis a) args) := by
  have h0 : s.Afresh a (s.modAxis a fun x => { x with softStart := false, lp := { x.lp with seen := false } }) :=
    s.afresh_modAxis rfl rfl rfl rfl
  unfold State.reclosed
  extract_lets t
  by_cases hc : (s.axis a).closed = true
  · rw [if_pos hc]
    have ht : (t.axis a).closed = true := h0.closed.trans hc
    obtain ⟨ref, h⟩ := t.closeFree_cases a
    have h1 : t.Afresh a (t.closeOnRef a ref 0) := t.afresh_modAxis ht.symm h0.seen rfl rfl
    have h2 := State.afresh_modAxis (t.closeOnRef a ref 0) (a := a)
      (f := fun x => { x with lp := { x.lp with ss1 := (s.axis a).lp.ss1 } }) rfl h1.seen rfl rfl
    refine ⟨_, (h0.trans h1).trans h2, h.imp (fun h => ?_) fun ⟨args, h⟩ => ⟨args, ?_⟩⟩
    · rw [h]
    · rw [h]; rfl
  · rw [if_neg hc]
    exact ⟨t, h0, .inl rfl⟩

/-! #### SS1 of the arm that nothing moves (R216) -/

/-- The axes `l` follow no queue and are in no homing run. -/
def State.Idle (s : State) (l : List Nat) : Prop := ∀ b ∈ l, (s.axis b).bound = none ∧ (s.axis b).home.run = none

/-- `t` comes from `s` without a record, and leaves the axes `l` idle. -/
structure State.Quiet (l : List Nat) (s t : State) : Prop where
  recd : t.recd = s.recd
  idle : s.Idle l → t.Idle l

theorem State.stopAxisQueues_idle {a : Nat} (hb : (s.axis a).bound = none) (hr : (s.axis a).home.run = none) (covered : List Nat) :
    s.stopAxisQueues a covered = s := by
  unfold State.stopAxisQueues State.homeFail
  simp only [hb, hr]

/-- SS1 of an idle axis records nothing. -/
theorem State.startSs1Axis_quiet {l : List Nat} {a : Nat} (ha : a ∈ l) (hs : s.Idle l) (t0 : Nat) (covered : List Nat) :
    (s.startSs1Axis t0 covered a).recd = s.recd ∧ (s.startSs1Axis t0 covered a).Idle l := by
  unfold State.startSs1Axis
  extract_lets t u
  split
  · exact ⟨rfl, hs⟩
  · have ht : t = s := s.stopAxisQueues_idle (hs a ha).1 (hs a ha).2 covered
    have hu : u.recd = t.recd := rfl
    refine ⟨hu.trans (by rw [ht]), fun b hb => ?_⟩
    have hb' := hs b hb
    change (u.axis b).bound = none ∧ (u.axis b).home.run = none
    simp only [u, ht, State.modAxis_axis]
    split
    · subst_vars; exact hb'
    · exact hb'

/-- A request of an idle arm, and of no zone, begins without a record. -/
theorem State.beginSs1_quiet {r : Ss1Req} (hr : r.scope = .axis) (hs : s.Idle r.axes) :
    (s.beginSs1 r).recd = s.recd ∧ (s.beginSs1 r).Idle r.axes := by
  have hz : (s.beginZones r).recd = s.recd ∧ (s.beginZones r).Idle r.axes := by
    unfold State.beginZones
    rw [hr]
    exact ⟨rfl, hs⟩
  rw [s.beginSs1_eq]
  have h := (s.beginZones r).forEach_invariant (fun t => t.recd = s.recd ∧ t.Idle r.axes) r.axes
    (fun u a => u.startSs1Axis s.tick.no r.axes a) hz fun t a ha ht =>
      (t.startSs1Axis_quiet ha ht.2 _ _).imp_left fun h => h.trans ht.1
  obtain ⟨st, rs, hp, -⟩ := State.pruned_pruneSs1 ((s.beginZones r).forEach r.axes fun u a => u.startSs1Axis s.tick.no r.axes a)
  rw [hp]
  exact h

/-- Where every request before has begun, only the new one begins. -/
theorem State.beginDueSs1_quiet {axes : List Nat} (hb : ∀ y ∈ s.safety.reqs, y.begun = true) (hs : s.Idle axes) (obj : Word)
    (cause t0 : Nat) (d : Bool) : (s.requestSs1 axes .axis obj cause t0 d).beginDueSs1.recd = s.recd := by
  refine (State.forEach_invariant (s.requestSs1 axes .axis obj cause t0 d) (fun t => t.recd = s.recd ∧ t.Idle axes) _ _
    ⟨rfl, hs⟩ fun t r hr ht => ?_).1
  obtain ⟨hmem, hdue⟩ := List.mem_filter.mp hr
  obtain hold | hnew := List.mem_append.mp hmem
  · rw [hb r hold] at hdue
    exact absurd hdue Bool.false_ne_true
  · obtain rfl := List.mem_singleton.mp hnew
    exact (t.beginSs1_quiet rfl ht.2).imp_left fun h => h.trans ht.1

/-! #### What the loss of an axis's state leaves -/

/-- SS1 of the axes of an arm from tick `no`, counted as stopped by the device. -/
def State.stopArm (s : State) (a no : Nat) : State :=
  (s.requestSs1 (s.armAxes a) .axis (mkRef clsAxis a) 0 no false).beginDueSs1.noteFaultStop (s.armAxes a)

theorem State.lanesStay_stopArm (a no : Nat) : s.LanesStay (s.stopArm a no) :=
  have hreq : s.LanesStay (s.requestSs1 (s.armAxes a) .axis (mkRef clsAxis a) 0 no false) := s.lanesStay_modSafety _
  (hreq.trans (State.lanesStay_beginDueSs1 _)).trans ⟨rfl, fun _ h => h, fun _ h _ => h⟩

theorem State.sameLoops_stopArm (a no : Nat) : s.SameLoops (s.stopArm a no) :=
  State.sameLoops_beginDueSs1 (s.requestSs1 (s.armAxes a) .axis (mkRef clsAxis a) 0 no false)

/-- A stop has no part in the clock. -/
theorem State.stopArm_frame (a no : Nat) : ∃ sf ax qs sp rc hs hl, s.stopArm a no =
    { s with safety := sf, axes := ax, queues := qs, supply := sp, recd := rc, host := hs, health := hl } := by
  obtain ⟨sf, ax, qs, sp, rc, hs, h, -⟩ :=
    State.stops_beginDueSs1 (s.requestSs1 (s.armAxes a) .axis (mkRef clsAxis a) 0 no false)
  refine ⟨sf, ax, qs, sp, rc, hs, { s.health with faultStop := dedup (s.health.faultStop ++ s.armAxes a) }, ?_⟩
  unfold State.stopArm
  rw [h]
  rfl

theorem State.mem_stopArm {a b : Nat} (hb : b ∈ s.armAxes a) (no : Nat) : b ∈ (s.stopArm a no).health.faultStop :=
  mem_dedup.mpr (List.mem_append_right _ hb)

theorem State.lostAxis_eq (a r : Nat) :
    s.lostAxis a r = ((s.reclosed a).stopArm a s.tick.no).emit evTakeoverStateLost (mkRef clsAxis a) [r] := rfl

theorem State.Afresh.armAxes {a : Nat} {s t : State} (h : s.Afresh a t) : t.armAxes a = s.armAxes a := by
  obtain ⟨⟨ax, rfl⟩, -⟩ := h
  rfl

theorem State.Afresh.lanesStay {a : Nat} {s t : State} (h : s.Afresh a t) : s.LanesStay t := by
  obtain ⟨⟨ax, rfl⟩, -⟩ := h
  exact ⟨rfl, fun _ h => h, fun _ h _ => h⟩

theorem State.lanesStay_lostAxis (a r : Nat) : s.LanesStay (s.lostAxis a r) := by
  rw [s.lostAxis_eq]
  refine State.LanesStay.trans ?_ ((State.lanesStay_stopArm _ a _).trans (State.lanesStay_emit _ ..))
  obtain ⟨u, hu, h | ⟨args, h⟩⟩ := s.reclosed_cases a
  · rw [h]; exact hu.lanesStay
  · rw [h]; exact hu.lanesStay.trans (u.lanesStay_emit ..)

theorem State.lostAxis_loop (a r : Nat) :
    ((s.lostAxis a r).axis a).closed = (s.axis a).closed ∧ ((s.lostAxis a r).axis a).lp.seen = false := by
  have hstop := State.sameLoops_stopArm (s.reclosed a) a s.tick.no a
  have hre : ((s.reclosed a).axis a).closed = (s.axis a).closed ∧ ((s.reclosed a).axis a).lp.seen = false := by
    obtain ⟨u, hu, h | ⟨args, h⟩⟩ := s.reclosed_cases a
    · rw [h]; exact ⟨hu.closed, hu.seen⟩
    · rw [h]; exact ⟨hu.closed, hu.seen⟩
  rw [s.lostAxis_eq]
  exact ⟨hstop.1.trans hre.1, hstop.2.trans hre.2⟩

theorem State.lostAxis_faultStop {a b : Nat} (r : Nat) (hb : b ∈ s.armAxes a) : b ∈ (s.lostAxis a r).health.faultStop := by
  rw [s.lostAxis_eq]
  refine State.mem_stopArm _ ?_ _
  obtain ⟨u, hu, h | ⟨args, h⟩⟩ := s.reclosed_cases a
  · rw [h]; exact hu.armAxes.symm ▸ hb
  · rw [h]; exact hu.armAxes.symm ▸ hb

theorem State.Afresh.emit_frame {a : Nat} {s u : State} (h : s.Afresh a u) (code : Nat) (obj : Word) (args : List Nat) :
    ∃ ax rc, u.emit code obj args = { s with axes := ax, recd := rc } := by
  obtain ⟨⟨ax, rfl⟩, -⟩ := h
  exact ⟨ax, _, rfl⟩

/-- What an axis that closes afresh leaves: the clock and the requests, its arm as idle as it was, and at most one record more. -/
theorem State.reclosed_quiet {a : Nat} (hs : s.Idle (s.armAxes a)) (hq : queuedEvents s.recd.queue < 1024) :
    (∃ ax rc, s.reclosed a = { s with axes := ax, recd := rc }) ∧ (s.reclosed a).Idle ((s.reclosed a).armAxes a) ∧
      queuedEvents (s.reclosed a).recd.queue ≤ queuedEvents s.recd.queue + 1 := by
  obtain ⟨u, hu, hcases⟩ := s.reclosed_cases a
  have hidle : u.Idle (u.armAxes a) := fun b hb => by
    rw [hu.bound, hu.home]
    exact hs b (hu.armAxes ▸ hb)
  have hrecd : u.recd = s.recd := by
    obtain ⟨⟨ax, rfl⟩, -⟩ := hu
    rfl
  obtain h | ⟨args, h⟩ := hcases
  · rw [h, hrecd]
    obtain ⟨ax, hax⟩ := hu.frame
    exact ⟨⟨ax, s.recd, hax⟩, hidle, Nat.le_succ _⟩
  · rw [h, u.queuedEvents_emit _ _ _ (hrecd ▸ hq), hrecd]
    exact ⟨hu.emit_frame .., hidle, Nat.le_refl _⟩

/-- The event behind at most one other. -/
theorem State.lostAxis_records {a : Nat} (r : Nat) (hb : ∀ y ∈ s.safety.reqs, y.begun = true) (hs : s.Idle (s.armAxes a)) :
    RecordsWithin 1 s (s.lostAxis a r) evTakeoverStateLost (mkRef clsAxis a) [r] := by
  intro hq
  obtain ⟨hframe, hidle, hcount⟩ := s.reclosed_quiet hs (Nat.lt_of_succ_lt hq)
  rw [s.lostAxis_eq]
  generalize s.reclosed a = u at hframe hidle hcount
  obtain ⟨ax, rc, rfl⟩ := hframe
  have hrecd := State.beginDueSs1_quiet { s with axes := ax, recd := rc } hb hidle (mkRef clsAxis a) 0 s.tick.no false
  obtain ⟨sf, ax', qs, sp, rc', hst, hl, h⟩ := State.stopArm_frame { s with axes := ax, recd := rc } a s.tick.no
  have hrc : rc' = rc := (congrArg State.recd h).symm.trans hrecd
  rw [h]
  refine State.records_emit _ _ _ _ ?_
  rw [hrc]
  exact Nat.lt_of_le_of_lt hcount hq

end Sys2Proof.Machine

/-! ### Copies between pairs (Table 10.1, R334) -/

namespace Sys2Proof.Machine
open Sys2Proof.Claims

/-! #### Spans -/

section
variable {w : Nat}

/-- An address that a filter keeps reads as before. -/
theorem cellRead_filter_of_kept {m : Cells w} {q : Nat × BitVec w → Bool} {a : Nat} (h : ∀ v, q (a, v) = true) :
    cellRead (m.filter q) a = cellRead m a := by
  induction m with
  | nil => rfl
  | cons e r ih =>
    obtain ⟨j, v⟩ := e
    rw [List.filter_cons]
    split
    · rw [cellRead, cellRead, ih]
    next hq =>
      have hja : j ≠ a := fun hja => hq (hja ▸ h v)
      rw [ih, cellRead, if_neg hja]

/-- The words of a canonical memory, from `a` on, laid over another's at the addresses they have. -/
theorem cellRead_foldl_write {src m : Cells w} {lo a n k : Nat} (hs : cellsFrom lo src = true) (hm : cellsWf m = true) :
    cellRead ((src.filter fun e => decide (a ≤ e.1) && decide (e.1 < a + n)).foldl
      (fun m e => cellWrite m (e.1 - a + a) e.2) m) k =
      if (a ≤ k ∧ k < a + n) ∧ cellRead src k ≠ 0 then cellRead src k else cellRead m k := by
  induction src generalizing lo m with
  | nil => exact (if_neg fun h => h.2 rfl).symm
  | cons e r ih =>
    obtain ⟨j, v⟩ := e
    simp only [cellsFrom, Bool.and_eq_true, decide_eq_true_eq] at hs
    obtain ⟨⟨-, hv⟩, hr⟩ := hs
    have hj : cellRead r j = 0 := cellRead_below hr (Nat.lt_succ_self j)
    by_cases hin : a ≤ j ∧ j < a + n
    · have hkeep : (decide (a ≤ j) && decide (j < a + n)) = true := by simp only [hin, decide_true, Bool.and_self]
      rw [List.filter_cons, if_pos hkeep, List.foldl_cons, ih hr (cellsWf_write _ _ hm), cellRead_write hm,
        Nat.sub_add_cancel hin.1]
      by_cases hk : k = j
      · subst hk
        rw [hj, if_neg (fun h => h.2 rfl), if_pos rfl, cellRead, if_pos rfl, if_pos ⟨hin, hv⟩]
      · rw [if_neg hk, cellRead, if_neg (Ne.symm hk)]
    · have hdrop : ¬(decide (a ≤ j) && decide (j < a + n)) = true := by
        rwa [Bool.and_eq_true, decide_eq_true_eq, decide_eq_true_eq]
      rw [List.filter_cons, if_neg hdrop, ih hr hm]
      by_cases hk : j = k
      · subst hk
        rw [if_neg fun h => hin h.1, if_neg fun h => hin h.1]
      · rw [cellRead, if_neg hk]

end

/-- A span that keeps its place. -/
theorem cellRead_moveSpan {src dst : Cells 32} (hs : cellsWf src = true) (hd : cellsWf dst = true) (a n k : Nat) :
    cellRead (moveSpan src dst a a n) k = if a ≤ k ∧ k < a + n then cellRead src k else cellRead dst k := by
  unfold moveSpan
  rw [cellRead_foldl_write hs (cellsFrom_filter _ hd)]
  by_cases hin : a ≤ k ∧ k < a + n
  · have hdrop : ∀ v : Word, (!(decide (a ≤ (k, v).1) && decide ((k, v).1 < a + n))) = false := fun _ => by
      simp only [hin, decide_true, Bool.and_self, Bool.not_true]
    rw [if_pos hin, cellRead_filter_of_dropped hdrop]
    split
    · rfl
    next h => exact (not_not.mp fun hne => h ⟨hin, hne⟩).symm
  · have hkeep : ∀ v : Word, (!(decide (a ≤ (k, v).1) && decide ((k, v).1 < a + n))) = true := fun _ => by
      rw [Bool.not_eq_true', Bool.eq_false_iff, ne_eq, Bool.and_eq_true, decide_eq_true_eq, decide_eq_true_eq]
      exact hin
    rw [if_neg hin, if_neg fun h => hin h.1, cellRead_filter_of_kept hkeep]

theorem moveSpan_zero (src dst : Cells 32) (a b : Nat) : moveSpan src dst a b 0 = dst := by
  unfold moveSpan
  have hnone : ∀ e ∈ src, ¬(decide (a ≤ e.1) && decide (e.1 < a + 0)) = true := fun e _ h => by
    rw [Bool.and_eq_true, decide_eq_true_eq, decide_eq_true_eq] at h
    omega
  have hall : ∀ e ∈ dst, (!(decide (b ≤ e.1) && decide (e.1 < b + 0))) = true := fun e _ => by
    rw [Bool.not_eq_true', Bool.eq_false_iff, ne_eq, Bool.and_eq_true, decide_eq_true_eq, decide_eq_true_eq]
    omega
  rw [List.filter_eq_nil_iff.mpr hnone, List.filter_eq_self.mpr hall]
  rfl

/-! #### What a takeover copies where no module is loaded -/

section
variable {s : State} (hk : s.lanes.kernel = none)
include hk

theorem State.userModule_of_none : s.userModule = {} := by
  rw [State.userModule, hk]
  rfl

/-- A slot's bank, and the latch's values over the slot's entry of the control block. -/
theorem State.copyOne_xMem (a p k : Nat) (y : PairSt) : (s.copyOne a p k k y).xMem =
    (s.axis a).lp.control.foldl (fun m e => cellWrite m (Config.ctlAddr k e.1 % 1024) e.2)
      (moveSpan (s.pair p).xMem y.xMem (bankAt (s.lastBank a) k) (bankAt (s.lastBank a) k) 96) := by
  have hspans : ((s.userModule.slotSpans (s.lastBank a) k k).foldl (s.pair p).takeSpan y).xMem =
      moveSpan (s.pair p).xMem y.xMem (bankAt (s.lastBank a) k) (bankAt (s.lastBank a) k) 96 := by
    rw [State.userModule_of_none hk]
    exact moveSpan_zero ..
  exact congrArg (fun m => (s.axis a).lp.control.foldl (fun m e => cellWrite m (Config.ctlAddr k e.1 % 1024) e.2) m) hspans

/-- The control block goes over whole. -/
theorem State.laneSpans_xMem (p : Nat) (y : PairSt) :
    (s.userModule.laneSpans.foldl (s.pair p).takeSpan y).xMem = moveSpan (s.pair p).xMem y.xMem 0 0 1024 := by
  rw [State.userModule_of_none hk]
  exact moveSpan_zero ..

end

/-- The fields of a slot's entry that the latch leaves lie below 8. -/
theorem LoopSt.control_fields (lp : LoopSt) : ∀ e ∈ lp.control, e.1 < 8 := by
  unfold LoopSt.control
  intro e he
  split at he <;> simp only [List.mem_append, List.mem_cons, List.not_mem_nil, or_false] at he
  · obtain (rfl | rfl) | rfl | rfl | rfl | rfl | rfl := he <;> simp
  · obtain rfl | rfl := he <;> simp

/-- Writes to other addresses leave a word. -/
theorem cellRead_foldl_other {α : Type} {l : List α} {g : α → Nat} {v : α → Word} {a : Nat} (h : ∀ e ∈ l, a ≠ g e)
    (m : Cells 32) : cellRead (l.foldl (fun m e => cellWrite m (g e) (v e)) m) a = cellRead m a :=
  List.foldlRecOn (motive := fun t => cellRead t a = cellRead m a) l _ rfl fun t ht e he =>
    (cellRead_cellWrite_other t (v e) (h e he)).trans ht

/-- The address is the slot's in its valid bank. -/
def State.inBank (s : State) (e : Nat × Nat) (a : Nat) : Bool :=
  let b := bankAt (s.lastBank e.2) e.1
  decide (b ≤ a ∧ a < b + 96)

section
variable {s : State} (hk : s.lanes.kernel = none) {p : Nat} (hp : cellsWf (s.pair p).xMem = true)
include hk hp

theorem State.copyOne_read {e : Nat × Nat} {a : Nat} {y : PairSt} (hy : cellsWf y.xMem = true)
    (ha : ∀ i, i < 8 → Config.ctlAddr e.1 i % 1024 ≠ a) : cellsWf (s.copyOne e.2 p e.1 e.1 y).xMem = true ∧
      cellRead (s.copyOne e.2 p e.1 e.1 y).xMem a = if s.inBank e a then cellRead (s.pair p).xMem a else cellRead y.xMem a := by
  rw [State.copyOne_xMem hk]
  refine ⟨cellsWf_foldl_write _ _ _ (cellsWf_moveSpan hy), ?_⟩
  rw [cellRead_foldl_other fun f hf => (ha f.1 (LoopSt.control_fields _ f hf)).symm, cellRead_moveSpan hp hy]
  exact if_congr (decide_eq_true_iff).symm rfl rfl

/-- What is not substituted comes from the failed pair where Table 10.1 marks it as copied. -/
theorem State.copySlots_read {held : List (Nat × Nat)} {a : Nat} {y : PairSt} (hy : cellsWf y.xMem = true)
    (ha : ∀ e ∈ held, ∀ i, i < 8 → Config.ctlAddr e.1 i % 1024 ≠ a) :
    cellRead (held.foldl (fun y e => s.copyOne e.2 p e.1 e.1 y) y).xMem a =
      if held.any fun e => s.inBank e a then cellRead (s.pair p).xMem a else cellRead y.xMem a := by
  induction held generalizing y with
  | nil => rfl
  | cons e r ih =>
    obtain ⟨hwf, hread⟩ := State.copyOne_read hk hp hy (ha e List.mem_cons_self)
    rw [List.foldl_cons, ih hwf fun f hf => ha f (List.mem_cons_of_mem _ hf), hread, List.any_cons]
    cases r.any fun e => s.inBank e a <;> cases s.inBank e a <;> rfl

theorem State.copyPair_read {held : List (Nat × Nat)} {a : Nat} {y : PairSt} (hy : cellsWf y.xMem = true)
    (ha : ∀ e ∈ held, ∀ i, i < 8 → Config.ctlAddr e.1 i % 1024 ≠ a) : cellRead (s.copyPair held p y).xMem a =
      cellRead (if decide (a < 0x400) || held.any fun e => s.inBank e a then (s.pair p).xMem else y.xMem) a := by
  have hspans := State.laneSpans_xMem hk p y
  have hwf : cellsWf (s.userModule.laneSpans.foldl (s.pair p).takeSpan y).xMem = true := hspans ▸ cellsWf_moveSpan hy
  unfold State.copyPair
  rw [State.copySlots_read hk hp hwf ha, hspans, cellRead_moveSpan hp hy]
  have hlow : (0 ≤ a ∧ a < 0 + 1024) ↔ a < 0x400 := by omega
  simp only [hlow]
  by_cases h : a < 0x400 <;> cases held.any fun e => s.inBank e a <;> simp [h]

end

/-! #### Configurations -/

variable {s : State}

theorem PairSt.takeSpan_ext (x y : PairSt) (e : Span) : (x.takeSpan y e).ext = y.ext := by
  unfold takeSpan
  split <;> rfl

theorem PairSt.takeSpans_ext (x y : PairSt) (l : List Span) : (l.foldl x.takeSpan y).ext = y.ext :=
  List.foldlRecOn (motive := fun z => z.ext = y.ext) l _ rfl fun z hz e _ => (x.takeSpan_ext z e).trans hz

theorem State.copyOne_cfg (a p k : Nat) (y : PairSt) : (s.copyOne a p k k y).ext.cfg =
    tblSet y.ext.cfg k (tblGet (0, p, k) (s.pair p).ext.cfg k) :=
  congrArg (fun x : ExtWrites => tblSet x.cfg k (tblGet (0, p, k) (s.pair p).ext.cfg k)) ((s.pair p).takeSpans_ext y _)

/-- A slot that has its configuration keeps it, as further slots are copied. -/
theorem State.copySlots_cfg {p k : Nat} {d : Nat × Nat × Nat} (l : List (Nat × Nat)) {z : PairSt}
    (hz : tblGet d z.ext.cfg k = tblGet (0, p, k) (s.pair p).ext.cfg k) :
    tblGet d (l.foldl (fun y e => s.copyOne e.2 p e.1 e.1 y) z).ext.cfg k = tblGet (0, p, k) (s.pair p).ext.cfg k :=
  List.foldlRecOn (motive := fun z : PairSt => tblGet d z.ext.cfg k = tblGet (0, p, k) (s.pair p).ext.cfg k) l _ hz
    fun x hx f _ => by
      rw [State.copyOne_cfg, tblGet_tblSet]
      split
      next h => rw [h]
      next => exact hx

/-- Every slot that is copied takes the failed pair's configuration. -/
theorem State.copyPair_cfg {held : List (Nat × Nat)} {p : Nat} (y : PairSt) {e : Nat × Nat} (he : e ∈ held) (d : Nat × Nat × Nat) :
    tblGet d (s.copyPair held p y).ext.cfg e.1 = tblGet (0, p, e.1) (s.pair p).ext.cfg e.1 := by
  unfold State.copyPair
  generalize s.userModule.laneSpans.foldl (s.pair p).takeSpan y = z
  induction held generalizing z with
  | nil => cases he
  | cons f r ih =>
    rw [List.foldl_cons]
    obtain rfl | hr := List.mem_cons.mp he
    · exact State.copySlots_cfg r (by rw [State.copyOne_cfg, tblGet_tblSet_same])
    · exact ih hr _

end Sys2Proof.Machine

/-! ### The reserve takes a lane over (R334, R335) -/

namespace Sys2Proof.Machine
open Sys2Proof.Claims

variable (s : State)

theorem State.exec_laneTakeover (l : Fin 17) : exec (.laneTakeover l) s = .next ((s.logLane l.val).takeover.elim s fun e =>
    e.pair.elim s fun q => if e.firstTick ≤ s.tick.no ∧ (s.pair q).state = lpTest then s.takeLane l.val e q else s) := by
  have h : execLaneTakeover l s = .next ((s.logLane l.val).takeover.elim s fun e =>
      e.pair.elim s fun q => if e.firstTick ≤ s.tick.no ∧ (s.pair q).state = lpTest then s.takeLane l.val e q else s) := by
    unfold execLaneTakeover
    cases (s.logLane l.val).takeover with
    | none => rfl
    | some e => cases hp : e.pair <;> simp only [hp, Option.elim]
  exact h

theorem State.exec_laneTakeover_idle {l : Fin 17} (h : (s.logLane l.val).takeover = none) : exec (.laneTakeover l) s = .next s := by
  rw [s.exec_laneTakeover, h]
  rfl

theorem State.exec_laneTakeover_lost {l : Fin 17} {e : Takeover} (h : (s.logLane l.val).takeover = some e) (hp : e.pair = none) :
    exec (.laneTakeover l) s = .next s := by
  rw [s.exec_laneTakeover, h, Option.elim_some, hp]
  rfl

theorem State.exec_laneTakeover_reserve {l : Fin 17} {e : Takeover} {q : Nat} (h : (s.logLane l.val).takeover = some e)
    (hp : e.pair = some q) : exec (.laneTakeover l) s =
      .next (if e.firstTick ≤ s.tick.no ∧ (s.pair q).state = lpTest then s.takeLane l.val e q else s) := by
  rw [s.exec_laneTakeover, h, Option.elim_some, hp]
  rfl

/-- A pair that takes a lane over, with the memory of the failed one. -/
def State.takes (s : State) (l : Nat) (e : Takeover) (y : PairSt) : PairSt :=
  { (s.copyPair (s.logLane l).held e.failed y).enter (if e.prevStart then s.laneState else lpRun) with
    lane := some l, reserve := false }

/-- The takeover itself, before the axes that it has lost. -/
def State.taken (s : State) (l : Nat) (e : Takeover) (q : Nat) : State :=
  (((s.modPair q (s.takes l e)).modLogLane l fun y => { y with takeover := none }).emit
    evLaneTakeover s.devRef [l, e.failed, q, s.tick.cycle.toNat, e.extrapolated]).raiseIrq 14

theorem State.takeLane_eq (l : Nat) (e : Takeover) (q : Nat) : s.takeLane l e q =
    (lostAxes (s.logLane l).held e.damaged).foldl (fun u d => u.lostAxis d.1 d.2) (s.taken l e q) := rfl

section
variable (l : Nat) (e : Takeover) (q : Nat)

theorem State.taken_lanes : (s.taken l e q).lanes =
    ((s.modPair q (s.takes l e)).modLogLane l fun y => { y with takeover := none }).lanes := State.raiseIrq_lanes _ 14

theorem State.taken_pair (k : Nat) : (s.taken l e q).pair k = if k = q then s.takes l e (s.pair q) else s.pair k := by
  rw [State.pair, s.taken_lanes]
  exact s.modPair_pair q k (s.takes l e)

theorem State.taken_logLane : (s.taken l e q).logLane l = { s.logLane l with takeover := none } := by
  rw [State.logLane, s.taken_lanes]
  exact (State.modLogLane_logLane ..).trans (if_pos rfl)

theorem State.taken_irq : (s.taken l e q).host.irqStatus.getLsbD 14 = true := State.raiseIrq_getLsbD _ (by decide)

theorem State.taken_frame : ∃ hs rc ln, s.taken l e q = { s with host := hs, recd := rc, lanes := ln } :=
  ⟨_, _, _, State.raiseIrq_eq _ 14⟩

theorem State.records_taken : Records s (s.taken l e q) evLaneTakeover s.devRef
    [l, e.failed, q, s.tick.cycle.toNat, e.extrapolated] := by
  intro hq
  rw [State.taken, State.raiseIrq_recd]
  exact State.records_emit _ _ _ _ hq

/-- The takeover is one record. -/
theorem State.queuedEvents_taken (hq : queuedEvents s.recd.queue < 1024) :
    queuedEvents (s.taken l e q).recd.queue = queuedEvents s.recd.queue + 1 := by
  rw [State.taken, State.raiseIrq_recd]
  exact State.queuedEvents_emit _ _ _ _ hq

theorem State.lanesStay_takeLane : (s.taken l e q).LanesStay (s.takeLane l e q) := by
  rw [s.takeLane_eq]
  exact List.foldlRecOn (motive := fun t => (s.taken l e q).LanesStay t) _ _ (.refl _) fun t ht d _ =>
    ht.trans (t.lanesStay_lostAxis ..)

/-- The memory of the failed pair that Table 10.1 marks as copied, where no module is loaded. -/
theorem State.takes_memory (hf : cellsWf (s.pair e.failed).xMem = true) (hq : cellsWf (s.pair q).xMem = true)
    (hk : s.lanes.kernel = none) :
    (∀ y ∈ (s.logLane l).held, tblGet (0, q, y.1) (s.takes l e (s.pair q)).ext.cfg y.1 =
      tblGet (0, e.failed, y.1) (s.pair e.failed).ext.cfg y.1) ∧
    ∀ a, (∀ y ∈ (s.logLane l).held, ∀ i, i < 8 → Config.ctlAddr y.1 i % 1024 ≠ a) →
      cellRead (s.takes l e (s.pair q)).xMem a = cellRead
        (if decide (a < 0x400) || (s.logLane l).held.any fun y => s.inBank y a then (s.pair e.failed).xMem else (s.pair q).xMem) a :=
  ⟨fun _ hy => State.copyPair_cfg _ hy _, fun _ ha => State.copyPair_read hk hf hq ha⟩

end

/-! #### Damaged words (R335) -/

/-- The axis of a slot is the one that the slot's entry names. -/
theorem held_find_of_tblGet {l : Tbl (Option Nat)} {k a : Nat} (h : tblGet none l k = some a) :
    ((l.filterMap fun e => e.2.map fun b => (e.1, b)).find? fun e => e.1 = k) = some (k, a) := by
  induction l with
  | nil => cases h
  | cons e r ih =>
    obtain ⟨i, v⟩ := e
    by_cases hi : i = k
    · obtain rfl : v = some a := by rwa [tblGet, if_pos hi] at h
      subst hi
      rw [List.filterMap_cons]
      exact List.find?_cons_of_pos (decide_eq_true rfl)
    · rw [tblGet, if_neg hi] at h
      rw [List.filterMap_cons]
      cases v with
      | none => exact ih h
      | some b =>
        refine (List.find?_cons_of_neg (p := fun e : Nat × Nat => decide (e.1 = k)) (a := (i, b)) ?_).trans (ih h)
        exact fun hc => hi (of_decide_eq_true hc)

/-- A word of a slot loses the slot's axis. -/
theorem lostAxes_single {x : LogLane} {k r a : Nat} (hr : r ≠ 3) (h : tblGet none x.slots k = some a) :
    lostAxes x.held [(k, r)] = [(a, r)] := by
  have hfind : (x.held.find? fun e => e.1 = k) = some (k, a) := held_find_of_tblGet h
  unfold lostAxes
  rw [if_neg (by simp [hr]), List.filterMap_cons, hfind]
  rfl

section
variable {l : Nat} {e : Takeover} {q : Nat}

theorem State.takeLane_undamaged (hd : e.damaged = []) : s.takeLane l e q = s.taken l e q := by
  rw [s.takeLane_eq, hd]
  rfl

theorem State.takeLane_damaged {k r a : Nat} (hd : e.damaged = [(k, r)]) (hr : r ≠ 3)
    (h : tblGet none (s.logLane l).slots k = some a) : s.takeLane l e q = (s.taken l e q).lostAxis a r := by
  rw [s.takeLane_eq, hd, lostAxes_single hr h]
  rfl

/-- An axis whose state is lost closes afresh, its arm stops, and the loss is recorded behind the takeover. -/
theorem State.lostAxis_taken (a r : Nat) (hb : ∀ y ∈ s.safety.reqs, y.begun = true) :
    let t := (s.taken l e q).lostAxis a r
    (t.axis a).closed = (s.axis a).closed ∧ (t.axis a).lp.seen = false ∧
      ((∀ b ∈ s.armAxes a, (s.axis b).bound = none ∧ (s.axis b).home.run = none) →
        RecordsWithin 2 s t evTakeoverStateLost (mkRef clsAxis a) [r]) ∧ ∀ b ∈ s.armAxes a, b ∈ t.health.faultStop := by
  have hcount := s.queuedEvents_taken l e q
  obtain ⟨hs, rc, ln, hu⟩ := s.taken_frame l e q
  rw [hu] at hcount ⊢
  refine ⟨(State.lostAxis_loop _ a r).1, (State.lostAxis_loop _ a r).2, fun hidle hq => ?_, fun b hb => State.lostAxis_faultStop _ r hb⟩
  refine State.lostAxis_records { s with host := hs, recd := rc, lanes := ln } r hb hidle ?_
  have h1 := hcount (by omega)
  omega

end

end Sys2Proof.Machine

/-! ### A lane is lost (R465, R466) -/

namespace Sys2Proof.Machine
open Sys2Proof.Claims

variable (s : State)

/-! #### A key that is set again -/

/-- The entry that a search finds is the one that the table reads, where the hit names its own key. -/
theorem findSome?_eq_of_tblGet {α β : Type} {g : Nat × α → Option β} {d : α} {t : Tbl α} {k : Nat} {b b' : β}
    (hb : t.findSome? g = some b) (hkey : ∀ e, g e = some b → e.1 = k) (hg : g (k, tblGet d t k) = some b') : b' = b := by
  induction t with
  | nil => cases hb
  | cons e r ih =>
    obtain ⟨i, w⟩ := e
    rw [List.findSome?_cons] at hb
    by_cases hi : i = k
    · subst hi
      rw [tblGet, if_pos rfl] at hg
      rw [hg] at hb
      exact Option.some.inj hb
    · rw [tblGet, if_neg hi] at hg
      cases hw : g (i, w) with
      | none =>
        rw [hw] at hb
        exact ih hb hg
      | some c =>
        rw [hw] at hb
        exact absurd (hkey (i, w) (hw.trans hb)) hi

/-- A search that finds key `k` finds the same once `k` is set to an entry that the search takes as it took the old one. -/
theorem findSome?_tblSet_key {α β : Type} {g : Nat × α → Option β} {d : α} {t : Tbl α} {k : Nat} {v : α} {b : β}
    (hb : t.findSome? g = some b) (hkey : ∀ e, g e = some b → e.1 = k) (hg : g (k, v) = g (k, tblGet d t k)) :
    (tblSet t k v).findSome? g = some b := by
  induction t with
  | nil => cases hb
  | cons e r ih =>
    obtain ⟨i, w⟩ := e
    unfold tblSet
    split
    · rw [List.findSome?_cons]
      cases hv : g (k, v) with
      | none => exact hb
      | some c => exact congrArg some (findSome?_eq_of_tblGet hb hkey (hg.symm.trans hv))
    · split
      next hki =>
        subst hki
        rw [tblGet, if_pos rfl] at hg
        rwa [List.findSome?_cons, hg, ← List.findSome?_cons]
      next hki =>
        rw [tblGet, if_neg (Ne.symm hki)] at hg
        rw [List.findSome?_cons] at hb ⊢
        cases hw : g (i, w) with
        | none =>
          rw [hw] at hb
          exact ih hb hg
        | some c =>
          rw [hw] at hb
          exact hb

/-- A change of the lane that serves an axis, but not of its slots, leaves the axis on it. -/
theorem State.modLogLane_laneOf_self {l a k : Nat} {f : LogLane → LogLane} (h : s.laneOf a = some (l, k))
    (hf : ∀ x, (f x).slots = x.slots) : (s.modLogLane l f).laneOf a = some (l, k) := by
  refine findSome?_tblSet_key (d := {}) h (fun e he => ?_) ?_
  · obtain ⟨x, -, hx⟩ := Option.map_eq_some_iff.mp he
    exact congrArg Prod.fst hx
  · exact congrArg (fun m : Tbl (Option Nat) => (m.find? fun e => e.2 = some a).map fun e => (l, e.1)) (hf _)

/-! #### The loss and its placement -/

/-- The lane's wait is over. -/
def LogLane.unserved (y : LogLane) : LogLane := { y with takeover := none, degraded := false, degPlan := none, enterAt := none }

/-- The host lane of the prepared placement. -/
def LogLane.lossHost (x : LogLane) : Option Nat := if x.plan.isEmpty then none else x.planHost

/-- The state in which the moved axes take their places: the host lane has become one of 64 slots. -/
def State.lossBegun (s : State) (l : Nat) (t : Takeover) : State :=
  let s1 := s.modLogLane l LogLane.unserved
  match (s.logLane l).lossHost with
  | some h => s1.modLogLane h fun y => { y with wide := true, degNs := if y.wide then y.degNs else t.failNs, expiredSs1 := false }
  | none => s1

/-- One prepared move. -/
def State.takePlace (l : Nat) (t : Takeover) (p : State × List (PlanMove × Nat)) (m : PlanMove) : State × List (PlanMove × Nat) :=
  match p.1.laneOf m.axis, p.1.slotFor m with
  | some (_, k), some k' =>
    (((p.1.copySlot m.axis t.failed k m.lane k').setSlot l k none).setSlot m.lane k' (some m.axis), p.2 ++ [(m, k)])
  | _, _ => p

/-- The state with every prepared move made, and the moves. -/
def State.lossPlaced (s : State) (l : Nat) (t : Takeover) : State × List (PlanMove × Nat) :=
  (s.logLane l).plan.foldl (State.takePlace l t) (s.lossBegun l t, [])

/-- The loss that the lane keeps. -/
def State.lossOf (s : State) (l : Nat) (t : Takeover) : LaneLoss :=
  { failed := t.failed, lostNs := t.failNs, firstTick := t.firstTick, moves := (s.lossPlaced l t).2
    host := (s.logLane l).lossHost, half := (s.logLane l).degraded || (s.logLane l).wide, damaged := t.damaged }

/-- The lane is lost and recorded. -/
def State.lossRecorded (s : State) (l : Nat) (t : Takeover) : State :=
  let s3 := (s.lossPlaced l t).1.modLogLane l fun y => { y with loss := some (s.lossOf l t) }
  s3.emit evLaneLost s.devRef [l, t.failed, (s.logLane l).lossHost.getD 0xFF,
    ((s.lossPlaced l t).2.filter fun m => m.1.full).length]

theorem State.loseLane_eq (l : Nat) (t : Takeover) : s.loseLane l t =
    if (s.logLane l).plan.isEmpty then ((s.lossRecorded l t).stopLane l).1 else s.lossRecorded l t := rfl

/-- `t` differs from `s` in the lanes alone, and lane `l` waits for nothing and is not degraded. -/
structure State.Unserved (l : Nat) (s t : State) : Prop where
  frame : ∃ ln, t = { s with lanes := ln }
  takeover : (t.logLane l).takeover = none
  degraded : (t.logLane l).degraded = false

/-- A change of a lane that leaves its wait and its mode. -/
theorem State.Unserved.modLogLane {l : Nat} {s t : State} (h : s.Unserved l t) (k : Nat) {f : LogLane → LogLane}
    (hf : ∀ y, (f y).takeover = y.takeover ∧ (f y).degraded = y.degraded) : s.Unserved l (t.modLogLane k f) := by
  obtain ⟨⟨ln, rfl⟩, ht, hd⟩ := h
  refine ⟨⟨_, rfl⟩, ?_, ?_⟩ <;> rw [State.modLogLane_logLane] <;> split
  · subst_vars; exact (hf _).1.trans ht
  · exact ht
  · subst_vars; exact (hf _).2.trans hd
  · exact hd

theorem State.Unserved.setSlot {l : Nat} {s t : State} (h : s.Unserved l t) (j k : Nat) (a : Option Nat) :
    s.Unserved l (t.setSlot j k a) := h.modLogLane j fun _ => ⟨rfl, rfl⟩

/-- A copy touches the pairs alone. -/
theorem State.copySlot_cases (a p k l' k' : Nat) : s.copySlot a p k l' k' = s ∨
    ∃ q, s.copySlot a p k l' k' = s.modPair q (s.copyOne a p k k') := by
  unfold State.copySlot
  split
  · exact .inr ⟨_, rfl⟩
  · exact .inl rfl

theorem State.copySlot_log (a p k l' k' : Nat) : (s.copySlot a p k l' k').lanes.log = s.lanes.log := by
  obtain h | ⟨q, h⟩ := s.copySlot_cases a p k l' k'
  · rw [h]
  · rw [h]; rfl

theorem State.Unserved.copySlot {l : Nat} {s t : State} (h : s.Unserved l t) (a p k l' k' : Nat) :
    s.Unserved l (t.copySlot a p k l' k') := by
  have hlog : (t.copySlot a p k l' k').logLane l = t.logLane l := congrArg (fun m => tblGet ({} : LogLane) m l) (t.copySlot_log a p k l' k')
  refine ⟨?_, by rw [hlog]; exact h.takeover, by rw [hlog]; exact h.degraded⟩
  obtain ⟨⟨ln, rfl⟩, -, -⟩ := h
  obtain h | ⟨q, h⟩ := State.copySlot_cases { s with lanes := ln } a p k l' k'
  · rw [h]; exact ⟨ln, rfl⟩
  · rw [h]; exact ⟨_, rfl⟩

theorem State.unserved_lossBegun (l : Nat) (t : Takeover) : s.Unserved l (s.lossBegun l t) := by
  have h1 : s.Unserved l (s.modLogLane l LogLane.unserved) := by
    refine ⟨⟨_, rfl⟩, ?_, ?_⟩ <;> rw [State.modLogLane_logLane, if_pos rfl] <;> rfl
  unfold State.lossBegun
  dsimp only
  split
  · exact h1.modLogLane _ fun _ => ⟨rfl, rfl⟩
  · exact h1

theorem State.unserved_lossPlaced (l : Nat) (t : Takeover) : s.Unserved l (s.lossPlaced l t).1 :=
  List.foldlRecOn (motive := fun p : State × List (PlanMove × Nat) => s.Unserved l p.1) _ _ (s.unserved_lossBegun l t) fun p hp m _ => by
    unfold State.takePlace
    split
    · exact ((hp.copySlot ..).setSlot ..).setSlot ..
    · exact hp

/-- The record of the loss leaves every lane's slots. -/
theorem State.lossRecorded_slots (l : Nat) (e : Takeover) (k : Nat) :
    ((s.lossRecorded l e).logLane k).slots = ((s.lossPlaced l e).1.logLane k).slots := by
  have h : (s.lossRecorded l e).logLane k = if k = l then { (s.lossPlaced l e).1.logLane l with loss := some (s.lossOf l e) }
      else (s.lossPlaced l e).1.logLane k := State.modLogLane_logLane ..
  rw [h]
  split
  · subst_vars; rfl
  · rfl

theorem State.exec_laneLost (l : Fin 17) : exec (.laneLost l) s = .next ((s.logLane l.val).takeover.elim s fun e =>
    if e.pair.isNone then s.loseLane l.val e else s) := by
  have h : execLaneLost l s = .next ((s.logLane l.val).takeover.elim s fun e =>
      if e.pair.isNone then s.loseLane l.val e else s) := by
    unfold execLaneLost
    cases (s.logLane l.val).takeover <;> rfl
  exact h

theorem State.exec_laneLost_idle {l : Fin 17} (h : (s.logLane l.val).takeover = none) : exec (.laneLost l) s = .next s := by
  rw [s.exec_laneLost, h]
  rfl

theorem State.exec_laneLost_reserve {l : Fin 17} {e : Takeover} {q : Nat} (h : (s.logLane l.val).takeover = some e)
    (hp : e.pair = some q) : exec (.laneLost l) s = .next s := by
  rw [s.exec_laneLost, h, Option.elim_some, hp]
  rfl

theorem State.exec_laneLost_lost {l : Fin 17} {e : Takeover} (h : (s.logLane l.val).takeover = some e) (hp : e.pair = none) :
    exec (.laneLost l) s = .next (s.loseLane l.val e) := by
  rw [s.exec_laneLost, h, Option.elim_some, hp]
  rfl

section
variable (l : Nat) (e : Takeover)

/-- What the loss leaves before any stop: lanes and one record have changed. -/
theorem State.lossRecorded_spec : (∃ ln rc, s.lossRecorded l e = { s with lanes := ln, recd := rc }) ∧
    ((s.lossRecorded l e).logLane l).takeover = none ∧ ((s.lossRecorded l e).logLane l).degraded = false ∧
    ((s.lossRecorded l e).logLane l).loss = some (s.lossOf l e) ∧
    Records s (s.lossRecorded l e) evLaneLost s.devRef [l, e.failed, (s.logLane l).lossHost.getD 0xFF,
      ((s.lossOf l e).moves.filter fun m => m.1.full).length] := by
  have h := s.unserved_lossPlaced l e
  have hloss := h.modLogLane l (f := fun y => { y with loss := some (s.lossOf l e) }) fun _ => ⟨rfl, rfl⟩
  unfold State.lossRecorded
  dsimp only
  refine ⟨?_, hloss.takeover, hloss.degraded, ?_, ?_⟩
  · obtain ⟨ln, hln⟩ := h.frame
    rw [hln]
    exact ⟨_, _, rfl⟩
  · exact congrArg LogLane.loss ((State.modLogLane_logLane ..).trans (if_pos rfl))
  · obtain ⟨ln, hln⟩ := h.frame
    rw [hln]
    exact State.records_emit _ _ _ _

/-- Without a placement the lane's axes stop by SS1 from the next tick. -/
theorem State.lossRecorded_axes (hp : (s.logLane l).plan = []) : (s.lossRecorded l e).laneAxes l = s.laneAxes l := by
  have hplaced : (s.lossPlaced l e).1 = s.modLogLane l LogLane.unserved := by
    unfold State.lossPlaced State.lossBegun LogLane.lossHost
    rw [hp]
    rfl
  have hslots : ((s.lossRecorded l e).logLane l).slots = (s.logLane l).slots := by
    rw [s.lossRecorded_slots, hplaced, State.modLogLane_logLane, if_pos rfl]
    rfl
  unfold State.laneAxes LogLane.held
  rw [hslots]

theorem LogLane.lossHost_eq (x : LogLane) : x.lossHost = if x.plan = [] then none else x.planHost :=
  if_congr List.isEmpty_iff rfl rfl

/-- The lane's requests, as they stop without a placement. -/
theorem State.stopLane_lossRecorded (hp : (s.logLane l).plan = []) :
    let t := ((s.lossRecorded l e).stopLane l).1
    t.safety.reqs.length = s.safety.reqs.length + 1 ∧
      ∀ a ∈ s.laneAxes l, ∃ r ∈ t.safety.reqs, a ∈ r.axes ∧ r.begun = false ∧ r.t0 = s.tick.no + 1 := by
  have haxes := s.lossRecorded_axes l e hp
  obtain ⟨ln, rc, h⟩ := (s.lossRecorded_spec l e).1
  rw [h] at haxes
  rw [h, State.stopLane_eq]
  refine ⟨List.length_append, fun a ha => ⟨_, List.mem_append_right _ (List.mem_singleton_self _), ?_, rfl, rfl⟩⟩
  exact (State.mem_laneStop _ l a).mpr (.inl (haxes ▸ ha))

/-- A stop of a lane leaves the lanes. -/
theorem State.loseLane_cases : (∃ sf hl, s.loseLane l e = { s.lossRecorded l e with safety := sf, health := hl }) ∧
    ((s.logLane l).plan ≠ [] → s.loseLane l e = s.lossRecorded l e) ∧
    ((s.logLane l).plan = [] → s.loseLane l e = ((s.lossRecorded l e).stopLane l).1) := by
  rw [s.loseLane_eq]
  by_cases hp : (s.logLane l).plan = []
  · rw [if_pos (List.isEmpty_iff.mpr hp)]
    exact ⟨⟨_, _, congrArg Prod.fst (State.stopLane_eq _ l)⟩, fun h => absurd hp h, fun _ => rfl⟩
  · rw [if_neg (mt List.isEmpty_iff.mp hp)]
    exact ⟨⟨_, _, rfl⟩, fun _ => rfl, fun h => absurd h hp⟩

end

/-- A prepared move to another lane is made. -/
theorem State.lossPlaced_single {l : Nat} {e : Takeover} {m : PlanMove} {k k' : Nat} (hp : (s.logLane l).plan = [m])
    (hhost : (s.logLane l).planHost = none) (hm : m.lane ≠ l) (hl : s.laneOf m.axis = some (l, k)) (hk : s.slotFor m = some k') :
    tblGet none ((s.lossPlaced l e).1.logLane m.lane).slots k' = some m.axis ∧
      tblGet none ((s.lossPlaced l e).1.logLane l).slots k = none := by
  have hbegun : s.lossBegun l e = s.modLogLane l LogLane.unserved := by
    unfold State.lossBegun
    rw [LogLane.lossHost_eq, hhost, ite_self]
  have hlane : (s.modLogLane l LogLane.unserved).laneOf m.axis = some (l, k) := s.modLogLane_laneOf_self hl fun _ => rfl
  have hslot : (s.modLogLane l LogLane.unserved).slotFor m = some k' := by
    unfold State.slotFor at hk ⊢
    rwa [State.modLogLane_logLane, if_neg hm]
  unfold State.lossPlaced
  rw [hp, hbegun, List.foldl_cons, List.foldl_nil, State.takePlace]
  simp only [hlane, hslot]
  generalize (s.modLogLane l LogLane.unserved).copySlot m.axis e.failed k m.lane k' = u
  constructor
  · rw [State.setSlot, State.modLogLane_logLane, if_pos rfl]
    exact tblGet_tblSet_same ..
  · rw [State.setSlot, State.modLogLane_logLane, if_neg (Ne.symm hm), State.setSlot, State.modLogLane_logLane, if_pos rfl]
    exact tblGet_tblSet_same ..

end Sys2Proof.Machine

/-! ### Pairs that recover, and lanes that come back (R336, R468) -/

namespace Sys2Proof.Machine
open Sys2Proof.Claims

variable (s : State)

/-! #### Recovery (R336) -/

/-- What the end of a pair's self-test leaves: the pair as `f` makes it, a record and the lane cause. -/
def State.selfTested (s : State) (p : Nat) (f : PairSt → PairSt) (code : Nat) (args : List Nat) : State :=
  ((s.modPair p f).emit code s.devRef args).raiseIrq 14

section
variable (p : Nat) (f : PairSt → PairSt) (code : Nat) (args : List Nat)

theorem State.selfTested_pair (k : Nat) : (s.selfTested p f code args).pair k = if k = p then f (s.pair p) else s.pair k := by
  have h : (s.selfTested p f code args).lanes = (s.modPair p f).lanes := State.raiseIrq_lanes _ 14
  rw [State.pair, h]
  exact s.modPair_pair p k f

theorem State.selfTested_irq : (s.selfTested p f code args).host.irqStatus.getLsbD 14 = true :=
  State.raiseIrq_getLsbD _ (by decide)

theorem State.selfTested_frame : { s.selfTested p f code args with
    host := s.host, recd := s.recd, lanes := { (s.selfTested p f code args).lanes with pairs := s.lanes.pairs } } = s := by
  have h : (s.selfTested p f code args).lanes = (s.modPair p f).lanes := State.raiseIrq_lanes _ 14
  rw [h, State.selfTested, State.raiseIrq_eq]
  rfl

theorem State.records_selfTested : Records s (s.selfTested p f code args) code s.devRef args := by
  intro hq
  rw [State.selfTested, State.raiseIrq_recd]
  exact State.records_emit _ _ _ _ hq

end

/-- A pair that is rebuilt goes to TEST, and is the reserve where there is none (R299, R336). -/
def State.readied (s : State) (p : Nat) (y : PairSt) : PairSt :=
  { (PairSt.enter { s.rebuilt y with recovering := false } lpTest) with
    lane := none, reserve := !(pairNos.any fun k => k ≠ p && (s.pair k).reserve) }

/-- A pair that is given up. -/
def PairSt.retired (y : PairSt) : PairSt := { (y.enter lpRetired) with recovering := false }

/-- The other pairs decide whether one becomes the reserve. -/
theorem State.readied_eq (p : Nat) : (s.modPair p fun y => { s.rebuilt y with recovering := false }).toReserve p =
    (s.modPair p fun y => { s.rebuilt y with recovering := false }).modPair p fun y =>
      { (y.enter lpTest) with lane := none, reserve := !(pairNos.any fun k => k ≠ p && (s.pair k).reserve) } := by
  unfold State.toReserve
  have hany : (pairNos.any fun k => k ≠ p && ((s.modPair p fun y => { s.rebuilt y with recovering := false }).pair k).reserve) =
      pairNos.any fun k => k ≠ p && (s.pair k).reserve := by
    refine congrArg (fun g => pairNos.any g) (funext fun k => ?_)
    by_cases hk : k = p
    · rw [decide_eq_false (not_not.mpr hk), Bool.false_and, Bool.false_and]
    · rw [State.modPair_pair, if_neg hk]
  rw [hany]

theorem State.modPair_modPair (p : Nat) (f g : PairSt → PairSt) :
    (s.modPair p f).modPair p g = s.modPair p fun x => g (f x) :=
  congrArg (fun t => s.modLanes fun x => { x with pairs := t }) (tblMod_tblMod {} s.lanes.pairs p f g)

theorem State.exec_laneRecovered_idle {p : Fin 17} (h : (s.pair p.val).state ≠ lpRecover) (ok : Bool) :
    exec (.laneRecovered p ok) s = .next s := congrArg Host.Outcome.next (if_neg h)

section
variable {p : Fin 17} (h : (s.pair p.val).state = lpRecover)
include h

theorem State.exec_laneRecovered_ready (hf : (s.pair p.val).fails < s.pU 0x0040 s.dev) : exec (.laneRecovered p true) s =
    .next (s.selfTested p.val (s.readied p.val) evLaneRecovered [p.val]) := by
  refine congrArg Host.Outcome.next ((if_pos h).trans ((if_pos ?_).trans ?_))
  · rw [Bool.true_and, decide_eq_true hf]
  · rw [s.readied_eq, s.modPair_modPair]
    rfl

theorem State.exec_laneRecovered_retired {ok : Bool} (hf : ok = false ∨ s.pU 0x0040 s.dev ≤ (s.pair p.val).fails) :
    exec (.laneRecovered p ok) s =
      .next (s.selfTested p.val PairSt.retired evLaneRetired [p.val, (s.pair p.val).fails]) := by
  refine congrArg Host.Outcome.next ((if_pos h).trans (if_neg ?_))
  rw [Bool.and_eq_true, decide_eq_true_eq]
  rintro ⟨rfl, hlt⟩
  exact hf.elim (fun hf => Bool.false_ne_true hf.symm) (Nat.not_le.mpr hlt)

theorem State.readied_regs : (s.readied p.val (s.pair p.val)).regs = { mode := modeFor 0x5 lpTest } := by
  unfold State.readied PairSt.enter
  exact if_pos (by
    show (decide ((s.pair p.val).state = lpLoad) || decide ((s.pair p.val).state = lpRecover)) = true
    rw [decide_eq_true h, Bool.or_true])

end

/-- Without a module the supervisor leaves a pair empty. -/
theorem State.readied_memory (hk : s.lanes.kernel = none) (p : Nat) (y : PairSt) :
    (s.readied p y).pMem = [] ∧ (s.readied p y).xMem = [] ∧ (s.readied p y).yMem = [] := by
  have h : s.rebuilt y = Kernel.load {} { y with pMem := [], xMem := [], yMem := [] } := by
    rw [State.rebuilt, State.userModule_of_none hk]
  unfold State.readied
  rw [h]
  exact ⟨rfl, rfl, rfl⟩

theorem State.readied_reserve (p : Nat) (y : PairSt) :
    (s.readied p y).reserve = true ↔ ∀ k, k < 17 → k ≠ p → (s.pair k).reserve = false := by
  have h : (s.readied p y).reserve = !(pairNos.any fun k => k ≠ p && (s.pair k).reserve) := rfl
  rw [h, Bool.not_eq_true', List.any_eq_false]
  refine ⟨fun h k hk hne => ?_, fun h k hk hc => ?_⟩
  · have := h k (List.mem_range.mpr hk)
    rw [decide_eq_true hne, Bool.true_and] at this
    exact Bool.eq_false_iff.mpr this
  · obtain ⟨hne, hr⟩ := Bool.and_eq_true_iff.mp hc
    rw [h k (List.mem_range.mp hk) (of_decide_eq_true hne)] at hr
    exact Bool.false_ne_true hr

/-! #### A lost lane comes back (R468) -/

theorem State.exec_laneRehomed (l : Fin 17) : exec (.laneRehomed l) s = .next ((s.logLane l.val).loss.elim s fun x =>
    s.reserve.elim s fun p => if s.boundary && !s.tick.intakeDone then s.rehome l.val p x else s) := by
  have h : execLaneRehomed l s = .next ((s.logLane l.val).loss.elim s fun x =>
      s.reserve.elim s fun p => if s.boundary && !s.tick.intakeDone then s.rehome l.val p x else s) := by
    unfold execLaneRehomed
    cases (s.logLane l.val).loss with
    | none => rfl
    | some x => cases s.reserve <;> rfl
  exact h

theorem State.exec_laneRehomed_idle {l : Fin 17}
    (h : (s.logLane l.val).loss = none ∨ s.reserve = none ∨ s.boundary = false ∨ s.tick.intakeDone = true) :
    exec (.laneRehomed l) s = .next s := by
  rw [s.exec_laneRehomed]
  cases hl : (s.logLane l.val).loss with
  | none => rfl
  | some x =>
    cases hr : s.reserve with
    | none => rfl
    | some p =>
      refine congrArg Host.Outcome.next (if_neg fun hc => ?_)
      rw [Bool.and_eq_true, Bool.not_eq_true'] at hc
      obtain h | h | h | h := h
      · rw [hl] at h; cases h
      · rw [hr] at h; cases h
      · rw [hc.1] at h; cases h
      · rw [hc.2] at h; cases h

/-- The reserve takes the lane over. -/
def State.regained (s : State) (l q : Nat) : State :=
  s.modPair q fun y => { (y.enter s.laneState) with lane := some l, reserve := false }

/-- An axis that has lost its lane goes back to its place. -/
def State.goBack (l : Nat) (u : State) (m : PlanMove × Nat) : State :=
  if (u.laneOf m.1.axis).isSome then u.startMove none 2 m.1.axis l m.2 else u

theorem State.rehome_eq (l q : Nat) (x : LaneLoss) : s.rehome l q x =
    if ((x.moves.foldl (State.goBack l) (s.regained l q)).health.moving.filter fun m => m.why = 2 && m.toLane = l).isEmpty then
      (x.moves.foldl (State.goBack l) (s.regained l q)).endLoss l
    else x.moves.foldl (State.goBack l) (s.regained l q) := rfl

section
variable {l : Fin 17} {y : LaneLoss} {q : Nat} (hl : (s.logLane l.val).loss = some y) (hq : s.reserve = some q)
  (hb : s.boundary = true) (hi : s.tick.intakeDone = false)
include hl hq hb hi

theorem State.exec_laneRehomed_back : exec (.laneRehomed l) s = .next (s.rehome l.val q y) := by
  rw [s.exec_laneRehomed, hl, hq, Option.elim_some, Option.elim_some, hb, hi]
  rfl

end

/-- The pair serves the lane in the device's state; beside the lanes and the moves, nothing but records has changed. -/
structure State.Regained (l q : Nat) (s t : State) : Prop where
  frame : ∃ ln rc hl, t = { s with lanes := ln, recd := rc, health := hl }
  state : (t.pair q).state = s.laneState
  lane : (t.pair q).lane = some l
  reserve : (t.pair q).reserve = false

theorem State.regained_spec (l q : Nat) : s.Regained l q (s.regained l q) := by
  have h : (s.regained l q).pair q = { ((s.pair q).enter s.laneState) with lane := some l, reserve := false } :=
    (s.modPair_pair q q _).trans (if_pos rfl)
  refine ⟨⟨_, _, _, rfl⟩, ?_, ?_, ?_⟩ <;> rw [h]
  rfl

/-- A change that leaves the pair's state, lane and part. -/
theorem State.Regained.of_pair {l q : Nat} {s t u : State} (h : s.Regained l q t)
    (hf : ∃ ln rc hl, u = { t with lanes := ln, recd := rc, health := hl })
    (hp : (u.pair q).state = (t.pair q).state ∧ (u.pair q).lane = (t.pair q).lane ∧ (u.pair q).reserve = (t.pair q).reserve) :
    s.Regained l q u := by
  obtain ⟨⟨ln, rc, hl, ht⟩, hs, hlane, hr⟩ := h
  obtain ⟨ln', rc', hl', hu⟩ := hf
  refine ⟨⟨ln', rc', hl', by rw [hu, ht]⟩, hp.1.trans hs, hp.2.1.trans hlane, hp.2.2.trans hr⟩

/-- A copy into a pair leaves what the pair is. -/
theorem State.copySlot_role (a p k l' k' q : Nat) :
    ((s.copySlot a p k l' k').pair q).state = (s.pair q).state ∧ ((s.copySlot a p k l' k').pair q).lane = (s.pair q).lane ∧
      ((s.copySlot a p k l' k').pair q).reserve = (s.pair q).reserve := by
  have hspan : ∀ (x y : PairSt) (e : Span),
      (x.takeSpan y e).state = y.state ∧ (x.takeSpan y e).lane = y.lane ∧ (x.takeSpan y e).reserve = y.reserve := by
    intro x y e
    unfold PairSt.takeSpan
    split <;> exact ⟨rfl, rfl, rfl⟩
  have hone : ∀ y : PairSt, (s.copyOne a p k k' y).state = y.state ∧ (s.copyOne a p k k' y).lane = y.lane ∧
      (s.copyOne a p k k' y).reserve = y.reserve := fun y =>
    List.foldlRecOn (motive := fun z : PairSt => z.state = y.state ∧ z.lane = y.lane ∧ z.reserve = y.reserve)
      (s.userModule.slotSpans (s.lastBank a) k k') (s.pair p).takeSpan ⟨rfl, rfl, rfl⟩ fun z hz e _ =>
        have h := hspan (s.pair p) z e
        ⟨h.1.trans hz.1, h.2.1.trans hz.2.1, h.2.2.trans hz.2.2⟩
  obtain h | ⟨p', h⟩ := s.copySlot_cases a p k l' k'
  · rw [h]; exact ⟨rfl, rfl, rfl⟩
  · rw [h, State.modPair_pair]
    split
    · subst_vars; exact hone _
    · exact ⟨rfl, rfl, rfl⟩

theorem State.copySlot_frame (a p k l' k' : Nat) : ∃ ln, s.copySlot a p k l' k' = { s with lanes := ln } := by
  obtain h | ⟨p', h⟩ := s.copySlot_cases a p k l' k'
  · exact ⟨s.lanes, h⟩
  · exact ⟨_, h⟩

/-- The copy that a move begins with. -/
def State.moveCopied (s : State) (a l k l' k' : Nat) : State :=
  match s.pairOf l with
  | some p => s.copySlot a p k l' k'
  | none => s

/-- An axis under way. -/
def movingOf (h : Option Hdr) (why a l k l' k' : Nat) : Moving :=
  { host := h, axis := a, fromLane := l, fromSlot := k, toLane := l', toSlot := k', why := why }

theorem State.startMove_eq {a l k : Nat} (hl : s.laneOf a = some (l, k)) (h : Option Hdr) (why l' k' : Nat) :
    s.startMove h why a l' k' = (((s.moveCopied a l k l' k').setSlot l k none).setSlot l' k' (some a)).modHealth fun x =>
      { x with moving := x.moving ++ [movingOf h why a l k l' k'] } := by
  unfold State.startMove
  rw [hl]
  rfl

theorem State.moveCopied_cases (a l k l' k' : Nat) : s.moveCopied a l k l' k' = s ∨
    ∃ p, s.moveCopied a l k l' k' = s.copySlot a p k l' k' := by
  unfold State.moveCopied
  split
  · exact .inr ⟨_, rfl⟩
  · exact .inl rfl

theorem State.moveCopied_logLane (a l k l' k' j : Nat) : (s.moveCopied a l k l' k').logLane j = s.logLane j := by
  obtain h | ⟨p, h⟩ := s.moveCopied_cases a l k l' k'
  · rw [h]
  · rw [h]
    exact congrArg (fun m => tblGet ({} : LogLane) m j) (s.copySlot_log a p k l' k')

theorem State.moveCopied_health (a l k l' k' : Nat) : (s.moveCopied a l k l' k').health = s.health := by
  obtain h | ⟨p, h⟩ := s.moveCopied_cases a l k l' k'
  · rw [h]
  · obtain ⟨ln, hln⟩ := s.copySlot_frame a p k l' k'
    rw [h, hln]

/-- Whether a lane is lost does not depend on its slots. -/
theorem State.setSlot_loss (l k : Nat) (a : Option Nat) (j : Nat) : ((s.setSlot l k a).logLane j).loss = (s.logLane j).loss := by
  rw [State.setSlot, State.modLogLane_logLane]
  split
  · subst_vars; rfl
  · rfl

theorem State.Regained.moveCopied {l q : Nat} {s t : State} (h : s.Regained l q t) (a j k j' k' : Nat) :
    s.Regained l q (t.moveCopied a j k j' k') := by
  obtain hc | ⟨p, hc⟩ := t.moveCopied_cases a j k j' k'
  · rw [hc]; exact h
  · rw [hc]
    obtain ⟨ln, hln⟩ := t.copySlot_frame a p k j' k'
    refine h.of_pair ⟨ln, t.recd, t.health, ?_⟩ (t.copySlot_role a p k j' k' q)
    rw [hln]

theorem State.Regained.goBack {l q : Nat} {s t : State} (h : s.Regained l q t) (m : PlanMove × Nat) :
    s.Regained l q (State.goBack l t m) := by
  unfold State.goBack
  cases hl : t.laneOf m.1.axis with
  | none => exact h
  | some e =>
    obtain ⟨j, k⟩ := e
    rw [if_pos (by rfl), t.startMove_eq hl]
    have hm := h.moveCopied m.1.axis j k l m.2
    generalize t.moveCopied m.1.axis j k l m.2 = u at hm ⊢
    refine hm.of_pair ⟨_, u.recd, _, rfl⟩ ⟨rfl, rfl, rfl⟩

theorem State.Regained.goBacks {l q : Nat} {s t : State} (h : s.Regained l q t) (ms : List (PlanMove × Nat)) :
    s.Regained l q (ms.foldl (State.goBack l) t) :=
  List.foldlRecOn (motive := fun u => s.Regained l q u) ms _ h fun _ hu m _ => hu.goBack m

/-- The lane that has been taken back is no longer lost; its host lane is one of 32 slots again. -/
def State.lossEnded (s : State) (l : Nat) : State :=
  let t := s.modLogLane l fun x => { x with loss := none }
  match (s.logLane l).loss.bind fun x => x.host with
  | some h => t.modLogLane h fun x => { x with wide := decide ((x.held.any fun e => 32 ≤ e.1) = true), expiredSs1 := false }
  | none => t

theorem State.endLoss_eq (l : Nat) :
    s.endLoss l = (s.lossEnded l).emit evLaneRehomed (s.lossEnded l).devRef [l, (s.pairOf l).getD 0] := rfl

theorem State.lossEnded_spec (l : Nat) : (∃ ln, s.lossEnded l = { s with lanes := ln }) ∧
    (∀ q, (s.lossEnded l).pair q = s.pair q) ∧ ((s.lossEnded l).logLane l).loss = none := by
  have h1 : ((s.modLogLane l fun x => { x with loss := none }).logLane l).loss = none := by
    rw [State.modLogLane_logLane, if_pos rfl]
  unfold State.lossEnded
  dsimp only
  split
  · refine ⟨⟨_, rfl⟩, fun _ => rfl, ?_⟩
    rw [State.modLogLane_logLane]
    split
    · subst_vars; exact h1
    · exact h1
  · exact ⟨⟨_, rfl⟩, fun _ => rfl, h1⟩

theorem State.Regained.endLoss {l q : Nat} {s t : State} (h : s.Regained l q t) (j : Nat) : s.Regained l q (t.endLoss j) := by
  obtain ⟨⟨ln, hln⟩, hp, -⟩ := t.lossEnded_spec j
  refine h.of_pair ?_ ?_
  · rw [t.endLoss_eq, hln]
    exact ⟨_, _, _, rfl⟩
  · rw [show (t.endLoss j).pair q = t.pair q from hp q]
    exact ⟨rfl, rfl, rfl⟩

theorem State.regained_rehome (l q : Nat) (x : LaneLoss) : s.Regained l q (s.rehome l q x) := by
  have h := (s.regained_spec l q).goBacks x.moves
  rw [s.rehome_eq]
  split
  · exact h.endLoss l
  · exact h

/-- The pair that regains a lane which no pair serves is the one that serves it. -/
theorem State.regained_pairOf {l q : Nat} (hq : s.reserve = some q) (hn : s.pairOf l = none) : (s.regained l q).pairOf l = some q := by
  have hmem : q ∈ pairNos := by
    unfold State.reserve at hq
    exact List.mem_of_find?_eq_some hq
  have hspec := s.regained_spec l q
  have hserves : (decide (((s.regained l q).pair q).lane = some l) && ((s.regained l q).pair q).working) = true := by
    rw [hspec.lane, decide_eq_true rfl, Bool.true_and, PairSt.working, hspec.state]
    unfold State.laneState
    split <;> rfl
  cases hp : (s.regained l q).pairOf l with
  | none => exact absurd hserves (List.find?_eq_none.mp hp q hmem)
  | some p =>
    by_contra hne
    have hpq : p ≠ q := fun h => hne (congrArg some h)
    have hother : (s.regained l q).pair p = s.pair p := (s.modPair_pair q p _).trans (if_neg hpq)
    have hserve := List.find?_some hp
    rw [hother] at hserve
    exact List.find?_eq_none.mp hn p (List.mem_of_find?_eq_some hp) hserve

/-- With no axis to bring back, the loss is over at once. -/
theorem State.rehome_empty {l q : Nat} {x : LaneLoss} (hx : x.moves = []) (hm : s.health.moving = []) :
    s.rehome l q x = (s.regained l q).endLoss l := by
  have hm' : (s.regained l q).health.moving = [] := hm
  rw [s.rehome_eq, hx, List.foldl_nil, hm']
  rfl

/-- One axis goes back to its place, and the lane stays lost until it stands there. -/
theorem State.rehome_single {l q l2 k k2 : Nat} {x : LaneLoss} {m : PlanMove} (hx : x.moves = [(m, k)])
    (hl : s.laneOf m.axis = some (l2, k2)) : s.rehome l q x = ((((s.regained l q).moveCopied m.axis l2 k2 l k).setSlot l2 k2 none).setSlot
      l k (some m.axis)).modHealth fun y => { y with moving := y.moving ++ [movingOf none 2 m.axis l2 k2 l k] } := by
  have hl' : (s.regained l q).laneOf m.axis = some (l2, k2) := hl
  have hback : State.goBack l (s.regained l q) (m, k) = ((((s.regained l q).moveCopied m.axis l2 k2 l k).setSlot l2 k2 none).setSlot
      l k (some m.axis)).modHealth fun y => { y with moving := y.moving ++ [movingOf none 2 m.axis l2 k2 l k] } := by
    unfold State.goBack
    rw [hl', if_pos (by rfl), State.startMove_eq _ hl']
  rw [s.rehome_eq, hx, List.foldl_cons, List.foldl_nil, hback, if_neg]
  rw [List.isEmpty_iff]
  refine List.ne_nil_of_mem (a := movingOf none 2 m.axis l2 k2 l k) (List.mem_filter.mpr ⟨?_, ?_⟩)
  · exact List.mem_append_right _ (List.mem_singleton_self _)
  · simp [movingOf]

end Sys2Proof.Machine

/-! ### Lanes are taken over, lost and rehomed (R334 to R336, R465, R466, R468) -/

namespace Sys2Proof.Machine
open Sys2Proof.Claims

variable {s : State}

/-- The address is one that the latch substitutes in the control block. -/
theorem not_substituted {x : LogLane} {a : Nat} (h : ¬∃ e ∈ x.held, ∃ i, i < 8 ∧ Config.ctlAddr e.1 i % 1024 = a) :
    ∀ e ∈ x.held, ∀ i, i < 8 → Config.ctlAddr e.1 i % 1024 ≠ a :=
  fun e he i hi ha => h ⟨e, he, i, hi, ha⟩

section
variable {l : Fin 17} {e : Takeover} {q : Nat}

/-- The reserve takes the lane over (R334, R335). -/
theorem State.completes_laneTakeover (htk : (s.logLane l.val).takeover = some e) (hp : e.pair = some q)
    (hdue : e.firstTick ≤ s.tick.no) (htest : (s.pair q).state = lpTest) : Completes (.laneTakeover l) s fun t =>
      (t.pair q).state = (if e.prevStart then s.laneState else lpRun) ∧ (t.pair q).lane = some l.val ∧ (t.pair q).reserve = false ∧
      (t.logLane l.val).takeover = none ∧ (t.logLane l.val).slots = (s.logLane l.val).slots ∧
      Records s t evLaneTakeover s.devRef [l.val, e.failed, q, s.tick.cycle.toNat, e.extrapolated] ∧
      t.host.irqStatus.getLsbD 14 = true ∧ (∀ k, k ≠ q → t.pair k = s.pair k) ∧
      (cellsWf (s.pair e.failed).xMem = true → cellsWf (s.pair q).xMem = true → s.lanes.kernel = none →
        (∀ y ∈ (s.logLane l.val).held,
          tblGet (0, q, y.1) (t.pair q).ext.cfg y.1 = tblGet (0, e.failed, y.1) (s.pair e.failed).ext.cfg y.1) ∧
        ∀ a, (¬∃ y ∈ (s.logLane l.val).held, ∃ i, i < 8 ∧ Config.ctlAddr y.1 i % 1024 = a) → cellRead (t.pair q).xMem a =
          cellRead (if decide (a < 0x400) || (s.logLane l.val).held.any fun y => s.inBank y a
            then (s.pair e.failed).xMem else (s.pair q).xMem) a) ∧
      (e.damaged = [] → { t with host := s.host, lanes := s.lanes, recd := s.recd } = s) ∧
      (∀ k r a, e.damaged = [(k, r)] → r ≠ 3 → tblGet none (s.logLane l.val).slots k = some a →
        (∀ y ∈ s.safety.reqs, y.begun = true) → (t.axis a).closed = (s.axis a).closed ∧ (t.axis a).lp.seen = false ∧
          ((∀ b ∈ s.armAxes a, (s.axis b).bound = none ∧ (s.axis b).home.run = none) →
            RecordsWithin 2 s t evTakeoverStateLost (mkRef clsAxis a) [r]) ∧ ∀ b ∈ s.armAxes a, b ∈ t.health.faultStop) := by
  have hexec := s.exec_laneTakeover_reserve htk hp
  rw [if_pos ⟨hdue, htest⟩] at hexec
  have hstay := s.lanesStay_takeLane l.val e q
  have hpair : ∀ k, (s.takeLane l.val e q).pair k = if k = q then s.takes l.val e (s.pair q) else s.pair k := fun k => by
    rw [State.pair, hstay.lanes]
    exact s.taken_pair l.val e q k
  have hlog : (s.takeLane l.val e q).logLane l.val = { s.logLane l.val with takeover := none } := by
    rw [State.logLane, hstay.lanes]
    exact s.taken_logLane l.val e q
  have hq := (hpair q).trans (if_pos rfl)
  refine ⟨_, hexec, ?_, ?_, ?_, ?_, ?_, hstay.records (s.records_taken l.val e q), hstay.irq 14 (s.taken_irq l.val e q),
    fun k hk => (hpair k).trans (if_neg hk), fun hf hx hk => ?_, fun hd => ?_, fun k r a hd hr ha hb => ?_⟩
  · rw [hq]; rfl
  · rw [hq]; rfl
  · rw [hq]; rfl
  · rw [hlog]
  · rw [hlog]
  · rw [hq]
    obtain ⟨hcfg, hmem⟩ := s.takes_memory l.val e q hf hx hk
    exact ⟨hcfg, fun a ha => hmem a (not_substituted ha)⟩
  · obtain ⟨hs, rc, ln, h⟩ := s.taken_frame l.val e q
    rw [s.takeLane_undamaged hd, h]
  · rw [s.takeLane_damaged hd hr ha]
    exact s.lostAxis_taken a r hb

/-- The lane is lost, with what it keeps of its placement (R465, R466). -/
theorem State.completes_laneLost (htk : (s.logLane l.val).takeover = some e) (hp : e.pair = none) :
    Completes (.laneLost l) s fun t => (t.logLane l.val).takeover = none ∧ (t.logLane l.val).degraded = false ∧
      (∃ y, (t.logLane l.val).loss = some y ∧ y.failed = e.failed ∧ y.lostNs = e.failNs ∧ y.firstTick = e.firstTick ∧
        y.host = (if (s.logLane l.val).plan = [] then none else (s.logLane l.val).planHost) ∧
        Records s t evLaneLost s.devRef [l.val, e.failed, y.host.getD 0xFF, (y.moves.filter fun m => m.1.full).length]) ∧
      ((s.logLane l.val).plan = [] → t.safety.reqs.length = s.safety.reqs.length + 1 ∧
        ∀ a ∈ s.laneAxes l.val, ∃ r ∈ t.safety.reqs, a ∈ r.axes ∧ r.begun = false ∧ r.t0 = s.tick.no + 1) ∧
      { t with lanes := s.lanes, recd := s.recd, safety := s.safety, health := s.health } = s := by
  obtain ⟨⟨sf, hl, h⟩, -, hplain⟩ := s.loseLane_cases l.val e
  obtain ⟨⟨ln, rc, hframe⟩, htake, hdeg, hloss, hrec⟩ := s.lossRecorded_spec l.val e
  refine ⟨_, s.exec_laneLost_lost htk hp, ?_, ?_, ⟨s.lossOf l.val e, ?_, rfl, rfl, rfl, LogLane.lossHost_eq _, ?_⟩, fun hnil => ?_, ?_⟩
  · rw [h]; exact htake
  · rw [h]; exact hdeg
  · rw [h]; exact hloss
  · rw [h]; exact hrec
  · rw [hplain hnil]
    exact s.stopLane_lossRecorded l.val e hnil
  · rw [h, hframe]

/-- The one prepared move of a lost lane is made, and no axis stops (R465, R466). -/
theorem State.completes_laneLost_moves (htk : (s.logLane l.val).takeover = some e) (hp : e.pair = none) {m : PlanMove} {k k' : Nat}
    (hplan : (s.logLane l.val).plan = [m]) (hhost : (s.logLane l.val).planHost = none) (hm : m.lane ≠ l.val)
    (hl : s.laneOf m.axis = some (l.val, k)) (hk : s.slotFor m = some k') : Completes (.laneLost l) s fun t =>
      tblGet none (t.logLane m.lane).slots k' = some m.axis ∧ tblGet none (t.logLane l.val).slots k = none ∧
        t.safety = s.safety := by
  obtain ⟨-, hmoved, -⟩ := s.loseLane_cases l.val e
  have h := hmoved (by rw [hplan]; exact List.cons_ne_nil _ _)
  obtain ⟨hto, hfrom⟩ := s.lossPlaced_single (e := e) hplan hhost hm hl hk
  refine ⟨_, s.exec_laneLost_lost htk hp, ?_, ?_, ?_⟩
  · rw [h, s.lossRecorded_slots]; exact hto
  · rw [h, s.lossRecorded_slots]; exact hfrom
  · obtain ⟨⟨ln, rc, hframe⟩, -⟩ := s.lossRecorded_spec l.val e
    rw [h, hframe]

end

/-- What the self-test of a pair that recovers leaves beside its result (R336). -/
theorem State.selfTested_back {p : Fin 17} {f : PairSt → PairSt} (hf : (f (s.pair p.val)).recovering = false) (code : Nat)
    (args : List Nat) :
    let t := s.selfTested p.val f code args
    t.host.irqStatus.getLsbD 14 = true ∧ (t.pair p.val).recovering = false ∧ (∀ k, k ≠ p.val → t.pair k = s.pair k) ∧
      { t with host := s.host, recd := s.recd, lanes := { t.lanes with pairs := s.lanes.pairs } } = s := by
  refine ⟨s.selfTested_irq .., ?_, fun k hk => (s.selfTested_pair ..).trans (if_neg hk), s.selfTested_frame ..⟩
  rw [s.selfTested_pair, if_pos rfl, hf]

/-- Settles O57: a takeover is `taken` with the axes that it has lost, a loss `lossRecorded` with the stop of an unplaced lane, and
a lane comes back by moves into the pair that has regained it. -/
theorem lanesAreTakenOverLostAndRehomed : Obligations.LanesAreTakenOverLostAndRehomed := by
  intro s l p ok x copied substituted device
  refine ⟨fun hnone => ?_, fun e q htk hp => ⟨?_, fun hwait => ?_, fun hdue htest => ?_⟩, fun e htk hp => ⟨?_, ?_, ?_⟩,
    fun hst => ?_, fun hst => ⟨fun hf => ?_, fun hf => ?_⟩, fun hidle => ?_, fun y q hl hq hb hi => ⟨?_, ?_, ?_⟩⟩
  · simp only [List.forall_mem_cons]
    exact ⟨completes_self (s.exec_laneTakeover_idle hnone), completes_self (s.exec_laneLost_idle hnone), fun _ h => nomatch h⟩
  · exact completes_self (s.exec_laneLost_reserve htk hp)
  · refine completes_self ((s.exec_laneTakeover_reserve htk hp).trans (congrArg _ (if_neg fun h => ?_)))
    exact hwait.elim (Nat.not_lt.mpr h.1) fun hne => hne h.2
  · exact State.completes_laneTakeover htk hp hdue htest
  · exact completes_self (s.exec_laneTakeover_lost htk hp)
  · exact State.completes_laneLost htk hp
  · intro m k k' hplan _ hhost hm hlane hslot
    exact State.completes_laneLost_moves htk hp hplan hhost hm hlane hslot
  · exact completes_self (s.exec_laneRecovered_idle hst ok)
  · have hpair := (s.selfTested_pair p.val (s.readied p.val) evLaneRecovered [p.val] p.val).trans (if_pos rfl)
    refine ⟨_, s.exec_laneRecovered_ready hst hf, State.selfTested_back rfl _ _, ?_, ?_, ?_, ?_, fun hk => ?_,
      s.records_selfTested _ _ _ _⟩
    all_goals rw [hpair]
    · rfl
    · rfl
    · exact s.readied_reserve p.val _
    · exact s.readied_regs hst
    · exact s.readied_memory hk p.val _
  · have hpair := (s.selfTested_pair p.val PairSt.retired evLaneRetired [p.val, (s.pair p.val).fails] p.val).trans (if_pos rfl)
    refine ⟨_, s.exec_laneRecovered_retired hst hf, State.selfTested_back rfl _ _, ?_, s.records_selfTested _ _ _ _⟩
    rw [hpair]
    rfl
  · exact completes_self (s.exec_laneRehomed_idle hidle)
  · have h := s.regained_rehome l.val q y
    refine ⟨_, s.exec_laneRehomed_back hl hq hb hi, h.state, h.lane, h.reserve, ?_⟩
    obtain ⟨ln, rc, hl', hframe⟩ := h.frame
    rw [hframe]
  · intro hmoves hnone hstill
    refine ⟨_, s.exec_laneRehomed_back hl hq hb hi, ?_⟩
    rw [s.rehome_empty hmoves hstill, State.endLoss_eq, s.regained_pairOf hq hnone]
    obtain ⟨⟨ln, hln⟩, -, hloss⟩ := (s.regained l.val q).lossEnded_spec l.val
    refine ⟨hloss, ?_⟩
    rw [hln]
    exact State.records_emit _ _ _ _
  · intro m k l2 k2 hmoves hlane
    refine ⟨_, s.exec_laneRehomed_back hl hq hb hi, ?_⟩
    rw [s.rehome_single hmoves hlane]
    have hlog := (s.regained l.val q).moveCopied_logLane m.axis l2 k2 l.val k l.val
    have hhealth := (s.regained l.val q).moveCopied_health m.axis l2 k2 l.val k
    generalize (s.regained l.val q).moveCopied m.axis l2 k2 l.val k = u at hlog hhealth
    have hlane' : (((u.setSlot l2 k2 none).setSlot l.val k (some m.axis)).logLane l.val) =
        { (u.setSlot l2 k2 none).logLane l.val with
          slots := tblSet ((u.setSlot l2 k2 none).logLane l.val).slots k (some m.axis) } :=
      (State.modLogLane_logLane ..).trans (if_pos rfl)
    refine ⟨congrArg (fun h : HealthSt => h.moving ++ [movingOf none 2 m.axis l2 k2 l.val k]) hhealth, ?_, ?_⟩
    · exact (congrArg (fun y : LogLane => tblGet none y.slots k) hlane').trans (tblGet_tblSet_same ..)
    · refine (congrArg LogLane.loss hlane').trans ((u.setSlot_loss l2 k2 none l.val).trans ?_)
      rw [hlog]
      exact hl

end Sys2Proof.Machine
